-- ==== Sys2Proof/Machine/Types.lean ====
section
/-!
DEFINITION. The types of what the mirror of a twin pair carries (R456): HUB's view of a channel and the budget, with the loop
snapshot of a channel and the pieces of the mirror. Commands of the Bluli link carry them, so they stand before the commands.
-/

namespace Sys2Proof.Machine

/-- A sparse map from keys to values in canonical form: keys strictly rising, no entry equal to the default. -/
abbrev Sparse := List (Nat × Nat)

/-- Channel states (R54). -/
inductive ChState where
  | empty | seating | queued | ramp | on | limit | capped | cooling
  | latched | fetFault | shed | refused | held | off | bench | unconfigured
  deriving DecidableEq, Repr

/-- Module roles (R450). -/
inductive Role where
  | starting | solo | active | standby | bench
  deriving DecidableEq, Repr

/-- What drives a gate (R54, R104, R159, R461, R579). -/
inductive Gate where
  /-- high-impedance driver (R459, R477) -/
  | hiZ
  /-- held at source by the controlled sink -/
  | sink
  /-- the fast sink of a trip (R159) -/
  | fastSink
  /-- the loop engine commands the gate (R104) -/
  | driven
  /-- driven to the full charge-pump voltage in a thermal freeze (R579) -/
  | full
  /-- held at its charge in gate keep (R461) -/
  | keep
  deriving DecidableEq, Repr

/-- The events of the channel state machine (R63). -/
inductive Ev where
  | imageOk | imageNone | seatAssert | seatDrop | seatQual | seatLoss | aqExpire | restartOk
  | grant
  | refuse (reason : Nat)
  | requeue | rampDone | targetBelow | targetAbove | limitWin | capWin | noWin
  | shedCmd (reason : Nat)
  | readmit
  | trip (reason : Nat)
  | fetShort | retryExpire | en0
  | en1 (toggle : Bool)
  | hold (reason : Nat)
  | release (reason : Nat)
  | benchIn | benchOut
  deriving DecidableEq, Repr

/-- The record of a latched or faulted channel kept through bench mode (R68). -/
structure BenchRec where
  state : ChState
  reason : Nat
  lastTrip : Nat
  stateAtTrip : Nat
  darn : Nat
  deriving DecidableEq, Repr

/-- HUB's view of one channel: the lifecycle of chapters 02, 05 and 06. Instants are elapsed nanoseconds. -/
structure Chan where
  /-- the state (R54) -/
  state : ChState
  /-- the reason of the transition table (R65); `dispReason` gives the code shown (R56) -/
  reason : Nat
  /-- PRIOR_STATE of HELD and its reason (R65, R69) -/
  prior : ChState
  priorReason : Nat
  /-- the events recorded while HELD with their timestamps (R69) -/
  heldEvs : List (Ev × Nat)
  /-- the reasons of the holds in force, newest first (R69) -/
  holds : List Nat
  /-- the image marks the channel used and applies to it (R63) -/
  used : Bool
  /-- raw and filtered seat (R58) -/
  seatRaw : Bool
  seated : Bool
  /-- end of a running debounce, with the DEBOUNCE_MS in force at its start (R59) -/
  debEnd : Option Nat
  /-- end of a running loss filter (R59) -/
  lossEnd : Option Nat
  /-- instant of the raw assertion of the present debounce (R60) -/
  assertT : Nat
  /-- start of the undecided absence (R60) -/
  absStart : Option Nat
  /-- end of the AQ timer of the undecided absence (R60) -/
  aqEnd : Option Nat
  /-- the Darn count (R66, R196) -/
  darn : Nat
  /-- end of the retry timer while it runs (R197) -/
  retryEnd : Option Nat
  /-- remaining retry time while it is stopped by the bus (R199) -/
  retryLeft : Option Nat
  /-- RETRY_EXPIRE has occurred and QUEUED waits for the seat and the restart conditions (R65) -/
  retryReady : Bool
  /-- the last trip was BUS_OVER or BUS_UNDER (R199) -/
  busTrip : Bool
  /-- end of the holdoff from the last trip (R71, R198) -/
  holdoffEnd : Nat
  /-- instant at which EN became 0 (R64) -/
  enZeroT : Nat
  /-- STATUS.PARTIAL (R75) -/
  partialRamp : Bool
  /-- timestamp of the GRANT in effect: the admission order (R216) -/
  admitT : Nat
  /-- the measured capacitance that the last GRANT took for FF_I in place of C_EST (R113) -/
  learnt : Option Nat
  /-- instant of queue entry (R220) and QAGE held in REFUSED (R244) -/
  queuedT : Nat
  qageHeld : Nat
  /-- SEAT_TIME (R89), a count, and the elapsed instant that it labels, by which the queue is ordered (R220, R378) -/
  seatTime : Nat
  seatE : Nat
  /-- elapsed instant of the last trip (R83, R378, R460) -/
  tripE : Nat
  /-- budget cap in force, its value, and whether it was set in the guaranteed tier (R217, R218) -/
  capOn : Bool
  capW : Nat
  capGuar : Bool
  /-- a SHED channel is eligible for READMIT (R235) -/
  eligible : Bool
  /-- a yield has been recorded in the present bus pause (R229) -/
  pauseYield : Bool
  /-- start of the bus excursion, and its side: true for over (R192) -/
  busOut : Option (Nat × Bool)
  /-- the present excursion has qualified (R192) -/
  busQual : Bool
  /-- mean power of the last sixteen trend intervals, 1 mW per unit, newest first (R214) -/
  pMeas : List Nat
  /-- record kept through bench mode (R68) -/
  benchRec : Option BenchRec
  /-- the fields that a Starch ceiling holds below the value last asked for (R56, R498) -/
  clamps : List Nat
  /-- it was LATCHED or in FET_FAULT when the run before the last module start ended, as the ledger store says (R202, R435) -/
  kept : Bool
  deriving DecidableEq, Repr

/-- The plan of stagger slots (R225): slot j stands at (t0 + j × s) / den ns of elapsed time. -/
structure Plan where
  den : Nat
  t0 : Nat
  s : Nat
  /-- next slot -/
  j : Nat
  /-- number of slots -/
  n : Nat
  deriving DecidableEq, Repr

/-- The hold-up sequencer (R230 to R234). -/
structure HoldUp where
  /-- a trigger is present now: ACFAIL_N low, feeder input failure, bus below BUS_WARN -/
  acfail : Bool
  feeder : Bool
  bus : Bool
  /-- elapsed instant of the trigger -/
  trigT : Nat
  /-- end of the previous stage (the trigger for stage 1) -/
  prevEnd : Nat
  /-- start of the running stage -/
  stageT : Nat
  /-- levels reached since the trigger, by stage (R232) -/
  reached : List Nat
  /-- channels whose gates the running stage waits for (R231) -/
  waitGates : List Nat
  /-- the return has qualified while a stage runs (R234) -/
  returned : Bool
  /-- end of RETURN_QUAL while it runs -/
  retEnd : Option Nat
  /-- the sequence has completed stage 4 and waits for the return -/
  done4 : Bool
  /-- the lowest bus has been below BUS_WARN since (R230) -/
  warnSince : Option Nat
  /-- the checkpoint of stage 3 has been verified (R231) -/
  verified : Bool
  /-- classes shed so far in the sequence (R231) -/
  shedClasses : List Nat
  deriving DecidableEq, Repr

/-- The budget and the stagger (R210 to R229). -/
structure Budget where
  plan : Option Plan
  /-- elapsed instant of the most recent GRANT that took effect (R225) -/
  tLast : Option Nat
  /-- instant at which a slot opened whose head still waits (R221) -/
  openSlot : Option Nat
  /-- cuts are in progress for the head (R221) -/
  cutsFor : Option Nat
  /-- the relaxation condition has held since (R219) -/
  relaxSince : Option Nat
  /-- admission is paused because the lowest bus is below BUS_MIN, since (R229) -/
  busLow : Option Nat
  /-- start of the present BUS_MIN_TIME count, while the lowest bus is below BUS_MIN (R229) -/
  busShedT : Option Nat
  hu : HoldUp
  /-- elapsed instant of the last budget cycle (R586) -/
  lastCycle : Nat
  /-- the values still in force of BUDGET and BALLOC fields written since the last cycle, plus 1, by key (R215) -/
  old : Sparse
  deriving DecidableEq, Repr

/-- A loop snapshot of a channel (R456): the elapsed instant of its loop cycle; REF with the ramp's rate and whether its fall has begun
(R110), the ages of the LIMIT and following-error timers in ns, the stall timer, the episode, the integrators, the pole states and the
winner. -/
structure Snap where
  t : Nat
  ref : Int
  rNum : Nat
  rDen : Nat
  rFall : Bool
  rampEnd : Bool
  partialRamp : Bool
  limNs : Option Nat
  feNs : Option Nat
  stallNs : Nat
  episode : Nat
  epiRun : Bool
  x : List Int
  poles : List Int
  win : Nat
  deriving DecidableEq, Repr

/-- A feeder beside its registers (R515 to R520). Voltages count 2^-4 pV, instants are elapsed. -/
structure Feeder where
  /-- the reference V_R at t0, and the target it moves to while the feeder is ONLINE (R518) -/
  v0 : Nat
  t0 : Nat
  tgt : Nat
  /-- TRIM_f in 2^-16 of 0.001 % (R520) -/
  trim : Int
  /-- VOUT_MODE and VOUT_COMMAND have been read; attempts at discovery without an acknowledge (R515) -/
  known : Bool
  tries : Nat
  /-- consecutive failed status reads, and consecutive ones that find no condition -/
  fails : Nat
  okRun : Nat
  /-- entry to COMM_LOST; COMM_HOLD has passed since -/
  commT : Nat
  expired : Bool
  /-- it has been ONLINE since its discovery (R515) -/
  wasOn : Bool
  /-- when the next status read and telemetry read fall due (R517); the last temperature reading (R520) -/
  statDue : Nat
  teleDue : Nat
  tempT : Option Nat
  deriving DecidableEq, Repr

/-- What an image gives (R488, R489): the 128 words of its channel map, the trip policy word of each fuse class, and the values
its records give by field key, plus 1, with the presets of every used channel in place. -/
structure ImgVals where
  map : List Nat
  pol : List Nat
  given : Sparse
  deriving DecidableEq, Repr

/-- A slot of the shelf flash that has passed the checks of R486: SEQ, whether it is committed, DIGEST, the 32-bit words of its
records. -/
structure ImgSlot where
  seq : Nat
  committed : Bool
  digest : List Nat
  words : List Nat
  deriving DecidableEq, Repr

/-- A Patch from its acceptance on (R503 to R507): what the new image gives; the keys that wait for a channel's safe point, by
leader; those that wait for B_P; B_P on elapsed time; the SEQ replaced. -/
structure Patch where
  img : ImgSlot
  vals : ImgVals
  chans : List (Nat × List Nat)
  meter : List Nat
  bP : Nat
  passed : Bool
  oldSeq : Nat
  /-- a reload at a HUB restart, not a Patch (R480) -/
  reload : Bool
  deriving DecidableEq, Repr

/-- A tach input's reading (R403): the elapsed instant of its last capture or start, and the CAPV before. -/
structure Tach where
  t : Nat
  prev : Option Nat
  deriving DecidableEq, Repr

/-- The cadence timers beside their registers (R391 to R403). -/
structure Timers where
  /-- ticks taken so far: tick j is the whole microsecond j of elapsed time -/
  tick : Nat
  /-- targets of reset and of start actions for the next tick (R393) -/
  resets : List Nat
  starts : List Nat
  /-- by timer: qualifying edges counted (R398); elapsed instants of the last load, start and stop (R392) -/
  edges : Sparse
  loadT : Sparse
  onT : Sparse
  offT : Sparse
  /-- runs of timers before their last start: (timer, start, stop) (R398) -/
  runs : List (Nat × Nat × Nat)
  /-- edges of selected sources whose Lint filter runs or whose capture is to come: (timer, elapsed instant) (R397, R398) -/
  lint : List (Nat × Nat)
  /-- compare values, plus 1, replaced in the cycle of the tick that comes next, by timer (R394) -/
  cmpOld : Sparse
  /-- the release that runs: (tick, timer), ascending in time; while it waits for its count, ticks from the release tick
  (R400) -/
  rel : List (Nat × Nat)
  relWait : Bool
  /-- end of the 10 s of RECOVERY (R395) -/
  recovEnd : Nat
  tach : Vector Tach 8
  deriving DecidableEq, Repr

/-- What a scheduled step does to the count (R384): a difference, or a set made at once. -/
inductive StepKind where
  | delta (d : Int)
  | now
  deriving DecidableEq, Repr

/-- The timebase discipline (R379 to R389). Instants are elapsed. -/
structure Disc where
  /-- the last accepted pulse; end of RATE's second (R382) -/
  lastPulse : Option Nat
  rateEnd : Option Nat
  /-- e of the previous pulse when it was in window, and the phase correction of the second that follows it (R382) -/
  prevE : Option (Int × Int)
  /-- consecutive accepted pulses beyond LOCK_THR, and within it since entry to ACQUIRING (R387) -/
  badRun : Nat
  lockRun : Nat
  /-- a step decided and not yet applied: instant, difference, cause (R384) -/
  step : Option (Nat × StepKind × Nat)
  /-- a pending ARM or ALIGN (R385) -/
  arm : Bool
  align : Bool
  /-- entry to HOLDOVER; CLOCK_FAIL was entered from FREE (R388, R389) -/
  holdT : Nat
  fromFree : Bool
  /-- the steering word saved in the ledger store (R379) -/
  saved : Nat
  /-- the rate of CLK_HUB against CLK_TB over the 10 s before the last failure of CLK_TB, 0.001 ppm per LSB (R389) -/
  hubRate : Int
  deriving DecidableEq, Repr

/-- A piece of the mirror (R456): HUB's view of a channel with its trip latch, on elapsed time; the budget; register fields by
key; a loop snapshot; an accumulator; a feeder's state (R529); a hard trip that a STANDBY die has taken, with its time (R460); the
image in force and the Patch that runs (R509); the timers beside their registers (R465); the end of the last trend stripe that
the ACTIVE module has reported written (R445); the sender's serial (R476); the timebase discipline (R456, R457); the last update of
the feeders' trims (R529); a staged image that the ACTIVE module sends to be checked (R509). -/
inductive MirrorItem where
  | chan (n : Nat) (c : Chan) (latch : Bool)
  | budget (bd : Budget)
  | fields (kvs : List (Nat × Nat))
  | snap (n : Nat) (s : Snap)
  | acc (n v : Nat)
  | trip (n t : Nat)
  | feeder (f : Nat) (x : Feeder)
  | image (s : ImgSlot) (v : ImgVals)
  | patch (p : Option Patch)
  | timers (t : Timers)
  | trend (till : Nat)
  | serial (ws : List Nat)
  | disc (d : Disc)
  | balance (t : Nat)
  | staged (bytes : List Nat)
  deriving DecidableEq, Repr

/-- A frame of the Bluli link as a module sends it (R454): KIND, SEQ and what its payload says. -/
structure BFrame where
  kind : Nat
  seq : Nat
  content : List Nat
  deriving DecidableEq, Repr

/-- A heartbeat (R455): leaving is the announcement of R469, digest the sender's Starch digest as two units, seq the SEQ of the last
frame that the sender has received. -/
structure Heartbeat where
  role : Role
  ready : Bool
  slot : Nat
  takeover : Bool
  leaving : Bool
  count : Nat
  digest : List Nat
  seq : Nat
  deriving DecidableEq, Repr

/-- Seam control frames from the partner (R462, R464). -/
inductive SeamMsg where
  /-- it asks this module to take over -/
  | request (cause : Nat)
  /-- it accepts this module's request: T_P and T_S in the count -/
  | accept (tp ts : Nat)
  /-- it refuses, with the code of TWIN.STAT.REFUSE -/
  | refuse (code : Nat)
  /-- the pair pointers of both ports: (port, pointer, valid) (R547) -/
  | pointers (ps : List (Nat × Nat × Bool))
  /-- the longest undriven gap of a gate at the Seam, 10 ns per LSB -/
  | gap (g : Nat)
  deriving DecidableEq, Repr

end Sys2Proof.Machine
end

