-- ==== Sys2Proof/Word.lean ====
section
/-!
DEFINITION. The word types of the module: a 32-bit register word (R4), the indices of channels and dies (R20), and the
plainest arithmetic on them.
-/

namespace Sys2Proof

/-- A 32-bit register word (R4). -/
abbrev Word := BitVec 32

/-- A byte. -/
abbrev Byte := BitVec 8

/-- A channel number, CH0 to CH127 (R20). -/
abbrev ChIx := Fin 128

/-- A front-end die, FE0 to FE7 (R20). -/
abbrev DieIx := Fin 8

end Sys2Proof
end

