-- ==== Sys2Proof/Syntax.lean ====
section
/-!
DEFINITION. The commands of the module: one constructor per row of spec/opcode_table.json. The table gives no row bits or
operands, so the operands are the model's own: the channel, die or device concerned, the value written, and what the
module measures or receives from outside at that step.
-/

namespace Sys2Proof

open Sys2Proof.Machine

/-- The triggers of a hold-up sequence (R230). -/
inductive HoldTrig where
  | acfail | feeder | bus
  deriving DecidableEq, Repr

/-- The values a calibration visit has measured (R272): trims in the units of R319, entries in 1/16 raw LSB. -/
structure Visit where
  ofs : Int
  gain : Int
  skew : Int
  g0 : Int
  g1 : Int
  g2 : Int
  g3 : Int
  deriving DecidableEq, Repr

/-- What a device shows when its link comes up (R419, R438, R443): Identify, its label's LEDGER_ID or 0 for none, its ledger pages,
trend write pointer and pool pointer, its serial, the stripes in its trend area with the T_START of each, whether its namespace is in a
4 096-byte format, and the PSEQ behind the newest page of its trend area and of its pool. -/
structure DevInfo where
  fmt4k : Bool
  namespaces : Nat
  lbas : Nat
  hmb : Bool
  ready : Bool
  gen : Nat
  width : Nat
  label : Nat
  pages : Nat
  trendWp : Nat
  poolLba : Nat
  serialLo : BitVec 128
  serialHi : BitVec 128
  stripes : List (Nat × Nat)
  inFormat : Bool
  trendPseq : Nat
  poolPseq : Nat
  deriving DecidableEq, Repr

/-- The ledger found on the devices at a start (R333, R443): identity, last block, its hash and accumulators, the PSEQ and units of the
last page; the shared records behind the last block (R429), the local records behind this module's last CHECKPOINT, its CKPT_NO and
the block after the last that it covers (R432). -/
structure LedgerFound where
  id : Nat
  blk : Nat
  time : Nat
  hash : List Nat
  acc : List Nat
  pseq : Nat
  page : List Nat
  shared : List (List Nat)
  locals : List (List Nat)
  ckptNo : Nat
  ckptNext : Nat
  deriving DecidableEq, Repr

/-- The clocks that HUB monitors (R45). -/
inductive ClockId where
  | fe (k : DieIx)
  | tb
  | pcie
  | basket
  deriving DecidableEq, Repr

/-- What SFDP discovery and 0x9F find (R482): the read modes offered, a defined quad-enable method, a density above 128 Mbit
and the identity. -/
structure FlashInfo where
  quad144 : Bool
  quad114 : Bool
  quadEnable : Bool
  over128 : Bool
  jedec : BitVec 24
  deriving DecidableEq, Repr

/-- The events that end doze (R52): a seat input changes, an OUT voltage exceeds its FET-short threshold, ACFAIL_N asserts, a
host address matches. -/
inductive WakeEv where
  | seat (n : ChIx)
  | out (n : ChIx)
  | acfail
  | host (p : Fin 2)
  deriving DecidableEq, Repr

/-- PEC of a transaction (R545). -/
inductive Pec where
  | absent | good | bad
  deriving DecidableEq, Repr

/-- How a transaction fits its command (R542): it does, its protocol is not listed, its length does not fit. -/
inductive Fit where
  | ok | badCmd | badLen
  deriving DecidableEq, Repr

/-- A host transaction: its port, the address that the host sends, its PEC and its fit. -/
structure Xfer where
  port : Fin 2
  addr : Fin 128
  pec : Pec
  fit : Fit
  deriving DecidableEq, Repr

/-- What the host clocks of a block read: words in whole, and whether it breaks off inside the next (R550). -/
structure Clocked where
  sent : Nat
  part : Bool
  deriving DecidableEq, Repr

/-- A synchronisation marker at a die: the cycles of CLK_FEk since the marker before (R25). -/
structure Marker where
  die : DieIx
  cycles : Nat
  deriving DecidableEq, Repr

/-- A round of readings (R339, R575): the eleven sensors, in 0.0625 °C from −55 °C, and what the reference cell's die temperature lies
above 70 °C, in m°C. -/
structure SensorRound where
  temps : List Nat
  cell : Int
  deriving DecidableEq, Repr

/-- How a transaction on FP ends (R524): done, with what was read; its address or a data byte is not acknowledged; its PEC is
wrong. -/
inductive FpEnd (α : Type) where
  | done (x : α)
  | nack
  | badPec
  deriving DecidableEq, Repr

/-- A transaction on FP that arbitration can disturb (R522, R523): a write of VOUT_COMMAND, a status read or another read of a
feeder, or the status read of a battery unit. -/
inductive FpKind where
  | write | status | read
  | bbu (u : Fin 2)
  deriving DecidableEq, Repr

/-- A telemetry read on FP (R517, R528): READ_VOUT, READ_IOUT, READ_TEMPERATURE_1 and READ_POUT of a feeder as raw words, or
the status of a battery unit, none for a read that failed. -/
inductive FpTele where
  | feeder (f : Fin 12) (r : FpEnd (Nat × Nat × Nat × Nat))
  | bbu (b : Fin 2) (status : Option Nat)
  deriving DecidableEq, Repr

/-- How the recovery of a hung FP bus goes (R525): SDA released, SDA still low after nine pulses, SCL held low. -/
inductive HangEnd where
  | recovered | sdaLow | sclLow
  deriving DecidableEq, Repr

/-- The paths of a calibration slot (R350). -/
inductive CalKind where
  | a | b | v | bus
  deriving DecidableEq, Repr

/-- What a slot measures (R350): relief and main agreed before it; gain and offset of the path. -/
structure SlotMeas where
  agree : Bool
  gain : Int
  ofs : Int
  deriving DecidableEq, Repr

/-- How a try of steps 2 to 5 of the storage goes (R346): its checks pass, that of step 3 or of step 5 fails, or it is interrupted,
before or after step 4. -/
inductive StoreTry where
  | good | badCrc | badCommit
  | cut (committed : Bool)
  deriving DecidableEq, Repr

/-- The rows of spec/opcode_table.json. -/
inductive Instr where
  /-- MODULE_START (R477): AUX good releases power-on reset, and the module starts the start-up phases with every gate driver high-impedance.
  ADDRSEL shows a resistance in ohms (R537, R596). -/
  | moduleStart (ohms : Nat)
  /-- SOLO_DECISION (R451): Once the module's seat is qualified and 100 ms have passed without a partner heartbeat, a STARTING module becomes SOLO. -/
  | soloDecision
  /-- FLASH_DISCOVERY (R482): A SOLO or ACTIVE module discovers the shelf flash by SFDP and selects its read mode. -/
  | flashDiscovery (f : Option FlashInfo)
  /-- IMAGE_READ_CHECK (R486): A flash slot is read and checked in order, and the first failure sets its rejection code. -/
  | imageReadCheck (slotB : Bool) (bytes : List Nat)
  /-- IMAGE_APPLY (R489): The image in force is applied in its fixed order, clamped, derived and forwarded to the dies. -/
  | imageApply
  /-- IMAGE_RETRY (R492): Every 10 s while every channel is UNCONFIGURED for a flash or slot cause, discovery and reading are repeated. -/
  | imageRetry
  /-- SOLO_ACCEPT (R479): A host write of SOLO_ACCEPT ends the admission hold of a SOLO module that has TWIN_REQUIRED. -/
  | soloAccept
  /-- EXPERT_UNLOCK (R499): A keyed write to MOD.EXPERT sets the unlock bits. -/
  | expertUnlock (value : Word)
  /-- EXPERT_UNLOCK_TIMEOUT (R499): The unlocks clear 600 s after the last keyed write. -/
  | expertUnlockTimeout
  /-- REGISTER_WRITE (R32): A host write to a register that has no row of its own is accepted and applied according to its access type, its unlock and the clamps. -/
  | registerWrite (addr : Nat) (value : Word)
  /-- MOD_SYNC_READ (R36): A read of MOD.SYNC stretches until every earlier write to a die is acknowledged, then reports the deferred dies. -/
  | modSyncRead
  /-- ICL_WRITE (R33): A write frame reaches an FE die, which applies it between loop cycles. -/
  | iclWrite (k : DieIx)
  /-- ICL_READ_REQUEST (R37): A read request frame reaches a die, which samples the value and replies. -/
  | iclReadRequest (k : DieIx) (port : Fin 2) (addr : Nat)
  /-- ICL_READ_REPLY (R37): A read reply frame reaches HUB and completes the host read of an FE-held location. -/
  | iclReadReply (k : DieIx)
  /-- ICL_WRITE_ACK (R33): A die's write acknowledge reaches HUB. -/
  | iclWriteAck (k : DieIx)
  /-- ICL_STATUS (R38): A status frame carrying a die event or a die state reaches HUB and is applied to the channel state machine. -/
  | iclStatus (k : DieIx)
  /-- ICL_TREND_INCREMENT (R43): A trend word and an energy increment reach HUB; HUB adds the increment to the accumulator, or discards it when its epoch is old. -/
  | iclTrendIncrement (n : ChIx)
  /-- ICL_CAPTURE_DATA (R297): Capture data frames reach HUB for the capture record. -/
  | iclCaptureData (k : DieIx) (raws : List Int)
  /-- ICL_SYNC_MARKER (R25): A synchronisation marker reaches a die, which corrects the phase and rate of its time replica. -/
  | iclSyncMarker (m : Marker)
  /-- ICL_TRACE_DATA (R125): A trace data frame reaches HUB for a trace-window read. -/
  | iclTraceData (k : DieIx)
  /-- ICL_RETRANSMIT (R29): A CRC error or SEQ gap causes a retransmission request; a second failure declares the link down. -/
  | iclRetransmit (k : DieIx) (again : Bool)
  /-- CLOCK_FAIL (R45): A monitored clock is declared failed, and the module acts for that clock. -/
  | clockFail (c : ClockId)
  /-- HUB_CLOCK_LOSS (R44): CLK_HUB stops or leaves its band, and HUB is held in reset. -/
  | hubClockLoss
  /-- HUB_RESTART (R44): A SOLO module restarts HUB when CLK_HUB returns and rebuilds its accumulators and retry state. -/
  | hubRestart (bytes : List Nat)
  /-- DOZE_REQUEST (R557): A host write of MOD.CTRL.DOZE is checked against the doze conditions and is refused or starts the entry. -/
  | dozeRequest
  /-- DOZE_ENTER (R557): The module completes its entry to doze within 10 ms of the request. -/
  | dozeEnter
  /-- DOZE_SCAN (R299): Every 10 ms in doze, each die scans the OUT and seat entries. -/
  | dozeScan (k : DieIx) (outs : List Int)
  /-- DOZE_WAKE (R52): A wake event brings the module fully active within 150 µs. -/
  | dozeWake (w : WakeEv)
  /-- SEAT_ASSERT (R58): The raw seat asserts, and the debounce starts. -/
  | seatAssert (n : ChIx)
  /-- SEAT_DROP (R65): The raw seat deasserts during a debounce, and the debounce is abandoned. -/
  | seatDrop (n : ChIx)
  /-- SEAT_QUAL (R58): The debounce completes and the seat is qualified. -/
  | seatQual (n : ChIx)
  /-- SEAT_LOSS (R58): The loss filter completes; the seat is lost and the AQ timer starts. -/
  | seatLoss (n : ChIx)
  /-- AQ_EXPIRE (R60): The absence is qualified, which clears Darn and latches under R65. -/
  | aqExpire (n : ChIx)
  /-- RESTART_OK (R71): A waiting seated channel meets its restart conditions and enters the queue. -/
  | restartOk (n : ChIx)
  /-- EN_0 (R64): CH[n].CTRL.EN goes from 1 to 0, and the channel goes to OFF. -/
  | en0 (n : ChIx)
  /-- EN_1 (R64): CH[n].CTRL.EN goes from 0 to 1, which may be a toggle that clears a latch. -/
  | en1 (n : ChIx)
  /-- REQUEUE (R65): A write of 1 to CH[n].CTRL.REQUEUE puts a seated REFUSED channel back in the queue. -/
  | requeue (n : ChIx)
  /-- RAMP_DONE (R74): Both ramp-completion conditions have held for 100 µs, and the channel enters ON. -/
  | rampDone (n : ChIx)
  /-- LIMIT_WIN (R103): A limiting loop has won 10 consecutive cycles, and the channel enters LIMIT. -/
  | limitWin (n : ChIx)
  /-- CAP_WIN (R103): The cap loop has won 10 consecutive cycles, and the channel enters CAPPED. -/
  | capWin (n : ChIx)
  /-- NO_WIN (R103): The ramp or enhance loop has won for the EXIT time, and the channel returns to ON. -/
  | noWin (n : ChIx)
  /-- ILIM_EXPIRE (R78): The LIMIT timer reaches ILIM_TMAX, and the channel trips with ILIM_TIMEOUT. -/
  | ilimExpire (n : ChIx)
  /-- READMIT (R235): An eligible SHED channel that meets its restart conditions re-enters the queue with its original SEAT_TIME. -/
  | readmit (n : ChIx)
  /-- RETRY_EXPIRE (R198): The retry timer of a COOLING channel expires, Darn is incremented, and the channel requeues once ready. -/
  | retryExpire (n : ChIx)
  /-- LOOP_CYCLE (R102): A corrected current sample starts a loop cycle: five demands are formed, the lowest is applied to the gate, and REF and the integrators are updated. -/
  | loopCycle (n : ChIx) (atPump : Bool) (atSource : Bool)
  /-- THERMAL_MODEL_STEP (R145): Every 6.4 µs the die steps the four-pole model and recomputes TJ_EST and PLIM. -/
  | thermalModelStep (n : ChIx)
  /-- HARDTRIP (R159): The analog comparator crossing sets the trip latch and fast-sinks the gate without any clock. -/
  | hardtrip (n : ChIx) (uv : Int)
  /-- FOLLOW (R116): The following-error timer exceeds FE_TIME in RAMP, and the die trips the channel. -/
  | follow (n : ChIx)
  /-- GATE_STALL (R163): The stall timer reaches GS_TIME, and the channel trips and latches. -/
  | gateStall (n : ChIx)
  /-- FET_SHORT (R164): The short condition holds for FS_TIME with the gate off, and the channel enters FET_FAULT. -/
  | fetShort (n : ChIx)
  /-- MODEL_MISMATCH (R150): The model-against-measurement difference has stayed outside MM_BAND for MM_TIME, which sets or clears MISMATCH. -/
  | modelMismatch (n : ChIx)
  /-- BUS_WINDOW_QUALIFY (R192): A channel's bus-window qualify timer reaches BUS_TIME, and HUB trips the channel with BUS_OVER or BUS_UNDER, or raises the event. -/
  | busWindowQualify (n : ChIx)
  /-- CURRENT_SAMPLE (R277): CVA takes a channel's current sample in its fixed rotation, and the sample passes through the correction chain. -/
  | currentSample (n : ChIx) (raw : Int)
  /-- CVB_ENTRY_SAMPLE (R280): CVB converts one enabled scan entry, which updates its inputs, the BUS ladder and the filter unit. -/
  | cvbEntrySample (k : DieIx) (j : Fin 64) (raw : Int)
  /-- FILTER_OUTPUT (R282): A filter unit produces a decimated output, and its window is evaluated. -/
  | filterOutput (k : DieIx) (u : Fin 80)
  /-- SLICE_VISIT_END (R273): A calibration visit ends; its values are checked and take effect at the swap, or the visit is repeated or the slice retired. -/
  | sliceVisitEnd (k : DieIx) (cvb : Bool) (v : Visit)
  /-- OPEN_WIRE_TEST (R301): An open-wire test phase pair completes, and the wire's open or intact state is updated after CONFIRM tests. -/
  | openWireTest (k : DieIx) (l : Fin 16) (ts : Bool)
  /-- TREND_INTERVAL_BOUNDARY (R43): At a trend interval boundary each die sends its trend words and energy increments. -/
  | trendIntervalBoundary (k : DieIx)
  /-- IRANGE_APPLY (R302): A new current range takes effect at a trend boundary, with the loop fields rescaled. -/
  | irangeApply (k : DieIx)
  /-- DIRECT_CONV_GO (R292): A write of CONVCTL.GO requests a direct conversion as an urgent request. -/
  | directConvGo (k : DieIx)
  /-- CONVST_EDGE (R292): A filtered CONVST edge requests a direct conversion, or a bench trigger in BENCH. -/
  | convstEdge (k : DieIx) (rising : Bool)
  /-- DIRECT_CONV_DONE (R293): A direct conversion completes and writes its result, time and SEQ in one cycle. -/
  | directConvDone (k : DieIx) (raws : List Int)
  /-- CONV_READ (R293): A read of FE[k].CONV returns the result and clears RDY and OVR. -/
  | convRead (k : DieIx)
  /-- CAPTURE_TRIGGER (R294): A capture trigger starts a narrow or wide fault capture as an urgent request, or is missed. -/
  | captureTrigger (k : DieIx) (src unit : Nat)
  /-- CAPTURE_FORCE (R294): A write of CAPCTL.FORCE takes a capture whatever the source. -/
  | captureForce (k : DieIx)
  /-- CAPTURE_ABORT (R316): A write of CAPCTL.ABORT ends a running capture at the next slot boundary. -/
  | captureAbort (k : DieIx)
  /-- CAPTURE_END (R297): A capture completes or is cut; CAPTIME and COUNT are written and CAP_DONE or CAP_CUT is raised. -/
  | captureEnd (k : DieIx)
  /-- TRACE_ARM (R123): A write of TRCTL.ARM applies the other fields and starts recording at entry 0. -/
  | traceArm (k : DieIx) (div pre : Nat)
  /-- TRACE_FORCE (R123): A write of TRCTL.FORCE triggers the trace, or is held until PRE entries exist. -/
  | traceForce (k : DieIx)
  /-- TRACE_DONE (R123): The post-trigger entries have been written, which clears ARMED and sets DONE. -/
  | traceDone (k : DieIx)
  /-- BUDGET_CYCLE (R215): Each millisecond the budget recomputes the reservations, removes any deficit by caps and sheds, and relaxes caps. -/
  | budgetCycle
  /-- STAGGER_SLOT (R226): A stagger slot opens and is offered to the head of the queue. -/
  | staggerSlot
  /-- QUEUE_LIMIT_EXPIRE (R223): A channel has been QUEUED longer than its class's QUEUE_LIMIT and is refused. -/
  | queueLimitExpire (n : ChIx)
  /-- GSTART_GO (R228): A write of BUDGET.GSTART.GO in ZQ-5016 mode grants the selected queued channels that fit. -/
  | gstartGo
  /-- BUS_MIN_SHED (R229): The lowest BUS entry has stayed below BUS_MIN for BUS_MIN_TIME, and one channel is shed. -/
  | busMinShed
  /-- BUS_MIN_CROSSING (R229): The lowest BUS entry crosses BUS_MIN or its return level, which pauses or resumes admission. -/
  | busMinCrossing
  /-- HOLDUP_TRIGGER (R230): A hold-up trigger starts a hold-up sequence, switches the BBUs and suspends balancing. -/
  | holdupTrigger (t : HoldTrig)
  /-- HOLDUP_STAGE_START (R232): A hold-up stage starts at its delay or its level. -/
  | holdupStageStart
  /-- HOLDUP_STAGE_END (R231): A hold-up stage ends when its gates reach source, after 2 ms, or at verification. -/
  | holdupStageEnd
  /-- HOLDUP_RETURN (R234): Input return qualifies after RETURN_QUAL, and the sequence ends or is aborted. -/
  | holdupReturn
  /-- ENERGY_CHECKPOINT (R331): At each second boundary HUB writes an energy checkpoint to the ledger store. -/
  | energyCheckpoint
  /-- CHECKPOINT_READBACK (R331): The checkpoint is read back within 10 ms; a failure rewrites it to the next slot. -/
  | checkpointReadback (ok : Bool)
  /-- REF_WATCH_CHECK (R340): Every 10 s the reference watch forms dev_k and the module excursion, and updates WATCH and BUF. -/
  | refWatchCheck
  /-- WARM_UP_COMPLETE (R339): The reference cell has stayed in band for 15 min, and WARM_DONE is set. -/
  | warmUpComplete
  /-- HEATER_FAULT (R339): The reference cell leaves its band or fails to reach it, and HEATER_FAULT is set. -/
  | heaterFault
  /-- CAL_START (R348): A write of CALCTL.START begins a calibration session or refuses it. -/
  | calStart (value : Word)
  /-- CAL_ABORT (R353): A write of CALCTL.ABORT ends a session with fail code ABORT. -/
  | calAbort
  /-- CAL_PHASE_END (R349): A calibration phase completes, and the next phase starts. -/
  | calPhaseEnd (meas : List (Nat × Nat))
  /-- CAL_STABILITY_CHECK (R349): Each second the input 0x44 is compared with its phase-1 value, and a change ends the session UNSTABLE. -/
  | calStabilityCheck
  /-- CAL_SLOT (R350): A mode-0 slot moves a channel onto relief samples and measures its path in calibration. -/
  | calSlot (n : Nat) (kind : CalKind) (m : SlotMeas)
  /-- CAL_STORE (R346): Phase 5 checks the coefficients and stores the new bank in its commit order. -/
  | calStore (t1 t2 : StoreTry)
  /-- CAL_EPOCH_APPLY (R354): At boundary B the new coefficients take effect and the calibration record is written. -/
  | calEpochApply
  /-- CAL_DUE_EXPIRE (R356): DUE_REM reaches 0, and CAL_DUE is raised. -/
  | calDueExpire
  /-- BENCH_ENTER (R361): A write of BENCHCTL.ENTER enters bench mode or refuses it. -/
  | benchEnter
  /-- BENCH_READY (R362): BENCHSTAT.READY is set within 2 ms of the entry. -/
  | benchReady
  /-- BENCH_EXIT (R364): A write of BENCHCTL.EXIT ends bench mode and reapplies the image. -/
  | benchExit
  /-- BENCH_TRIG (R368): A write of BENCHCTL.TRIG triggers a bench scan on every die. -/
  | benchTrig
  /-- BENCH_ZERO (R373): A write of BENCHCTL.ZERO runs a zero scan that stores BZERO for each enabled point. -/
  | benchZero
  /-- BENCH_SCAN_COMMIT (R372): A bench scan ends, and its results are committed together with BTIME and SEQ. -/
  | benchScanCommit (k : DieIx) (raws : List (List Int))
  /-- BENCH_REST_END (R370): The rest after a scan ends, and a held trigger may start the next scan. -/
  | benchRestEnd (k : DieIx)
  /-- PPS_PULSE (R381): An accepted PPS pulse yields the phase error, which is slewed in window or treated as an index slip. -/
  | ppsPulse
  /-- PPS_MISSING (R387): A pulse is missing 1.5 s after the last accepted pulse; the third missing pulse enters HOLDOVER. -/
  | ppsMissing
  /-- RATE_TIMEOUT (R382): RATE returns to 0 after 1 s with no accepted pulse. -/
  | rateTimeout
  /-- TIMEBASE_STEP (R384): At the step instant the count changes by Δ, the replicas step, and the open interval and block close. -/
  | timebaseStep
  /-- TB_ARM (R385): A write of TB.SETCTL.ARM sets the count at the next accepted pulse. -/
  | tbArm
  /-- TB_NOW (R385): A write of TB.SETCTL.NOW steps the count to SETSEC 100 µs after acceptance. -/
  | tbNow
  /-- TB_ALIGN (R385): A write of TB.SETCTL.ALIGN aligns the next accepted pulse. -/
  | tbAlign
  /-- TB_CANCEL (R385): A write of TB.SETCTL.CANCEL discards a pending ARM or ALIGN. -/
  | tbCancel
  /-- CLK_TB_RETURN (R389): CLK_TB has stayed in band for 1 s, and the count passes back to it with the state HOLDOVER or FREE. -/
  | clkTbReturn
  /-- TIMER_TICK (R392): Each microsecond tick advances every running cadence timer and applies the matches and the actions of the previous tick. -/
  | timerTick
  /-- TIMER_CAPTURE (R398): A qualifying edge of the selected source is captured into CAPV. -/
  | timerCapture (j : Fin 256) (rising : Bool) (ago : Nat)
  /-- TIMER_RELEASE_GO (R400): A write of TB.RELCTL.GO schedules the release of the selected timers. -/
  | timerReleaseGo (atTime : Bool)
  /-- TIMER_RELEASE_START (R400): A selected timer reaches its start instant, loads 0 and starts. -/
  | timerReleaseStart
  /-- FAN_PWM_RELOAD (R402): At the start of a fan period the live duty takes the shadow value. -/
  | fanPwmReload (k : Fin 8)
  /-- FAN_STALL (R403): No tach capture within STALL, so RPM is set to 0 and FAN_STALL is raised. -/
  | fanStall (k : Fin 8)
  /-- TREND_BLOCK (R424): HUB forms the trend block of an interval and places it in Basket. -/
  | trendBlock
  /-- LEDGER_BLOCK_CLOSE (R427): A ledger block closes at a whole second or a step instant, with its hashes, and enters the ledger stream. -/
  | ledgerBlockClose
  /-- SIGNED_CHECKPOINT (R432): A signed CHECKPOINT record is built and verified after the hourly block. -/
  | signedCheckpoint (ok : Bool)
  /-- TREND_STRIPE_WRITE (R426): A full or early trend stripe is written to the next ONLINE device. -/
  | trendStripeWrite
  /-- LEDGER_PAGE_WRITE (R431): A ledger page is written with FUA to every ONLINE device. -/
  | ledgerPageWrite
  /-- CAPDATA_WRITE (R436): A capture is written as one CAPDATA record to the pool of one device. -/
  | capdataWrite
  /-- NVME_COMMAND_COMPLETE (R418): An NVMe command completes, and its held content is released or the write is retried. -/
  | nvmeCommandComplete (d : Fin 2) (ok : Bool)
  /-- NVME_COMMAND_TIMEOUT (R418): A command is not complete after 1 s; it is aborted, the controller is reset, and the command is reissued. -/
  | nvmeCommandTimeout (d : Fin 2) (resetOk : Bool)
  /-- SMART_POLL (R418): The SMART/health log is read every 60 s. -/
  | smartPoll (d : Fin 2) (crit pct temp : Nat)
  /-- DEVICE_LINK_UP (R438): A device's link comes up; the device is identified, checked and classed by its label. -/
  | deviceLinkUp (d : Fin 2) (j : DevInfo)
  /-- DEVICE_LINK_LOSS (R437): A device loses its link without EJECT and is treated as removed. -/
  | deviceLinkLoss (d : Fin 2)
  /-- DEVICE_EJECT (R437): A write of DEVCTL.EJECT completes the device's outstanding writes and makes it SAFE_TO_REMOVE. -/
  | deviceEject (d : Fin 2)
  /-- DEVICE_PREPARE (R438): A write of DEVCTL.PREPARE labels a BLANK or FOREIGN device and starts a resilver. -/
  | devicePrepare (d : Fin 2)
  /-- DEVICE_CANCEL (R448): A write of DEVCTL.CANCEL ends a preparation not yet begun, or a resilver. -/
  | deviceCancel (d : Fin 2)
  /-- RESILVER_DONE (R439): The resilver has copied every missing ledger page, and the device becomes ONLINE. -/
  | resilverDone (d : Fin 2)
  /-- RECORDER_FLUSH (R426): A write of REC.CTRL.FLUSH writes all held content now. -/
  | recorderFlush
  /-- RECORDER_READ_GO (R446): A write of RDCTL.GO reads a page half of a device or the certificate into RDBUF. -/
  | recorderReadGo (src half : Nat)
  /-- RECORDER_READ_DONE (R446): The page read ends with DONE or ERR. -/
  | recorderReadDone (ok : Bool) (data : List Word)
  /-- BASKET_REINIT (R441): The Basket clock has stayed in band for 1 s; Basket is reinitialised and recording resumes. -/
  | basketReinit
  /-- RECORDER_START (R443): At start the recorder finds its position on the devices and writes the origin records. -/
  | recorderStart (found : Option LedgerFound)
  /-- BLULI_HEARTBEAT (R455): A partner heartbeat is received, which drives the role transitions and the timebase discipline. -/
  | bluliHeartbeat (h : Heartbeat)
  /-- HEARTBEAT_LOSS (R466): No valid heartbeat for 25 µs; the module takes over, becomes SOLO, or returns to STARTING. -/
  | heartbeatLoss
  /-- BLULI_STATE_CHANGE (R456): A state-change frame updates the mirror. -/
  | bluliStateChange (m : MirrorItem)
  /-- BLULI_LOOP_SNAPSHOT (R456): A loop snapshot frame updates a channel's mirrored loop state. -/
  | bluliLoopSnapshot (n : ChIx) (x : Snap)
  /-- BLULI_INCREMENT (R335): An increment frame updates the mirrored accumulators. -/
  | bluliIncrement (n : ChIx) (inc : Int)
  /-- BLULI_CONFIG_WRITE (R456): A configuration-write frame updates the mirrored configuration. -/
  | bluliConfigWrite (kvs : List (Nat × Nat))
  /-- BLULI_LEDGER_RECORD (R444): A ledger record frame is staged for the STANDBY module's devices. -/
  | bluliLedgerRecord (units : List Nat)
  /-- BLULI_SEAM_CONTROL (R462): A Seam control frame carries a Seam request, its acceptance or refusal, or T_P and T_S. -/
  | bluliSeamControl (m : SeamMsg)
  /-- BLULI_BULK_SYNC (R470): A bulk synchronisation frame transfers mirrored state to a joining module. -/
  | bluliBulkSync (ms : List MirrorItem) (pct : Nat)
  /-- BLULI_RETRANSMIT (R454): A retransmission request makes the sender repeat frames from the one requested. -/
  | bluliRetransmit (from_ : Option (Fin 65536))
  /-- LANE_DOWN (R454): A lane loses symbol lock for 1 µs and is declared down. -/
  | laneDown (j : Fin 2)
  /-- LOOP_SNAPSHOT (R456): Every 51.2 µs each die takes a loop snapshot for the mirror. -/
  | loopSnapshot (k : DieIx)
  /-- BULK_SYNC_COMPLETE (R470): The STANDBY module holds the complete mirror and the first snapshots, and sets READY. -/
  | bulkSyncComplete
  /-- HANDOVER (R467): A write of TWIN.CTRL.HANDOVER requests a planned Seam. -/
  | handover
  /-- STANDDOWN (R467): A write of TWIN.CTRL.STANDDOWN hands over, or makes the drivers high-impedance and enters STANDBY. -/
  | standdown
  /-- SEAM_REQUEST (R462): A planned Seam is requested and is accepted or refused by the incoming module. -/
  | seamRequest (cause : Nat)
  /-- SEAM_T_P (R462): At T_P both modules freeze orchestration and the final snapshots are taken. -/
  | seamTP
  /-- SEAM_T_S (R462): At T_S the incoming module becomes ACTIVE and the gates, the pair address and the increments pass to it. -/
  | seamTS
  /-- SEAM_CONFIRM (R462): The outgoing dies confirm high-impedance, and the outgoing module becomes STANDBY. -/
  | seamConfirm
  /-- SPLIT_RESOLVE (R468): The link returns with both modules SOLO, and one of them yields and becomes STANDBY. -/
  | splitResolve
  /-- MOD_SEAT_QUAL (R469): Both module seat contacts have been made for 20 ms, and the seat is qualified. -/
  | modSeatQual
  /-- MOD_SEAT_LOSS (R469): A module seat contact has been open for 50 µs, and the module acts by its role. -/
  | modSeatLoss
  /-- PAIR_ADDR_ARM (R474): After a takeover, an unacknowledged pair-address transaction lets the module acknowledge the pair address from then on. -/
  | pairAddrArm
  /-- DIE_RESET (R471): An FE die resets; the die epoch advances, outstanding requests are voided, and its channels are HELD in gate keep. -/
  | dieReset (k : DieIx)
  /-- DIE_REJOIN (R471): The die reloads and accepts the new epoch, and its channels are released. -/
  | dieRejoin (k : DieIx)
  /-- DIE_REJOIN_TIMEOUT (R472): A die has not rejoined 5 ms after its reset; the module requests a Seam or resets the die again every 50 ms. -/
  | dieRejoinTimeout (k : DieIx)
  /-- MARKER_LOSS (R461): With PAIRED set, a die that sees no marker for 20 µs stops its loops and enters gate keep. -/
  | markerLoss (k : DieIx)
  /-- GATE_KEEP_END (R461): Gate keep ends by time or keep-release, and the drivers go high-impedance. -/
  | gateKeepEnd (k : DieIx)
  /-- IMG_ERASE_B (R501): The ERASE_B command erases slot B of the shelf flash. -/
  | imgEraseB (ok : Bool)
  /-- IMG_PROGRAM (R501): The PROGRAM command programs IMGBUF into a page of slot B and reads it back. -/
  | imgProgram (ok : Bool)
  /-- IMG_READ (R501): The READ command reads a page of a slot into IMGBUF. -/
  | imgRead (ok : Bool) (bytes : List Nat)
  /-- PATCH (R502): The PATCH command reads and checks slot B and the Patch conditions, and refuses or proceeds. -/
  | patch (bytes : List Nat)
  /-- PATCH_ACCEPT (R503): COMMIT of slot B is programmed and read back; the changes are sorted and the tightenings applied. -/
  | patchAccept (partner ok : Bool)
  /-- PATCH_SAFE_POINT (R505): A pending channel reaches a safe point, and its channel-class changes are applied. -/
  | patchSafePoint (n : ChIx)
  /-- PATCH_METERING_APPLY (R506): At B_P the metering fields of every channel take effect and an IMAGE record is written. -/
  | patchMeteringApply
  /-- PATCH_SLOT_COPY (R507): The copy of slot B to slot A completes or fails its read-back. -/
  | patchSlotCopy (ok : Bool)
  /-- STARCH_BURN (R495): The BURN command blows the map in force into both fuse copies and verifies them. -/
  | starchBurn (ok : Bool)
  /-- STARCH_SEAL (R495): The SEAL command burns the CRC word and the SEAL bit. -/
  | starchSeal (ok : Bool)
  /-- STARCH_RELOAD (R495): The RELOAD command loads the map in force from the fuses. -/
  | starchReload
  /-- FEEDER_DISCOVERY (R515): A feeder's VOUT_MODE, VOUT_COMMAND and STATUS_WORD are read at discovery. -/
  | feederDiscovery (f : Fin 12) (r : FpEnd (Nat × Nat × Nat × Nat))
  /-- FP_STATUS_READ (R515): A STATUS_WORD read, with STATUS_INPUT where needed, updates a feeder's state. -/
  | fpStatusRead (f : Fin 12) (r : FpEnd (Nat × Nat))
  /-- FP_TELEMETRY_READ (R517): A telemetry read of an ONLINE feeder, or a BBU status read, completes. -/
  | fpTelemetryRead (t : FpTele)
  /-- FP_STEP_WRITE (R518): At a step instant a VOUT_COMMAND write sends a feeder's slew reference. -/
  | fpStepWrite (f : Fin 12) (r : FpEnd Unit)
  /-- FP_ARB_LOST (R522): Arbitration is lost during an address or data bit, and the transaction is repeated. -/
  | fpArbLost (f : Fin 12) (k : FpKind)
  /-- ARB_COND (R523): Arbitration is lost at a STOP or a repeated START, and the outcome is verified or the transaction repeated. -/
  | arbCond (f : Fin 12) (k : FpKind) (back : FpEnd Nat) (again : FpEnd Unit)
  /-- FP_HANG_RECOVERY (R525): A hung FP bus is found, and the module runs the clock-pulse recovery. -/
  | fpHangRecovery (r : HangEnd)
  /-- FEEDER_COMM_HOLD_EXPIRE (R515): COMM_HOLD expires for a COMM_LOST feeder, and it stops counting in FEEDER_CAP. -/
  | feederCommHoldExpire (f : Fin 12)
  /-- BALANCE_UPDATE (R520): Every BAL_PERIOD the feeder trims are updated from their temperatures. -/
  | balanceUpdate
  /-- BBU_PIN_MISMATCH (R526): A sensed BBU code differs from the driven code for 10 µs. -/
  | bbuPinMismatch (b : Fin 2) (code : Fin 4)
  /-- CAPABILITY (R541): The CAPABILITY command returns the capability byte. -/
  | capability (x : Xfer)
  /-- QUERY (R544): The QUERY process call returns the support byte for a command code. -/
  | query (x : Xfer) (code : Nat)
  /-- STATUS_BYTE (R543): The STATUS_BYTE command returns the low byte of the formed status. -/
  | statusByte (x : Xfer)
  /-- STATUS_WORD (R543): The STATUS_WORD command returns the status word formed at the read. -/
  | statusWord (x : Xfer)
  /-- PMBUS_REVISION (R541): The PMBUS_REVISION command returns 0x33. -/
  | pmbusRevision (x : Xfer)
  /-- MFR_ID (R541): The MFR_ID command returns the manufacturer name. -/
  | mfrId (x : Xfer)
  /-- MFR_MODEL (R541): The MFR_MODEL command returns the model name. -/
  | mfrModel (x : Xfer)
  /-- MFR_REVISION (R541): The MFR_REVISION command returns the module revision. -/
  | mfrRevision (x : Xfer)
  /-- MFR_SERIAL (R541): The MFR_SERIAL command returns MODULE_SERIAL. -/
  | mfrSerial (x : Xfer)
  /-- WIN_ADDR_WRITE (R547): A WIN_ADDR write loads and validates the window pointer of its address kind. -/
  | winAddrWrite (x : Xfer) (value : Word)
  /-- WIN_ADDR_READ (R547): A WIN_ADDR read returns the window pointer. -/
  | winAddrRead (x : Xfer)
  /-- WIN_DATA_WRITE (R548): A WIN_DATA write writes the word at the pointer. -/
  | winDataWrite (x : Xfer) (value : Word)
  /-- WIN_DATA_READ (R548): A WIN_DATA read returns the word at the pointer, sampled at its turn. -/
  | winDataRead (x : Xfer) (whole : Bool)
  /-- WIN_AUTOINC_WRITE (R548): A WIN_AUTOINC block write writes consecutive words, accepted together. -/
  | winAutoincWrite (x : Xfer) (values : List Word)
  /-- WIN_AUTOINC_READ (R548): A WIN_AUTOINC block read returns RDWORDS words, sampled wordNs apart, and moves the
  pointer. -/
  | winAutoincRead (x : Xfer) (n : Clocked) (wordNs : Nat)
  /-- HOST_PORT_TIMEOUT (R534): SCL held low for 30 ms resets the port's interface. -/
  | hostPortTimeout (p : Fin 2)
  /-- ATTENTION_PULL (R555): While attention is pending and the bus is idle, the module makes an attention pull. -/
  | attentionPull (p : Fin 2) (collided : Bool)
  /-- ALERT_RESPONSE (R556): A Read Byte to the Alert Response Address is answered with the base address, under arbitration. -/
  | alertResponse (p : Fin 2) (won : Bool)
  /-- TEMP_READING (R576): HUB takes a sensor reading and updates the temperature level. -/
  | tempReading (r : SensorRound)
  /-- BRACE_ENTER (R583): AUX12 falls below its warning level, and the module enters brace and writes a checkpoint. -/
  | braceEnter
  /-- BRACE_END (R583): AUX12 has stayed above 10.7 V for 10 ms, and brace ends. -/
  | braceEnd
  /-- AUX12_RESET (R584): AUX12 falls below its reset level; HUB finishes its ledger write and resets, and the dies enter gate keep. -/
  | aux12Reset
  /-- HUB_WATCHDOG (R586): No budget cycle completes within 10 ms, and HUB restarts. -/
  | hubWatchdog
  /-- DIE_WATCHDOG (R586): A die completes no rotation within its watchdog time, and the die resets. -/
  | dieWatchdog (k : DieIx)
  /-- OPERATING_HOUR (R587): Each whole operating hour, OPHOURS is advanced and saved. -/
  | operatingHour
  /-- LANE_UP (R454): A Bluli receive lane regains symbol lock, and its LANE_UP bit is set again so that traffic may use it. -/
  | laneUp (j : Fin 2)
  /-- ACFAIL_N_CLEAR (R234): ACFAIL_N is released, and once every trigger is clear RETURN_QUAL starts and HUSTAT.RETURNING is set. -/
  | acfailNClear
  /-- AUX12_WARN_RISE (R583): AUX12 rises above 10.7 V during brace, and the 10 ms count that ends brace starts. -/
  | aux12WarnRise
  /-- SEAT_DEASSERT (R58): The raw input of a qualified seat deasserts and the loss filter starts, using the LOSS_US in force. -/
  | seatDeassert (n : ChIx)
  /-- MOD_SEAT_CONTACT (R469): MOD_SEAT_A or MOD_SEAT_B makes or opens, and the 20 ms qualify or 50 µs loss filter of the module seat starts or restarts. -/
  | modSeatContact (j : Fin 2) (made : Bool)
  /-- AUX12_MEASUREMENT (R582): Every 1 ms HUB measures AUX12 into HEALTH.AUX.V and updates MIN. -/
  | aux12Measurement (v : Nat)
  deriving DecidableEq, Repr

end Sys2Proof
end

