-- ==== Sys2Proof/Decode.lean ====
section
/-!
DEFINITION. The decoder over the rows of spec/opcode_table.json that give bits. No row of the table gives bits: a command
reaches the module through a port, a pin or its own engines, never as a word of an instruction stream.
-/

namespace Sys2Proof

/-- The command that a word of the table's bits spells: the table gives no row bits, so no word spells one. -/
def decodeTableWord (_nbits _w : Nat) : Option Instr := none

end Sys2Proof
end

