-- ==== Sys2Proof/Machine/Fields.lean ====
section
/-!
DEFINITION. The register fields of the module, one name each, generated from the register tables of spec/
(R4 to R11; each table is named in the field's docstring), with the address, the replication, the bits, the access
type, the reset value and the range of every field. A field marked img, fuse, cal, factory or "Under Rn" has reset 0
here (R10: an img field holds 0 from reset; the others are loaded by the rule named).
-/
namespace Sys2Proof.Machine

/-- The access types of R6. -/
inductive Access where
  | ro | rw | w1c | w1s | wo | rc | rws
  deriving DecidableEq, Repr

/-- The named register fields. -/
inductive Fld where
  /-- MOD.SYNC.DEFERRED (R46). -/
  | modSyncDeferred
  /-- MOD.ICL.RETRY_SEEN (R47). -/
  | modIclRetrySeen
  /-- MOD.ICL.LINK_UP (R47). -/
  | modIclLinkUp
  /-- MOD.CLKMON.HUB_RESTART (R48). -/
  | modClkmonHubRestart
  /-- MOD.CLKMON.BASKET_FAIL (R48). -/
  | modClkmonBasketFail
  /-- MOD.CLKMON.PCIE_FAIL (R48). -/
  | modClkmonPcieFail
  /-- MOD.CLKMON.TB_FAIL (R48). -/
  | modClkmonTbFail
  /-- MOD.CLKMON.FE_FAIL (R48). -/
  | modClkmonFeFail
  /-- MOD.FECLK.DEV (R49). -/
  | modFeclkDev
  /-- CH.CTRL.REQUEUE (R81). -/
  | chCtrlRequeue
  /-- CH.CTRL.EN (R81). -/
  | chCtrlEn
  /-- CH.STATUS.CLAMPED (R82). -/
  | chStatusClamped
  /-- CH.STATUS.PARTIAL (R82). -/
  | chStatusPartial
  /-- CH.STATUS.ABSENT_PENDING (R82). -/
  | chStatusAbsentPending
  /-- CH.STATUS.SEAT_RAW (R82). -/
  | chStatusSeatRaw
  /-- CH.STATUS.SEATED (R82). -/
  | chStatusSeated
  /-- CH.STATUS.GANG_MEMBER (R82). -/
  | chStatusGangMember
  /-- CH.STATUS.PRIOR_STATE (R82). -/
  | chStatusPriorState
  /-- CH.STATUS.REASON (R82). -/
  | chStatusReason
  /-- CH.STATUS.STATE (R82). -/
  | chStatusState
  /-- CH.LAST_TRIP.DARN_MAX_EFF (R83). -/
  | chLastTripDarnMaxEff
  /-- CH.LAST_TRIP.DARN_COUNT (R83). -/
  | chLastTripDarnCount
  /-- CH.LAST_TRIP.STATE_AT_TRIP (R83). -/
  | chLastTripStateAtTrip
  /-- CH.LAST_TRIP.TRIP_REASON (R83). -/
  | chLastTripTripReason
  /-- CH.SEATCFG.LOSS_US (R84). -/
  | chSeatcfgLossUs
  /-- CH.SEATCFG.AQ_MS (R84). -/
  | chSeatcfgAqMs
  /-- CH.SEATCFG.DEBOUNCE_MS (R84). -/
  | chSeatcfgDebounceMs
  /-- CH.RAMP.GATE_ON (R85). -/
  | chRampGateOn
  /-- CH.RAMP.DONE_VDS (R85). -/
  | chRampDoneVds
  /-- CH.RAMP.TARGET (R85). -/
  | chRampTarget
  /-- CH.LIMITCFG.EXIT (R86). -/
  | chLimitcfgExit
  /-- CH.LIMITCFG.ILIM_TMAX (R86). -/
  | chLimitcfgIlimTmax
  /-- CH.TIMERS.AQ_REM (R87). -/
  | chTimersAqRem
  /-- CH.TIMERS.RETRY_REM (R87). -/
  | chTimersRetryRem
  /-- CH.WAIT.HOLDOFF_REM (R88). -/
  | chWaitHoldoffRem
  /-- CH.WAIT.COOL_WAIT (R88). -/
  | chWaitCoolWait
  /-- CH.WAIT.QPOS (R88). -/
  | chWaitQpos
  /-- CH.SEAT_TIME.TIME (R89). -/
  | chSeatTimeTime
  /-- CH.CLASS.GANG_SIZE (R90). -/
  | chClassGangSize
  /-- CH.CLASS.GANG_LEAD (R90). -/
  | chClassGangLead
  /-- CH.CLASS.FCLASS (R90). -/
  | chClassFclass
  /-- CH.CLASS.PCLASS (R90). -/
  | chClassPclass
  /-- CH.LOOPCFG.ISRC (R127). -/
  | chLoopcfgIsrc
  /-- CH.LOOPCFG.BFF (R127). -/
  | chLoopcfgBff
  /-- CH.LOOPCFG.LAW (R127). -/
  | chLoopcfgLaw
  /-- CH.LOOPCFG.CLEARN (R127). -/
  | chLoopcfgClearn
  /-- CH.LOOPCFG.IDX_SHIFT (R127). -/
  | chLoopcfgIdxShift
  /-- CH.LOOPCFG.HEM (R127). -/
  | chLoopcfgHem
  /-- CH.ILIM.ILIM (R128). -/
  | chIlimIlim
  /-- CH.RAMPCTL.RATE (R129). -/
  | chRampctlRate
  /-- CH.RAMPCTL.ROUND (R129). -/
  | chRampctlRound
  /-- CH.FFCFG.C_EST (R130). -/
  | chFfcfgCEst
  /-- CH.FFCFG.KV (R130). -/
  | chFfcfgKv
  /-- CH.FFSTAT.C_MEAS (R131). -/
  | chFfstatCMeas
  /-- CH.FFSTAT.FF_I (R131). -/
  | chFfstatFfI
  /-- CH.TJLOOP.TJ_LIM (R132). -/
  | chTjloopTjLim
  /-- CH.TJLOOP.KTJ (R132). -/
  | chTjloopKtj
  /-- CH.FOLLOW.FE_BAND (R133). -/
  | chFollowFeBand
  /-- CH.FOLLOW.FE_TIME (R133). -/
  | chFollowFeTime
  /-- CH.CAP.P_CAP (R134). -/
  | chCapPCap
  /-- CH.LOOPSTAT.DSEL (R135). -/
  | chLoopstatDsel
  /-- CH.LOOPSTAT.WIN (R135). -/
  | chLoopstatWin
  /-- CH.LOOPSTAT.FROZEN (R135). -/
  | chLoopstatFrozen
  /-- CH.LOOPSTAT.SAT (R135). -/
  | chLoopstatSat
  /-- TABLES.GAIN.KP (R136). -/
  | tablesGainKp
  /-- TABLES.GAIN.KI (R136). -/
  | tablesGainKi
  /-- FE.LOOPSTAT.DLY_MAX (R137). -/
  | feLoopstatDlyMax
  /-- FE.TRCTL.DONE (R138). -/
  | feTrctlDone
  /-- FE.TRCTL.ARMED (R138). -/
  | feTrctlArmed
  /-- FE.TRCTL.TRIGGERED (R138). -/
  | feTrctlTriggered
  /-- FE.TRCTL.FORCE (R138). -/
  | feTrctlForce
  /-- FE.TRCTL.ARM (R138). -/
  | feTrctlArm
  /-- FE.TRCTL.DIV (R138). -/
  | feTrctlDiv
  /-- FE.TRCTL.PRE (R138). -/
  | feTrctlPre
  /-- FE.TRTRIG.TSRC (R139). -/
  | feTrtrigTsrc
  /-- FE.TRTRIG.TCHAN (R139). -/
  | feTrtrigTchan
  /-- FE.TRTRIG.TWIN (R139). -/
  | feTrtrigTwin
  /-- FE.TRTRIG.TEDGE (R139). -/
  | feTrtrigTedge
  /-- FE.TRTRIG.XOUT (R139). -/
  | feTrtrigXout
  /-- FE.TRTRIG.TLEVEL (R139). -/
  | feTrtrigTlevel
  /-- FE.TRSEL.NODE (R140). -/
  | feTrselNode
  /-- FE.TRSEL.LCH (R140). -/
  | feTrselLch
  /-- FE.TRSTAT.TRIG_IDX (R141). -/
  | feTrstatTrigIdx
  /-- FE.TRTIME.TIME (R142). -/
  | feTrtimeTime
  /-- CH.HTRIP.HT_FINE (R171). -/
  | chHtripHtFine
  /-- CH.HTRIP.HT_CODE (R171). -/
  | chHtripHtCode
  /-- CH.SOACFG.HORIZON (R172). -/
  | chSoacfgHorizon
  /-- CH.SOACFG.TJ_SOA (R172). -/
  | chSoacfgTjSoa
  /-- CH.TJTRIP.TJ_TRIP (R173). -/
  | chTjtripTjTrip
  /-- CH.TJTRIP.TS_TRIP (R173). -/
  | chTjtripTsTrip
  /-- CH.AMBCFG.AMB_SRC (R174). -/
  | chAmbcfgAmbSrc
  /-- CH.AMBCFG.TS_FITTED (R174). -/
  | chAmbcfgTsFitted
  /-- CH.AMBCFG.SENSE_MASK (R174). -/
  | chAmbcfgSenseMask
  /-- CH.AMBCFG.RESTART_RISE (R174). -/
  | chAmbcfgRestartRise
  /-- CH.AMBCFG.AMB_FIXED (R174). -/
  | chAmbcfgAmbFixed
  /-- CH.MISMATCH.MM_TIME (R175). -/
  | chMismatchMmTime
  /-- CH.MISMATCH.MM_BAND (R175). -/
  | chMismatchMmBand
  /-- CH.GSTALL.GS_EXPECT (R176). -/
  | chGstallGsExpect
  /-- CH.GSTALL.GS_TIME (R176). -/
  | chGstallGsTime
  /-- CH.FSHORT.FS_SETTLE (R177). -/
  | chFshortFsSettle
  /-- CH.FSHORT.FS_VOUT (R177). -/
  | chFshortFsVout
  /-- CH.FSHORT.FS_RISE (R177). -/
  | chFshortFsRise
  /-- CH.FSHORT.FS_TIME (R177). -/
  | chFshortFsTime
  /-- CH.FSIMIN.FS_IMIN (R178). -/
  | chFsiminFsImin
  /-- CH.ESOA.E_SOA (R179). -/
  | chEsoaESoa
  /-- CH.SAFESTAT.PLIM (R180). -/
  | chSafestatPlim
  /-- CH.SAFESTAT.PLIM_SRC (R180). -/
  | chSafestatPlimSrc
  /-- CH.SAFESTAT.TRIP_LATCH (R180). -/
  | chSafestatTripLatch
  /-- CH.SAFESTAT.HT_CMP (R180). -/
  | chSafestatHtCmp
  /-- CH.SAFESTAT.MISMATCH (R180). -/
  | chSafestatMismatch
  /-- CH.SAFESTAT.SHORT_NOW (R180). -/
  | chSafestatShortNow
  /-- CH.SAFESTAT.STALL_RUN (R180). -/
  | chSafestatStallRun
  /-- CH.SAFESTAT.EPI_RUN (R180). -/
  | chSafestatEpiRun
  /-- CH.SAFESTAT.TS_OPEN (R180). -/
  | chSafestatTsOpen
  /-- CH.THERM.TJ_EST (R181). -/
  | chThermTjEst
  /-- CH.THERM.TS_MEAS (R181). -/
  | chThermTsMeas
  /-- CH.EPISODE.E_EPI (R182). -/
  | chEpisodeEEpi
  /-- CH.TSEST.TS_EST (R183). -/
  | chTsestTsEst
  /-- POLE.RTH.RTH (R185). -/
  | poleRthRth
  /-- POLE.TAU.TAU (R185). -/
  | poleTauTau
  /-- KCOEF.EXP (R186). -/
  | kcoefExp
  /-- KCOEF.MANT (R186). -/
  | kcoefMant
  /-- HCOEF.EXP (R186). -/
  | hcoefExp
  /-- HCOEF.MANT (R186). -/
  | hcoefMant
  /-- GCOEF.VALUE (R187). -/
  | gcoefValue
  /-- ZLA.VALUE (R187). -/
  | zlaValue
  /-- SOA.VDS_BP (R188). -/
  | soaVdsBp
  /-- SOA.P_MAX (R188). -/
  | soaPMax
  /-- CH.TRIPPOL.BUS_UNDER (R205). -/
  | chTrippolBusUnder
  /-- CH.TRIPPOL.BUS_OVER (R205). -/
  | chTrippolBusOver
  /-- CH.TRIPPOL.OPEN_WIRE (R205). -/
  | chTrippolOpenWire
  /-- CH.TRIPPOL.GATE_STALL (R205). -/
  | chTrippolGateStall
  /-- CH.TRIPPOL.FOLLOW (R205). -/
  | chTrippolFollow
  /-- CH.TRIPPOL.TJ_MEASURED (R205). -/
  | chTrippolTjMeasured
  /-- CH.TRIPPOL.TJ_MODEL (R205). -/
  | chTrippolTjModel
  /-- CH.TRIPPOL.SOA_ENERGY (R205). -/
  | chTrippolSoaEnergy
  /-- CH.TRIPPOL.ILIM_TIMEOUT (R205). -/
  | chTrippolIlimTimeout
  /-- CH.TRIPPOL.HARDTRIP (R205). -/
  | chTrippolHardtrip
  /-- CH.RETRY.BACKOFF (R206). -/
  | chRetryBackoff
  /-- CH.RETRY.DARN_MAX (R206). -/
  | chRetryDarnMax
  /-- CH.RETRY.RETRY_INTERVAL (R206). -/
  | chRetryRetryInterval
  /-- CH.BUSWIN.BUS_TIME (R207). -/
  | chBuswinBusTime
  /-- CH.BUSWIN.BUS_OV (R207). -/
  | chBuswinBusOv
  /-- CH.BUSWIN.BUS_UV (R207). -/
  | chBuswinBusUv
  /-- CH.TRIPCNT.LATCHES (R208). -/
  | chTripcntLatches
  /-- CH.TRIPCNT.TRIPS (R208). -/
  | chTripcntTrips
  /-- CH.TRIPTIME.TIME (R209). -/
  | chTriptimeTime
  /-- CH.BALLOC.CAP_FLOOR (R239). -/
  | chBallocCapFloor
  /-- CH.BALLOC.ALLOC (R239). -/
  | chBallocAlloc
  /-- CH.BRES.RES (R240). -/
  | chBresRes
  /-- CH.BCAP.CAP_ON (R241). -/
  | chBcapCapOn
  /-- CH.BCAP.CAP_W (R241). -/
  | chBcapCapW
  /-- CH.BWAIT.SLOT_REM (R242). -/
  | chBwaitSlotRem
  /-- CH.BWAIT.WAIT (R242). -/
  | chBwaitWait
  /-- CH.QAGE.AGE (R244). -/
  | chQageAge
  /-- CH.BYIELD.FAVOURED (R245). -/
  | chByieldFavoured
  /-- CH.BYIELD.GBROKEN (R245). -/
  | chByieldGbroken
  /-- CH.BGUAR.GPART (R246). -/
  | chBguarGpart
  /-- BUDGET.CTRL.OVERTAKE (R248). -/
  | budgetCtrlOvertake
  /-- BUDGET.CTRL.MODE (R248). -/
  | budgetCtrlMode
  /-- BUDGET.SHELF.P_SHELF (R249). -/
  | budgetShelfPShelf
  /-- BUDGET.AVAIL.FEEDER_LIMITED (R250). -/
  | budgetAvailFeederLimited
  /-- BUDGET.AVAIL.P_AVAIL (R250). -/
  | budgetAvailPAvail
  /-- BUDGET.RESSUM.VALUE (R251). -/
  | budgetRessumValue
  /-- BUDGET.POOL.VALUE (R251). -/
  | budgetPoolValue
  /-- BUDGET.GUAR.VALUE (R252). -/
  | budgetGuarValue
  /-- BUDGET.GEFF.VALUE (R252). -/
  | budgetGeffValue
  /-- BUDGET.CLASSRES.VALUE (R252). -/
  | budgetClassresValue
  /-- BUDGET.RELAX.RELAX_TIME (R253). -/
  | budgetRelaxRelaxTime
  /-- BUDGET.RELAX.RELAX_MARGIN (R253). -/
  | budgetRelaxRelaxMargin
  /-- BUDGET.QLIMIT.QUEUE_LIMIT (R254). -/
  | budgetQlimitQueueLimit
  /-- BUDGET.STAGGER.STAGGER_PERIOD (R255). -/
  | budgetStaggerStaggerPeriod
  /-- BUDGET.STAGGER.STAGGER_MIN (R255). -/
  | budgetStaggerStaggerMin
  /-- BUDGET.STAGSTAT.NEXT_REM (R256). -/
  | budgetStagstatNextRem
  /-- BUDGET.STAGSTAT.FACTOR (R256). -/
  | budgetStagstatFactor
  /-- BUDGET.STAGSTAT.QLEN (R256). -/
  | budgetStagstatQlen
  /-- BUDGET.LASTREL.TIME (R257). -/
  | budgetLastrelTime
  /-- BUDGET.GSTART.GO (R258). -/
  | budgetGstartGo
  /-- BUDGET.GSEL.SEL (R259). -/
  | budgetGselSel
  /-- BUDGET.BUSMIN.BUS_MIN_TIME (R260). -/
  | budgetBusminBusMinTime
  /-- BUDGET.BUSMIN.BUS_MIN (R260). -/
  | budgetBusminBusMin
  /-- BUDGET.HOLDUP.RETURN_QUAL (R261). -/
  | budgetHoldupReturnQual
  /-- BUDGET.HOLDUP.ACFAIL_FILT (R261). -/
  | budgetHoldupAcfailFilt
  /-- BUDGET.HOLDUP.BUS_WARN_TIME (R261). -/
  | budgetHoldupBusWarnTime
  /-- BUDGET.HOLDUP.BUS_WARN (R261). -/
  | budgetHoldupBusWarn
  /-- BUDGET.HUSTAGE.STAGE_V (R262). -/
  | budgetHustageStageV
  /-- BUDGET.HUSTAGE.DELAY (R262). -/
  | budgetHustageDelay
  /-- BUDGET.HUSTAT.ACTIVE (R263). -/
  | budgetHustatActive
  /-- BUDGET.HUSTAT.RETURNING (R263). -/
  | budgetHustatReturning
  /-- BUDGET.HUSTAT.DONE_STAGE (R263). -/
  | budgetHustatDoneStage
  /-- BUDGET.HUSTAT.RUN_STAGE (R263). -/
  | budgetHustatRunStage
  /-- BUDGET.HUSTAT.COMPLETED (R263). -/
  | budgetHustatCompleted
  /-- BUDGET.HUSTAT.ABORTED (R263). -/
  | budgetHustatAborted
  /-- BUDGET.HUSTAT.TRIG_BUS (R263). -/
  | budgetHustatTrigBus
  /-- BUDGET.HUSTAT.TRIG_FEEDER (R263). -/
  | budgetHustatTrigFeeder
  /-- BUDGET.HUSTAT.TRIG_ACFAIL (R263). -/
  | budgetHustatTrigAcfail
  /-- BUDGET.HUTIME.TIME (R264). -/
  | budgetHutimeTime
  /-- BUDGET.CAPMASK.MASK (R265). -/
  | budgetCapmaskMask
  /-- BUDGET.SHEDMASK.MASK (R265). -/
  | budgetShedmaskMask
  /-- FE.CVSTAT.CVB_RET (R304). -/
  | feCvstatCvbRet
  /-- FE.CVSTAT.CVB_OUT (R304). -/
  | feCvstatCvbOut
  /-- FE.CVSTAT.CVA_RET (R304). -/
  | feCvstatCvaRet
  /-- FE.CVSTAT.CVA_OUT (R304). -/
  | feCvstatCvaOut
  /-- FE.CVSTAT.URGENT (R304). -/
  | feCvstatUrgent
  /-- FE.CVSTAT.LP (R304). -/
  | feCvstatLp
  /-- FE.CVSTAT.CAL_DEFER (R304). -/
  | feCvstatCalDefer
  /-- FE.CVSTAT.CAL_FROZEN (R304). -/
  | feCvstatCalFrozen
  /-- FE.CALCNT.LIN_REFRESH (R305). -/
  | feCalcntLinRefresh
  /-- FE.CALCNT.VISITS (R305). -/
  | feCalcntVisits
  /-- FE.SCANMASK0.EN (R306). -/
  | feScanmask0En
  /-- FE.SCANMASK1.EN_AUX (R306). -/
  | feScanmask1EnAux
  /-- FE.SCANMASK1.EN_BUS (R306). -/
  | feScanmask1EnBus
  /-- FE.SCANMASK1.EN_TS (R306). -/
  | feScanmask1EnTs
  /-- FE.SCANSTAT.URG_MAX (R307). -/
  | feScanstatUrgMax
  /-- FE.SCANSTAT.ENTRIES (R307). -/
  | feScanstatEntries
  /-- FE.IRANGE.APPLIED (R308). -/
  | feIrangeApplied
  /-- FE.IRANGE.FINE (R308). -/
  | feIrangeFine
  /-- FE.OWCFG.PERIOD (R309). -/
  | feOwcfgPeriod
  /-- FE.OWCFG.CONFIRM (R309). -/
  | feOwcfgConfirm
  /-- FE.OWCFG.CS_THR (R309). -/
  | feOwcfgCsThr
  /-- FE.OWCFG.TS_THR (R309). -/
  | feOwcfgTsThr
  /-- FE.OWSTAT.TS_OPEN (R310). -/
  | feOwstatTsOpen
  /-- FE.OWSTAT.CS_OPEN (R310). -/
  | feOwstatCsOpen
  /-- FE.CONVCTL.GO (R311). -/
  | feConvctlGo
  /-- FE.CONVCTL.BUSY (R311). -/
  | feConvctlBusy
  /-- FE.CONVCTL.MISSED (R311). -/
  | feConvctlMissed
  /-- FE.CONVCTL.NAVG (R311). -/
  | feConvctlNavg
  /-- FE.CONVCTL.SRC (R311). -/
  | feConvctlSrc
  /-- FE.CONVCTL.INPUT (R311). -/
  | feConvctlInput
  /-- FE.CONV.RDY (R312). -/
  | feConvRdy
  /-- FE.CONV.OVR (R312). -/
  | feConvOvr
  /-- FE.CONV.SEQ (R312). -/
  | feConvSeq
  /-- FE.CONV.RESULT (R312). -/
  | feConvResult
  /-- FE.CONVTIME.TIME (R313). -/
  | feConvtimeTime
  /-- FE.CONVTSEQ.SEQ (R313). -/
  | feConvtseqSeq
  /-- FE.BUSBAND.NLEV (R314). -/
  | feBusbandNlev
  /-- FE.BUSBAND.BAND (R314). -/
  | feBusbandBand
  /-- FE.TSMODE.MODE (R315). -/
  | feTsmodeMode
  /-- FE.TSLIN.SLOPE (R315). -/
  | feTslinSlope
  /-- FE.TSLIN.V0 (R315). -/
  | feTslinV0
  /-- FE.TSDIODE.ETA (R315). -/
  | feTsdiodeEta
  /-- FE.CAPCTL.FORCE (R316). -/
  | feCapctlForce
  /-- FE.CAPCTL.ABORT (R316). -/
  | feCapctlAbort
  /-- FE.CAPCTL.TSRC (R316). -/
  | feCapctlTsrc
  /-- FE.CAPCTL.TUNIT (R316). -/
  | feCapctlTunit
  /-- FE.CAPCTL.WIDE (R316). -/
  | feCapctlWide
  /-- FE.CAPCTL.XOUT (R316). -/
  | feCapctlXout
  /-- FE.CAPCTL.EN (R316). -/
  | feCapctlEn
  /-- FE.CAPCTL.INPUT (R316). -/
  | feCapctlInput
  /-- FE.CAPLEN.LEN (R316). -/
  | feCaplenLen
  /-- FE.CAPSTAT.BUSY (R317). -/
  | feCapstatBusy
  /-- FE.CAPSTAT.WIDE_RUN (R317). -/
  | feCapstatWideRun
  /-- FE.CAPSTAT.CUT (R317). -/
  | feCapstatCut
  /-- FE.CAPSTAT.MISSED (R317). -/
  | feCapstatMissed
  /-- FE.CAPSTAT.COUNT (R317). -/
  | feCapstatCount
  /-- FE.CAPTIME.TIME (R317). -/
  | feCaptimeTime
  /-- FE.WEVTSUM.WEVT (R318). -/
  | feWevtsumWevt
  /-- FE.SLICE.OFS (R319). -/
  | feSliceOfs
  /-- FE.SLICE.GAIN (R319). -/
  | feSliceGain
  /-- FE.SLICE.SKEW (R319). -/
  | feSliceSkew
  /-- FE.LADDER.LEVEL (R320). -/
  | feLadderLevel
  /-- FE.ENTRY.INPUT (R321). -/
  | feEntryInput
  /-- FU.FCFG.ORDER (R322). -/
  | fuFcfgOrder
  /-- FU.FCFG.SETTLE (R322). -/
  | fuFcfgSettle
  /-- FU.FCFG.WEN (R322). -/
  | fuFcfgWen
  /-- FU.FCFG.WHYST (R322). -/
  | fuFcfgWhyst
  /-- FU.FCFG.RATIO (R322). -/
  | fuFcfgRatio
  /-- FU.WLO.LEVEL (R322). -/
  | fuWloLevel
  /-- FU.WHI.LEVEL (R322). -/
  | fuWhiLevel
  /-- FU.FRES.VALID (R322). -/
  | fuFresValid
  /-- FU.FRES.GAP (R322). -/
  | fuFresGap
  /-- FU.FRES.OUTSIDE (R322). -/
  | fuFresOutside
  /-- FU.FRES.WEVT (R322). -/
  | fuFresWevt
  /-- FU.FRES.SEQ (R322). -/
  | fuFresSeq
  /-- FU.FRES.VALUE (R322). -/
  | fuFresValue
  /-- CH.RSH.RSH_NOM (R358). -/
  | chRshRshNom
  /-- CH.SHGAIN.SH_GAIN (R358). -/
  | chShgainShGain
  /-- CH.SHTC.SH_TC1 (R358). -/
  | chShtcShTc1
  /-- CH.SHTC.SH_TC2 (R358). -/
  | chShtcShTc2
  /-- CH.SHCFG.TSRC (R358). -/
  | chShcfgTsrc
  /-- CH.SHCFG.SH_TREF (R358). -/
  | chShcfgShTref
  /-- CH.SHCFG.SH_OFS (R358). -/
  | chShcfgShOfs
  /-- CH.MSTAT.NOCAL (R358). -/
  | chMstatNocal
  /-- CH.MSTAT.FROZEN (R358). -/
  | chMstatFrozen
  /-- CH.MSTAT.BUFQ (R358). -/
  | chMstatBufq
  /-- CH.MSTAT.REFQ (R358). -/
  | chMstatRefq
  /-- CH.MSTAT.WARM (R358). -/
  | chMstatWarm
  /-- CH.MSTAT.SHT_FB (R358). -/
  | chMstatShtFb
  /-- CH.MSTAT.HOLD (R358). -/
  | chMstatHold
  /-- CH.MSTAT.SLOT (R358). -/
  | chMstatSlot
  /-- CH.MVOLT.V (R358). -/
  | chMvoltV
  /-- CH.MCURR.I (R358). -/
  | chMcurrI
  /-- CH.MPOW.P (R358). -/
  | chMpowP
  /-- META.CALSTAT.SWAP_REFUSED (R359). -/
  | metaCalstatSwapRefused
  /-- META.CALSTAT.TIME_UNTRACED (R359). -/
  | metaCalstatTimeUntraced
  /-- META.CALSTAT.FAILED (R359). -/
  | metaCalstatFailed
  /-- META.CALSTAT.DONE (R359). -/
  | metaCalstatDone
  /-- META.CALSTAT.ROLLBACK (R359). -/
  | metaCalstatRollback
  /-- META.CALSTAT.NONE (R359). -/
  | metaCalstatNone
  /-- META.CALSTAT.BANK (R359). -/
  | metaCalstatBank
  /-- META.EPOCH.EPOCH (R359). -/
  | metaEpochEpoch
  /-- META.CALSEQ.SEQ (R359). -/
  | metaCalseqSeq
  /-- META.CALCTL.START (R359). -/
  | metaCalctlStart
  /-- META.CALCTL.ABORT (R359). -/
  | metaCalctlAbort
  /-- META.CALCTL.SWAP (R359). -/
  | metaCalctlSwap
  /-- META.CALCTL.SLOTS (R359). -/
  | metaCalctlSlots
  /-- META.CALCTL.MODE (R359). -/
  | metaCalctlMode
  /-- META.CALPROG.PHASE (R359). -/
  | metaCalprogPhase
  /-- META.CALPROG.FAIL_CODE (R359). -/
  | metaCalprogFailCode
  /-- META.CALPROG.FAIL_CH (R359). -/
  | metaCalprogFailCh
  /-- META.CALPROG.DONE_CH (R359). -/
  | metaCalprogDoneCh
  /-- META.CALINT.DUE_REM (R359). -/
  | metaCalintDueRem
  /-- META.CALINT.INTERVAL (R359). -/
  | metaCalintInterval
  /-- META.REFSTAT.BUF (R359). -/
  | metaRefstatBuf
  /-- META.REFSTAT.HEATER_FAULT (R359). -/
  | metaRefstatHeaterFault
  /-- META.REFSTAT.WATCH (R359). -/
  | metaRefstatWatch
  /-- META.REFSTAT.WARM_DONE (R359). -/
  | metaRefstatWarmDone
  /-- META.REFSTAT.VALID (R359). -/
  | metaRefstatValid
  /-- META.REFDEV.DEV (R359). -/
  | metaRefdevDev
  /-- META.REFDIE.DEV (R359). -/
  | metaRefdieDev
  /-- META.CALIN.V (R359). -/
  | metaCalinV
  /-- META.WARM.WARM_REM (R359). -/
  | metaWarmWarmRem
  /-- META.DIGEST.D (R359). -/
  | metaDigestD
  /-- META.COEFSEL.BANK (R359). -/
  | metaCoefselBank
  /-- META.COEFSEL.SEL (R359). -/
  | metaCoefselSel
  /-- META.COEF.VALUE (R359). -/
  | metaCoefValue
  /-- META.TRACE.BYTES (R359). -/
  | metaTraceBytes
  /-- META.STAGE.BYTES (R359). -/
  | metaStageBytes
  /-- ENERGY.ACC (R360). -/
  | energyAcc
  /-- ENERGY.TOTAL.ACC (R360). -/
  | energyTotalAcc
  /-- ENERGY.CKPT.TIME (R360). -/
  | energyCkptTime
  /-- ENERGY.STAT.ORIGIN_UNVERIFIED (R360). -/
  | energyStatOriginUnverified
  /-- ENERGY.STAT.ORIGIN_LEDGER (R360). -/
  | energyStatOriginLedger
  /-- ENERGY.STAT.UNMETERED (R360). -/
  | energyStatUnmetered
  /-- ENERGY.STAT.CKPT_FAIL (R360). -/
  | energyStatCkptFail
  /-- META.BENCHCTL.ENTER (R375). -/
  | metaBenchctlEnter
  /-- META.BENCHCTL.EXIT (R375). -/
  | metaBenchctlExit
  /-- META.BENCHCTL.TRIG (R375). -/
  | metaBenchctlTrig
  /-- META.BENCHCTL.ZERO (R375). -/
  | metaBenchctlZero
  /-- META.BENCHCFG.EDGE (R375). -/
  | metaBenchcfgEdge
  /-- META.BENCHCFG.RATIO (R375). -/
  | metaBenchcfgRatio
  /-- META.BENCHCFG.DWELL (R375). -/
  | metaBenchcfgDwell
  /-- META.BENCHCFG.NAVG (R375). -/
  | metaBenchcfgNavg
  /-- META.BENCHSTAT.REFUSE (R375). -/
  | metaBenchstatRefuse
  /-- META.BENCHSTAT.REFUSED (R375). -/
  | metaBenchstatRefused
  /-- META.BENCHSTAT.READY (R375). -/
  | metaBenchstatReady
  /-- META.BENCHSTAT.EXITING (R375). -/
  | metaBenchstatExiting
  /-- META.BENCHSTAT.ACTIVE (R375). -/
  | metaBenchstatActive
  /-- META.BENCHDIE.SEQ (R375). -/
  | metaBenchdieSeq
  /-- META.BENCHDIE.CALDRIFT (R375). -/
  | metaBenchdieCaldrift
  /-- META.BENCHDIE.MISSED (R375). -/
  | metaBenchdieMissed
  /-- META.BENCHDIE.REST (R375). -/
  | metaBenchdieRest
  /-- META.BENCHDIE.BUSY (R375). -/
  | metaBenchdieBusy
  /-- BRES.VALUE.VALUE (R376). -/
  | bresValueValue
  /-- BRES.STAT.SEQ (R376). -/
  | bresStatSeq
  /-- BRES.STAT.VALID (R376). -/
  | bresStatValid
  /-- BRES.STAT.FINE (R376). -/
  | bresStatFine
  /-- BRES.STAT.ZEROED (R376). -/
  | bresStatZeroed
  /-- BRES.STAT.RATIO (R376). -/
  | bresStatRatio
  /-- BRES.STAT.SAT (R376). -/
  | bresStatSat
  /-- BRES.STAT.COND (R376). -/
  | bresStatCond
  /-- FE.BZERO.ZERO (R376). -/
  | feBzeroZero
  /-- FE.BPTS0.EN (R376). -/
  | feBpts0En
  /-- FE.BPTS1.EN (R376). -/
  | feBpts1En
  /-- FE.BTIME.TIME (R376). -/
  | feBtimeTime
  /-- TB.NOW.TIME (R405). -/
  | tbNowTime
  /-- TB.LASTPPS.TIME (R405). -/
  | tbLastppsTime
  /-- TB.SETSEC.TIME (R405). -/
  | tbSetsecTime
  /-- TB.LASTSTEP.DELTA (R405). -/
  | tbLaststepDelta
  /-- TB.STEPTIME.TIME (R405). -/
  | tbSteptimeTime
  /-- TB.STAT.MISS (R406). -/
  | tbStatMiss
  /-- TB.STAT.GOOD (R406). -/
  | tbStatGood
  /-- TB.STAT.TIME_SET (R406). -/
  | tbStatTimeSet
  /-- TB.STAT.PPS_EXTRA (R406). -/
  | tbStatPpsExtra
  /-- TB.STAT.STEPPED (R406). -/
  | tbStatStepped
  /-- TB.STAT.INDEX_SLIP (R406). -/
  | tbStatIndexSlip
  /-- TB.STAT.HOLDOVER_SEEN (R406). -/
  | tbStatHoldoverSeen
  /-- TB.STAT.STATE (R406). -/
  | tbStatState
  /-- TB.DISC.STEP_EN (R407). -/
  | tbDiscStepEn
  /-- TB.DISC.LOCK_THR (R407). -/
  | tbDiscLockThr
  /-- TB.DISC.SLEW_WINDOW (R407). -/
  | tbDiscSlewWindow
  /-- TB.PPSCFG.PPS_DELAY (R407). -/
  | tbPpscfgPpsDelay
  /-- TB.PPSCFG.MINW (R407). -/
  | tbPpscfgMinw
  /-- TB.PPSCFG.PPS_EN (R407). -/
  | tbPpscfgPpsEn
  /-- TB.PPSCFG.EDGE (R407). -/
  | tbPpscfgEdge
  /-- TB.PHASE.E (R408). -/
  | tbPhaseE
  /-- TB.RATE.RATE (R408). -/
  | tbRateRate
  /-- TB.FREQ.STEER (R408). -/
  | tbFreqSteer
  /-- TB.HOLDSEC.SEC (R408). -/
  | tbHoldsecSec
  /-- TB.SETCTL.NOW (R409). -/
  | tbSetctlNow
  /-- TB.SETCTL.ARM (R409). -/
  | tbSetctlArm
  /-- TB.SETCTL.ALIGN (R409). -/
  | tbSetctlAlign
  /-- TB.SETCTL.CANCEL (R409). -/
  | tbSetctlCancel
  /-- TB.SETCTL.ARMED (R409). -/
  | tbSetctlArmed
  /-- TB.SETCTL.CAUSE (R409). -/
  | tbSetctlCause
  /-- TB.TMRCTL.IN_FORCE (R410). -/
  | tbTmrctlInForce
  /-- TB.TMRCTL.RECOVERY (R410). -/
  | tbTmrctlRecovery
  /-- TB.TMRCTL.BENCH (R410). -/
  | tbTmrctlBench
  /-- TB.TMRCTL.START (R410). -/
  | tbTmrctlStart
  /-- TB.TMRCTL.FORCE (R410). -/
  | tbTmrctlForce
  /-- TB.RELCTL.GO (R411). -/
  | tbRelctlGo
  /-- TB.RELCTL.BUSY (R411). -/
  | tbRelctlBusy
  /-- TB.RELCTL.DONE (R411). -/
  | tbRelctlDone
  /-- TB.RELCTL.AT_TIME (R411). -/
  | tbRelctlAtTime
  /-- TB.RPERIOD.PERIOD (R411). -/
  | tbRperiodPeriod
  /-- TB.RELTIME.TIME (R411). -/
  | tbReltimeTime
  /-- TB.RSEL.SEL (R411). -/
  | tbRselSel
  /-- TB.MATCHSUM.BITS (R412). -/
  | tbMatchsumBits
  /-- TB.CAPSUM.BITS (R412). -/
  | tbCapsumBits
  /-- TMR.CNT.COUNT (R413). -/
  | tmrCntCount
  /-- TMR.CMP.VALUE (R413). -/
  | tmrCmpValue
  /-- TMR.CAPV.VALUE (R413). -/
  | tmrCapvValue
  /-- TMR.CTRL.MATCH (R413). -/
  | tmrCtrlMatch
  /-- TMR.CTRL.CAPF (R413). -/
  | tmrCtrlCapf
  /-- TMR.CTRL.COVR (R413). -/
  | tmrCtrlCovr
  /-- TMR.CTRL.RUN (R413). -/
  | tmrCtrlRun
  /-- TMR.CTRL.ACT (R413). -/
  | tmrCtrlAct
  /-- TMR.CTRL.TGT (R413). -/
  | tmrCtrlTgt
  /-- TMR.CTRL.LINK (R413). -/
  | tmrCtrlLink
  /-- TMR.CTRL.LAPSAFE (R413). -/
  | tmrCtrlLapsafe
  /-- TMR.CTRL.HIT (R413). -/
  | tmrCtrlHit
  /-- TMR.CAPCFG.CEN (R413). -/
  | tmrCapcfgCen
  /-- TMR.CAPCFG.EDGE (R413). -/
  | tmrCapcfgEdge
  /-- TMR.CAPCFG.MIE (R413). -/
  | tmrCapcfgMie
  /-- TMR.CAPCFG.CIE (R413). -/
  | tmrCapcfgCie
  /-- TMR.CAPCFG.FUNIT (R413). -/
  | tmrCapcfgFunit
  /-- TMR.CAPCFG.FILT (R413). -/
  | tmrCapcfgFilt
  /-- TMR.CAPCFG.PRESC (R413). -/
  | tmrCapcfgPresc
  /-- TMR.CAPCFG.SRC (R413). -/
  | tmrCapcfgSrc
  /-- FAN.DUTY.DUTY (R414). -/
  | fanDutyDuty
  /-- FAN.CFG.TACH_EN (R414). -/
  | fanCfgTachEn
  /-- FAN.CFG.POL (R414). -/
  | fanCfgPol
  /-- FAN.CFG.PPR (R414). -/
  | fanCfgPpr
  /-- FAN.CFG.STALL (R414). -/
  | fanCfgStall
  /-- FAN.SPEED.RPM (R414). -/
  | fanSpeedRpm
  /-- FAN.STAT.STALL (R414). -/
  | fanStatStall
  /-- FAN.STAT.STALL_SEEN (R414). -/
  | fanStatStallSeen
  /-- FAN.STAT.LIVE (R414). -/
  | fanStatLive
  /-- REC.CTRL.FLUSH (R447). -/
  | recCtrlFlush
  /-- REC.CTRL.AUTO_PREPARE (R447). -/
  | recCtrlAutoPrepare
  /-- REC.STAT.TREND_FILL (R447). -/
  | recStatTrendFill
  /-- REC.STAT.LEDGER_FILL (R447). -/
  | recStatLedgerFill
  /-- REC.STAT.BASKET_DOWN (R447). -/
  | recStatBasketDown
  /-- REC.STAT.SIGN_FAIL (R447). -/
  | recStatSignFail
  /-- REC.STAT.GAP_SEEN (R447). -/
  | recStatGapSeen
  /-- REC.STAT.LEDGER_EXT (R447). -/
  | recStatLedgerExt
  /-- REC.STAT.LEDGER_NEAR_FULL (R447). -/
  | recStatLedgerNearFull
  /-- REC.STAT.HELD (R447). -/
  | recStatHeld
  /-- REC.STAT.MEDIA (R447). -/
  | recStatMedia
  /-- REC.TRENDCFG.INTERVAL (R447). -/
  | recTrendcfgInterval
  /-- REC.DEVCTL.EJECT (R448). -/
  | recDevctlEject
  /-- REC.DEVCTL.PREPARE (R448). -/
  | recDevctlPrepare
  /-- REC.DEVCTL.CANCEL (R448). -/
  | recDevctlCancel
  /-- REC.DEVSTAT.STATE (R448). -/
  | recDevstatState
  /-- REC.DEVSTAT.REFUSE (R448). -/
  | recDevstatRefuse
  /-- REC.DEVSTAT.GEN (R448). -/
  | recDevstatGen
  /-- REC.DEVSTAT.WIDTH (R448). -/
  | recDevstatWidth
  /-- REC.DEVSTAT.RESILVER_PCT (R448). -/
  | recDevstatResilverPct
  /-- REC.DEVSTAT.CRIT_WARN (R448). -/
  | recDevstatCritWarn
  /-- REC.DEVCAP.LBAS (R448). -/
  | recDevcapLbas
  /-- REC.DEVHLTH.PCT_USED (R448). -/
  | recDevhlthPctUsed
  /-- REC.DEVHLTH.TEMP (R448). -/
  | recDevhlthTemp
  /-- REC.DEVERR.ERRS (R448). -/
  | recDeverrErrs
  /-- REC.DEVERR.RESETS (R448). -/
  | recDeverrResets
  /-- REC.DEVWP.STRIPE (R448). -/
  | recDevwpStripe
  /-- REC.NEXTBLK.NO (R449). -/
  | recNextblkNo
  /-- REC.CKPTNO.NO (R449). -/
  | recCkptnoNo
  /-- REC.LEDGER_ID.ID (R449). -/
  | recLedgerIdId
  /-- REC.LPAGE.PAGES (R449). -/
  | recLpagePages
  /-- REC.TREND_OLD.TIME (R449). -/
  | recTrendOldTime
  /-- REC.CAPNO.NO (R449). -/
  | recCapnoNo
  /-- REC.GAPS.COUNT (R449). -/
  | recGapsCount
  /-- REC.KEYID.KEY_ID (R449). -/
  | recKeyidKeyId
  /-- REC.CERTLEN.BYTES (R449). -/
  | recCertlenBytes
  /-- REC.RDCTL.GO (R449). -/
  | recRdctlGo
  /-- REC.RDCTL.BUSY (R449). -/
  | recRdctlBusy
  /-- REC.RDCTL.DONE (R449). -/
  | recRdctlDone
  /-- REC.RDCTL.ERR (R449). -/
  | recRdctlErr
  /-- REC.RDCTL.HALF (R449). -/
  | recRdctlHalf
  /-- REC.RDCTL.SRC (R449). -/
  | recRdctlSrc
  /-- REC.RDLBA.LBA (R449). -/
  | recRdlbaLba
  /-- REC.RDBUF.BYTES (R449). -/
  | recRdbufBytes
  /-- TWIN.STAT.ROLE (R476). -/
  | twinStatRole
  /-- TWIN.STAT.PARTNER_ROLE (R476). -/
  | twinStatPartnerRole
  /-- TWIN.STAT.READY (R476). -/
  | twinStatReady
  /-- TWIN.STAT.PARTNER_READY (R476). -/
  | twinStatPartnerReady
  /-- TWIN.STAT.HB_OK (R476). -/
  | twinStatHbOk
  /-- TWIN.STAT.TAKEOVER (R476). -/
  | twinStatTakeover
  /-- TWIN.STAT.PAIR_ADDR (R476). -/
  | twinStatPairAddr
  /-- TWIN.STAT.SLOT (R476). -/
  | twinStatSlot
  /-- TWIN.STAT.SEATED (R476). -/
  | twinStatSeated
  /-- TWIN.STAT.SEAM_RUN (R476). -/
  | twinStatSeamRun
  /-- TWIN.STAT.REFUSE (R476). -/
  | twinStatRefuse
  /-- TWIN.CTRL.HANDOVER (R476). -/
  | twinCtrlHandover
  /-- TWIN.CTRL.STANDDOWN (R476). -/
  | twinCtrlStanddown
  /-- TWIN.CTRL.LOCK (R476). -/
  | twinCtrlLock
  /-- TWIN.LINK.LANE_UP (R476). -/
  | twinLinkLaneUp
  /-- TWIN.LINK.RETRIES (R476). -/
  | twinLinkRetries
  /-- TWIN.HB.SNAP_AGE (R476). -/
  | twinHbSnapAge
  /-- TWIN.HB.HB_AGE (R476). -/
  | twinHbHbAge
  /-- TWIN.SEAMCNT.UNPLANNED (R476). -/
  | twinSeamcntUnplanned
  /-- TWIN.SEAMCNT.PLANNED (R476). -/
  | twinSeamcntPlanned
  /-- TWIN.SEAMINFO.CAUSE (R476). -/
  | twinSeaminfoCause
  /-- TWIN.SEAMINFO.GAP_MAX (R476). -/
  | twinSeaminfoGapMax
  /-- TWIN.LASTSEAM.TIME (R476). -/
  | twinLastseamTime
  /-- TWIN.DIE.EPOCH (R476). -/
  | twinDieEpoch
  /-- TWIN.DIE.VOID_READ (R476). -/
  | twinDieVoidRead
  /-- TWIN.DIE.DOWN (R476). -/
  | twinDieDown
  /-- TWIN.DIE.RESETS (R476). -/
  | twinDieResets
  /-- TWIN.SYNC.PCT (R476). -/
  | twinSyncPct
  /-- TWIN.PARTNER_SN.BYTES (R476). -/
  | twinPartnerSnBytes
  /-- MOD.EXPERT.KEY (R510). -/
  | modExpertKey
  /-- MOD.EXPERT.UNLOCK (R510). -/
  | modExpertUnlock
  /-- MOD.BOOT.PHASE (R510). -/
  | modBootPhase
  /-- MOD.BOOT.T_CONFIG (R510). -/
  | modBootTConfig
  /-- MOD.BOOT.SOLO_HELD (R510). -/
  | modBootSoloHeld
  /-- MOD.BOOT.SOLO_ACCEPT (R510). -/
  | modBootSoloAccept
  /-- MOD.IMGSTAT.CAUSE (R510). -/
  | modImgstatCause
  /-- MOD.IMGSTAT.REJ_A (R510). -/
  | modImgstatRejA
  /-- MOD.IMGSTAT.REJ_B (R510). -/
  | modImgstatRejB
  /-- MOD.IMGSTAT.SLOT (R510). -/
  | modImgstatSlot
  /-- MOD.IMGSTAT.HUB_RELOAD (R510). -/
  | modImgstatHubReload
  /-- MOD.IMGSTAT.OVERRIDDEN (R510). -/
  | modImgstatOverridden
  /-- MOD.IMGSTAT.RETRYING (R510). -/
  | modImgstatRetrying
  /-- MOD.IMGSEQ.SEQ (R510). -/
  | modImgseqSeq
  /-- MOD.IMGCMD.ERASE_B (R510). -/
  | modImgcmdEraseB
  /-- MOD.IMGCMD.PROGRAM (R510). -/
  | modImgcmdProgram
  /-- MOD.IMGCMD.PATCH (R510). -/
  | modImgcmdPatch
  /-- MOD.IMGCMD.READ (R510). -/
  | modImgcmdRead
  /-- MOD.IMGCMD.BUSY (R510). -/
  | modImgcmdBusy
  /-- MOD.IMGCMD.DONE (R510). -/
  | modImgcmdDone
  /-- MOD.IMGCMD.ERR (R510). -/
  | modImgcmdErr
  /-- MOD.IMGCMD.SRC (R510). -/
  | modImgcmdSrc
  /-- MOD.IMGADDR.PAGE (R510). -/
  | modImgaddrPage
  /-- MOD.PATCHSTAT.STATE (R510). -/
  | modPatchstatState
  /-- MOD.PATCHSTAT.REFUSE (R510). -/
  | modPatchstatRefuse
  /-- MOD.PATCHSTAT.PENDING (R510). -/
  | modPatchstatPending
  /-- MOD.PENDING.MASK (R510). -/
  | modPendingMask
  /-- MOD.FLASHID.MODE (R510). -/
  | modFlashidMode
  /-- MOD.FLASHID.ADDR (R510). -/
  | modFlashidAddr
  /-- MOD.FLASHID.JEDEC_ID (R510). -/
  | modFlashidJedecId
  /-- MOD.IMGDIGEST.D (R510). -/
  | modImgdigestD
  /-- MOD.IMGBUF.BYTES (R510). -/
  | modImgbufBytes
  /-- STARCH.STAT.SEALED (R511). -/
  | starchStatSealed
  /-- STARCH.STAT.FAULT (R511). -/
  | starchStatFault
  /-- STARCH.STAT.COPY_DIFF (R511). -/
  | starchStatCopyDiff
  /-- STARCH.STAT.DIRTY (R511). -/
  | starchStatDirty
  /-- STARCH.DIGEST.D (R511). -/
  | starchDigestD
  /-- STARCH.FUSECTL.BURN (R511). -/
  | starchFusectlBurn
  /-- STARCH.FUSECTL.SEAL (R511). -/
  | starchFusectlSeal
  /-- STARCH.FUSECTL.RELOAD (R511). -/
  | starchFusectlReload
  /-- STARCH.FUSECTL.BUSY (R511). -/
  | starchFusectlBusy
  /-- STARCH.FUSECTL.RESULT (R511). -/
  | starchFusectlResult
  /-- FEEDER.FPCFG.RETRIES (R531). -/
  | feederFpcfgRetries
  /-- FEEDER.FPCFG.HANG_MS (R531). -/
  | feederFpcfgHangMs
  /-- FEEDER.FPCFG.STAT_MS (R531). -/
  | feederFpcfgStatMs
  /-- FEEDER.FPCFG.PEC (R531). -/
  | feederFpcfgPec
  /-- FEEDER.FPCFG.SPEED (R531). -/
  | feederFpcfgSpeed
  /-- FEEDER.POLL.COMM_HOLD (R531). -/
  | feederPollCommHold
  /-- FEEDER.POLL.POLL_MS (R531). -/
  | feederPollPollMs
  /-- FEEDER.VSET.V_SET (R531). -/
  | feederVsetVSet
  /-- FEEDER.VLIM.VMAX (R531). -/
  | feederVlimVmax
  /-- FEEDER.VLIM.VMIN (R531). -/
  | feederVlimVmin
  /-- FEEDER.SLEW.STEP_MS (R531). -/
  | feederSlewStepMs
  /-- FEEDER.SLEW.SLEW (R531). -/
  | feederSlewSlew
  /-- FEEDER.BAL.BAL_EN (R531). -/
  | feederBalBalEn
  /-- FEEDER.BAL.BAL_PERIOD (R531). -/
  | feederBalBalPeriod
  /-- FEEDER.BAL.K_BAL (R531). -/
  | feederBalKBal
  /-- FEEDER.BAL.TRIM_MAX (R531). -/
  | feederBalTrimMax
  /-- FEEDER.HOLDCFG.INFAIL_MIN (R531). -/
  | feederHoldcfgInfailMin
  /-- FEEDER.STAT.FP_HUNG (R531). -/
  | feederStatFpHung
  /-- FEEDER.STAT.SCL_STUCK (R531). -/
  | feederStatSclStuck
  /-- FEEDER.STAT.BAL_SUSP (R531). -/
  | feederStatBalSusp
  /-- FEEDER.STAT.INFAIL_TRIG (R531). -/
  | feederStatInfailTrig
  /-- FEEDER.STAT.OVERLOAD (R531). -/
  | feederStatOverload
  /-- FEEDER.STAT.ONLINE (R531). -/
  | feederStatOnline
  /-- FEEDER.CAP.FEEDER_CAP (R531). -/
  | feederCapFeederCap
  /-- FEEDER.FPCNT.ARB_LOST (R531). -/
  | feederFpcntArbLost
  /-- FEEDER.FPCNT.ARB_COND (R531). -/
  | feederFpcntArbCond
  /-- FEEDER.FPCNT.RECOVER (R531). -/
  | feederFpcntRecover
  /-- BBU.CFG.ADDR (R531). -/
  | bbuCfgAddr
  /-- BBU.CFG.FORCE (R531). -/
  | bbuCfgForce
  /-- BBU.CFG.SEL_FORCE (R531). -/
  | bbuCfgSelForce
  /-- BBU.CFG.SEL_HOLDUP (R531). -/
  | bbuCfgSelHoldup
  /-- BBU.STAT.DRIVEN (R531). -/
  | bbuStatDriven
  /-- BBU.STAT.SENSED (R531). -/
  | bbuStatSensed
  /-- BBU.STAT.MISMATCH (R531). -/
  | bbuStatMismatch
  /-- BBU.STAT.COMM_LOST (R531). -/
  | bbuStatCommLost
  /-- BBU.STAT.STATUS (R531). -/
  | bbuStatStatus
  /-- FDR.CFG.EN (R532). -/
  | fdrCfgEn
  /-- FDR.CFG.ADDR (R532). -/
  | fdrCfgAddr
  /-- FDR.CFG.P_RATED (R532). -/
  | fdrCfgPRated
  /-- FDR.STATE.STATE (R532). -/
  | fdrStateState
  /-- FDR.STATE.REFUSE (R532). -/
  | fdrStateRefuse
  /-- FDR.STATE.VOUT_EXP (R532). -/
  | fdrStateVoutExp
  /-- FDR.STATE.STATUS (R532). -/
  | fdrStateStatus
  /-- FDR.VCMD.TARGET (R532). -/
  | fdrVcmdTarget
  /-- FDR.VCMD.SENT (R532). -/
  | fdrVcmdSent
  /-- FDR.TRIM.SLEWING (R532). -/
  | fdrTrimSlewing
  /-- FDR.TRIM.DOWN (R532). -/
  | fdrTrimDown
  /-- FDR.TRIM.TRIM (R532). -/
  | fdrTrimTrim
  /-- FDR.VOUT.VOUT (R532). -/
  | fdrVoutVout
  /-- FDR.VOUT.IOUT (R532). -/
  | fdrVoutIout
  /-- FDR.TEMP.POUT (R532). -/
  | fdrTempPout
  /-- FDR.TEMP.TEMP (R532). -/
  | fdrTempTemp
  /-- FDR.ERR.NACK (R532). -/
  | fdrErrNack
  /-- FDR.ERR.FAIL (R532). -/
  | fdrErrFail
  /-- MOD.VENDOR.VENDOR (R561). -/
  | modVendorVendor
  /-- MOD.PART.PART (R561). -/
  | modPartPart
  /-- MOD.REV.MAJOR (R561). -/
  | modRevMajor
  /-- MOD.REV.MINOR (R561). -/
  | modRevMinor
  /-- MOD.STRAP.AMBIG (R561). -/
  | modStrapAmbig
  /-- MOD.STRAP.S (R561). -/
  | modStrapS
  /-- MOD.SERIAL.BYTES (R561). -/
  | modSerialBytes
  /-- MOD.CTRL.DOZE (R561). -/
  | modCtrlDoze
  /-- MOD.CTRL.DOZE_REFUSED (R561). -/
  | modCtrlDozeRefused
  /-- HOST.ADDRCFG.MODE (R562). -/
  | hostAddrcfgMode
  /-- HOST.ADDRCFG.PAIR (R562). -/
  | hostAddrcfgPair
  /-- HOST.XADDR.EN3 (R562). -/
  | hostXaddrEn3
  /-- HOST.XADDR.A3 (R562). -/
  | hostXaddrA3
  /-- HOST.XADDR.EN2 (R562). -/
  | hostXaddrEn2
  /-- HOST.XADDR.A2 (R562). -/
  | hostXaddrA2
  /-- HOST.XADDR.EN1 (R562). -/
  | hostXaddrEn1
  /-- HOST.XADDR.A1 (R562). -/
  | hostXaddrA1
  /-- HOST.XADDR.EN0 (R562). -/
  | hostXaddrEn0
  /-- HOST.XADDR.A0 (R562). -/
  | hostXaddrA0
  /-- HOST.AMASK.MASK (R562). -/
  | hostAmaskMask
  /-- HOST.AMASK.MATCH (R562). -/
  | hostAmaskMatch
  /-- HOST.PEC.REQ (R562). -/
  | hostPecReq
  /-- HOST.ATTNCFG.REPEAT_MS (R562). -/
  | hostAttncfgRepeatMs
  /-- HOST.ATTNCFG.MAXPULL (R562). -/
  | hostAttncfgMaxpull
  /-- HOST.ATTNCFG.EN1 (R562). -/
  | hostAttncfgEn1
  /-- HOST.ATTNCFG.EN0 (R562). -/
  | hostAttncfgEn0
  /-- HP.CFG.RDWORDS (R563). -/
  | hpCfgRdwords
  /-- HP.CFG.SLOPE (R563). -/
  | hpCfgSlope
  /-- HP.STAT.BUSY (R563). -/
  | hpStatBusy
  /-- HP.STAT.ATTN_PEND (R563). -/
  | hpStatAttnPend
  /-- HP.STAT.OWN_VALID (R563). -/
  | hpStatOwnValid
  /-- HP.STAT.PAIR_VALID (R563). -/
  | hpStatPairValid
  /-- HP.STAT.ARA_WON (R563). -/
  | hpStatAraWon
  /-- HP.STAT.ATTN_COLL (R563). -/
  | hpStatAttnColl
  /-- HP.STAT.RC_LOST (R563). -/
  | hpStatRcLost
  /-- HP.STAT.UNMAPPED (R563). -/
  | hpStatUnmapped
  /-- HP.STAT.NOPTR (R563). -/
  | hpStatNoptr
  /-- HP.STAT.PEC_MISSING (R563). -/
  | hpStatPecMissing
  /-- HP.STAT.PEC_ERR (R563). -/
  | hpStatPecErr
  /-- HP.STAT.BAD_LEN (R563). -/
  | hpStatBadLen
  /-- HP.STAT.BAD_CMD (R563). -/
  | hpStatBadCmd
  /-- HP.STAT.TIMEOUT (R563). -/
  | hpStatTimeout
  /-- HP.PTR_OWN.ADDR (R563). -/
  | hpPtrOwnAddr
  /-- HP.PTR_OWN.DESC (R563). -/
  | hpPtrOwnDesc
  /-- HP.PTR_PAIR.ADDR (R563). -/
  | hpPtrPairAddr
  /-- HP.PTR_PAIR.DESC (R563). -/
  | hpPtrPairDesc
  /-- HP.CNT.ACCEPTED (R563). -/
  | hpCntAccepted
  /-- HP.CNT.REJECTED (R563). -/
  | hpCntRejected
  /-- HP.CNT.PULLS (R563). -/
  | hpCntPulls
  /-- MOD.SUM.ASSERTED (R571). -/
  | modSumAsserted
  /-- MOD.SUM.FIXED (R571). -/
  | modSumFixed
  /-- MOD.SUM.GROUP (R571). -/
  | modSumGroup
  /-- MOD.SUMEN.EN (R571). -/
  | modSumenEn
  /-- MOD.ALCTL.ALERT_EN (R571). -/
  | modAlctlAlertEn
  /-- MOD.ALCNT.ASSERTS (R571). -/
  | modAlcntAsserts
  /-- ALERT.CHLEAF.LEAF (R572). -/
  | alertChleaf
  /-- ALERT.PEND.PEND (R572). -/
  | alertPendPend
  /-- ALERT.CHMASK.MASK (R572). -/
  | alertChmaskMask
  /-- ALERT.TLEAF.TIMER (R573). -/
  | alertTleafTimer
  /-- HEALTH.STAT.VAUX_WARN (R588). -/
  | healthStatVauxWarn
  /-- HEALTH.STAT.BRACE (R588). -/
  | healthStatBrace
  /-- HEALTH.STAT.FREEZE (R588). -/
  | healthStatFreeze
  /-- HEALTH.STAT.FAST (R588). -/
  | healthStatFast
  /-- HEALTH.STAT.FACTOR (R588). -/
  | healthStatFactor
  /-- HEALTH.STAT.LEVEL (R588). -/
  | healthStatLevel
  /-- HEALTH.TCFG.WARN (R588). -/
  | healthTcfgWarn
  /-- HEALTH.TEMP.PEAK (R588). -/
  | healthTempPeak
  /-- HEALTH.TEMP.T (R588). -/
  | healthTempT
  /-- HEALTH.AUX.MIN (R588). -/
  | healthAuxMin
  /-- HEALTH.AUX.V (R588). -/
  | healthAuxV
  /-- HEALTH.KEEPER.LOW (R588). -/
  | healthKeeperLow
  /-- HEALTH.KEEPV.V (R588). -/
  | healthKeepvV
  /-- HEALTH.WDCNT.FE (R588). -/
  | healthWdcntFe
  /-- HEALTH.WDCNT.HUB (R588). -/
  | healthWdcntHub
  /-- HEALTH.OPHOURS.HOURS (R588). -/
  | healthOphoursHours
  /-- HEALTH.EVCNT.FREEZES (R588). -/
  | healthEvcntFreezes
  /-- HEALTH.EVCNT.SHUTDOWNS (R588). -/
  | healthEvcntShutdowns
  /-- HEALTH.EVCNT.THROTTLES (R588). -/
  | healthEvcntThrottles
  /-- HEALTH.EVCNT.BRACES (R588). -/
  | healthEvcntBraces
  /-- ALERT.LEAF.LEAF (R573). -/
  | alertLeaf
  /-- ALERT.EN.EN (R573). -/
  | alertEn
  /-- ALERT.STAT.STAT (R573). -/
  | alertStat
  deriving DecidableEq, Repr

/-- One row of a register table: the address of the first register, the replication as (count, stride) pairs,
outermost first, the bits (over all the words of a quantity of several words, R11), the access type (R6), the reset
value (R10) and the range (R608). -/
structure FieldRow where
  base : Nat
  dims : List (Nat × Nat)
  hi : Nat
  lo : Nat
  acc : Access
  reset : Nat
  rmin : Nat
  rmax : Nat
  deriving DecidableEq, Repr

/-- The row of each field (the register tables of spec/). -/
def Fld.row : Fld → FieldRow
  | .modSyncDeferred => ⟨0x40, [], 7, 0, .ro, 0x0, 0, 0xff⟩
  | .modIclRetrySeen => ⟨0x44, [], 15, 8, .w1c, 0x0, 0, 0xff⟩
  | .modIclLinkUp => ⟨0x44, [], 7, 0, .ro, 0x0, 0, 0xff⟩
  | .modClkmonHubRestart => ⟨0x48, [], 11, 11, .w1c, 0x0, 0, 0x1⟩
  | .modClkmonBasketFail => ⟨0x48, [], 10, 10, .w1c, 0x0, 0, 0x1⟩
  | .modClkmonPcieFail => ⟨0x48, [], 9, 9, .w1c, 0x0, 0, 0x1⟩
  | .modClkmonTbFail => ⟨0x48, [], 8, 8, .w1c, 0x0, 0, 0x1⟩
  | .modClkmonFeFail => ⟨0x48, [], 7, 0, .w1c, 0x0, 0, 0xff⟩
  | .modFeclkDev => ⟨0x60, [(8, 4)], 23, 0, .ro, 0x0, 0, 0xffffff⟩
  | .chCtrlRequeue => ⟨0x10000, [(128, 512)], 1, 1, .wo, 0x0, 0, 0x1⟩
  | .chCtrlEn => ⟨0x10000, [(128, 512)], 0, 0, .rw, 0x0, 0, 0x1⟩
  | .chStatusClamped => ⟨0x10004, [(128, 512)], 31, 31, .ro, 0x0, 0, 0x1⟩
  | .chStatusPartial => ⟨0x10004, [(128, 512)], 30, 30, .ro, 0x0, 0, 0x1⟩
  | .chStatusAbsentPending => ⟨0x10004, [(128, 512)], 29, 29, .ro, 0x0, 0, 0x1⟩
  | .chStatusSeatRaw => ⟨0x10004, [(128, 512)], 28, 28, .ro, 0x0, 0, 0x1⟩
  | .chStatusSeated => ⟨0x10004, [(128, 512)], 27, 27, .ro, 0x0, 0, 0x1⟩
  | .chStatusGangMember => ⟨0x10004, [(128, 512)], 26, 26, .ro, 0x0, 0, 0x1⟩
  | .chStatusPriorState => ⟨0x10004, [(128, 512)], 23, 16, .ro, 0x0, 0, 0xff⟩
  | .chStatusReason => ⟨0x10004, [(128, 512)], 15, 8, .ro, 0x0, 0, 0xff⟩
  | .chStatusState => ⟨0x10004, [(128, 512)], 7, 0, .ro, 0xf, 0, 0xff⟩
  | .chLastTripDarnMaxEff => ⟨0x10008, [(128, 512)], 31, 28, .ro, 0x0, 0, 0xf⟩
  | .chLastTripDarnCount => ⟨0x10008, [(128, 512)], 27, 24, .ro, 0x0, 0, 0xf⟩
  | .chLastTripStateAtTrip => ⟨0x10008, [(128, 512)], 15, 8, .ro, 0x0, 0, 0xff⟩
  | .chLastTripTripReason => ⟨0x10008, [(128, 512)], 7, 0, .ro, 0x0, 0, 0xff⟩
  | .chSeatcfgLossUs => ⟨0x1000c, [(128, 512)], 31, 24, .rw, 0x0, 10, 0xff⟩
  | .chSeatcfgAqMs => ⟨0x1000c, [(128, 512)], 23, 10, .rw, 0x0, 10, 0x2710⟩
  | .chSeatcfgDebounceMs => ⟨0x1000c, [(128, 512)], 9, 0, .rw, 0x0, 1, 0x3e8⟩
  | .chRampGateOn => ⟨0x10010, [(128, 512)], 31, 24, .rw, 0x0, 50, 0x73⟩
  | .chRampDoneVds => ⟨0x10010, [(128, 512)], 23, 16, .rw, 0x0, 5, 0xff⟩
  | .chRampTarget => ⟨0x10010, [(128, 512)], 15, 0, .rw, 0x0, 0, 0xffff⟩
  | .chLimitcfgExit => ⟨0x10014, [(128, 512)], 23, 16, .rw, 0x0, 1, 0xff⟩
  | .chLimitcfgIlimTmax => ⟨0x10014, [(128, 512)], 15, 0, .rw, 0x0, 4, 0x9c40⟩
  | .chTimersAqRem => ⟨0x10018, [(128, 512)], 31, 16, .ro, 0x0, 0, 0xffff⟩
  | .chTimersRetryRem => ⟨0x10018, [(128, 512)], 15, 0, .ro, 0x0, 0, 0xffff⟩
  | .chWaitHoldoffRem => ⟨0x1001c, [(128, 512)], 31, 16, .ro, 0x0, 0, 0xffff⟩
  | .chWaitCoolWait => ⟨0x1001c, [(128, 512)], 15, 15, .ro, 0x0, 0, 0x1⟩
  | .chWaitQpos => ⟨0x1001c, [(128, 512)], 7, 0, .ro, 0x0, 0, 0xff⟩
  | .chSeatTimeTime => ⟨0x10020, [(128, 512)], 63, 0, .ro, 0x0, 0, 0xffffffffffffffff⟩
  | .chClassGangSize => ⟨0x10028, [(128, 512)], 19, 16, .ro, 0x0, 0, 0xf⟩
  | .chClassGangLead => ⟨0x10028, [(128, 512)], 14, 8, .ro, 0x0, 0, 0x7f⟩
  | .chClassFclass => ⟨0x10028, [(128, 512)], 6, 4, .ro, 0x0, 0, 0x7⟩
  | .chClassPclass => ⟨0x10028, [(128, 512)], 1, 0, .rw, 0x0, 0, 0x3⟩
  | .chLoopcfgIsrc => ⟨0x10030, [(128, 512)], 31, 24, .rw, 0x0, 1, 0xfa⟩
  | .chLoopcfgBff => ⟨0x10030, [(128, 512)], 23, 22, .rw, 0x0, 0, 0x3⟩
  | .chLoopcfgLaw => ⟨0x10030, [(128, 512)], 21, 21, .ro, 0x0, 0, 0x1⟩
  | .chLoopcfgClearn => ⟨0x10030, [(128, 512)], 20, 20, .rw, 0x0, 0, 0x1⟩
  | .chLoopcfgIdxShift => ⟨0x10030, [(128, 512)], 19, 16, .rw, 0x0, 0, 0xa⟩
  | .chLoopcfgHem => ⟨0x10030, [(128, 512)], 13, 0, .rw, 0x0, 1, 0x2000⟩
  | .chIlimIlim => ⟨0x10034, [(128, 512)], 15, 0, .rw, 0x0, 1, 0x7fff⟩
  | .chRampctlRate => ⟨0x10038, [(128, 512)], 31, 16, .rw, 0x0, 1, 0xffff⟩
  | .chRampctlRound => ⟨0x10038, [(128, 512)], 15, 8, .rw, 0x0, 0, 0xff⟩
  | .chFfcfgCEst => ⟨0x1003c, [(128, 512)], 31, 16, .rw, 0x0, 0, 0xffff⟩
  | .chFfcfgKv => ⟨0x1003c, [(128, 512)], 15, 0, .rw, 0x0, 1, 0xffff⟩
  | .chFfstatCMeas => ⟨0x10040, [(128, 512)], 31, 16, .ro, 0x0, 0, 0xffff⟩
  | .chFfstatFfI => ⟨0x10040, [(128, 512)], 15, 0, .ro, 0x0, 0, 0xffff⟩
  | .chTjloopTjLim => ⟨0x10044, [(128, 512)], 27, 16, .rw, 0x0, 0, 0xfff⟩
  | .chTjloopKtj => ⟨0x10044, [(128, 512)], 15, 0, .rw, 0x0, 0, 0xffff⟩
  | .chFollowFeBand => ⟨0x10048, [(128, 512)], 23, 16, .rw, 0x0, 1, 0xff⟩
  | .chFollowFeTime => ⟨0x10048, [(128, 512)], 15, 0, .rw, 0x0, 1, 0xffff⟩
  | .chCapPCap => ⟨0x1004c, [(128, 512)], 15, 0, .ro, 0x7fff, 0, 0xffff⟩
  | .chLoopstatDsel => ⟨0x10050, [(128, 512)], 31, 16, .ro, 0x8000, 0, 0xffff⟩
  | .chLoopstatWin => ⟨0x10050, [(128, 512)], 10, 8, .ro, 0x0, 0, 0x7⟩
  | .chLoopstatFrozen => ⟨0x10050, [(128, 512)], 1, 1, .ro, 0x0, 0, 0x1⟩
  | .chLoopstatSat => ⟨0x10050, [(128, 512)], 0, 0, .ro, 0x0, 0, 0x1⟩
  | .tablesGainKp => ⟨0x80000, [(128, 128), (32, 4)], 31, 16, .rw, 0x0, 0, 0xffff⟩
  | .tablesGainKi => ⟨0x80000, [(128, 128), (32, 4)], 15, 0, .rw, 0x0, 0, 0xffff⟩
  | .feLoopstatDlyMax => ⟨0x20800, [(8, 4096)], 15, 0, .rc, 0x0, 0, 0xffff⟩
  | .feTrctlDone => ⟨0x20810, [(8, 4096)], 31, 31, .ro, 0x0, 0, 0x1⟩
  | .feTrctlArmed => ⟨0x20810, [(8, 4096)], 30, 30, .ro, 0x0, 0, 0x1⟩
  | .feTrctlTriggered => ⟨0x20810, [(8, 4096)], 29, 29, .ro, 0x0, 0, 0x1⟩
  | .feTrctlForce => ⟨0x20810, [(8, 4096)], 25, 25, .wo, 0x0, 0, 0x1⟩
  | .feTrctlArm => ⟨0x20810, [(8, 4096)], 24, 24, .wo, 0x0, 0, 0x1⟩
  | .feTrctlDiv => ⟨0x20810, [(8, 4096)], 23, 16, .rw, 0x0, 0, 0xff⟩
  | .feTrctlPre => ⟨0x20810, [(8, 4096)], 11, 0, .rw, 0x0, 0, 0xfff⟩
  | .feTrtrigTsrc => ⟨0x20814, [(8, 4096)], 31, 28, .rw, 0x0, 0, 0xf⟩
  | .feTrtrigTchan => ⟨0x20814, [(8, 4096)], 27, 24, .rw, 0x0, 0, 0xf⟩
  | .feTrtrigTwin => ⟨0x20814, [(8, 4096)], 23, 21, .rw, 0x0, 0, 0x7⟩
  | .feTrtrigTedge => ⟨0x20814, [(8, 4096)], 20, 20, .rw, 0x0, 0, 0x1⟩
  | .feTrtrigXout => ⟨0x20814, [(8, 4096)], 19, 19, .rw, 0x0, 0, 0x1⟩
  | .feTrtrigTlevel => ⟨0x20814, [(8, 4096)], 15, 0, .rw, 0x0, 0, 0xffff⟩
  | .feTrselNode => ⟨0x20818, [(8, 4096), (4, 4)], 12, 8, .rw, 0x0, 0, 0x1f⟩
  | .feTrselLch => ⟨0x20818, [(8, 4096), (4, 4)], 3, 0, .rw, 0x0, 0, 0xf⟩
  | .feTrstatTrigIdx => ⟨0x20828, [(8, 4096)], 11, 0, .ro, 0x0, 0, 0xfff⟩
  | .feTrtimeTime => ⟨0x20830, [(8, 4096)], 63, 0, .ro, 0x0, 0, 0xffffffffffffffff⟩
  | .chHtripHtFine => ⟨0x10060, [(128, 512)], 8, 8, .rw, 0x0, 0, 0x1⟩
  | .chHtripHtCode => ⟨0x10060, [(128, 512)], 7, 0, .rw, 0x0, 5, 0xff⟩
  | .chSoacfgHorizon => ⟨0x10064, [(128, 512)], 31, 16, .rw, 0x0, 1, 0x2710⟩
  | .chSoacfgTjSoa => ⟨0x10064, [(128, 512)], 11, 0, .rw, 0x0, 0, 0xfff⟩
  | .chTjtripTjTrip => ⟨0x10068, [(128, 512)], 27, 16, .rw, 0x0, 0, 0xfff⟩
  | .chTjtripTsTrip => ⟨0x10068, [(128, 512)], 11, 0, .rw, 0x0, 0, 0xfff⟩
  | .chAmbcfgAmbSrc => ⟨0x1006c, [(128, 512)], 31, 31, .rw, 0x0, 0, 0x1⟩
  | .chAmbcfgTsFitted => ⟨0x1006c, [(128, 512)], 30, 30, .rw, 0x0, 0, 0x1⟩
  | .chAmbcfgSenseMask => ⟨0x1006c, [(128, 512)], 27, 24, .rw, 0x0, 0, 0xf⟩
  | .chAmbcfgRestartRise => ⟨0x1006c, [(128, 512)], 23, 16, .rw, 0x0, 4, 0xff⟩
  | .chAmbcfgAmbFixed => ⟨0x1006c, [(128, 512)], 11, 0, .rw, 0x0, 0, 0xfff⟩
  | .chMismatchMmTime => ⟨0x10070, [(128, 512)], 31, 16, .rw, 0x0, 1, 0xffff⟩
  | .chMismatchMmBand => ⟨0x10070, [(128, 512)], 7, 0, .rw, 0x0, 4, 0xff⟩
  | .chGstallGsExpect => ⟨0x10074, [(128, 512)], 23, 16, .rw, 0x0, 10, 0x64⟩
  | .chGstallGsTime => ⟨0x10074, [(128, 512)], 15, 0, .rw, 0x0, 10, 0xffff⟩
  | .chFshortFsSettle => ⟨0x10078, [(128, 512)], 31, 24, .rw, 0x0, 1, 0xff⟩
  | .chFshortFsVout => ⟨0x10078, [(128, 512)], 23, 16, .rw, 0x0, 2, 0x96⟩
  | .chFshortFsRise => ⟨0x10078, [(128, 512)], 15, 8, .rw, 0x0, 5, 0xff⟩
  | .chFshortFsTime => ⟨0x10078, [(128, 512)], 7, 0, .rw, 0x0, 1, 0xff⟩
  | .chFsiminFsImin => ⟨0x1007c, [(128, 512)], 15, 0, .rw, 0x0, 1, 0x7fff⟩
  | .chEsoaESoa => ⟨0x10080, [(128, 512)], 15, 0, .rw, 0x0, 1, 0xffff⟩
  | .chSafestatPlim => ⟨0x10084, [(128, 512)], 31, 16, .ro, 0x0, 0, 0xffff⟩
  | .chSafestatPlimSrc => ⟨0x10084, [(128, 512)], 15, 14, .ro, 0x0, 0, 0x3⟩
  | .chSafestatTripLatch => ⟨0x10084, [(128, 512)], 7, 7, .ro, 0x0, 0, 0x1⟩
  | .chSafestatHtCmp => ⟨0x10084, [(128, 512)], 6, 6, .ro, 0x0, 0, 0x1⟩
  | .chSafestatMismatch => ⟨0x10084, [(128, 512)], 5, 5, .ro, 0x0, 0, 0x1⟩
  | .chSafestatShortNow => ⟨0x10084, [(128, 512)], 4, 4, .ro, 0x0, 0, 0x1⟩
  | .chSafestatStallRun => ⟨0x10084, [(128, 512)], 3, 3, .ro, 0x0, 0, 0x1⟩
  | .chSafestatEpiRun => ⟨0x10084, [(128, 512)], 2, 2, .ro, 0x0, 0, 0x1⟩
  | .chSafestatTsOpen => ⟨0x10084, [(128, 512)], 1, 1, .ro, 0x0, 0, 0x1⟩
  | .chThermTjEst => ⟨0x10088, [(128, 512)], 27, 16, .ro, 0x0, 0, 0xfff⟩
  | .chThermTsMeas => ⟨0x10088, [(128, 512)], 11, 0, .ro, 0x0, 0, 0xfff⟩
  | .chEpisodeEEpi => ⟨0x1008c, [(128, 512)], 31, 0, .ro, 0x0, 0, 0xffffffff⟩
  | .chTsestTsEst => ⟨0x10090, [(128, 512)], 11, 0, .ro, 0x0, 0, 0xfff⟩
  | .poleRthRth => ⟨0x84000, [(128, 128), (4, 8)], 15, 0, .rw, 0x0, 0, 0xffff⟩
  | .poleTauTau => ⟨0x84004, [(128, 128), (4, 8)], 31, 0, .rw, 0x0, 0, 0xffffffff⟩
  | .kcoefExp => ⟨0x84020, [(128, 128), (4, 4)], 28, 24, .ro, 0x0, 0, 0x1f⟩
  | .kcoefMant => ⟨0x84020, [(128, 128), (4, 4)], 23, 0, .ro, 0x0, 0, 0xffffff⟩
  | .hcoefExp => ⟨0x84040, [(128, 128), (4, 4)], 28, 24, .ro, 0x0, 0, 0x1f⟩
  | .hcoefMant => ⟨0x84040, [(128, 128), (4, 4)], 23, 0, .ro, 0x0, 0, 0xffffff⟩
  | .gcoefValue => ⟨0x84030, [(128, 128), (4, 4)], 31, 0, .ro, 0x0, 0, 0xffffffff⟩
  | .zlaValue => ⟨0x84050, [(128, 128)], 31, 0, .ro, 0x0, 0, 0xffffffff⟩
  | .soaVdsBp => ⟨0x84060, [(128, 128), (8, 4)], 31, 16, .rw, 0x0, 0, 0xffff⟩
  | .soaPMax => ⟨0x84060, [(128, 128), (8, 4)], 15, 0, .rw, 0x0, 0, 0xffff⟩
  | .chTrippolBusUnder => ⟨0x100a0, [(128, 512)], 19, 18, .rw, 0x0, 0, 0x3⟩
  | .chTrippolBusOver => ⟨0x100a0, [(128, 512)], 17, 16, .rw, 0x0, 0, 0x3⟩
  | .chTrippolOpenWire => ⟨0x100a0, [(128, 512)], 15, 14, .rw, 0x0, 0, 0x3⟩
  | .chTrippolGateStall => ⟨0x100a0, [(128, 512)], 13, 12, .ro, 0x1, 0, 0x3⟩
  | .chTrippolFollow => ⟨0x100a0, [(128, 512)], 11, 10, .rw, 0x0, 0, 0x3⟩
  | .chTrippolTjMeasured => ⟨0x100a0, [(128, 512)], 9, 8, .rw, 0x0, 0, 0x3⟩
  | .chTrippolTjModel => ⟨0x100a0, [(128, 512)], 7, 6, .rw, 0x0, 0, 0x3⟩
  | .chTrippolSoaEnergy => ⟨0x100a0, [(128, 512)], 5, 4, .rw, 0x0, 0, 0x3⟩
  | .chTrippolIlimTimeout => ⟨0x100a0, [(128, 512)], 3, 2, .rw, 0x0, 0, 0x3⟩
  | .chTrippolHardtrip => ⟨0x100a0, [(128, 512)], 1, 0, .rw, 0x0, 0, 0x3⟩
  | .chRetryBackoff => ⟨0x100a4, [(128, 512)], 29, 28, .rw, 0x0, 0, 0x3⟩
  | .chRetryDarnMax => ⟨0x100a4, [(128, 512)], 27, 24, .rw, 0x0, 0, 0xf⟩
  | .chRetryRetryInterval => ⟨0x100a4, [(128, 512)], 15, 0, .rw, 0x0, 1, 0xea60⟩
  | .chBuswinBusTime => ⟨0x100a8, [(128, 512)], 31, 24, .rw, 0x0, 1, 0xff⟩
  | .chBuswinBusOv => ⟨0x100a8, [(128, 512)], 21, 12, .rw, 0x0, 400, 0x320⟩
  | .chBuswinBusUv => ⟨0x100a8, [(128, 512)], 9, 0, .rw, 0x0, 240, 0x21c⟩
  | .chTripcntLatches => ⟨0x100ac, [(128, 512)], 31, 16, .ro, 0x0, 0, 0xffff⟩
  | .chTripcntTrips => ⟨0x100ac, [(128, 512)], 15, 0, .ro, 0x0, 0, 0xffff⟩
  | .chTriptimeTime => ⟨0x100b0, [(128, 512)], 63, 0, .ro, 0x0, 0, 0xffffffffffffffff⟩
  | .chBallocCapFloor => ⟨0x100c0, [(128, 512)], 31, 16, .rw, 0x0, 0, 0xffff⟩
  | .chBallocAlloc => ⟨0x100c0, [(128, 512)], 15, 0, .rw, 0x0, 0, 0xffff⟩
  | .chBresRes => ⟨0x100c4, [(128, 512)], 23, 0, .ro, 0x0, 0, 0xffffff⟩
  | .chBcapCapOn => ⟨0x100c8, [(128, 512)], 16, 16, .ro, 0x0, 0, 0x1⟩
  | .chBcapCapW => ⟨0x100c8, [(128, 512)], 15, 0, .ro, 0x0, 0, 0xffff⟩
  | .chBwaitSlotRem => ⟨0x100cc, [(128, 512)], 31, 16, .ro, 0xffff, 0, 0xffff⟩
  | .chBwaitWait => ⟨0x100cc, [(128, 512)], 3, 0, .ro, 0x0, 0, 0xf⟩
  | .chQageAge => ⟨0x100d0, [(128, 512)], 31, 0, .ro, 0x0, 0, 0xffffffff⟩
  | .chByieldFavoured => ⟨0x100d4, [(128, 512)], 15, 8, .ro, 0x0, 0, 0xff⟩
  | .chByieldGbroken => ⟨0x100d4, [(128, 512)], 2, 0, .ro, 0x0, 0, 0x7⟩
  | .chBguarGpart => ⟨0x100d8, [(128, 512)], 23, 0, .ro, 0x0, 0, 0xffffff⟩
  | .budgetCtrlOvertake => ⟨0x9000, [], 1, 1, .rw, 0x0, 0, 0x1⟩
  | .budgetCtrlMode => ⟨0x9000, [], 0, 0, .ro, 0x0, 0, 0x1⟩
  | .budgetShelfPShelf => ⟨0x9004, [], 23, 0, .rw, 0x0, 0, 0xffffff⟩
  | .budgetAvailFeederLimited => ⟨0x9008, [], 31, 31, .ro, 0x0, 0, 0x1⟩
  | .budgetAvailPAvail => ⟨0x9008, [], 23, 0, .ro, 0x0, 0, 0xffffff⟩
  | .budgetRessumValue => ⟨0x900c, [], 23, 0, .ro, 0x0, 0, 0xffffff⟩
  | .budgetPoolValue => ⟨0x9040, [], 23, 0, .ro, 0x0, 0, 0xffffff⟩
  | .budgetGuarValue => ⟨0x9010, [(4, 4)], 23, 0, .rw, 0x0, 0, 0xffffff⟩
  | .budgetGeffValue => ⟨0x9020, [(4, 4)], 23, 0, .ro, 0x0, 0, 0xffffff⟩
  | .budgetClassresValue => ⟨0x9030, [(4, 4)], 23, 0, .ro, 0x0, 0, 0xffffff⟩
  | .budgetRelaxRelaxTime => ⟨0x9044, [], 31, 24, .rw, 0x0, 1, 0xff⟩
  | .budgetRelaxRelaxMargin => ⟨0x9044, [], 23, 0, .rw, 0x0, 0, 0xffffff⟩
  | .budgetQlimitQueueLimit => ⟨0x9048, [(4, 4)], 15, 0, .rw, 0x0, 0, 0xffff⟩
  | .budgetStaggerStaggerPeriod => ⟨0x9058, [], 31, 16, .rw, 0x0, 1, 0xffff⟩
  | .budgetStaggerStaggerMin => ⟨0x9058, [], 15, 0, .rw, 0x0, 1, 0xffff⟩
  | .budgetStagstatNextRem => ⟨0x905c, [], 31, 16, .ro, 0xffff, 0, 0xffff⟩
  | .budgetStagstatFactor => ⟨0x905c, [], 15, 14, .ro, 0x0, 0, 0x3⟩
  | .budgetStagstatQlen => ⟨0x905c, [], 7, 0, .ro, 0x0, 0, 0xff⟩
  | .budgetLastrelTime => ⟨0x9060, [], 63, 0, .ro, 0x0, 0, 0xffffffffffffffff⟩
  | .budgetGstartGo => ⟨0x9068, [], 0, 0, .wo, 0x0, 0, 0x1⟩
  | .budgetGselSel => ⟨0x9070, [(4, 4)], 31, 0, .ro, 0x0, 0, 0xffffffff⟩
  | .budgetBusminBusMinTime => ⟨0x9080, [], 31, 24, .rw, 0x0, 1, 0xff⟩
  | .budgetBusminBusMin => ⟨0x9080, [], 9, 0, .rw, 0x0, 240, 0x21c⟩
  | .budgetHoldupReturnQual => ⟨0x9084, [], 31, 24, .rw, 0x0, 1, 0xff⟩
  | .budgetHoldupAcfailFilt => ⟨0x9084, [], 23, 16, .rw, 0x0, 1, 0xff⟩
  | .budgetHoldupBusWarnTime => ⟨0x9084, [], 15, 10, .rw, 0x0, 1, 0x3f⟩
  | .budgetHoldupBusWarn => ⟨0x9084, [], 9, 0, .rw, 0x0, 240, 0x21c⟩
  | .budgetHustageStageV => ⟨0x908c, [(4, 4)], 25, 16, .rw, 0x0, 240, 0x21c⟩
  | .budgetHustageDelay => ⟨0x908c, [(4, 4)], 15, 0, .rw, 0x0, 0, 0xffff⟩
  | .budgetHustatActive => ⟨0x909c, [], 31, 31, .ro, 0x0, 0, 0x1⟩
  | .budgetHustatReturning => ⟨0x909c, [], 30, 30, .ro, 0x0, 0, 0x1⟩
  | .budgetHustatDoneStage => ⟨0x909c, [], 26, 24, .ro, 0x0, 0, 0x7⟩
  | .budgetHustatRunStage => ⟨0x909c, [], 22, 20, .ro, 0x0, 0, 0x7⟩
  | .budgetHustatCompleted => ⟨0x909c, [], 9, 9, .w1c, 0x0, 0, 0x1⟩
  | .budgetHustatAborted => ⟨0x909c, [], 8, 8, .w1c, 0x0, 0, 0x1⟩
  | .budgetHustatTrigBus => ⟨0x909c, [], 2, 2, .ro, 0x0, 0, 0x1⟩
  | .budgetHustatTrigFeeder => ⟨0x909c, [], 1, 1, .ro, 0x0, 0, 0x1⟩
  | .budgetHustatTrigAcfail => ⟨0x909c, [], 0, 0, .ro, 0x0, 0, 0x1⟩
  | .budgetHutimeTime => ⟨0x90a0, [], 63, 0, .ro, 0x0, 0, 0xffffffffffffffff⟩
  | .budgetCapmaskMask => ⟨0x90b0, [(4, 4)], 31, 0, .ro, 0x0, 0, 0xffffffff⟩
  | .budgetShedmaskMask => ⟨0x90c0, [(4, 4)], 31, 0, .ro, 0x0, 0, 0xffffffff⟩
  | .feCvstatCvbRet => ⟨0x20000, [(8, 4096)], 31, 27, .ro, 0x0, 0, 0x1f⟩
  | .feCvstatCvbOut => ⟨0x20000, [(8, 4096)], 26, 24, .ro, 0x4, 0, 0x7⟩
  | .feCvstatCvaRet => ⟨0x20000, [(8, 4096)], 23, 19, .ro, 0x0, 0, 0x1f⟩
  | .feCvstatCvaOut => ⟨0x20000, [(8, 4096)], 18, 16, .ro, 0x4, 0, 0x7⟩
  | .feCvstatUrgent => ⟨0x20000, [(8, 4096)], 3, 3, .ro, 0x0, 0, 0x1⟩
  | .feCvstatLp => ⟨0x20000, [(8, 4096)], 2, 2, .ro, 0x0, 0, 0x1⟩
  | .feCvstatCalDefer => ⟨0x20000, [(8, 4096)], 1, 1, .ro, 0x0, 0, 0x1⟩
  | .feCvstatCalFrozen => ⟨0x20000, [(8, 4096)], 0, 0, .ro, 0x0, 0, 0x1⟩
  | .feCalcntLinRefresh => ⟨0x20004, [(8, 4096)], 31, 16, .ro, 0x0, 0, 0xffff⟩
  | .feCalcntVisits => ⟨0x20004, [(8, 4096)], 15, 0, .ro, 0x0, 0, 0xffff⟩
  | .feScanmask0En => ⟨0x20008, [(8, 4096)], 31, 0, .ro, 0xffffffff, 0, 0xffffffff⟩
  | .feScanmask1EnAux => ⟨0x2000c, [(8, 4096)], 31, 17, .ro, 0x0, 0, 0x7fff⟩
  | .feScanmask1EnBus => ⟨0x2000c, [(8, 4096)], 16, 16, .ro, 0x1, 0, 0x1⟩
  | .feScanmask1EnTs => ⟨0x2000c, [(8, 4096)], 15, 0, .ro, 0x0, 0, 0xffff⟩
  | .feScanstatUrgMax => ⟨0x20010, [(8, 4096)], 31, 16, .rc, 0x0, 0, 0xffff⟩
  | .feScanstatEntries => ⟨0x20010, [(8, 4096)], 6, 0, .ro, 0x21, 0, 0x7f⟩
  | .feIrangeApplied => ⟨0x20014, [(8, 4096)], 31, 16, .ro, 0x0, 0, 0xffff⟩
  | .feIrangeFine => ⟨0x20014, [(8, 4096)], 15, 0, .rw, 0x0, 0, 0xffff⟩
  | .feOwcfgPeriod => ⟨0x20018, [(8, 4096)], 31, 24, .rw, 0x0, 1, 0xff⟩
  | .feOwcfgConfirm => ⟨0x20018, [(8, 4096)], 23, 20, .rw, 0x0, 1, 0xf⟩
  | .feOwcfgCsThr => ⟨0x20018, [(8, 4096)], 15, 8, .rw, 0x0, 2, 0x64⟩
  | .feOwcfgTsThr => ⟨0x20018, [(8, 4096)], 7, 0, .rw, 0x0, 5, 0xc8⟩
  | .feOwstatTsOpen => ⟨0x2001c, [(8, 4096)], 31, 16, .ro, 0x0, 0, 0xffff⟩
  | .feOwstatCsOpen => ⟨0x2001c, [(8, 4096)], 15, 0, .ro, 0x0, 0, 0xffff⟩
  | .feConvctlGo => ⟨0x20020, [(8, 4096)], 31, 31, .wo, 0x0, 0, 0x1⟩
  | .feConvctlBusy => ⟨0x20020, [(8, 4096)], 25, 25, .ro, 0x0, 0, 0x1⟩
  | .feConvctlMissed => ⟨0x20020, [(8, 4096)], 24, 24, .w1c, 0x0, 0, 0x1⟩
  | .feConvctlNavg => ⟨0x20020, [(8, 4096)], 23, 16, .rw, 0x0, 0, 0xff⟩
  | .feConvctlSrc => ⟨0x20020, [(8, 4096)], 9, 8, .rw, 0x0, 0, 0x3⟩
  | .feConvctlInput => ⟨0x20020, [(8, 4096)], 6, 0, .rw, 0x43, 0, 0x7f⟩
  | .feConvRdy => ⟨0x20024, [(8, 4096)], 31, 31, .rc, 0x0, 0, 0x1⟩
  | .feConvOvr => ⟨0x20024, [(8, 4096)], 30, 30, .rc, 0x0, 0, 0x1⟩
  | .feConvSeq => ⟨0x20024, [(8, 4096)], 29, 24, .ro, 0x0, 0, 0x3f⟩
  | .feConvResult => ⟨0x20024, [(8, 4096)], 23, 0, .ro, 0x0, 0, 0xffffff⟩
  | .feConvtimeTime => ⟨0x20028, [(8, 4096)], 63, 0, .ro, 0x0, 0, 0xffffffffffffffff⟩
  | .feConvtseqSeq => ⟨0x20030, [(8, 4096)], 5, 0, .ro, 0x0, 0, 0x3f⟩
  | .feBusbandNlev => ⟨0x20034, [(8, 4096)], 15, 8, .ro, 0x0, 0, 0xff⟩
  | .feBusbandBand => ⟨0x20034, [(8, 4096)], 6, 0, .ro, 0x0, 0, 0x7f⟩
  | .feTsmodeMode => ⟨0x20038, [(8, 4096)], 31, 0, .rw, 0x0, 0, 0xffffffff⟩
  | .feTslinSlope => ⟨0x2003c, [(8, 4096)], 31, 16, .rw, 0x0, 1, 0xffff⟩
  | .feTslinV0 => ⟨0x2003c, [(8, 4096)], 15, 0, .rw, 0x0, 0, 0xffff⟩
  | .feTsdiodeEta => ⟨0x20064, [(8, 4096)], 15, 0, .rw, 0x0, 16384, 0x4666⟩
  | .feCapctlForce => ⟨0x20040, [(8, 4096)], 31, 31, .wo, 0x0, 0, 0x1⟩
  | .feCapctlAbort => ⟨0x20040, [(8, 4096)], 30, 30, .wo, 0x0, 0, 0x1⟩
  | .feCapctlTsrc => ⟨0x20040, [(8, 4096)], 27, 24, .rw, 0x0, 0, 0xf⟩
  | .feCapctlTunit => ⟨0x20040, [(8, 4096)], 23, 17, .rw, 0x0, 0, 0x7f⟩
  | .feCapctlWide => ⟨0x20040, [(8, 4096)], 16, 16, .rw, 0x0, 0, 0x1⟩
  | .feCapctlXout => ⟨0x20040, [(8, 4096)], 15, 15, .rw, 0x0, 0, 0x1⟩
  | .feCapctlEn => ⟨0x20040, [(8, 4096)], 14, 14, .rw, 0x0, 0, 0x1⟩
  | .feCapctlInput => ⟨0x20040, [(8, 4096)], 6, 0, .rw, 0x0, 0, 0x7f⟩
  | .feCaplenLen => ⟨0x20044, [(8, 4096)], 10, 0, .rw, 0x0, 1, 0x400⟩
  | .feCapstatBusy => ⟨0x20048, [(8, 4096)], 31, 31, .ro, 0x0, 0, 0x1⟩
  | .feCapstatWideRun => ⟨0x20048, [(8, 4096)], 30, 30, .ro, 0x0, 0, 0x1⟩
  | .feCapstatCut => ⟨0x20048, [(8, 4096)], 29, 29, .w1c, 0x0, 0, 0x1⟩
  | .feCapstatMissed => ⟨0x20048, [(8, 4096)], 28, 28, .w1c, 0x0, 0, 0x1⟩
  | .feCapstatCount => ⟨0x20048, [(8, 4096)], 23, 0, .ro, 0x0, 0, 0xffffff⟩
  | .feCaptimeTime => ⟨0x20050, [(8, 4096)], 63, 0, .ro, 0x0, 0, 0xffffffffffffffff⟩
  | .feWevtsumWevt => ⟨0x20058, [(8, 4096), (3, 4)], 31, 0, .ro, 0x0, 0, 0xffffffff⟩
  | .feSliceOfs => ⟨0x20080, [(8, 4096), (10, 12)], 15, 0, .ro, 0x0, 0, 0xffff⟩
  | .feSliceGain => ⟨0x20084, [(8, 4096), (10, 12)], 15, 0, .ro, 0x0, 0, 0xffff⟩
  | .feSliceSkew => ⟨0x20088, [(8, 4096), (10, 12)], 9, 0, .ro, 0x0, 0, 0x3ff⟩
  | .feLadderLevel => ⟨0x20100, [(8, 4096), (64, 4)], 15, 0, .ro, 0x0, 0, 0xffff⟩
  | .feEntryInput => ⟨0x20200, [(8, 4096), (64, 4)], 6, 0, .ro, 0x0, 0, 0x7f⟩
  | .fuFcfgOrder => ⟨0x20300, [(8, 4096), (80, 16)], 31, 30, .ro, 0x0, 0, 0x3⟩
  | .fuFcfgSettle => ⟨0x20300, [(8, 4096), (80, 16)], 29, 27, .ro, 0x0, 0, 0x7⟩
  | .fuFcfgWen => ⟨0x20300, [(8, 4096), (80, 16)], 24, 24, .rw, 0x0, 0, 0x1⟩
  | .fuFcfgWhyst => ⟨0x20300, [(8, 4096), (80, 16)], 23, 16, .rw, 0x0, 0, 0xff⟩
  | .fuFcfgRatio => ⟨0x20300, [(8, 4096), (80, 16)], 15, 0, .ro, 0x0, 0, 0xffff⟩
  | .fuWloLevel => ⟨0x20304, [(8, 4096), (80, 16)], 23, 0, .rw, 0x0, 0, 0xffffff⟩
  | .fuWhiLevel => ⟨0x20308, [(8, 4096), (80, 16)], 23, 0, .rw, 0x0, 0, 0xffffff⟩
  | .fuFresValid => ⟨0x2030c, [(8, 4096), (80, 16)], 31, 31, .ro, 0x0, 0, 0x1⟩
  | .fuFresGap => ⟨0x2030c, [(8, 4096), (80, 16)], 30, 30, .ro, 0x0, 0, 0x1⟩
  | .fuFresOutside => ⟨0x2030c, [(8, 4096), (80, 16)], 29, 29, .ro, 0x0, 0, 0x1⟩
  | .fuFresWevt => ⟨0x2030c, [(8, 4096), (80, 16)], 28, 28, .w1c, 0x0, 0, 0x1⟩
  | .fuFresSeq => ⟨0x2030c, [(8, 4096), (80, 16)], 27, 24, .ro, 0x0, 0, 0xf⟩
  | .fuFresValue => ⟨0x2030c, [(8, 4096), (80, 16)], 23, 0, .ro, 0x0, 0, 0xffffff⟩
  | .chRshRshNom => ⟨0x100e0, [(128, 512)], 31, 0, .ro, 0x0, 0, 0xffffffff⟩
  | .chShgainShGain => ⟨0x100e4, [(128, 512)], 31, 0, .ro, 0x0, 0, 0xffffffff⟩
  | .chShtcShTc1 => ⟨0x100e8, [(128, 512)], 31, 16, .ro, 0x0, 0, 0xffff⟩
  | .chShtcShTc2 => ⟨0x100e8, [(128, 512)], 15, 0, .ro, 0x0, 0, 0xffff⟩
  | .chShcfgTsrc => ⟨0x100ec, [(128, 512)], 31, 31, .ro, 0x0, 0, 0x1⟩
  | .chShcfgShTref => ⟨0x100ec, [(128, 512)], 27, 16, .ro, 0x0, 0, 0xfff⟩
  | .chShcfgShOfs => ⟨0x100ec, [(128, 512)], 15, 0, .ro, 0x0, 0, 0xffff⟩
  | .chMstatNocal => ⟨0x100f0, [(128, 512)], 7, 7, .ro, 0x0, 0, 0x1⟩
  | .chMstatFrozen => ⟨0x100f0, [(128, 512)], 6, 6, .ro, 0x0, 0, 0x1⟩
  | .chMstatBufq => ⟨0x100f0, [(128, 512)], 5, 5, .ro, 0x0, 0, 0x1⟩
  | .chMstatRefq => ⟨0x100f0, [(128, 512)], 4, 4, .ro, 0x0, 0, 0x1⟩
  | .chMstatWarm => ⟨0x100f0, [(128, 512)], 3, 3, .ro, 0x1, 0, 0x1⟩
  | .chMstatShtFb => ⟨0x100f0, [(128, 512)], 2, 2, .ro, 0x0, 0, 0x1⟩
  | .chMstatHold => ⟨0x100f0, [(128, 512)], 1, 1, .ro, 0x0, 0, 0x1⟩
  | .chMstatSlot => ⟨0x100f0, [(128, 512)], 0, 0, .ro, 0x0, 0, 0x1⟩
  | .chMvoltV => ⟨0x100f4, [(128, 512)], 31, 0, .ro, 0x0, 0, 0xffffffff⟩
  | .chMcurrI => ⟨0x100f8, [(128, 512)], 31, 0, .ro, 0x0, 0, 0xffffffff⟩
  | .chMpowP => ⟨0x100fc, [(128, 512)], 31, 0, .ro, 0x0, 0, 0xffffffff⟩
  | .metaCalstatSwapRefused => ⟨0xb000, [], 9, 9, .w1c, 0x0, 0, 0x1⟩
  | .metaCalstatTimeUntraced => ⟨0xb000, [], 8, 8, .ro, 0x0, 0, 0x1⟩
  | .metaCalstatFailed => ⟨0xb000, [], 7, 7, .w1c, 0x0, 0, 0x1⟩
  | .metaCalstatDone => ⟨0xb000, [], 6, 6, .w1c, 0x0, 0, 0x1⟩
  | .metaCalstatRollback => ⟨0xb000, [], 5, 5, .w1c, 0x0, 0, 0x1⟩
  | .metaCalstatNone => ⟨0xb000, [], 4, 4, .ro, 0x0, 0, 0x1⟩
  | .metaCalstatBank => ⟨0xb000, [], 1, 0, .ro, 0x0, 0, 0x3⟩
  | .metaEpochEpoch => ⟨0xb004, [], 31, 0, .ro, 0x0, 0, 0xffffffff⟩
  | .metaCalseqSeq => ⟨0xb008, [], 31, 0, .ro, 0x0, 0, 0xffffffff⟩
  | .metaCalctlStart => ⟨0xb00c, [], 31, 31, .wo, 0x0, 0, 0x1⟩
  | .metaCalctlAbort => ⟨0xb00c, [], 30, 30, .wo, 0x0, 0, 0x1⟩
  | .metaCalctlSwap => ⟨0xb00c, [], 25, 25, .rw, 0x0, 0, 0x1⟩
  | .metaCalctlSlots => ⟨0xb00c, [], 23, 20, .rw, 0x4, 0, 0xf⟩
  | .metaCalctlMode => ⟨0xb00c, [], 1, 0, .rw, 0x0, 0, 0x3⟩
  | .metaCalprogPhase => ⟨0xb010, [], 31, 28, .ro, 0x0, 0, 0xf⟩
  | .metaCalprogFailCode => ⟨0xb010, [], 23, 16, .ro, 0x0, 0, 0xff⟩
  | .metaCalprogFailCh => ⟨0xb010, [], 15, 8, .ro, 0xff, 0, 0xff⟩
  | .metaCalprogDoneCh => ⟨0xb010, [], 7, 0, .ro, 0x0, 0, 0xff⟩
  | .metaCalintDueRem => ⟨0xb014, [], 31, 16, .ro, 0x0, 0, 0xffff⟩
  | .metaCalintInterval => ⟨0xb014, [], 11, 0, .rw, 0x0, 1, 0xe42⟩
  | .metaRefstatBuf => ⟨0xb018, [], 31, 24, .ro, 0x0, 0, 0xff⟩
  | .metaRefstatHeaterFault => ⟨0xb018, [], 3, 3, .ro, 0x0, 0, 0x1⟩
  | .metaRefstatWatch => ⟨0xb018, [], 2, 2, .ro, 0x0, 0, 0x1⟩
  | .metaRefstatWarmDone => ⟨0xb018, [], 1, 1, .ro, 0x0, 0, 0x1⟩
  | .metaRefstatValid => ⟨0xb018, [], 0, 0, .ro, 0x0, 0, 0x1⟩
  | .metaRefdevDev => ⟨0xb01c, [], 31, 0, .ro, 0x80000000, 0, 0xffffffff⟩
  | .metaRefdieDev => ⟨0xb020, [(8, 4)], 31, 0, .ro, 0x80000000, 0, 0xffffffff⟩
  | .metaCalinV => ⟨0xb040, [], 31, 0, .ro, 0x0, 0, 0xffffffff⟩
  | .metaWarmWarmRem => ⟨0xb044, [], 15, 0, .ro, 0xffff, 0, 0xffff⟩
  | .metaDigestD => ⟨0xb060, [(8, 4)], 31, 0, .ro, 0x0, 0, 0xffffffff⟩
  | .metaCoefselBank => ⟨0xb080, [], 8, 8, .rw, 0x0, 0, 0x1⟩
  | .metaCoefselSel => ⟨0xb080, [], 7, 0, .rw, 0x0, 0, 0xff⟩
  | .metaCoefValue => ⟨0xb084, [(9, 4)], 31, 0, .ro, 0x0, 0, 0xffffffff⟩
  | .metaTraceBytes => ⟨0xb100, [(64, 4)], 31, 0, .ro, 0x0, 0, 0xffffffff⟩
  | .metaStageBytes => ⟨0xb200, [(64, 4)], 31, 0, .rw, 0x0, 0, 0xffffffff⟩
  | .energyAcc => ⟨0x30000, [(128, 16)], 127, 0, .ro, 0x0, 0, 0xffffffffffffffffffffffffffffffff⟩
  | .energyTotalAcc => ⟨0x30800, [], 127, 0, .ro, 0x0, 0, 0xffffffffffffffffffffffffffffffff⟩
  | .energyCkptTime => ⟨0x30810, [], 63, 0, .ro, 0x0, 0, 0xffffffffffffffff⟩
  | .energyStatOriginUnverified => ⟨0x30818, [], 3, 3, .ro, 0x0, 0, 0x1⟩
  | .energyStatOriginLedger => ⟨0x30818, [], 2, 2, .ro, 0x0, 0, 0x1⟩
  | .energyStatUnmetered => ⟨0x30818, [], 1, 1, .w1c, 0x0, 0, 0x1⟩
  | .energyStatCkptFail => ⟨0x30818, [], 0, 0, .w1c, 0x0, 0, 0x1⟩
  | .metaBenchctlEnter => ⟨0xb300, [], 31, 31, .wo, 0x0, 0, 0x1⟩
  | .metaBenchctlExit => ⟨0xb300, [], 30, 30, .wo, 0x0, 0, 0x1⟩
  | .metaBenchctlTrig => ⟨0xb300, [], 29, 29, .wo, 0x0, 0, 0x1⟩
  | .metaBenchctlZero => ⟨0xb300, [], 28, 28, .wo, 0x0, 0, 0x1⟩
  | .metaBenchcfgEdge => ⟨0xb304, [], 31, 30, .rw, 0x1, 0, 0x3⟩
  | .metaBenchcfgRatio => ⟨0xb304, [], 29, 29, .rw, 0x0, 0, 0x1⟩
  | .metaBenchcfgDwell => ⟨0xb304, [], 23, 16, .rw, 0x10, 0, 0xff⟩
  | .metaBenchcfgNavg => ⟨0xb304, [], 15, 0, .rw, 0xfff, 0, 0xffff⟩
  | .metaBenchstatRefuse => ⟨0xb308, [], 7, 4, .ro, 0x0, 0, 0xf⟩
  | .metaBenchstatRefused => ⟨0xb308, [], 3, 3, .w1c, 0x0, 0, 0x1⟩
  | .metaBenchstatReady => ⟨0xb308, [], 2, 2, .ro, 0x0, 0, 0x1⟩
  | .metaBenchstatExiting => ⟨0xb308, [], 1, 1, .ro, 0x0, 0, 0x1⟩
  | .metaBenchstatActive => ⟨0xb308, [], 0, 0, .ro, 0x0, 0, 0x1⟩
  | .metaBenchdieSeq => ⟨0xb320, [(8, 4)], 31, 16, .ro, 0x0, 0, 0xffff⟩
  | .metaBenchdieCaldrift => ⟨0xb320, [(8, 4)], 3, 3, .ro, 0x0, 0, 0x1⟩
  | .metaBenchdieMissed => ⟨0xb320, [(8, 4)], 2, 2, .w1c, 0x0, 0, 0x1⟩
  | .metaBenchdieRest => ⟨0xb320, [(8, 4)], 1, 1, .ro, 0x0, 0, 0x1⟩
  | .metaBenchdieBusy => ⟨0xb320, [(8, 4)], 0, 0, .ro, 0x0, 0, 0x1⟩
  | .bresValueValue => ⟨0x20c00, [(8, 4096), (50, 16)], 63, 0, .ro, 0x0, 0, 0xffffffffffffffff⟩
  | .bresStatSeq => ⟨0x20c08, [(8, 4096), (50, 16)], 31, 16, .ro, 0x0, 0, 0xffff⟩
  | .bresStatValid => ⟨0x20c08, [(8, 4096), (50, 16)], 15, 15, .ro, 0x0, 0, 0x1⟩
  | .bresStatFine => ⟨0x20c08, [(8, 4096), (50, 16)], 14, 14, .ro, 0x0, 0, 0x1⟩
  | .bresStatZeroed => ⟨0x20c08, [(8, 4096), (50, 16)], 13, 13, .ro, 0x0, 0, 0x1⟩
  | .bresStatRatio => ⟨0x20c08, [(8, 4096), (50, 16)], 12, 12, .ro, 0x0, 0, 0x1⟩
  | .bresStatSat => ⟨0x20c08, [(8, 4096), (50, 16)], 11, 11, .ro, 0x0, 0, 0x1⟩
  | .bresStatCond => ⟨0x20c08, [(8, 4096), (50, 16)], 5, 0, .ro, 0x0, 0, 0x3f⟩
  | .feBzeroZero => ⟨0x20f20, [(8, 4096), (50, 4)], 31, 0, .rw, 0x0, 0, 0xffffffff⟩
  | .feBpts0En => ⟨0x20ff0, [(8, 4096)], 31, 0, .rw, 0xffffffff, 0, 0xffffffff⟩
  | .feBpts1En => ⟨0x20ff4, [(8, 4096)], 17, 0, .rw, 0x3ffff, 0, 0x3ffff⟩
  | .feBtimeTime => ⟨0x20ff8, [(8, 4096)], 63, 0, .ro, 0x0, 0, 0xffffffffffffffff⟩
  | .tbNowTime => ⟨0x3000, [], 63, 0, .ro, 0x0, 0, 0xffffffffffffffff⟩
  | .tbLastppsTime => ⟨0x3020, [], 63, 0, .ro, 0x0, 0, 0xffffffffffffffff⟩
  | .tbSetsecTime => ⟨0x3028, [], 63, 0, .rw, 0x0, 0, 0xffffffffffffffff⟩
  | .tbLaststepDelta => ⟨0x3038, [], 63, 0, .ro, 0x0, 0, 0xffffffffffffffff⟩
  | .tbSteptimeTime => ⟨0x3040, [], 63, 0, .ro, 0x0, 0, 0xffffffffffffffff⟩
  | .tbStatMiss => ⟨0x3008, [], 31, 24, .ro, 0x0, 0, 0xff⟩
  | .tbStatGood => ⟨0x3008, [], 23, 16, .ro, 0x0, 0, 0xff⟩
  | .tbStatTimeSet => ⟨0x3008, [], 11, 11, .ro, 0x0, 0, 0x1⟩
  | .tbStatPpsExtra => ⟨0x3008, [], 10, 10, .w1c, 0x0, 0, 0x1⟩
  | .tbStatStepped => ⟨0x3008, [], 9, 9, .w1c, 0x0, 0, 0x1⟩
  | .tbStatIndexSlip => ⟨0x3008, [], 8, 8, .w1c, 0x0, 0, 0x1⟩
  | .tbStatHoldoverSeen => ⟨0x3008, [], 7, 7, .w1c, 0x0, 0, 0x1⟩
  | .tbStatState => ⟨0x3008, [], 2, 0, .ro, 0x0, 0, 0x7⟩
  | .tbDiscStepEn => ⟨0x300c, [], 31, 31, .rw, 0x0, 0, 0x1⟩
  | .tbDiscLockThr => ⟨0x300c, [], 27, 20, .rw, 0x0, 1, 0xff⟩
  | .tbDiscSlewWindow => ⟨0x300c, [], 16, 0, .rw, 0x0, 10, 0x186a0⟩
  | .tbPpscfgPpsDelay => ⟨0x3010, [], 31, 16, .rw, 0x0, 0, 0xffff⟩
  | .tbPpscfgMinw => ⟨0x3010, [], 15, 8, .rw, 0x0, 1, 0xff⟩
  | .tbPpscfgPpsEn => ⟨0x3010, [], 1, 1, .rw, 0x0, 0, 0x1⟩
  | .tbPpscfgEdge => ⟨0x3010, [], 0, 0, .rw, 0x0, 0, 0x1⟩
  | .tbPhaseE => ⟨0x3014, [], 31, 0, .ro, 0x80000000, 0, 0xffffffff⟩
  | .tbRateRate => ⟨0x3018, [], 31, 0, .ro, 0x0, 0, 0xffffffff⟩
  | .tbFreqSteer => ⟨0x301c, [], 31, 0, .ro, 0x0, 0, 0xffffffff⟩
  | .tbHoldsecSec => ⟨0x3034, [], 31, 0, .ro, 0x0, 0, 0xffffffff⟩
  | .tbSetctlNow => ⟨0x3030, [], 31, 31, .wo, 0x0, 0, 0x1⟩
  | .tbSetctlArm => ⟨0x3030, [], 30, 30, .wo, 0x0, 0, 0x1⟩
  | .tbSetctlAlign => ⟨0x3030, [], 29, 29, .wo, 0x0, 0, 0x1⟩
  | .tbSetctlCancel => ⟨0x3030, [], 28, 28, .wo, 0x0, 0, 0x1⟩
  | .tbSetctlArmed => ⟨0x3030, [], 8, 8, .ro, 0x0, 0, 0x1⟩
  | .tbSetctlCause => ⟨0x3030, [], 7, 4, .ro, 0x0, 0, 0xf⟩
  | .tbTmrctlInForce => ⟨0x3100, [], 4, 4, .ro, 0x1, 0, 0x1⟩
  | .tbTmrctlRecovery => ⟨0x3100, [], 3, 3, .ro, 0x0, 0, 0x1⟩
  | .tbTmrctlBench => ⟨0x3100, [], 2, 2, .ro, 0x0, 0, 0x1⟩
  | .tbTmrctlStart => ⟨0x3100, [], 1, 1, .ro, 0x1, 0, 0x1⟩
  | .tbTmrctlForce => ⟨0x3100, [], 0, 0, .rw, 0x0, 0, 0x1⟩
  | .tbRelctlGo => ⟨0x3104, [], 31, 31, .wo, 0x0, 0, 0x1⟩
  | .tbRelctlBusy => ⟨0x3104, [], 30, 30, .ro, 0x0, 0, 0x1⟩
  | .tbRelctlDone => ⟨0x3104, [], 29, 29, .w1c, 0x0, 0, 0x1⟩
  | .tbRelctlAtTime => ⟨0x3104, [], 28, 28, .rw, 0x0, 0, 0x1⟩
  | .tbRperiodPeriod => ⟨0x3108, [], 31, 0, .rw, 0x3e8, 0, 0xffffffff⟩
  | .tbReltimeTime => ⟨0x3110, [], 63, 0, .rw, 0x0, 0, 0xffffffffffffffff⟩
  | .tbRselSel => ⟨0x3120, [(8, 4)], 31, 0, .rw, 0x0, 0, 0xffffffff⟩
  | .tbMatchsumBits => ⟨0x3140, [(8, 4)], 31, 0, .ro, 0x0, 0, 0xffffffff⟩
  | .tbCapsumBits => ⟨0x3160, [(8, 4)], 31, 0, .ro, 0x0, 0, 0xffffffff⟩
  | .tmrCntCount => ⟨0x4000, [(256, 16)], 31, 0, .rw, 0x0, 0, 0xffffffff⟩
  | .tmrCmpValue => ⟨0x4004, [(256, 16)], 31, 0, .rw, 0xffffffff, 0, 0xffffffff⟩
  | .tmrCapvValue => ⟨0x400c, [(256, 16)], 31, 0, .ro, 0x0, 0, 0xffffffff⟩
  | .tmrCtrlMatch => ⟨0x4008, [(256, 16)], 31, 31, .w1c, 0x0, 0, 0x1⟩
  | .tmrCtrlCapf => ⟨0x4008, [(256, 16)], 30, 30, .w1c, 0x0, 0, 0x1⟩
  | .tmrCtrlCovr => ⟨0x4008, [(256, 16)], 29, 29, .w1c, 0x0, 0, 0x1⟩
  | .tmrCtrlRun => ⟨0x4008, [(256, 16)], 28, 28, .rw, 0x0, 0, 0x1⟩
  | .tmrCtrlAct => ⟨0x4008, [(256, 16)], 27, 26, .rw, 0x0, 0, 0x3⟩
  | .tmrCtrlTgt => ⟨0x4008, [(256, 16)], 25, 25, .rw, 0x0, 0, 0x1⟩
  | .tmrCtrlLink => ⟨0x4008, [(256, 16)], 24, 17, .rw, 0x0, 0, 0xff⟩
  | .tmrCtrlLapsafe => ⟨0x4008, [(256, 16)], 16, 16, .rw, 0x0, 0, 0x1⟩
  | .tmrCtrlHit => ⟨0x4008, [(256, 16)], 15, 15, .ro, 0x0, 0, 0x1⟩
  | .tmrCapcfgCen => ⟨0x3400, [(256, 4)], 31, 31, .rw, 0x0, 0, 0x1⟩
  | .tmrCapcfgEdge => ⟨0x3400, [(256, 4)], 30, 29, .rw, 0x0, 0, 0x3⟩
  | .tmrCapcfgMie => ⟨0x3400, [(256, 4)], 28, 28, .rw, 0x0, 0, 0x1⟩
  | .tmrCapcfgCie => ⟨0x3400, [(256, 4)], 27, 27, .rw, 0x0, 0, 0x1⟩
  | .tmrCapcfgFunit => ⟨0x3400, [(256, 4)], 25, 24, .rw, 0x0, 0, 0x3⟩
  | .tmrCapcfgFilt => ⟨0x3400, [(256, 4)], 23, 16, .rw, 0x0, 0, 0xff⟩
  | .tmrCapcfgPresc => ⟨0x3400, [(256, 4)], 15, 8, .rw, 0x0, 0, 0xff⟩
  | .tmrCapcfgSrc => ⟨0x3400, [(256, 4)], 7, 0, .rw, 0xff, 0, 0xff⟩
  | .fanDutyDuty => ⟨0x3800, [(8, 16)], 13, 0, .rw, 0x2710, 0, 0x3fff⟩
  | .fanCfgTachEn => ⟨0x3804, [(8, 16)], 31, 31, .rw, 0x0, 0, 0x1⟩
  | .fanCfgPol => ⟨0x3804, [(8, 16)], 30, 30, .rw, 0x0, 0, 0x1⟩
  | .fanCfgPpr => ⟨0x3804, [(8, 16)], 27, 24, .rw, 0x2, 0, 0xf⟩
  | .fanCfgStall => ⟨0x3804, [(8, 16)], 23, 16, .rw, 0x14, 1, 0xff⟩
  | .fanSpeedRpm => ⟨0x3808, [(8, 16)], 15, 0, .ro, 0x0, 0, 0xffff⟩
  | .fanStatStall => ⟨0x380c, [(8, 16)], 31, 31, .ro, 0x0, 0, 0x1⟩
  | .fanStatStallSeen => ⟨0x380c, [(8, 16)], 30, 30, .w1c, 0x0, 0, 0x1⟩
  | .fanStatLive => ⟨0x380c, [(8, 16)], 13, 0, .ro, 0x2710, 0, 0x3fff⟩
  | .recCtrlFlush => ⟨0xa000, [], 3, 3, .wo, 0x0, 0, 0x1⟩
  | .recCtrlAutoPrepare => ⟨0xa000, [], 2, 2, .rw, 0x0, 0, 0x1⟩
  | .recStatTrendFill => ⟨0xa004, [], 31, 24, .ro, 0x0, 0, 0xff⟩
  | .recStatLedgerFill => ⟨0xa004, [], 23, 16, .ro, 0x0, 0, 0xff⟩
  | .recStatBasketDown => ⟨0xa004, [], 7, 7, .ro, 0x0, 0, 0x1⟩
  | .recStatSignFail => ⟨0xa004, [], 6, 6, .w1c, 0x0, 0, 0x1⟩
  | .recStatGapSeen => ⟨0xa004, [], 5, 5, .w1c, 0x0, 0, 0x1⟩
  | .recStatLedgerExt => ⟨0xa004, [], 4, 4, .ro, 0x0, 0, 0x1⟩
  | .recStatLedgerNearFull => ⟨0xa004, [], 3, 3, .ro, 0x0, 0, 0x1⟩
  | .recStatHeld => ⟨0xa004, [], 2, 2, .ro, 0x0, 0, 0x1⟩
  | .recStatMedia => ⟨0xa004, [], 1, 0, .ro, 0x0, 0, 0x3⟩
  | .recTrendcfgInterval => ⟨0xa008, [], 2, 0, .ro, 0x0, 0, 0x7⟩
  | .recDevctlEject => ⟨0xa010, [(2, 32)], 31, 31, .wo, 0x0, 0, 0x1⟩
  | .recDevctlPrepare => ⟨0xa010, [(2, 32)], 30, 30, .wo, 0x0, 0, 0x1⟩
  | .recDevctlCancel => ⟨0xa010, [(2, 32)], 29, 29, .wo, 0x0, 0, 0x1⟩
  | .recDevstatState => ⟨0xa014, [(2, 32)], 31, 28, .ro, 0x0, 0, 0xf⟩
  | .recDevstatRefuse => ⟨0xa014, [(2, 32)], 27, 24, .ro, 0x0, 0, 0xf⟩
  | .recDevstatGen => ⟨0xa014, [(2, 32)], 23, 20, .ro, 0x0, 0, 0xf⟩
  | .recDevstatWidth => ⟨0xa014, [(2, 32)], 19, 16, .ro, 0x0, 0, 0xf⟩
  | .recDevstatResilverPct => ⟨0xa014, [(2, 32)], 15, 8, .ro, 0x0, 0, 0xff⟩
  | .recDevstatCritWarn => ⟨0xa014, [(2, 32)], 7, 0, .ro, 0x0, 0, 0xff⟩
  | .recDevcapLbas => ⟨0xa018, [(2, 32)], 63, 0, .ro, 0x0, 0, 0xffffffffffffffff⟩
  | .recDevhlthPctUsed => ⟨0xa020, [(2, 32)], 31, 24, .ro, 0x0, 0, 0xff⟩
  | .recDevhlthTemp => ⟨0xa020, [(2, 32)], 15, 0, .ro, 0x0, 0, 0xffff⟩
  | .recDeverrErrs => ⟨0xa024, [(2, 32)], 31, 16, .ro, 0x0, 0, 0xffff⟩
  | .recDeverrResets => ⟨0xa024, [(2, 32)], 15, 0, .ro, 0x0, 0, 0xffff⟩
  | .recDevwpStripe => ⟨0xa028, [(2, 32)], 31, 0, .ro, 0x0, 0, 0xffffffff⟩
  | .recNextblkNo => ⟨0xa050, [], 63, 0, .ro, 0x0, 0, 0xffffffffffffffff⟩
  | .recCkptnoNo => ⟨0xa058, [], 63, 0, .ro, 0x0, 0, 0xffffffffffffffff⟩
  | .recLedgerIdId => ⟨0xa060, [], 127, 0, .ro, 0x0, 0, 0xffffffffffffffffffffffffffffffff⟩
  | .recLpagePages => ⟨0xa070, [], 63, 0, .ro, 0x0, 0, 0xffffffffffffffff⟩
  | .recTrendOldTime => ⟨0xa078, [], 63, 0, .ro, 0x0, 0, 0xffffffffffffffff⟩
  | .recCapnoNo => ⟨0xa080, [], 63, 0, .ro, 0x0, 0, 0xffffffffffffffff⟩
  | .recGapsCount => ⟨0xa088, [], 31, 0, .ro, 0x0, 0, 0xffffffff⟩
  | .recKeyidKeyId => ⟨0xa08c, [], 31, 0, .ro, 0x0, 0, 0xffffffff⟩
  | .recCertlenBytes => ⟨0xa090, [], 15, 0, .ro, 0x0, 0, 0xffff⟩
  | .recRdctlGo => ⟨0xa0a0, [], 31, 31, .wo, 0x0, 0, 0x1⟩
  | .recRdctlBusy => ⟨0xa0a0, [], 30, 30, .ro, 0x0, 0, 0x1⟩
  | .recRdctlDone => ⟨0xa0a0, [], 29, 29, .w1c, 0x0, 0, 0x1⟩
  | .recRdctlErr => ⟨0xa0a0, [], 28, 28, .w1c, 0x0, 0, 0x1⟩
  | .recRdctlHalf => ⟨0xa0a0, [], 4, 4, .rw, 0x0, 0, 0x1⟩
  | .recRdctlSrc => ⟨0xa0a0, [], 1, 0, .rw, 0x0, 0, 0x3⟩
  | .recRdlbaLba => ⟨0xa0a8, [], 63, 0, .rw, 0x0, 0, 0xffffffffffffffff⟩
  | .recRdbufBytes => ⟨0xa800, [(512, 4)], 31, 0, .ro, 0x0, 0, 0xffffffff⟩
  | .twinStatRole => ⟨0x2000, [], 31, 28, .ro, 0x0, 0, 0xf⟩
  | .twinStatPartnerRole => ⟨0x2000, [], 27, 24, .ro, 0xf, 0, 0xf⟩
  | .twinStatReady => ⟨0x2000, [], 23, 23, .ro, 0x0, 0, 0x1⟩
  | .twinStatPartnerReady => ⟨0x2000, [], 22, 22, .ro, 0x0, 0, 0x1⟩
  | .twinStatHbOk => ⟨0x2000, [], 21, 21, .ro, 0x0, 0, 0x1⟩
  | .twinStatTakeover => ⟨0x2000, [], 20, 20, .ro, 0x0, 0, 0x1⟩
  | .twinStatPairAddr => ⟨0x2000, [], 19, 19, .ro, 0x0, 0, 0x1⟩
  | .twinStatSlot => ⟨0x2000, [], 18, 18, .ro, 0x0, 0, 0x1⟩
  | .twinStatSeated => ⟨0x2000, [], 17, 17, .ro, 0x0, 0, 0x1⟩
  | .twinStatSeamRun => ⟨0x2000, [], 16, 16, .ro, 0x0, 0, 0x1⟩
  | .twinStatRefuse => ⟨0x2000, [], 15, 12, .ro, 0x0, 0, 0xf⟩
  | .twinCtrlHandover => ⟨0x2004, [], 31, 31, .wo, 0x0, 0, 0x1⟩
  | .twinCtrlStanddown => ⟨0x2004, [], 30, 30, .wo, 0x0, 0, 0x1⟩
  | .twinCtrlLock => ⟨0x2004, [], 0, 0, .rw, 0x0, 0, 0x1⟩
  | .twinLinkLaneUp => ⟨0x2008, [], 31, 30, .ro, 0x0, 0, 0x3⟩
  | .twinLinkRetries => ⟨0x2008, [], 15, 0, .rc, 0x0, 0, 0xffff⟩
  | .twinHbSnapAge => ⟨0x200c, [], 31, 16, .ro, 0xffff, 0, 0xffff⟩
  | .twinHbHbAge => ⟨0x200c, [], 15, 0, .ro, 0xffff, 0, 0xffff⟩
  | .twinSeamcntUnplanned => ⟨0x2010, [], 31, 16, .ro, 0x0, 0, 0xffff⟩
  | .twinSeamcntPlanned => ⟨0x2010, [], 15, 0, .ro, 0x0, 0, 0xffff⟩
  | .twinSeaminfoCause => ⟨0x2014, [], 31, 24, .ro, 0x0, 0, 0xff⟩
  | .twinSeaminfoGapMax => ⟨0x2014, [], 15, 0, .ro, 0x0, 0, 0xffff⟩
  | .twinLastseamTime => ⟨0x2018, [], 63, 0, .ro, 0x0, 0, 0xffffffffffffffff⟩
  | .twinDieEpoch => ⟨0x2020, [(8, 4)], 31, 28, .ro, 0x0, 0, 0xf⟩
  | .twinDieVoidRead => ⟨0x2020, [(8, 4)], 23, 23, .w1c, 0x0, 0, 0x1⟩
  | .twinDieDown => ⟨0x2020, [(8, 4)], 22, 22, .ro, 0x1, 0, 0x1⟩
  | .twinDieResets => ⟨0x2020, [(8, 4)], 15, 0, .ro, 0x0, 0, 0xffff⟩
  | .twinSyncPct => ⟨0x2040, [], 7, 0, .ro, 0x0, 0, 0xff⟩
  | .twinPartnerSnBytes => ⟨0x2050, [(4, 4)], 31, 0, .ro, 0x0, 0, 0xffffffff⟩
  | .modExpertKey => ⟨0x100, [], 31, 16, .wo, 0x0, 0, 0xffff⟩
  | .modExpertUnlock => ⟨0x100, [], 15, 0, .rw, 0x0, 0, 0xffff⟩
  | .modBootPhase => ⟨0x104, [], 31, 28, .ro, 0x0, 0, 0xf⟩
  | .modBootTConfig => ⟨0x104, [], 27, 16, .ro, 0xfff, 0, 0xfff⟩
  | .modBootSoloHeld => ⟨0x104, [], 2, 2, .ro, 0x0, 0, 0x1⟩
  | .modBootSoloAccept => ⟨0x104, [], 1, 1, .w1s, 0x0, 0, 0x1⟩
  | .modImgstatCause => ⟨0x108, [], 31, 28, .ro, 0x2, 0, 0xf⟩
  | .modImgstatRejA => ⟨0x108, [], 27, 24, .ro, 0x0, 0, 0xf⟩
  | .modImgstatRejB => ⟨0x108, [], 23, 20, .ro, 0x0, 0, 0xf⟩
  | .modImgstatSlot => ⟨0x108, [], 17, 16, .ro, 0x3, 0, 0x3⟩
  | .modImgstatHubReload => ⟨0x108, [], 2, 2, .w1c, 0x0, 0, 0x1⟩
  | .modImgstatOverridden => ⟨0x108, [], 1, 1, .ro, 0x0, 0, 0x1⟩
  | .modImgstatRetrying => ⟨0x108, [], 0, 0, .ro, 0x0, 0, 0x1⟩
  | .modImgseqSeq => ⟨0x10c, [], 31, 0, .ro, 0x0, 0, 0xffffffff⟩
  | .modImgcmdEraseB => ⟨0x110, [], 31, 31, .wo, 0x0, 0, 0x1⟩
  | .modImgcmdProgram => ⟨0x110, [], 30, 30, .wo, 0x0, 0, 0x1⟩
  | .modImgcmdPatch => ⟨0x110, [], 29, 29, .wo, 0x0, 0, 0x1⟩
  | .modImgcmdRead => ⟨0x110, [], 28, 28, .wo, 0x0, 0, 0x1⟩
  | .modImgcmdBusy => ⟨0x110, [], 27, 27, .ro, 0x0, 0, 0x1⟩
  | .modImgcmdDone => ⟨0x110, [], 26, 26, .w1c, 0x0, 0, 0x1⟩
  | .modImgcmdErr => ⟨0x110, [], 25, 25, .w1c, 0x0, 0, 0x1⟩
  | .modImgcmdSrc => ⟨0x110, [], 24, 24, .rw, 0x0, 0, 0x1⟩
  | .modImgaddrPage => ⟨0x114, [], 21, 8, .rw, 0x0, 0, 0x3fff⟩
  | .modPatchstatState => ⟨0x118, [], 31, 28, .ro, 0x0, 0, 0xf⟩
  | .modPatchstatRefuse => ⟨0x118, [], 27, 24, .ro, 0x0, 0, 0xf⟩
  | .modPatchstatPending => ⟨0x118, [], 23, 16, .ro, 0x0, 0, 0xff⟩
  | .modPendingMask => ⟨0x120, [(4, 4)], 31, 0, .ro, 0x0, 0, 0xffffffff⟩
  | .modFlashidMode => ⟨0x130, [], 31, 28, .ro, 0x0, 0, 0xf⟩
  | .modFlashidAddr => ⟨0x130, [], 27, 24, .ro, 0x0, 0, 0xf⟩
  | .modFlashidJedecId => ⟨0x130, [], 23, 0, .ro, 0x0, 0, 0xffffff⟩
  | .modImgdigestD => ⟨0x140, [(8, 4)], 31, 0, .ro, 0x0, 0, 0xffffffff⟩
  | .modImgbufBytes => ⟨0x200, [(64, 4)], 31, 0, .rw, 0x0, 0, 0xffffffff⟩
  | .starchStatSealed => ⟨0x1200, [], 31, 31, .ro, 0x0, 0, 0x1⟩
  | .starchStatFault => ⟨0x1200, [], 30, 30, .ro, 0x0, 0, 0x1⟩
  | .starchStatCopyDiff => ⟨0x1200, [], 29, 29, .ro, 0x0, 0, 0x1⟩
  | .starchStatDirty => ⟨0x1200, [], 28, 28, .ro, 0x0, 0, 0x1⟩
  | .starchDigestD => ⟨0x1220, [(8, 4)], 31, 0, .ro, 0x0, 0, 0xffffffff⟩
  | .starchFusectlBurn => ⟨0x1240, [], 31, 31, .wo, 0x0, 0, 0x1⟩
  | .starchFusectlSeal => ⟨0x1240, [], 30, 30, .wo, 0x0, 0, 0x1⟩
  | .starchFusectlReload => ⟨0x1240, [], 29, 29, .wo, 0x0, 0, 0x1⟩
  | .starchFusectlBusy => ⟨0x1240, [], 28, 28, .ro, 0x0, 0, 0x1⟩
  | .starchFusectlResult => ⟨0x1240, [], 27, 24, .ro, 0x0, 0, 0xf⟩
  | .feederFpcfgRetries => ⟨0x8000, [], 31, 28, .rw, 0x0, 0, 0xf⟩
  | .feederFpcfgHangMs => ⟨0x8000, [], 23, 16, .rw, 0x0, 1, 0xff⟩
  | .feederFpcfgStatMs => ⟨0x8000, [], 15, 8, .rw, 0x0, 2, 0xff⟩
  | .feederFpcfgPec => ⟨0x8000, [], 2, 2, .rw, 0x0, 0, 0x1⟩
  | .feederFpcfgSpeed => ⟨0x8000, [], 1, 0, .rw, 0x0, 0, 0x3⟩
  | .feederPollCommHold => ⟨0x8004, [], 31, 16, .rw, 0x0, 0, 0xffff⟩
  | .feederPollPollMs => ⟨0x8004, [], 15, 0, .rw, 0x0, 10, 0xffff⟩
  | .feederVsetVSet => ⟨0x8008, [], 15, 0, .rw, 0x0, 3000, 0x1d4c⟩
  | .feederVlimVmax => ⟨0x800c, [], 31, 16, .rw, 0x0, 3000, 0x1d4c⟩
  | .feederVlimVmin => ⟨0x800c, [], 15, 0, .rw, 0x0, 3000, 0x1d4c⟩
  | .feederSlewStepMs => ⟨0x8010, [], 31, 24, .rw, 0x0, 1, 0xff⟩
  | .feederSlewSlew => ⟨0x8010, [], 15, 0, .rw, 0x0, 1, 0xffff⟩
  | .feederBalBalEn => ⟨0x8014, [], 31, 31, .rw, 0x0, 0, 0x1⟩
  | .feederBalBalPeriod => ⟨0x8014, [], 23, 16, .rw, 0x0, 1, 0xff⟩
  | .feederBalKBal => ⟨0x8014, [], 15, 8, .rw, 0x0, 0, 0xff⟩
  | .feederBalTrimMax => ⟨0x8014, [], 5, 0, .rw, 0x0, 0, 0x32⟩
  | .feederHoldcfgInfailMin => ⟨0x8018, [], 3, 0, .rw, 0x0, 0, 0xc⟩
  | .feederStatFpHung => ⟨0x801c, [], 31, 31, .ro, 0x0, 0, 0x1⟩
  | .feederStatSclStuck => ⟨0x801c, [], 30, 30, .ro, 0x0, 0, 0x1⟩
  | .feederStatBalSusp => ⟨0x801c, [], 29, 29, .ro, 0x0, 0, 0x1⟩
  | .feederStatInfailTrig => ⟨0x801c, [], 28, 28, .ro, 0x0, 0, 0x1⟩
  | .feederStatOverload => ⟨0x801c, [], 27, 27, .w1c, 0x0, 0, 0x1⟩
  | .feederStatOnline => ⟨0x801c, [], 11, 0, .ro, 0x0, 0, 0xfff⟩
  | .feederCapFeederCap => ⟨0x8020, [], 23, 0, .ro, 0x0, 0, 0xffffff⟩
  | .feederFpcntArbLost => ⟨0x8024, [], 31, 16, .rc, 0x0, 0, 0xffff⟩
  | .feederFpcntArbCond => ⟨0x8024, [], 15, 8, .rc, 0x0, 0, 0xff⟩
  | .feederFpcntRecover => ⟨0x8024, [], 7, 0, .rc, 0x0, 0, 0xff⟩
  | .bbuCfgAddr => ⟨0x8030, [(2, 8)], 30, 24, .rw, 0x0, 0, 0x7f⟩
  | .bbuCfgForce => ⟨0x8030, [(2, 8)], 7, 7, .rw, 0x0, 0, 0x1⟩
  | .bbuCfgSelForce => ⟨0x8030, [(2, 8)], 5, 4, .rw, 0x3, 0, 0x3⟩
  | .bbuCfgSelHoldup => ⟨0x8030, [(2, 8)], 3, 2, .rw, 0x0, 0, 0x3⟩
  | .bbuStatDriven => ⟨0x8034, [(2, 8)], 31, 30, .ro, 0x3, 0, 0x3⟩
  | .bbuStatSensed => ⟨0x8034, [(2, 8)], 29, 28, .ro, 0x3, 0, 0x3⟩
  | .bbuStatMismatch => ⟨0x8034, [(2, 8)], 27, 27, .w1c, 0x0, 0, 0x1⟩
  | .bbuStatCommLost => ⟨0x8034, [(2, 8)], 26, 26, .ro, 0x0, 0, 0x1⟩
  | .bbuStatStatus => ⟨0x8034, [(2, 8)], 15, 0, .ro, 0x0, 0, 0xffff⟩
  | .fdrCfgEn => ⟨0x8100, [(12, 32)], 31, 31, .rw, 0x0, 0, 0x1⟩
  | .fdrCfgAddr => ⟨0x8100, [(12, 32)], 30, 24, .rw, 0x0, 0, 0x7f⟩
  | .fdrCfgPRated => ⟨0x8100, [(12, 32)], 15, 0, .rw, 0x0, 0, 0xffff⟩
  | .fdrStateState => ⟨0x8104, [(12, 32)], 31, 28, .ro, 0x0, 0, 0xf⟩
  | .fdrStateRefuse => ⟨0x8104, [(12, 32)], 27, 24, .ro, 0x0, 0, 0xf⟩
  | .fdrStateVoutExp => ⟨0x8104, [(12, 32)], 23, 16, .ro, 0x0, 0, 0xff⟩
  | .fdrStateStatus => ⟨0x8104, [(12, 32)], 15, 0, .ro, 0x0, 0, 0xffff⟩
  | .fdrVcmdTarget => ⟨0x8108, [(12, 32)], 31, 16, .ro, 0x0, 0, 0xffff⟩
  | .fdrVcmdSent => ⟨0x8108, [(12, 32)], 15, 0, .ro, 0x0, 0, 0xffff⟩
  | .fdrTrimSlewing => ⟨0x810c, [(12, 32)], 31, 31, .ro, 0x0, 0, 0x1⟩
  | .fdrTrimDown => ⟨0x810c, [(12, 32)], 30, 30, .ro, 0x0, 0, 0x1⟩
  | .fdrTrimTrim => ⟨0x810c, [(12, 32)], 15, 0, .ro, 0x0, 0, 0xffff⟩
  | .fdrVoutVout => ⟨0x8110, [(12, 32)], 31, 16, .ro, 0x0, 0, 0xffff⟩
  | .fdrVoutIout => ⟨0x8110, [(12, 32)], 15, 0, .ro, 0x0, 0, 0xffff⟩
  | .fdrTempPout => ⟨0x8114, [(12, 32)], 31, 16, .ro, 0x0, 0, 0xffff⟩
  | .fdrTempTemp => ⟨0x8114, [(12, 32)], 11, 0, .ro, 0x0, 0, 0xfff⟩
  | .fdrErrNack => ⟨0x8118, [(12, 32)], 31, 16, .rc, 0x0, 0, 0xffff⟩
  | .fdrErrFail => ⟨0x8118, [(12, 32)], 15, 0, .rc, 0x0, 0, 0xffff⟩
  | .modVendorVendor => ⟨0x0, [], 31, 0, .ro, 0x4b59534e, 0, 0xffffffff⟩
  | .modPartPart => ⟨0x4, [], 31, 0, .ro, 0x7128, 0, 0xffffffff⟩
  | .modRevMajor => ⟨0x8, [], 15, 8, .ro, 0x1, 0, 0xff⟩
  | .modRevMinor => ⟨0x8, [], 7, 0, .ro, 0x0, 0, 0xff⟩
  | .modStrapAmbig => ⟨0xc, [], 8, 8, .ro, 0x0, 0, 0x1⟩
  | .modStrapS => ⟨0xc, [], 3, 0, .ro, 0x0, 0, 0xf⟩
  | .modSerialBytes => ⟨0x10, [(4, 4)], 31, 0, .ro, 0x0, 0, 0xffffffff⟩
  | .modCtrlDoze => ⟨0x20, [], 31, 31, .wo, 0x0, 0, 0x1⟩
  | .modCtrlDozeRefused => ⟨0x20, [], 1, 1, .w1c, 0x0, 0, 0x1⟩
  | .hostAddrcfgMode => ⟨0x7000, [], 8, 8, .rw, 0x0, 0, 0x1⟩
  | .hostAddrcfgPair => ⟨0x7000, [], 6, 0, .rw, 0x0, 0, 0x7f⟩
  | .hostXaddrEn3 => ⟨0x7004, [], 31, 31, .rw, 0x0, 0, 0x1⟩
  | .hostXaddrA3 => ⟨0x7004, [], 30, 24, .rw, 0x0, 0, 0x7f⟩
  | .hostXaddrEn2 => ⟨0x7004, [], 23, 23, .rw, 0x0, 0, 0x1⟩
  | .hostXaddrA2 => ⟨0x7004, [], 22, 16, .rw, 0x0, 0, 0x7f⟩
  | .hostXaddrEn1 => ⟨0x7004, [], 15, 15, .rw, 0x0, 0, 0x1⟩
  | .hostXaddrA1 => ⟨0x7004, [], 14, 8, .rw, 0x0, 0, 0x7f⟩
  | .hostXaddrEn0 => ⟨0x7004, [], 7, 7, .rw, 0x0, 0, 0x1⟩
  | .hostXaddrA0 => ⟨0x7004, [], 6, 0, .rw, 0x0, 0, 0x7f⟩
  | .hostAmaskMask => ⟨0x7008, [], 14, 8, .rw, 0x0, 0, 0x7f⟩
  | .hostAmaskMatch => ⟨0x7008, [], 6, 0, .rw, 0x0, 0, 0x7f⟩
  | .hostPecReq => ⟨0x700c, [], 1, 0, .rw, 0x0, 0, 0x3⟩
  | .hostAttncfgRepeatMs => ⟨0x7010, [], 23, 16, .rw, 0x0, 1, 0xff⟩
  | .hostAttncfgMaxpull => ⟨0x7010, [], 15, 8, .rw, 0x0, 0, 0xff⟩
  | .hostAttncfgEn1 => ⟨0x7010, [], 1, 1, .rw, 0x0, 0, 0x1⟩
  | .hostAttncfgEn0 => ⟨0x7010, [], 0, 0, .rw, 0x0, 0, 0x1⟩
  | .hpCfgRdwords => ⟨0x7100, [(2, 64)], 13, 8, .rw, 0x4, 1, 0x3f⟩
  | .hpCfgSlope => ⟨0x7100, [(2, 64)], 1, 0, .rw, 0x0, 0, 0x3⟩
  | .hpStatBusy => ⟨0x7104, [(2, 64)], 31, 31, .ro, 0x0, 0, 0x1⟩
  | .hpStatAttnPend => ⟨0x7104, [(2, 64)], 30, 30, .ro, 0x0, 0, 0x1⟩
  | .hpStatOwnValid => ⟨0x7104, [(2, 64)], 29, 29, .ro, 0x0, 0, 0x1⟩
  | .hpStatPairValid => ⟨0x7104, [(2, 64)], 28, 28, .ro, 0x0, 0, 0x1⟩
  | .hpStatAraWon => ⟨0x7104, [(2, 64)], 9, 9, .w1c, 0x0, 0, 0x1⟩
  | .hpStatAttnColl => ⟨0x7104, [(2, 64)], 8, 8, .w1c, 0x0, 0, 0x1⟩
  | .hpStatRcLost => ⟨0x7104, [(2, 64)], 7, 7, .w1c, 0x0, 0, 0x1⟩
  | .hpStatUnmapped => ⟨0x7104, [(2, 64)], 6, 6, .w1c, 0x0, 0, 0x1⟩
  | .hpStatNoptr => ⟨0x7104, [(2, 64)], 5, 5, .w1c, 0x0, 0, 0x1⟩
  | .hpStatPecMissing => ⟨0x7104, [(2, 64)], 4, 4, .w1c, 0x0, 0, 0x1⟩
  | .hpStatPecErr => ⟨0x7104, [(2, 64)], 3, 3, .w1c, 0x0, 0, 0x1⟩
  | .hpStatBadLen => ⟨0x7104, [(2, 64)], 2, 2, .w1c, 0x0, 0, 0x1⟩
  | .hpStatBadCmd => ⟨0x7104, [(2, 64)], 1, 1, .w1c, 0x0, 0, 0x1⟩
  | .hpStatTimeout => ⟨0x7104, [(2, 64)], 0, 0, .w1c, 0x0, 0, 0x1⟩
  | .hpPtrOwnAddr => ⟨0x7108, [(2, 64)], 31, 2, .ro, 0x0, 0, 0x3fffffff⟩
  | .hpPtrOwnDesc => ⟨0x7108, [(2, 64)], 0, 0, .ro, 0x0, 0, 0x1⟩
  | .hpPtrPairAddr => ⟨0x710c, [(2, 64)], 31, 2, .ro, 0x0, 0, 0x3fffffff⟩
  | .hpPtrPairDesc => ⟨0x710c, [(2, 64)], 0, 0, .ro, 0x0, 0, 0x1⟩
  | .hpCntAccepted => ⟨0x7110, [(2, 64)], 31, 16, .ro, 0x0, 0, 0xffff⟩
  | .hpCntRejected => ⟨0x7110, [(2, 64)], 15, 8, .rc, 0x0, 0, 0xff⟩
  | .hpCntPulls => ⟨0x7110, [(2, 64)], 7, 0, .rc, 0x0, 0, 0xff⟩
  | .modSumAsserted => ⟨0x30, [], 31, 31, .ro, 0x0, 0, 0x1⟩
  | .modSumFixed => ⟨0x30, [], 30, 30, .ro, 0x0, 0, 0x1⟩
  | .modSumGroup => ⟨0x30, [], 10, 0, .ro, 0x0, 0, 0x7ff⟩
  | .modSumenEn => ⟨0x34, [], 10, 0, .rw, 0x7ff, 0, 0x7ff⟩
  | .modAlctlAlertEn => ⟨0x38, [], 0, 0, .rw, 0x1, 0, 0x1⟩
  | .modAlcntAsserts => ⟨0x3c, [], 15, 0, .rc, 0x0, 0, 0xffff⟩
  | .alertChleaf => ⟨0xc400, [(128, 4)], 11, 0, .w1c, 0x0, 0, 0xfff⟩
  | .alertPendPend => ⟨0xc100, [(4, 4)], 31, 0, .ro, 0x0, 0, 0xffffffff⟩
  | .alertChmaskMask => ⟨0xc110, [(4, 4)], 31, 0, .rw, 0xffffffff, 0, 0xffffffff⟩
  | .alertTleafTimer => ⟨0xc200, [(8, 4)], 31, 0, .w1c, 0x0, 0, 0xffffffff⟩
  | .healthStatVauxWarn => ⟨0x6000, [], 7, 7, .w1c, 0x0, 0, 0x1⟩
  | .healthStatBrace => ⟨0x6000, [], 6, 6, .ro, 0x0, 0, 0x1⟩
  | .healthStatFreeze => ⟨0x6000, [], 5, 5, .ro, 0x0, 0, 0x1⟩
  | .healthStatFast => ⟨0x6000, [], 4, 4, .ro, 0x0, 0, 0x1⟩
  | .healthStatFactor => ⟨0x6000, [], 3, 2, .ro, 0x0, 0, 0x3⟩
  | .healthStatLevel => ⟨0x6000, [], 1, 0, .ro, 0x0, 0, 0x3⟩
  | .healthTcfgWarn => ⟨0x6004, [], 11, 0, .rw, 0x0, 1840, 0x9b0⟩
  | .healthTempPeak => ⟨0x6010, [(11, 4)], 27, 16, .rc, 0x0, 0, 0xfff⟩
  | .healthTempT => ⟨0x6010, [(11, 4)], 11, 0, .ro, 0x0, 0, 0xfff⟩
  | .healthAuxMin => ⟨0x6040, [], 31, 16, .rc, 0xffff, 0, 0xffff⟩
  | .healthAuxV => ⟨0x6040, [], 15, 0, .ro, 0x0, 0, 0xffff⟩
  | .healthKeeperLow => ⟨0x6044, [], 7, 0, .ro, 0x0, 0, 0xff⟩
  | .healthKeepvV => ⟨0x6050, [(8, 4)], 15, 0, .ro, 0x0, 0, 0xffff⟩
  | .healthWdcntFe => ⟨0x6070, [], 31, 16, .ro, 0x0, 0, 0xffff⟩
  | .healthWdcntHub => ⟨0x6070, [], 15, 0, .ro, 0x0, 0, 0xffff⟩
  | .healthOphoursHours => ⟨0x6074, [], 31, 0, .ro, 0x0, 0, 0xffffffff⟩
  | .healthEvcntFreezes => ⟨0x6078, [], 31, 24, .ro, 0x0, 0, 0xff⟩
  | .healthEvcntShutdowns => ⟨0x6078, [], 23, 16, .ro, 0x0, 0, 0xff⟩
  | .healthEvcntThrottles => ⟨0x6078, [], 15, 8, .ro, 0x0, 0, 0xff⟩
  | .healthEvcntBraces => ⟨0x6078, [], 7, 0, .ro, 0x0, 0, 0xff⟩
  | .alertLeaf => ⟨0xc000, [(11, 16)], 31, 0, .w1c, 0x0, 0, 0xffffffff⟩
  | .alertEn => ⟨0xc004, [(11, 16)], 31, 0, .rw, 0x0, 0, 0xffffffff⟩
  | .alertStat => ⟨0xc008, [(11, 16)], 31, 0, .ro, 0x0, 0, 0xffffffff⟩

/-- Fields of the region MOD, a part of the list. -/
def fldsMod0 : List Fld :=
  [.modSyncDeferred, .modIclRetrySeen, .modIclLinkUp, .modClkmonHubRestart, .modClkmonBasketFail, .modClkmonPcieFail, .modClkmonTbFail, .modClkmonFeFail, .modFeclkDev, .modExpertKey, .modExpertUnlock, .modBootPhase, .modBootTConfig, .modBootSoloHeld, .modBootSoloAccept, .modImgstatCause, .modImgstatRejA, .modImgstatRejB, .modImgstatSlot, .modImgstatHubReload, .modImgstatOverridden, .modImgstatRetrying, .modImgseqSeq, .modImgcmdEraseB, .modImgcmdProgram, .modImgcmdPatch, .modImgcmdRead, .modImgcmdBusy, .modImgcmdDone, .modImgcmdErr]

/-- Fields of the region MOD, a part of the list. -/
def fldsMod1 : List Fld :=
  [.modImgcmdSrc, .modImgaddrPage, .modPatchstatState, .modPatchstatRefuse, .modPatchstatPending, .modPendingMask, .modFlashidMode, .modFlashidAddr, .modFlashidJedecId, .modImgdigestD, .modImgbufBytes, .modVendorVendor, .modPartPart, .modRevMajor, .modRevMinor, .modStrapAmbig, .modStrapS, .modSerialBytes, .modCtrlDoze, .modCtrlDozeRefused, .modSumAsserted, .modSumFixed, .modSumGroup, .modSumenEn, .modAlctlAlertEn, .modAlcntAsserts]

/-- Fields of the region MOD. -/
def fldsMod : List Fld :=
  fldsMod0 ++ fldsMod1

/-- Fields of the region CH, a part of the list. -/
def fldsCh0 : List Fld :=
  [.chCtrlRequeue, .chCtrlEn, .chStatusClamped, .chStatusPartial, .chStatusAbsentPending, .chStatusSeatRaw, .chStatusSeated, .chStatusGangMember, .chStatusPriorState, .chStatusReason, .chStatusState, .chLastTripDarnMaxEff, .chLastTripDarnCount, .chLastTripStateAtTrip, .chLastTripTripReason, .chSeatcfgLossUs, .chSeatcfgAqMs, .chSeatcfgDebounceMs, .chRampGateOn, .chRampDoneVds, .chRampTarget, .chLimitcfgExit, .chLimitcfgIlimTmax, .chTimersAqRem, .chTimersRetryRem, .chWaitHoldoffRem, .chWaitCoolWait, .chWaitQpos, .chSeatTimeTime, .chClassGangSize]

/-- Fields of the region CH, a part of the list. -/
def fldsCh1 : List Fld :=
  [.chClassGangLead, .chClassFclass, .chClassPclass, .chLoopcfgIsrc, .chLoopcfgBff, .chLoopcfgLaw, .chLoopcfgClearn, .chLoopcfgIdxShift, .chLoopcfgHem, .chIlimIlim, .chRampctlRate, .chRampctlRound, .chFfcfgCEst, .chFfcfgKv, .chFfstatCMeas, .chFfstatFfI, .chTjloopTjLim, .chTjloopKtj, .chFollowFeBand, .chFollowFeTime, .chCapPCap, .chLoopstatDsel, .chLoopstatWin, .chLoopstatFrozen, .chLoopstatSat, .chHtripHtFine, .chHtripHtCode, .chSoacfgHorizon, .chSoacfgTjSoa, .chTjtripTjTrip]

/-- Fields of the region CH, a part of the list. -/
def fldsCh2 : List Fld :=
  [.chTjtripTsTrip, .chAmbcfgAmbSrc, .chAmbcfgTsFitted, .chAmbcfgSenseMask, .chAmbcfgRestartRise, .chAmbcfgAmbFixed, .chMismatchMmTime, .chMismatchMmBand, .chGstallGsExpect, .chGstallGsTime, .chFshortFsSettle, .chFshortFsVout, .chFshortFsRise, .chFshortFsTime, .chFsiminFsImin, .chEsoaESoa, .chSafestatPlim, .chSafestatPlimSrc, .chSafestatTripLatch, .chSafestatHtCmp, .chSafestatMismatch, .chSafestatShortNow, .chSafestatStallRun, .chSafestatEpiRun, .chSafestatTsOpen, .chThermTjEst, .chThermTsMeas, .chEpisodeEEpi, .chTsestTsEst, .chTrippolBusUnder]

/-- Fields of the region CH, a part of the list. -/
def fldsCh3 : List Fld :=
  [.chTrippolBusOver, .chTrippolOpenWire, .chTrippolGateStall, .chTrippolFollow, .chTrippolTjMeasured, .chTrippolTjModel, .chTrippolSoaEnergy, .chTrippolIlimTimeout, .chTrippolHardtrip, .chRetryBackoff, .chRetryDarnMax, .chRetryRetryInterval, .chBuswinBusTime, .chBuswinBusOv, .chBuswinBusUv, .chTripcntLatches, .chTripcntTrips, .chTriptimeTime, .chBallocCapFloor, .chBallocAlloc, .chBresRes, .chBcapCapOn, .chBcapCapW, .chBwaitSlotRem, .chBwaitWait, .chQageAge, .chByieldFavoured, .chByieldGbroken, .chBguarGpart, .chRshRshNom]

/-- Fields of the region CH, a part of the list. -/
def fldsCh4 : List Fld :=
  [.chShgainShGain, .chShtcShTc1, .chShtcShTc2, .chShcfgTsrc, .chShcfgShTref, .chShcfgShOfs, .chMstatNocal, .chMstatFrozen, .chMstatBufq, .chMstatRefq, .chMstatWarm, .chMstatShtFb, .chMstatHold, .chMstatSlot, .chMvoltV, .chMcurrI, .chMpowP]

/-- Fields of the region CH. -/
def fldsCh : List Fld :=
  fldsCh0 ++ fldsCh1 ++ fldsCh2 ++ fldsCh3 ++ fldsCh4

/-- Fields of the region GAINTAB, a part of the list. -/
def fldsGaintab : List Fld :=
  [.tablesGainKp, .tablesGainKi]

/-- Fields of the region FE, a part of the list. -/
def fldsFe0 : List Fld :=
  [.feLoopstatDlyMax, .feTrctlDone, .feTrctlArmed, .feTrctlTriggered, .feTrctlForce, .feTrctlArm, .feTrctlDiv, .feTrctlPre, .feTrtrigTsrc, .feTrtrigTchan, .feTrtrigTwin, .feTrtrigTedge, .feTrtrigXout, .feTrtrigTlevel, .feTrselNode, .feTrselLch, .feTrstatTrigIdx, .feTrtimeTime, .feCvstatCvbRet, .feCvstatCvbOut, .feCvstatCvaRet, .feCvstatCvaOut, .feCvstatUrgent, .feCvstatLp, .feCvstatCalDefer, .feCvstatCalFrozen, .feCalcntLinRefresh, .feCalcntVisits, .feScanmask0En, .feScanmask1EnAux]

/-- Fields of the region FE, a part of the list. -/
def fldsFe1 : List Fld :=
  [.feScanmask1EnBus, .feScanmask1EnTs, .feScanstatUrgMax, .feScanstatEntries, .feIrangeApplied, .feIrangeFine, .feOwcfgPeriod, .feOwcfgConfirm, .feOwcfgCsThr, .feOwcfgTsThr, .feOwstatTsOpen, .feOwstatCsOpen, .feConvctlGo, .feConvctlBusy, .feConvctlMissed, .feConvctlNavg, .feConvctlSrc, .feConvctlInput, .feConvRdy, .feConvOvr, .feConvSeq, .feConvResult, .feConvtimeTime, .feConvtseqSeq, .feBusbandNlev, .feBusbandBand, .feTsmodeMode, .feTslinSlope, .feTslinV0, .feTsdiodeEta]

/-- Fields of the region FE, a part of the list. -/
def fldsFe2 : List Fld :=
  [.feCapctlForce, .feCapctlAbort, .feCapctlTsrc, .feCapctlTunit, .feCapctlWide, .feCapctlXout, .feCapctlEn, .feCapctlInput, .feCaplenLen, .feCapstatBusy, .feCapstatWideRun, .feCapstatCut, .feCapstatMissed, .feCapstatCount, .feCaptimeTime, .feWevtsumWevt, .feSliceOfs, .feSliceGain, .feSliceSkew, .feLadderLevel, .feEntryInput, .fuFcfgOrder, .fuFcfgSettle, .fuFcfgWen, .fuFcfgWhyst, .fuFcfgRatio, .fuWloLevel, .fuWhiLevel, .fuFresValid, .fuFresGap]

/-- Fields of the region FE, a part of the list. -/
def fldsFe3 : List Fld :=
  [.fuFresOutside, .fuFresWevt, .fuFresSeq, .fuFresValue, .bresValueValue, .bresStatSeq, .bresStatValid, .bresStatFine, .bresStatZeroed, .bresStatRatio, .bresStatSat, .bresStatCond, .feBzeroZero, .feBpts0En, .feBpts1En, .feBtimeTime]

/-- Fields of the region FE. -/
def fldsFe : List Fld :=
  fldsFe0 ++ fldsFe1 ++ fldsFe2 ++ fldsFe3

/-- Fields of the region THTAB, a part of the list. -/
def fldsThtab : List Fld :=
  [.poleRthRth, .poleTauTau, .kcoefExp, .kcoefMant, .hcoefExp, .hcoefMant, .gcoefValue, .zlaValue, .soaVdsBp, .soaPMax]

/-- Fields of the region BUDGET, a part of the list. -/
def fldsBudget0 : List Fld :=
  [.budgetCtrlOvertake, .budgetCtrlMode, .budgetShelfPShelf, .budgetAvailFeederLimited, .budgetAvailPAvail, .budgetRessumValue, .budgetPoolValue, .budgetGuarValue, .budgetGeffValue, .budgetClassresValue, .budgetRelaxRelaxTime, .budgetRelaxRelaxMargin, .budgetQlimitQueueLimit, .budgetStaggerStaggerPeriod, .budgetStaggerStaggerMin, .budgetStagstatNextRem, .budgetStagstatFactor, .budgetStagstatQlen, .budgetLastrelTime, .budgetGstartGo, .budgetGselSel, .budgetBusminBusMinTime, .budgetBusminBusMin, .budgetHoldupReturnQual, .budgetHoldupAcfailFilt, .budgetHoldupBusWarnTime, .budgetHoldupBusWarn, .budgetHustageStageV, .budgetHustageDelay, .budgetHustatActive]

/-- Fields of the region BUDGET, a part of the list. -/
def fldsBudget1 : List Fld :=
  [.budgetHustatReturning, .budgetHustatDoneStage, .budgetHustatRunStage, .budgetHustatCompleted, .budgetHustatAborted, .budgetHustatTrigBus, .budgetHustatTrigFeeder, .budgetHustatTrigAcfail, .budgetHutimeTime, .budgetCapmaskMask, .budgetShedmaskMask]

/-- Fields of the region BUDGET. -/
def fldsBudget : List Fld :=
  fldsBudget0 ++ fldsBudget1

/-- Fields of the region META, a part of the list. -/
def fldsMeta0 : List Fld :=
  [.metaCalstatSwapRefused, .metaCalstatTimeUntraced, .metaCalstatFailed, .metaCalstatDone, .metaCalstatRollback, .metaCalstatNone, .metaCalstatBank, .metaEpochEpoch, .metaCalseqSeq, .metaCalctlStart, .metaCalctlAbort, .metaCalctlSwap, .metaCalctlSlots, .metaCalctlMode, .metaCalprogPhase, .metaCalprogFailCode, .metaCalprogFailCh, .metaCalprogDoneCh, .metaCalintDueRem, .metaCalintInterval, .metaRefstatBuf, .metaRefstatHeaterFault, .metaRefstatWatch, .metaRefstatWarmDone, .metaRefstatValid, .metaRefdevDev, .metaRefdieDev, .metaCalinV, .metaWarmWarmRem, .metaDigestD]

/-- Fields of the region META, a part of the list. -/
def fldsMeta1 : List Fld :=
  [.metaCoefselBank, .metaCoefselSel, .metaCoefValue, .metaTraceBytes, .metaStageBytes, .metaBenchctlEnter, .metaBenchctlExit, .metaBenchctlTrig, .metaBenchctlZero, .metaBenchcfgEdge, .metaBenchcfgRatio, .metaBenchcfgDwell, .metaBenchcfgNavg, .metaBenchstatRefuse, .metaBenchstatRefused, .metaBenchstatReady, .metaBenchstatExiting, .metaBenchstatActive, .metaBenchdieSeq, .metaBenchdieCaldrift, .metaBenchdieMissed, .metaBenchdieRest, .metaBenchdieBusy]

/-- Fields of the region META. -/
def fldsMeta : List Fld :=
  fldsMeta0 ++ fldsMeta1

/-- Fields of the region ENERGY, a part of the list. -/
def fldsEnergy : List Fld :=
  [.energyAcc, .energyTotalAcc, .energyCkptTime, .energyStatOriginUnverified, .energyStatOriginLedger, .energyStatUnmetered, .energyStatCkptFail]

/-- Fields of the region TB, a part of the list. -/
def fldsTb0 : List Fld :=
  [.tbNowTime, .tbLastppsTime, .tbSetsecTime, .tbLaststepDelta, .tbSteptimeTime, .tbStatMiss, .tbStatGood, .tbStatTimeSet, .tbStatPpsExtra, .tbStatStepped, .tbStatIndexSlip, .tbStatHoldoverSeen, .tbStatState, .tbDiscStepEn, .tbDiscLockThr, .tbDiscSlewWindow, .tbPpscfgPpsDelay, .tbPpscfgMinw, .tbPpscfgPpsEn, .tbPpscfgEdge, .tbPhaseE, .tbRateRate, .tbFreqSteer, .tbHoldsecSec, .tbSetctlNow, .tbSetctlArm, .tbSetctlAlign, .tbSetctlCancel, .tbSetctlArmed, .tbSetctlCause]

/-- Fields of the region TB, a part of the list. -/
def fldsTb1 : List Fld :=
  [.tbTmrctlInForce, .tbTmrctlRecovery, .tbTmrctlBench, .tbTmrctlStart, .tbTmrctlForce, .tbRelctlGo, .tbRelctlBusy, .tbRelctlDone, .tbRelctlAtTime, .tbRperiodPeriod, .tbReltimeTime, .tbRselSel, .tbMatchsumBits, .tbCapsumBits]

/-- Fields of the region TB. -/
def fldsTb : List Fld :=
  fldsTb0 ++ fldsTb1

/-- Fields of the region TMR, a part of the list. -/
def fldsTmr : List Fld :=
  [.tmrCntCount, .tmrCmpValue, .tmrCapvValue, .tmrCtrlMatch, .tmrCtrlCapf, .tmrCtrlCovr, .tmrCtrlRun, .tmrCtrlAct, .tmrCtrlTgt, .tmrCtrlLink, .tmrCtrlLapsafe, .tmrCtrlHit, .tmrCapcfgCen, .tmrCapcfgEdge, .tmrCapcfgMie, .tmrCapcfgCie, .tmrCapcfgFunit, .tmrCapcfgFilt, .tmrCapcfgPresc, .tmrCapcfgSrc]

/-- Fields of the region FAN, a part of the list. -/
def fldsFan : List Fld :=
  [.fanDutyDuty, .fanCfgTachEn, .fanCfgPol, .fanCfgPpr, .fanCfgStall, .fanSpeedRpm, .fanStatStall, .fanStatStallSeen, .fanStatLive]

/-- Fields of the region REC, a part of the list. -/
def fldsRec0 : List Fld :=
  [.recCtrlFlush, .recCtrlAutoPrepare, .recStatTrendFill, .recStatLedgerFill, .recStatBasketDown, .recStatSignFail, .recStatGapSeen, .recStatLedgerExt, .recStatLedgerNearFull, .recStatHeld, .recStatMedia, .recTrendcfgInterval, .recDevctlEject, .recDevctlPrepare, .recDevctlCancel, .recDevstatState, .recDevstatRefuse, .recDevstatGen, .recDevstatWidth, .recDevstatResilverPct, .recDevstatCritWarn, .recDevcapLbas, .recDevhlthPctUsed, .recDevhlthTemp, .recDeverrErrs, .recDeverrResets, .recDevwpStripe, .recNextblkNo, .recCkptnoNo, .recLedgerIdId]

/-- Fields of the region REC, a part of the list. -/
def fldsRec1 : List Fld :=
  [.recLpagePages, .recTrendOldTime, .recCapnoNo, .recGapsCount, .recKeyidKeyId, .recCertlenBytes, .recRdctlGo, .recRdctlBusy, .recRdctlDone, .recRdctlErr, .recRdctlHalf, .recRdctlSrc, .recRdlbaLba, .recRdbufBytes]

/-- Fields of the region REC. -/
def fldsRec : List Fld :=
  fldsRec0 ++ fldsRec1

/-- Fields of the region TWIN, a part of the list. -/
def fldsTwin : List Fld :=
  [.twinStatRole, .twinStatPartnerRole, .twinStatReady, .twinStatPartnerReady, .twinStatHbOk, .twinStatTakeover, .twinStatPairAddr, .twinStatSlot, .twinStatSeated, .twinStatSeamRun, .twinStatRefuse, .twinCtrlHandover, .twinCtrlStanddown, .twinCtrlLock, .twinLinkLaneUp, .twinLinkRetries, .twinHbSnapAge, .twinHbHbAge, .twinSeamcntUnplanned, .twinSeamcntPlanned, .twinSeaminfoCause, .twinSeaminfoGapMax, .twinLastseamTime, .twinDieEpoch, .twinDieVoidRead, .twinDieDown, .twinDieResets, .twinSyncPct, .twinPartnerSnBytes]

/-- Fields of the region STARCH, a part of the list. -/
def fldsStarch : List Fld :=
  [.starchStatSealed, .starchStatFault, .starchStatCopyDiff, .starchStatDirty, .starchDigestD, .starchFusectlBurn, .starchFusectlSeal, .starchFusectlReload, .starchFusectlBusy, .starchFusectlResult]

/-- Fields of the region FEEDER, a part of the list. -/
def fldsFeeder0 : List Fld :=
  [.feederFpcfgRetries, .feederFpcfgHangMs, .feederFpcfgStatMs, .feederFpcfgPec, .feederFpcfgSpeed, .feederPollCommHold, .feederPollPollMs, .feederVsetVSet, .feederVlimVmax, .feederVlimVmin, .feederSlewStepMs, .feederSlewSlew, .feederBalBalEn, .feederBalBalPeriod, .feederBalKBal, .feederBalTrimMax, .feederHoldcfgInfailMin, .feederStatFpHung, .feederStatSclStuck, .feederStatBalSusp, .feederStatInfailTrig, .feederStatOverload, .feederStatOnline, .feederCapFeederCap, .feederFpcntArbLost, .feederFpcntArbCond, .feederFpcntRecover, .bbuCfgAddr, .bbuCfgForce, .bbuCfgSelForce]

/-- Fields of the region FEEDER, a part of the list. -/
def fldsFeeder1 : List Fld :=
  [.bbuCfgSelHoldup, .bbuStatDriven, .bbuStatSensed, .bbuStatMismatch, .bbuStatCommLost, .bbuStatStatus, .fdrCfgEn, .fdrCfgAddr, .fdrCfgPRated, .fdrStateState, .fdrStateRefuse, .fdrStateVoutExp, .fdrStateStatus, .fdrVcmdTarget, .fdrVcmdSent, .fdrTrimSlewing, .fdrTrimDown, .fdrTrimTrim, .fdrVoutVout, .fdrVoutIout, .fdrTempPout, .fdrTempTemp, .fdrErrNack, .fdrErrFail]

/-- Fields of the region FEEDER. -/
def fldsFeeder : List Fld :=
  fldsFeeder0 ++ fldsFeeder1

/-- Fields of the region HOST, a part of the list. -/
def fldsHost0 : List Fld :=
  [.hostAddrcfgMode, .hostAddrcfgPair, .hostXaddrEn3, .hostXaddrA3, .hostXaddrEn2, .hostXaddrA2, .hostXaddrEn1, .hostXaddrA1, .hostXaddrEn0, .hostXaddrA0, .hostAmaskMask, .hostAmaskMatch, .hostPecReq, .hostAttncfgRepeatMs, .hostAttncfgMaxpull, .hostAttncfgEn1, .hostAttncfgEn0, .hpCfgRdwords, .hpCfgSlope, .hpStatBusy, .hpStatAttnPend, .hpStatOwnValid, .hpStatPairValid, .hpStatAraWon, .hpStatAttnColl, .hpStatRcLost, .hpStatUnmapped, .hpStatNoptr, .hpStatPecMissing, .hpStatPecErr]

/-- Fields of the region HOST, a part of the list. -/
def fldsHost1 : List Fld :=
  [.hpStatBadLen, .hpStatBadCmd, .hpStatTimeout, .hpPtrOwnAddr, .hpPtrOwnDesc, .hpPtrPairAddr, .hpPtrPairDesc, .hpCntAccepted, .hpCntRejected, .hpCntPulls]

/-- Fields of the region HOST. -/
def fldsHost : List Fld :=
  fldsHost0 ++ fldsHost1

/-- Fields of the region ALERT, a part of the list. -/
def fldsAlert : List Fld :=
  [.alertChleaf, .alertPendPend, .alertChmaskMask, .alertTleafTimer, .alertLeaf, .alertEn, .alertStat]

/-- Fields of the region HEALTH, a part of the list. -/
def fldsHealth : List Fld :=
  [.healthStatVauxWarn, .healthStatBrace, .healthStatFreeze, .healthStatFast, .healthStatFactor, .healthStatLevel, .healthTcfgWarn, .healthTempPeak, .healthTempT, .healthAuxMin, .healthAuxV, .healthKeeperLow, .healthKeepvV, .healthWdcntFe, .healthWdcntHub, .healthOphoursHours, .healthEvcntFreezes, .healthEvcntShutdowns, .healthEvcntThrottles, .healthEvcntBraces]

end Sys2Proof.Machine
end

