-- ==== Sys2Proof/Config.lean ====
section
/-!
DEFINITION. What the spec leaves open, as constants without a body: nothing in Lean can evaluate them or prove a value of
them. Each is named in a log entry (notes/assumptions).
-/

namespace Sys2Proof.Config

/-- A value the spec does not state, one for each use (the step numbers the uses with a counter in the state). -/
opaque freeValue : Nat → BitVec 128

/-- The payload of a frame of an internal link as it encodes its content: the spec gives what it holds, not its layout (R28). -/
opaque iclPayload : List Nat → BitVec 128

/-- The payload of a frame of the Bluli link as it encodes its content: the spec gives what it holds, not its layout (R454). -/
opaque bluliPayload : List Nat → BitVec 200

end Sys2Proof.Config
end

