-- ==== Sys2Proof/Machine/State.lean ====
section
/-!
DEFINITION. The state of the module as plain data: the HUB with its registers and engines, the eight front-end dies, the
attached devices as far as the module keeps state about them, the timebase, the Starch bank, and the queue of waiting
commands. Register fields live in sparse stores keyed by field and index (`Machine/Ops.lean` reads and writes them); every
other piece of state the rules name is a field of a record below, whose docstring names the rule.
-/

namespace Sys2Proof.Machine

/-- The sums of one channel over a trend interval on its die (R327, R328), with what is fixed at its start. -/
structure IntSum where
  /-- energy, LSB 2^-64 J -/
  e : Int
  /-- sums of the paired voltages and of the calibrated sense voltages, and their number -/
  v : Int
  u : Int
  n : Nat
  /-- a metering hold, a calibration slot touched the interval (R329, R352) -/
  hold : Bool
  slot : Bool
  /-- the range in force (R16), R_SH in 10 pΩ as a fraction, SH_OFS in nV and SHT_FB (R325) -/
  fine : Bool
  rNum : Nat
  rDen : Nat
  ofs : Int
  shFb : Bool
  deriving DecidableEq, Repr

/-- A closed interval that waits to be sent: its sums, its start on elapsed time, the count at its end, its length in ns, the die epoch
(R43), the channel's state code and TJ_EST at its end (R14). -/
structure Closed where
  sum : IntSum
  start : Nat
  count : Nat
  len : Nat
  epoch : Nat
  state : Nat
  tj : Nat
  deriving DecidableEq, Repr

/-- A current sample that a calibration slot keeps back: its time, its calibrated sense voltage, and the voltage at that time as
vn / (dv × 10^9 × 2^19) V (R326, R352). -/
structure HeldSample where
  t : Nat
  u : Int
  vn : Int
  dv : Nat
  deriving DecidableEq, Repr

/-- A calibration slot of a channel (R350, R352): the kind of its path, 0 A, 1 B, 2 V; its start on elapsed time and on the count; the
path's sum and number of samples in the 100 µs before it and after it; the samples kept back. -/
structure CalSlot where
  kind : Nat
  t0 : Nat
  count : Nat
  pre : Int × Nat
  post : Int × Nat
  held : List HeldSample
  deriving DecidableEq, Repr

/-- The metering path of one channel on its die (R270, R323 to R327). -/
structure MPath where
  /-- polarity of the next sample (R270) -/
  chop : Bool
  /-- the residual offset estimate, LSB 2^-35 of full scale, and the sample before, of the other polarity; the time of that sample,
  after which the polarity reversed -/
  resid : Int
  lastRaw : Option Int
  rawT : Nat
  /-- the last OUT sample: its time and calibrated voltage (R326) -/
  outT : Option (Nat × Int)
  /-- current samples that wait for their later OUT sample: time and calibrated sense voltage, oldest first -/
  wait : List (Nat × Int)
  /-- the last current sample, which a wide capture holds (R296) -/
  lastU : Int
  /-- time of the previous current sample of the integration (R327) -/
  prevT : Option Nat
  cur : IntSum
  closed : List Closed
  /-- start of the open interval on elapsed time; end of the calibration slot of the channel (R352) -/
  openT : Nat
  slotTill : Nat
  /-- the slot whose interpolation is not complete, and the calibrated samples of the last 100 µs of each quantity, newest first:
  (time, value) (R352) -/
  slot : Option CalSlot
  pastU : List (Nat × Int)
  pastV : List (Nat × Int)
  /-- words sent (R18), mean power in mW of the last complete interval (R334) -/
  seq : Nat
  lastMw : Int
  deriving DecidableEq, Repr

/-- What a GRANT that has reached the die waits for before its ramp starts: a fresh OUT sample (R291), or the channel's first
current sample after a wide capture (R296). -/
inductive RampWait where
  | no | out | cur
  deriving DecidableEq, Repr

/-- The die's engines for one channel: chapters 03 and 04. Currents, voltages and demands are Q1.15 integers (R91, R96). -/
structure Eng where
  /-- gate driver (R104), and the start of its last fast sink (R159) -/
  gate : Gate
  fastFrom : Nat
  /-- the fast sink that runs ends high-impedance; the gate voltage to which a high-impedance driver keeps its output stage preset, 0.1 V
  per unit (R460) -/
  hiZAfter : Bool
  preset : Nat
  /-- trip latch (R159, R161) -/
  tripLatch : Bool
  /-- the demand last applied (R102) and its winner code -/
  dsel : Int
  win : Nat
  /-- saturation of the winning demand (R106) and whether integration was frozen (R114) -/
  sat : Bool
  frozen : Bool
  /-- driver reports: at the charge-pump limit, at source (R108) -/
  atPump : Bool
  atSource : Bool
  /-- most recent current sample and OUT entry (R97), and gate-source voltage, 0.1 V per unit (R163) -/
  i : Int
  out : Int
  vgs : Nat
  /-- time of that OUT sample, and what the ramp waits for (R291, R296) -/
  outAt : Nat
  due : RampWait
  /-- ramp reference, Q9.31 (R109) -/
  ref : Int
  /-- instantaneous ramp rate r as a fraction, mV/ms (R110), and whether the fall has begun -/
  rNum : Nat
  rDen : Nat
  rFall : Bool
  /-- ramp complete: REF has reached the target (R111), or the ramp was ended under R75 -/
  rampEnd : Bool
  /-- REF at the start of the ramp, OUT at the start, summed current and whether C_MEAS is still measured (R113) -/
  refStart : Int
  outStart : Int
  qSum : Int
  measuring : Bool
  /-- integrators of the five loops, Q9.31 (R106) -/
  x : List Int
  /-- winners of the last ten loop cycles, newest first, and consecutive cycles won by 1 (R103) -/
  wins : List Nat
  freeWins : Nat
  /-- instant since which both RAMP_DONE conditions hold (R74) -/
  doneSince : Option Nat
  /-- entry to LIMIT, from which the LIMIT timer counts (R78) -/
  limFrom : Option Nat
  /-- instant since which the following error exceeds its band (R116) -/
  feSince : Option Nat
  /-- gate-stall timer, ns (R163) -/
  stallNs : Nat
  /-- dissipation samples since the last model step (R144) -/
  ps : List Int
  /-- pole states, LSB 2^-43 of 64 °C (R145) -/
  poles : List Int
  /-- the poles wait for the first temperature of TS since the module's start (R148) -/
  polesDue : Bool
  /-- model outputs in the 12-bit format: TJ_EST, TS_EST; TS_MEAS as converted (R145, R149, R147) -/
  tjEst : Nat
  tsEst : Nat
  tsMeas : Nat
  /-- TJ_EST above TJ_TRIP, TS_MEAS above TS_TRIP at the last step (R152, R151) -/
  tjOver : Bool
  tsOver : Bool
  /-- PLIM and its source (R155) -/
  plim : Nat
  plimSrc : Nat
  /-- episode energy as p summed on the power scale of the ±18.75 mV range, and whether an episode runs (R156) -/
  episode : Nat
  epiRun : Bool
  /-- MISMATCH and the elapsed instant since which the difference has been on the other side (R150) -/
  mismatch : Bool
  mmSince : Option Nat
  /-- wires declared open: current wire, TS wire (R301), and their consecutive-test counts -/
  csOpen : Bool
  tsOpen : Bool
  csRun : Nat
  tsRun : Nat
  /-- FET-short check: gate reported at source at, OUT_MIN, short condition since (R164) -/
  fsFrom : Option Nat
  outMin : Int
  shortSince : Option Nat
  /-- a comparator crossing with the gate off (R160) -/
  htCmp : Bool
  /-- highest step power of the present and the last reported trend interval (R148) -/
  pHigh : Nat
  pHighRep : Nat
  /-- pole states last reported with the trend words (R148), and when -/
  polesRep : List Int
  polesRepT : Nat
  /-- a trip or FET short, a hard trip, a LIMIT_WIN or CAP_WIN since the last loop cycle, for the trace triggers (R124) -/
  tripPulse : Bool
  hardPulse : Bool
  winPulse : Bool
  /-- loop cycles so far (R122) -/
  tick : Nat
  /-- the node values of the last cycle, by node code (R121) -/
  nodes : List Int
  /-- the metering path (R323 to R327) -/
  m : MPath
  /-- the two last samples of TS[l], newest first, and the bias of the newest is 100 µA (R281) -/
  tsPair : Int × Int
  tsHigh : Bool
  deriving DecidableEq, Repr

/-- A message from HUB to a die, in the order sent (R30, R34): a forwarded or FE-held field write, applied whole (R117), or a command
to the engines of a channel's gang. -/
inductive DownMsg where
  /-- fields (key, value) applied together, and whether a host write asked for them (R36 waits for it) -/
  | fields (host : Bool) (kvs : List (Nat × Nat))
  /-- a host write of the FE-held word at an address, and whether its unlock was set at acceptance (R32) -/
  | hostWrite (addr value : Nat) (unlocked : Bool)
  /-- the machine of leader n has gone from one state to another (R104) -/
  | state (n : Nat) (old new : ChState)
  /-- GRANT of leader n (R73, R161) -/
  | grant (n : Nat)
  /-- HUB trips leader n (R162, R190) -/
  | trip (n : Nat)
  /-- leader n leaves HELD for a state (R69) -/
  | release (n : Nat) (prior : ChState)
  deriving DecidableEq, Repr

/-- A frame of an internal link as it was built (R28); its content stands for the payload, whose layout the spec does not give. -/
structure Frame where
  kind : Nat
  epoch : Nat
  seq : Nat
  content : List Nat
  deriving DecidableEq, Repr

/-- A message from a die to HUB, in the order sent (R30). -/
inductive UpMsg where
  /-- a status frame with a channel event and its timestamp (R38, R63) -/
  | event (n : Nat) (ev : Ev) (t : Nat)
  /-- a write acknowledge (R33) -/
  | ack
  /-- the reply to a read request (R37) -/
  | readReply (port : Nat) (addr : Nat) (value : Nat)
  deriving DecidableEq, Repr

/-- A filter unit: integrators and combs of the cascaded moving sums, input samples of the present output, input samples
until outputs are valid, and a formed output that waits (R282, R283). -/
structure FuState where
  ints : List Int
  combs : List Int
  cnt : Nat
  left : Nat
  gap : Bool
  ready : Option Int
  deriving DecidableEq, Repr

/-- What holds CVB (R287). -/
inductive UrgKind where
  | capture | bench | direct
  deriving DecidableEq, Repr

/-- The urgent requests of one die (R287 to R297). -/
structure Urgent where
  run : Option UrgKind
  startT : Nat
  waitCap : Bool
  waitBench : Bool
  waitConv : Bool
  /-- entries to convert before the next request may start -/
  passLeft : Nat
  /-- the input, the trigger code and the channel of the capture that waits or runs (R294); ABORT has been written -/
  capIn : Nat
  capSrc : Nat
  capCh : Nat
  capAbort : Bool
  capCut : Bool
  /-- the capture that waits was wide when it was triggered (R295) -/
  capWide : Bool
  /-- the loop set: place in the pass of 26 and whether the pass is an odd one, whether CVB's slice takes the next sample, and the local
  channels whose OUT is sampled ahead of the pass (R289 to R291) -/
  loopAt : Nat
  loopOdd : Bool
  loopB : Bool
  ahead : List Nat
  deriving DecidableEq, Repr

/-- The running visit of a converter: conversions of the slice's work already done, and the instant since which it works on, while it
does (R272, R275). -/
structure VisitRun where
  done : Nat
  since : Option Nat
  deriving DecidableEq, Repr

/-- The open-wire round of a die: its start, the place of the next test (2 × local channel, plus 1 for the TS wire), the start of that
test, and the last samples of its two phases, newest first (R300). -/
structure OwRound where
  start : Nat
  place : Nat
  testT : Nat
  phaseA : List Int
  phaseB : List Int
  deriving DecidableEq, Repr

/-- One front-end die (R19 to R21, chapters 01, 03, 07, 12). -/
structure Die where
  /-- the die has joined under its current epoch (R47) -/
  joined : Bool
  /-- frames waiting in each direction (R30); the writes that the die has applied and HUB holds no acknowledge for (R33, R471) -/
  down : List DownMsg
  up : List UpMsg
  unacked : List DownMsg
  /-- the die's copies of forwarded fields, and the FE-held fields (R31) -/
  regs : Sparse
  /-- most recent BUS entry and the entry before it, Q1.15 of 100 V (R97, R98) -/
  bus : Int
  busPrev : Int
  /-- trace memory, keyed by trace channel × 4096 + entry (R120) -/
  trace : Sparse
  /-- next entry, entries since arming, rotations since the last entry, entries still to record after the trigger (R123) -/
  trNext : Nat
  trCount : Nat
  trSkip : Nat
  trLeft : Nat
  /-- a FORCE held until PRE entries exist (R123); a cross-trigger waiting (R124) -/
  trForce : Bool
  trCross : Bool
  /-- last TC0 value and last winner of TCHAN since arming, for crossings and winner changes (R124) -/
  trPrev : Option Int
  trPrevWin : Option Nat
  /-- a trigger condition has come since the last entry (R124), and the replica time of that entry (R123) -/
  trHit : Bool
  trTime : Nat
  /-- the die is in reset since (R471) -/
  resetT : Option Nat
  /-- it has not rejoined 5 ms after its reset began; the last reset of R472 -/
  stuckT : Option Nat
  /-- the time replica (R25): the last synchronisation marker on elapsed time, the timebase value it carried, the rate word in
  2^-32 ns per cycle of CLK_FEk -/
  markT : Nat
  phase : Nat
  rate : Nat
  /-- the cycles of CLK_FEk between the last two markers, and the elapsed time between them (R25) -/
  cyc : Nat
  span : Nat
  /-- cycles of CLK_FEk since the first marker of the present timebase second, and when that was, while the second measures CLK_FEk
  (R49) -/
  secCyc : Nat
  secT : Option Nat
  /-- the instant at which the die joined last; the engines of its channels as HUB saw them last, while its link is down (R31) -/
  joinT : Nat
  shown : List Eng
  /-- the raw and the filtered seats of its channels as HUB saw them last, while its link is down (R31) -/
  shownSeat : List (Bool × Bool)
  /-- frames that have reached the die and HUB over the link: SEQ of the next of each direction, modulo 256 (R28) -/
  seqDn : Nat
  seqUp : Nat
  /-- the last frame of each direction (R28) -/
  lastDn : Option Frame
  lastUp : Option Frame
  /-- gate keep: its end by time, where it ends by time (R461) -/
  keep : Bool
  keepEnd : Option Nat
  /-- filter units FU0 to FU79 (R282) -/
  fus : Vector FuState 80
  /-- the three most recent BUS samples, newest first (R286) -/
  bus3 : List Int
  urg : Urgent
  /-- the slices that serve positions P0 to P3 of CVA and of CVB (R266, R267); the position of CVB's next slot -/
  posA : List Nat
  posB : List Nat
  slotPos : Nat
  /-- the local channel whose current sample comes next in the rotation (R277); the entry from which the scan goes on (R280, R288) -/
  rotNext : Nat
  scanAt : Nat
  /-- low-power mode begins or ends at the next rotation boundary (R298) -/
  lpNext : Option Bool
  /-- the word of the dither generator, 23 bits (R271) -/
  lfsr : Nat
  /-- the running visits (R272) and the open-wire round (R300) -/
  visA : VisitRun
  visB : VisitRun
  ow : OwRound
  /-- the running visit of CVA, of CVB is a repeat (R274) -/
  repA : Bool
  repB : Bool
  /-- the trims and linearity tables of the slices, for full rate and low power: trims keyed (set × 16 + slice) × 4 + trim,
  two's complement in 16 bits; entries keyed (set × 16 + slice) × 64 + segment, likewise; the next segments keyed
  set × 16 + slice (R272, R273, R276) -/
  trims : Sparse
  lin : Sparse
  segs : Sparse
  /-- the set of the present visit of CVA and CVB in low-power mode is the low-power set (R276) -/
  altA : Bool
  altB : Bool
  /-- manufacture values in one-time memory, keyed alike (R274, R276) -/
  otpTrims : Sparse
  otpLin : Sparse
  /-- HUB's copies in the ledger store (R276), and whether they are valid -/
  hubTrims : Sparse
  hubLin : Sparse
  hubValid : Bool
  /-- the bench scan that waits or runs is a zero scan, and a trigger held during a scan or rest (R370, R373) -/
  scanZero : Bool
  scanHeld : Option Bool
  /-- end of the rest (R370), and the conditions in force during the scan that runs, as COND has them (R376) -/
  restEnd : Option Nat
  scanCond : Nat
  /-- sum and number of calibrated BUS samples of the open interval, and of the closed one (R14) -/
  busSum : Int
  busN : Nat
  busDone : Int × Nat
  /-- the higher of the temperatures of the die and of HUB at the end of the closed interval (R14) -/
  tempDone : Nat
  /-- elapsed instant of the last trend interval boundary of the die, in doze of its last scan (R299) -/
  lastB : Nat
  /-- a calibration slot of BUS, kind 3, with the instants of the samples kept back, and the calibrated BUS samples of the last 100 µs, newest
  first (R350, R352) -/
  busSlot : Option CalSlot
  pastBus : List (Nat × Int)
  /-- consecutive keeper readings below 10.5 V (R585) -/
  keepLowN : Nat
  /-- sums and numbers of the results of inputs 0x42 and 0x44 since the last check (R340, R359) -/
  refSum : Int
  refN : Nat
  calSum : Int
  calN : Nat
  /-- input 0x44 over the last second through CALIN, 10 nV per LSB (R349, META.CALIN) -/
  calV : Int
  /-- last results of the die temperature sensor and of the keeper supply, extended format -/
  tempRaw : Int
  keepRaw : Int
  /-- increments of the last 64 timebase seconds, by second and channel (R332): (second, channel sums) -/
  secs : List (Nat × Sparse)
  /-- the count from which those sums are whole -/
  secsFrom : Nat
  deriving DecidableEq, Repr

/-- A record of the ledger stream: its units of 128 bits (R415). -/
structure LRec where
  units : List Nat
  deriving DecidableEq, Repr

/-- The slices that serve positions P0 to P3 of CVA and of CVB, and the positions of their next slots (R266, R267). -/
structure Serve where
  a : List Nat
  b : List Nat
  posA : Nat
  posB : Nat
  deriving DecidableEq, Repr

/-- A fault capture on its way to the pool (R294 to R297, R436). -/
structure Cap where
  die : Nat
  input : Nat
  wide : Bool
  cut : Bool
  src : Nat
  chan : Nat
  /-- time of the first sample, CAPNO, samples, sample period in ps -/
  time : Nat
  no : Nat
  samples : Nat
  period : Nat
  /-- the slices that take its samples (R288, R295) -/
  serve : Serve
  /-- start on the die, samples that have left its buffer for HUB, and samples that found the buffer full (R297) -/
  start : Nat
  sent : Nat
  lost : Nat
  /-- capture data frames that have reached HUB, 128 bits each, oldest first -/
  data : List Nat
  /-- the capture has ended; 0xFF where the capture part was full as its data came (R423) -/
  ended : Bool
  dev : Option Nat
  deriving DecidableEq, Repr

/-- What a command to a device carries (R417, R418, R436 to R439). -/
inductive DevWork where
  /-- a page of the ledger stream, with the BLOCK_NO before which every block is on it or on a page before it -/
  | ledger (pseq blk : Nat)
  | label
  /-- a trend stripe: T_START of its first interval, the end of its last one, the elapsed start and length of what it holds -/
  | stripe (idx t0 t1 e0 len : Nat)
  /-- a part of a capture, with the first LBA and the first PSEQ of the capture -/
  | pool (c : Cap) (lba pseq : Nat)
  | flush
  /-- a ledger page that a resilver copies from the other device (R439) -/
  | copy (pseq : Nat)
  /-- Format NVM (R438) -/
  | format
  deriving DecidableEq, Repr

/-- An NVMe command at a device (R418, R440, R442). -/
structure DevCmd where
  work : DevWork
  /-- its first LBA and the units written -/
  lba : Nat
  units : List Nat
  /-- the instants of its last and of its first submission -/
  t : Nat
  t0 : Nat
  /-- the write has failed once -/
  again : Bool
  /-- Force Unit Access -/
  fua : Bool
  /-- it waits, not issued, while writes are held -/
  parked : Bool
  deriving DecidableEq, Repr

/-- One device, on PEA or PEB, as far as the module keeps state about it (R418 to R420, R436 to R440). -/
structure Dev where
  /-- commands outstanding, oldest first -/
  cmds : List DevCmd
  /-- instants of failed resets within 60 s, and of errors within an hour -/
  resets : List Nat
  errs : List Nat
  /-- LEDGER_ID of its label, 0 for none; the first ledger page it lacks -/
  label : Nat
  lacks : Nat
  /-- the next LBA of its pool ring, and the time of its last pool write -/
  poolLba : Nat
  poolT : Nat
  /-- device serial: two units of a DEVICE record -/
  serial : List Nat
  /-- a resilver has been cancelled: RESILVER, idle (R448) -/
  idle : Bool
  /-- stripes held in its trend area: (stripe, T_START) -/
  stripes : List (Nat × Nat)
  /-- it takes new ledger pages since this elapsed instant (R439) -/
  joinT : Nat
  /-- the ledger pages that its resilver copies: from the first on, up to but without the second (R439) -/
  copyFrom : Nat
  copyTo : Nat
  /-- its namespace is in a 4 096-byte format (R438) -/
  inFormat : Bool
  /-- a preparation, and an ejection, that wait for the end of a hold on writes (R437, R438, R442, R448) -/
  prepDue : Bool
  ejectDue : Bool
  /-- the health log falls due (R418) -/
  smartT : Nat
  /-- the PSEQ behind the newest page of its trend area and of its pool, as found at link-up (R443) -/
  trendPseq : Nat
  poolPseq : Nat
  deriving DecidableEq, Repr

/-- A ledger block that has closed and waits for the increments of the intervals that end at or before T_END (R427). -/
structure BlkEnd where
  /-- T_START, T_END and their elapsed instants (R427) -/
  t0 : Nat
  startE : Nat
  tEnd : Nat
  endE : Nat
  /-- FLAGS, and unit 2 (R427, R428) -/
  flags : Nat
  cite : Nat
  /-- EPOCH and digest of the bank that governs it (R432) -/
  bank : Nat × List Nat
  /-- the conditions of QUAL met: module-wide, by die for BUFQ and FROZEN, and of single channels (R428) -/
  qual : Nat
  bufq : Nat
  frozen : Nat
  chan : Sparse
  /-- the increments accepted of intervals that ended after T_END, by channel (R427) -/
  late : Sparse
  /-- the checkpoint that is due after it, with OFF_HOUR (R432) -/
  due : Option Bool
  deriving DecidableEq, Repr

/-- The recorder: the ledger and trend streams and the devices (chapter 11). -/
structure Recorder where
  /-- records placed in the ledger stream and not yet written to a page whole; units of the first that are on a page -/
  stream : List LRec
  streamAt : Nat
  /-- shared records since the previous block, newest last (R429) -/
  sharedSince : List LRec
  /-- local records other than CHECKPOINT since the previous checkpoint, newest last (R432) -/
  localSince : List LRec
  /-- captures that run or wait for the pool, oldest first -/
  caps : List Cap
  /-- units of the last ledger page, and its PSEQ (R417, R431) -/
  page : List Nat
  pseq : Nat
  /-- commands that no device could take: held in Basket (R422, R437) -/
  held : List DevCmd
  /-- trend units not yet in a stripe, T_START of the first interval among them, next trend PSEQ, next pool PSEQ, and the
  device that takes the next stripe (R426) -/
  trend : List Nat
  trendT0 : Nat
  /-- the elapsed start of that interval -/
  trendE0 : Nat
  /-- the trend interval that an image has given, from the next timebase second on (R425) -/
  trendNext : Option Nat
  trendPseq : Nat
  poolPseq : Nat
  turn : Nat
  /-- T_START, DUR and FLAGS of the trend interval whose words are being received, and the module word's SEQ (R424) -/
  trMeta : Nat × Nat × Nat
  modSeq : Nat
  /-- end of the last trend interval discarded because Basket is full, with its start and elapsed start (R423) -/
  dropFrom : Option (Nat × Nat)
  /-- the open block: T_START, its elapsed start, the flags and conditions met so far: module-wide, by die for BUFQ and
  FROZEN, and the QUAL bits of single channels (R427, R428) -/
  blkT0 : Nat
  blkE0 : Nat
  blkFlags : Nat
  blkQual : Nat
  blkBufq : Nat
  blkFrozen : Nat
  blkChan : Sparse
  /-- blocks that have closed and wait for increments, oldest first (R427) -/
  blkWait : List BlkEnd
  /-- hash of units 0 to 17 of the previous block (R429) -/
  prevHash : List Nat
  /-- a checkpoint is due, with OFF_HOUR; FIRST_BLOCK_NO, T_END, EPOCH and digest of the last block, the elapsed instant of
  the previous checkpoint, and whether a ledger GAP lies among the covered blocks (R432) -/
  ckptDue : Option Bool
  ckptFirst : Nat
  lastEnd : Nat
  lastBank : Nat × List Nat
  ckptT : Nat
  chainBreak : Bool
  /-- devices -/
  devA : Dev
  devB : Dev
  /-- BLOCK_NO before which every block is on a device, and the blocks from there on, each with T_START and its elapsed instant -/
  ackBlk : Nat
  unacked : List (Nat × Nat × Nat)
  /-- start of the oldest content of each stream that Basket lost, on the count and on elapsed time, with the first block lost and the
  block after the last (R441) -/
  basketFrom : List (Nat × Nat)
  basketBlk : Nat × Nat
  /-- the last burst of a STANDBY module (R444) -/
  burstT : Nat
  /-- a STANDBY module's stream stands where its partner's does; shared records received that wait for their block, and blocks received
  ahead of their turn with what is bound to them (R432, R444) -/
  follows : Bool
  group : List LRec
  ahead : List (Nat × List LRec)
  /-- end of the wait after a write burst while throttled (R577) -/
  burstEnd : Nat
  /-- the recorder has established its position (R443) -/
  ready : Bool
  /-- checkpoints that this module has signed (R432) -/
  signed : Nat
  /-- PEA_PERST_N and PEB_PERST_N are held low before these elapsed instants (R597) -/
  perst : Nat × Nat
  /-- the signing key, and the bytes of its certificate (R433, R446) -/
  key : Nat
  cert : List Nat
  deriving DecidableEq, Repr

/-- A slot of the ledger store for an energy checkpoint (R331): valid while it holds one whose read-back has not failed. -/
structure Ckpt where
  valid : Bool
  time : Nat
  /-- the accumulators, Q64.64, by channel -/
  acc : Sparse
  /-- the ledger identity: LEDGER_ID, BLOCK_NO and hash of the block that ends at the boundary (R430) -/
  ledger : Nat
  blk : Nat
  hash : List Nat
  count : Nat
  /-- the CRC-32 over the above (R345) -/
  crc : Nat
  deriving DecidableEq, Repr

/-- The slots of one path in a mode-0 session: kind 0 A, 1 B, 2 V, 3 BUS; the channel, or the die for BUS; slots measured
with the sums of their gains and offsets (R349, R350). -/
structure SlotSum where
  kind : Nat
  ch : Nat
  n : Nat
  gain : Int
  ofs : Int
  deriving DecidableEq, Repr

/-- A calibration session (R348 to R355). -/
structure Sess where
  mode : Nat
  swap : Bool
  slots : Nat
  /-- every channel of a die together, as in mode 1 (R348) -/
  together : Bool
  phase : Nat
  phaseT : Nat
  /-- the host fields staged at the start (R345), by word of META.STAGE -/
  stage : Sparse
  /-- input 0x44 of each die in phase 1, 10 nV per LSB -/
  v1 : List Int
  /-- the words measured so far, by word of the bank -/
  words : Sparse
  sums : List SlotSum
  /-- channels that wait for a slot, since (R351), and channels whose relief has disagreed once -/
  waits : List (Nat × Nat)
  /-- by die, the start of its last slot plus 1 (R349) -/
  slotAt : Sparse
  relief : List Nat
  /-- CAL_TIME and whether PPS_IN was not locked then (R354) -/
  calTime : Nat
  untraced : Bool
  /-- the highest SEQ of a valid COMMIT at the start (R346) -/
  seqHigh : Nat
  /-- the bank committed, and the boundary B at which it takes effect (R354) -/
  target : Nat
  applyB : Option Nat
  deriving DecidableEq, Repr

/-- An unmetered span that is open (R332 to R334): of one die or of the module, its cause, its start on the count and on elapsed time,
and the mean powers that its record carries, a unit of four channels each. -/
structure Unmet where
  die : Option Nat
  cause : Nat
  t0 : Nat
  e0 : Int
  mw : List Nat
  deriving DecidableEq, Repr

/-- The ledger store of the metering (R331), and the calibration banks (R345) by word offset / 4. -/
structure Meter where
  bank0 : Sparse
  bank1 : Sparse
  /-- manufacture coefficients in the dies' one-time memory, laid out as a bank (R347) -/
  bankM : Sparse
  /-- the four rotating slots -/
  ckpts : List Ckpt
  /-- the slot that waits for its read-back -/
  pend : Option Nat
  /-- checkpoints written so far -/
  written : Nat
  /-- the last second boundary, as a count, for which a checkpoint was written -/
  lastSec : Option Nat
  /-- elapsed instant of the last reference check, and consecutive checks above and within the levels of WATCH and of BUF by
  die (R341, R342) -/
  refT : Option Nat
  watchHi : Nat
  watchLo : Nat
  bufHi : Sparse
  bufLo : Sparse
  sess : Option Sess
  /-- the epoch high-water count (R346), and OPHOURS at the commit from which DUE_REM counts (R356) -/
  epochHigh : Nat
  dueFrom : Nat
  /-- the unmetered spans that are open, oldest first (R332 to R334) -/
  unmet : List Unmet
  /-- the channels whose accumulator has its origin: loaded at the start, rebuilt, or taken from the partner (R330, R333, R335) -/
  origin : List Nat
  /-- the first increment since the start, where it came before the origin: its count and elapsed instant (R333) -/
  firstInc : Option (Nat × Nat)
  /-- increments that HUB has accepted, by timebase second and channel (R331) -/
  recent : List (Nat × Sparse)
  /-- the reference cell: since when it lies within its ±0.1 °C band, since when outside ±0.5 °C, and whether it has been in the band since
  AUX good (R339) -/
  cellT : Option Nat
  cellFar : Option Nat
  cellOnce : Bool
  /-- the bank in force was taken under the rollback of R347 -/
  rolled : Bool
  deriving DecidableEq, Repr

/-- The Starch bank: the two fuse copies and the map in force, each keyed by word number (R493). -/
structure Starch where
  copyA : Sparse
  copyB : Sparse
  map : Sparse
  deriving DecidableEq, Repr

/-- The timebase: elapsed time since reset, which never steps (R378), and the count (R377), both in ns, with the
fraction of a nanosecond in units of 2^-32 ns. -/
structure Time where
  elapsed : Nat
  count : Nat
  frac : Nat
  deriving DecidableEq, Repr

/-- The module's own health (R574 to R587). Instants are elapsed. -/
structure Health where
  /-- level in force: 0 normal, 1 warning, 2 stage 1, 3 stage 2, 4 shutdown (R576) -/
  lvl : Nat
  /-- highest reading of the previous round (R576) -/
  roundMax : Nat
  /-- entry to the shutdown level (R578) -/
  shutT : Nat
  /-- AUX12 has risen above its warning level at (R583) -/
  riseT : Option Nat
  /-- lowest AUX12 measurement of the present brace, 10 mV per LSB -/
  braceMin : Nat
  /-- the last 1 ms measurement of AUX12, and the last whole hour of operation (R582, R587) -/
  auxT : Nat
  hourT : Nat
  /-- a HUB watchdog expiry waits for its record (R586) -/
  wdPend : Bool
  /-- AUX12 lies below its reset level: every die is held in reset (R584) -/
  auxOff : Bool
  deriving DecidableEq, Repr

/-- The feeder port (R513 to R529). -/
structure FeederPort where
  f : Vector Feeder 12
  /-- the last balancing update, or the end of the last hold-up sequence (R520, R521) -/
  balT : Nat
  /-- battery units: consecutive failures and next read, by unit (R528) -/
  bbuFails : Nat × Nat
  bbuDue : Nat × Nat
  /-- the last try at a hung bus (R525) -/
  hangT : Nat
  /-- losses of arbitration in the transaction under way (R522) -/
  losses : Nat
  deriving DecidableEq, Repr

/-- A Seam that runs (R462): its cause, whether this module is the outgoing one, the request or acceptance, T_P and T_S once
fixed, and how far it has gone. Instants are elapsed. -/
structure Seam where
  cause : Nat
  out : Bool
  asked : Nat
  plan : Option (Nat × Nat)
  passedP : Bool
  passedS : Bool
  deriving DecidableEq, Repr

/-- The twin pair beside its registers (chapter 12). Instants are elapsed. -/
structure Twin where
  /-- the latest heartbeat of the partner, and what it carried beside the fields of TWIN.STAT (R455) -/
  hbT : Option Nat
  pSlot : Nat
  pTakeover : Bool
  /-- the partner announced LEAVING in its latest heartbeat (R469, R478) -/
  pLeft : Bool
  pDigest : List Nat
  /-- a partner heartbeat has arrived since the transmitters started, and when those started (R451) -/
  heard : Bool
  txT : Option Nat
  /-- MOD_SEAT_A and MOD_SEAT_B: since when each is open; both made since (R469) -/
  openA : Option Nat
  openB : Option Nat
  madeT : Option Nat
  /-- this module announces LEAVING (R469) -/
  leaving : Bool
  /-- bulk synchronisation is complete; the Starch digests differ (R470) -/
  synced : Bool
  mismatch : Bool
  /-- by channel, the time plus 1 of the latest snapshot held (R456) -/
  snaps : Sparse
  /-- the snapshots last sent (R456) -/
  snapOut : List (Nat × Snap)
  seam : Option Seam
  /-- the outgoing module has left its gates: T_S has passed (R462) -/
  left : Bool
  /-- host writes accepted from T_P on, as (address, word): the incoming module applies them at T_S (R464) -/
  heldWrites : List (Nat × Nat)
  /-- first BLOCK_NO built since the partner was lost, and when that was (R468) -/
  splitBlk : Nat
  splitT : Nat
  /-- the last refused request (R462) -/
  refT : Option Nat
  /-- this module has asked its partner for a handover after a calibration (R355) -/
  swapReq : Bool
  /-- the end of the last trend stripe that the ACTIVE partner has reported written, on the count and on elapsed time (R378, R445) -/
  trendTill : Option (Nat × Nat)
  /-- shared records that have arisen in this STANDBY module, oldest first: passed to the ACTIVE one, and not yet come back (R444) -/
  pass : List LRec
  /-- SEQ of the last frame received from the partner, and of the last one sent (R454) -/
  rxSeq : Nat
  txSeq : Nat
  /-- the frames sent that the partner has not acknowledged, oldest first, and those that its last request had repeated (R454, R455) -/
  sent : List BFrame
  resent : List BFrame
  /-- this module's latest heartbeat and when it was sent; it has announced LEAVING and sends no more (R455, R469) -/
  hbOut : Option (Nat × Heartbeat)
  silent : Bool
  /-- T_S of the planned Seam at which this module took the gates over (R464) -/
  seamE : Option Nat
  /-- leaders that have run a shadow cycle in the present Seam (R462, R463) -/
  shadow : List Nat
  deriving DecidableEq, Repr

/-- Start-up, the image and Patch (chapter 13). Instants are elapsed. -/
structure Boot where
  /-- AUX good -/
  startT : Nat
  /-- the shelf flash as discovered -/
  flash : Option FlashInfo
  /-- slots A and B as last checked -/
  slotA : Option ImgSlot
  slotB : Option ImgSlot
  /-- both slots have been checked since discovery -/
  readA : Bool
  readB : Bool
  /-- next try of R492; end of the unlocks (R499) -/
  retryT : Option Nat
  unlockEnd : Option Nat
  /-- an image has been applied, and what it gives (R489) -/
  imaged : Bool
  vals : ImgVals
  /-- the staging command that runs: 1 ERASE_B, 2 PROGRAM, 3 READ, 4 PATCH (R501) -/
  cmd : Nat
  /-- slot B has passed the checks of a Patch and waits for its acceptance (R503) -/
  checked : Option ImgSlot
  patch : Option Patch
  /-- the copy to slot A is to be repeated (R507) -/
  copyDue : Bool
  /-- the fuse command that runs: 1 BURN, 2 SEAL (R495) -/
  fuseCmd : Nat
  /-- HUB went into reset at (R44) -/
  downT : Nat
  deriving DecidableEq, Repr

/-- A host port beside its registers (R554, R555): pulls made since attention became pending, and the instant of the last. -/
structure HostPort where
  pulls : Nat
  lastPull : Option Nat
  deriving DecidableEq, Repr

/-- Everything in the module but the queue, the timebase count and the Starch bank. -/
structure Body where
  role : Role
  /-- HUB's register fields (R31) -/
  regs : Sparse
  chan : Vector Chan 128
  eng : Vector Eng 128
  die : Vector Die 8
  bud : Budget
  rcd : Recorder
  mtr : Meter
  disc : Disc
  tmr : Timers
  health : Health
  fdr : FeederPort
  twin : Twin
  boot : Boot
  hp : Vector HostPort 2
  /-- gain tables changed in HUB and not yet forwarded, by channel (R117) -/
  gainDue : List Nat
  /-- a doze request has been accepted: its instant (R557) -/
  dozeReq : Option Nat
  /-- trend words received for the present trend block, by channel (R43) -/
  trendWords : List (Nat × Nat)
  /-- ALERT_N is driven low (R564) -/
  alertLow : Bool
  /-- the pin is held released: HUB in reset, or phase 1 of start-up not ended (R567) -/
  alertHold : Bool
  /-- HUB is held in reset by the loss of CLK_HUB (R44) -/
  hubDown : Bool
  /-- the module is in doze (R51); leaves that arise in doze wait for the wake (R567) -/
  doze : Bool
  dozeLeaves : List (Nat × Nat)
  /-- the words that the latest read returned: the model's own record of an answer -/
  reply : List Nat
  /-- next free value (see Config.freeValue) -/
  freeIx : Nat
  deriving DecidableEq, Repr

/-- What stops the machine: nothing in this model. The one constructor is the name of a step that the spec calls
impossible; no meaning raises it, and that is safe. -/
inductive Fault where
  /-- raised by no meaning (safe) -/
  | impossible
  deriving DecidableEq, Repr

/-- Why a command has no meaning yet. -/
inductive Refusal where
  /-- raised by the dispatch for a command that has no meaning; safe -/
  | notModelled (mnemonic : String)
  deriving DecidableEq, Repr

/-- The state of the module. -/
structure State where
  /-- the commands that wait, first in, first out -/
  pending : List Instr
  time : Time
  starch : Starch
  body : Body
  deriving DecidableEq, Repr

/-! ### Reset (R10, R54, R450, R477) -/

/-- A channel at reset: UNCONFIGURED (R65). -/
def Chan.reset : Chan :=
  { state := .unconfigured, reason := 0, prior := .empty, priorReason := 0, heldEvs := [], holds := [], used := false,
    seatRaw := false, seated := false, debEnd := none, lossEnd := none, assertT := 0, absStart := none, aqEnd := none,
    darn := 0, retryEnd := none, retryLeft := none, retryReady := false, busTrip := false, holdoffEnd := 0, enZeroT := 0,
    partialRamp := false, admitT := 0, learnt := none, queuedT := 0, qageHeld := 0, seatTime := 0, seatE := 0, tripE := 0, capOn := false, capW := 0,
    capGuar := false, eligible := false, pauseYield := false, busOut := none, busQual := false, pMeas := [],
    benchRec := none, clamps := [], kept := false }

/-- Empty sums. -/
def IntSum.zero : IntSum := ⟨0, 0, 0, 0, false, false, false, 1, 1, 0, false⟩

/-- The metering path at reset. -/
def MPath.reset : MPath :=
  { chop := false, resid := 0, lastRaw := none, rawT := 0, outT := none, wait := [], lastU := 0, prevT := none, cur := IntSum.zero, closed := [],
    openT := 0, slotTill := 0, slot := none, pastU := [], pastV := [], seq := 0, lastMw := 0 }

/-- The engines of a channel at reset: the driver is high-impedance (R477), every state is 0. -/
def Eng.reset : Eng :=
  { gate := .hiZ, fastFrom := 0, hiZAfter := false, preset := 0, tripLatch := false, dsel := 0, win := 0, sat := false, frozen := false, atPump := false,
    atSource := false, i := 0, out := 0, vgs := 0, outAt := 0, due := .no, ref := 0, rNum := 0, rDen := 1, rFall := false, rampEnd := false,
    refStart := 0, outStart := 0, qSum := 0, measuring := false, x := [0, 0, 0, 0, 0], wins := [], freeWins := 0,
    doneSince := none, limFrom := none, feSince := none, stallNs := 0, ps := [], poles := [0, 0, 0, 0], polesDue := false, tjEst := 0,
    tsEst := 0, tsMeas := 0, tjOver := false, tsOver := false, plim := 0, plimSrc := 0, episode := 0, epiRun := false,
    mismatch := false, mmSince := none, csOpen := false, tsOpen := false, csRun := 0, tsRun := 0, fsFrom := none,
    outMin := 32767, shortSince := none, htCmp := false, pHigh := 0, pHighRep := 0, polesRep := [0, 0, 0, 0],
    polesRepT := 0, tripPulse := false, hardPulse := false, winPulse := false, tick := 0, nodes := [], m := MPath.reset,
    tsPair := (0, 0), tsHigh := false }

/-- A die at reset. -/
def Die.reset : Die :=
  { joined := false, down := [], up := [], unacked := [], regs := [], bus := 0, busPrev := 0, trace := [],
    trNext := 0, trCount := 0, trSkip := 0, trLeft := 0, trForce := false, trCross := false, trPrev := none, trPrevWin := none, trHit := false, trTime := 0,
    resetT := none, stuckT := none, markT := 0, phase := 0, rate := 5 * 2 ^ 32, cyc := 1, span := 5, secCyc := 0, secT := none, joinT := 0, shown := [], shownSeat := [], seqDn := 0, seqUp := 0, lastDn := none, lastUp := none,
    keep := false, keepEnd := none,
    fus := Vector.replicate 80 ⟨[0, 0, 0, 0], [0, 0, 0, 0], 0, 0, false, none⟩, bus3 := [],
    urg := ⟨none, 0, false, false, false, 0, 0x7F, 0, 0, false, false, false, 0, true, false, []⟩,
    posA := [0, 1, 2, 3], posB := [0, 1, 2, 3], slotPos := 0, rotNext := 0, scanAt := 0, lpNext := none, lfsr := 1, visA := ⟨0, none⟩,
    visB := ⟨0, none⟩, ow := ⟨0, 0, 0, [], []⟩, repA := false, repB := false,
    trims := [], lin := [], segs := [], altA := false, altB := false, otpTrims := [], otpLin := [], hubTrims := [],
    hubLin := [], hubValid := false, scanZero := false, scanHeld := none, restEnd := none, scanCond := 0, busSum := 0, busN := 0, busDone := (0, 0), tempDone := 0, lastB := 0, busSlot := none, pastBus := [], keepLowN := 0, refSum := 0, refN := 0, calSum := 0,
    calN := 0, calV := 0, tempRaw := 0, keepRaw := 0, secs := [], secsFrom := 0 }

/-- The hold-up sequencer at reset. -/
def HoldUp.reset : HoldUp :=
  { acfail := false, feeder := false, bus := false, trigT := 0, prevEnd := 0, stageT := 0, reached := [],
    waitGates := [], returned := false, retEnd := none, done4 := false, warnSince := none, verified := false,
    shedClasses := [] }

/-- The budget at reset. -/
def Budget.reset : Budget :=
  { plan := none, tLast := none, openSlot := none, cutsFor := none, relaxSince := none, busLow := none,
    busShedT := none, hu := HoldUp.reset, lastCycle := 0, old := [] }

/-- The bank a module leaves manufacture with: epoch 1, SEQ 1 (R345 to R347). DESIGN CHOICE: its coefficients are 0. -/
def bankMade : Sparse :=
  [(0, 0x4B594342), (1, 0x00011404), (2, 1), (3, 0xFFFFFFFE), (4, 1), (1280, 0x81D5C1F6)]

/-- A slot that holds no checkpoint. -/
def Ckpt.empty : Ckpt := ⟨false, 0, [], 0, 0, [], 0, 0⟩

/-- The metering store at reset: bank 0 as left by manufacture, four slots that hold no valid checkpoint. -/
def Meter.reset : Meter :=
  { bank0 := bankMade, bank1 := [], bankM := [], ckpts := List.replicate 4 Ckpt.empty, pend := none, written := 0, lastSec := none,
    refT := none, watchHi := 0, watchLo := 0, bufHi := [], bufLo := [], sess := none, epochHigh := 1, dueFrom := 0, unmet := [],
    origin := [], firstInc := none, recent := [], cellT := none, cellFar := none, cellOnce := false, rolled := false }

/-- A device port at reset: no device. -/
def Dev.reset : Dev :=
  { cmds := [], resets := [], errs := [], label := 0, lacks := 0, poolLba := 671088896, poolT := 0, serial := [0, 0],
    idle := false, stripes := [], joinT := 0, copyFrom := 0, copyTo := 0, inFormat := true, prepDue := false, ejectDue := false
    smartT := 0, trendPseq := 0, poolPseq := 0 }

/-- The recorder at reset. DESIGN CHOICE (log 7): the signing key is 1, REC.KEYID that of its certificate, and no byte of the certificate
is held. -/
def Recorder.reset : Recorder :=
  { stream := [], streamAt := 0, sharedSince := [], localSince := [], caps := [], page := [], pseq := 0, held := [], trend := [],
    trendT0 := 0, trendE0 := 0, trendNext := none, trendPseq := 0, poolPseq := 0, turn := 0, trMeta := (0, 0, 0), modSeq := 0, dropFrom := none,
    blkT0 := 0, blkE0 := 0, blkFlags := 0, blkQual := 0, blkBufq := 0, blkFrozen := 0, blkChan := [], blkWait := [],
    prevHash := [0, 0], ckptDue := none, ckptFirst := 0, lastEnd := 0, lastBank := (0, [0, 0]), ckptT := 0, chainBreak := false,
    devA := Dev.reset, devB := Dev.reset, ackBlk := 0, unacked := [], basketFrom := [], basketBlk := (0, 0), burstT := 0
    follows := true, group := [], ahead := [], burstEnd := 0, ready := false, signed := 0,
    perst := (100000000, 100000000), key := 1, cert := [] }

/-- The discipline at reset. -/
def Disc.reset : Disc :=
  { lastPulse := none, rateEnd := none, prevE := none, badRun := 0, lockRun := 0, step := none, arm := false, align := false,
    holdT := 0, fromFree := false, saved := 0, hubRate := 0 }

/-- The timers at reset. -/
def Timers.reset : Timers :=
  { tick := 0, resets := [], starts := [], edges := [], loadT := [], onT := [], offT := [], runs := [], lint := [], cmpOld := [], rel := [],
    relWait := false, recovEnd := 0, tach := Vector.replicate 8 ⟨0, none⟩ }

/-- Health at reset. -/
def Health.reset : Health :=
  { lvl := 0, roundMax := 0, shutT := 0, riseT := none, braceMin := 0xFFFF, auxT := 0, hourT := 0, wdPend := false, auxOff := false }

/-- A feeder at reset. -/
def Feeder.reset : Feeder :=
  { v0 := 0, t0 := 0, tgt := 0, trim := 0, known := false, tries := 0, fails := 0, okRun := 0, commT := 0, expired := false, wasOn := false,
    statDue := 0, teleDue := 0, tempT := none }

/-- The feeder port at reset. -/
def FeederPort.reset : FeederPort :=
  { f := Vector.replicate 12 Feeder.reset, balT := 0, bbuFails := (0, 0), bbuDue := (0, 0), hangT := 0, losses := 0 }

/-- The twin state at reset: both seat contacts open. -/
def Twin.reset : Twin :=
  { hbT := none, pSlot := 0, pTakeover := false, pLeft := false, pDigest := [], heard := false, txT := none, openA := some 0, openB := some 0,
    madeT := none, leaving := false, synced := false, mismatch := false, snaps := [], snapOut := [], seam := none, left := false,
    txSeq := 0, sent := [], resent := [], hbOut := none, silent := false, seamE := none, shadow := [],
    heldWrites := [], splitBlk := 0, splitT := 0, refT := none, swapReq := false,
    trendTill := none, pass := [], rxSeq := 0 }

/-- Start-up state at reset. -/
def Boot.reset : Boot :=
  { startT := 0, flash := none, slotA := none, slotB := none, readA := false, readB := false, retryT := none, unlockEnd := none,
    imaged := false, vals := ⟨[], [], []⟩, cmd := 0, checked := none, patch := none, copyDue := false, fuseCmd := 0, downT := 0 }

/-- The body at reset: a STARTING module (R450) with its pin held released (R567). -/
def Body.reset : Body :=
  { role := .starting, regs := [], chan := Vector.replicate 128 Chan.reset, eng := Vector.replicate 128 Eng.reset,
    die := Vector.replicate 8 Die.reset, bud := Budget.reset, rcd := Recorder.reset, mtr := Meter.reset,
    disc := Disc.reset, tmr := Timers.reset, health := Health.reset, fdr := FeederPort.reset,
    twin := Twin.reset, boot := Boot.reset,
    hp := Vector.replicate 2 ⟨0, none⟩, gainDue := [], dozeReq := none, trendWords := [], alertLow := false, alertHold := true, hubDown := false, doze := false, dozeLeaves := [], reply := [], freeIx := 0 }

/-- The module right after reset: AUX12 has just come good, no command waits. -/
def State.reset : State :=
  { pending := [], time := ⟨0, 0, 0⟩, starch := ⟨[], [], []⟩, body := Body.reset }

/-- The outcome of a command. -/
abbrev Out := Host.Outcome State Fault Refusal

end Sys2Proof.Machine
end

