-- ==== Sys2Proof/Machine/Ops.lean ====
section
/-!
DEFINITION. The named operations over the state: sparse stores, register fields, channels and dies, leaf causes and the
alert pin (chapter 16), records of the ledger stream (chapter 11), forwarded writes (R31 to R34) and elapsed time (R378).
-/

namespace Sys2Proof.Machine

open Sys2Proof

/-! ### Sparse stores -/

/-- The value at a key; an unlisted key holds the default. -/
def sparseGet (d : Nat) : Sparse → Nat → Nat
  | [], _ => d
  | (k, v) :: m, q => if k = q then v else sparseGet d m q

/-- List a value at a key, in its place. -/
def sparseIns : Sparse → Nat → Nat → Sparse
  | [], q, x => [(q, x)]
  | (k, v) :: m, q, x =>
    if q < k then (q, x) :: (k, v) :: m else if q = k then (k, x) :: m else (k, v) :: sparseIns m q x

/-- Store a value; storing the default removes the entry. -/
def sparseSet (d : Nat) (m : Sparse) (q x : Nat) : Sparse :=
  if x = d then m.filter fun e => e.1 ≠ q else sparseIns m q x

/-- Keys strictly rise from a bound on. -/
def sparseSorted : Nat → Sparse → Bool
  | _, [] => true
  | b, (k, _) :: m => decide (b ≤ k) && sparseSorted (k + 1) m

/-- Every entry satisfies a test of its key and value. -/
def sparseAll (p : Nat → Nat → Bool) : Sparse → Bool
  | [] => true
  | (k, v) :: m => p k v && sparseAll p m

/-- The canonical form of a store whose default at key k is d k. -/
def sparseWf (d : Nat → Nat) (m : Sparse) : Bool :=
  sparseSorted 0 m && sparseAll (fun k v => decide (v ≠ d k)) m

/-! ### Register fields -/

/-- The key of field f at index i. -/
def fkey (f : Fld) (i : Nat) : Nat := i * 1024 + f.ctorIdx

/-- ALERT.EN[g] at reset (R572, R573). -/
def alertEnReset (g : Nat) : Nat :=
  match g with
  | 0 => 0x1FF | 1 => 0xFFFFFFFF | 2 => 0xFF0000FF | 3 => 0x1F | 4 => 0x7F7F | 5 => 0x70FFF
  | 6 => 0x3FF3F | 7 => 0xDF | 8 => 0x7FF | 9 => 0x1FF03 | 10 => 0x7FFF | _ => 0

/-- The bits of ALERT.LEAF[g] that hold a leaf of their own (R572, R573). -/
def leafMask (g : Nat) : Nat :=
  match g with
  | 0 => 0 | 1 => 0xFFFFFFFF | 2 => 0xFFFFFFFF | 3 => 0xF | 4 => 0x7F7F | 5 => 0x70FFF
  | 6 => 0x3FF3F | 7 => 0xFF | 8 => 0x7FF | 9 => 0x1FF03 | 10 => 0x7FFF | _ => 0

/-- The bits of ALERT.EN[g] (R571, R572). -/
def alertEnMask (g : Nat) : Nat :=
  match g with
  | 0 => 0xFFF | 3 => 0x1F | _ => leafMask g

/-- The input code of scan entries E0 to E48, fixed under R279: OUT, GATE and TS of local channels 0 to 15, then BUS. -/
def entryReset (e : Nat) : Nat :=
  if e < 16 then 0x10 + e else if e < 32 then 0x20 + (e - 16) else if e < 48 then 0x30 + (e - 32)
  else if e = 48 then 0x40 else 0

/-- The reset value of a field at an index (R10). DESIGN CHOICE (log 7): REC.KEYID, a factory value, is that of the public key of the
signing key 1 (R433). -/
def fieldReset (f : Fld) (i : Nat) : Nat :=
  match f with
  | .alertEn => alertEnReset i
  | .feEntryInput => entryReset (i % 64)
  | .recKeyidKeyId => 0x5CD252FB
  | f => f.row.reset

/-- The width of a field in bits. -/
def fieldWidth (f : Fld) : Nat := f.row.hi - f.row.lo + 1

/-- The default value at a key of a register store. -/
def regDefault (k : Nat) (f : Fld) : Nat := fieldReset f (k / 1024)

/-- Read field f at index i of a register store. -/
def regGet (m : Sparse) (f : Fld) (i : Nat) : Nat := sparseGet (fieldReset f i) m (fkey f i)

/-- Write field f at index i of a register store; bits above the field's width are dropped. -/
def regSet (m : Sparse) (f : Fld) (i v : Nat) : Sparse :=
  sparseSet (fieldReset f i) m (fkey f i) (v % 2 ^ fieldWidth f)

/-- The field of a key. -/
def keyFld (k : Nat) : Fld := Fld.ofNat (k % 1024)

/-- Write the field of a key. -/
def regSetKey (m : Sparse) (k v : Nat) : Sparse := regSet m (keyFld k) (k / 1024) v

/-- The listed entries of a field whose reset value is 0: (index, value). -/
def regEntries (m : Sparse) (f : Fld) : List (Nat × Nat) :=
  m.filterMap fun e => if e.1 % 1024 = f.ctorIdx then some (e.1 / 1024, e.2) else none

/-- HUB's field f at index i. -/
def Body.rd (b : Body) (f : Fld) (i : Nat := 0) : Nat := regGet b.regs f i

/-- Set HUB's field f at index i. -/
def Body.wr (b : Body) (f : Fld) (i v : Nat) : Body := { b with regs := regSet b.regs f i v }

/-- A one-bit field of HUB. -/
def Body.flag (b : Body) (f : Fld) (i : Nat := 0) : Bool := b.rd f i = 1

/-- A BUDGET or BALLOC field as it is in force: a written value takes effect at the next budget cycle (R215). -/
def Body.bdg (b : Body) (f : Fld) (i : Nat := 0) : Nat :=
  match sparseGet 0 b.bud.old (fkey f i) with
  | 0 => b.rd f i
  | v + 1 => v

/-- 1 for true, 0 for false. -/
def bit (c : Bool) : Nat := if c then 1 else 0

/-- Add to a counter field that saturates at its width. -/
def Body.bump (b : Body) (f : Fld) (i : Nat := 0) : Body :=
  b.wr f i (min (b.rd f i + 1) (2 ^ fieldWidth f - 1))

/-! ### Channels, engines and dies -/

/-- HUB's view of channel n (modulo 128). -/
def Body.ch (b : Body) (n : Nat) : Chan := b.chan.get ⟨n % 128, Nat.mod_lt _ (by decide)⟩

/-- Change HUB's view of channel n. -/
def Body.onCh (b : Body) (n : Nat) (f : Chan → Chan) : Body :=
  { b with chan := b.chan.set (n % 128) (f (b.ch n)) (Nat.mod_lt _ (by decide)) }

/-- The die's engines of channel n. -/
def Body.en (b : Body) (n : Nat) : Eng := b.eng.get ⟨n % 128, Nat.mod_lt _ (by decide)⟩

/-- Change the die's engines of channel n. -/
def Body.onEng (b : Body) (n : Nat) (f : Eng → Eng) : Body :=
  { b with eng := b.eng.set (n % 128) (f (b.en n)) (Nat.mod_lt _ (by decide)) }

/-- Front-end die k. -/
def Body.fe (b : Body) (k : Nat) : Die := b.die.get ⟨k % 8, Nat.mod_lt _ (by decide)⟩

/-- Change front-end die k. -/
def Body.onDie (b : Body) (k : Nat) (f : Die → Die) : Body :=
  { b with die := b.die.set (k % 8) (f (b.fe k)) (Nat.mod_lt _ (by decide)) }

/-- The die of channel n (R20). -/
def dieOf (n : Nat) : Nat := n / 16

/-- Field f at index i as die k holds it. -/
def Body.drd (b : Body) (k : Nat) (f : Fld) (i : Nat) : Nat := regGet (b.fe k).regs f i

/-- Set field f at index i in die k. -/
def Body.dwr (b : Body) (k : Nat) (f : Fld) (i v : Nat) : Body :=
  b.onDie k fun d => { d with regs := regSet d.regs f i v }

/-- A forwarded field of channel n as its die holds it. -/
def Body.cd (b : Body) (f : Fld) (n : Nat) : Nat := b.drd (dieOf n) f n

/-- The gang leader of a channel; n itself for a single or unconfigured channel (R90). -/
def Body.leadOf (b : Body) (n : Nat) : Nat :=
  if b.rd .chClassGangSize n ≤ 1 then n else b.rd .chClassGangLead n

/-- The channels of the gang of leader l, in channel order; l alone for a single channel. -/
def Body.membersOf (b : Body) (l : Nat) : List Nat :=
  (List.range (max 1 (b.rd .chClassGangSize l))).map (l + ·)

/-- n is a gang member other than the leader (R62). -/
def Body.isMember (b : Body) (n : Nat) : Bool := b.leadOf n ≠ n

/-- The priority class that governs channel n: its leader's (R210). -/
def Body.pclass (b : Body) (n : Nat) : Nat := b.rd .chClassPclass (b.leadOf n)

/-- Fold an operation over a list of channels. -/
def Body.forEach (b : Body) (l : List Nat) (f : Nat → Body → Body) : Body := l.foldl (fun b n => f n b) b

/-- The codes of R54. -/
def ChState.code : ChState → Nat
  | .empty => 0x00 | .seating => 0x01 | .queued => 0x02 | .ramp => 0x03 | .on => 0x04 | .limit => 0x05
  | .capped => 0x06 | .cooling => 0x07 | .latched => 0x08 | .fetFault => 0x09 | .shed => 0x0A | .refused => 0x0B
  | .held => 0x0C | .off => 0x0D | .bench => 0x0E | .unconfigured => 0x0F

/-- The codes of R450. -/
def Role.code : Role → Nat
  | .starting => 0 | .solo => 1 | .active => 2 | .standby => 3 | .bench => 4

/-- RAMP, ON, LIMIT or CAPPED: the engine commands the gate (R104). -/
def ChState.driven : ChState → Bool
  | .ramp | .on | .limit | .capped => true
  | _ => false

/-- ON, LIMIT or CAPPED. -/
def ChState.running : ChState → Bool
  | .on | .limit | .capped => true
  | _ => false

/-- The state that counts for budget, metering and readout of a held channel: PRIOR_STATE (R214). -/
def Chan.eff (c : Chan) : ChState := if c.state = .held then c.prior else c.state

/-- HUB runs the state machines: not in a STANDBY or STARTING module (R237, R458), nor while HUB is in reset (R44), nor after
T_S in the outgoing module of a Seam (R462). -/
def Body.orch (b : Body) : Bool :=
  !b.hubDown && !b.twin.left && (match b.role with
    | .solo | .active | .bench => true
    | .standby | .starting => false)

/-! ### Time and what a command sees of it -/

/-- What the effect of a command sees beside the body: elapsed time, the count, and the Starch map in force. -/
structure Env where
  now : Nat
  count : Nat
  map : Sparse
  deriving DecidableEq, Repr

/-- The surroundings of a command. -/
def State.env (s : State) : Env := ⟨s.time.elapsed, s.time.count, s.starch.map⟩

/-- The count at an elapsed instant near now, on the present label (R378). -/
def Env.countAt (e : Env) (t : Nat) : Nat := e.count + t - e.now

/-- Move the count's carrier forward by whole nanoseconds of elapsed time; never backwards (R378). -/
def Time.advance (t : Time) (ns : Nat) : Time :=
  { t with elapsed := t.elapsed + ns, count := (t.count + ns) % 2 ^ 64 }

/-- One CLK_TB cycle at a rate correction of 0.001 ppm per unit: 4 ns × (1 + RATE), with the fraction of a nanosecond carried
in 2^-32 ns (R377). -/
def Time.tick (rate : Int) (t : Time) : Time :=
  let inc := (2 ^ 34 * (1000000000 + rate) / 1000000000).toNat
  { elapsed := t.elapsed + (t.frac + inc) / 2 ^ 32
    count := (t.count + (t.frac + inc) / 2 ^ 32) % 2 ^ 64
    frac := (t.frac + inc) % 2 ^ 32 }

/-- Move to an elapsed instant, if it lies ahead. -/
def State.goTo (s : State) (t : Nat) : State :=
  { s with time := s.time.advance (t - s.time.elapsed) }

/-- A nanosecond count of milliseconds. -/
def msNs (x : Nat) : Nat := x * 1000000

/-- A nanosecond count of microseconds. -/
def usNs (x : Nat) : Nat := x * 1000

/-- Division rounded up. -/
def ceilDiv (a b : Nat) : Nat := (a + b - 1) / b

/-- A Starch word in force (R493). -/
def Env.fuse (e : Env) (w : Nat) : Nat := sparseGet 0 e.map w

/-- Bits hi to lo of a word. -/
def bits (x hi lo : Nat) : Nat := x / 2 ^ lo % 2 ^ (hi - lo + 1)

/-- Bit i of a word. -/
def bitAt (x i : Nat) : Bool := x / 2 ^ i % 2 = 1

/-- Set bit i of a word. -/
def setBit (x i : Nat) : Nat := if bitAt x i then x else x + 2 ^ i

/-- Clear bit i of a word. -/
def clearBit (x i : Nat) : Nat := if bitAt x i then x - 2 ^ i else x

/-- Bitwise AND. -/
def andBits (x y : Nat) : Nat := Nat.land x y

/-- Bitwise OR. -/
def orBits (x y : Nat) : Nat := Nat.lor x y

/-- The bits of x that are not in m. -/
def andNot (x m : Nat) : Nat := x - Nat.land x m

/-- The value of a two's-complement field of w bits. -/
def toSigned (w x : Nat) : Int := if x % 2 ^ w < 2 ^ (w - 1) then (x % 2 ^ w : Nat) else ((x % 2 ^ w : Nat) : Int) - 2 ^ w

/-- The two's-complement field of w bits of an integer. -/
def ofSigned (w : Nat) (x : Int) : Nat := (x % (2 ^ w : Nat)).toNat

/-! ### Leaf causes and the pin (chapter 16) -/

/-- A leaf of groups 1 to 10: group and bit. -/
abbrev Leaf := Nat × Nat

/-- Set a leaf (R565, R566); in doze it waits for the wake (R567), and HUB in reset sets none (R21, R44). -/
def Body.raise (l : Leaf) (b : Body) : Body :=
  if b.hubDown then b
  else if b.doze then { b with dozeLeaves := b.dozeLeaves ++ [l] }
  else b.wr .alertLeaf l.1 (setBit (b.rd .alertLeaf l.1) l.2)

/-- Bits of ALERT.CHLEAF (R572). -/
inductive ChLeaf where
  | trip | latch | fetShort | mismatch | openWire | busOver | busUnder | yield | refused | shed | clamp | stateChange
  deriving DecidableEq, Repr

/-- The bit of a channel leaf (R572). -/
def ChLeaf.pos : ChLeaf → Nat
  | .trip => 0 | .latch => 1 | .fetShort => 2 | .mismatch => 3 | .openWire => 4 | .busOver => 5 | .busUnder => 6
  | .yield => 7 | .refused => 8 | .shed => 9 | .clamp => 10 | .stateChange => 11

/-- Set a leaf of one channel; a STANDBY module sets no CHAN leaf (R458, R567); in doze it waits for the wake, as group
200 + n (R567); HUB in reset sets none (R21, R44). -/
def Body.raiseCh1 (n : Nat) (l : ChLeaf) (b : Body) : Body :=
  if b.role = .standby || b.hubDown then b
  else if b.doze then { b with dozeLeaves := b.dozeLeaves ++ [(200 + n, l.pos)] }
  else b.wr .alertChleaf n (setBit (b.rd .alertChleaf n) l.pos)

/-- Set a leaf of a leader and every member of its gang (R569). -/
def Body.raiseCh (n : Nat) (l : ChLeaf) (b : Body) : Body :=
  b.forEach (b.membersOf n) fun m b => b.raiseCh1 m l

/-- The leaves of group g with the summary bits that are read-only (R572, R573). -/
def Body.leafWord (b : Body) (g : Nat) : Nat :=
  if g = 0 then (regEntries b.regs .alertChleaf).foldl (fun a e => orBits a e.2) 0
  else if g = 3 then b.rd .alertLeaf 3 + (if (regEntries b.regs .alertTleafTimer).isEmpty then 0 else 16)
  else b.rd .alertLeaf g

/-- Channel n is pending (R569). -/
def Body.chPending (b : Body) (n leaf : Nat) : Bool :=
  (decide (andBits leaf (b.rd .alertEn 0) ≠ 0) && bitAt (b.rd .alertChmaskMask (n / 32)) (n % 32)) || bitAt leaf 2

/-- The channels that are pending, with their leaf words. -/
def Body.pendList (b : Body) : List (Nat × Nat) :=
  (regEntries b.regs .alertChleaf).filter fun e => b.chPending e.1 e.2

/-- ALERT.STAT[g] (R564, R569). -/
def Body.alertStat (b : Body) (g : Nat) : Nat :=
  if g = 0 then b.pendList.foldl (fun a e => orBits a (andBits e.2 (b.rd .alertEn 0))) 0
  else andBits (b.leafWord g) (b.rd .alertEn g)

/-- MOD.SUM.GROUP (R564). -/
def Body.sumGroup (b : Body) : Nat :=
  (List.range 11).foldl (fun a g =>
    if g = 0 then (if b.pendList.isEmpty then a else a + 1)
    else if b.alertStat g = 0 then a else a + 2 ^ g) 0

/-- MOD.SUM.FIXED (R569). -/
def Body.anyShort (b : Body) : Bool := (regEntries b.regs .alertChleaf).any fun e => bitAt e.2 2

/-- The module's tree asks for ALERT_N (R564). -/
def Body.wantsAlert (b : Body) : Bool :=
  (b.flag .modAlctlAlertEn && decide (andBits b.sumGroup (b.rd .modSumenEn) ≠ 0)) || b.anyShort

/-- The level leaves whose condition holds now: (group, bits) (R565, R573). -/
def Body.levels (e : Env) (b : Body) : List (Nat × Nat) :=
  [ (6, (if b.rd .recDevstatCritWarn 0 = 0 then 0 else 2 ^ 8) + (if b.rd .recDevstatCritWarn 1 = 0 then 0 else 2 ^ 9)
        + 4 * b.rd .recStatLedgerNearFull + (if 75 ≤ b.rd .recStatTrendFill then 2 else 0)),
    (7, if b.role = .solo ∧ bitAt (e.fuse 1) 2 then 1 else 0),
    (8, 2 ^ 8 * bit (decide (1 ≤ b.health.lvl)) + 2 ^ 9 * bit (decide (2 ≤ b.health.lvl))),
    (9, 2 ^ 8 * b.rd .healthKeeperLow),
    (10, (if b.flag .starchStatFault ∨ b.rd .starchFusectlResult = 3 then 2 ^ 11 else 0) + (if bitAt (e.fuse 1) 31 then 0 else 2 ^ 10)
        + (if b.rd .modImgstatCause = 0 ∨ 3 < b.rd .modImgstatCause then 0 else 2 ^ 9)
        + (if b.rd .metaCalintDueRem = 0 then 2 ^ 7 else 0)
        + (if b.flag .metaCalstatNone then 2 ^ 4 else 0)
        + (if b.flag .metaRefstatHeaterFault then 2 ^ 2 else 0)) ]

/-- A free value, and the next one after it (Config.freeValue). -/
def Body.free (b : Body) : Nat × Body :=
  ((Config.freeValue b.freeIx).toNat, { b with freeIx := b.freeIx + 1 })

/-! ### Records of the ledger stream (R415, R416, R434, R435) -/

/-- The first unit of a multi-unit record: TYPE, VERSION 1, NREC, a field in [95:64], TIME in [63:0] (R416). -/
def recHead (typ nrec field time : Nat) : Nat :=
  typ * 2 ^ 120 + 1 * 2 ^ 112 + nrec * 2 ^ 96 + field % 2 ^ 32 * 2 ^ 64 + time % 2 ^ 64

/-- A record from its type, field, time and further units. -/
def mkRec (typ field time : Nat) (us : List Nat) : LRec :=
  ⟨recHead typ (us.length + 1) field time :: us.map (· % 2 ^ 128)⟩

/-- The type of a record (R415). -/
def LRec.typ (r : LRec) : Nat := r.units.headD 0 / 2 ^ 120 % 256

/-- Local records of R416: CHECKPOINT, CAPTURE, DEVICE, and GAP but for STREAM 4. -/
def LRec.isLocal (r : LRec) : Bool :=
  match r.typ with
  | 0x11 | 0x1C | 0x1E => true
  | 0x14 => decide (r.units.headD 0 / 2 ^ 88 % 256 ≠ 4)
  | _ => false

/-- The number of units that wait in the ledger stream. -/
def Body.streamUnits (b : Body) : Nat := b.rcd.stream.foldl (fun a r => a + r.units.length) 0 - b.rcd.streamAt

/-- Units of HUB's staging buffer of 256 KiB (R441, R444). -/
def stagingUnits : Nat := 16384

/-- The record finds the staging buffer full: the Basket clock has failed, and its units would not fit (R441). -/
def Body.staged (r : LRec) (b : Body) : Bool :=
  b.flag .recStatBasketDown && decide (stagingUnits < b.streamUnits + r.units.length)

/-- Place a record in the ledger stream; HUB in reset records nothing (R21), and a full staging buffer takes none (R441). -/
def Body.emit (r : LRec) (b : Body) : Body :=
  { b with rcd := if b.hubDown || b.staged r then b.rcd else { b.rcd with
      stream := b.rcd.stream ++ [r]
      sharedSince := if r.isLocal || r.typ = 0x10 then b.rcd.sharedSince else b.rcd.sharedSince ++ [r]
      localSince := if r.isLocal && r.typ ≠ 0x11 then b.rcd.localSince ++ [r] else b.rcd.localSince } }

/-- Change the twin state. -/
def Body.onTwin (f : Twin → Twin) (b : Body) : Body := { b with twin := f b.twin }

/-- A frame goes to the partner: it carries the direction's SEQ, and is kept until the partner acknowledges it (R454); none while HUB is
in reset or before the transmitters start (R44, R451). -/
def Body.sendBluli (kind : Nat) (content : List Nat) (b : Body) : Body :=
  if b.hubDown || b.twin.txT.isNone then b
  else
    let q := (b.twin.txSeq + 1) % 65536
    b.onTwin fun t => { t with txSeq := q, sent := t.sent ++ [⟨kind, q, content⟩] }

/-- A shared record that arises in this module: a STANDBY module passes it to the ACTIVE one, which writes it (R444). -/
def Body.shared (r : LRec) (b : Body) : Body :=
  if b.role = .standby && !b.hubDown then (b.onTwin fun t => { t with pass := t.pass ++ [r] }).sendBluli 6 r.units else b.emit r

/-- An EVENT record (R434, R435). -/
def Body.event (time code chan arg0 arg1 arg2 : Nat) (b : Body) : Body :=
  b.shared (mkRec 0x18 (code * 2 ^ 16 + chan * 2 ^ 8) time
    [arg0 % 2 ^ 32 * 2 ^ 96 + arg1 % 2 ^ 32 * 2 ^ 64 + arg2 % 2 ^ 64])

/-- Channels 16k to 16k + 15. -/
def dieChannels (k : Nat) : List Nat := (List.range 16).map (16 * k + ·)

/-! ### The dies' time replicas and links (R21, R25, R28) -/

/-- Die k does nothing of its own: it is in reset, or AUX12 is lost and it runs on its keeper (R21, R471, R584). -/
def Body.dieOff (b : Body) (k : Nat) : Bool := (b.fe k).resetT.isSome || b.health.auxOff

/-- What the replica adds in a time: the rate word once per cycle of CLK_FEk, 2^-32 ns (R25). DEDUCED (log 200): CLK_FEk runs as between
the last two markers. -/
def Die.adds (d : Die) (t : Nat) : Nat := d.rate * (t * d.cyc / d.span) / 2 ^ 32

/-- The value that the replica of a die shows at an elapsed instant, where it showed x at its last marker (R25). -/
def Die.replica (d : Die) (x t : Nat) : Nat :=
  if d.markT ≤ t then x + d.adds (t - d.markT) else x - d.adds (d.markT - t)

/-- The time replica of die k at an elapsed instant: the value of the last marker, advanced since (R25). -/
def Body.stampAt (b : Body) (k t : Nat) : Nat := (b.fe k).replica (b.fe k).phase t % 2 ^ 64

/-- The present instant by the replica of die k, free of the steps of the count: what its sample times and intervals are taken from
(R25, R378). -/
def Body.dieNow (e : Env) (b : Body) (k : Nat) : Nat := (b.fe k).replica (b.fe k).markT e.now

/-- The deviation from 200 MHz of a clock of which some cycles fill a time in ns, 0.01 ppm per LSB (R49). -/
def clockDev (cycles ns : Nat) : Int :=
  let x : Int := ((5 * cycles : Nat) : Int) - (ns : Nat)
  (2 * x * 100000000 + (ns : Nat)) / ((2 * ns : Nat) : Int)

/-- A timebase second ends for die k: HUB shows the measurement of its clock, where the second measured it throughout (R49). -/
def Body.showClock (now k : Nat) (b : Body) : Body :=
  let d := b.fe k
  b.wr .modFeclkDev k (match d.secT with
    | some t => if t < now then ofSigned 24 (clockDev d.secCyc (now - t)) else 0x800000
    | none => 0x800000)

/-- The measurement of the clock of die k in the present second is spoilt (R49). -/
def Body.spoilClock (k : Nat) (b : Body) : Body := b.onDie k fun d => { d with secT := none }

/-- A marker with timebase value c reaches die k, which has counted a number of cycles of its clock since the marker before: phase
and rate are corrected (R25); the first marker of a timebase second ends the measurement of the second before (R49). -/
def Body.mark (now c cycles k : Nat) (b : Body) : Body :=
  let d := b.fe k
  let b := b.onDie k fun d =>
    { d with markT := now, phase := c, secCyc := d.secCyc + cycles, cyc := if cycles = 0 ∨ now ≤ d.markT then d.cyc else cycles
             span := if cycles = 0 ∨ now ≤ d.markT then d.span else now - d.markT
             rate := if cycles = 0 then d.rate else ((c + 2 ^ 64 - d.phase) % 2 ^ 64 * 2 ^ 32 + cycles / 2) / cycles }
  if c / 1000000000 = d.phase / 1000000000 then b
  else (b.showClock now k).onDie k fun d =>
    { d with secCyc := 0, secT := if b.rd .tbStatState = 4 then none else some now }

/-- The replicas of the dies whose link is up follow a step of the count by d (R25, R386). -/
def Body.stepMarks (d : Int) (b : Body) : Body :=
  (List.range 8).foldl (fun b k => b.onDie k fun x =>
    if x.joined then { x with phase := ofSigned 64 ((x.phase : Int) + d) } else x) b

/-- A frame passes the link upward or downward: it carries the direction's SEQ and the epoch at its building (R28). -/
def Die.frame (epoch : Nat) (up : Bool) (d : Die) (f : Nat × List Nat) : Die :=
  if up then { d with seqUp := (d.seqUp + 1) % 256, lastUp := some ⟨f.1, epoch, d.seqUp, f.2⟩ }
  else { d with seqDn := (d.seqDn + 1) % 256, lastDn := some ⟨f.1, epoch, d.seqDn, f.2⟩ }

/-- Frames, each a KIND and its content, have passed the link of die k upward or downward (R28). -/
def Body.framed (k : Nat) (up : Bool) (fs : List (Nat × List Nat)) (b : Body) : Body :=
  b.onDie k fun d => fs.foldl (Die.frame (b.rd .twinDieEpoch k) up) d

/-- The frame of a message to a die: KIND and content (R28). DESIGN CHOICE (log 201): a command of HUB to a die's engines is a write. -/
def DownMsg.frame : DownMsg → Nat × List Nat
  | .fields _ kvs => (1, kvs.flatMap fun kv => [kv.1, kv.2])
  | .hostWrite a v _ => (1, [a, v])
  | .state n _ new => (1, [n, new.code])
  | .grant n | .trip n => (1, [n])
  | .release n prior => (1, [n, prior.code])

/-- The engines of channel n as HUB shows them: as last reported while the die's link is down (R31). -/
def Body.engSeen (b : Body) (n : Nat) : Eng :=
  let d := b.fe (dieOf n)
  if d.joined then b.en n else d.shown.getD (n % 16) (b.en n)

/-- The raw and the filtered seat of channel n as HUB shows them (R31). -/
def Body.seatSeen (b : Body) (n : Nat) : Bool × Bool :=
  let d := b.fe (dieOf n)
  let now := ((b.ch n).seatRaw, (b.ch n).seated)
  if d.joined then now else d.shownSeat.getD (n % 16) now

/-! ### Forwarded writes (R31 to R34) -/

/-- Send a message down to die k (R30, R34). -/
def Body.sendDown (k : Nat) (m : DownMsg) (b : Body) : Body :=
  b.onDie k fun d => { d with down := d.down ++ [m] }

/-- A frame that carries a host write (R36). -/
def DownMsg.host : DownMsg → Bool
  | .fields h _ => h
  | .hostWrite _ _ _ => true
  | .state _ _ _ | .grant _ | .trip _ | .release _ _ => false

/-- A frame that writes registers, not a command to the engines. -/
def DownMsg.writes : DownMsg → Bool
  | .fields _ _ | .hostWrite _ _ _ => true
  | .state _ _ _ | .grant _ | .trip _ | .release _ _ => false

/-- Host writes wait for the die (R36, R46). -/
def Die.owes (d : Die) : Bool := d.down.any DownMsg.host

/-- Write fields of channel n in HUB's copy and forward them together to its die (R31, R117). -/
def Body.fwd (n : Nat) (fs : List (Fld × Nat)) (b : Body) : Body :=
  let b := fs.foldl (fun b f => b.wr f.1 n f.2) b
  b.sendDown (dieOf n) (.fields false (fs.map fun f => (fkey f.1 n, f.2 % 2 ^ fieldWidth f.1)))

end Sys2Proof.Machine
end

