-- ==== Sys2Proof/Machine/Operands.lean ====
section
/-!
DEFINITION. The number formats and arithmetic of the engines: Q1.15 and Q9.31 (R91 to R95), the loop scales (R96), the
temperature format, the exponentials of the thermal coefficients (R146), and CRC-16, CRC-32 and SHA-256.
-/

namespace Sys2Proof.Machine

open Sys2Proof

/-! ### Fixed point (R91 to R95) -/

/-- x / 2^n rounded to nearest, ties towards +∞ (R92). -/
def rshiftRound (x : Int) (n : Nat) : Int := (x + 2 ^ n / 2) / (2 ^ n : Nat)

/-- p / q rounded to nearest, ties towards +∞, for q > 0 (R92). -/
def divRound (p q : Int) : Int := (2 * p + q) / (2 * q)

/-- Saturate to a range. -/
def clampInt (lo hi x : Int) : Int := if x < lo then lo else if hi < x then hi else x

/-- Saturate to Q1.15. -/
def sat16 (x : Int) : Int := clampInt (-32768) 32767 x

/-- Saturate the accumulator Q9.31 at -256 and 256 - 2^-31 (R94). -/
def satAcc (x : Int) : Int := clampInt (-(2 ^ 39)) (2 ^ 39 - 1) x

/-- The reduction of an accumulator value to Q1.15 (R93). -/
def round15 (a : Int) : Int := sat16 ((a + 2 ^ 15) / 2 ^ 16)

/-- The reduction saturates (R93). -/
def round15Sat (a : Int) : Bool := decide ((a + 2 ^ 15) / 2 ^ 16 < -32768) || decide (32767 < (a + 2 ^ 15) / 2 ^ 16)

/-- A Q1.15 operand in the accumulator (R92). -/
def toAcc (x : Int) : Int := x * 2 ^ 16

/-- A product aligned to Q9.31 from fraction width fb (R92): shifted up, or down with rounding. -/
def alignAcc (x : Int) (fb : Nat) : Int :=
  satAcc (if fb ≤ 31 then x * 2 ^ (31 - fb) else rshiftRound x (fb - 31))

/-- The quotient of two Q1.15 numbers (R95). -/
def quot15 (p v : Int) : Int := if p ≤ 0 then 0 else if v ≤ p then 32767 else p * 32768 / v

/-- The magnitude of a Q1.15 number; that of 0x8000 is 0x7FFF (R107). -/
def mag15 (x : Int) : Nat := min x.natAbs 32767

/-! ### Scales (R96) -/

/-- Full-scale sense voltage of a channel, in nV: 75 mV, or 18.75 mV on the fine range in force (R96, R308). -/
def Body.vfsNv (b : Body) (n : Nat) : Nat :=
  if bitAt (b.drd (dieOf n) .feIrangeApplied (dieOf n)) (n % 16) then 18750000 else 75000000

/-- Nominal shunt resistance in units of 10 pΩ; 1 in place of 0, so that quotients are defined before the image. -/
def Body.rsh (b : Body) (n : Nat) : Nat := max 1 (b.rd .chRshRshNom n)

/-- I_FS as a fraction in amperes: (numerator, denominator); nV / (10 pΩ) = 100 A (R96). -/
def Body.ifs (b : Body) (n : Nat) : Nat × Nat := (b.vfsNv n * 100, b.rsh n)

/-- PSCALE = 100 V × I_FS as a fraction in watts (R96). -/
def Body.pscale (b : Body) (n : Nat) : Nat × Nat := (b.vfsNv n * 10000, b.rsh n)

/-- Round a non-negative fraction to nearest, ties up. -/
def fracRound (p q : Nat) : Nat := (2 * p + q) / (2 * q)

/-- A voltage of u units of mv/1000 volts on the Q1.15 scale of 100 V, as a fraction of LSB compared exactly:
`code ≥ u units` iff `code × 100 000 ≥ u × mv × 32 768`. -/
def voltGe (code : Int) (u mv : Nat) : Bool := decide ((u * mv * 32768 : Nat) ≤ code * 100000)

/-- A voltage code in whole LSB from u units of mv millivolts, rounded to nearest. -/
def voltCode (u mv : Nat) : Int := (fracRound (u * mv * 32768) 100000 : Nat)

/-! ### The bus ladder (R286) -/

/-- The ladder levels in use of die k, 2 mV per LSB, ascending. -/
def Body.ladder (b : Body) (k : Nat) : List Nat :=
  ((List.range 64).map fun i => b.drd k .feLadderLevel (64 * k + i)).filter (· ≠ 0)

/-- The BUS of die k stands at or above a level of u times 0.1 V, as the ladder's band shows it. -/
def Body.busGe (b : Body) (k u : Nat) : Bool :=
  decide (((b.ladder k).filter (· ≤ u * 50)).length ≤ b.drd k .feBusbandBand k)

/-- 12-bit temperature codes have an LSB of 0.0625 °C and the offset -55 °C. Saturate to the field (R145). -/
def satTemp (x : Int) : Nat := (clampInt 0 4095 x).toNat

/-- The sum of pole states, LSB 2^-43 of 64 °C, in 0.0625 °C: 64 / 0.0625 = 1024 = 2^10 units per 2^43 (R145). -/
def polesTo12 (x : Int) : Int := rshiftRound x 33

/-! ### Exponentials (R146) -/

/-- 1 - exp(-x) for x = num/den, as an integer times 2^-96: exp by the series of exp(-y), y = x / 2^k with y ≤ 1/4,
squared k times. -/
def expSeries : Nat → Nat → Int → Int → Int → Int
  | 0, _, _, _, acc => acc
  | m + 1, i, y, term, acc =>
    let t := -(term * y) / (2 ^ 96 * ((i + 1 : Nat) : Int))
    expSeries m (i + 1) y t (acc + t)

/-- Square k times a number times 2^-96. -/
def squareTimes : Nat → Int → Int
  | 0, x => x
  | k + 1, x => squareTimes k (x * x / 2 ^ 96)

/-- The number of halvings after which num/den is at most 1/4 (at most 40). -/
def halvings : Nat → Nat → Nat → Nat
  | 0, _, _ => 0
  | f + 1, num, den => if 4 * num ≤ den then 0 else halvings f num (2 * den) + 1

/-- exp(-num/den) times 2^96, truncated; 0 beyond 64 (R146). -/
def expNeg (num den : Nat) : Int :=
  if 64 * den < num then 0
  else
    let k := halvings 40 num den
    let y : Int := (num * 2 ^ 96 / (den * 2 ^ k) : Nat)
    squareTimes k (expSeries 24 0 y (2 ^ 96) (2 ^ 96))

/-- A value x × 2^-96 in [0, 1] as MANT and EXP of R186: MANT × 2^-(24 + EXP), MANT normalised unless EXP is 31; a MANT that
rounds up to 2^24 is 2^23 at the EXP before, and a value that rounds to 1 is held as the largest (R146). -/
def floatSearch : Nat → Nat → Nat → Nat × Nat
  | 0, _, x => (min (2 ^ 24 - 1) (fracRound x (2 ^ (96 - 24 - 31))), 31)
  | f + 1, e, x =>
    let m := fracRound x (2 ^ (96 - 24 - e))
    if 2 ^ (96 - 1 - e) ≤ x ∨ e = 31 then (if m < 2 ^ 24 then (m, e) else if e = 0 then (2 ^ 24 - 1, 0) else (2 ^ 23, e - 1))
    else floatSearch f (e + 1) x

/-- MANT and EXP of a coefficient (R186). -/
def toCoef (x : Int) : Nat × Nat := floatSearch 31 0 x.toNat

/-! ### Check values -/

/-- One bit step of a CRC register of 16 bits, polynomial 0x1021 (R28). -/
def crc16Bit (crc : Nat) (b : Bool) : Nat :=
  let top := (crc / 2 ^ 15 % 2 = 1) != b
  let s := crc * 2 % 2 ^ 16
  if top then Nat.xor s 0x1021 else s

/-- CRC-16 over the w low bits of a number, most significant bit first, initial value 0xFFFF (R28). -/
def crc16 : Nat → Nat → Nat → Nat
  | 0, _, crc => crc
  | w + 1, x, crc => crc16 w x (crc16Bit crc (x / 2 ^ w % 2 = 1))

/-- One bit step of the reflected CRC-32 (polynomial 0xEDB88320 reflected). -/
def crc32Step : Nat → Nat → Nat
  | 0, c => c
  | k + 1, c => crc32Step k (if c % 2 = 1 then Nat.xor (c / 2) 0xEDB88320 else c / 2)

/-- CRC-32 over bytes, initial value all ones, final inversion (R345). -/
def crc32 (bs : List Nat) : Nat :=
  Nat.xor (bs.foldl (fun c x => crc32Step 8 (Nat.xor c (x % 256))) 0xFFFFFFFF) 0xFFFFFFFF

/-- The bytes of a number, least significant first. -/
def leBytes : Nat → Nat → List Nat
  | 0, _ => []
  | k + 1, x => x % 256 :: leBytes k (x / 256)

/-- The number of bytes given least significant first. -/
def ofLeBytes : List Nat → Nat
  | [] => 0
  | x :: xs => x % 256 + 256 * ofLeBytes xs

/-- The number of bytes given most significant first. -/
def ofBeBytes (l : List Nat) : Nat := l.foldl (fun a x => a * 256 + x % 256) 0

/-! ### SHA-256 (FIPS 180-4, named by R415)

The standard defines its constants as fractional parts of roots of primes; they are computed here from that definition. -/

/-- The primes below 312: the first 64. -/
def shaPrimes : List Nat :=
  (List.range 312).filter fun p => decide (2 ≤ p) && (List.range p).all fun d => decide (d < 2) || decide (p % d ≠ 0)

/-- The largest r below 2^n added to base with r^k at most x, found bit by bit from the top. -/
def rootBits (k x : Nat) : Nat → Nat → Nat
  | 0, base => base
  | n + 1, base => rootBits k x n (if (base + 2 ^ n) ^ k ≤ x then base + 2 ^ n else base)

/-- The first 32 bits of the fractional part of the k-th root of p. -/
def rootFrac (k p : Nat) : Nat := rootBits k (p * 2 ^ (32 * k)) 37 0 % 2 ^ 32

/-- Rotate a 32-bit word right. -/
def rotr (x n : Nat) : Nat := x / 2 ^ n + x % 2 ^ n * 2 ^ (32 - n)

/-- Three words added bit by bit without carry. -/
def parity3 (x y z : Nat) : Nat := Nat.xor x (Nat.xor y z)

/-- The working registers as two histories, newest first: those that carry the name a, whose earlier values are b, c and d, and
those that carry e, whose earlier values are f, g and h; beside them the sixteen message words that come next. -/
structure ShaWork where
  top : List Nat
  low : List Nat
  msg : List Nat

/-- One of the 64 turns with its constant: a new value at the head of each history, and one message word used and one formed. -/
def ShaWork.turn (s : ShaWork) (k : Nat) : ShaWork :=
  let p := fun i => s.top.getD i 0
  let q := fun i => s.low.getD i 0
  let m := fun i => s.msg.getD i 0
  let pick := Nat.xor (q 2) (Nat.land (q 0) (Nat.xor (q 1) (q 2)))
  let most := Nat.lor (Nat.land (p 0) (p 1)) (Nat.land (p 2) (Nat.lor (p 0) (p 1)))
  let fed := k + m 0 + q 3 + pick + parity3 (rotr (q 0) 6) (rotr (q 0) 11) (rotr (q 0) 25)
  let next := m 0 + m 9 + parity3 (rotr (m 1) 7) (rotr (m 1) 18) (m 1 / 2 ^ 3)
    + parity3 (rotr (m 14) 17) (rotr (m 14) 19) (m 14 / 2 ^ 10)
  { top := (fed + most + parity3 (rotr (p 0) 2) (rotr (p 0) 13) (rotr (p 0) 22)) % 2 ^ 32 :: s.top
    low := (fed + p 3) % 2 ^ 32 :: s.low
    msg := s.msg.drop 1 ++ [next % 2 ^ 32] }

/-- The chaining value after a block of sixteen words. -/
def shaBlock (ks h block : List Nat) : List Nat :=
  let s := ks.foldl ShaWork.turn ⟨h.take 4, h.drop 4, block⟩
  h.zipWith (fun x y => (x + y) % 2 ^ 32) (s.top.take 4 ++ s.low.take 4)

/-- Cut bytes into 32-bit big-endian words. -/
def beWords : List Nat → List Nat
  | a :: b :: c :: d :: r => ofBeBytes [a, b, c, d] :: beWords r
  | _ => []

/-- SHA-256 of a byte string, as 32 bytes: the string is closed by a 1 bit, zeros and its length in 64 bits, and cut into blocks
of sixteen words. -/
def sha256 (bs : List Nat) : List Nat :=
  let zeros := (119 - bs.length % 64) % 64
  let words := beWords (bs ++ [0x80] ++ List.replicate zeros 0 ++ (leBytes 8 (8 * bs.length)).reverse)
  let ks := shaPrimes.map (rootFrac 3)
  let first := (shaPrimes.take 8).map (rootFrac 2)
  let last := (List.range (words.length / 16)).foldl (fun h i => shaBlock ks h ((words.drop (16 * i)).take 16)) first
  last.flatMap fun w => (leBytes 4 w).reverse

/-- The stored bytes of units of 128 bits (R415). -/
def unitBytes (us : List Nat) : List Nat := us.flatMap (leBytes 16)

/-- A hash as two units, byte 0 in bits [7:0] of the first (R415). -/
def hashUnits (h : List Nat) : List Nat := [ofLeBytes (h.take 16), ofLeBytes (h.drop 16)]

end Sys2Proof.Machine
end

