-- ==== Sys2Proof/Machine/Ecdsa.lean ====
section
/-!
DEFINITION. ECDSA over the curve P-256 (R433, R485, R486): the verification of a signature, and signing, FIPS 186-4.
-/

namespace Sys2Proof.Machine

open Sys2Proof

/-- The prime of the field, the order of the group, the coefficient b and the base point of P-256. -/
def p256P : Nat := 0xffffffff00000001000000000000000000000000ffffffffffffffffffffffff
def p256N : Nat := 0xffffffff00000000ffffffffffffffffbce6faada7179e84f3b9cac2fc632551
def p256B : Nat := 0x5ac635d8aa3a93e7b3ebbd55769886bc651d06b0cc53b0f63bce3c3e27d2604b
def p256G : Nat × Nat :=
  (0x6b17d1f2e12c4247f8bce6e563a440f277037d812deb33a0f4a13945d898c296,
   0x4fe342e2fe1a7f9b8ee7eb4a7c0f9e162bce33576b315ececbb6406837bf51f5)

/-- x to the power of the low w bits of e, modulo m. -/
def powMod (m : Nat) : Nat → Nat → Nat → Nat
  | 0, _, _ => 1 % m
  | w + 1, x, e => (if e % 2 = 1 then x else 1) * powMod m w (x * x % m) (e / 2) % m

/-- The inverse modulo a prime. -/
def invMod (m x : Nat) : Nat := powMod m 256 x (m - 2)

/-- A point: none is the point at infinity. -/
abbrev EcPoint := Option (Nat × Nat)

/-- The point is on the curve. -/
def onCurve (q : Nat × Nat) : Bool :=
  decide (q.1 < p256P) && decide (q.2 < p256P) &&
    decide (q.2 * q.2 % p256P = (q.1 * q.1 * q.1 + (p256P - 3) * q.1 + p256B) % p256P)

/-- The sum of two points. -/
def ecAdd (p q : EcPoint) : EcPoint :=
  match p, q with
  | none, q => q
  | p, none => p
  | some (x1, y1), some (x2, y2) =>
    if x1 = x2 ∧ (y1 + y2) % p256P = 0 then none
    else
      let l := if x1 = x2 then (3 * x1 * x1 + p256P - 3) * invMod p256P (2 * y1) % p256P
        else (y2 + p256P - y1) * invMod p256P (x2 + p256P - x1) % p256P
      let x3 := (l * l + 2 * p256P - x1 - x2) % p256P
      some (x3, (l * (x1 + p256P - x3) + p256P - y1) % p256P)

/-- A multiple of a point by the low w bits of a number. -/
def ecMul : Nat → Nat → EcPoint → EcPoint
  | 0, _, _ => none
  | w + 1, k, p => ecAdd (if k % 2 = 1 then p else none) (ecMul w (k / 2) (ecAdd p p))

/-- The signature (r, s) of a message hash by the key q verifies. -/
def ecdsaOk (q : Nat × Nat) (hash r s : Nat) : Bool :=
  if !onCurve q || r = 0 || s = 0 || decide (p256N ≤ r) || decide (p256N ≤ s) then false
  else
    let w := invMod p256N s
    match ecAdd (ecMul 256 (hash * w % p256N) (some p256G)) (ecMul 256 (r * w % p256N) (some q)) with
    | none => false
    | some p => p.1 % p256N = r

/-! ### Signing (R433): FIPS 186-4 with the nonce of RFC 6979 -/

/-- HMAC with SHA-256; keys are of at most 64 bytes. -/
def hmac256 (key msg : List Nat) : List Nat :=
  let k := key ++ List.replicate (64 - key.length) 0
  sha256 (k.map (Nat.xor 0x5C) ++ sha256 (k.map (Nat.xor 0x36) ++ msg))

/-- An octet string of 32 bytes, most significant first, and the number that one gives. -/
def octets (x : Nat) : List Nat := (leBytes 32 x).reverse
def ofOctets (bs : List Nat) : Nat := ofLeBytes bs.reverse

/-- The signature (r, s) of a hash by a private key with a nonce; none where r or s is 0. -/
def signWith (key hash k : Nat) : Option (Nat × Nat) :=
  match ecMul 256 k (some p256G) with
  | none => none
  | some p =>
    let r := p.1 % p256N
    let s := invMod p256N k * (hash + r * key) % p256N
    if r = 0 ∨ s = 0 then none else some (r, s)

/-- The nonces of RFC 6979 are tried in turn, by fuel. -/
def signTry (key hash : Nat) : Nat → List Nat → List Nat → Nat × Nat
  | 0, _, _ => (0, 0)
  | f + 1, kk, v =>
    let v := hmac256 kk v
    let k := ofOctets v
    let next :=
      let kk := hmac256 kk (v ++ [0])
      signTry key hash f kk (hmac256 kk v)
    if k = 0 ∨ p256N ≤ k then next else (signWith key hash k).getD next

/-- The signature of a message by a private key: ECDSA over P-256 with SHA-256, the nonce derived under RFC 6979. DESIGN CHOICE (log 3): a
nonce is tried 16 times at most; that all fail is of no practical chance. -/
def ecdsaSign (key : Nat) (msg : List Nat) : Nat × Nat :=
  let h := ofOctets (sha256 msg)
  let x := octets key ++ octets (h % p256N)
  let v := List.replicate 32 1
  let k := hmac256 (List.replicate 32 0) (v ++ [0] ++ x)
  let v := hmac256 k v
  let k := hmac256 k (v ++ [1] ++ x)
  signTry key h 16 k (hmac256 k v)

end Sys2Proof.Machine
end

