-- ==== Sys2Proof/Machine/Reservation.lean ====
section
/-!
DEFINITION. What the budget counts and how the queue stands: reservations (R214), claims (R216), the queue order (R220),
the refusal test (R222) and the plan of stagger slots (R225 to R227).
-/

namespace Sys2Proof.Machine

open Sys2Proof

/-- Insert into a list ordered by a comparison. -/
def insertBy (lt : Nat → Nat → Bool) (x : Nat) : List Nat → List Nat
  | [] => [x]
  | y :: ys => if lt x y then x :: y :: ys else y :: insertBy lt x ys

/-- Order a list by a comparison; equal elements keep their order. -/
def orderBy (lt : Nat → Nat → Bool) (l : List Nat) : List Nat := l.foldl (fun acc x => insertBy lt x acc) []

/-- All channels that stand for themselves: singles and gang leaders. -/
def Body.leaders (b : Body) : List Nat := (List.range 128).filter fun n => !b.isMember n

/-- The leaders whose effective state satisfies a test, in ascending channel number. -/
def Body.leadersIn (b : Body) (p : ChState → Bool) : List Nat :=
  ((List.range 128).filter fun n => p (b.ch n).eff).filter fun n => !b.isMember n

/-- BUS of a channel's die times a current code, in mW: code × 100 V / 2^15 × FF_I × I_FS / 2^15 (R214). -/
def Body.rampMw (b : Body) (n : Nat) : Nat :=
  (b.fe (dieOf n)).bus.toNat * b.rd .chFfstatFfI n * (b.ifs n).1 * 100000 / ((b.ifs n).2 * 2 ^ 30)

/-- P_MEAS_n, 1 mW per unit: the highest of the last sixteen trend intervals (R214). DESIGN CHOICE (log 208): of a gang leader its
own. -/
def Body.pMeasMw (b : Body) (n : Nat) : Nat := ((b.ch n).pMeas.take 16).foldl max 0

/-- R_START_n in mW (R214). -/
def Body.startMw (b : Body) (n : Nat) : Nat := b.bdg .chBallocAlloc n * 1000 + b.rampMw n

/-- RES_n in mW without a cap. -/
def Body.openMw (b : Body) (n : Nat) : Nat := max (b.bdg .chBallocAlloc n * 1000) (b.pMeasMw n)

/-- RES_n in mW; members count 0 (R214). -/
def Body.resMw (b : Body) (n : Nat) : Nat :=
  if b.isMember n then 0 else
    match (b.ch n).eff with
    | .ramp => b.startMw n
    | .on | .limit | .capped => if (b.ch n).capOn then (b.ch n).capW * 1000 else b.openMw n
    | _ => 0

/-- The channels that hold a reservation, in admission order (R216). -/
def Body.admitted (b : Body) : List Nat :=
  orderBy (fun x y => (b.ch x).admitT < (b.ch y).admitT) (b.leadersIn ChState.driven)

/-- The sum of all reservations in mW. -/
def Body.sumMw (b : Body) : Nat := (b.leadersIn ChState.driven).foldl (fun a n => a + b.resMw n) 0

/-- The sum of a class's reservations in mW. -/
def Body.classMw (b : Body) (c : Nat) : Nat :=
  (b.leadersIn ChState.driven).foldl (fun a n => if b.pclass n = c then a + b.resMw n else a) 0

/-- P_AVAIL in force, in mW (R212). -/
def Body.availMw (b : Body) : Nat := b.rd .budgetAvailPAvail * 1000

/-- G_EFF_c in mW (R213). -/
def Body.geffMw (b : Body) (c : Nat) : Nat := b.rd .budgetGeffValue c * 1000

/-- P_POOL in mW (R213). -/
def Body.poolMw (b : Body) : Nat := b.rd .budgetPoolValue * 1000

/-- The guaranteed part of channel n's reservation, in mW: what G_EFF_c leaves after the channels admitted before it
in its class (R216). -/
def Body.guarMw (b : Body) (n : Nat) : Nat :=
  let before := (b.admitted.takeWhile (· ≠ n)).foldl (fun a m => if b.pclass m = b.pclass n then a + b.resMw m else a) 0
  min (b.resMw n) (b.geffMw (b.pclass n) - before)

/-- The queue order: class, SEAT_TIME, as elapsed time, channel number (R220, R378). DESIGN CHOICE (log 204): a channel that waits in the
queue and is HELD has no place in it until its RELEASE. -/
def Body.queue (b : Body) : List Nat :=
  orderBy (fun x y => decide (b.pclass x < b.pclass y) ||
    (decide (b.pclass x = b.pclass y) && decide ((b.ch x).seatE < (b.ch y).seatE)))
    (((List.range 128).filter fun n => (b.ch n).state = .queued).filter fun n => !b.isMember n)

/-- ZQ-5016 compatibility mode (R228). -/
def Body.zq5016 (b : Body) : Bool := decide (b.bdg .budgetCtrlMode = 1)

/-- The refusal test of R222: none, BUDGET_REFUSED or GUARANTEE_YIELD. -/
def Body.refusal (b : Body) (n : Nat) : Option Nat :=
  let c := b.pclass n
  let rs := b.startMw n
  if b.zq5016 then none
  else if rs + b.classMw c ≤ b.geffMw c + b.poolMw then none
  else
    let g (i : Nat) := b.bdg .budgetGuarValue i * 1000
    let sumG := g 0 + g 1 + g 2 + g 3
    if rs + b.classMw c ≤ g c + (b.availMw - sumG) then some 0x25 else some 0x23

/-- F, the throttle factor in force (R227). -/
def Body.throttle (b : Body) : Nat := 2 ^ b.rd .healthStatFactor

/-- S × N for N queued channels, in ns: max(STAGGER_MIN, STAGGER_PERIOD / N) × F × N (R225). -/
def Body.spacing (b : Body) (n : Nat) : Nat :=
  max (b.bdg .budgetStaggerStaggerMin * 10000 * n) (msNs (b.bdg .budgetStaggerStaggerPeriod)) * b.throttle

/-- Form a plan for the channels now queued (R225); a module that does not orchestrate keeps the mirrored one (R237). -/
def Body.formPlan (e : Env) (b : Body) : Body :=
  if !b.orch then b else
  let n := b.queue.length
  let sp := b.spacing n
  let plan : Option Plan :=
    if n = 0 ∨ b.zq5016 then none
    else match b.bud.openSlot with
      | some t => some ⟨n, t * n, sp, 1, n⟩
      | none =>
        let tf := match b.bud.tLast with
          | some t => max (e.now * n) (t * n + sp)
          | none => e.now * n
        some ⟨n, tf, sp, 0, n⟩
  { b with bud := { b.bud with plan := plan } }

/-- The planned instant of slot j, in ns times den. -/
def Plan.slot (p : Plan) (j : Nat) : Nat := p.t0 + j * p.s

/-- The instant at which the next slot opens: its planned instant, or S after the previous GRANT that took effect,
whichever is later, in whole ns rounded up (R225, R226). -/
def Body.nextSlot (b : Body) : Option Nat :=
  match b.bud.plan with
  | none => none
  | some p =>
    if p.n ≤ p.j then none
    else
      let t := match b.bud.tLast with
        | some l => max (p.slot p.j) (l * p.den + p.s)
        | none => p.slot p.j
      some (ceilDiv t p.den)

/-! ### The levels of the bus ladder (R286) -/

/-- Insert into an ascending list. -/
def insertInt (x : Int) : List Int → List Int
  | [] => [x]
  | y :: ys => if x ≤ y then x :: y :: ys else y :: insertInt x ys

/-- The median of the samples held, the lower one of two. -/
def median (l : List Int) : Int := (l.foldl (fun acc x => insertInt x acc) []).getD ((l.length - 1) / 2) 0

/-- x, Q1.15 of 100 V, stands at or above a level of 2 mV units plus c millivolts. -/
def levelLe (u : Nat) (c : Int) (x : Int) : Bool := decide (((2 * u : Nat) + c) * 32768 ≤ x * 100000)

/-- The distinct values of an ascending list. -/
def dedupSorted : List Nat → List Nat
  | x :: y :: l => if x = y then dedupSorted (y :: l) else x :: dedupSorted (y :: l)
  | l => l

/-- The levels that die k's ladder needs, 2 mV per LSB, ascending, with the module-wide fields as rd gives them; stage 3 has no level
(R232, R286). -/
def Body.ladderNeeds (b : Body) (rd : Fld → Nat → Nat) (k : Nat) : List Nat :=
  let ch := (dieChannels k).flatMap fun n =>
    if (b.ch n).used then
      let uv := b.rd .chBuswinBusUv n
      let ov := b.rd .chBuswinBusOv n
      [uv, ov, uv + 10, ov - 10]
    else []
  let w := rd .budgetHoldupBusWarn 0
  let m := rd .budgetBusminBusMin 0
  let st := [0, 1, 3].map fun i => rd .budgetHustageStageV i
  dedupSorted (orderBy (fun x y => x < y) (((ch ++ [m, m + 5, w, w + 10] ++ st).filter (· ≠ 0)).map (· * 50)))

/-- Load the ladder of die k with the levels in force, and take the band of the present median (R215, R286, R320). -/
def Body.loadLadder (k : Nat) (b : Body) : Body :=
  let ls := b.ladderNeeds (b.bdg ·) k
  let b := (List.range 64).foldl (fun b i => b.dwr k .feLadderLevel (64 * k + i) (ls.getD i 0)) b
  let x := median (b.fe k).bus3
  (b.dwr k .feBusbandNlev k (min 64 ls.length)).dwr k .feBusbandBand k ((ls.takeWhile fun u => levelLe u 0 x).length)

/-- Every die's ladder has room for its levels, with what has been written and is not yet in force (R286). -/
def Body.laddersFit (b : Body) : Bool := (List.range 8).all fun k => decide ((b.ladderNeeds (b.rd ·) k).length ≤ 64)

/-- Fields that set levels of the ladder (R286). -/
def Fld.onLadder (f : Fld) : Bool :=
  match f with
  | .chBuswinBusUv | .chBuswinBusOv | .budgetBusminBusMin | .budgetHoldupBusWarn | .budgetHustageStageV => true
  | _ => false

/-- Load the ladder of every die (R320). -/
def Body.loadLadders (b : Body) : Body := b.forEach (List.range 8) fun k b => b.loadLadder k

end Sys2Proof.Machine
end

