-- ==== Sys2Proof/Machine/Store.lean ====
section
/-!
DEFINITION. The energy checkpoints of the ledger store (R331) and the HOLDUP and SPAN records of the ledger stream (R434).
-/

namespace Sys2Proof.Machine

open Sys2Proof

/-- The accumulators by channel: A_n in Q64.64, two's complement (R330). -/
def Body.accs (b : Body) : Sparse := regEntries b.regs .energyAcc

/-- The slot written next: the first that is not valid, else the one with the lowest checkpoint count (R331). -/
def oldestSlot (cs : List Ckpt) : Nat :=
  match cs.findIdx? (fun c => !c.valid) with
  | some i => i
  | none =>
    let low := cs.foldl (fun a c => min a c.count) ((cs.headD Ckpt.empty).count)
    (cs.findIdx? (fun c => c.count = low)).getD 0

/-- The CRC-32 of a checkpoint over its fields in the order of R331, each with its least significant byte first. -/
def Ckpt.crcOf (c : Ckpt) : Nat :=
  crc32 (leBytes 8 c.time ++ ((List.range 128).flatMap fun n => leBytes 16 (sparseGet 0 c.acc n)) ++ leBytes 16 c.ledger
    ++ leBytes 8 c.blk ++ c.hash.flatMap (leBytes 16) ++ leBytes 8 c.count)

/-- A checkpoint that a start can load: its CRC fits (R331, R333). -/
def Ckpt.ok (c : Ckpt) : Bool := c.valid && decide (c.crc = c.crcOf)

/-- Add an increment of channel n to the sums of its timebase second; the last 64 seconds are kept (R332). -/
def addSecond (sec n : Nat) (x : Int) (l : List (Nat × Sparse)) : List (Nat × Sparse) :=
  let put (m : Sparse) := sparseSet 0 m n (ofSigned 128 ((sparseGet 0 m n : Int) + x))
  if l.any fun p => p.1 = sec then l.map fun p => if p.1 = sec then (sec, put p.2) else p
  else ((sec, put []) :: l).take 64

/-- The increments of channel n in the seconds from sec on. -/
def sumSince (l : List (Nat × Sparse)) (sec n : Nat) : Int :=
  l.foldl (fun a p => if sec ≤ p.1 then a + toSigned 128 (sparseGet 0 p.2 n) else a) 0

/-- The accumulators without the increments of the seconds that begin at a time or later. -/
def Body.accsAt (time : Nat) (b : Body) : Sparse :=
  match b.mtr.recent.filter fun p => decide (ceilDiv time 1000000000 ≤ p.1) with
  | [] => b.accs
  | l => (List.range 128).foldl (fun m n => sparseSet 0 m n (ofSigned 128 ((sparseGet 0 m n : Int) - sumSince l 0 n))) b.accs

/-- Write an energy checkpoint with a boundary time to the oldest slot; it waits for its read-back (R331). -/
def Body.writeCkpt (time : Nat) (b : Body) : Body :=
  let c : Ckpt := ⟨true, time, b.accsAt time, b.rd .recLedgerIdId, b.rd .recNextblkNo - 1, b.rcd.prevHash, b.mtr.written + 1, 0⟩
  let c := { c with crc := c.crcOf }
  let i := oldestSlot b.mtr.ckpts
  { b with mtr := { b.mtr with ckpts := b.mtr.ckpts.set i c, pend := some i, written := b.mtr.written + 1 } }

/-- A HOLDUP record (R434): kind, last completed stage, triggers, the trigger's count and the elapsed time since. -/
def Body.holdupRec (e : Env) (kind : Nat) (b : Body) : Body :=
  let trig := b.rd .budgetHustatTrigAcfail + 2 * b.rd .budgetHustatTrigFeeder + 4 * b.rd .budgetHustatTrigBus
  b.shared (mkRec 0x19 (kind * 2 ^ 24 + b.rd .budgetHustatDoneStage * 2 ^ 16 + trig * 2 ^ 8) e.count
    [b.rd .budgetHutimeTime * 2 ^ 64 + (e.now - b.bud.hu.trigT)])

/-- A SPAN record (R434): kind, edge 1 begins or 2 ends, and the channel mask. -/
def Body.span (time kind edge mask : Nat) (b : Body) : Body :=
  b.shared (mkRec 0x16 (kind * 2 ^ 24 + edge * 2 ^ 16) time [mask % 2 ^ 128])

/-- A GAP record has been written: it is counted and raises the leaf GAP (R423, R447, R449). -/
def Body.noteGap (b : Body) : Body := ((b.bump .recGapsCount).wr .recStatGapSeen 0 1).raise (6, 0)

/-- A GAP record (R423, R434): STREAM 4 is shared, and a STANDBY module passes it to its partner (R444). -/
def Body.gap (stream cause t0 t1 len first last mask : Nat) (b : Body) : Body :=
  let r := mkRec 0x14 (stream * 2 ^ 24 + cause * 2 ^ 16) t0
    [t1 % 2 ^ 64 * 2 ^ 64 + len % 2 ^ 64, first % 2 ^ 64 * 2 ^ 64 + last % 2 ^ 64, mask]
  if stream = 4 ∧ b.role = .standby then b.shared r
  else
    let b := b.emit r
    (if stream = 2 then { b with rcd := { b.rcd with chainBreak := true } } else b).noteGap

/-- Change the metering store. -/
def Body.onMtr (f : Meter → Meter) (b : Body) : Body := { b with mtr := f b.mtr }

/-- A calibration session ends without storing (R353). -/
def Body.calFail (e : Env) (code ch : Nat) (b : Body) : Body :=
  if b.mtr.sess.isNone then b
  else
    let b := ((b.wr .metaCalstatFailed 0 1).wr .metaCalprogPhase 0 8).wr .metaCalprogFailCode 0 code
    let b := (b.wr .metaCalprogFailCh 0 ch).onMtr fun m => { m with sess := none }
    (b.raise (10, 5)).event e.count 0x0104 0xFF code ch 0

/-- What interrupts a session that has not committed (R353). -/
def Body.calInterrupt (e : Env) (b : Body) : Body :=
  match b.mtr.sess with
  | some s => if s.applyB.isSome then b else b.calFail e 7 0xFF
  | none => b

end Sys2Proof.Machine
end

