-- ==== Sys2Proof/Machine/RecOps.lean ====
section
/-!
DEFINITION. The recorder's operations (chapter 11): pages, devices and their commands, trend stripes, ledger blocks, and the
conditions a block gathers.
-/

namespace Sys2Proof.Machine

open Sys2Proof

/-- Change the recorder. -/
def Body.onRcd (f : Recorder → Recorder) (b : Body) : Body := { b with rcd := f b.rcd }

/-! ### Devices (R418, R437 to R440) -/

/-- Device d: 0 on PEA, 1 on PEB. -/
def Body.dev (b : Body) (d : Nat) : Dev := if d = 0 then b.rcd.devA else b.rcd.devB

/-- Change device d. -/
def Body.onDev (d : Nat) (f : Dev → Dev) (b : Body) : Body :=
  b.onRcd fun r => if d = 0 then { r with devA := f r.devA } else { r with devB := f r.devB }

/-- STATE of device d. -/
def Body.devSt (b : Body) (d : Nat) : Nat := b.rd .recDevstatState d

/-- The device is ONLINE. -/
def Body.devOn (b : Body) (d : Nat) : Bool := b.devSt d = 4

/-- The device takes writes: ONLINE, in RESILVER and not idle, or EJECTING before its last writes (R437, R439, R448). -/
def Body.devTakes (b : Body) (d : Nat) : Bool :=
  b.devOn d || (b.devSt d = 5 && !(b.dev d).idle) || (b.devSt d = 6 && (b.dev d).ejectDue)

/-- The devices that take writes. -/
def Body.targets (b : Body) : List Nat := [0, 1].filter b.devTakes

/-- Set STATE of device d, and MEDIA (R447, R448). -/
def Body.setDev (d st : Nat) (b : Body) : Body :=
  let b := b.wr .recDevstatState d st
  b.wr .recStatMedia 0 (bit (b.devOn 0) + 2 * bit (b.devOn 1))

/-- A DEVICE record (R434). -/
def Body.devRec (e : Env) (d kind : Nat) (b : Body) : Body :=
  b.emit (mkRec 0x1E (kind * 2 ^ 24 + d * 2 ^ 16) e.count (b.dev d).serial)

/-- New commands may be issued: no brace, no freeze (R442, R580). -/
def Body.writesGo (b : Body) : Bool := !b.flag .healthStatBrace && !b.flag .healthStatFreeze && !b.hubDown

/-- The queue of a command: 0 admin, 1 ledger and label, 2 trend and pool (R418). -/
def DevWork.queue : DevWork → Nat
  | .format => 0
  | .ledger _ _ | .label | .flush | .copy _ => 1
  | .stripe _ _ _ _ _ | .pool _ _ _ => 2

/-- A command writes with Force Unit Access: ledger and label pages, and what forces it (R418, R431). -/
def DevWork.fua : DevWork → Bool
  | .ledger _ _ | .label | .copy _ => true
  | .stripe _ _ _ _ _ | .pool _ _ _ | .flush | .format => false

/-- A command to device d; while writes are held it waits and is not issued (R442). -/
def Body.submitF (e : Env) (d : Nat) (fua : Bool) (w : DevWork) (lba : Nat) (us : List Nat) (b : Body) : Body :=
  b.onDev d fun v => { v with cmds := v.cmds ++ [⟨w, lba, us, e.now, e.now, false, fua, !b.writesGo⟩] }

/-- A command to device d, with Force Unit Access where its work asks for it. -/
def Body.submit (e : Env) (d : Nat) (w : DevWork) (lba : Nat) (us : List Nat) (b : Body) : Body := b.submitF e d w.fua w lba us

/-- A queue of the device has room: two I/O queues of depth 64 (R418). -/
def Dev.room (v : Dev) (q : Nat) : Bool := decide ((v.cmds.filter fun c => c.work.queue = q).length < 64)

/-! ### Pages (R417, R420, R421) -/

/-- Pages of the ledger area. -/
def ledgerPages : Nat := 671088640

/-- First LBA of the trend area. -/
def trendBase : Nat := 738197760

/-- A page: its header and 255 units, PAD behind USED. -/
def mkPage (stream pseq : Nat) (us : List Nat) : List Nat :=
  let body := (us ++ List.replicate (255 - us.length) 0).take 255
  (0x0F * 2 ^ 120 + stream * 2 ^ 112 + us.length * 2 ^ 96 + crc32 (unitBytes body) * 2 ^ 64 + pseq % 2 ^ 64) :: body

/-- Units cut into a number of pages of a stream, numbered from pseq; pages behind the last unit hold PAD alone. -/
def mkPages (stream : Nat) : Nat → Nat → List Nat → List Nat
  | 0, _, _ => []
  | f + 1, pseq, us => mkPage stream pseq (us.take 255) ++ mkPages stream f (pseq + 1) (us.drop 255)

/-- Stripes of device d's trend area. -/
def Body.stripes (b : Body) (d : Nat) : Nat := (b.rd .recDevcapLbas d - trendBase) / 256

/-- The LBA of ledger page p on device d: the ledger area, then stripes from the top of the trend area (R420, R421). -/
def Body.ledgerLba (b : Body) (d p : Nat) : Nat :=
  if p < ledgerPages then 256 + p
  else
    let q := p - ledgerPages
    trendBase + (b.stripes d - 1 - q / 256) * 256 + q % 256

/-- Ledger pages written: those that are full, and the last one (R449). -/
def Recorder.pages (r : Recorder) : Nat := r.pseq + bit (!r.page.isEmpty)

/-- Stripes that the trend ring of device d still has (R421). -/
def Body.ringStripes (b : Body) (d : Nat) : Nat := b.stripes d - ceilDiv (b.rcd.pages - ledgerPages) 256

/-- The oldest trend interval held (R449). -/
def Body.showOldest (b : Body) : Body :=
  let ts := (b.rcd.devA.stripes ++ b.rcd.devB.stripes).map (·.2) ++ (if b.rcd.trend.isEmpty then [] else [b.rcd.trendT0])
  b.wr .recTrendOldTime 0 (match ts with | [] => 0 | t :: r => r.foldl min t)

/-- LPAGE, LEDGER_NEAR_FULL and LEDGER_EXT; the trend ring has lost the stripes that the ledger has taken (R421, R449). -/
def Body.showLedger (b : Body) : Body :=
  let p := b.rcd.pages
  let b := (b.wr .recLpagePages 0 p).wr .recStatLedgerNearFull 0 (bit (decide (100 * (ledgerPages - p) < ledgerPages)))
  let b := b.wr .recStatLedgerExt 0 (bit (decide (ledgerPages < p)))
  if p ≤ ledgerPages then b
  else ([0, 1].foldl (fun b d => b.onDev d fun v => { v with stripes := v.stripes.filter fun x => decide (x.1 < b.ringStripes d) }) b).showOldest

/-- Take n units from the front of a stream of records, of whose first a number is taken already; answers them, the records that are not
taken whole, and the units taken of the first of those. -/
def takeUnits : Nat → Nat → List LRec → List Nat × List LRec × Nat
  | _, _, [] => ([], [], 0)
  | n, at', r :: rs =>
    let left := r.units.drop at'
    if n = 0 then ([], r :: rs, at')
    else if left.length ≤ n then
      let t := takeUnits (n - left.length) 0 rs
      (left ++ t.1, t.2)
    else (left.take n, r :: rs, at' + n)

/-- Form the last ledger page with the units that wait, and send it to every device that takes writes (R431). -/
def Body.ledgerPage (e : Env) (b : Body) : Body :=
  if b.rcd.stream.isEmpty || b.targets.isEmpty || !b.writesGo || !b.rcd.ready || !b.targets.all (fun d => (b.dev d).room 1) then b
  else
    let t := takeUnits (255 - b.rcd.page.length) b.rcd.streamAt b.rcd.stream
    let us := b.rcd.page ++ t.1
    let p := b.rcd.pseq
    let pg := mkPage 1 p us
    let blk := b.rd .recNextblkNo - (t.2.1.filter fun r => r.typ = 0x10).length
    let b := b.targets.foldl (fun b d => b.submit e d (.ledger p blk) (b.ledgerLba d p) pg) b
    (b.onRcd fun r =>
      { r with stream := t.2.1, streamAt := t.2.2, page := if us.length = 255 then [] else us
               pseq := if us.length = 255 then p + 1 else p }).showLedger

/-- Write every waiting ledger unit, by fuel. -/
def Body.ledgerAll (e : Env) : Nat → Body → Body
  | 0, b => b
  | f + 1, b => if b.rcd.stream.isEmpty then b else Body.ledgerAll e f (b.ledgerPage e)

/-- Write every waiting ledger unit. -/
def Body.ledgerOut (e : Env) (b : Body) : Body := Body.ledgerAll e (b.streamUnits / 255 + 2) b

/-! ### Trend stripes (R426) -/

/-- Units of a stripe: 256 pages of 255. -/
def stripeUnits : Nat := 65280

/-- The headers of the trend blocks among units (R424). -/
def trendHeads (us : List Nat) : List Nat := us.filter fun u => u / 2 ^ 120 = 2

/-- T_START and DUR of a header. -/
def headStart (u : Nat) : Nat := u % 2 ^ 64
def headDur (u : Nat) : Nat := u / 2 ^ 64 % 2 ^ 32

/-- The elapsed length of the intervals that begin among units. -/
def trendLen (us : List Nat) : Nat := (trendHeads us).foldl (fun a u => a + headDur u) 0

/-- The device that takes the next stripe: in turn among those that take writes (R426). -/
def Body.nextDev (b : Body) : Option Nat :=
  let takes (d : Nat) : Bool := b.devTakes d && (b.dev d).room 2
  if takes (b.rcd.turn % 2) then some (b.rcd.turn % 2)
  else if takes ((b.rcd.turn + 1) % 2) then some ((b.rcd.turn + 1) % 2) else none

/-- What a stripe holds: T_START, its end, its elapsed start and length. -/
abbrev StripeSpan := Nat × Nat × Nat × Nat

/-- Send a stripe of page units to device d at its write pointer. -/
def Body.sendStripe (e : Env) (d : Nat) (fua : Bool) (x : StripeSpan) (pages : List Nat) (b : Body) : Body :=
  let n := max 1 (b.ringStripes d)
  let wp := b.rd .recDevwpStripe d % n
  let b := b.submitF e d fua (.stripe wp x.1 x.2.1 x.2.2.1 x.2.2.2) (trendBase + 256 * wp) pages
  let b := b.onDev d fun v => { v with stripes := (wp, x.1) :: v.stripes.filter fun x => x.1 ≠ wp }
  (b.wr .recDevwpStripe d ((wp + 1) % n)).showOldest

/-- Write one stripe: a full one, or early with PAD (R426). -/
def Body.writeStripe (e : Env) (early fua : Bool) (b : Body) : Body :=
  let us := b.rcd.trend.take stripeUnits
  if (us.length < stripeUnits && !early) || us.isEmpty || !b.writesGo || b.flag .recStatBasketDown then b
  else match b.nextDev with
    | none => b
    | some d =>
      let rest := b.rcd.trend.drop stripeUnits
      let t0 := b.rcd.trendT0
      let e0 := b.rcd.trendE0
      let t1 := match (trendHeads us).getLast? with
        | some u => headStart u + headDur u
        | none => t0
      let x : StripeSpan := (t0, t1, e0, trendLen us)
      let pages := mkPages 2 256 b.rcd.trendPseq us
      let b := b.onRcd fun r =>
        { r with trend := rest, trendPseq := r.trendPseq + 256, turn := d + 1
                 trendT0 := match trendHeads rest with | u :: _ => headStart u | [] => t1
                 trendE0 := e0 + trendLen us }
      b.sendStripe e d fua x pages

/-- Write every stripe that is held, the last one early, by fuel; to a device first, where one is given (R426, R437). -/
def Body.stripesOut (e : Env) (fua : Bool) (dst : Option Nat) : Nat → Body → Body
  | 0, b => b
  | f + 1, b =>
    if b.rcd.trend.isEmpty then b
    else Body.stripesOut e fua dst f ((b.onRcd fun r => { r with turn := dst.getD r.turn }).writeStripe e true fua)

/-- Write all trend that is held. -/
def Body.trendOut (e : Env) (fua : Bool) (dst : Option Nat) (b : Body) : Body :=
  Body.stripesOut e fua dst (b.rcd.trend.length / stripeUnits + 1) b

/-- Flush every device that takes writes. -/
def Body.flushDevs (e : Env) (b : Body) : Body :=
  if b.writesGo then b.targets.foldl (fun b d => b.submit e d .flush 0 []) b else b

/-- Hold-up stage 3: every closed block and the trend that is held are written with FUA, and a Flush follows (R231, R442). -/
def Body.stageOut (e : Env) (b : Body) : Body := ((b.ledgerOut e).trendOut e true none).flushDevs e

/-! ### Captures on their way (R422, R423, R436) -/

/-- First LBA of the pool, and the LBA behind its ring of 67 108 864 pages (R420, R436). -/
def poolBase : Nat := 671088896
def poolEnd : Nat := 738197760

/-- The pool writes of n pages from an LBA: one, or two where they run over the end of the ring (R436). -/
def poolParts (lba n : Nat) : List (Nat × Nat) :=
  if lba + n ≤ poolEnd then [(lba, n)] else [(lba, poolEnd - lba), (poolBase, n - (poolEnd - lba))]

/-- The units of a CAPTURE or CAPDATA record, of the given type (R434, R436). -/
def Cap.units (c : Cap) (typ dev lba : Nat) (data : List Nat) : List Nat :=
  [recHead typ (4 + data.length) (c.die * 2 ^ 24 + c.input * 2 ^ 16 + (bit c.wide + 2 * bit c.cut) * 2 ^ 8 + c.src) c.time,
   c.no * 2 ^ 64 + c.samples * 2 ^ 32, dev * 2 ^ 120 + lba, c.period * 2 ^ 96 + c.chan * 2 ^ 88] ++ data

/-- The pool pages of a capture on device d from an LBA on (R417, R436). -/
def Cap.pages (c : Cap) (d lba pseq : Nat) : List Nat :=
  let us := c.units 0x1D d lba c.data
  mkPages 3 (ceilDiv us.length 255) pseq us

/-- Write a capture to the pool of device d at its write pointer, which advances (R436). -/
def Body.poolWrite (e : Env) (d pseq : Nat) (c : Cap) (b : Body) : Body :=
  let lba := (b.dev d).poolLba
  let pages := c.pages d lba pseq
  let n := pages.length / 256
  let b := (poolParts lba n).foldl (fun x p =>
    (x.1.submit e d (.pool c lba pseq) p.1 (x.2.take (256 * p.2)), x.2.drop (256 * p.2))) (b, pages)
  b.1.onDev d fun v => { v with poolLba := poolBase + (lba - poolBase + n) % (poolEnd - poolBase), poolT := e.now }

/-- A capture that is stored nowhere: its CAPTURE record, and the GAP of its span (R423, R434, R440). -/
def Body.capLost (cause : Nat) (c : Cap) (b : Body) : Body :=
  let len := c.samples * c.period / 1000
  (b.emit ⟨c.units 0x1C 0xFF 0 []⟩).gap 3 cause c.time (c.time + len) len 0 0 (if c.chan = 0xFF then 0 else 2 ^ c.chan)

/-- The command carries a part of the capture of a number. -/
def DevCmd.ofCap (no : Nat) (x : DevCmd) : Bool :=
  match x.work with
  | .pool c _ _ => decide (c.no = no)
  | _ => false

/-- The captures whose pool writes are among commands, each once. -/
def capsOf (cs : List DevCmd) : List Cap :=
  cs.foldl (fun a x =>
    match x.work with
    | .pool c _ _ => if a.any fun (y : Cap) => y.no = c.no then a else a ++ [c]
    | _ => a) []

/-- Capture units in Basket: a capture stays until a device has acknowledged it (R422). -/
def Body.capUnits (b : Body) : Nat :=
  (b.rcd.caps ++ capsOf (b.rcd.devA.cmds ++ b.rcd.devB.cmds ++ b.rcd.held)).foldl (fun a c => a + c.data.length + 4) 0

/-- Every sample of the capture has left the die's buffer. -/
def Cap.whole (c : Cap) : Bool := c.ended && decide (c.samples ≤ c.sent + c.lost)

/-- Captures that found the capture part full are discarded at their end (R423). -/
def Body.capsGone (b : Body) : Body :=
  let gone (c : Cap) : Bool := c.whole && c.dev = some 0xFF
  (b.rcd.caps.filter gone).foldl (fun b c => b.capLost 1 c) (b.onRcd fun r => { r with caps := r.caps.filter fun c => !gone c })

/-! ### What a failing or leaving device leaves behind (R437, R439, R440) -/

/-- Put a command of a lost device to device o, or hold it in Basket (R437). A ledger page submitted since o takes pages has its own
command there. -/
def Body.reissue (e : Env) (o : Nat) (c : DevCmd) (b : Body) : Body :=
  let hold := fun (b : Body) => b.onRcd fun r => { r with held := r.held ++ [c] }
  match c.work with
  | .ledger p n => if !b.devTakes o then hold b else if (b.dev o).joinT ≤ c.t0 then b else b.submit e o (.ledger p n) (b.ledgerLba o p) c.units
  | .stripe _ t0 t1 e0 len => if b.devTakes o then b.sendStripe e o c.fua (t0, t1, e0, len) c.units else hold b
  | .pool cap _ pseq => if b.devOn o then b.poolWrite e o pseq cap else hold b
  | .label | .flush | .copy _ | .format => b

/-- Commands, the parts of a capture taken together. -/
def oncePerCap (cs : List DevCmd) : List DevCmd :=
  cs.foldl (fun a x =>
    match x.work with
    | .pool c _ _ => if a.any (DevCmd.ofCap c.no) then a else a ++ [x]
    | _ => a ++ [x]) []

/-- The commands of device d go elsewhere. -/
def Body.dropCmds (e : Env) (d : Nat) (b : Body) : Body :=
  let cs := oncePerCap (b.dev d).cmds
  (cs.foldl (fun b c => b.reissue e (1 - d) c)
    (b.onDev d fun v => { v with cmds := [], stripes := [], prepDue := false, ejectDue := false })).showOldest

/-- Device d becomes ONLINE or starts its resilver: it takes what Basket held. -/
def Body.takeHeld (e : Env) (d : Nat) (b : Body) : Body :=
  let cs := b.rcd.held
  cs.foldl (fun b c =>
    match c.work with
    | .ledger p n => b.submit e d (.ledger p n) (b.ledgerLba d p) c.units
    | _ => b.reissue e d c) (b.onRcd fun r => { r with held := [] })

/-- The resilver of device d copies its next page from the other ONLINE device, in PSEQ order (R439). -/
def Body.copyNext (e : Env) (d : Nat) (b : Body) : Body :=
  let v := b.dev d
  if b.devSt d = 5 && !v.idle && decide (v.lacks < v.copyTo) && b.devOn (1 - d) then
    b.submit e d (.copy v.lacks) (b.ledgerLba d v.lacks) []
  else b

/-- Commands without the copies of a resilver. -/
def dropCopies (cs : List DevCmd) : List DevCmd :=
  cs.filter fun c => match c.work with
    | .copy _ => false
    | _ => true

/-- RESILVER_PCT of device d (R448). -/
def Body.showCopy (d : Nat) (b : Body) : Body :=
  let v := b.dev d
  b.wr .recDevstatResilverPct d (if v.copyTo ≤ v.copyFrom then 100 else min 100 ((v.lacks - v.copyFrom) * 100 / (v.copyTo - v.copyFrom)))

/-- A resilver of device d that has lost its source ends: with no partner from which to copy, d is ONLINE at once (R439). -/
def Body.copyEnds (e : Env) (d : Nat) (b : Body) : Body :=
  if b.devSt d = 5 && !(b.dev d).idle && !b.devOn (1 - d) then
    ((b.onDev d fun v => { v with cmds := dropCopies v.cmds }).setDev d 4).devRec e d 1
  else b

/-- Device d is FAILED and handled as removed (R440). -/
def Body.failDev (e : Env) (d : Nat) (b : Body) : Body :=
  ((((b.setDev d 8).devRec e d 6).dropCmds e d).raise (6, 14 + d)).copyEnds e (1 - d)

/-- An ejecting device whose commands are all complete may be removed (R437). -/
def Body.ejected (e : Env) (d : Nat) (b : Body) : Body :=
  if b.devSt d = 6 ∧ (b.dev d).cmds.isEmpty ∧ (b.dev d).ejectDue = false then (b.devRec e d 2).setDev d 7 else b

/-- The last writes of an ejecting device: the ledger page, the trend that is held, and Flush (R437). -/
def Body.ejectWrites (e : Env) (d : Nat) (b : Body) : Body :=
  let b := ((b.ledgerOut e).trendOut e true (some d)).submit e d .flush 0 []
  (b.onDev d fun v => { v with ejectDue := false }).ejected e d

/-- EJECT of device d: its outstanding commands, the ledger page, a partial stripe and Flush, and no new command after them (R437); under a
hold on writes these wait (R442). -/
def Body.eject (e : Env) (d : Nat) (b : Body) : Body :=
  if b.devSt d ≠ 4 ∧ b.devSt d ≠ 5 then b
  else
    let b := ((b.onDev d fun v => { v with ejectDue := true, cmds := dropCopies v.cmds }).setDev d 6).copyEnds e (1 - d)
    if b.writesGo then b.ejectWrites e d else b

/-- BLOCK_NO before which every block has been handed to a device. -/
def Body.handed (b : Body) : Nat :=
  (b.rcd.devA.cmds ++ b.rcd.devB.cmds).foldl (fun a c => match c.work with | .ledger _ n => max a n | _ => a) b.rcd.ackBlk

/-! ### Basket (R422, R423) -/

/-- Units of trend in Basket: those not in a stripe, and those whose write is outstanding. -/
def Body.trendUnits (b : Body) : Nat :=
  let n (cs : List DevCmd) := cs.foldl (fun a c => match c.work with | .stripe _ _ _ _ _ => a + c.units.length | _ => a) 0
  b.rcd.trend.length + n b.rcd.devA.cmds + n b.rcd.devB.cmds + n b.rcd.held

/-- Units of ledger in Basket. -/
def Body.ledgerUnits (b : Body) : Nat :=
  let n (cs : List DevCmd) := cs.foldl (fun a c => match c.work with | .ledger _ _ => a + c.units.length | _ => a) 0
  b.streamUnits + max (n b.rcd.devA.cmds) (n b.rcd.devB.cmds) + n b.rcd.held

/-- Units of the trend, ledger and capture parts: 960, 32 and 32 MiB. -/
def trendPart : Nat := 62914560
def ledgerPart : Nat := 2097152

/-- TREND_FILL and LEDGER_FILL (R423, R447). -/
def Body.showFill (b : Body) : Body :=
  let spill := b.ledgerUnits - ledgerPart
  (b.wr .recStatTrendFill 0 (min 100 ((b.trendUnits + spill) * 100 / trendPart))).wr .recStatLedgerFill 0
    (min 100 (b.ledgerUnits * 100 / ledgerPart))

/-- The ledger needs more than its part: the newest trend blocks that are not in a stripe make room, last first, and join the span that is
discarded; by fuel (R423). -/
def Body.displace (e : Env) : Nat → Body → Body
  | 0, b => b
  | f + 1, b =>
    if b.trendUnits + (b.ledgerUnits - ledgerPart) ≤ trendPart then b
    else match (b.rcd.trend.zipIdx.filter fun x => decide (x.1 / 2 ^ 120 = 2)).getLast? with
      | none => b
      | some (h, i) =>
        let t0 := h % 2 ^ 64
        Body.displace e f (b.onRcd fun r =>
          { r with trend := r.trend.take i, dropFrom := some (t0, r.trendE0 + trendLen (r.trend.take i)) })

/-- The device whose pool takes the next capture: ONLINE, with the older write pointer (R436). -/
def Body.poolDev (b : Body) : Option Nat :=
  match [0, 1].filter fun d => b.devOn d && (b.dev d).room 2 with
  | [] => none
  | [d] => some d
  | _ => some (if b.rcd.devA.poolT ≤ b.rcd.devB.poolT then 0 else 1)

/-- Write the oldest capture that has ended to a pool (R436); a STANDBY module writes none (R444). -/
def Body.capWrite (e : Env) (b : Body) : Body :=
  match b.rcd.caps.findIdx? Cap.whole with
  | none => b
  | some i =>
    match b.rcd.caps[i]? with
    | none => b
    | some c =>
      let rest := b.rcd.caps.eraseIdx i
      if b.role = .standby then b.onRcd fun r => { r with caps := rest }
      else match (if b.writesGo && !b.flag .recStatBasketDown then b.poolDev else none) with
      | none => b
      | some d =>
        let n := ceilDiv (4 + c.data.length) 255
        let pseq := b.rcd.poolPseq
        (b.onRcd fun r => { r with caps := rest, poolPseq := r.poolPseq + n }).poolWrite e d pseq c

/-- Write every capture that has ended, by fuel. -/
def Body.capsOut (e : Env) : Nat → Body → Body
  | 0, b => b
  | f + 1, b => Body.capsOut e f (b.capWrite e)

/-- Everything held is written now, and a Flush follows (R426, R447). -/
def Body.flushAll (e : Env) (b : Body) : Body :=
  (Body.capsOut e b.rcd.caps.length ((b.ledgerOut e).trendOut e false none)).flushDevs e

/-! ### Blocks (R427 to R429) -/

/-- Bits of QUAL for channel n gathered in the open block. -/
def Body.markQual (n pos : Nat) (b : Body) : Body :=
  b.onRcd fun r => { r with blkChan := sparseSet 0 r.blkChan n (setBit (sparseGet 0 r.blkChan n) pos) }

/-- A bit of QUAL for channel n, gathered in the block that holds an elapsed instant as its end: one that waits, or the open one
(R427, R428). -/
def Body.markQualAt (t n pos : Nat) (b : Body) : Body :=
  match b.rcd.blkWait.findIdx? fun w => decide (t ≤ w.endE) with
  | some i => b.onRcd fun r =>
      { r with blkWait := r.blkWait.modify i fun w => { w with chan := sparseSet 0 w.chan n (setBit (sparseGet 0 w.chan n) pos) } }
  | none => b.markQual n pos

/-- The channels of a span (R334). -/
def Unmet.chans (u : Unmet) : List Nat :=
  match u.die with
  | some k => dieChannels k
  | none => List.range 128

/-- The QUAL bits of single channels of the block that ends now: an unmetered span that is open touches its channels (R428). -/
def Body.blkChans (b : Body) : Sparse :=
  (b.mtr.unmet.flatMap Unmet.chans).foldl (fun m n => sparseSet 0 m n (setBit (sparseGet 0 m n) 7)) b.rcd.blkChan

/-- Flags of the open block. -/
def Body.markBlk (pos : Nat) (b : Body) : Body := b.onRcd fun r => { r with blkFlags := setBit r.blkFlags pos }

/-- The FLAGS conditions in force now; bit 31 stands for a timebase that is not LOCKED (R428). -/
def Body.flagsNow (b : Body) : Nat :=
  8 * bit b.doze + 16 * bit (b.role = .bench) + 32 * b.rd .healthStatBrace + 128 * b.rd .tbStatTimeSet
    + 1024 * b.rd .budgetHustatActive + 2048 * b.rd .twinStatSeamRun + 4096 * bit b.mtr.rolled
    + 2 ^ 31 * bit (b.rd .tbStatState ≠ 2)

/-- The module-wide QUAL conditions in force now (R336, R428). -/
def Body.qualNow (b : Body) : Nat :=
  (1 - b.rd .metaRefstatWarmDone) + 2 * b.rd .metaRefstatWatch + 16 * bit (b.rd .metaEpochEpoch = 0)

/-- The dies whose CAL_FROZEN is set. -/
def Body.frozenDies (b : Body) : Nat :=
  (List.range 8).foldl (fun a k => a + b.drd k .feCvstatCalFrozen k * 2 ^ k) 0

/-- The conditions of COND in force now at die k (R336, R376). -/
def Body.benchCond (b : Body) (k : Nat) : Nat :=
  (1 - b.rd .metaRefstatWarmDone) + 2 * b.rd .metaRefstatWatch + 4 * bits (b.rd .metaRefstatBuf) k k
    + 8 * b.drd k .feCvstatCalFrozen k + 16 * bit (b.rd .metaEpochEpoch = 0) + 32 * b.drd k .feCvstatCalDefer k

/-- The bench scans that run gather the conditions in force now (R376). -/
def Body.gatherScans (b : Body) : Body :=
  if b.role = .bench then
    b.forEach (List.range 8) fun k b =>
      if (b.fe k).urg.run = some .bench then b.onDie k fun d => { d with scanCond := orBits d.scanCond (b.benchCond k) } else b
  else b

/-- Gather the conditions in force now into the open block, and into the bench scans that run (R376, R428). -/
def Body.gather (b : Body) : Body :=
  b.gatherScans.onRcd fun r =>
    { r with blkFlags := orBits r.blkFlags b.flagsNow, blkQual := orBits r.blkQual b.qualNow
             blkBufq := orBits r.blkBufq (b.rd .metaRefstatBuf), blkFrozen := orBits r.blkFrozen b.frozenDies }

/-- IMAGE_SEQ as the ledger cites it: that of the image replaced until B_P of a Patch (R506). -/
def Body.citeSeq (b : Body) : Nat :=
  match b.boot.patch with
  | some p => if p.passed then b.rd .modImgseqSeq else p.oldSeq
  | none => b.rd .modImgseqSeq

/-! ### Origins (R333, R334, R443) -/

/-- The mean powers of the last complete intervals, a unit of four channels each (R334, R434). -/
def Body.mwUnits (b : Body) : List Nat :=
  (List.range 32).map fun w =>
    (List.range 4).foldl (fun a j => a + ofSigned 32 (b.en (4 * w + j)).m.lastMw * 2 ^ (32 * j)) 0

/-- An unmetered span from a count on, of the module or of a die; its elapsed start is as long ago as its count is. -/
def Body.unmetFrom (e : Env) (die : Option Nat) (cause t0 : Nat) (b : Body) : Unmet :=
  ⟨die, cause, t0, (e.now : Int) - ((e.count : Int) - (t0 : Int)), b.mwUnits⟩

/-- A span ends at a count and an elapsed instant: its record, ENERGY.STAT.UNMETERED, and the mark of its channels (R334, R428,
R434). -/
def Body.endUnmetered (count now : Nat) (u : Unmet) (b : Body) : Body :=
  let b := b.wr .energyStatUnmetered 0 1
  let b := u.chans.foldl (fun b n => b.markQual n 7) b
  if b.role = .standby then b
  else b.emit (mkRec 0x15 (u.cause * 2 ^ 24) u.t0
    ((count * 2 ^ 64 + (max 0 ((now : Int) - u.e0)).toNat % 2 ^ 64) :: u.mw))

/-- Open an unmetered span: it ends at the first new increment, at once where one has come already (R332 to R334). -/
def Body.openUnmetered (e : Env) (die : Option Nat) (cause t0 : Nat) (b : Body) : Body :=
  let u := b.unmetFrom e die cause t0
  match b.mtr.firstInc with
  | some (c, t) => (b.endUnmetered c t u).onMtr fun m => { m with firstInc := none }
  | none => b.onMtr fun m => { m with unmet := m.unmet ++ [u] }

/-- The first new increment of die k ends the spans of the module and of the die (R332 to R334). -/
def Body.closeUnmetered (e : Env) (k : Nat) (b : Body) : Body :=
  let ends (u : Unmet) : Bool := u.die = none || u.die = some k
  let us := b.mtr.unmet.filter ends
  us.foldl (fun b u => b.endUnmetered e.count e.now u) (b.onMtr fun m => { m with unmet := m.unmet.filter fun u => !ends u })

end Sys2Proof.Machine
end

