-- ==== Sys2Proof/Machine/Capture.lean ====
section
/-!
DEFINITION. What holds the converters of a die: the entries of its scan, the urgent requests that wait and start (R287, R288), the
visits that they pause (R275), and the triggers of fault captures (R294, R295).
-/

namespace Sys2Proof.Machine

open Sys2Proof

/-- Change the metering path of channel n. -/
def Body.onPath (n : Nat) (f : MPath → MPath) (b : Body) : Body := b.onEng n fun g => { g with m := f g.m }

/-- A wide capture of die k runs (R295, R296). -/
def Body.wideRuns (b : Body) (k : Nat) : Bool := b.drd k .feCapstatBusy k = 1 && b.drd k .feCapstatWideRun k = 1

/-- The die answers: it is not in reset and its converters run. -/
def Body.dieRuns (b : Body) (k : Nat) : Bool := !b.dieOff k && !b.doze

/-! ### The entries and their slots (R279, R280, R290) -/

/-- Entry e of die k is enabled (R279). -/
def Body.entryOn (b : Body) (k e : Nat) : Bool :=
  let input := b.drd k .feEntryInput (64 * k + e)
  if e < 32 ∨ e = 48 then true
  else if e < 48 then b.cd .chAmbcfgTsFitted (16 * k + (e - 32)) = 1
  else bitAt (b.drd k .feScanmask1EnAux k) (e - 49) && decide (input ≤ 0x45)

/-- The number of enabled entries. -/
def Body.entries (b : Body) (k : Nat) : Nat := ((List.range 64).filter (b.entryOn k)).length

/-- A slot of CVB is 50 ns, 100 ns in low-power mode (R280, R298). -/
def Body.slotNs (b : Body) (k : Nat) : Nat := if b.drd k .feCvstatLp k = 1 then 100 else 50

/-- The samples of an urgent request are 50 ns apart, twice that with a retired slice in both converters (R290). -/
def Body.urgentNs (b : Body) (k : Nat) : Nat :=
  if b.drd k .feCvstatCvaRet k ≠ 0 ∧ b.drd k .feCvstatCvbRet k ≠ 0 then 2 * b.slotNs k else b.slotNs k

/-- Change the urgent requests of die k. -/
def Body.onUrg (k : Nat) (f : Urgent → Urgent) (b : Body) : Body := b.onDie k fun d => { d with urg := f d.urg }

/-- The rest of the last bench scan is over (R370). -/
def Body.restOver (e : Env) (b : Body) (k : Nat) : Bool :=
  match (b.fe k).restEnd with
  | some t => decide (t ≤ e.now)
  | none => true

/-- The period of a capture's samples in ps (R290, R295, R298). -/
def Body.capPeriod (b : Body) (k : Nat) (wide : Bool) : Nat :=
  if wide then b.slotNs k * 500 else b.urgentNs k * 1000

/-- The slices that serve the positions of die k now (R266, R277). -/
def Die.serve (d : Die) : Serve := ⟨d.posA, d.posB, d.rotNext % 4, d.slotPos⟩

/-- Open the record of the capture that starts (R294, R436); while the Basket clock has failed none is recorded (R441). -/
def Body.startCap (e : Env) (k : Nat) (b : Body) : Body :=
  if b.flag .recStatBasketDown then b else
  let u := (b.fe k).urg
  let c : Cap :=
    { die := k, input := u.capIn, wide := u.capWide, cut := false, src := u.capSrc, chan := u.capCh, time := b.stampAt k e.now
      no := b.rd .recCapnoNo, samples := 0, period := b.capPeriod k u.capWide, serve := (b.fe k).serve, start := e.now, sent := 0, lost := 0, data := [], ended := false, dev := none }
  ({ b with rcd := { b.rcd with caps := b.rcd.caps ++ [c] } } : Body).wr .recCapnoNo 0 (b.rd .recCapnoNo + 1)

/-- A converter has retired a slice: no further visits (R274). -/
def Body.noVisits (b : Body) (k : Nat) (cvb : Bool) : Bool :=
  b.drd k (if cvb then .feCvstatCvbRet else .feCvstatCvaRet) k ≠ 0

/-! ### The running visits (R272, R275, R299) -/

/-- Conversions of the work of one visit: offset, gain, four segment boundaries, skew (R272). -/
def visitConvs : Nat := [2 ^ 18, 2 ^ 18, 4 * 2 ^ 16, 2 ^ 18].foldl (· + ·) 0

/-- A slice converts every four slots (R266). -/
def Body.convNs (b : Body) (k : Nat) : Nat := 4 * b.slotNs k

/-- Change the running visit of a converter of die k. -/
def Body.onVisit (k : Nat) (cvb : Bool) (f : VisitRun → VisitRun) (b : Body) : Body :=
  b.onDie k fun d => if cvb then { d with visB := f d.visB } else { d with visA := f d.visA }

/-- Visits run on a converter of die k: no slice of it is retired, and neither the throttle level, a freeze, doze nor a reset bars them
(R274, R275, R299, R580). -/
def Body.visitsRun (b : Body) (k : Nat) (cvb : Bool) : Bool :=
  !b.noVisits k cvb && b.drd k .feCvstatCalDefer k = 0 && !b.flag .healthStatFreeze && !b.doze && !b.dieOff k

/-- Conversions done of the work of a visit, one every per ns. -/
def VisitRun.doneAt (v : VisitRun) (per now : Nat) : Nat :=
  match v.since with
  | some t => v.done + (now - t) / per
  | none => v.done

/-- The visits of die k pause, and keep the work they have done (R275). -/
def Body.visitsPause (e : Env) (k : Nat) (b : Body) : Body :=
  b.forEach [0, 1] fun c b => b.onVisit k (c = 1) fun v => ⟨v.doneAt (b.convNs k) e.now, none⟩

/-- The visits of die k follow what bars them: a barred visit does no work and is taken anew afterwards; one that may run goes on,
unless an urgent request holds it (R275, R299). -/
def Body.visitsFollow (e : Env) (k : Nat) (b : Body) : Body :=
  b.forEach [0, 1] fun c b => b.onVisit k (c = 1) fun v =>
    if !b.visitsRun k (c = 1) then ⟨0, none⟩
    else if (b.fe k).urg.run.isSome then v
    else ⟨v.done, some (v.since.getD e.now)⟩

/-! ### Low power (R298) -/

/-- Low-power mode of die k begins or ends: conversions take twice the time in it. -/
def Body.setLp (e : Env) (k : Nat) (x : Bool) (b : Body) : Body :=
  (((b.visitsPause e k).dwr k .feCvstatLp k (bit x)).onDie k fun d => { d with lpNext := none }).visitsFollow e k

/-- Low-power mode is to begin or to end on every die: at the die's next rotation boundary, which is the present instant where the
rotation stands at one or does not run. -/
def Body.lowPower (e : Env) (x : Bool) (b : Body) : Body :=
  b.forEach (List.range 8) fun k b =>
    if (b.fe k).rotNext = 0 && !b.wideRuns k || !b.dieRuns k then b.setLp e k x
    else b.onDie k fun d => { d with lpNext := some x }

/-- The rotation of die k stands at a boundary. -/
def Body.rotBoundary (e : Env) (k : Nat) (b : Body) : Body :=
  match (b.fe k).lpNext with
  | some x => b.setLp e k x
  | none => b

/-! ### Urgent requests start (R287, R288) -/

/-- The enabled points of die k, ascending (R367, R376). -/
def Body.points (b : Body) (k : Nat) : List Nat :=
  (List.range 50).filter fun p =>
    if p < 32 then bitAt (b.drd k .feBpts0En k) p else bitAt (b.drd k .feBpts1En k) (p - 32)


/-- A bench trigger may start its scan (R370, R578). -/
def Body.benchGo (e : Env) (b : Body) (k : Nat) : Bool := (b.fe k).urg.waitBench && b.restOver e k && decide (b.health.lvl < 4)

/-- A scan with no point enabled ends as it starts, and commits nothing (R369). -/
def Body.emptyScan (e : Env) (k : Nat) (b : Body) : Body :=
  let u := (b.fe k).urg
  if u.run.isNone && u.passLeft = 0 && !u.waitCap && b.benchGo e k && (b.points k).isEmpty then
    b.onDie k fun d => { d with scanZero := false, urg := { d.urg with waitBench := false } }
  else b

/-- Start the next waiting request of die k, in the order capture, bench trigger, direct conversion (R287, R288). -/
def Body.urgentStart (e : Env) (k : Nat) (b : Body) : Body :=
  let b := b.emptyScan e k
  let u := (b.fe k).urg
  let go := fun (r : UrgKind) (b : Body) => ((b.visitsPause e k).onUrg k fun u =>
    { u with run := some r, startT := e.now, loopAt := 0, loopOdd := true, loopB := false, ahead := [] }).dwr k .feCvstatUrgent k 1
  if u.run.isSome || decide (0 < u.passLeft) then b
  else if u.waitCap then
    let b := (go .capture (b.onUrg k fun u => { u with waitCap := false, capCut := false, capAbort := false })).dwr k
      .feCapstatBusy k 1
    let b := (b.dwr k .feCapstatWideRun k (bit u.capWide)).startCap e k
    if b.wideRuns k then
      (b.forEach (dieChannels k) fun n b => b.onPath n fun m => { m with cur := { m.cur with hold := true } }).span
        e.count 3 1 (0xFFFF * 2 ^ (16 * k))
    else b
  else if b.benchGo e k then
    (go .bench (b.onDie k fun d => { d with scanCond := 0, urg := { d.urg with waitBench := false } })).wr .metaBenchdieBusy k 1
  else if u.waitConv then go .direct (b.onUrg k fun u => { u with waitConv := false })
  else b

/-! ### Fault captures (R294, R295) -/

/-- An input that is never converted (R278, R311). -/
def noInput (code : Nat) : Bool := decide (0x45 < code)

/-- No channel of die k is driven or in FET_FAULT, in HELD its prior state (R295). -/
def Body.allQuiet (b : Body) (k : Nat) : Bool :=
  (dieChannels k).all fun n => !(b.ch (b.leadOf n)).eff.driven && (b.ch (b.leadOf n)).eff ≠ .fetFault

/-- The input of a capture: 0x7E is the current input of the channel that tripped, for sources 1 and 2 (R294). -/
def Body.capInput (b : Body) (k src unit : Nat) : Nat :=
  let i := b.drd k .feCapctlInput k
  if i = 0x7E then (if src = 1 ∨ src = 2 then unit % 16 else 0x7F) else if noInput i then 0x7F else i

/-- Take a capture at a trigger of a source, or miss it where the capture cannot start (R287, R294). -/
def Body.capture (e : Env) (k src unit : Nat) (b : Body) : Body :=
  let u := (b.fe k).urg
  let i := b.capInput k src unit
  if !b.dieRuns k || i = 0x7F then b
  else if u.waitCap || u.run.isSome || decide (0 < u.passLeft) then b.dwr k .feCapstatMissed k 1
  else
    let wide := b.drd k .feCapctlWide k = 1 && b.allQuiet k
    (b.onUrg k fun u =>
      { u with waitCap := true, capIn := i, capSrc := src, capCh := if src = 1 ∨ src = 2 then 16 * k + unit % 16 else 0xFF
               capWide := wide }).urgentStart e k

/-- The source selected, codes beyond the table taken as 0 (R294). -/
def Body.capSource (b : Body) (k : Nat) : Nat := if 6 < b.drd k .feCapctlTsrc k then 0 else b.drd k .feCapctlTsrc k

/-- The source triggers on die k: unit is the local channel of a trip, or the filter unit (R294). -/
def Body.capHits (b : Body) (k src unit : Nat) : Bool :=
  let t := b.drd k .feCapctlTunit k
  decide (src ≠ 0) && decide (b.capSource k = src) && b.drd k .feCapctlEn k = 1 &&
    (match src with
      | 1 => decide (unit = t % 16)
      | 3 => decide (unit = t)
      | _ => true)

/-- A trigger of a source on die k (R294). -/
def Body.capTrigger (e : Env) (k src unit : Nat) (b : Body) : Body := if b.capHits k src unit then b.capture e k src unit else b

/-- A trigger of die k, which a die with XOUT passes on to the others as a cross-trigger (R294). -/
def Body.capTriggerAll (e : Env) (k src unit : Nat) (b : Body) : Body :=
  let b' := b.capTrigger e k src unit
  if b.capHits k src unit && src ≠ 5 && b.drd k .feCapctlXout k = 1 then
    (List.range 8).foldl (fun b j => if j = k then b else b.capTrigger e j 5 0) b'
  else b'

end Sys2Proof.Machine
end

