-- ==== Sys2Proof/Machine/Route.lean ====
section
/-!
DEFINITION. Where a register field is held (R31): in HUB alone, in HUB with a forwarded copy at a die, or in a die.
-/

namespace Sys2Proof.Machine

open Sys2Proof

/-- The registers of a field's inner group: 32 gains of a channel, 64 ladder levels of a die; 1 without one. -/
def Fld.inner (f : Fld) : Nat :=
  match f.row.dims with
  | [_, (m, _)] => m
  | _ => 1

/-- The channel, die or unit that field f at index i belongs to. -/
def Fld.unit (f : Fld) (i : Nat) : Nat := i / f.inner

/-- The field is held in the FE dies (R31). -/
def Fld.held (f : Fld) : Bool := decide (0x20000 ≤ f.row.base) && decide (f.row.base < 0x28000)

/-- The field is forwarded: SEATCFG, RAMP, LIMITCFG, CH offsets 0x030 to 0x09F, the tables of a channel (R31). -/
def Fld.forwarded (f : Fld) : Bool :=
  let o := f.row.base - 0x10000
  decide (0x80000 ≤ f.row.base) ||
    (decide (0x10000 ≤ f.row.base) && decide (f.row.base < 0x20000) &&
      ((decide (0x0C ≤ o) && decide (o ≤ 0x14)) || (decide (0x30 ≤ o) && decide (o < 0xA0))))

/-- The field belongs to one channel. -/
def Fld.ofChan (f : Fld) : Bool :=
  decide (0x80000 ≤ f.row.base) || (decide (0x10000 ≤ f.row.base) && decide (f.row.base < 0x20000))

/-- Read field f at index i where it is held: HUB's copy of a forwarded field. -/
def Body.get (b : Body) (f : Fld) (i : Nat) : Nat := if f.held then b.drd (f.unit i) f i else b.rd f i

/-- Set field f at index i everywhere it is held, at once. -/
def Body.put (f : Fld) (i v : Nat) (b : Body) : Body :=
  if f.held then b.dwr (f.unit i) f i v
  else if f.forwarded then (b.wr f i v).dwr (f.unit i / 16) f i v
  else b.wr f i v

/-- Set fields by key. -/
def Body.putKeys (kvs : List (Nat × Nat)) (b : Body) : Body := kvs.foldl (fun b k => b.put (keyFld k.1) (k.1 / 1024) k.2) b

/-- What a die keeps of its own through a reset: fields that are written, the ladder with its band, the ranges in force, its retired
and its out-of-service slices (R274), and a recording of the trace, which a reset interrupts and does not end (R122; DEDUCED, log 203). -/
def Fld.keptByDie (f : Fld) : Bool :=
  f.held && (f.row.acc = .rw ||
    (match f with
      | .feLadderLevel | .feBusbandNlev | .feBusbandBand | .feIrangeApplied | .feEntryInput | .fuFcfgOrder | .fuFcfgSettle
      | .fuFcfgRatio | .feScanmask1EnAux | .feCvstatLp | .feCvstatCalDefer | .feCvstatCvaRet | .feCvstatCvbRet | .feCvstatCvaOut
      | .feCvstatCvbOut | .feCvstatCalFrozen | .feTrctlArmed | .feTrctlTriggered | .feTrctlDone | .feTrstatTrigIdx | .feTrtimeTime => true
      | _ => false))

/-- The registers of die k after it has loaded its configuration from HUB (R471): its own as they stand, and HUB's forwarded fields. -/
def Body.loadedRegs (b : Body) (k : Nat) : Sparse :=
  let own := (b.fe k).regs.filter fun e => (keyFld e.1).held
  (b.regs.filter fun e => (keyFld e.1).forwarded && decide ((keyFld e.1).unit (e.1 / 1024) / 16 = k)).foldl
    (fun m e => regSetKey m e.1 e.2) own

end Sys2Proof.Machine
end

