-- ==== Sys2Proof/Machine/Transition.lean ====
section
/-!
DEFINITION. The channel state machine (chapter 02) and what a trip does (chapter 05): the shared operations that every
command that moves a channel uses. A gang's machine is its leader's (R62).
-/

namespace Sys2Proof.Machine

open Sys2Proof

/-! ### The die's part of a state change -/

/-- The gate conducts or may conduct: it is not held off (R160). -/
def Gate.live : Gate → Bool
  | .driven | .full | .keep => true
  | .hiZ | .sink | .fastSink => false

/-- The gate that is off: a fast sink that runs goes on, else the controlled sink holds (R104, R159). -/
def Eng.offGate (g : Eng) : Gate := if g.gate = .fastSink then .fastSink else .sink

/-- The fast sink hands over to the controlled sink at a gate-source voltage below 1.0 V, or after 5 µs (R159); a driver that was
high-impedance returns to that (R460). -/
def Eng.endFast (now : Nat) (g : Eng) : Eng :=
  if g.gate = .fastSink && (decide (g.vgs < 10) || decide (g.fastFrom + 5000 ≤ now)) then
    { g with gate := if g.hiZAfter then .hiZ else .sink, hiZAfter := false }
  else g

/-- The fast sinks of the dies that take no samples end by their time (R159). -/
def Body.endFasts (now : Nat) (b : Body) : Body :=
  b.forEach ((List.range 128).filter fun n => b.dieOff (dieOf n) && decide ((b.en n).gate = .fastSink)) fun n b =>
    b.onEng n (Eng.endFast now)

/-- Leaving the states in which the engine commands the gate: the demand is gone, the integrators are 0, the stall timer
and the other loop timers stop (R104, R115, R163); an episode ends (R156). -/
def Eng.stop (g : Eng) : Eng :=
  { g with gate := g.offGate, dsel := -32768, win := 0, sat := false, frozen := false, x := [0, 0, 0, 0, 0],
           wins := [], freeWins := 0, doneSince := none, limFrom := none, feSince := none, stallNs := 0, epiRun := false,
           fsFrom := none, shortSince := none, due := .no }

/-- The gate that the engine is to command: with the trip latch set its driver cannot source, and it stays off (R159, R161). -/
def Eng.driveGate (g : Eng) : Gate := if g.tripLatch then g.offGate else .driven

/-- Start a ramp from the measured output (R73, R109, R113, R115, R116, R156). DESIGN CHOICE (log 173): C_MEAS of a ramp that
TARGET_ABOVE starts is measured from that start, as R113 states it from GRANT. -/
def Eng.startRamp (g : Eng) : Eng :=
  { g with gate := g.driveGate, ref := toAcc g.out, rNum := 0, rDen := 1, rFall := false, rampEnd := false,
           refStart := toAcc g.out, outStart := g.out, qSum := 0, measuring := true, x := [0, 0, 0, 0, 0],
           doneSince := none, feSince := none, stallNs := 0, episode := 0, epiRun := true, wins := [], freeWins := 0,
           fsFrom := none, shortSince := none, due := .no }

/-- A GRANT whose ramp waits for a sample: the gate stays off until then (R291, R296). -/
def Eng.awaitRamp (w : RampWait) (g : Eng) : Eng := { g.stop with due := w }

/-- Continue a ramp after a hold from the measured output; the integrators keep their values (R109, R115). DESIGN CHOICE (log 173):
the rounding of R110 starts again with r = 0. -/
def Eng.resumeRamp (g : Eng) : Eng :=
  { g with gate := g.driveGate, ref := toAcc g.out, rNum := 0, rDen := 1, rFall := false, doneSince := none, feSince := none,
           stallNs := 0, epiRun := true, due := .no }

/-- The ramp is over (R75, R156): the episode ends. -/
def Eng.endRamp (g : Eng) : Eng := { g with epiRun := false, feSince := none, doneSince := none, rampEnd := true }

/-- Enter LIMIT: the LIMIT timer and the limit episode start from 0 (R78, R156). -/
def Eng.startLimit (now : Nat) (g : Eng) : Eng := { g with limFrom := some now, episode := 0, epiRun := true }

/-- Leave LIMIT: the LIMIT timer clears, the episode ends (R78, R156). -/
def Eng.endLimit (g : Eng) : Eng := { g with limFrom := none, epiRun := false }

/-- C_MEAS of a ramp that leaves RAMP before the 25 % point is 0 (R113). -/
def Body.dropMeas (n : Nat) (b : Body) : Body :=
  if (b.en n).measuring then (b.onEng n fun g => { g with measuring := false }).wr .chFfstatCMeas n 0 else b

/-- The gates the module commands: its role is SOLO or ACTIVE (R450), and it has not left them at T_S of a Seam (R462). -/
def Body.drives (b : Body) : Bool := (b.role = .solo || b.role = .active) && !b.twin.left

/-- Orchestration is frozen between T_P and T_S of a Seam (R462). -/
def Body.froze (b : Body) : Bool :=
  match b.twin.seam with
  | some s => s.passedP && !s.passedS
  | none => false

/-- A member's engines at a change of the gang's state from old to new. A GRANT starts its ramp by itself (`Body.grantDie`). -/
def Eng.onState (now : Nat) (old new : ChState) (g : Eng) : Eng :=
  if new = .held then g
  else if new = .ramp then (if old = .on then g.startRamp else g)
  else if new = .fetFault then { g.stop with gate := .sink }
  else if !new.driven then (if old.driven || old = .held then g.stop else g)
  else
    let g := if old = .ramp then g.endRamp else g
    let g := if old = .limit && new ≠ .limit then g.endLimit else g
    let g := if new = .limit && old ≠ .limit then g.startLimit now else g
    { g with gate := if old.driven then g.gate else g.driveGate, stallNs := if old = new then g.stallNs else 0 }

/-! ### HUB's part of a state change -/

/-- End a channel's budget cap (R218). -/
def Body.endCap (n : Nat) (b : Body) : Body :=
  if (b.ch n).capOn then
    (b.onCh n fun c => { c with capOn := false, capW := 0, capGuar := false }).fwd n [(.chCapPCap, 0x7FFF)]
  else b

/-- BUS of the channel's die lies outside the channel's window: above (true) or below (false) (R192, R286). -/
def Body.busSide (b : Body) (n : Nat) : Option Bool :=
  let k := dieOf n
  if !b.busGe k (b.rd .chBuswinBusUv n) then some false
  else if b.busGe k (b.rd .chBuswinBusOv n) then some true
  else none

/-- The excursion that a channel meets as it enters a listed state: its qualify timer starts now (R192). -/
def Body.excursion (e : Env) (n : Nat) (b : Body) : Option (Nat × Bool) := (b.busSide n).map fun s => (e.now, s)

/-- BUS is back inside the return window [BUS_UV + 1.0 V, BUS_OV − 1.0 V] (R192, R199, R286). -/
def Body.busReturned (b : Body) (n : Nat) : Bool :=
  let k := dieOf n
  b.busGe k (b.rd .chBuswinBusUv n + 10) && !b.busGe k (b.rd .chBuswinBusOv n - 10)

/-- A wide capture of die k ends: CUT (R296). -/
def Body.cutWide (k : Nat) (b : Body) : Body :=
  if b.wideRuns k then b.onUrg k fun u => { u with capCut := true } else b

/-- The latch of an engine is set: the fast sink starts where the gate conducts or may conduct; a gate that is off stays with
what holds it off. A latch that is set already changes nothing (R159, R160, R190). -/
def Eng.latch (now : Nat) (g : Eng) : Eng :=
  if g.tripLatch then g
  else if g.gate.live then { g with tripLatch := true, gate := .fastSink, fastFrom := now }
  else { g with tripLatch := true }

/-- The latch of an engine in this module: on a STANDBY die the fast sink starts from high impedance (R460). -/
def Body.latchEng (now : Nat) (b : Body) (g : Eng) : Eng :=
  let h := Eng.latch now g
  if b.role = .standby && g.gate = .hiZ && !g.tripLatch then { h with gate := .fastSink, fastFrom := now, hiZAfter := true } else h

/-- The latch is set and the fast sink starts, on every member of a gang (R159, R169). -/
def Body.latchGang (e : Env) (n : Nat) (b : Body) : Body :=
  b.forEach (b.membersOf n) fun m b => b.onEng m (b.latchEng e.now)

/-- The die's part of a TRIP: the latch of the gang is set, and the TRIP triggers the trace and the capture of a member whose latch was
clear (R124, R159, R162, R169, R294). -/
def Body.latchDie (e : Env) (n : Nat) (b : Body) : Body :=
  b.forEach (b.membersOf n) fun m b =>
    if (b.en m).tripLatch then b
    else (b.onEng m fun g => { b.latchEng e.now g with tripPulse := true }).capTriggerAll e (dieOf m) 1 (m % 16)

/-- A frame that carries fields of channels alone. -/
def DownMsg.chanFields : DownMsg → Option (List (Nat × Nat))
  | .fields _ kvs => if kvs.all fun kv => (keyFld kv.1).ofChan then some kvs else none
  | .hostWrite _ _ _ | .state _ _ _ | .grant _ | .trip _ | .release _ _ => none

/-- The fields of channels that wait for die k are applied and acknowledged, in their order, where nothing else waits: a command that
HUB sends behind them finds them in place (R30, R33). -/
def Body.landFields (k : Nat) (b : Body) : Body :=
  let ms := (b.fe k).down
  ((b.onDie k fun d =>
    { d with regs := (ms.filterMap DownMsg.chanFields).foldl (fun r kvs => kvs.foldl (fun r kv => regSetKey r kv.1 kv.2) r) d.regs
             down := [] }).framed k false (ms.map DownMsg.frame)).framed k true (ms.map fun _ => (4, []))

/-- What the ramp of a GRANT waits for: in a wide capture, which the GRANT ends, the first current sample of the channel after it
(R296); in another urgent request a fresh OUT sample, where the latest is more than 3.2 µs old (R291). -/
def Body.rampWait (e : Env) (n : Nat) (b : Body) : RampWait :=
  let k := dieOf n
  if b.wideRuns k then .cur
  else if (b.fe k).urg.run.isSome && decide ((b.en n).outAt + 3200 < e.now) then .out else .no

/-- GRANT on the die: the latch is cleared and a ramp starts on every member, at once or with the sample that it waits for (R73, R161,
R291, R296). -/
def Body.grantDie (e : Env) (n : Nat) (b : Body) : Body :=
  let w := b.rampWait e n
  let b := if w = .out then b.onUrg (dieOf n) fun u => { u with ahead := u.ahead ++ [n % 16] } else b
  b.forEach (b.membersOf n) fun m b => b.onEng m fun g =>
    let g : Eng := { g with tripLatch := false }
    if w = .no then g.startRamp else g.awaitRamp w

/-- The die's part of a state change: the engines of every member follow; a ramp that starts and a FET_FAULT end a wide capture (R104,
R296). -/
def Body.stateDie (e : Env) (n : Nat) (old new : ChState) (b : Body) : Body :=
  let b := b.forEach (b.membersOf n) fun m b => b.onEng m (Eng.onState e.now old new)
  if new = .ramp || new = .fetFault then b.cutWide (dieOf n) else b

/-- The die's part of a release from HELD to a state: the ramp goes on from the measured output, another driven state drives again
(R69, R109, R115). -/
def Body.releaseDie (n : Nat) (prior : ChState) (b : Body) : Body :=
  b.forEach (b.membersOf n) fun m b => b.onEng m fun g =>
    if g.tripLatch then { g with gate := g.offGate }
    else if prior = .ramp then g.resumeRamp
    else if prior.driven then { g with gate := .driven, stallNs := 0 }
    else { g with gate := g.offGate }

/-- A die carries out a command to its engines. -/
def Body.actDie (e : Env) (m : DownMsg) (b : Body) : Body :=
  match m with
  | .fields _ _ | .hostWrite _ _ _ => b
  | .state n old new => b.stateDie e n old new
  | .grant n => b.grantDie e n
  | .trip n => b.latchDie e n
  | .release n prior => b.releaseDie n prior

/-- HUB commands the engines of die k: behind what waits for the die, in the order sent; a command with nothing but fields of channels
before it arrives with them at once (R30). DESIGN CHOICE (log 201): a die in reset learns what the states ask for as it rejoins. -/
def Body.tell (e : Env) (k : Nat) (m : DownMsg) (b : Body) : Body :=
  if !(b.fe k).joined then b
  else if !b.hubDown && (b.fe k).down.all fun x => x.chanFields.isSome then
    (((b.landFields k).framed k false [m.frame]).actDie e m).framed k true [(4, [])]
  else b.sendDown k m

/-- Change the state of a leader's machine, with what every change brings: the STATE_CHANGE leaf (R572), the end of a cap
(R218), QAGE (R244), the bus qualify timer (R192), and the die's engines. -/
def Body.enter (e : Env) (n : Nat) (st : ChState) (reason : Nat) (b : Body) : Body :=
  let old := (b.ch n).state
  let oldEff := (b.ch n).eff
  let b := if old = st then b else b.raiseCh n .stateChange
  let b := if oldEff = .ramp && st ≠ .ramp && (st ≠ .held || reason = 0x33) then b.dropMeas n else b
  let b := if oldEff.running && !st.running && st ≠ .held then b.endCap n else b
  let b := b.onCh n fun c =>
    { c with
      state := st, reason := reason
      qageHeld := if st = .refused then (e.now - c.queuedT) / 1000000 else if st = .held then c.qageHeld else 0
      queuedT := if st = .queued && old ≠ .queued then e.now else c.queuedT
      eligible := if st = .shed || st = .held then c.eligible else false
      partialRamp := if st.running || st = .held then c.partialRamp else false
      prior := if st = .held then c.prior else .empty }
  let b := b.tell e (dieOf n) (.state n oldEff st)
  if st.driven && old.driven then b
  else b.onCh n fun c => { c with busOut := if st.driven then b.excursion e n else none, busQual := false }

/-- Set the reason only. -/
def Body.setReason (n reason : Nat) (b : Body) : Body := b.onCh n fun c => { c with reason := reason }

/-! ### Trips (chapter 05) -/

/-- The trip policy in force for a reason (R193 to R195, R205): 0 retry, 1 latch, 2 event only. -/
def Body.policy (b : Body) (n reason : Nat) : Nat :=
  let lim (x : Nat) := if x = 0 then 0 else 1
  let ev (x : Nat) := if x = 3 then 1 else x
  match reason with
  | 0x10 => lim (b.rd .chTrippolHardtrip n)
  | 0x11 => lim (b.rd .chTrippolIlimTimeout n)
  | 0x12 => lim (b.rd .chTrippolSoaEnergy n)
  | 0x13 => lim (b.rd .chTrippolTjModel n)
  | 0x14 => lim (b.rd .chTrippolTjMeasured n)
  | 0x15 => lim (b.rd .chTrippolFollow n)
  | 0x16 => 1
  | 0x19 => ev (b.rd .chTrippolOpenWire n)
  | 0x1A => ev (b.rd .chTrippolBusOver n)
  | 0x1B => ev (b.rd .chTrippolBusUnder n)
  | _ => 1

/-- The states in which a reason trips (R191). -/
def tripsIn (reason : Nat) (st : ChState) : Bool :=
  match reason with
  | 0x11 => st = .limit
  | 0x12 => st = .ramp || st = .limit
  | 0x15 => st = .ramp
  | 0x14 | 0x19 => st.driven || st = .seating || st = .queued
  | _ => st.driven

/-- RETRY_MIN_INTERVAL of the channel's fuse class, in 10 ms, at most 600 s (R197, R493). -/
def Body.retryMin (e : Env) (b : Body) (n : Nat) : Nat :=
  min 60000 (bits (e.fuse (16 + 4 * b.rd .chClassFclass n + 1)) 15 0)

/-- T_RETRY in ns: min(600 s, RETRY_INTERVAL × B^d) (R197). -/
def Body.retryNs (b : Body) (n : Nat) : Nat :=
  let base := match b.rd .chRetryBackoff n with | 0 => 1 | 1 => 2 | _ => 4
  min 600000000000 (b.rd .chRetryRetryInterval n * 10000000 * base ^ (b.ch n).darn)


/-- LAST_TRIP and TRIPTIME (R83, R209). -/
def Body.writeTrip (e : Env) (n reason t : Nat) (b : Body) : Body :=
  (((b.onCh n fun c => { c with tripE := t }).wr .chLastTripTripReason n reason).wr .chLastTripStateAtTrip n (b.ch n).state.code).wr .chTriptimeTime n (e.countAt t)

/-- A TRIP event that finds a state in which its reason trips (R65, R189, R196 to R199, R202). -/
def Body.applyTrip (e : Env) (n reason t : Nat) (b : Body) : Body :=
  let st := (b.ch n).state
  if !tripsIn reason st then b
  else
    let pol := if reason = 0x19 && b.policy n reason = 2 then 0 else b.policy n reason
    let dmax := b.rd .chRetryDarnMax n
    let latching := pol = 1 || decide (dmax ≤ (b.ch n).darn)
    let shown := if pol = 1 then reason else if latching then 0x31 else reason
    let new := if latching then ChState.latched else ChState.cooling
    let b := (b.writeTrip e n reason t).tell e (dieOf n) (.trip n)
    let b := (b.bump .chTripcntTrips n).raiseCh n .trip
    let b := if latching then (b.bump .chTripcntLatches n).raiseCh n .latch else b
    let tr := b.retryNs n
    let bus := reason = 0x1A || reason = 0x1B
    let paused := bus && !b.busReturned n
    let b := b.enter e n new shown
    let b := b.onCh n fun c =>
      { c with
        retryEnd := if latching || paused then none else some (t + tr)
        retryLeft := if !latching && paused then some tr else none
        retryReady := false
        busTrip := bus
        holdoffEnd := t + b.retryMin e n * 10000000 }
    b.event (e.countAt t) 0x0001 n reason st.code (new.code * 256 + (b.ch n).darn)

/-- FET_SHORT (R65, R164, R165). -/
def Body.applyShort (e : Env) (n t : Nat) (b : Body) : Body :=
  match (b.ch n).state with
  | .unconfigured | .bench | .fetFault => b
  | st =>
    let b := (b.writeTrip e n 0x17 t).raiseCh n .fetShort
    let b := b.enter e n .fetFault 0x17
    let b := b.onCh n fun c => { c with retryEnd := none, retryLeft := none, retryReady := false }
    let b := b.forEach (b.membersOf n) fun m b =>
      (b.onEng m fun g => { g with tripPulse := true }).capTriggerAll e (dieOf m) 1 (m % 16)
    b.event (e.countAt t) 0x0002 n st.code 0 0

/-! ### Admission (R71, R220 to R223) -/

/-- The thermal restart condition of one channel: the pole sum is at or below RESTART_RISE (R157). -/
def Body.cool (b : Body) (n : Nat) : Bool :=
  decide ((b.en n).poles.foldl (fun a x => a + x) (0 : Int) ≤ (b.cd .chAmbcfgRestartRise n * 2 ^ 35 : Nat))

/-- The restart conditions of a seated channel (R71). -/
def Body.restartOk (e : Env) (n : Nat) (b : Body) : Bool :=
  decide ((b.ch n).holdoffEnd ≤ e.now) && (b.membersOf n).all b.cool &&
    !bitAt (b.rd .modPendingMask (n / 32)) (n % 32)

/-- A yield: BYIELD, its leaf and its record (R211). -/
def Body.yieldTo (e : Env) (n broken favoured : Nat) (new : ChState) (b : Body) : Body :=
  (((b.wr .chByieldGbroken n broken).wr .chByieldFavoured n favoured).raiseCh n .yield).event e.count 0x0007 n
    broken favoured new.code

/-- The channel leaves the queue for REFUSED (R222, R223). -/
def Body.refuse (e : Env) (n reason : Nat) (b : Body) : Body :=
  let age := (e.now - (b.ch n).queuedT) / 1000000
  let b := (b.enter e n .refused reason).raiseCh n .refused
  let b := if reason = 0x25 then b.yieldTo e n 3 0xFE .refused else b
  b.event e.count 0x0008 n reason age 0

/-- A hold-up sequence is running (R230). -/
def Body.holdup (b : Body) : Bool := b.flag .budgetHustatActive

/-- A shed (R65, R217, R229, R231); one of a hold-up or a freeze that is over, applied at a release, leaves the channel eligible
(R235). -/
def Body.shed (e : Env) (n reason : Nat) (b : Body) : Body :=
  let past := (reason = 0x24 && !b.holdup) || (reason = 0x26 && !b.flag .healthStatFreeze)
  (((b.endCap n).enter e n .shed reason).onCh n fun c => { c with eligible := c.eligible || past }).raiseCh n .shed

/-- Enter the queue (R220, R222, R225, R231). DESIGN CHOICE (log 209): a channel that leaves it in the same cycle forms no plan. -/
def Body.enqueue (e : Env) (n : Nat) (b : Body) : Body :=
  let b := b.enter e n .queued 0x20
  if b.holdup && (b.bud.hu.shedClasses.contains (b.pclass n)) then b.shed e n 0x24
  else match b.refusal n with
    | some r => b.refuse e n r
    | none => b.formPlan e

/-- SEATING with the restart conditions evaluated at once: QUEUED, or SEATING with RESTART_WAIT (R65). -/
def Body.trySeat (e : Env) (n : Nat) (b : Body) : Body :=
  if b.restartOk e n then b.enqueue e n else b.enter e n .seating 0x36

/-- SEAT_TIME is stamped with the instant of the event (R65, R89). -/
def Body.stampSeat (e : Env) (n t : Nat) (b : Body) : Body := 
  b.onCh n fun c => { c with seatTime := e.countAt t, seatE := t }

/-- The sample that a GRANT has waited for has come: the ramp of leader n starts from it (R291, R296). -/
def Body.startDue (n : Nat) (w : RampWait) (b : Body) : Body :=
  if (b.en n).due = w && !(b.en n).tripLatch && (b.ch n).state = .ramp && b.leadOf n = n then
    b.forEach (b.membersOf n) fun m b => b.onEng m Eng.startRamp
  else b

/-- The feed-forward current of R112 for capacitance c (10 µF units): round(C × RATE / I_FS × 32 768), saturated. -/
def Body.ffOf (b : Body) (n c : Nat) : Nat :=
  min 0x7FFF (fracRound (c * b.rd .chRampctlRate n * (b.ifs n).2 * 32768) ((b.ifs n).1 * 100000))

/-- C_MEAS where HUB uses it at a GRANT in place of C_EST (R113). -/
def Body.learns (b : Body) (n : Nat) : Option Nat :=
  let ce := b.rd .chFfcfgCEst n
  let cm := b.rd .chFfstatCMeas n
  if b.flag .chLoopcfgClearn n && decide (cm ≠ 0) && decide (ce ≠ 0) && decide (ce ≤ 2 * cm) && decide (cm ≤ 2 * ce)
  then some cm else none

/-- The capacitance that FF_I uses: that of the last GRANT (R112, R113). -/
def Body.capacitance (b : Body) (n : Nat) : Nat := (b.ch n).learnt.getD (b.rd .chFfcfgCEst n)

/-- GRANT (R65, R73, R161, R218, R225, R226): the caller has removed the slot. -/
def Body.grant (e : Env) (n : Nat) (b : Body) : Body :=
  let b := (b.endCap n).onCh n fun c => { c with learnt := b.learns n }
  let b := b.fwd n [(.chFfstatFfI, b.ffOf n (b.capacitance n))]
  let b := (b.enter e n .ramp 0).tell e (dieOf n) (.grant n)
  let b := b.onCh n fun c => { c with admitT := e.now, partialRamp := false }
  let b := b.wr .budgetLastrelTime 0 e.count
  { b with bud := { b.bud with tLast := some e.now, cutsFor := none } }

/-! ### The transition table (R65) -/

/-- The gang is seated: every member's seat is qualified (R62). -/
def Body.seated (b : Body) (n : Nat) : Bool := (b.membersOf n).all fun m => (b.ch m).seated

/-- A debounce runs on some member. -/
def Body.debouncing (b : Body) (n : Nat) : Bool := (b.membersOf n).any fun m => (b.ch m).debEnd.isSome

/-- The absence may still prove a bounce: every member's seat is qualified or debounces, each on an assertion before t, the
expiry (R60). -/
def Body.aqOpen (b : Body) (n t : Nat) : Bool :=
  (b.membersOf n).all fun m => ((b.ch m).seated || (b.ch m).debEnd.isSome) && decide ((b.ch m).assertT < t)

/-- A short is taken as detected for a toggle (R166). -/
def Body.shortSeen (b : Body) (n : Nat) : Bool :=
  (b.membersOf n).any fun m =>
    (b.en m).shortSince.isSome || voltGe (b.en m).out (b.cd .chFshortFsVout m) 500

/-- Where EN_1 and a clearing toggle lead (R65). -/
def Body.enOn (e : Env) (n : Nat) (b : Body) : Body :=
  if b.seated n then b.trySeat e n
  else if b.debouncing n then b.enter e n .seating 0
  else b.enter e n .empty 0

/-- The latch or FET_FAULT of a channel is cleared: the record of R435 (cause 1 toggle, 2 qualified absence, 3 IMAGE_OK). -/
def Body.cleared (e : Env) (n cause : Nat) (b : Body) : Body := b.event e.count 0x0003 n cause 0 0

/-- An absence is decided as qualified (R60, R65: AQ_EXPIRE). DESIGN CHOICE (log 171): where the decision falls in SEATING, which a
re-assertion after the expiry has entered from EMPTY, Darn is cleared as in EMPTY. -/
def Body.aqQualified (e : Env) (n : Nat) (b : Body) : Body :=
  let b := b.onCh n fun c => { c with absStart := none, aqEnd := none }
  match (b.ch n).state with
  | .empty | .off | .seating => b.onCh n fun c => { c with darn := 0 }
  | .cooling =>
    (b.enter e n .empty 0).onCh n fun c => { c with darn := 0, retryEnd := none, retryLeft := none, retryReady := false }
  | .latched =>
    ((b.enter e n .empty 0).onCh n fun c => { c with darn := 0, retryEnd := none, retryLeft := none }).cleared e n 2
  | .fetFault => b.setReason n 0x17
  | _ => b

/-- The AQ decision at a SEAT_QUAL: the absence is a bounce when the re-assertion came before the expiry (R60). -/
def Body.aqAtQual (e : Env) (n : Nat) (b : Body) : Body :=
  match (b.ch n).aqEnd with
  | none => b
  | some t =>
    let assertT := (b.membersOf n).foldl (fun a m => max a (b.ch m).assertT) 0
    if assertT < t then b.onCh n fun c => { c with absStart := none, aqEnd := none }
    else b.aqQualified e n

/-- The AQ timer starts at the instant of a seat loss, with the AQ_MS in force (R60). -/
def Body.startAq (n t : Nat) (b : Body) : Body :=
  b.onCh n fun c => { c with absStart := some t, aqEnd := some (t + msNs (b.rd .chSeatcfgAqMs n)) }

/-- The seat filters of channel n stop, and the check of R164 has not begun. -/
def Body.stopSeat (n : Nat) (b : Body) : Body :=
  (b.onCh n fun c => { c with debEnd := none, lossEnd := none }).onEng n fun g =>
    { g with fsFrom := none, outMin := 32767, shortSince := none }

/-- Events recorded for R68 at BENCH_IN. -/
def Body.benchIn (e : Env) (n : Nat) (b : Body) : Body :=
  let c := b.ch n
  let eff := c.eff
  let r : Option BenchRec :=
    if eff = .latched || eff = .fetFault then
      some ⟨eff, if c.state = .held then c.priorReason else c.reason, b.rd .chLastTripTripReason n,
        b.rd .chLastTripStateAtTrip n, c.darn⟩
    else c.benchRec
  let b := (b.enter e n .bench 0).forEach (b.membersOf n) fun m b => b.stopSeat m
  b.onCh n fun c => { c with benchRec := r, heldEvs := [], holds := [], retryEnd := none, retryLeft := none, retryReady := false,
                             aqEnd := none, absStart := none, holdoffEnd := 0 }

/-- The timers of a state that IMAGE_OK restores: LATCHED starts its holdoff, FET_FAULT its check of R164 (R68). -/
def Body.restored (e : Env) (n : Nat) (st : ChState) (b : Body) : Body :=
  if st = .latched then b.onCh n fun c => { c with holdoffEnd := e.now + b.retryMin e n * 10000000 }
  else b.forEach (b.membersOf n) fun m b => b.onEng m fun g =>
    { g with fsFrom := some (e.now + msNs (b.cd .chFshortFsSettle m)), outMin := 32767, shortSince := none }

/-- IMAGE_OK (R65, R68). DESIGN CHOICE (log 172): in a gang the raw seat of one member is enough for SEATING;
(log 210): a restored LATCHED is no new entry to LATCHED for LATCHES. -/
def Body.imageOk (e : Env) (n : Nat) (b : Body) : Body :=
  if (b.ch n).state ≠ .unconfigured then b
  else
    let raw := (b.membersOf n).any fun m => (b.ch m).seatRaw
    let b := if (b.ch n).kept && (b.ch n).benchRec.isNone then b.cleared e n 3 else b
    let b := b.onCh n fun c => { c with kept := false }
    let b := if b.rd .chCtrlEn n = 0 then b.onCh n fun c => { c with enZeroT := e.now } else b
    let b := b.forEach (b.membersOf n) fun m b =>
      (b.stopSeat m).onCh m fun c =>
        { c with seated := false, assertT := e.now
                 debEnd := if c.seatRaw then some (e.now + msNs (b.rd .chSeatcfgDebounceMs m)) else none }
    match (b.ch n).benchRec with
    | some r =>
      let b := (b.wr .chLastTripTripReason n r.lastTrip).wr .chLastTripStateAtTrip n r.stateAtTrip
      let b := (b.enter e n r.state r.reason).restored e n r.state
      b.onCh n fun c => { c with darn := r.darn, benchRec := none }
    | none =>
      let b := b.onCh n fun c => { c with darn := 0 }
      if b.rd .chCtrlEn n = 0 then b.enter e n .off 0x30
      else if raw then b.enter e n .seating 0 else b.enter e n .empty 0

/-- One event on a machine that is not held (R65). DESIGN CHOICE (log 171): a SEAT_QUAL in COOLING or LATCHED whose absence is
decided as qualified leads to EMPTY and, the seat being qualified, on to QUEUED or SEATING in the same event. -/
def Body.applyEv (e : Env) (n : Nat) (ev : Ev) (t : Nat) (b : Body) : Body :=
  let st := (b.ch n).state
  match ev with
  | .imageOk => b.imageOk e n
  | .imageNone => if st = .unconfigured then b.setReason n 0 else b
  | .seatAssert => if st = .empty then b.enter e n .seating 0 else b
  | .seatDrop => if st = .seating && !b.seated n then b.enter e n .empty 0 else b
  | .seatQual =>
    match st with
    | .seating => let b := (b.aqAtQual e n).stampSeat e n t; b.trySeat e n
    | .cooling =>
      let b := (b.aqAtQual e n).stampSeat e n t
      if (b.ch n).retryReady && (b.ch n).state = .cooling && b.restartOk e n then
        (b.enqueue e n).onCh n fun c => { c with retryReady := false }
      else if (b.ch n).state = .empty then b.trySeat e n else b
    | .latched => let b := (b.aqAtQual e n).stampSeat e n t; if (b.ch n).state = .empty then b.trySeat e n else b
    | .off | .fetFault => (b.aqAtQual e n).stampSeat e n t
    | .refused => ((b.aqAtQual e n).stampSeat e n t).setReason n 0x23
    | _ => b
  | .seatLoss =>
    match st with
    | .seating | .queued | .ramp | .on | .limit | .capped | .shed | .refused =>
      (b.enter e n .empty 0).startAq n t
    | .cooling | .latched | .off | .fetFault => b.startAq n t
    | _ => b
  | .aqExpire => b.aqQualified e n
  | .restartOk =>
    if st = .seating && (b.ch n).reason = 0x36 then b.enqueue e n
    else if st = .cooling && (b.ch n).retryReady && b.seated n then
      (b.enqueue e n).onCh n fun c => { c with retryReady := false }
    else b
  | .grant => if st = .queued then b.grant e n else b
  | .refuse r => if st = .queued then b.refuse e n r else b
  | .requeue =>
    if st = .refused && b.seated n then (b.stampSeat e n t).enqueue e n else b
  | .rampDone => if st = .ramp then b.enter e n .on 0 else b
  | .targetBelow =>
    if st = .ramp then (b.enter e n .on 0).onCh n fun c => { c with partialRamp := true } else b
  | .targetAbove =>
    if st = .on then (b.enter e n .ramp 0).onCh n fun c => { c with partialRamp := false } else b
  | .limitWin => if st = .on || st = .capped then b.enter e n .limit 0 else b
  | .capWin => if st = .on || st = .limit then b.enter e n .capped (if (b.ch n).capGuar then 0x25 else 0x21) else b
  | .noWin => if st = .limit || st = .capped then b.enter e n .on 0 else b
  | .shedCmd r =>
    if st.driven then b.shed e n r
    else if st = .queued && r = 0x24 then b.shed e n r else b
  | .readmit => if st = .shed && b.seated n then b.enqueue e n else b
  | .trip r => b.applyTrip e n r t
  | .fetShort => b.applyShort e n t
  | .retryExpire =>
    if st = .cooling then
      let b := b.onCh n fun c => { c with darn := min 15 (c.darn + 1), retryEnd := none, retryLeft := none }
      if b.seated n && b.restartOk e n then b.enqueue e n
      else b.onCh n fun c => { c with retryReady := true }
    else b
  | .en0 =>
    match st with
    | .empty | .seating | .queued | .ramp | .on | .limit | .capped | .cooling | .shed | .refused =>
      (b.enter e n .off 0x30).onCh n fun c => { c with retryEnd := none, retryLeft := none, retryReady := false }
    | _ => b
  | .en1 toggle =>
    match st with
    | .off => (if toggle then b.onCh n fun c => { c with darn := 0 } else b).enOn e n
    | .latched =>
      if toggle then ((b.onCh n fun c => { c with darn := 0 }).enOn e n).cleared e n 1 else b
    | .fetFault =>
      if toggle then
        let b := b.onCh n fun c => { c with darn := 0 }
        if b.shortSeen n then b else (b.enOn e n).cleared e n 1
      else b
    | _ => b
  | .hold r =>
    match st with
    | .unconfigured | .bench => b
    | _ =>
      let rs := (b.ch n).reason
      let b := b.onCh n fun c => { c with prior := st, priorReason := rs, holds := [r] }
      b.enter e n .held r
  | .release _ => b
  | .benchIn => b.benchIn e n
  | .benchOut =>
    if st = .bench then b.enter e n .unconfigured 0 else b

/-- RELEASE: back to PRIOR_STATE with its reason, then the recorded events in their order (R65, R69). -/
def Body.releaseHold (e : Env) (n : Nat) (b : Body) : Body :=
  let c := b.ch n
  if c.state ≠ .held then b
  else
    let b := b.onCh n fun c =>
      { c with state := c.prior, reason := c.priorReason, prior := .empty, heldEvs := [], holds := []
               busOut := if c.prior.driven then b.excursion e n else none, busQual := false }
    let b := (b.raiseCh n .stateChange).tell e (dieOf n) (.release n c.prior)
    let b := if c.prior = .queued then b.formPlan e else b
    c.heldEvs.foldl (fun b ev => b.applyEv e n ev.1 ev.2) b

/-- The release of one hold: the channel leaves HELD when no other hold keeps it there (R69). -/
def Body.releaseOne (e : Env) (n r : Nat) (b : Body) : Body :=
  let rest := (b.ch n).holds.filter (· ≠ r)
  match rest with
  | [] => b.releaseHold e n
  | h :: _ => (b.onCh n fun c => { c with holds := rest }).setReason n h

/-- The place of an event in the order of R70; latching tells the class of a trip reason. -/
def Ev.place (latching : Nat → Bool) : Ev → Nat
  | .fetShort => 1
  | .trip r => if r = 0x11 then 3 else if latching r then 2 else 3
  | .seatLoss | .seatDrop => 4
  | .hold _ | .release _ => 5
  | .benchIn | .benchOut => 6
  | .en0 | .en1 _ => 7
  | .shedCmd _ | .readmit => 8
  | .limitWin | .capWin | .noWin => 9
  | .rampDone | .targetBelow | .targetAbove => 10
  | .refuse _ | .grant => 11
  | .aqExpire | .retryExpire | .restartOk => 12
  | .seatAssert | .seatQual => 13
  | .requeue | .imageOk | .imageNone => 14

/-- Record an event of a held channel in timestamp order, at equal timestamps in the order of R70 (R69). -/
def insertEv (place : Ev → Nat) (x : Ev × Nat) : List (Ev × Nat) → List (Ev × Nat)
  | [] => [x]
  | y :: ys =>
    if x.2 < y.2 || (x.2 = y.2 && decide (place x.1 < place y.1)) then x :: y :: ys else y :: insertEv place x ys

/-- An event that ends HELD by itself, a FET_SHORT: it acts, and the recorded events follow it in their order (DESIGN CHOICE, log
171: no release comes to a channel that has left HELD). -/
def Body.breakHold (e : Env) (n : Nat) (ev : Ev) (t : Nat) (b : Body) : Body :=
  let evs := (b.ch n).heldEvs
  let b := (b.applyEv e n ev t).onCh n fun c => { c with heldEvs := [], holds := [] }
  evs.foldl (fun b x => b.applyEv e n x.1 x.2) b

/-- An event reaches the machine of channel n's gang (R62, R65, R69): a held machine records it, but for a FET_SHORT, a
bench entry, a further hold and the release. A module that does not orchestrate discards it (R237); a STANDBY module passes a hard
trip on to the ACTIVE one (R460). -/
def Body.deliver (e : Env) (n : Nat) (ev : Ev) (t : Nat) (b : Body) : Body :=
  let l := b.leadOf n
  if !b.orch then (if b.role = .standby && ev = .trip 0x10 then b.sendBluli 2 [l, t] else b)
  else if (b.ch l).state = .held then
    match ev with
    | .release r => b.releaseOne e l r
    | .hold r => (b.onCh l fun c => { c with holds := r :: c.holds.filter (· ≠ r) }).setReason l r
    | .fetShort => b.breakHold e l ev t
    | .benchIn => b.applyEv e l ev t
    | ev => b.onCh l fun c => { c with heldEvs := insertEv (Ev.place fun r => b.policy l r = 1) (ev, t) c.heldEvs }
  else b.applyEv e l ev t

/-- A status frame. -/
def UpMsg.isEvent : UpMsg → Bool
  | .event _ _ _ => true
  | .readReply _ _ _ | .ack => false

/-- The frame of a message from a die: KIND and content (R28). -/
def UpMsg.frame : UpMsg → Nat × List Nat
  | .event n _ t => (5, [n, t])
  | .ack => (4, [])
  | .readReply _ a v => (if a < 0x100000 then 3 else 9, [a, v])

/-- A die reports an event: it reaches HUB at once while the link is up and no earlier frame waits, and waits in the die otherwise
(R30, R38, R69). -/
def Body.report (e : Env) (n : Nat) (ev : Ev) (t : Nat) (b : Body) : Body :=
  let k := dieOf n
  if (b.fe k).joined && !b.hubDown && (b.fe k).up.isEmpty then (b.framed k true [(UpMsg.event n ev t).frame]).deliver e n ev t
  else b.onDie (dieOf n) fun d => { d with up := d.up ++ [.event n ev t] }

/-! ### What follows every command -/

/-- A pause ranked above bus integrity holds the queue: thermal freeze, brace, hold-up (R243). -/
def Body.higherPause (b : Body) : Bool := b.flag .healthStatFreeze || b.flag .healthStatBrace || b.holdup

/-- Each queued channel that shows WAIT 4 records one yield in the pause, in ascending channel number (R229, R236). -/
def Body.pauseYields (e : Env) (b : Body) : Body :=
  if b.bud.busLow.isNone || b.higherPause || !b.orch then b
  else b.forEach ((List.range 128).filter fun n => b.queue.contains n && !(b.ch n).pauseYield) fun n b =>
    (b.onCh n fun c => { c with pauseYield := true }).yieldTo e n 3 0xFF .queued

/-- Every FE die has joined. -/
def Body.allJoined (b : Body) : Bool := (List.range 8).all fun k => (b.fe k).joined

/-- A calibration session runs, up to its boundary B: it keeps the module from taking a Seam (R354, R462). -/
def Body.sessRuns (b : Body) : Bool := b.mtr.sess.isSome

/-- Why this module refuses a planned Seam of a cause, by TWIN.STAT.REFUSE; 0 for no reason (R462). -/
def Body.seamRefusal (b : Body) (cause : Nat) : Nat :=
  if !b.flag .twinStatReady then 1
  else if 2 ≤ b.health.lvl then 2
  else if !b.allJoined then 3
  else if cause = 1 && b.flag .twinCtrlLock then 4
  else if b.sessRuns then 5
  else 0

/-- READY of a STANDBY module (R452, R470, R578): a complete mirror, and no refusal condition but LOCK. -/
def Body.mirrorReady (b : Body) : Bool :=
  b.role = .standby && b.twin.synced && !b.twin.mismatch && decide (b.twin.snaps.length = 128) && decide (b.health.lvl < 2) &&
    b.allJoined && !b.sessRuns

/-- Form READY; the module raises PARTNER_JOINED as it becomes ready (R452, R470). -/
def Body.formReady (b : Body) : Body :=
  let b' := b.wr .twinStatReady 0 (bit b.mirrorReady)
  if b.mirrorReady && !b.flag .twinStatReady then b'.raise (7, 2) else b'

/-- A gang is at a safe point for its gain table: EMPTY, ON with no limiting loop winning, LATCHED or OFF (R117). -/
def Body.gainSafe (b : Body) (l : Nat) : Bool :=
  match (b.ch l).state with
  | .empty | .latched | .off => true
  | .on => decide ((b.en l).win < 2)
  | _ => false

/-- Forward the gain table of channel l whole (R117). -/
def Body.sendGain (l : Nat) (b : Body) : Body :=
  ({ b with gainDue := b.gainDue.filter (· ≠ l) } : Body).sendDown (dieOf l) (.fields true ((List.range 32).flatMap fun i =>
    [(fkey .tablesGainKp (32 * l + i), b.rd .tablesGainKp (32 * l + i)),
     (fkey .tablesGainKi (32 * l + i), b.rd .tablesGainKi (32 * l + i))]))

/-- Forward the gain tables that wait and whose gang is at a safe point (R117). -/
def Body.sendGains (b : Body) : Body :=
  (b.gainDue.filter fun l => b.gainSafe (b.leadOf l)).foldl (fun b l => b.sendGain l) b

/-- Change host port p. -/
def Body.onHp (p : Nat) (f : HostPort → HostPort) (b : Body) : Body :=
  { b with hp := b.hp.set (p % 2) (f (b.hp.get ⟨p % 2, Nat.mod_lt _ (by decide)⟩)) (Nat.mod_lt _ (by decide)) }

/-- Host port p. -/
def Body.port (b : Body) (p : Nat) : HostPort := b.hp.get ⟨p % 2, Nat.mod_lt _ (by decide)⟩

/-- HOST.ATTNCFG enables port p. -/
def Body.attnOn (b : Body) (p : Nat) : Bool := b.flag (if p = 0 then .hostAttncfgEn0 else .hostAttncfgEn1)

/-- ALERT_N takes a level: it counts its assertions, and the attention of each port follows (R554, R566). -/
def Body.drivePin (low : Bool) (b : Body) : Body :=
  let b :=
    if low && !b.alertLow then
      [0, 1].foldl (fun b p => if b.attnOn p then (b.wr .hpStatAttnPend p 1).onHp p fun _ => ⟨0, none⟩ else b) (b.bump .modAlcntAsserts)
    else if !low && b.alertLow then [0, 1].foldl (fun b p => b.wr .hpStatAttnPend p 0) b
    else b
  { b with alertLow := low }

/-- Set the level leaves, from module start on, and form the pin (R564 to R567). -/
def Body.settle (e : Env) (b : Body) : Body :=
  let b := b.gather.formReady.sendGains
  if b.hubDown then b.drivePin false
  else if b.doze then b
  else
    let b := (if b.rd .modBootPhase = 0 then [] else b.levels e).foldl (fun b l =>
      if l.2 = 0 then b else b.wr .alertLeaf l.1 (orBits (b.rd .alertLeaf l.1) l.2)) b
    let b := (regEntries b.regs .chStatusClamped).foldl (fun b l => b.raiseCh1 l.1 .clamp) b
    let b := b.pauseYields e
    b.drivePin (b.wantsAlert && !b.alertHold)

/-- Run a body effect and settle the tree: how every command changes the body. -/
def State.onBody (f : Env → Body → Body) (s : State) : State :=
  { s with body := (f s.env s.body).settle s.env }

/-- What HUB does: nothing while it is held in reset (R44). -/
def State.onHub (f : Env → Body → Body) (s : State) : State := s.onBody fun e b => if b.hubDown then b else f e b

end Sys2Proof.Machine
end

