-- ==== Sys2Proof/Machine/Lifecycle.lean ====
section
/-!
DEFINITION. The lifecycle commands (chapter 02): the seat filters, absence, the host's enable and requeue, and the events
by which a channel moves between RAMP, ON, LIMIT and CAPPED, is readmitted or retries.
-/

namespace Sys2Proof.Machine

open Sys2Proof

/-! ### Trips that a die detects (R156, R162, R163) -/

/-- Full-scale ratio of the range in force to the ±18.75 mV range. -/
def Body.rangeUp (b : Body) (n : Nat) : Nat := b.vfsNv n / 18750000

/-- PSCALE of the ±18.75 mV range as a fraction in watts (R96). -/
def Body.pscaleFine (b : Body) (n : Nat) : Nat × Nat := (187500000000, b.rsh n)

/-- Energy of an episode beyond E_SOA of the leader: Σp × PSCALE × 800 ns > E_SOA × 10 mJ (R156, R169). -/
def Body.overEsoa (b : Body) (n l : Nat) : Bool :=
  decide (b.cd .chEsoaESoa l * 32768 * (b.pscaleFine n).2 * 100000 < (b.en n).episode * (b.pscaleFine n).1 * 8)

/-- E_EPI in mJ, saturating (R182): Σp × PSCALE × 800 ns. -/
def Body.epiMj (b : Body) (n : Nat) : Nat :=
  min 0xFFFFFFFF ((b.en n).episode * (b.pscaleFine n).1 * 8 / (32768 * (b.pscaleFine n).2 * 10000))

/-- The stall timer of the engines g of member m counts in this cycle: the demand sources and the gate has not come up (R163). -/
def Eng.stallCounts (b : Body) (m : Nat) (g : Eng) : Bool :=
  g.gate = .driven && decide (0 < g.dsel) && decide (g.vgs < b.cd .chGstallGsExpect m)

/-- The stall timer of member m counts in its die. -/
def Body.stallCounts (b : Body) (m : Nat) : Bool := (b.en m).stallCounts b m

/-- The stall timer of member m has reached GS_TIME (R163). -/
def Body.stallDue (b : Body) (m : Nat) : Bool :=
  (b.en m).gate = .driven && decide (b.cd .chGstallGsTime m * 10000 ≤ (b.en m).stallNs)

/-- The reason that the die reports when a condition completes: an earlier one in the order of R162 that holds as well comes
first. -/
def Body.firstTrip (b : Body) (l reason : Nat) : Nat :=
  if reason ≠ 0x10 && (b.membersOf l).any b.stallDue then 0x16
  else if (reason = 0x15 || reason = 0x11) && (b.membersOf l).any fun m => (b.en m).epiRun && b.overEsoa m l then 0x12
  else reason

/-- A die trip (R162): the latch of the gang is set and one TRIP is reported, unless the latch is set already. -/
def Body.dieTrip (e : Env) (n reason : Nat) (b : Body) : Body :=
  let l := b.leadOf n
  if (b.en n).tripLatch then b else (b.latchDie e l).report e l (.trip (b.firstTrip l reason)) e.now

/-! ### The seat -/

/-- The seat filters of channel n run: the channel is configured and its die is not in reset (R65, R69). -/
def Body.seatLive (b : Body) (n : Nat) : Bool :=
  (match (b.ch (b.leadOf n)).state with
    | .unconfigured | .bench => false
    | _ => true) && !b.dieOff (dieOf n)

/-- OUT_MIN restarts (R164): the next sample sets it. -/
def Body.freshOutMin (n : Nat) (b : Body) : Body := b.onEng n fun g => { g with outMin := 32767 }

/-- The raw seat asserts (R58 to R60). -/
def Body.seatAssert (e : Env) (n : Nat) (b : Body) : Body :=
  let c := b.ch n
  let b := b.onCh n fun c => { c with seatRaw := true, lossEnd := none }
  if c.seatRaw || c.seated || c.debEnd.isSome || !b.seatLive n then b
  else
    ((b.freshOutMin n).onCh n fun c =>
      { c with debEnd := some (e.now + msNs (b.cd .chSeatcfgDebounceMs n)), assertT := e.now }).report e n
      .seatAssert e.now

/-- The raw seat drops during a debounce (R60, R65). -/
def Body.seatDrop (e : Env) (n : Nat) (b : Body) : Body :=
  if (b.ch n).debEnd.isNone then b
  else
    let l := b.leadOf n
    let b := (b.onCh n fun c => { c with seatRaw := false, debEnd := none }).report e n .seatDrop e.now
    match (b.ch l).aqEnd with
    | some t => if t ≤ e.now && !b.aqOpen l t then
        (b.onCh l fun c => { c with aqEnd := none }).deliver e l .aqExpire e.now else b
    | none => b

/-- The debounce of channel n completes (R58, R62). -/
def Body.seatQual (e : Env) (n : Nat) (b : Body) : Body :=
  let b := b.onCh n fun c => { c with seated := true, debEnd := none }
  if b.seated (b.leadOf n) then b.report e n .seatQual e.now else b

/-- SEAT_QUAL (R58): at the end of the running debounce. -/
def execSeatQual (n : ChIx) (s : State) : Out :=
  match (s.body.ch n).debEnd with
  | some t => if (s.body.ch n).seatRaw then .next ((s.goTo t).onBody fun e b => b.seatQual e n) else .next s
  | none => .next s

/-- The raw input of a seat deasserts: the loss filter of a qualified seat starts with the LOSS_US in force (R58, R59). -/
def Body.seatDeassert (e : Env) (n : Nat) (b : Body) : Body :=
  let c := b.ch n
  if !c.seatRaw || c.debEnd.isSome then b
  else b.onCh n fun c => { c with seatRaw := false
                                  lossEnd := if c.seated && b.seatLive n then some (e.now + usNs (b.cd .chSeatcfgLossUs n)) else none }

/-- The loss filter of channel n completes (R58, R62); in a freeze its gate goes to source at once (R580). -/
def Body.seatLost (e : Env) (n : Nat) (b : Body) : Body :=
  let was := b.seated (b.leadOf n)
  let b := (b.onCh n fun c => { c with seated := false, lossEnd := none }).freshOutMin n
  let b := b.forEach (b.membersOf (b.leadOf n)) fun m b =>
    b.onEng m fun g => if g.gate = .full then { g with gate := g.offGate } else g
  if was then b.report e n .seatLoss e.now else b

/-- SEAT_LOSS (R58): at the end of the running loss filter. -/
def execSeatLoss (n : ChIx) (s : State) : Out :=
  match (s.body.ch n).lossEnd with
  | some t => .next ((s.goTo t).onBody fun e b => b.seatLost e n)
  | none => .next s

/-- AQ_EXPIRE (R60): the timer has expired; the decision waits while a debounce that began before the expiry can still end the
absence. DESIGN CHOICE (log 171): in a gang it waits only while every member is qualified or debounces. -/
def execAqExpire (n : ChIx) (s : State) : Out :=
  let l := s.body.leadOf n
  match (s.body.ch l).aqEnd with
  | some t =>
    .next ((s.goTo t).onBody fun e b => if b.aqOpen l t then b
      else (b.onCh l fun c => { c with aqEnd := none }).deliver e l .aqExpire e.now)
  | none => .next s

/-- A waiting channel meets its restart conditions (R71). -/
def Body.restart (e : Env) (n : Nat) (b : Body) : Body :=
  let l := b.leadOf n
  if b.seated l && b.restartOk e l then b.deliver e l .restartOk e.now else b

/-- RESTART_OK (R71). -/
def execRestartOk (n : ChIx) (s : State) : Out := .next (s.onBody fun e b => b.restart e n)

/-- EN goes from 1 to 0 (R64); a member's EN is ignored (R62, R81). -/
def Body.enOff (e : Env) (n : Nat) (b : Body) : Body :=
  if b.rd .chCtrlEn n = 0 || b.isMember n then b
  else ((b.wr .chCtrlEn n 0).onCh n fun c => { c with enZeroT := e.now }).deliver e n .en0 e.now

/-- EN_0 (R64). -/
def execEn0 (n : ChIx) (s : State) : Out := .next (s.onHub fun e b => b.enOff e n)

/-- EN goes from 0 to 1; a toggle when it has been 0 for 1 ms or more (R64); a member's EN is ignored (R62, R81). -/
def Body.enGo (e : Env) (n : Nat) (b : Body) : Body :=
  if b.rd .chCtrlEn n = 1 || b.isMember n then b
  else (b.wr .chCtrlEn n 1).deliver e n (.en1 (decide (1000000 ≤ e.now - (b.ch n).enZeroT))) e.now

/-- EN_1 (R64). -/
def execEn1 (n : ChIx) (s : State) : Out := .next (s.onHub fun e b => b.enGo e n)

/-- The host writes 1 to CTRL.REQUEUE (R65, R81). DESIGN CHOICE (log 172): that of a gang member is dropped. -/
def Body.requeue (e : Env) (n : Nat) (b : Body) : Body :=
  if b.isMember n then b else b.deliver e n .requeue e.now

/-- REQUEUE (R65). -/
def execRequeue (n : ChIx) (s : State) : Out := .next (s.onHub fun e b => b.requeue e n)

/-- A leader's RAMP_DONE conditions hold now (R74). -/
def Body.doneCond (b : Body) (l : Nat) : Bool :=
  let g := b.en l
  let tgt : Int := if b.cd .chRampTarget l = 0 then (b.fe (dieOf l)).bus else voltCode (b.cd .chRampTarget l) 2
  decide ((tgt - g.out) * 100000 ≤ (b.cd .chRampDoneVds l * 10 * 32768 : Nat)) && decide (b.cd .chRampGateOn l ≤ g.vgs)

/-- RAMP_DONE (R74): both conditions have held for 100 µs. -/
def execRampDone (n : ChIx) (s : State) : Out :=
  let l := s.body.leadOf n
  match (s.body.en l).doneSince with
  | some t => .next ((s.goTo (t + 100000)).onBody fun e b => b.report e l .rampDone e.now)
  | none => .next s

/-- The length of the run of latest winners that satisfy a test. -/
def runLen (p : Nat → Bool) (ws : List Nat) : Nat := (ws.takeWhile p).length

/-- The instant at which a run of r loop cycles reaches m cycles of 800 ns, from now. -/
def cyclesLeft (now r m : Nat) : Nat := now + (m - r) * 800

/-- LIMIT_WIN (R103): a limiting loop, or limiting loops and the cap together, win ten consecutive cycles. -/
def execLimitWin (n : ChIx) (s : State) : Out :=
  let l := s.body.leadOf n
  let ws := (s.body.en l).wins
  let r := runLen (fun w => decide (2 ≤ w)) ws
  if r = 0 || !((ws.take r).any fun w => decide (w ≤ 4)) then .next s
  else .next ((s.goTo (cyclesLeft s.time.elapsed r 10)).onBody fun e b =>
    (b.onEng l fun g => { g with winPulse := true }).report e l .limitWin e.now)

/-- CAP_WIN (R103): the cap loop wins ten consecutive cycles. -/
def execCapWin (n : ChIx) (s : State) : Out :=
  let l := s.body.leadOf n
  let ws := (s.body.en l).wins
  let r := runLen (fun w => w = 5) ws
  if r = 0 || (ws.take (runLen (fun w => decide (2 ≤ w)) ws)).any (fun w => decide (w ≤ 4)) then .next s
  else .next ((s.goTo (cyclesLeft s.time.elapsed r 10)).onBody fun e b =>
    (b.onEng l fun g => { g with winPulse := true }).report e l .capWin e.now)

/-- NO_WIN (R77, R103): the ramp or enhance loop wins for LIMITCFG.EXIT. -/
def execNoWin (n : ChIx) (s : State) : Out :=
  let l := s.body.leadOf n
  let r := (s.body.en l).freeWins
  if r = 0 then .next s
  else .next ((s.goTo (s.time.elapsed + (s.body.cd .chLimitcfgExit l * 10000 - r * 800))).onBody fun e b =>
    b.report e l .noWin e.now)

/-- ILIM_EXPIRE (R78, R162): the LIMIT timer reaches ILIM_TMAX; the die sets its latch and reports the trip. -/
def execIlimExpire (n : ChIx) (s : State) : Out :=
  let l := s.body.leadOf n
  match (s.body.en l).limFrom with
  | some t =>
    if (s.body.en l).tripLatch || s.body.dieOff (dieOf l) then .next s
    else .next ((s.goTo (t + s.body.cd .chLimitcfgIlimTmax l * 25000)).onBody fun e b =>
      b.dieTrip e l 0x11)
  | none => .next s

/-- A cap is in force somewhere in the module. -/
def Body.anyCap (b : Body) : Bool := (List.range 128).any fun n => (b.ch n).capOn

/-- A SHED channel may receive READMIT: one shed by the budget or for bus integrity while no cap is in force (R219), one
shed by hold-up or a freeze once that has ended (R235, R581); none in hold-up, brace or a freeze (R233, R580, R583), or
while admission is held (R479). -/
def Body.readmitOk (e : Env) (l : Nat) (b : Body) : Bool :=
  (if (b.ch l).reason = 0x22 || (b.ch l).reason = 0x25 then !b.anyCap else (b.ch l).eligible) &&
    !b.higherPause && !b.flag .modBootSoloHeld && b.seated l && b.restartOk e l

/-- READMIT (R235). -/
def execReadmit (n : ChIx) (s : State) : Out :=
  .next (s.onBody fun e b =>
    let l := b.leadOf n
    if b.readmitOk e l then b.deliver e l .readmit e.now else b)

/-- RETRY_EXPIRE (R198): the timer reaches 0; a channel that was not ready then enters the queue once it is (R65). -/
def execRetryExpire (n : ChIx) (s : State) : Out :=
  let l := s.body.leadOf n
  match (s.body.ch l).retryEnd with
  | some t => .next ((s.goTo t).onBody fun e b =>
      if b.orch then (b.onCh l fun c => { c with retryEnd := none }).deliver e l .retryExpire e.now else b)
  | none => .next (s.onBody fun e b => if (b.ch l).retryReady then b.restart e l else b)

end Sys2Proof.Machine
end

