-- ==== Sys2Proof/Machine/Short.lean ====
section
/-!
DEFINITION. When a gate counts as held off, and the short condition of R164 that a die follows at every sample.
-/

namespace Sys2Proof.Machine

open Sys2Proof

/-- The short condition. -/
def Body.shortCond (b : Body) (n : Nat) : Bool :=
  let g := b.en n
  let v := b.cd .chFshortFsVout n
  voltGe g.out v 500 &&
    (decide ((b.cd .chFsiminFsImin n : Int) ≤ g.i) || g.htCmp || voltGe (g.out - g.outMin) (b.cd .chFshortFsRise n) 100)

/-- The check runs on the engines g of channel n (R164); not in a freeze (R580). -/
def Eng.shortRuns (e : Env) (b : Body) (n : Nat) (g : Eng) : Bool :=
  (match (b.ch (b.leadOf n)).state with
    | .unconfigured | .bench => false
    | _ => true) && !g.gate.live && !b.flag .healthStatFreeze &&
  (match g.fsFrom with
    | some t => decide (t ≤ e.now)
    | none => false)

/-- The check runs in the die of channel n. -/
def Body.shortRuns (e : Env) (b : Body) (n : Nat) : Bool := (b.en n).shortRuns e b n

/-- Follow OUT_MIN and the short condition at a new sample of channel n (R164). -/
def Body.shortEval (e : Env) (n : Nat) (b : Body) : Body :=
  if !b.shortRuns e n then b.onEng n fun g => { g with shortSince := none }
  else
    let b := b.onEng n fun g => { g with outMin := min g.outMin g.out }
    let c := b.shortCond n
    b.onEng n fun g => { g with shortSince := if c then some (g.shortSince.getD e.now) else none }

/-- The gate driver reports the gate at its source: FS_SETTLE starts at the first report (R164). In a STANDBY module the partner may
drive the gate: none starts in the states in which it does (R458). -/
def Body.gateAtSource (e : Env) (n : Nat) (b : Body) : Body :=
  if (b.en n).gate.live || (b.en n).fsFrom.isSome || (b.role = .standby && (b.ch (b.leadOf n)).eff.driven) then b
  else b.onEng n fun g => { g with fsFrom := some (e.now + msNs (b.cd .chFshortFsSettle n)), outMin := 32767 }

end Sys2Proof.Machine
end

