-- ==== Sys2Proof/Machine/Trace.lean ====
section
/-!
DEFINITION. The trace buffers of a die (R120 to R125): arming, the trigger sources, and the entry written per rotation.
-/

namespace Sys2Proof.Machine

open Sys2Proof

/-- The channel that trace channel c of die k records (R120). -/
def Body.trChan (b : Body) (k c : Nat) : Nat := 16 * k + b.drd k .feTrselLch (4 * k + c)

/-- The value of a node of a channel: a loop node of a gang member is the leader's (R121). DESIGN CHOICE (log 174): I, OUT, TJ_EST and
PLIM are each member's own; every other node is a loop node. -/
def Body.nodeVal (b : Body) (n code : Nat) : Int :=
  match code with
  | 0 => (b.en n).i
  | 1 => (b.en n).out
  | 9 => ((b.en n).tjEst : Nat)
  | 10 => ((b.en n).plim : Nat)
  | c => (b.en (b.leadOf n)).nodes.getD c 0

/-- A trace entry; a channel whose engine does not command its gate has no winner, no demand and no integrator step (R104,
R122). -/
def Body.trEntry (b : Body) (k c : Nat) : Nat :=
  let n := b.trChan k c
  let g := b.en n
  let l := b.en (b.leadOf n)
  let on := decide (l.gate = .driven)
  ofSigned 16 (b.nodeVal n (b.drd k .feTrselNode (4 * k + c))) * 2 ^ 16 + (if on then l.win % 8 else 0) * 2 ^ 13
    + bit (on && l.sat) * 2 ^ 12 + bit (on && l.frozen) * 2 ^ 11 + g.tick % 2048

/-- A trigger condition of the selected source holds in this rotation (R124). DESIGN CHOICE (log 212): a value has crossed the level as
it arrives at it, and in the first rotation after ARM nothing crosses or changes; (log 211): the wins of a gang member are its
leader's. -/
def Body.trCond (b : Body) (k : Nat) : Bool :=
  let d := b.fe k
  let n := 16 * k + b.drd k .feTrtrigTchan k
  let lw := (b.en (b.leadOf n)).win
  match b.drd k .feTrtrigTsrc k with
  | 1 => decide (lw = b.drd k .feTrtrigTwin k) && d.trPrevWin.any fun w => decide (w ≠ lw)
  | 2 =>
    let v := b.nodeVal (b.trChan k 0) (b.drd k .feTrselNode (4 * k))
    let lev := toSigned 16 (b.drd k .feTrtrigTlevel k)
    if b.drd k .feTrtrigTedge k = 0 then d.trPrev.any (fun p => decide (p < lev)) && decide (lev ≤ v)
    else d.trPrev.any (fun p => decide (lev < p)) && decide (v ≤ lev)
  | 3 => (b.en n).tripPulse
  | 4 => (List.range 16).any fun l => (b.en (16 * k + l)).hardPulse
  | 5 => (b.en (b.leadOf n)).winPulse
  | 6 => d.trCross
  | _ => false

/-- The trigger is taken at entry idx: TRIG_IDX, TRTIME and TRIGGERED; capture source 6 triggers, and other dies see a cross-trigger
(R123, R124, R294). -/
def Body.trFire (e : Env) (k idx : Nat) (b : Body) : Body :=
  let b := ((b.dwr k .feTrstatTrigIdx k idx).dwr k .feTrtimeTime k (b.fe k).trTime).dwr k .feTrctlTriggered k 1
  let b := (b.onDie k fun d =>
    { d with trLeft := 4096 - b.drd k .feTrctlPre k - 1, trForce := false, trCross := false, trHit := false }).capTriggerAll e k 6 0
  if b.drd k .feTrtrigXout k = 1 then
    (List.range 8).foldl (fun b j => if j = k then b else b.onDie j fun d => { d with trCross := true }) b
  else b

/-- The recording is complete: ARMED clears, DONE is set (R123). -/
def Body.trDone (k : Nat) (b : Body) : Body := (b.dwr k .feTrctlArmed k 0).dwr k .feTrctlDone k 1

/-- Every entry after the trigger has been written (R123). -/
def Body.trFull (b : Body) (k : Nat) : Bool :=
  b.drd k .feTrctlArmed k = 1 && b.drd k .feTrctlTriggered k = 1 && decide ((b.fe k).trLeft = 0)

/-- Write the entries of one rotation and look for the trigger: its condition in this rotation, or since the entry before (R120,
R123). DESIGN CHOICE (log 176): a condition that comes in a rotation without an entry is taken at the next entry. -/
def Body.trWrite (e : Env) (k : Nat) (hit : Bool) (b : Body) : Body :=
  let d := b.fe k
  let i := d.trNext
  let mem := (List.range 4).foldl (fun m c => sparseSet 0 m (c * 4096 + i) (b.trEntry k c)) d.trace
  let count := d.trCount + 1
  let b := b.onDie k fun d =>
    { d with trace := mem, trNext := (i + 1) % 4096, trCount := count, trSkip := 0, trHit := false, trTime := b.stampAt k e.now }
  if b.drd k .feTrctlTriggered k = 1 then b.onDie k fun d => { d with trLeft := d.trLeft - 1 }
  else
    let pre := b.drd k .feTrctlPre k
    if (decide (pre < count) && hit) || (decide (pre ≤ count) && d.trForce) then b.trFire e k i else b

/-- One loop cycle of the channel that TC0 records is one rotation of the trace (R120). -/
def Body.trStep (e : Env) (n : Nat) (b : Body) : Body :=
  let k := dieOf n
  if b.drd k .feTrctlArmed k = 0 ∨ b.trChan k 0 ≠ n ∨ b.trFull k = true then b
  else
    let hit := (b.fe k).trHit || (decide (b.drd k .feTrctlPre k ≤ (b.fe k).trCount) && b.trCond k)
    let b := if b.drd k .feTrctlDiv k ≤ (b.fe k).trSkip then b.trWrite e k hit
             else b.onDie k fun d => { d with trSkip := d.trSkip + 1, trHit := hit }
    let v := b.nodeVal n (b.drd k .feTrselNode (4 * k))
    let w := (b.en (b.leadOf (16 * k + b.drd k .feTrtrigTchan k))).win
    let b := b.onDie k fun d => { d with trPrev := some v, trPrevWin := some w, trCross := false }
    b.forEach ((List.range 16).map (16 * k + ·)) fun m b =>
      b.onEng m fun g => { g with tripPulse := false, hardPulse := false, winPulse := false }

/-- ARM: clear DONE and TRIGGERED, set ARMED, start at entry 0; nothing seen before counts (R123). -/
def Body.trArm (k : Nat) (b : Body) : Body :=
  let b := ((b.dwr k .feTrctlDone k 0).dwr k .feTrctlTriggered k 0).dwr k .feTrctlArmed k 1
  let b := b.forEach ((List.range 16).map (16 * k + ·)) fun m b =>
    b.onEng m fun g => { g with tripPulse := false, hardPulse := false, winPulse := false }
  b.onDie k fun d => { d with trNext := 0, trCount := 0, trSkip := b.drd k .feTrctlDiv k, trLeft := 0, trForce := false,
                              trCross := false, trPrev := none, trPrevWin := none, trHit := false }

/-- The fields written to TRCTL, applied first unless ARMED is 1 (R123). -/
def Body.trFields (k div pre : Nat) (b : Body) : Body :=
  if b.drd k .feTrctlArmed k = 1 then b else (b.dwr k .feTrctlDiv k div).dwr k .feTrctlPre k pre

/-- FORCE: trigger at once when PRE entries exist, or hold it until then (R123, R124). DESIGN CHOICE (log 176): the trigger entry is
the last one written, with its timestamp, where the present rotation has none. -/
def Body.trForceNow (e : Env) (k : Nat) (b : Body) : Body :=
  let d := b.fe k
  if b.drd k .feTrctlArmed k = 0 ∨ b.drd k .feTrctlTriggered k = 1 then b
  else if b.drd k .feTrctlPre k ≤ d.trCount ∧ 0 < d.trCount then b.trFire e k ((d.trNext + 4095) % 4096)
  else b.onDie k fun d => { d with trForce := true }

/-- TRACE_DONE (R123): the entries after the trigger have been written. -/
def execTraceDone (k : DieIx) (s : State) : Out := .next (s.onBody fun _ b => if b.trFull k then b.trDone k else b)

end Sys2Proof.Machine
end

