-- ==== Sys2Proof/Machine/LoopEngine.lean ====
section
/-!
DEFINITION. The loop engine (chapter 03): one loop cycle of a channel. Five demands are formed in the arithmetic of
R91 to R95, the lowest is applied to the gate, and the ramp reference, the integrators and the supervisors move on.
-/

namespace Sys2Proof.Machine

open Sys2Proof

/-- The inputs of a cycle as the leader uses them (R97, R98, R100). -/
structure LoopIn where
  /-- the highest and the mean member current -/
  iMax : Int
  iMean : Int
  out : Int
  busFf : Int
  vds : Int
  tj : Nat
  plim : Int
  pcap : Int
  deriving DecidableEq, Repr

/-- BUS extrapolated: BUS + KB × (BUS − BUS_PREV), KB in halves (R98). -/
def busFf (bus prev : Int) (kb : Nat) : Int := sat16 (rshiftRound (2 * bus + kb * (bus - prev)) 1)

/-- Gather the inputs of leader l (R97 to R100). -/
def Body.loopIn (b : Body) (l : Nat) : LoopIn :=
  let ms := b.membersOf l
  let d := b.fe (dieOf l)
  let bf := busFf d.bus d.busPrev (b.cd .chLoopcfgBff l)
  let out := (b.en l).out
  { iMax := ms.foldl (fun a m => max a (b.en m).i) (b.en l).i
    iMean := divRound (ms.foldl (fun a m => a + (b.en m).i) (0 : Int)) (ms.length : Nat)
    out := out
    busFf := bf
    vds := sat16 (bf - out)
    tj := ms.foldl (fun a m => max a (b.en m).tjEst) 0
    plim := (ms.foldl (fun a m => min a (b.en m).plim) 0x7FFF : Nat)
    pcap := (b.cd .chCapPCap l : Nat) }

/-- The ramp target on the voltage scale in Q9.31 (R111). -/
def Body.rampTarget (b : Body) (l : Nat) : Int :=
  if b.cd .chRampTarget l = 0 then toAcc (b.fe (dieOf l)).bus
  else divRound ((b.cd .chRampTarget l * 2 ^ 31 : Nat)) 50000

/-- Δ: the advance of REF per cycle at the full rate, in Q9.31 LSB (R109). -/
def rampDelta (rate : Nat) : Nat := fracRound (rate * 17179869184) 1000000000

/-- RATE in force; 1 in place of 0, which R608 excludes. -/
def Body.rate (b : Body) (l : Nat) : Nat := max 1 (b.cd .chRampctlRate l)

/-- The instantaneous rate r of the next cycle, and whether the fall has begun (R110). Every quantity is a fraction:
r = num / den in mV/ms; one cycle changes r by 2 × RATE / (25 × ROUND). -/
def rampRate (rate round : Nat) (remain : Int) (num den : Nat) (fall : Bool) : Nat × Nat × Bool :=
  if round = 0 then (rate, 1, false)
  else
    let d := den * (25 * round)
    let r := num * (25 * round)
    let step := 2 * rate * den
    let rem := remain.toNat
    -- remaining distance in mV × 2^31 / 100 000 at or below r^2 × T / (200 × RATE) mV
    let stops := decide (rem * 100000 * (200 * rate * (den * den)) ≤ num * num * round * 2 ^ 31)
    let fall := fall || (stops && decide (0 < num))
    let r' := if fall then r - step
              else if r < rate * d then min (rate * d) (r + step) else max (rate * d) (r - step)
    let g := Nat.gcd r' d
    (r' / max 1 g, d / max 1 g, fall)

/-- The feed-forward current I_FF (R112). -/
def iFf (ff num den rate : Nat) : Int := round15 (satAcc (divRound ((ff * num * 2 ^ 16 : Nat)) ((den * rate : Nat))))

/-- The error of the ramp loop, with the intermediate I_R (R99). -/
def rampErr (iff kv : Int) (ref : Int) (out i : Int) : Int × Int :=
  let dv := round15 (satAcc (ref - toAcc out))
  let ir := round15 (satAcc (toAcc iff + alignAcc (kv * dv) 23))
  (ir, sat16 (ir - i))

/-- The error of the junction-temperature loop (R99). -/
def tempErr (ktj : Nat) (lim tj : Nat) : Int :=
  round15 (alignAcc ((ktj : Int) * sat16 (((lim : Int) - (tj : Int)) * 32)) 27)

/-- The hysteretic law (R105). -/
def hysteretic (hem e : Int) : Int := if hem < e then 32767 else if e < -hem then -32768 else 0

/-- The index into the gain table (R107). -/
def gainIndex (shift : Nat) (e : Int) : Nat := min 31 (mag15 e / 2 ^ shift)

/-- The demand of the gain look-up law before the reduction (R106, R107). -/
def gainAcc (kp : Nat) (e x : Int) : Int := satAcc (alignAcc ((kp : Int) * e) 26 + x)

/-- The integrator step of the gain look-up law (R106, R107). -/
def gainStep (ki : Nat) (e x : Int) : Int := clampInt (-(2 ^ 31)) (2 ^ 31) (x + rshiftRound ((ki : Int) * e) 7)

/-- The demand of loop j (0 to 4) of leader l, and its saturation flag (R105, R106). -/
def Body.demand (b : Body) (l j : Nat) (e : Int) : Int × Bool :=
  if (b.membersOf l).length ≤ 1 then (hysteretic (b.cd .chLoopcfgHem l : Nat) e, false)
  else
    let i := gainIndex (b.cd .chLoopcfgIdxShift l) e
    let a := gainAcc (b.drd (dieOf l) .tablesGainKp (32 * l + i)) e ((b.en l).x.getD j 0)
    (round15 a, round15Sat a)

/-- The position of the first lowest demand (R102). -/
def lowest : List (Int × Bool) → Nat → Nat → Int → Nat
  | [], _, best, _ => best
  | d :: ds, i, best, v => if d.1 < v then lowest ds (i + 1) i d.1 else lowest ds (i + 1) best v

/-- The dissipation sample of a channel (R144). -/
def dissip (bus out i : Int) : Nat := (max 0 (round15 (alignAcc (sat16 (bus - out) * i) 30))).toNat

/-- Take the cycle's dissipation sample and the driver's reports; a fast sink that is over hands the gate on (R108, R144, R156,
R159). -/
def Body.takeSample (e : Env) (n : Nat) (atPump atSource : Bool) (b : Body) : Body :=
  let d := b.fe (dieOf n)
  let up := b.rangeUp n
  b.onEng n fun g =>
    let p := dissip d.bus g.out g.i
    { g.endFast e.now with
      atPump := atPump, atSource := atSource, tick := g.tick + 1, ps := ((p : Int) :: g.ps).take 8
      episode := if g.epiRun then g.episode + p * up else g.episode }

/-- The nodes of a channel whose engine does not command its gate (R121). DESIGN CHOICE (log 174): the nodes that only a loop cycle
forms (REF, I_FF, I_R, I_P, I_C, integrators, errors, demands, winner) read 0. -/
def Body.idleNodes (n : Nat) (b : Body) : Body :=
  let i := b.loopIn (b.leadOf n)
  b.onEng n fun g =>
    { g with nodes := [g.i, g.out, i.busFf, sat16 (i.busFf - g.out), 0, 0, 0, 0, 0, g.tjEst, g.plim] }

/-- The stall timer of one member (R163). -/
def Body.stall (b : Body) (m : Nat) (d : Int) (g : Eng) : Eng :=
  if b.cd .chGstallGsExpect m ≤ g.vgs then { g with stallNs := 0 }
  else if 0 < d then { g with stallNs := g.stallNs + 800 } else g

/-- Form the five demands of leader l, apply the lowest to every member, update the integrators and the histories
(R99 to R107, R114, R163). DESIGN CHOICE (log 213): nodes 0x0B to 0x0F are the integrators before the cycle's update. DESIGN CHOICE (log 173): in a gang the reports of the leader's driver, at its pump limit or at source,
block integration (R114). -/
def Body.control (l : Nat) (b : Body) : Body :=
  let i := b.loopIn l
  let g := b.en l
  let k := dieOf l
  let rate := b.rate l
  let rr := if b.cd .chRampctlRound l = 0 then (rate, 1) else (g.rNum, g.rDen)
  let iff := if g.rampEnd || decide (b.rampTarget l ≤ g.ref) then 0 else iFf (b.drd k .chFfstatFfI l) rr.1 rr.2 rate
  let r := rampErr iff (b.cd .chFfcfgKv l : Nat) g.ref i.out i.iMean
  let ip := quot15 i.plim i.vds
  let ic := quot15 i.pcap i.out
  let es : List Int := [r.2, sat16 ((b.cd .chIlimIlim l : Nat) - i.iMax), sat16 (ip - i.iMax),
    tempErr (b.cd .chTjloopKtj l) (b.cd .chTjloopTjLim l) i.tj, sat16 (ic - i.iMean)]
  let enh := g.rampEnd && !(b.ch l).partialRamp
  let ds := (List.range 5).map fun j =>
    if j = 0 && enh then ((32767 : Int), false) else b.demand l j (es.getD j 0)
  let w := lowest ds 0 0 40000
  let d := (ds.getD w (0, false)).1
  let sat := (ds.getD w (0, false)).2
  let gang := decide (1 < (b.membersOf l).length)
  let blocked := sat || b.froze || (g.atPump && decide (0 < d)) || (g.atSource && decide (d < 0))
  let e := es.getD w 0
  let ki := b.drd k .tablesGainKi (32 * l + gainIndex (b.cd .chLoopcfgIdxShift l) e)
  let xs := if gang && !blocked && !(enh && w = 0) then g.x.set w (gainStep ki e (g.x.getD w 0)) else g.x
  let nodes : List Int := [g.i, i.out, i.busFf, i.vds, round15 g.ref, iff, r.1, ip, ic, i.tj, i.plim]
    ++ ((List.range 5).map fun j => round15 (g.x.getD j 0)) ++ es ++ [0, 0, 0] ++ ds.map (·.1) ++ [d, ((w + 1 : Nat) : Int), 0]
  let b := b.forEach (b.membersOf l) fun m b => b.onEng m fun h => b.stall m d { h with dsel := d, win := w + 1 }
  b.onEng l fun h =>
    { h with sat := sat, frozen := gang, x := xs, nodes := nodes, wins := ((w + 1) :: h.wins).take 10
             freeWins := if w = 0 then h.freeWins + 1 else 0 }

/-- The current that the demand last applied drives into the gate of channel n, in 1/256 µA, the sink's negative (R108). -/
def Body.gateCurrent (b : Body) (n : Nat) : Int :=
  let d := (b.en n).dsel
  let c : Int := (fracRound (256 * d.natAbs) 32768 : Nat)
  if (b.en n).gate ≠ .driven then 0
  else if 0 < d then (max 1 (min 250 (b.cd .chLoopcfgIsrc (b.leadOf n))) : Nat) * c
  else -(1000 * c)

/-- C_MEAS from the summed charge and the rise in OUT (R113): 10 µF units. -/
def Body.cMeas (b : Body) (l : Nat) : Nat :=
  let g := b.en l
  let dv := g.out - g.outStart
  if dv * 100 < 2 * 32768 ∨ g.qSum ≤ 0 then 0
  else min 0xFFFF (fracRound (g.qSum.toNat * (b.ifs l).1 * 8) ((b.ifs l).2 * dv.toNat * 10000))

/-- Advance REF in a cycle of RAMP (R109 to R111), measure the load capacitance (R113), and run the RAMP_DONE and
following-error timers (R74, R116). -/
def Body.rampStep (e : Env) (l : Nat) (b : Body) : Body :=
  let g := b.en l
  let tgt := b.rampTarget l
  let rate := b.rate l
  let rr := rampRate rate (b.cd .chRampctlRound l) (tgt - g.ref) g.rNum g.rDen g.rFall
  let adv := divRound ((rampDelta rate * rr.1 : Nat)) ((rr.2.1 * rate : Nat))
  let ref := if rr.2.2 && rr.1 = 0 then tgt else min tgt (g.ref + adv)
  let q := g.qSum + (b.loopIn l).iMean
  let b := b.onEng l fun g => { g with ref := ref, rNum := rr.1, rDen := rr.2.1, rFall := rr.2.2
                                       qSum := if g.measuring then q else g.qSum }
  let b := if g.measuring && decide (tgt - g.refStart ≤ 4 * (ref - g.refStart)) then
      (b.onEng l fun g => { g with measuring := false }).wr .chFfstatCMeas l (b.cMeas l)
    else b
  let done := b.doneCond l
  let far := decide ((b.cd .chFollowFeBand l * 2 ^ 31 : Nat) < ((ref - toAcc g.out).natAbs : Int) * 1000)
  b.onEng l fun g =>
    { g with doneSince := if done then some (g.doneSince.getD e.now) else none
             feSince := if far then some (g.feSince.getD e.now) else none }

/-- REF of a ramp moved on by a number of loop cycles (R109 to R111, R463). -/
def advanceRef : Nat → Nat → Nat → Int → Int × Nat × Nat × Bool → Int × Nat × Nat × Bool
  | 0, _, _, _, r => r
  | c + 1, rate, round, tgt, (ref, num, den, fall) =>
    let rr := rampRate rate round (tgt - ref) num den fall
    let adv := divRound ((rampDelta rate * rr.1 : Nat)) ((rr.2.1 * rate : Nat))
    advanceRef c rate round tgt (if rr.2.2 && rr.1 = 0 then tgt else min tgt (ref + adv), rr)

/-- The snapshot of leader l moves on to the present cycle: REF of a ramp by the loop cycles since (R463). -/
def Body.advance (e : Env) (l : Nat) (b : Body) : Body :=
  let t := sparseGet 0 b.twin.snaps l
  let g := b.en l
  if t = 0 then b
  else
    let c := (e.now + 1 - t) / 800
    let b := b.onTwin fun w => { w with snaps := sparseSet 0 w.snaps l (t + 800 * c) }
    if (b.ch l).eff ≠ .ramp ∨ g.rampEnd = true then b
    else
      let r := advanceRef c (b.rate l) (b.cd .chRampctlRound l) (b.rampTarget l) (g.ref, g.rNum, g.rDen, g.rFall)
      b.onEng l fun g => { g with ref := r.1, rNum := r.2.1, rDen := r.2.2.1, rFall := r.2.2.2 }

/-- The die of leader l runs its loops in shadow: between T_P and T_S at the incoming module, from the arrival of the final snapshot on,
on channels that the partner drives (R462). -/
def Body.shadows (b : Body) (l : Nat) : Bool :=
  b.froze && (b.ch l).eff.driven &&
  (match b.twin.seam with
    | some s => !s.out && (match s.plan with
        | some (tp, _) => decide (tp < sparseGet 0 b.twin.snaps l)
        | none => false)
    | none => false)

/-- A shadow cycle of leader l: demands on its own samples, and nothing commanded; the first one restarts the winner filters, and the
following-error timer goes on (R462, R463). -/
def Body.shadowCycle (e : Env) (l : Nat) (b : Body) : Body :=
  let b := if b.twin.shadow.contains l then b
    else (b.forEach (b.membersOf l) fun m b => b.onEng m fun g => { g with wins := [], freeWins := 0 }).onTwin fun t =>
      { t with shadow := l :: t.shadow }
  let b := (b.advance e l).control l
  let g := b.en l
  let far := decide ((b.cd .chFollowFeBand l * 2 ^ 31 : Nat) < ((g.ref - toAcc g.out).natAbs : Int) * 1000)
  if (b.ch l).eff = .ramp && !g.rampEnd then
    b.onEng l fun g => { g with feSince := if far then some (g.feSince.getD e.now) else none }
  else b

/-- TARGET_BELOW: a TARGET field below the measured output during RAMP (R63, R75, R111). -/
def Body.targetBelow (b : Body) (l : Nat) : Bool :=
  decide (b.cd .chRampTarget l ≠ 0) && decide (b.rampTarget l < toAcc (b.en l).out)

/-- TARGET_ABOVE: the target lies above the measured output by more than DONE_VDS (R63, R75). -/
def Body.targetAbove (b : Body) (l : Nat) : Bool :=
  decide ((b.cd .chRampDoneVds l * 10 * 2 ^ 31 : Nat) < (b.rampTarget l - toAcc (b.en l).out) * 100000)

/-- The sample-to-command delay of a cycle is a free value of 0.3 µs to 1.1 µs, 5 ns per LSB (R41, R137). -/
def Body.delayMax (k : Nat) (b : Body) : Body :=
  let r := b.free
  r.2.dwr k .feLoopstatDlyMax k (max (b.drd k .feLoopstatDlyMax k) (60 + r.1 % 161))

/-- One loop cycle of channel n (R102 and the rules beside it). DESIGN CHOICE (log 173): the errors and I_FF of a cycle use REF and r
as they stand before that cycle's advance; a channel that a Seam holds from RAMP advances REF and runs its supervisors. An incoming die
of a Seam runs it in shadow (R462). -/
def Body.loopCycle (e : Env) (n : Nat) (atPump atSource : Bool) (b : Body) : Body :=
  let l := b.leadOf n
  let b := b.takeSample e n atPump atSource
  let b :=
    if (b.en n).gate ≠ .driven then
      (if b.shadows l then (if n = l then b.shadowCycle e l else b)
       else (if atSource then b.gateAtSource e n else b).idleNodes n)
    else
      let b := b.delayMax (dieOf n)
      let b := if n = l then
          let ramping := (b.ch l).eff = .ramp && !(b.en l).rampEnd
          let b := b.control l
          if !ramping then b
          else if b.targetBelow l then
            (b.onEng l fun g => { g with ref := toAcc g.out, rampEnd := true }).report e l .targetBelow e.now
          else b.rampStep e l
        else b
      let b := if n = l && (b.ch l).state = .on && (b.ch l).partialRamp && b.targetAbove l then
          b.report e l .targetAbove e.now else b
      if (b.en n).epiRun && b.overEsoa n l then b.dieTrip e n 0x12 else b
  b.trStep e n

/-- LOOP_CYCLE (R102): the driver's reports of R108 come with it. -/
def execLoopCycle (n : ChIx) (atPump atSource : Bool) (s : State) : Out :=
  .next (s.onBody fun e b => if b.dieOff (dieOf n) then b else b.loopCycle e n atPump atSource)

/-- FOLLOW (R116): the difference has exceeded the band for FE_TIME in RAMP. -/
def execFollow (n : ChIx) (s : State) : Out :=
  let l := s.body.leadOf n
  match (s.body.en l).feSince with
  | some t =>
    if (s.body.en l).tripLatch || (s.body.en l).gate ≠ .driven then .next s
    else .next ((s.goTo (t + s.body.cd .chFollowFeTime l * 10000)).onBody fun e b =>
      b.dieTrip e l 0x15)
  | none => .next s

/-- GATE_STALL (R163): the stall timer of a member reaches GS_TIME while it counts. -/
def execGateStall (n : ChIx) (s : State) : Out :=
  let g := s.body.en n
  if g.stallNs = 0 || g.tripLatch || g.gate ≠ .driven || decide (g.dsel ≤ 0) then .next s
  else .next ((s.goTo (s.time.elapsed + (s.body.cd .chGstallGsTime n * 10000 - g.stallNs))).onBody fun e b =>
    b.dieTrip e n 0x16)

end Sys2Proof.Machine
end

