-- ==== Sys2Proof/Machine/Thermal.lean ====
section
/-!
DEFINITION. Pass-transistor safety (chapter 04): the coefficients of the thermal model, the model step with PLIM and the
temperature trips, the hard-trip comparator, FET-short detection and the model mismatch; and the bus window of chapter 05.
-/

namespace Sys2Proof.Machine

open Sys2Proof

/-! ### Coefficients (R146, R154, R155, R186, R187) -/

/-- MANT and EXP of 1 − exp(−num/den) (R146, R186). -/
def expCoef (num den : Nat) : Nat × Nat := toCoef (2 ^ 96 - expNeg num den)

/-- TAU in force, in µs: a value below 7 is taken as 7 (R185). -/
def Body.tau (b : Body) (n i : Nat) : Nat := max 7 (b.rd .poleTauTau (4 * n + i))

/-- G_i in UQ17.15, to nearest, saturated: RTH mK/W × PSCALE / 64 °C (R146, R187). -/
def Body.gCoef (b : Body) (n i : Nat) : Nat :=
  min 0xFFFFFFFF (fracRound (b.rd .poleRthRth (4 * n + i) * (b.pscale n).1 * 32768) ((b.pscale n).2 * 64000))

/-- The value MANT × 2^(31 − EXP), LSB 2^-55 (R186). -/
def coef55 (c : Nat × Nat) : Nat := c.1 * 2 ^ (31 - c.2)

/-- ZLA in UQ17.15 from H and G as held (R146). -/
def zlaOf (hs : List (Nat × Nat)) (gs : List Nat) : Nat :=
  min 0xFFFFFFFF (fracRound ((List.zip hs gs).foldl (fun a p => a + coef55 p.1 * p.2) 0) (2 ^ 55))

/-- A change of the field changes the coefficients of the thermal model (R146). -/
def Fld.movesCoefs (f : Fld) : Bool := f = .poleRthRth || f = .poleTauTau || f = .chSoacfgHorizon

/-- The coefficient fields derived from the parameters of channel n: (field, index, value) (R146). -/
def Body.coefs (b : Body) (n : Nat) : List (Fld × Nat × Nat) :=
  let is := List.range 4
  let ks := is.map fun i => expCoef 32 (5 * b.tau n i)
  let hs := is.map fun i => expCoef (b.rd .chSoacfgHorizon n * 10) (b.tau n i)
  let gs := is.map fun i => b.gCoef n i
  (is.flatMap fun i =>
    [(Fld.kcoefExp, 4 * n + i, (ks.getD i (0, 0)).2), (.kcoefMant, 4 * n + i, (ks.getD i (0, 0)).1),
     (.hcoefExp, 4 * n + i, (hs.getD i (0, 0)).2), (.hcoefMant, 4 * n + i, (hs.getD i (0, 0)).1),
     (.gcoefValue, 4 * n + i, gs.getD i 0)])
  ++ [(.zlaValue, n, zlaOf hs gs)]

/-- Write fields at their indices in HUB's copy and forward them in one message to die k (R31, R117, R146). -/
def Body.fwdAll (k : Nat) (fs : List (Fld × Nat × Nat)) (b : Body) : Body :=
  let b := fs.foldl (fun b f => b.wr f.1 f.2.1 f.2.2) b
  b.sendDown k (.fields false (fs.map fun f => (fkey f.1 f.2.1, f.2.2 % 2 ^ fieldWidth f.1)))

/-! ### The fuse-class ceilings (R498) -/

/-- The word j of channel n's fuse class (R493). -/
def Body.fcWord (e : Env) (b : Body) (n j : Nat) : Nat := e.fuse (16 + 4 * b.rd .chClassFclass n + j)

/-- ρ = min(1, RSH_LO / RSH_NOM) as a fraction; RSH_LO counts 1 µΩ, RSH_NOM 10 pΩ (R498). -/
def Body.rho (e : Env) (b : Body) (n : Nat) : Nat × Nat :=
  let lo := bits (b.fcWord e n 3) 31 16 * 100000
  if lo = 0 then (1, 1) else (min lo (b.rsh n), b.rsh n)

/-- P_CEIL on the power scale: P_SOA_CEIL × ρ, truncated (R155, R498). -/
def Body.pCeil (e : Env) (b : Body) (n : Nat) : Nat :=
  let r := b.rho e n
  min 0x7FFF (bits (b.fcWord e n 0) 15 0 * r.1 * (b.pscale n).2 * 32768 / (4 * r.2 * (b.pscale n).1))

/-! ### The model step (R144, R145, R149, R153 to R155) -/

/-- P: the mean of the samples since the previous step (R144). -/
def meanP (ps : List Int) : Nat := (rshiftRound (ps.foldl (· + ·) 0) 3).toNat

/-- One step of a pole state (R145): K has MANT and EXP, G is UQ17.15, P is Q1.15. -/
def poleStep (mant exp g p : Nat) (t : Int) : Int :=
  clampInt (-(2 ^ 47)) (2 ^ 47 - 1) (t + rshiftRound ((mant : Int) * ((g * p * 2 ^ 13 : Nat) - t)) (24 + exp))

/-- The channel's temperature sensor counts: fitted and not declared open (R147, R151). -/
def Body.tsLive (b : Body) (n : Nat) : Bool := b.cd .chAmbcfgTsFitted n = 1 && !(b.en n).tsOpen

/-- AMB as a 12-bit code (R147). -/
def Body.amb (b : Body) (n : Nat) : Nat :=
  if b.cd .chAmbcfgAmbSrc n = 1 && b.tsLive n then (b.en n).tsMeas else b.cd .chAmbcfgAmbFixed n

/-- P_TH (R153): the numerator has LSB 2^-98 of 64 °C, ZLA 2^-15. -/
def Body.pTh (b : Body) (n : Nat) (poles : List Int) (tj : Nat) : Nat :=
  let k := dieOf n
  let eff : Int := min (b.cd .chSoacfgTjSoa n : Nat) ((b.cd .chTjtripTjTrip n : Nat) - 32)
  let h (i : Nat) : Int := coef55 (b.drd k .hcoefMant (4 * n + i), b.drd k .hcoefExp (4 * n + i))
  let num : Int := (eff - tj) * 2 ^ 88
    + ((List.range 4).foldl (fun a i => a + h i * poles.getD i 0) (0 : Int))
  if num ≤ 0 then 0
  else
    let z := b.drd k .zlaValue n
    if z = 0 then 0x7FFF else min 0x7FFF (num.toNat / (z * 2 ^ 68))

/-- The SOA points in use: (VDS_BP in 2 mV, P_MAX on the power scale) (R154). -/
def soaUsed : List (Nat × Nat) → List (Nat × Nat) → List (Nat × Nat)
  | [], acc => acc.reverse
  | p :: ps, [] => soaUsed ps [p]
  | p :: ps, q :: qs => soaUsed ps (if q.1 < p.1 then p :: q :: qs else q :: qs)

/-- Interpolation between the used points; v is VDS in units of 2 mV / 32 768 (R154). -/
def soaInterp (v : Int) : List (Nat × Nat) → Nat
  | [] => 0
  | [p] => p.2
  | p :: q :: ps =>
    if v ≤ (p.1 * 32768 : Nat) then p.2
    else if v ≤ (q.1 * 32768 : Nat) then
      (((p.2 : Int) * ((q.1 : Int) - p.1) * 32768 + ((q.2 : Int) - p.2) * (v - (p.1 * 32768 : Nat)))
        / (((q.1 : Int) - p.1) * 32768)).toNat
    else soaInterp v (q :: ps)

/-- P_SOA at VDS (R154). -/
def Body.pSoa (b : Body) (n : Nat) (vds : Int) : Nat :=
  let k := dieOf n
  let pts := (List.range 8).map fun j =>
    (b.drd k .soaVdsBp (8 * n + j),
     min 0x7FFF (b.drd k .soaPMax (8 * n + j) * (b.pscale n).2 * 32768 / (4 * (b.pscale n).1)))
  soaInterp (vds * 50000) (soaUsed pts [])

/-- PLIM and its source (R155). -/
def plimOf (th soa ceil : Nat) : Nat × Nat :=
  if th ≤ soa && th ≤ ceil then (th, 0) else if soa ≤ ceil then (soa, 1) else (ceil, 2)

/-- VDS of channel n (R98). -/
def Body.vds (b : Body) (n : Nat) : Int := sat16 ((b.loopIn (b.leadOf n)).busFf - (b.en n).out)

/-- The difference of model and measurement exceeds the band (R150). -/
def Body.mmFar (b : Body) (n : Nat) : Bool :=
  decide (4 * b.cd .chMismatchMmBand n < (((b.en n).tsMeas : Int) - ((b.en n).tsEst : Int)).natAbs)

/-- The checks of R150 run. -/
def Body.mmRuns (b : Body) (n : Nat) : Bool := b.cd .chAmbcfgAmbSrc n = 0 && b.tsLive n

/-- MISMATCH clears after MM_TIME within the band (R150); the record is EVENT 0x0004 of R435. -/
def Body.mmTrack (e : Env) (n : Nat) (b : Body) : Body :=
  if !b.mmRuns n then b.onEng n fun g => { g with mmSince := none }
  else if b.mmFar n = (b.en n).mismatch then b.onEng n fun g => { g with mmSince := none }
  else
    let t := (b.en n).mmSince.getD e.now
    if (b.en n).mismatch && decide (t + b.cd .chMismatchMmTime n * 100000000 ≤ e.now) then
      (b.onEng n fun g => { g with mismatch := false, mmSince := none }).event e.count 0x0004 n 0 (b.en n).tsMeas
        (b.en n).tsEst
    else b.onEng n fun g => { g with mmSince := some t }

/-- The model step of channel n. DESIGN CHOICE (log 175): TS_EST is rounded and saturated as R145 gives for TJ_EST. -/
def Body.thermalStep (e : Env) (n : Nat) (b : Body) : Body :=
  let k := dieOf n
  let g := b.en n
  let p := meanP g.ps
  let poles := (List.range 4).map fun i =>
    poleStep (b.drd k .kcoefMant (4 * n + i)) (b.drd k .kcoefExp (4 * n + i)) (b.drd k .gcoefValue (4 * n + i)) p
      (g.poles.getD i 0)
  let tj := satTemp ((b.amb n : Int) + polesTo12 (poles.foldl (· + ·) 0))
  let mask := b.cd .chAmbcfgSenseMask n
  let est := if b.cd .chAmbcfgAmbSrc n = 0 && b.cd .chAmbcfgTsFitted n = 1 then
      satTemp ((b.cd .chAmbcfgAmbFixed n : Int) + polesTo12 ((List.range 4).foldl (fun a i =>
        if bitAt mask i then a + poles.getD i 0 else a) 0))
    else 0
  let pl := plimOf (b.pTh n poles tj) (b.pSoa n (b.vds n)) (b.pCeil e n)
  let tjOver := decide (b.cd .chTjtripTjTrip n < tj) && decide (g.gate = .driven)
  let tsState := tripsIn 0x14 (b.ch (b.leadOf n)).state
  let tsOver := b.tsLive n && tsState && decide (b.cd .chTjtripTsTrip n < g.tsMeas)
  let b := b.onEng n fun h =>
    { h with poles := poles, ps := [], tjEst := tj, tsEst := est, plim := pl.1, plimSrc := pl.2, pHigh := max h.pHigh p
             tjOver := tjOver, tsOver := tsOver }
  let b := if tjOver && g.tjOver then b.dieTrip e n 0x13
    else if tsOver && g.tsOver then b.dieTrip e n 0x14 else b
  b.mmTrack e n

/-- The model of channel n runs: not in BENCH, nor while its die does nothing of its own (R362, R471). -/
def Body.modelRuns (b : Body) (n : Nat) : Bool := !b.dieOff (dieOf n) && decide ((b.ch (b.leadOf n)).state ≠ .bench)

/-- THERMAL_MODEL_STEP (R145). -/
def execThermalModelStep (n : ChIx) (s : State) : Out :=
  .next (s.onBody fun e b => if b.modelRuns n then b.thermalStep e n else b)

/-- MODEL_MISMATCH (R150): the difference has exceeded the band for MM_TIME. -/
def execModelMismatch (n : ChIx) (s : State) : Out :=
  match (s.body.en n).mmSince with
  | none => .next s
  | some t =>
    if (s.body.en n).mismatch || !s.body.modelRuns n then .next s
    else .next ((s.goTo (t + s.body.cd .chMismatchMmTime n * 100000000)).onBody fun e b =>
      ((b.onEng n fun g => { g with mismatch := true, mmSince := none }).raiseCh n .mismatch).event e.count 0x0004 n 1
        (b.en n).tsMeas (b.en n).tsEst)

/-! ### The hard trip (R158 to R160, R169) -/

/-- The threshold of channel n's comparator in µV, from its leader's code and scale; a code below 5 acts as 5 (R158, R169). -/
def Body.htThreshold (b : Body) (n : Nat) : Nat :=
  let l := b.leadOf n
  max 5 (b.cd .chHtripHtCode l) * (if b.cd .chHtripHtFine l = 1 then 125 else 500)

/-- The comparator of channel n: its output asserts, or falls back. Its latch acts in every state but BENCH; a TRIP is reported
where the gate is live, and by a STANDBY die whose channel its partner drives, though its own driver is high-impedance (R159, R160,
R460). -/
def Body.hardTrip (e : Env) (n : Nat) (above : Bool) (b : Body) : Body :=
  if !above then b.onEng n fun g => { g with htCmp := false }
  else if (b.ch (b.leadOf n)).state = .bench then b
  else
    let b' := b.onEng n fun g => { g with htCmp := true }
    if (b.en n).gate.live || (decide (b.role = .standby) && (b.ch (b.leadOf n)).eff.driven) then
      ((b'.onEng n fun g => { g with hardPulse := true }).capTriggerAll e (dieOf n) 2 (n % 16)).dieTrip e n 0x10
    else b'.latchGang e (b.leadOf n)

/-- HARDTRIP (R158, R159): CSP − CSN of channel n in µV, past the input filter, against the threshold. -/
def execHardtrip (n : ChIx) (uv : Int) (s : State) : Out :=
  .next (s.onBody fun e b => b.hardTrip e n (decide ((b.htThreshold n : Int) < uv)))

/-! ### FET short (R164) -/

/-- FET_SHORT (R164): the condition has held for FS_TIME. -/
def execFetShort (n : ChIx) (s : State) : Out :=
  match (s.body.en n).shortSince with
  | some t => .next ((s.goTo (t + msNs (s.body.cd .chFshortFsTime n))).onBody fun e b =>
      let l := b.leadOf n
      if (b.ch l).state = .fetFault then b else b.report e l .fetShort e.now)
  | none => .next s

/-! ### The bus window (R192, R195, R199) -/

/-- Follow the window of one leader at a BUS entry of its die: its qualify timer (R192), and the retry timer that a bus
trip stops outside the return window (R199). -/
def Body.busFollow (e : Env) (l : Nat) (b : Body) : Body :=
  let side := b.busSide l
  let back := b.busReturned l
  b.onCh l fun c =>
    { c with
      busOut := if !c.state.driven then none else
        match side, c.busOut with
        | none, _ => none
        | some s, some (t, s') => if s = s' then some (t, s') else some (e.now, s)
        | some s, none => some (e.now, s)
      busQual := c.busQual && decide (side = c.busOut.map (·.2)) && side.isSome
      retryLeft := if !c.busTrip then c.retryLeft else
        match c.retryEnd with
        | some t => if back then c.retryLeft else some (t - e.now)
        | none => if back then none else c.retryLeft
      retryEnd := if !c.busTrip then c.retryEnd else
        match c.retryLeft with
        | some r => if back then some (e.now + r) else c.retryEnd
        | none => if back then c.retryEnd else none }

/-- The bus window of a channel has qualified: a trip, or the event (R192, R195, R572). -/
def Body.busQualify (e : Env) (l : Nat) (high : Bool) (b : Body) : Body :=
  let reason := if high then 0x1A else 0x1B
  let b := b.raiseCh l (if high then .busOver else .busUnder)
  let b := b.onCh l fun c => { c with busQual := true }
  if b.policy l reason = 2 then b.event e.count 0x0006 l reason 0 0
  else b.deliver e l (.trip reason) e.now

/-- BUS_WINDOW_QUALIFY (R192): the qualify timer reaches BUS_TIME. -/
def execBusWindowQualify (n : ChIx) (s : State) : Out :=
  let l := s.body.leadOf n
  match (s.body.ch l).busOut with
  | some (t, high) => if (s.body.ch l).busQual then .next s else .next ((s.goTo (t + usNs (s.body.rd .chBuswinBusTime l * 10))).onBody fun e b =>
      if b.orch then b.busQualify e l high else b)
  | none => .next s

end Sys2Proof.Machine
end

