-- ==== Sys2Proof/Machine/Budget.lean ====
section
/-!
DEFINITION. The shelf budget and the stagger (chapter 06): the budget cycle, cuts, caps and their relaxation, the slot offer,
the global start and bus integrity.
-/

namespace Sys2Proof.Machine

open Sys2Proof

/-! ### Available power (R212, R213) -/

/-- The image in force enables a feeder, whatever overrides it (R212, R531). -/
def Body.feedersOn (b : Body) : Bool := (List.range 12).any fun f => sparseGet 0 b.boot.vals.given (fkey .fdrCfgEn f) = 2

/-- P_AVAIL in watts (R212). -/
def Body.pAvail (b : Body) : Nat :=
  if b.feedersOn then min (b.bdg .budgetShelfPShelf) (b.rd .feederCapFeederCap) else b.bdg .budgetShelfPShelf

/-- The effective guarantees of four classes within p watts: lower classes give way first (R213). -/
def effGuar (g0 g1 g2 g3 p : Nat) : List Nat :=
  let e0 := min g0 p
  let e1 := min g1 (p - e0)
  let e2 := min g2 (p - e0 - e1)
  [e0, e1, e2, min g3 (p - e0 - e1 - e2)]

/-- Step 1 of the budget cycle: P_AVAIL, held during hold-up, G_EFF and P_POOL (R212, R213, R233). DESIGN CHOICE (log 205):
FEEDER_LIMITED is 0 where the image enables no feeder. -/
def Body.availability (b : Body) : Body :=
  let b := (if b.holdup then b else b.wr .budgetAvailPAvail 0 b.pAvail).wr .budgetAvailFeederLimited 0
    (bit (b.feedersOn && decide (b.rd .feederCapFeederCap < b.bdg .budgetShelfPShelf)))
  let p := b.rd .budgetAvailPAvail
  let g := effGuar (b.bdg .budgetGuarValue 0) (b.bdg .budgetGuarValue 1) (b.bdg .budgetGuarValue 2) (b.bdg .budgetGuarValue 3) p
  let b := (List.range 4).foldl (fun b c => b.wr .budgetGeffValue c (g.getD c 0)) b
  b.wr .budgetPoolValue 0 (p - g.foldl (· + ·) 0)

/-- The readouts of the reservations: BRES, BGUAR, RESSUM and CLASSRES (R240, R246, R252). DESIGN CHOICE (log 206): they show the
whole watts of what the module counts in milliwatts. -/
def Body.showRes (b : Body) : Body :=
  let ns := b.leadersIn ChState.driven
  let clear := fun (f : Fld) (b : Body) => (regEntries b.regs f).foldl (fun b l => b.wr f l.1 0) b
  let b := clear .chBguarGpart (clear .chBresRes b)
  let b := b.forEach ns fun n b => (b.wr .chBresRes n (b.resMw n / 1000)).wr .chBguarGpart n (b.guarMw n / 1000)
  let b := (List.range 4).foldl (fun b c => b.wr .budgetClassresValue c (b.classMw c / 1000)) b
  b.wr .budgetRessumValue 0 (b.sumMw / 1000)

/-! ### Cuts (R216, R217) -/

/-- The running leaders of class c in reverse admission order. -/
def Body.cutOrder (b : Body) (c : Nat) : List Nat := (b.admitted.filter fun n => b.pclass n = c).reverse

/-- The code of a cap of w watts (R218). -/
def Body.capCode (b : Body) (n w : Nat) : Nat :=
  min 0x7FFF (max 1 (w * 32768 * (b.pscale n).2 / ((b.membersOf n).length * (b.pscale n).1)))

/-- Set a cap of w watts (R218); guaranteed says the tier (R217). -/
def Body.setCap (n w : Nat) (guaranteed : Bool) (b : Body) : Body :=
  let b := (b.onCh n fun c => { c with capOn := true, capW := w, capGuar := guaranteed }).fwd n [(.chCapPCap, b.capCode n w)]
  if (b.ch n).state = .capped then b.setReason n (if guaranteed then 0x25 else 0x21) else b

/-- A cap of w watts can lower channel n: it is not in RAMP, has a CAP_FLOOR, and holds more than the cap (R217). -/
def Body.canCap (b : Body) (n w : Nat) : Bool :=
  (b.ch n).eff.running && decide (b.bdg .chBallocCapFloor n ≠ 0) && decide (w * 1000 < b.resMw n)

/-- A shed has been recorded in a held channel already (R69). -/
def Chan.shedWaits (c : Chan) : Bool := c.heldEvs.any fun ev => match ev.1 with
  | .shedCmd _ => true
  | _ => false

/-- Send SHED_CMD (R217). -/
def Body.shedCmd (e : Env) (n reason : Nat) (b : Body) : Body :=
  if (b.ch n).shedWaits then b else b.deliver e n (.shedCmd reason) e.now

/-- FAVOURED of a cut in the guaranteed tier: the lowest-ranked guaranteed claim left uncut in the channel's own and higher
classes, admitted latest; 0xFE for none (R217). -/
def Body.favoured (b : Body) (n : Nat) : Nat :=
  let cand := b.admitted.filter fun m => decide (m ≠ n) && decide (b.pclass m ≤ b.pclass n) && !(b.ch m).capGuar &&
    decide (0 < (if b.pclass m = 0 then b.resMw m else b.guarMw m))
  let low := cand.foldl (fun a m => max a (b.pclass m)) 0
  ((cand.filter fun m => b.pclass m = low).getLast?).getD 0xFE

/-- Cut the pool tier of class c until the sum is at or below a target (R217). -/
def Body.cutPool (e : Env) (c target : Nat) (b : Body) : Body :=
  let b := b.forEach (b.cutOrder c) fun n b =>
    let w := max (b.bdg .chBallocCapFloor n) (b.guarMw n / 1000)
    if target < b.sumMw && b.canCap n w then b.setCap n w false else b
  b.forEach (b.cutOrder c) fun n b =>
    if target < b.sumMw && b.guarMw n = 0 then b.shedCmd e n 0x22 else b

/-- Cut the guaranteed tier of class c (R217). -/
def Body.cutGuar (e : Env) (c target : Nat) (b : Body) : Body :=
  let b := b.forEach (b.cutOrder c) fun n b =>
    let w := b.bdg .chBallocCapFloor n
    if target < b.sumMw && b.canCap n w then
      let f := b.favoured n
      let b := b.setCap n w true
      b.yieldTo e n 3 f (b.ch n).state
    else b
  b.forEach (b.cutOrder c) fun n b =>
    if target < b.sumMw && !(b.ch n).shedWaits then
      let f := b.favoured n
      (b.shedCmd e n 0x25).yieldTo e n 3 f .shed
    else b

/-- The channel of a record (R416). -/
def LRec.chan (r : LRec) : Nat := r.units.headD 0 / 2 ^ 72 % 256

/-- A record in its place by channel; records of one channel keep their order. -/
def insertRec (r : LRec) : List LRec → List LRec
  | [] => [r]
  | x :: xs => if r.chan < x.chan then r :: x :: xs else x :: insertRec r xs

/-- Records behind those of a list follow in ascending channel number. -/
def recsAscend (old new : List LRec) : List LRec :=
  old ++ (new.drop old.length).foldl (fun acc r => insertRec r acc) []

/-- The records of one step of R236 follow the channel numbers, whatever the order of its decisions. -/
def Body.inStep (f : Body → Body) (b : Body) : Body :=
  let b' := f b
  { b' with
    rcd := { b'.rcd with
      stream := recsAscend b.rcd.stream b'.rcd.stream
      sharedSince := recsAscend b.rcd.sharedSince b'.rcd.sharedSince }
    twin := { b'.twin with pass := recsAscend b.twin.pass b'.twin.pass } }

/-- The tiers in the order of R217: (guaranteed, class), with ranks 0 to 5 (R216). -/
def tiers : List (Bool × Nat) := [(false, 3), (false, 2), (false, 1), (true, 3), (true, 2), (true, 1)]

/-- Cut claims of ranks below a bound until the sum is at or below a target in mW (R217, R221). -/
def Body.cutTo (e : Env) (rank target : Nat) (b : Body) : Body :=
  (tiers.take rank).foldl (fun b t =>
    if b.sumMw ≤ target then b
    else if t.1 then b.cutGuar e t.2 target else b.cutPool e t.2 target) b

/-! ### Relaxation (R219) -/

/-- The channels with a cap, highest claim first, within a rank in admission order (R219). -/
def Body.capOrder (b : Body) : List Nat :=
  let cs := b.admitted.filter fun n => (b.ch n).capOn
  let rank (n : Nat) : Nat := if 0 < b.guarMw n then b.pclass n else 4 + b.pclass n
  orderBy (fun x y => rank x < rank y) cs

/-- Remove the caps that the margin allows (R219). -/
def Body.uncap (b : Body) : Body :=
  let lim := b.availMw - b.bdg .budgetRelaxRelaxMargin * 1000
  b.forEach b.capOrder fun n b =>
    if b.sumMw - b.resMw n + b.openMw n ≤ lim && b.bdg .budgetRelaxRelaxMargin * 1000 ≤ b.availMw then
      let b := b.endCap n
      if (b.ch n).state = .capped then b.setReason n 0x21 else b
    else b

/-- Step 3 of the budget cycle, which tests the sums as step 2 leaves them (R219; DESIGN CHOICE, log 207): in hold-up the condition is followed, and nothing is relaxed (R233). -/
def Body.relax (e : Env) (b : Body) : Body :=
  if b.sumMw + b.bdg .budgetRelaxRelaxMargin * 1000 ≤ b.availMw then
    let t := b.bud.relaxSince.getD e.now
    if t + b.bdg .budgetRelaxRelaxTime * 100000000 ≤ e.now && b.anyCap && !b.holdup then
      let b := b.uncap
      { b with bud := { b.bud with relaxSince := some e.now } }
    else { b with bud := { b.bud with relaxSince := some t } }
  else { b with bud := { b.bud with relaxSince := none } }

/-! ### Slots (R221, R226, R243) -/

/-- Admission is paused: freeze, brace, hold-up, bus integrity, SOLO hold (R229, R233, R243, R479, R579, R583). -/
def Body.paused (b : Body) : Bool := b.higherPause || b.bud.busLow.isSome || b.flag .modBootSoloHeld

/-- R_START fits in the free headroom (R221). -/
def Body.fits (b : Body) (n : Nat) : Bool := decide (b.sumMw + b.startMw n ≤ b.availMw) && decide (0 < b.availMw)

/-- The number of tiers a request may cut (R216, R221). -/
def Body.reqRank (b : Body) (n : Nat) : Nat :=
  let c := b.pclass n
  if c = 0 then 6 else if b.classMw c + b.startMw n ≤ b.geffMw c then 6 - c else 3 - c

/-- The slot is used up. -/
def Body.closeSlot (b : Body) : Body := { b with bud := { b.bud with openSlot := none, cutsFor := none } }

/-- GRANT through the channel's machine; the open slot is used (R221, R226). -/
def Body.grantSlot (e : Env) (n : Nat) (b : Body) : Body := (b.deliver e n .grant e.now).closeSlot

/-- The first channel that fits without a cut (R221: OVERTAKE). -/
def Body.overtake (e : Env) (rest : List Nat) (b : Body) : Body :=
  if b.bdg .budgetCtrlOvertake ≠ 1 then b
  else match rest.find? fun n => (b.refusal n).isNone && b.fits n with
    | some n => b.grantSlot e n
    | none => b

/-- Offer the open slot in queue order; a refused head passes it on (R221, R222). -/
def Body.offer (e : Env) : List Nat → Body → Body
  | [], b => b.closeSlot
  | n :: rest, b =>
    match b.refusal n with
    | some r => Body.offer e rest (b.deliver e n (.refuse r) e.now)
    | none =>
      if b.fits n then b.grantSlot e n
      else
        let cut := b.cutTo e (b.reqRank n) (b.availMw - b.startMw n)
        if 0 < b.availMw && b.startMw n ≤ b.availMw && cut.sumMw + cut.startMw n ≤ cut.availMw then
          { cut with bud := { cut.bud with cutsFor := some n } }
        else ({ b with bud := { b.bud with cutsFor := none } } : Body).overtake e rest

/-- Offer the open slot unless admission is paused. -/
def Body.offerSlot (e : Env) (b : Body) : Body :=
  if b.bud.openSlot.isNone || b.paused || b.zq5016 then b else b.inStep fun b => Body.offer e b.queue b

/-- STAGGER_SLOT (R226): the next slot of the plan opens. -/
def execStaggerSlot (s : State) : Out :=
  match s.body.bud.openSlot, s.body.nextSlot, s.body.orch && !s.body.froze with
  | none, some t, true =>
    .next ((s.goTo t).onBody fun e b =>
      let plan := b.bud.plan.map fun p => { p with j := p.j + 1 }
      ({ b with bud := { b.bud with openSlot := some e.now, plan := plan } } : Body).offerSlot e)
  | _, _, _ => .next s

/-! ### The budget cycle (R215) -/

/-- The instant of the next budget cycle: 250 µs after a whole millisecond of the count. -/
def nextCycle (e : Env) (b : Body) : Nat :=
  let d := (1250000 - e.count % 1000000) % 1000000
  e.now + (if d = 0 && e.now = b.bud.lastCycle then 1000000 else d)

/-- What was written since the last cycle comes into force; where a level of the ladder is among it, the ladders follow (R215, R320). -/
def Body.takeWritten (b : Body) : Body :=
  let moved := b.bud.old.any fun kv => (keyFld kv.1).onLadder
  let b : Body := { b with bud := { b.bud with old := [] } }
  if moved then b.loadLadders else b

/-- One budget cycle. -/
def Body.budgetCycle (e : Env) (b : Body) : Body :=
  let b := b.takeWritten.availability
  let b := (if b.holdup then b else b.inStep fun b => b.cutTo e 6 b.availMw).relax e
  let b := b.showRes
  let b := b.offerSlot e
  { b with bud := { b.bud with lastCycle := e.now } }

/-- Budget cycles start: HUB orchestrates, no thermal freeze, no Seam past T_P (R462, R580). -/
def Body.cycles (b : Body) : Bool := b.orch && !b.flag .healthStatFreeze && !b.froze

/-- BUDGET_CYCLE (R215). -/
def execBudgetCycle (s : State) : Out :=
  if s.body.cycles then .next ((s.goTo (nextCycle s.env s.body)).onBody fun e b => b.budgetCycle e) else .next s

/-- QUEUE_LIMIT_EXPIRE (R223); not while admission is held (R479). -/
def execQueueLimitExpire (n : ChIx) (s : State) : Out :=
  let l := s.body.leadOf n
  let lim := s.body.bdg .budgetQlimitQueueLimit (s.body.pclass l)
  if (s.body.ch l).state ≠ .queued || lim = 0 || !s.body.orch || s.body.flag .modBootSoloHeld then .next s
  else .next ((s.goTo ((s.body.ch l).queuedT + lim * 1000000000)).onBody fun e b => b.deliver e l (.refuse 0x23) e.now)

/-- GO: GRANT to each selected channel that fits (R228). -/
def Body.gstart (e : Env) (b : Body) : Body :=
  if !b.zq5016 || b.paused || !b.orch then b
  else b.forEach (b.queue.filter fun n => bitAt (b.rd .budgetGselSel (n / 32)) (n % 32)) fun n b =>
    if b.fits n then b.deliver e n .grant e.now else b

/-- GSTART_GO (R228). -/
def execGstartGo (s : State) : Out := .next (s.onBody fun e b => b.gstart e)

/-! ### Bus integrity (R229) -/

/-- The lowest of the eight BUS entries is at or above a level of 0.1 V units (R229, R286). -/
def Body.busAtLeast (b : Body) (u : Nat) : Bool := (List.range 8).all fun k => b.busGe k u

/-- The crossings of BUS_MIN and BUS_MIN + 0.5 V: admission pauses or resumes, and the count of BUS_MIN_TIME runs while the
lowest entry is below BUS_MIN. -/
def Body.busMinFollow (e : Env) (b : Body) : Body :=
  let lim := b.bdg .budgetBusminBusMin
  if !b.busAtLeast lim then
    { b with bud := { b.bud with busLow := some (b.bud.busLow.getD e.now), busShedT := some (b.bud.busShedT.getD e.now) } }
  else if b.busAtLeast (lim + 5) then
    let b := { b with bud := { b.bud with busLow := none, busShedT := none } }
    b.forEach ((List.range 128).filter fun n => (b.ch n).pauseYield) fun n b => b.onCh n fun c => { c with pauseYield := false }
  else { b with bud := { b.bud with busShedT := none } }

/-- BUS_MIN_CROSSING (R229). -/
def execBusMinCrossing (s : State) : Out := .next (s.onBody fun e b => if b.orch then b.busMinFollow e else b)

/-- The rank of a channel's lowest claim: its pool part, or its guaranteed part when it holds no pool part (R216, R229). -/
def Body.lowRank (b : Body) (n : Nat) : Nat :=
  if b.guarMw n = 0 || b.guarMw n < b.resMw n then 3 - b.pclass n else 6 - b.pclass n

/-- The channel with the lowest-ranked claim, in reverse admission order, never PC0 (R229). -/
def Body.lowestClaim (b : Body) : Option Nat :=
  let cand := (b.admitted.reverse).filter fun n => decide (b.pclass n ≠ 0) && !(b.ch n).shedWaits
  (orderBy (fun x y => b.lowRank x < b.lowRank y) cand).head?

/-- BUS_MIN_SHED (R229): the lowest entry has stayed below BUS_MIN for BUS_MIN_TIME. -/
def execBusMinShed (s : State) : Out :=
  match s.body.bud.busShedT, s.body.orch && !s.body.froze with
  | some t, true =>
    .next ((s.goTo (t + s.body.bdg .budgetBusminBusMinTime * 100000)).onBody fun e b =>
      let b := { b with bud := { b.bud with busShedT := some e.now } }
      match b.lowestClaim with
      | none => b
      | some n =>
        if b.lowRank n < 3 then b.shedCmd e n 0x22 else (b.shedCmd e n 0x25).yieldTo e n 3 0xFF .shed)
  | _, _ => .next s

end Sys2Proof.Machine
end

