-- ==== Sys2Proof/Machine/HoldUp.lean ====
section
/-!
DEFINITION. Hold-up (chapter 06): the triggers, the four stages, the return of input, and what a BUS entry does beside them.
-/

namespace Sys2Proof.Machine

open Sys2Proof

/-- Change the hold-up sequencer. -/
def Body.onHu (f : HoldUp → HoldUp) (b : Body) : Body := { b with bud := { b.bud with hu := f b.bud.hu } }

/-- A trigger is present (R234). -/
def HoldUp.any (h : HoldUp) : Bool := h.acfail || h.feeder || h.bus

/-! ### The battery units' pins (R526) -/

/-- The module drives the battery units' pins: SOLO or ACTIVE, from the first image application; the outgoing module of a Seam up to the
confirmation of its gates (R526, R529). -/
def Body.bbuDrives (b : Body) : Bool := (b.role = .solo || b.role = .active) && b.boot.imaged && !b.hubDown

/-- The code driven to battery unit u (R526). -/
def Body.bbuCode (b : Body) (u : Nat) : Nat :=
  if !b.bbuDrives then 3
  else if b.holdup then b.rd .bbuCfgSelHoldup u
  else if b.flag .bbuCfgForce u then b.rd .bbuCfgSelForce u
  else 3

/-- Drive the codes; a change writes EVENT 0x0403 with its cause. -/
def Body.bbuSet (e : Env) (cause : Nat) (b : Body) : Body :=
  b.forEach [0, 1] fun u b =>
    let c := b.bbuCode u
    if c = b.rd .bbuStatDriven u then b else (b.wr .bbuStatDriven u c).event e.count 0x0403 0xFF u c cause

/-- The pins are released (R526). -/
def Body.bbuRelease (e : Env) (b : Body) : Body :=
  b.forEach [0, 1] fun u b => (b.wr .bbuStatDriven u 3).event e.count 0x0403 0xFF u 3 4

/-! ### The sequence -/

/-- The levels of the stages follow the lowest BUS entry from the trigger onwards (R232); stage 3 has none. -/
def Body.stageLevels (b : Body) : Body :=
  if !b.holdup then b
  else
    let hit := [1, 2, 4].filter fun st =>
      let v := b.bdg .budgetHustageStageV (st - 1)
      decide (v ≠ 0) && !b.busAtLeast v && !b.bud.hu.reached.contains st
    b.onHu fun h => { h with reached := hit ++ h.reached }

/-- Start a sequence (R230, R232). -/
def Body.startHoldup (e : Env) (t : HoldTrig) (b : Body) : Body :=
  let b := (((b.wr .budgetHustatTrigAcfail 0 (bit (t = .acfail))).wr .budgetHustatTrigFeeder 0 (bit (t = .feeder))).wr
    .budgetHustatTrigBus 0 (bit (t = .bus))).wr .budgetHustatActive 0 1
  let b := ((b.wr .budgetHustatDoneStage 0 0).wr .budgetHustatRunStage 0 0).wr .budgetHutimeTime 0 e.count
  let b := b.onHu fun h =>
    { h with trigT := e.now, prevEnd := e.now, stageT := e.now, reached := [], waitGates := [], returned := false,
             retEnd := none, done4 := false, verified := false, shedClasses := [] }
  ((b.stageLevels.holdupRec e 1).calInterrupt e).bbuSet e 1

/-- A trigger appears: RETURN_QUAL stops, and a sequence starts unless one runs (R230, R234); a module that does not orchestrate
keeps the mirrored triggers (R237). The session of a STANDBY module ends too (R353). -/
def Body.holdTrigger (e : Env) (t : HoldTrig) (b : Body) : Body :=
  if !b.orch then b.calInterrupt e else
  let b := b.onHu fun h =>
    { h with acfail := h.acfail || t = .acfail, feeder := h.feeder || t = .feeder, bus := h.bus || t = .bus, retEnd := none }
  let b := b.wr .budgetHustatReturning 0 0
  if b.holdup then b else b.startHoldup e t

/-- Every trigger is clear; a clear bus trigger is a lowest BUS entry at or above BUS_WARN + 1.0 V (R234). -/
def Body.trigClear (b : Body) : Bool := !b.bud.hu.any && b.busAtLeast (b.bdg .budgetHoldupBusWarn + 10)

/-- RETURN_QUAL runs while a sequence runs and every trigger is clear (R234). -/
def Body.returnFollow (e : Env) (b : Body) : Body :=
  if !b.holdup || b.bud.hu.returned then b
  else if !b.trigClear then (b.onHu fun h => { h with retEnd := none }).wr .budgetHustatReturning 0 0
  else if b.bud.hu.retEnd.isSome then b
  else (b.onHu fun h => { h with retEnd := some (e.now + msNs (b.bdg .budgetHoldupReturnQual * 10)) }).wr
    .budgetHustatReturning 0 1

/-- A trigger clears (R234); a module that does not orchestrate keeps the mirrored ones (R237). -/
def Body.holdClear (e : Env) (t : HoldTrig) (b : Body) : Body :=
  if !b.orch then b else
  (b.onHu fun h =>
    { h with acfail := h.acfail && t ≠ .acfail, feeder := h.feeder && t ≠ .feeder, bus := h.bus && t ≠ .bus }).returnFollow e

/-- A feeder input failure is present (R230, R516). -/
def Body.feederTrig (b : Body) : Bool := b.flag .feederStatInfailTrig

/-- ACFAIL_N_CLEAR (R234). -/
def execAcfailNClear (s : State) : Out := .next (s.onBody fun e b => b.holdClear e .acfail)

/-- The class a stage sheds (R231). -/
def stageClass (st : Nat) : Option Nat :=
  match st with
  | 1 => some 3 | 2 => some 2 | 4 => some 1 | _ => none

/-- The channels a stage of class c sheds (R231). -/
def Body.stageChannels (b : Body) (c : Nat) : List Nat :=
  (b.leadersIn fun st => st.driven || st = .queued).filter fun n => b.pclass n = c

/-- Start stage st (R231, R232). -/
def Body.startStage (e : Env) (st : Nat) (b : Body) : Body :=
  let b := (b.wr .budgetHustatRunStage 0 st).onHu fun h => { h with stageT := e.now, waitGates := [] }
  match stageClass st with
  | none => ((b.onHu fun h => { h with verified := false }).writeCkpt e.count).stageOut e
  | some c =>
    let ns := b.stageChannels c
    let b := b.onHu fun h =>
      { h with shedClasses := c :: h.shedClasses
               waitGates := (ns.filter fun n => (b.ch n).eff.driven).flatMap b.membersOf }
    b.forEach ns fun n b => b.deliver e n (.shedCmd 0x24) e.now

/-- HOLDUP_STAGE_START (R232): at DELAY after the previous stage, or at its level. -/
def execHoldupStageStart (s : State) : Out :=
  let b := s.body
  let st := b.rd .budgetHustatDoneStage + 1
  if !b.holdup || b.rd .budgetHustatRunStage ≠ 0 || 4 < st || b.bud.hu.returned || !b.orch || b.froze then .next s
  else
    let t := if b.bud.hu.reached.contains st then b.bud.hu.prevEnd
      else b.bud.hu.prevEnd + msNs (b.bdg .budgetHustageDelay (st - 1))
    .next ((s.goTo t).onBody fun e b => b.startStage e st)

/-- The sequence ends: channels shed by hold-up become eligible, balancing starts a new period (R233 to R235, R521). -/
def Body.endHoldup (e : Env) (b : Body) : Body :=
  let b := (((b.wr .budgetHustatActive 0 0).wr .budgetHustatReturning 0 0).bbuSet e 2)
  let b := ((b.wr .budgetHustatTrigAcfail 0 0).wr .budgetHustatTrigFeeder 0 0).wr .budgetHustatTrigBus 0 0
  let b := { b with fdr := { b.fdr with balT := e.now } }
  let b := b.onHu fun h => { h with retEnd := none, returned := false, done4 := false, shedClasses := [], waitGates := [] }
  b.forEach ((List.range 128).filter fun n => (b.ch n).eff = .shed &&
      (if (b.ch n).state = .held then (b.ch n).priorReason else (b.ch n).reason) = 0x24) fun n b =>
    b.onCh n fun c => { c with eligible := true }

/-- The return qualifies between stages or after stage 4 (R234). -/
def Body.finishHoldup (e : Env) (b : Body) : Body :=
  if b.bud.hu.done4 then (b.holdupRec e 4).endHoldup e
  else ((b.wr .budgetHustatAborted 0 1).holdupRec e 3).endHoldup e

/-- Stage st ends (R231, R234). -/
def Body.endStage (e : Env) (st : Nat) (b : Body) : Body :=
  let b := (b.wr .budgetHustatRunStage 0 0).wr .budgetHustatDoneStage 0 st
  let b := b.onHu fun h => { h with prevEnd := e.now, waitGates := [] }
  let b := if st = 4 then ((b.wr .budgetHustatCompleted 0 1).onHu fun h => { h with done4 := true }).holdupRec e 2 else b
  if b.bud.hu.returned then b.finishHoldup e else b

/-- Every gate the stage waits for is reported at source (R231). -/
def Body.gatesDown (b : Body) : Bool := b.bud.hu.waitGates.all fun n => (b.en n).fsFrom.isSome

/-- HOLDUP_STAGE_END (R231): its gates at source, or 2 ms after the commands; stage 3 when its checkpoint is verified. -/
def execHoldupStageEnd (s : State) : Out :=
  let b := s.body
  let st := b.rd .budgetHustatRunStage
  if st = 0 || !b.orch then .next s
  else if st = 3 then
    if b.bud.hu.verified then .next ((s.goTo (b.bud.hu.stageT + 1000000)).onBody fun e b => b.endStage e 3) else .next s
  else
    let t := if b.gatesDown then s.time.elapsed else b.bud.hu.stageT + 2000000
    .next ((s.goTo t).onBody fun e b => b.endStage e st)

/-- HOLDUP_RETURN (R234): RETURN_QUAL has passed with every trigger clear. -/
def execHoldupReturn (s : State) : Out :=
  match s.body.bud.hu.retEnd with
  | some t => if !s.body.orch then .next s else .next ((s.goTo t).onBody fun e b =>
      let b := (b.onHu fun h => { h with retEnd := none }).wr .budgetHustatReturning 0 0
      if b.rd .budgetHustatRunStage ≠ 0 then b.onHu fun h => { h with returned := true } else b.finishHoldup e)
  | none => .next s

/-- The bus trigger: below BUS_WARN it qualifies, at or above BUS_WARN + 1.0 V it is clear (R230, R234). -/
def Body.warnFollow (e : Env) (b : Body) : Body :=
  let w := b.bdg .budgetHoldupBusWarn
  let b := b.onHu fun h =>
    { h with warnSince := if b.busAtLeast w then none else if h.bus then h.warnSince else some (h.warnSince.getD e.now) }
  (b.onHu fun h => { h with bus := h.bus && !b.busAtLeast (w + 10) }).returnFollow e

/-- A new BUS entry of die k: the windows of its channels, the hold-up levels and the bus trigger (R192, R199, R230, R232). -/
def Body.busSample (e : Env) (k : Nat) (b : Body) : Body :=
  let b := b.forEach (((List.range 16).map fun i => 16 * k + i).filter fun n => !b.isMember n) fun n b => b.busFollow e n
  if b.orch then b.stageLevels.warnFollow e else b

end Sys2Proof.Machine
end

