-- ==== Sys2Proof/Machine/Clamp.lean ====
section
/-!
DEFINITION. The ceilings of a channel's fuse class (R498, R158, R197, R201) and how a value is held to them (R39, R56).
-/

namespace Sys2Proof.Machine

open Sys2Proof

/-- The fields bounded by a ceiling: (field, index, lowest, highest) (R498). DESIGN CHOICE (log 175): P_SOA_CEIL × ρ is truncated to
the 0.25 W of P_MAX (R188). -/
def Body.bounds (e : Env) (b : Body) (n : Nat) : List (Fld × Nat × Nat × Nat) :=
  let w (j : Nat) := b.fcWord e n j
  let r := b.rho e n
  let iCeil := bits (w 0) 31 16
  let pCeil := bits (w 0) 15 0
  let eMax := bits (w 1) 31 16
  let tj := bits (w 2) 31 20
  let f := b.ifs n
  [(.chIlimIlim, n, 0, iCeil * r.1 * f.2 * 32768 / (100 * r.2 * f.1)),
   (.chEsoaESoa, n, 0, eMax * r.1 / r.2),
   (.chLimitcfgIlimTmax, n, 4, max 4 (if pCeil = 0 then 0 else eMax * 1600 / pCeil)),
   (.chTjloopTjLim, n, 0, tj), (.chSoacfgTjSoa, n, 0, tj), (.chTjtripTjTrip, n, 0, tj), (.chTjtripTsTrip, n, 0, tj),
   (.chRetryDarnMax, n, 0, bits (w 2) 19 16),
   (.chRetryRetryInterval, n, b.retryMin e n, 60000)]
  ++ (List.range 8).map fun j => (.soaPMax, 8 * n + j, 0, pCeil * r.1 / r.2)

/-- Record that field f at index i of channel n is held by a ceiling, or no longer is, and form CLAMPED (R56). -/
def Body.markClamp (n : Nat) (f : Fld) (i : Nat) (held : Bool) (b : Body) : Body :=
  let k := fkey f i
  let b := b.onCh n fun c =>
    { c with clamps := if held then (if c.clamps.contains k then c.clamps else k :: c.clamps) else c.clamps.filter (· ≠ k) }
  b.wr .chStatusClamped n (bit (!(b.ch n).clamps.isEmpty))

/-- Hold one bounded field to its range; asked says that the value has just been written (R498). -/
def Body.holdField (n : Nat) (asked : Bool) (c : Fld × Nat × Nat × Nat) (b : Body) : Body :=
  let v := b.rd c.1 c.2.1
  let v' := max c.2.2.1 (min c.2.2.2 v)
  if v' = v then (if asked then b.markClamp n c.1 c.2.1 false else b)
  else (b.wr c.1 c.2.1 v').markClamp n c.1 c.2.1 true

/-- The hard-trip code and scale under HARDTRIP_MAX, which counts 0.125 mV: (HT_FINE, HT_CODE) (R158). -/
def hardTripFit (fine code hmax : Nat) : Nat × Nat :=
  if fine = 0 then
    if code * 4 ≤ hmax then (0, code)
    else if 5 ≤ hmax / 4 then (0, hmax / 4)
    else (1, min 255 hmax)
  else (1, min code (min 255 hmax))

/-- Hold the hard-trip threshold to HARDTRIP_MAX (R158). -/
def Body.holdHardTrip (e : Env) (n : Nat) (asked : Bool) (b : Body) : Body :=
  let fine := b.rd .chHtripHtFine n
  let code := b.rd .chHtripHtCode n
  let r := hardTripFit fine code (bits (b.fcWord e n 2) 9 0)
  if r = (fine, code) then (if asked then b.markClamp n .chHtripHtCode n false else b)
  else ((b.wr .chHtripHtFine n r.1).wr .chHtripHtCode n r.2).markClamp n .chHtripHtCode n true

/-- Hold every bounded field of channel n; asked names the fields just written, by key (R39, R498). -/
def Body.holdAll (e : Env) (n : Nat) (asked : List Nat) (b : Body) : Body :=
  let b := (b.bounds e n).foldl (fun b c => b.holdField n (asked.contains (fkey c.1 c.2.1)) c) b
  b.holdHardTrip e n (asked.contains (fkey .chHtripHtCode n) || asked.contains (fkey .chHtripHtFine n))

/-- The bounded fields that are forwarded, as HUB holds them now: (field, index, value). -/
def Body.boundValues (e : Env) (b : Body) (n : Nat) : List (Fld × Nat × Nat) :=
  ((b.bounds e n).filter fun c => c.1 ≠ .chRetryDarnMax && c.1 ≠ .chRetryRetryInterval).map
      (fun c => (c.1, c.2.1, b.rd c.1 c.2.1))
    ++ [(.chHtripHtFine, n, b.rd .chHtripHtFine n), (.chHtripHtCode, n, b.rd .chHtripHtCode n)]

/-! ### Rescaling at a change of sense range (R101) -/

/-- A current value moved to a full scale 4 times as large (up false) or as small (up true), saturated to Q1.15 (R101). -/
def rescale (up : Bool) (v : Nat) : Nat := min 0x7FFF (if up then v * 4 else fracRound v 4)

/-- The fields that HUB sends with a change of range (R101, R146). DESIGN CHOICE (log 175): HEM saturates at the largest value of its
14-bit field, which cannot hold the Q1.15 range. -/
def Body.rangeFields (e : Env) (n : Nat) (up : Bool) (b : Body) : Body :=
  let cap := b.rd .chCapPCap n
  let b := (b.wr .chIlimIlim n (max 1 (rescale up (b.rd .chIlimIlim n)))).wr .chLoopcfgHem n
    (min 0x3FFF (max 1 (rescale up (b.rd .chLoopcfgHem n))))
  let b := (b.wr .chFfstatFfI n (rescale up (b.rd .chFfstatFfI n))).wr .chCapPCap n
    (if cap = 0x7FFF then 0x7FFF else rescale up cap)
  let b := b.holdAll e n []
  let fs := [(Fld.chIlimIlim, n, b.rd .chIlimIlim n), (.chLoopcfgHem, n, b.rd .chLoopcfgHem n),
    (.chFfstatFfI, n, b.rd .chFfstatFfI n), (.chCapPCap, n, b.rd .chCapPCap n)] ++ b.boundValues e n ++ b.coefs n
  -- one frame carries the change and its fields: they are applied at the die with it
  let b := fs.foldl (fun b f => b.wr f.1 f.2.1 f.2.2) b
  fs.foldl (fun b f => b.dwr (dieOf n) f.1 f.2.1 f.2.2) b

end Sys2Proof.Machine
end

