-- ==== Sys2Proof/Machine/MeterPath.lean ====
section
/-!
DEFINITION. The metering path of a channel (R323 to R329): calibrated voltage and sense voltage, the pairing with OUT, the
energy of each current sample, and the sums of a trend interval.
-/

namespace Sys2Proof.Machine

open Sys2Proof

/-! ### The calibration bank in force (R345, R347) -/

/-- The words of the bank in force. -/
def Body.bank (b : Body) : Sparse :=
  match b.rd .metaCalstatBank with
  | 0 => b.mtr.bank0
  | 1 => b.mtr.bank1
  | _ => b.mtr.bankM

/-- Word w of channel record n. -/
def Body.chRec (b : Body) (n w : Nat) : Nat := sparseGet 0 b.bank (128 + 9 * n + w)

/-- Word w of die record k. -/
def Body.dieRec (b : Body) (k w : Nat) : Nat := sparseGet 0 b.bank (64 + 8 * k + w)

/-- V of R323 for an extended result x of full scale fs volts, from the gain and offset words: LSB 10^-9 × 2^-19 V. -/
def calV (g o : Nat) (fs : Nat) (x : Int) : Int :=
  (1000000000 + toSigned 32 g) * x * fs - toSigned 32 o * 100 * 2 ^ 19

/-- u of R324: LSB 10^-9 × 2^-19 nV; fs is the full scale in nV. -/
def calU (g o : Nat) (fs : Nat) (x : Int) : Int :=
  (1000000000 + toSigned 32 g) * x * fs - toSigned 32 o * 100000000 * 2 ^ 19

/-- The range of channel n is the ±18.75 mV range (R302, R308). -/
def Body.fineOn (b : Body) (n : Nat) : Bool := bitAt (b.drd (dieOf n) .feIrangeApplied (dieOf n)) (n % 16)

/-- The calibrated sense voltage of channel n (R324). -/
def Body.senseU (b : Body) (n : Nat) (x : Int) : Int :=
  let w := if b.fineOn n then 4 else 2
  calU (b.chRec n w) (b.chRec n (w + 1)) (b.vfsNv n) x

/-- The calibrated output voltage of channel n (R323). -/
def Body.outV (b : Body) (n : Nat) (x : Int) : Int := calV (b.chRec n 0) (b.chRec n 1) 100 x

/-! ### Intervals (R325 to R327) -/

/-- R_SH in units of 10 pΩ as a fraction, with the temperature in force (R325). -/
def Body.shuntR (b : Body) (n : Nat) : Nat × Nat :=
  let d : Int := if b.rd .chShcfgTsrc n = 1 && b.tsLive n then ((b.en n).tsMeas : Int) - (b.rd .chShcfgShTref n : Nat) else 0
  let num := (b.rsh n : Int) * (1000000000 + toSigned 32 (b.rd .chShgainShGain n)) *
    (256000000000 + 160 * toSigned 16 (b.rd .chShtcShTc1 n) * d + toSigned 16 (b.rd .chShtcShTc2 n) * d * d)
  (max 1 num.toNat, 1000000000 * 256000000000)

/-- The sums at the start of an interval of channel n. -/
def Body.newSum (b : Body) (n : Nat) : IntSum :=
  let r := b.shuntR n
  { IntSum.zero with
    hold := b.wideRuns (dieOf n), fine := b.fineOn n, rNum := r.1, rDen := r.2, ofs := toSigned 16 (b.rd .chShcfgShOfs n)
    shFb := b.rd .chShcfgTsrc n = 1 && !b.tsLive n }

/-- ΔE of a current sample in 2^-64 J: V = vn / (dv × 10^9 × 2^19) V, u in 10^-9 × 2^-19 nV, over dt ns (R325, R327). -/
def IntSum.energy (s : IntSum) (vn : Int) (dv dt : Nat) (u : Int) : Int :=
  let un := u - s.ofs * 1000000000 * 2 ^ 19
  divRound (vn * un * (s.rDen * 100000000000 * dt * 2 ^ 64 : Nat))
    (dv * (1000000000 * 2 ^ 19) * (1000000000 * 2 ^ 19 * 1000000000) * s.rNum * 1000000000 : Nat)

/-- Add a paired sample to the sums. -/
def IntSum.add (s : IntSum) (vn : Int) (dv : Nat) (u : Int) (dt : Nat) : IntSum :=
  { s with e := s.e + s.energy vn dv dt u, v := s.v + divRound vn (dv : Nat), u := s.u + u, n := s.n + 1 }

/-- Change the sums of the closed interval in which an instant falls; one after the last falls in the last. -/
def inClosed (t : Nat) (f : IntSum → IntSum) : List Closed → List Closed
  | [] => []
  | [c] => [{ c with sum := f c.sum }]
  | c :: d :: cs => if t < d.start then { c with sum := f c.sum } :: d :: cs else c :: inClosed t f (d :: cs)

/-- The sums of the closed interval in which an instant falls; none where no interval waits. -/
def closedAt (t : Nat) : List Closed → Option IntSum
  | [] => none
  | [c] => some c.sum
  | c :: d :: cs => if t < d.start then some c.sum else closedAt t (d :: cs)

/-- The interval in which a sample taken at t falls (R26). -/
def MPath.sumAt (m : MPath) (t : Nat) : IntSum := if t < m.openT then (closedAt t m.closed).getD m.cur else m.cur

/-- Pair one waiting sample taken at t (R26, R326, R327). The first after a start of integration forms no energy. -/
def MPath.pair (m : MPath) (vn : Int) (dv t : Nat) (u : Int) : MPath :=
  match m.prevT with
  | none => { m with prevT := some t }
  | some p =>
    if t < m.openT && !m.closed.isEmpty then
      { m with prevT := some t, closed := inClosed t (fun s => s.add vn dv u (t - p)) m.closed }
    else { m with prevT := some t, cur := m.cur.add vn dv u (t - p) }

/-- A paired sample is summed, or kept back by a slot (R352). -/
def MPath.take (m : MPath) (vn : Int) (dv t : Nat) (u : Int) : MPath :=
  match m.slot with
  | some s => { m with slot := some { s with held := s.held ++ [⟨t, u, vn, dv⟩] } }
  | none => m.pair vn dv t u

/-- A calibrated OUT sample: every waiting current sample is paired by linear interpolation in time (R326). -/
def MPath.outSample (m : MPath) (t : Nat) (v : Int) : MPath :=
  let f := fun (m : MPath) (s : Nat × Int) =>
    match m.outT with
    | some (t0, v0) =>
      if t0 < t then m.take (v0 * ((t - t0 : Nat) : Int) + (v - v0) * ((s.1 - t0 : Nat) : Int)) (t - t0) s.1 s.2
      else m.take v 1 s.1 s.2
    | none => m.take v 1 s.1 s.2
  let m := m.wait.foldl f m
  { m with wait := [], outT := some (t, v) }

/-- A sample joins those of the last 100 µs of its quantity, newest first. -/
def pastAdd (t : Nat) (x : Int) (l : List (Nat × Int)) : List (Nat × Int) := (t, x) :: l.filter fun p => decide (t ≤ p.1 + 100000)

/-- A sample of the path that a slot calibrates, in the 100 µs after the slot, joins the mean after it. -/
def CalSlot.after (s : CalSlot) (cur : Bool) (t : Nat) (x : Int) : CalSlot :=
  if decide (s.kind < 2) = cur && decide (s.t0 + 1900000 ≤ t) && decide (t < s.t0 + 2000000) then
    { s with post := (s.post.1 + x, s.post.2 + 1) }
  else s

/-- A calibrated sample of a quantity at an instant: the means about a slot take it (R352). -/
def MPath.note (m : MPath) (cur : Bool) (t : Nat) (x : Int) : MPath :=
  let m := if cur then { m with pastU := pastAdd t x m.pastU } else { m with pastV := pastAdd t x m.pastV }
  { m with slot := m.slot.map fun s => s.after cur t x }

/-- The main path of the current, or of OUT, is in calibration at an instant: its samples are the relief block's (R350). -/
def MPath.relief (m : MPath) (cur : Bool) (t : Nat) : Bool :=
  match m.slot with
  | some s => decide (s.kind < 2) = cur && decide (t < s.t0 + 1900000)
  | none => false

/-- A slot of kind k starts (R350, R352). -/
def MPath.slotStart (m : MPath) (k t count : Nat) : MPath :=
  let l := (if k < 2 then m.pastU else m.pastV).filter fun p => decide (t ≤ p.1 + 100000)
  { m with cur := { m.cur with slot := true }, slotTill := t + 1900000
           slot := some ⟨k, t, count, (l.foldl (fun a p => a + p.2) 0, l.length), (0, 0), []⟩ }

/-- The interpolated value of the path at an instant of the slot: linear between the means before and after it; a side without a sample
takes the other's mean (R352). -/
def CalSlot.value (s : CalSlot) (t : Nat) : Int :=
  let mean (p q : Int × Nat) : Int := if p.2 = 0 then divRound q.1 (max 1 q.2 : Nat) else divRound p.1 (p.2 : Nat)
  let x := mean s.pre s.post
  x + divRound ((mean s.post s.pre - x) * ((t - s.t0 : Nat) : Int)) 1900000

/-- A sample kept back with the quantity of the path in calibration interpolated, where it fell in the slot. -/
def CalSlot.bridge (s : CalSlot) (h : HeldSample) : HeldSample :=
  if s.t0 ≤ h.t ∧ h.t < s.t0 + 1900000 then (if s.kind = 2 then { h with vn := s.value h.t, dv := 1 } else { h with u := s.value h.t }) else h

/-- The samples kept back are summed; answers the interpolated and the relief path's energy over the slot, 2^-64 J (R352). -/
def MPath.bridgeAll (s : CalSlot) : List HeldSample → MPath → Int × Int × MPath
  | [], m => (0, 0, m)
  | h :: hs, m =>
    let x := s.bridge h
    let dt := h.t - m.prevT.getD h.t
    let own := decide (s.t0 ≤ h.t) && decide (h.t < s.t0 + 1900000)
    let r := MPath.bridgeAll s hs (m.pair x.vn x.dv x.t x.u)
    let i := m.sumAt h.t
    (r.1 + (if own then i.energy x.vn x.dv dt x.u else 0), r.2.1 + (if own then i.energy h.vn h.dv dt h.u else 0), r.2.2)

/-- Integration runs for channel n: the module is SOLO or ACTIVE and not in doze, and the channel is in any state but BENCH (R55,
R327, R329, R335). -/
def Body.meters (b : Body) (n : Nat) : Bool := b.drives && !b.doze && (b.ch (b.leadOf n)).state ≠ .bench

/-- Integration starts anew (R327). -/
def MPath.restart (m : MPath) : MPath := { m with prevT := none, wait := [], slot := none, pastU := [], pastV := [] }

/-- A SLOT record (R352, R434): the kind's code less 1, CHAN, start and end on the count, energies in 2^-64 J. -/
def Body.slotRec (kind chan count : Nat) (eInt eRel : Int) (b : Body) : Body :=
  b.shared (mkRec 0x1B ((kind + 1) * 2 ^ 24 + chan * 2 ^ 16) count
    [(count + 1900000) % 2 ^ 64 * 2 ^ 64, ofSigned 64 (rshiftRound eInt 32) * 2 ^ 64 + ofSigned 64 (rshiftRound eRel 32)])

/-- The mean after a slot of channel n is complete: what the slot has kept back is summed, and its record is written (R352). -/
def Body.slotEnds (e : Env) (n : Nat) (b : Body) : Body :=
  match (b.en n).m.slot with
  | some s =>
    if e.now < s.t0 + 2000000 then b
    else
      let r := MPath.bridgeAll s s.held { (b.en n).m with slot := none }
      (b.onPath n fun _ => r.2.2).slotRec s.kind n s.count r.1 r.2.1
  | none => b

/-- The path of an input is in calibration at the present instant: the sample is its relief block's (R350). -/
def Body.relieved (e : Env) (b : Body) (k input : Nat) : Bool :=
  if input < 0x20 then (b.en (16 * k + input % 16)).m.relief (decide (input < 0x10)) e.now
  else if input = 0x40 then (match (b.fe k).busSlot with
    | some s => decide (e.now < s.t0 + 1900000)
    | none => false)
  else false

/-- A calibrated BUS sample is summed in the open interval. -/
def Die.sumBus (x : Int) (d : Die) : Die := { d with busSum := d.busSum + x, busN := d.busN + 1 }

/-- A BUS sample of a slot enters the mean of the interval in which it was taken: the open one, or the one closed last (R352). -/
def Die.sumBusAt (t : Nat) (x : Int) (d : Die) : Die :=
  if t < d.lastB then { d with busDone := (d.busDone.1 + x, d.busDone.2 + 1) } else d.sumBus x

/-- A calibrated BUS sample: the metering sums it, or keeps its instant back in a slot; the means about the slot take it (R352). -/
def Die.busMeter (now : Nat) (rel : Bool) (x : Int) (d : Die) : Die :=
  if rel then { d with busSlot := d.busSlot.map fun s => { s with held := s.held ++ [⟨now, 0, 0, 1⟩] } }
  else { d.sumBus x with pastBus := pastAdd now x d.pastBus, busSlot := d.busSlot.map fun s => s.after false now x }

/-- A slot of BUS starts (R350, R352). -/
def Die.busSlotStart (now count : Nat) (d : Die) : Die :=
  let l := d.pastBus.filter fun p => decide (now ≤ p.1 + 100000)
  { d with busSlot := some ⟨3, now, count, (l.foldl (fun a p => a + p.2) 0, l.length), (0, 0), []⟩ }

/-- A slot of BUS of die k is over: its samples are interpolated, and its record is written (R352). BUS forms no energy. DESIGN CHOICE
(log 185): both energies read 0. -/
def Body.busSlotEnds (e : Env) (k : Nat) (b : Body) : Body :=
  match (b.fe k).busSlot with
  | some s =>
    if e.now < s.t0 + 2000000 then b
    else
      (b.onDie k fun d => s.held.foldl (fun d h => d.sumBusAt h.t (s.value h.t)) { d with busSlot := none }).slotRec 3 (0x80 + k) s.count 0 0
  | none => b

/-! ### Trend interval boundaries (R16, R26, R425) -/

/-- The trend interval in force in ns (R425). -/
def Body.trendNs (b : Body) : Nat :=
  match b.rd .recTrendcfgInterval with
  | 0 => 1000000 | 1 => 2000000 | 2 => 5000000 | 3 => 10000000 | 4 => 20000000 | 5 => 50000000 | 6 => 100000000
  | _ => 1000000000

/-- The open interval of channel n as it ends at the present instant, under a die epoch (R14, R43). -/
def Body.closed (e : Env) (n epoch : Nat) (b : Body) : Closed :=
  { sum := (b.en n).m.cur, start := (b.en n).m.openT, count := e.count, len := e.now - (b.en n).m.openT, epoch := epoch
    state := (b.ch (b.leadOf n)).state.code, tj := (b.en n).tjEst }

/-- Close the open interval of channel n at the present instant. -/
def Body.closeInterval (e : Env) (n : Nat) (b : Body) : Body :=
  let c := b.closed e n (b.rd .twinDieEpoch (dieOf n))
  let s := b.newSum n
  (b.onPath n fun m => { m with closed := m.closed ++ [c], cur := { s with slot := decide (e.now < m.slotTill) }, openT := e.now }).onEng n fun g =>
    { g with pHighRep := g.pHigh, pHigh := 0, polesRep := g.poles, polesRepT := e.now }

/-- At a timebase second boundary the trend interval of an image is in force (R425). -/
def Body.trendTurn (e : Env) (b : Body) : Body :=
  match b.rcd.trendNext with
  | some x => if e.count % 1000000000 = 0 then (b.wr .recTrendcfgInterval 0 x).onRcd fun r => { r with trendNext := none } else b
  | none => b

/-- Die k closes its intervals: its channels' and that of its BUS mean (R14, R26, R148). -/
def Body.closeDie (e : Env) (k : Nat) (b : Body) : Body :=
  let b := b.trendTurn e
  let b := b.forEach (dieChannels k) fun n b => if b.meters n then b.closeInterval e n else b
  b.onDie k fun d =>
    { d with lastB := e.now, busDone := (d.busSum, d.busN), busSum := 0, busN := 0, tempDone := max (b.rd .healthTempT 0) (b.rd .healthTempT (k + 1)) }

/-- The metering of every die stops at the present instant: the open intervals end, and what is not paired is dropped (R55, R299, R329,
R363). -/
def Body.metersStop (e : Env) (b : Body) : Body :=
  let b := b.forEach (List.range 8) fun k b => if b.dieOff k then b else b.closeDie e k
  b.forEach (List.range 128) fun n b => b.onPath n MPath.restart

/-- The metering of every die starts anew at the present instant (R327). -/
def Body.metersStart (e : Env) (b : Body) : Body :=
  let b := b.forEach (List.range 8) fun k b => b.onDie k fun d => { d with lastB := e.now, busSum := 0, busN := 0, pastBus := [], busSlot := none }
  b.forEach (List.range 128) fun n b =>
    let x := b.newSum n
    b.onPath n fun m => { m.restart with outT := none, cur := x, openT := e.now }

/-- The instant of the next boundary of die k: the next multiple of the interval of the count, a new one if the present
instant has been closed. -/
def nextBoundary (e : Env) (b : Body) (k : Nat) : Nat :=
  let i := b.trendNs
  let r := e.count % i
  if r = 0 && (b.fe k).lastB ≠ e.now then e.now else e.now + (i - r)

end Sys2Proof.Machine
end

