-- ==== Sys2Proof/Machine/Convert.lean ====
section
/-!
DEFINITION. The conversion subsystem (chapter 07): current samples and the voltage scan, filter units and windows, the BUS
ladder, temperature inputs, slice visits and open wires. A raw result is what a slice gives for the bare input, in raw LSB; the
dither that the slice adds and the correction chain are the die's.
-/

namespace Sys2Proof.Machine

open Sys2Proof

/-! ### Results (R268, R270, R271) -/

/-- The next word of the dither generator: linear feedback over 23 bits (R271). DESIGN CHOICE (log 179): taps 23 and 18. -/
def lfsrNext (w : Nat) : Nat := (2 * w + (w / 2 ^ 22 + w / 2 ^ 17) % 2) % 2 ^ 23

/-- The dither value of a word, uniform over ±8 raw LSB (R271). DESIGN CHOICE (log 179): its low four bits, −8 to 7. -/
def ditherOf (w : Nat) : Int := ((w % 16 : Nat) : Int) - 8

/-- Steps 1 to 4 of the correction chain: the dither is removed, the segment's correction added, the offset trim subtracted, the gain
trim applied; lin and ofs in 1/16 raw LSB, gain in 0.25 ppm (R268, R319). DESIGN CHOICE (log 179): a raw LSB is an LSB of the extended
result, to which step 4 rounds. -/
def corrected (code dither lin ofs gain : Int) : Int :=
  divRound (((code - dither) * 16 + lin - ofs) * (4000000 - gain)) 64000000

/-- The segment of the linearity table that a code lies in (R268, R272). DESIGN CHOICE (log 179): 64 equal ones over the range. -/
def segmentOf (x : Int) : Nat := (clampInt 0 63 ((x + 2 ^ 19) / 2 ^ 14)).toNat

/-- A trim of slice sl of die k in the set in force, two's complement in 16 bits: 0 offset, 1 gain, 2 skew (R276, R319). -/
def Body.trim (b : Body) (k sl j : Nat) : Nat := sparseGet 0 (b.fe k).trims ((b.drd k .feCvstatLp k * 16 + sl) * 4 + j)

/-- Slice sl of die k (CVB's from 5) converts a bare input raw: the slice adds the dither before it samples, and steps 1 to 4 correct
its code (R268, R271). -/
def Body.slice (k sl : Nat) (raw : Int) (b : Body) : Int × Body :=
  let w := (b.fe k).lfsr
  let code := raw + ditherOf w
  let lin := toSigned 16 (sparseGet 0 (b.fe k).lin ((b.drd k .feCvstatLp k * 16 + sl) * 64 + segmentOf (code - ditherOf w)))
  (corrected code (ditherOf w) lin (toSigned 16 (b.trim k sl 0)) (toSigned 16 (b.trim k sl 1)), b.onDie k fun d => { d with lfsr := lfsrNext w })

/-- Saturate an extended result (R268, step 6). -/
def satExt (x : Int) : Int := clampInt (-(2 ^ 19 - 1)) (2 ^ 19 - 1) x

/-- The loop result of an extended result (R268). -/
def loopResult (x : Int) : Int := sat16 ((x + 8) / 16)

/-- The residual estimate after a sample before its polarity: the mean of a pair of opposite polarity, in which the signal cancels,
filtered over 65 536 samples (R270). LSB 2^-35. -/
def residNext (resid raw : Int) (last : Option Int) : Int :=
  match last with
  | none => resid
  | some r => resid + rshiftRound ((raw + r) * 2 ^ 15 - resid) 16

/-- Step 5 of R268: the sample is multiplied by its chopper polarity, and the residual estimate is subtracted, with the sign that the
offset has in the sample then (R270, log 46); step 6 saturates. -/
def chopped (chop : Bool) (resid x : Int) : Int :=
  let polarity : Int := if chop then -1 else 1
  satExt (polarity * x - polarity * rshiftRound resid 16)

/-- The polarity of channel n's amplifier at an instant: it reverses after each sample of the rotation, one every 16 slots (R270). -/
def Body.chopAt (b : Body) (n t : Nat) : Bool :=
  let m := (b.en n).m
  let r := 16 * b.slotNs (dieOf n)
  if m.rawT < t then m.chop else (m.chop != decide (((m.rawT - t) / r + 1) % 2 = 1))

/-- Steps 5 and 6 for a result of an input at an instant (R268, R270). -/
def Body.finish (b : Body) (k input t : Nat) (x : Int) : Int :=
  if input < 0x10 then chopped (b.chopAt (16 * k + input) t) (b.en (16 * k + input)).m.resid x else satExt x

/-- The slice of CVB of die k that converts j slots after the present one (R266, R288). -/
def Body.sliceB (b : Body) (k j : Nat) : Nat := 5 + (b.fe k).posB.getD (((b.fe k).slotPos + j) % 4) 0

/-- The slice of CVB that serves its slot j. -/
def Serve.ofB (s : Serve) (j : Nat) : Nat := 5 + s.b.getD ((s.posB + j) % 4) 0

/-- The slice of CVA that serves its slot j. -/
def Serve.ofA (s : Serve) (j : Nat) : Nat := s.a.getD ((s.posA + j) % 4) 0

/-- The slice that takes sample j of an urgent request: CVB's slices in service in turn, in alternate slots where a slice of each
converter is retired; in a wide capture CVA's and CVB's by turns (R288, R290, R295). -/
def Body.requestSlice (b : Body) (k : Nat) (s : Serve) (wide : Bool) (j : Nat) : Nat :=
  if wide then (if j % 2 = 0 then s.ofA (j / 2) else s.ofB (j / 2))
  else if b.noVisits k false && b.noVisits k true then s.ofB (2 * j + 1)
  else s.ofB j

/-- Raw results of consecutive samples of a request, corrected, from sample j on, which is taken at start + j × per ps; answers the
extended results in order (R268, R288, R295). -/
def Body.samples (k input : Nat) (s : Serve) (wide : Bool) (start per : Nat) : Nat → List Int → Body → List Int × Body
  | _, [], b => ([], b)
  | j, x :: xs, b =>
    let r := b.slice k (b.requestSlice k s wide j) x
    let y := r.2.finish k input (start + j * per / 1000) r.1
    let rs := Body.samples k input s wide start per (j + 1) xs r.2
    (y :: rs.1, rs.2)

/-! ### Filter units (R282, R283) -/

/-- Feed the first n integrators; answers the integrators and the last one's value. -/
def integrate : Nat → Int → List Int → List Int × Int
  | 0, x, is => (is, x)
  | _, x, [] => ([], x)
  | n + 1, x, i :: is =>
    let r := integrate n (i + x) is
    ((i + x) :: r.1, r.2)

/-- Pass a value through the first n combs. -/
def comb : Nat → Int → List Int → List Int × Int
  | 0, x, cs => (cs, x)
  | _, x, [] => ([], x)
  | n + 1, x, c :: cs =>
    let r := comb n (x - c) cs
    (x :: r.1, r.2)

/-- Feed one extended result to a unit of order n and length m (R282). -/
def FuState.feed (n m : Nat) (x : Int) (f : FuState) : FuState :=
  let i := integrate n x f.ints
  if f.cnt + 1 < m then { f with ints := i.1, cnt := f.cnt + 1, left := f.left - 1 }
  else
    let c := comb n i.2 f.combs
    { f with ints := i.1, combs := c.1, cnt := 0, left := f.left - 1
             ready := some (clampInt (-(2 ^ 23)) (2 ^ 23 - 1) (divRound (c.2 * 16) ((m ^ n : Nat) : Int))) }

/-- Change filter unit u of die k. -/
def Body.onFu (k u : Nat) (f : FuState → FuState) (b : Body) : Body :=
  b.onDie k fun d => { d with fus := d.fus.set (u % 80) (f (d.fus.get ⟨u % 80, Nat.mod_lt _ (by decide)⟩)) (Nat.mod_lt _ (by decide)) }

/-- Filter unit u of die k. -/
def Body.fu (b : Body) (k u : Nat) : FuState := (b.fe k).fus.get ⟨u % 80, Nat.mod_lt _ (by decide)⟩

/-- The order of a unit. -/
def Body.fuOrder (b : Body) (k u : Nat) : Nat := b.drd k .fuFcfgOrder (80 * k + u) + 1

/-- The length M of a unit. -/
def Body.fuLen (b : Body) (k u : Nat) : Nat := b.drd k .fuFcfgRatio (80 * k + u) + 1

/-- Feed a sample to unit u. -/
def Body.feed (k u : Nat) (x : Int) (b : Body) : Body :=
  b.onFu k u (FuState.feed (b.fuOrder k u) (b.fuLen k u) x)

/-- Input samples of unit u until outputs are valid after a disturbance: K × M (R283). -/
def Body.settleLen (b : Body) (k u : Nat) : Nat :=
  let s := b.drd k .fuFcfgSettle (80 * k + u)
  (if s = 0 then b.fuOrder k u else s) * b.fuLen k u

/-- A disturbance of unit u (R283, R285): outputs are invalid for K × M samples, and the window starts inside. -/
def Body.disturb (k u : Nat) (b : Body) : Body :=
  ((b.onFu k u fun f => { f with left := b.settleLen k u }).dwr k .fuFresValid (80 * k + u) 0).dwr k .fuFresOutside (80 * k + u) 0

/-- A disturbance of every unit of die k: its start, its rejoin, an image that is applied to it (R283). -/
def Body.disturbAll (k : Nat) (b : Body) : Body :=
  let b := b.forEach (List.range 80) fun u b => b.onFu k u fun f => { f with left := b.settleLen k u }
  b.onDie k fun d => { d with regs := d.regs.filter fun x => keyFld x.1 ≠ .fuFresValid && keyFld x.1 ≠ .fuFresOutside }

/-- The units that filter an input of die k: its own, whose number is the input's code, and those of auxiliary entries that name it (R279,
R282). -/
def Body.unitsOf (b : Body) (k input : Nat) : List Nat :=
  (if input ≤ 0x40 then [input] else []) ++
    ((List.range 15).filter fun j => b.drd k .feEntryInput (64 * k + 49 + j) = input).map (65 + ·)

/-- Outputs of the units on an input whose path is in calibration carry GAP (R350). -/
def Body.slotGap (k input : Nat) (rel : Bool) (b : Body) : Body :=
  if rel then b.forEach (b.unitsOf k input) fun u b => b.onFu k u fun f => { f with gap := true } else b

/-! ### The open-wire round (R300) -/

/-- The mode of TS of channel n is remote diode. -/
def Body.tsDiode (b : Body) (n : Nat) : Bool :=
  bits (b.drd (dieOf n) .feTsmodeMode (dieOf n)) (2 * (n % 16) + 1) (2 * (n % 16)) = 1

/-- The wire tests of channel n run: in every state except BENCH and UNCONFIGURED, not in doze or a freeze (R299, R300, R580). -/
def Body.owRuns (b : Body) (n : Nat) (ts : Bool) : Bool :=
  !b.doze && (match (b.ch (b.leadOf n)).state with
    | .bench | .unconfigured => false
    | _ => true) && !b.flag .healthStatFreeze && (!ts || b.cd .chAmbcfgTsFitted n = 1)

/-- The test at a place of the round takes place: the current wires of each channel, and its TS wire where that input is fitted and in
linear mode (R300). -/
def Body.owTakes (b : Body) (k p : Nat) : Bool :=
  let n := 16 * k + p / 2
  b.owRuns n (p % 2 = 1) && !(p % 2 = 1 && b.tsDiode n)

/-- The test that die k makes next: its place, its start, and the start of its round; the next round follows PERIOD after the start of
the present one (R300). -/
def Body.owNext (b : Body) (k : Nat) : Option (Nat × Nat × Nat) :=
  let w := (b.fe k).ow
  let ps := (List.range 32).filter (b.owTakes k)
  match ps.find? fun p => decide (w.place ≤ p) with
  | some p => some (p, w.testT, w.start)
  | none =>
    let s := max w.testT (w.start + b.drd k .feOwcfgPeriod k * 100000000)
    ps.head?.map fun p => (p, s, s)

/-- The length of one phase of a test in ns (R300). -/
def Body.owPhase (b : Body) (k p : Nat) : Nat := (if p % 2 = 1 then 300000 else 100000) * (if b.drd k .feCvstatLp k = 1 then 2 else 1)

/-- The test at a place runs at the present instant (R281, R300). -/
def Body.owTesting (e : Env) (b : Body) (k p : Nat) : Bool :=
  match b.owNext k with
  | some (q, t, _) => decide (q = p) && decide (t < e.now) && decide (e.now ≤ t + 2 * b.owPhase k p) && !b.dieOff k
  | none => false

/-- A sample of a wire under test goes to the phase that it falls in, which keeps its last 64 (R300). -/
def Body.owSample (e : Env) (k p : Nat) (x : Int) (b : Body) : Body :=
  match b.owNext k with
  | some (_, t, _) =>
    let put := fun (w : OwRound) =>
      if e.now ≤ t + b.owPhase k p then { w with phaseA := (x :: w.phaseA).take 64 }
      else { w with phaseB := (x :: w.phaseB).take 64 }
    if b.owTesting e k p then b.onDie k fun d => { d with ow := put d.ow } else b
  | none => b

/-! ### Temperature inputs (R281) -/

/-- A filter output of the linear sensor in the 12-bit format. -/
def tempLinear (slope v0 : Nat) (y : Int) : Nat :=
  let s : Int := (max 1 slope : Nat)
  satTemp (divRound (16 * (y * 250000 - (v0 * 10 * 2 ^ 23 : Nat)) + 880 * s * 2 ^ 23) (s * 2 ^ 23))

/-- A filter output of a remote diode's ΔV in the 12-bit format; k_B × ln 10 / q = 1.984 214 311 077 724 × 10^-4 V/K, from the exact
values of the SI (log 180). -/
def tempDiode (eta : Nat) (y : Int) : Nat :=
  let d : Int := (2 ^ 23 * max 1 eta * 1984214311077724 : Nat)
  satTemp (divRound (1600 * (y * 25 * 2 ^ 14 * 10 ^ 18) - 16 * 21815 * d) (100 * d))

/-- The first TS_MEAS after a module start loads the poles of SENSE_MASK: max(0, TS_MEAS − AMB_FIXED) shared by RTH (R148). -/
def Body.loadPoles (n : Nat) (b : Body) : Body :=
  if !(b.en n).polesDue then b
  else
    let is := (List.range 4).filter fun i => bitAt (b.rd .chAmbcfgSenseMask n) i
    let rth (i : Nat) := b.rd .poleRthRth (4 * n + i)
    let all := is.foldl (fun a i => a + rth i) 0
    let rise := ((b.en n).tsMeas - b.rd .chAmbcfgAmbFixed n) * 2 ^ 33
    let part (i : Nat) := if is.contains i then rise * rth i / all else 0
    let rest := if all = 0 then 0 else rise - (List.range 4).foldl (fun a i => a + part i) 0
    b.onEng n fun g => { g with
      polesDue := false
      poles := (List.range 4).map fun i => ((part i + if is.head? = some i then rest else 0 : Nat) : Int) }

/-- TS_MEAS at an output of the TS entry's unit; held while an open-wire test runs on the input (R281). -/
def Body.refreshTs (e : Env) (n : Nat) (y : Int) (b : Body) : Body :=
  let k := dieOf n
  if b.cd .chAmbcfgTsFitted n = 0 || b.owTesting e k (2 * (n % 16) + 1) then b
  else
    let t := if b.tsDiode n then tempDiode (b.drd k .feTsdiodeEta k) y
      else tempLinear (b.drd k .feTslinSlope k) (b.drd k .feTslinV0 k) y
    (b.onEng n fun g => { g with tsMeas := t }).loadPoles n

/-! ### Outputs and windows (R282, R285) -/

/-- Evaluate the window of unit u at a valid output; its event is a trigger of capture source 3 (R285, R294). -/
def Body.window (e : Env) (k u : Nat) (y : Int) (b : Body) : Body :=
  let i := 80 * k + u
  let lo := toSigned 24 (b.drd k .fuWloLevel i)
  let hi := toSigned 24 (b.drd k .fuWhiLevel i)
  let h : Int := (b.drd k .fuFcfgWhyst i * 2 ^ 8 : Nat)
  if b.drd k .fuFcfgWen i = 0 then b
  else if b.drd k .fuFresOutside i = 0 then
    if y < lo ∨ hi < y then (((b.dwr k .fuFresOutside i 1).dwr k .fuFresWevt i 1).raise (2, k)).capTriggerAll e k 3 u else b
  else if lo + h ≤ y ∧ y ≤ hi - h then b.dwr k .fuFresOutside i 0
  else b

/-- A unit of die k gives its output. -/
def Body.filterOutput (e : Env) (k u : Nat) (b : Body) : Body :=
  let i := 80 * k + u
  let f := b.fu k u
  match f.ready with
  | none => b
  | some y =>
    let b := b.onFu k u fun f => { f with ready := none, gap := false }
    let b := ((b.dwr k .fuFresValue i (ofSigned 24 y)).dwr k .fuFresGap i (bit f.gap)).dwr k .fuFresSeq i
      (b.drd k .fuFresSeq i + 1)
    let b := b.dwr k .fuFresValid i (bit (f.left = 0))
    let b := if f.left = 0 then b.window e k u y else b
    if 48 ≤ u ∧ u < 64 then b.refreshTs e (16 * k + (u - 48)) y else b

/-- FILTER_OUTPUT (R282): unit u has taken M samples since its last output. -/
def execFilterOutput (k : DieIx) (u : Fin 80) (s : State) : Out := .next (s.onBody fun e b => b.filterOutput e k u)

/-! ### Current samples (R270, R277) -/

/-- CVA takes the current sample of channel n: not while a wide capture runs, nor while the converters are stopped. -/
def Body.cvaRuns (b : Body) (n : Nat) : Bool := !b.wideRuns (dieOf n) && !b.doze && !b.dieOff (dieOf n)

/-- The current sample of channel n, whose turn it is in the rotation, by the slice at position l mod 4: through the correction chain to
the loops, the metering, its unit, an open-wire test and a ramp that waits for it (R268, R270, R277, R296, R300). In a slot of the
current path raw is the relief slice's corrected result, and the residual estimate is held (R350). -/
def Body.currentSample (e : Env) (n : Nat) (raw : Int) (b : Body) : Body :=
  let k := dieOf n
  let l := n % 16
  if !b.cvaRuns n || (b.fe k).rotNext ≠ l then b
  else
    let rel := b.relieved e k l
    let r := if rel then (raw, b) else b.slice k ((b.fe k).posA.getD (l % 4) 0) raw
    let b := r.2.onDie k fun d => { d with rotNext := (l + 1) % 16 }
    let m := (b.en n).m
    let x := if rel then satExt raw else chopped m.chop m.resid r.1
    let u := b.senseU n x
    let b := b.onPath n fun m =>
      { m with chop := !m.chop, resid := if rel then m.resid else residNext m.resid r.1 m.lastRaw
               lastRaw := if rel then none else some r.1, rawT := e.now, lastU := u
               wait := if b.meters n then m.wait ++ [(b.dieNow e k, u)] else m.wait }
    let b := (b.onPath n fun m => if rel then m else m.note true e.now u).slotEnds e n
    let b := (((b.onEng n fun g => { g with i := loopResult x }).feed k l x).slotGap k l rel).owSample e k (2 * l) x
    let b := (b.shortEval e n).startDue n .cur
    if l = 15 then b.rotBoundary e k else b

/-- CURRENT_SAMPLE (R277). -/
def execCurrentSample (n : ChIx) (raw : Int) (s : State) : Out := .next (s.onBody fun e b => b.currentSample e n raw)

/-! ### The BUS entry (R97, R286) -/

/-- Move the band up while the median exceeds the next level by 50 mV (R286); by fuel. -/
def bandUp : Nat → List Nat → Int → Nat → Nat
  | 0, _, _, p => p
  | f + 1, ls, x, p =>
    match ls[p]? with
    | some u => if levelLe u 50 x then bandUp f ls x (p + 1) else p
    | none => p

/-- Move the band down while the median lies 50 mV below the present level. -/
def bandDown : Nat → List Nat → Int → Nat → Nat
  | 0, _, _, p => p
  | f + 1, ls, x, p =>
    if p = 0 then 0
    else match ls[p - 1]? with
      | some u => if levelLe u (-49) x then p else if (x * 100000 ≤ ((2 * u : Nat) - 50 : Int) * 32768) then bandDown f ls x (p - 1) else p
      | none => bandDown f ls x (p - 1)

/-- Follow the band at a new median; its change is a trigger of capture source 4 (R286, R294). -/
def Body.followBand (e : Env) (k : Nat) (b : Body) : Body :=
  let ls := b.ladder k
  let x := median (b.fe k).bus3
  let p := b.drd k .feBusbandBand k
  let q := bandDown 64 ls x (bandUp 64 ls x p)
  if q = p then b else (b.dwr k .feBusbandBand k q).capTriggerAll e k 4 0

/-- A BUS sample of die k. -/
def Body.busTake (e : Env) (k : Nat) (x : Int) (b : Body) : Body :=
  let q := loopResult x
  let b := b.onDie k fun d =>
    Die.busMeter e.now (b.relieved e k 0x40) (calV (b.dieRec k 0) (b.dieRec k 1) 100 x)
      { d with busPrev := d.bus, bus := q, bus3 := (q :: d.bus3).take 3 }
  ((b.busSlotEnds e k).followBand e k).busSample e k

/-! ### Open wires (R300, R301) -/

/-- A wire of channel n has been declared open or intact (R147, R195, R572). -/
def Body.wireState (e : Env) (n : Nat) (ts opened : Bool) (b : Body) : Body :=
  let b := if opened then b.raiseCh n .openWire else b
  let b := b.event e.count 0x0005 n (if ts then 2 else 1) (bit opened) 0
  if opened && !(ts && b.policy (b.leadOf n) 0x19 = 2) then b.report e n (.trip 0x19) e.now else b

/-- One test of a wire: CONFIRM consecutive tests change its state (R301). -/
def Body.wireTest (e : Env) (n : Nat) (ts failing : Bool) (b : Body) : Body :=
  let g := b.en n
  let opened := if ts then g.tsOpen else g.csOpen
  let run := (if ts then g.tsRun else g.csRun) + 1
  let k := dieOf n
  if failing = opened then b.onEng n fun g => if ts then { g with tsRun := 0 } else { g with csRun := 0 }
  else if run < max 1 (b.drd k .feOwcfgConfirm k) then
    b.onEng n fun g => if ts then { g with tsRun := run } else { g with csRun := run }
  else
    (b.onEng n fun g => if ts then { g with tsRun := 0, tsOpen := failing } else { g with csRun := 0, csOpen := failing }).wireState
      e n ts failing

/-- The means of the two phases differ by more than the threshold (R300, R309): the current input in its range, TS over 2.5 V. -/
def Body.owOpen (b : Body) (n : Nat) (ts : Bool) : Bool :=
  let k := dieOf n
  let w := (b.fe k).ow
  let la := max 1 w.phaseA.length
  let lb := max 1 w.phaseB.length
  let sumA : Int := w.phaseA.foldl (· + ·) 0
  let sumB : Int := w.phaseB.foldl (· + ·) 0
  let diff := (sumA * (lb : Nat) - sumB * (la : Nat)).natAbs
  if ts then decide (b.drd k .feOwcfgTsThr k * 10000000 * la * lb * 2 ^ 19 < diff * 2500000000)
  else decide (b.drd k .feOwcfgCsThr k * 100000 * la * lb * 2 ^ 19 < diff * b.vfsNv n)

/-- The test of a wire is complete: the wire's state follows, the units on its input are disturbed, and the round goes on (R283,
R300). -/
def Body.openWire (e : Env) (n : Nat) (ts : Bool) (start : Nat) (b : Body) : Body :=
  let k := dieOf n
  let input := if ts then 0x30 + n % 16 else n % 16
  let b := b.wireTest e n ts (b.owOpen n ts)
  let b := b.forEach (b.unitsOf k input) fun u b => b.disturb k u
  b.onDie k fun d => { d with ow := ⟨start, 2 * (n % 16) + bit ts + 1, e.now, [], []⟩ }

/-- OPEN_WIRE_TEST (R301): the pair of phases of the wire whose turn it is in the round is complete. -/
def execOpenWireTest (k : DieIx) (l : Fin 16) (ts : Bool) (s : State) : Out :=
  let p := 2 * l.val + bit ts
  match s.body.owNext k with
  | some (q, t, start) =>
    if q ≠ p || s.body.dieOff k then .next s
    else .next ((s.goTo (t + 2 * s.body.owPhase k p)).onBody fun e b => b.openWire e (16 * k + l) ts start)
  | none => .next s

/-! ### The scan (R278 to R280, R288, R289) -/

/-- A keeper reading of die k: low at two consecutive readings below 10.5 V, again good at 10.8 V (R585). -/
def Body.keeperTake (e : Env) (k : Nat) (x : Int) (b : Body) : Body :=
  let v := (clampInt 0 0xFFFF (divRound (x * 2500) (2 ^ 19))).toNat
  let n := if v < 1050 then (b.fe k).keepLowN + 1 else 0
  let low := bitAt (b.rd .healthKeeperLow) k
  let b := (b.onDie k fun d => { d with keepRaw := x, keepLowN := n }).wr .healthKeepvV k v
  if !low && decide (2 ≤ n) then
    (b.wr .healthKeeperLow 0 (setBit (b.rd .healthKeeperLow) k)).event e.count 0x0503 0xFF k 1 v
  else if low && decide (1080 ≤ v) then
    (b.wr .healthKeeperLow 0 (clearBit (b.rd .healthKeeperLow) k)).event e.count 0x0503 0xFF k 0 v
  else b

/-- What a sample of an input does beside the filter unit, by input code (R97, R98, R278). -/
def Body.inputTake (e : Env) (k input : Nat) (x : Int) (b : Body) : Body :=
  let n := 16 * k + input % 16
  if input < 0x10 then b
  else if input < 0x20 then
    let b := (b.onEng n fun g => { g with out := loopResult x, outAt := e.now }).onPath n fun m =>
      let m := if m.relief false e.now then m else m.note false e.now (b.outV n x)
      if b.meters n then m.outSample (b.dieNow e k) (b.outV n x) else m
    ((b.slotEnds e n).shortEval e n).startDue n .out
  else if input < 0x30 then b.onEng n fun g =>
    let v := (loopResult x).toNat * 250 / 32768
    { g with vgs := v, preset := if g.gate = .hiZ then v else g.preset }
  else if input < 0x40 then
    let b := (b.onEng n fun g => { g with tsPair := (x, g.tsPair.1), tsHigh := !g.tsHigh }).owSample e k (2 * (n % 16) + 1) x
    if b.tsDiode n && !(b.en n).tsHigh && b.owRuns n true then
      b.wireTest e n true (decide (3 * 2 ^ 19 < x * 5))
    else b
  else if input = 0x40 then b.busTake e k x
  else if input = 0x41 then b.onDie k fun d => { d with tempRaw := x }
  else if input = 0x42 then b.onDie k fun d => { d with refSum := d.refSum + x, refN := d.refN + 1 }
  else if input = 0x44 then b.onDie k fun d => { d with calSum := d.calSum + x, calN := d.calN + 1 }
  else if input = 0x45 then b.keeperTake e k x
  else b

/-- What a filter unit of an entry receives: of a diode TS input, ΔV of the two last samples (R281). -/
def Body.fuInput (b : Body) (k input : Nat) (x : Int) : Int :=
  let n := 16 * k + input % 16
  if 0x30 ≤ input ∧ input < 0x40 ∧ b.tsDiode n then
    let g := b.en n
    if g.tsHigh then g.tsPair.1 - g.tsPair.2 else g.tsPair.2 - g.tsPair.1
  else x

/-- A request of die k ends: one pass of every enabled entry follows from the interrupted one in the slot that has come, the visits work
on, and the outputs whose span includes it carry GAP; after a wide capture those of the current inputs too (R266, R275, R283, R287,
R307). -/
def Body.urgentEnd (e : Env) (k : Nat) (wide : Bool) (b : Body) : Body :=
  let slots := (e.now - (b.fe k).urg.startT) / b.slotNs k
  let us := ceilDiv (e.now - (b.fe k).urg.startT) 1000
  let b := b.dwr k .feScanstatUrgMax k (max (b.drd k .feScanstatUrgMax k) (min 0xFFFF us))
  let b := (b.onUrg k fun u => { u with run := none, passLeft := b.entries k, ahead := [] }).dwr k .feCvstatUrgent k 0
  let b := b.onDie k fun d => { d with slotPos := (d.slotPos + slots) % 4 }
  (b.forEach ((if wide then List.range 16 else []) ++ ((List.range 64).filter (b.entryOn k)).map (16 + ·)) fun u b =>
    b.onFu k u fun f => { f with gap := true }).visitsFollow e k

/-- The entry that the scan converts next: the first enabled one from its place on, then from E0 (R280). -/
def Body.scanNext (b : Body) (k : Nat) : Nat :=
  let es := (List.range 64).filter (b.entryOn k)
  (es.find? fun i => decide ((b.fe k).scanAt ≤ i)).getD 0

/-- The entry of BUS, OUT or GATE at a place of a loop-set pass; odd passes take GATE[0] to GATE[7] (R289). -/
def loopEntry (odd : Bool) (j : Nat) : Nat :=
  if j = 0 ∨ j = 17 then 48
  else if j < 9 then j - 1
  else if j < 17 then 16 + (j - 9) + (if odd then 0 else 8)
  else 8 + (j - 18)

/-- The entry that the loop set samples next: an OUT that a GRANT waits for, else the one at its place in the pass (R289, R291). -/
def Body.loopNext (b : Body) (k : Nat) : Nat :=
  match (b.fe k).urg.ahead with
  | l :: _ => l
  | [] => loopEntry (b.fe k).urg.loopOdd (b.fe k).urg.loopAt

/-- The slice that takes the next loop-set sample: the out-of-service slices of CVA and CVB in turn; with a slice of one converter
retired, the other's alone; with both, those of alternate slots of CVB (R289, R290). DESIGN CHOICE (log 181): CVA's slice takes the first. -/
def Body.loopSlice (b : Body) (k : Nat) : Nat :=
  let a := b.drd k .feCvstatCvaOut k
  let c := 5 + b.drd k .feCvstatCvbOut k
  match b.noVisits k false, b.noVisits k true with
  | true, true => b.sliceB k (if (b.fe k).urg.loopB then 2 else 0)
  | false, true => a
  | true, false => c
  | false, false => if (b.fe k).urg.loopB then c else a

/-- The loop set goes on behind a sample (R289, R291). -/
def Urgent.loopOn (u : Urgent) : Urgent :=
  let u := { u with loopB := !u.loopB }
  match u.ahead with
  | _ :: ls => { u with ahead := ls }
  | [] => if u.loopAt = 25 then { u with loopAt := 0, loopOdd := !u.loopOdd } else { u with loopAt := u.loopAt + 1 }

/-- A loop-set sample: to its unit of the module, not to a filter unit (R289). -/
def Body.loopSample (e : Env) (k i : Nat) (raw : Int) (b : Body) : Body :=
  let input := b.drd k .feEntryInput (64 * k + i)
  let r := if b.relieved e k input then (raw, b) else b.slice k (b.loopSlice k) raw
  (r.2.onUrg k Urgent.loopOn).inputTake e k input (satExt r.1)

/-- A sample of the scan: to its unit of the module and its filter unit; a pass that is owed counts down (R278, R280, R287). -/
def Body.scanSample (e : Env) (k i : Nat) (raw : Int) (b : Body) : Body :=
  let input := b.drd k .feEntryInput (64 * k + i)
  let rel := b.relieved e k input
  let r := if rel then (raw, b) else b.slice k (b.sliceB k 0) raw
  let x := if rel then satExt raw else r.2.finish k input e.now r.1
  let b := (r.2.onDie k fun d => { d with scanAt := i + 1, slotPos := (d.slotPos + 1) % 4 }).inputTake e k input x
  let b := (b.feed k (16 + i) (b.fuInput k input x)).slotGap k input rel
  if (b.fe k).urg.passLeft = 0 then b
  else (b.onUrg k fun u => { u with passLeft := u.passLeft - 1 }).urgentStart e k

/-- CVB converts entry i of die k, whose turn it is in the scan, or in the loop set of an urgent request (R280, R288, R289). -/
def Body.entrySample (e : Env) (k i : Nat) (raw : Int) (b : Body) : Body :=
  if !b.dieRuns k then b
  else if (b.fe k).urg.run.isSome then (if b.loopNext k = i then b.loopSample e k i raw else b)
  else if b.scanNext k = i then b.scanSample e k i raw else b

/-- CVB_ENTRY_SAMPLE (R280). -/
def execCvbEntrySample (k : DieIx) (i : Fin 64) (raw : Int) (s : State) : Out :=
  .next (s.onBody fun e b => b.entrySample e k i raw)

/-! ### Slice visits (R272 to R276) -/

/-- The set that the present visit of a converter refreshes: 0 full rate, 1 low power (R276). -/
def Body.visitSet (b : Body) (k : Nat) (cvb : Bool) : Nat :=
  if b.drd k .feCvstatLp k = 1 && (if cvb then (b.fe k).altB else (b.fe k).altA) then 1 else 0

/-- Every measured value lies within its bound of the value it replaces, entries of the manufacture table (R274). -/
def Body.visitOk (b : Body) (k st sl : Nat) (v : Visit) : Bool :=
  let d := b.fe k
  let old (j : Nat) : Int := toSigned 16 (sparseGet 0 d.trims ((st * 16 + sl) * 4 + j))
  let seg := sparseGet 0 d.segs (st * 16 + sl)
  let mf (j : Nat) : Int := toSigned 16 (sparseGet 0 d.otpLin ((st * 16 + sl) * 64 + (seg + j) % 64))
  decide ((v.ofs - old 0).natAbs ≤ 64) && decide ((v.gain - old 1).natAbs ≤ 800) && decide ((v.skew - old 2).natAbs ≤ 100) &&
    decide ((v.g0 - mf 0).natAbs ≤ 32) && decide ((v.g1 - mf 1).natAbs ≤ 32) && decide ((v.g2 - mf 2).natAbs ≤ 32) &&
    decide ((v.g3 - mf 3).natAbs ≤ 32)

/-- The measured values take effect at the swap, and HUB's copy follows (R273, R276). -/
def Body.visitTake (k st sl : Nat) (v : Visit) (b : Body) : Body :=
  let seg := sparseGet 0 (b.fe k).segs (st * 16 + sl)
  let tr := fun (m : Sparse) => [(0, v.ofs), (1, v.gain), (2, v.skew)].foldl (fun m (p : Nat × Int) =>
    sparseSet 0 m ((st * 16 + sl) * 4 + p.1) (ofSigned 16 p.2)) m
  let ln := fun (m : Sparse) => [(0, v.g0), (1, v.g1), (2, v.g2), (3, v.g3)].foldl (fun m (p : Nat × Int) =>
    sparseSet 0 m ((st * 16 + sl) * 64 + (seg + p.1) % 64) (ofSigned 16 p.2)) m
  let b := b.onDie k fun d =>
    { d with trims := tr d.trims, lin := ln d.lin, segs := sparseSet 0 d.segs (st * 16 + sl) ((seg + 4) % 64)
             hubTrims := tr d.trims, hubLin := ln d.lin, hubValid := true }
  if seg = 60 then b.dwr k .feCalcntLinRefresh k (min 0xFFFF (b.drd k .feCalcntLinRefresh k + 1)) else b

/-- The swap: the incoming slice takes the position of the next slice in order, which leaves; every other position stays (R267, R272).
A new visit begins. -/
def Body.swap (e : Env) (k : Nat) (cvb : Bool) (b : Body) : Body :=
  let outF : Fld := if cvb then .feCvstatCvbOut else .feCvstatCvaOut
  let inc := b.drd k outF k
  let out := (inc + 1) % 5
  let turn := fun (l : List Nat) => l.map fun s => if s = out then inc else s
  let b := (b.dwr k outF k out).onDie k fun d =>
    if cvb then { d with posB := turn d.posB, altB := !d.altB } else { d with posA := turn d.posA, altA := !d.altA }
  (b.onVisit k cvb fun _ => ⟨0, none⟩).visitsFollow e k

/-- A visit of a converter of die k ends with its measured values (R272 to R276). -/
def Body.visitEnd (e : Env) (k : Nat) (cvb : Bool) (v : Visit) (b : Body) : Body :=
  let out := b.drd k (if cvb then .feCvstatCvbOut else .feCvstatCvaOut) k
  let sl := out + (if cvb then 5 else 0)
  let st := b.visitSet k cvb
  let rep := if cvb then (b.fe k).repB else (b.fe k).repA
  let setRep := fun (x : Bool) (b : Body) => b.onDie k fun d => if cvb then { d with repB := x } else { d with repA := x }
  if !b.visitsRun k cvb then b
  else if b.visitOk k st sl v then
    (((setRep false b).visitTake k st sl v).dwr k .feCalcntVisits k (b.drd k .feCalcntVisits k + 1)).swap e k cvb
  else if !rep then ((setRep true b).onVisit k cvb fun _ => ⟨0, none⟩).visitsFollow e k
  else
    let b := (b.dwr k (if cvb then .feCvstatCvbRet else .feCvstatCvaRet) k (2 ^ out)).dwr k .feCvstatCalFrozen k 1
    ((b.raise (2, 24 + k)).event e.count 0x0105 0xFF k (bit cvb) out).visitsFollow e k

/-- SLICE_VISIT_END (R273): the work of the running visit is done (R272). -/
def execSliceVisitEnd (k : DieIx) (cvb : Bool) (v : Visit) (s : State) : Out :=
  let r := if cvb then (s.body.fe k).visB else (s.body.fe k).visA
  match r.since with
  | some t => .next ((s.goTo (t + (visitConvs - r.done) * s.body.convNs k)).onBody fun e b => b.visitEnd e k cvb v)
  | none => .next s

/-! ### Trend boundaries (R43) -/

/-- TREND_INTERVAL_BOUNDARY (R43): die k reaches its next trend interval boundary. -/
def execTrendIntervalBoundary (k : DieIx) (s : State) : Out :=
  if s.body.doze || s.body.dieOff k then .next s
  else .next ((s.goTo (nextBoundary s.env s.body k)).onBody fun e b => b.closeDie e k)

end Sys2Proof.Machine
end

