-- ==== Sys2Proof/Machine/Urgent.lean ====
section
/-!
DEFINITION. The urgent requests of a die (R287 to R297, R368 to R373): direct conversions, fault captures and bench scans.
-/

namespace Sys2Proof.Machine

open Sys2Proof

/-! ### Direct conversions (R292, R293) -/

/-- A request for a direct conversion. -/
def Body.convRequest (e : Env) (k : Nat) (b : Body) : Body :=
  let u := (b.fe k).urg
  if !b.dieRuns k then b
  else if u.waitConv || u.run = some .direct then b.dwr k .feConvctlMissed k 1
  else ((b.onUrg k fun u => { u with waitConv := true }).dwr k .feConvctlBusy k 1).urgentStart e k

/-- The result of a direct conversion from its raw results: the mean of the extended results, to 24 bits; of an input that is never
converted the spec states none (R268, R278, R292, R293). -/
def Body.convResult (k : Nat) (raws : List Int) (b : Body) : Nat × Body :=
  let n := b.drd k .feConvctlNavg k + 1
  let input := b.drd k .feConvctlInput k
  if noInput input then (b.free.1 % 2 ^ 24, b.free.2)
  else
    let r := Body.samples k input (b.fe k).serve false (b.fe k).urg.startT (1000 * b.urgentNs k) 0 (raws.take n) b
    (ofSigned 24 (clampInt (-(2 ^ 23)) (2 ^ 23 - 1) (divRound (r.1.foldl (· + ·) 0 * 16) (n : Nat))), r.2)

/-- A direct conversion of die k ends (R293). -/
def Body.convDone (e : Env) (k : Nat) (raws : List Int) (b : Body) : Body :=
  let r := b.convResult k raws
  let b := r.2
  let sq := (b.drd k .feConvSeq k + 1) % 64
  let b := (b.dwr k .feConvtimeTime k (b.stampAt k (b.fe k).urg.startT)).dwr k .feConvtseqSeq k sq
  let b := ((b.dwr k .feConvResult k r.1).dwr k .feConvSeq k sq).dwr k .feConvOvr k
    (if b.drd k .feConvRdy k = 1 then 1 else b.drd k .feConvOvr k)
  (((b.dwr k .feConvRdy k 1).dwr k .feConvctlBusy k 0).urgentEnd e k false).urgentStart e k

/-- DIRECT_CONV_DONE (R293): the last of NAVG samples of the running conversion has been taken; raws are their raw results. Not while
the converters are stopped (R299). -/
def execDirectConvDone (k : DieIx) (raws : List Int) (s : State) : Out :=
  let b := s.body
  if (b.fe k).urg.run ≠ some .direct || !b.dieRuns k then .next s
  else .next ((s.goTo ((b.fe k).urg.startT + (b.drd k .feConvctlNavg k + 1) * b.urgentNs k)).onBody fun e b =>
    b.convDone e k raws)

/-- The word of FE[k].CONV (R312). -/
def Body.convWord (b : Body) (k : Nat) : Nat :=
  b.drd k .feConvRdy k * 2 ^ 31 + b.drd k .feConvOvr k * 2 ^ 30 + b.drd k .feConvSeq k * 2 ^ 24 + b.drd k .feConvResult k

/-- A read of FE[k].CONV returns the result and clears RDY and OVR (R293). -/
def Body.convRead (k : Nat) (b : Body) : Body :=
  ({ b with reply := [b.convWord k] } : Body).dwr k .feConvRdy k 0 |>.dwr k .feConvOvr k 0

/-- CONV_READ (R293). -/
def execConvRead (k : DieIx) (s : State) : Out := .next (s.onBody fun _ b => b.convRead k)

/-! ### Fault capture (R294 to R297) -/

/-- CAPTURE_TRIGGER (R294): source src triggers on die k. -/
def execCaptureTrigger (k : DieIx) (src unit : Nat) (s : State) : Out :=
  .next (s.onBody fun e b => b.capTriggerAll e k src unit)

/-- ABORT (R316): a running capture ends at the next slot boundary with CUT. -/
def Body.capAbort (k : Nat) (b : Body) : Body :=
  if (b.fe k).urg.run = some .capture then b.onUrg k fun u => { u with capAbort := true, capCut := true } else b

/-- Samples of a full capture (R316): LEN is clamped to 1 to 1 024. -/
def Body.capLen (b : Body) (k : Nat) : Nat := 256 * max 1 (min 1024 (b.drd k .feCaplenLen k))

/-- Change the capture of die k that is being taken, where one is recorded. -/
def Body.onCap (k : Nat) (f : Cap → Cap) (b : Body) : Body :=
  let i := (b.rcd.caps.reverse.findIdx? fun c => decide (c.die = k) && !c.ended).map fun i => b.rcd.caps.length - 1 - i
  match i with
  | none => b
  | some i => { b with rcd := { b.rcd with caps := b.rcd.caps.modify i f } }

/-- After a wide capture the channels' held samples enter the integration, and the metering hold ends (R296, R329). -/
def Body.endHold (e : Env) (k : Nat) (b : Body) : Body :=
  (b.forEach (dieChannels k) fun n b => b.onPath n fun m =>
      { m with wait := if b.meters n then m.wait ++ [(e.now, m.lastU)] else m.wait, cur := { m.cur with hold := true } }).span
    e.count 3 2 (0xFFFF * 2 ^ (16 * k))

/-- A capture of die k ends; after a wide one the rotation resumes with local channel 0 (R296, R297). -/
def Body.capEnd (e : Env) (k : Nat) (b : Body) : Body :=
  let u := (b.fe k).urg
  let wide := b.wideRuns k
  let taken := min (b.capLen k) ((e.now - u.startT) * 1000 / b.capPeriod k wide)
  let n := if u.capCut then taken else b.capLen k
  let b := (b.dwr k .feCaptimeTime k (b.stampAt k u.startT)).dwr k .feCapstatCount k (b.drd k .feCapstatCount k + 1)
  let b := if u.capCut then (b.dwr k .feCapstatCut k 1).raise (2, 16 + k) else b.raise (2, 8 + k)
  let b := (b.onCap k fun c => { c with samples := n, cut := u.capCut, ended := true }).capsGone
  let b := b.dwr k .feCapstatBusy k 0
  let b := if wide then ((b.endHold e k).onDie k fun d => { d with rotNext := 0 }).rotBoundary e k else b
  (b.urgentEnd e k wide).urgentStart e k

/-- CAPTURE_END (R297): its last sample is taken, or it is cut. -/
def execCaptureEnd (k : DieIx) (s : State) : Out :=
  let b := s.body
  let u := (b.fe k).urg
  if u.run ≠ some .capture || b.dieOff k then .next s
  else
    let t := if u.capCut then s.time.elapsed
      else u.startT + ceilDiv (b.capLen k * b.capPeriod k (b.wideRuns k)) 1000
    .next ((s.goTo t).onBody fun e b => b.capEnd e k)

/-- Samples that the capture buffer of a die holds (R297). -/
def capBuffer : Nat := 32768

/-- Samples of a capture of die k taken so far (R294, R297). -/
def Body.capTaken (e : Env) (b : Body) (k : Nat) (c : Cap) : Nat :=
  if c.ended then c.samples else min (b.capLen k) ((e.now - c.start) * 1000 / c.period)

/-- Samples of a capture that wait in the buffer (R297). DESIGN CHOICE (log 182): a sample that finds the buffer full is lost. -/
def Body.capWaits (e : Env) (b : Body) (k : Nat) (c : Cap) : Nat := min capBuffer (b.capTaken e k c - c.sent - c.lost)

/-- Samples in the next frame of a capture: eight, and behind its end what is left (R297, R436). -/
def Body.capFrameLen (e : Env) (b : Body) (k : Nat) (c : Cap) : Nat :=
  if 8 ≤ b.capWaits e k c then 8 else if c.ended then b.capWaits e k c else 0

/-- Sixteen-bit loop results of a frame, sample i in bits 16i to 16i + 15 (R268, R436). -/
def frameOf (xs : List Int) : Nat := xs.foldr (fun x a => ofSigned 16 (loopResult x) + 2 ^ 16 * a) 0

/-- The oldest capture of die k that has samples in its buffer sends its next frame, whose samples have the raw results raws
(R268, R297); a frame that finds the capture part of Basket full costs the capture (R423). -/
def Body.capFrame (e : Env) (k : Nat) (raws : List Int) (b : Body) : Body :=
  match b.rcd.caps.findIdx? fun c => decide (c.die = k) && decide (0 < b.capFrameLen e k c) with
  | none => b
  | some i =>
    match b.rcd.caps[i]? with
    | none => b
    | some c =>
      let n := b.capFrameLen e k c
      let lost := b.capTaken e k c - c.sent - b.capWaits e k c
      let xs := (raws ++ List.replicate n 0).take n
      let r := Body.samples k c.input c.serve c.wide c.start c.period (c.sent + c.lost) xs b
      let full := c.dev = some 0xFF || decide (ledgerPart < b.capUnits + 1)
      let c := { c with sent := c.sent + n, lost := lost, data := if full then [] else c.data ++ [frameOf r.1]
                        dev := if full then some 0xFF else none }
      (({ r.2 with rcd := { r.2.rcd with caps := r.2.rcd.caps.set i c } } : Body).framed k true [(7, [frameOf r.1])]).capsGone

/-- ICL_CAPTURE_DATA (R297): the next capture data frame reaches HUB; status frames go first (R30). -/
def execIclCaptureData (k : DieIx) (raws : List Int) (s : State) : Out :=
  .next (s.onBody fun e b =>
    if (b.fe k).joined && !b.hubDown && (b.fe k).up.isEmpty then b.capFrame e k raws else b)

/-! ### Bench scans (R368 to R373) -/

/-- A trigger at die k: zero marks a zero scan (R368, R370, R373). -/
def Body.benchTrigger (e : Env) (zero : Bool) (k : Nat) (b : Body) : Body :=
  let u := (b.fe k).urg
  if b.role ≠ .bench || !b.flag .metaBenchstatReady || !b.dieRuns k then b
  else if u.run = some .bench || !b.restOver e k || (b.fe k).restEnd.isSome then
    if (b.fe k).scanHeld.isNone then b.onDie k fun d => { d with scanHeld := some zero }
    else b.wr .metaBenchdieMissed k 1
  else if u.waitBench then b.wr .metaBenchdieMissed k 1
  else ((b.onDie k fun d => { d with scanZero := zero }).onUrg k fun u => { u with waitBench := true }).urgentStart e k

/-- BENCH_TRIG (R368): HUB sends the trigger to all eight dies. -/
def execBenchTrig (s : State) : Out :=
  .next (s.onHub fun e b => (List.range 8).foldl (fun b k => b.benchTrigger e false k) b)

/-- BENCH_ZERO (R373): one zero scan on every die. -/
def execBenchZero (s : State) : Out :=
  .next (s.onHub fun e b => (List.range 8).foldl (fun b k => b.benchTrigger e true k) b)

/-- The edge acts: CONVCTL.SRC selects it (R292), or in BENCH BENCHCFG.EDGE (R368). -/
def edgeActs (sel : Nat) (rising : Bool) : Bool :=
  match sel with
  | 1 => rising
  | 2 => !rising
  | 3 => true
  | _ => false

/-- An edge of CONVST has passed the filter of die k: it triggers a bench scan in BENCH, else a direct conversion (R292, R368). -/
def Body.convst (e : Env) (k : Nat) (rising : Bool) (b : Body) : Body :=
  if b.role = .bench then (if edgeActs (b.rd .metaBenchcfgEdge) rising then b.benchTrigger e false k else b)
  else if edgeActs (b.drd k .feConvctlSrc k) rising then b.convRequest e k else b

/-- The scan of die k that runs or waits has ratio brackets (R369, R373). -/
def Body.bracketed (b : Body) (k : Nat) : Bool := b.flag .metaBenchcfgRatio && !(b.fe k).scanZero

/-- The conversions of a scan in their order (R369, R373). -/
def Body.scanOrder (b : Body) (k : Nat) : List Nat :=
  let ps := b.points k
  if b.bracketed k then 49 :: ps ++ [49] else ps

/-- The points of which a scan forms results: those converted (R371). -/
def Body.scanPoints (b : Body) (k : Nat) : List Nat :=
  let ps := b.points k
  if b.bracketed k && !ps.contains 49 then ps ++ [49] else ps

/-- NAVG of a scan. -/
def Body.benchAvg (b : Body) : Nat := b.rd .metaBenchcfgNavg + 1

/-- T_SCAN in ns (R290, R369). -/
def Body.scanNs (b : Body) (k : Nat) : Nat :=
  (b.scanOrder k).length * (b.rd .metaBenchcfgDwell + b.benchAvg) * b.urgentNs k

/-- The denominator of a point's mean in pV. -/
def Body.benchDen (b : Body) : Nat := b.benchAvg * 2 * 1000000000 * 2 ^ 19

/-- The mean calibrated voltage of a point from a sum of extended results, in pV over `benchDen` (R367, R371). -/
def Body.benchV (b : Body) (k p : Nat) (sum : Int) : Int :=
  let n := 16 * k + p % 16
  let a : Int := (b.benchAvg : Nat)
  let w (r : Nat) : Int := toSigned 32 r
  if p < 16 then
    let i := if b.fineOn n then 4 else 2
    2 * ((1000000000 + w (b.chRec n i)) * sum * (b.vfsNv n : Nat) - a * w (b.chRec n (i + 1)) * 100000000 * 2 ^ 19) * 1000
  else if p < 32 then
    2 * ((1000000000 + w (b.chRec n 0)) * sum * 100 - a * w (b.chRec n 1) * 100 * 2 ^ 19) * 1000000000000
  else if p < 48 then 5 * sum * 1000000000 * 1000000000000
  else if p = 48 then
    2 * ((1000000000 + w (b.dieRec k 0)) * sum * 100 - a * w (b.dieRec k 1) * 100 * 2 ^ 19) * 1000000000000
  else ((1000000000 + w (b.dieRec k 2)) * sum * 25 - 2 * a * w (b.dieRec k 3) * 100 * 2 ^ 19) * 1000000000000

/-- The zero of a point in the same unit. -/
def Body.zeroOf (b : Body) (k p : Nat) : Int := toSigned 32 (b.drd k .feBzeroZero (50 * k + p)) * 1000 * (b.benchDen : Nat)

/-- Write a point's result (R371, R372): VALUE and the flags of STAT. -/
def Body.writePoint (k p sq value : Nat) (zeroed ratio sat : Bool) (b : Body) : Body :=
  let i := 50 * k + p
  let b := ((b.dwr k .bresValueValue i value).dwr k .bresStatSeq i sq).dwr k .bresStatValid i 1
  let b := ((b.dwr k .bresStatFine i (bit (p < 16 && b.fineOn (16 * k + p)))).dwr k .bresStatZeroed i (bit zeroed)).dwr k
    .bresStatRatio i (bit ratio)
  (b.dwr k .bresStatSat i (bit sat)).dwr k .bresStatCond i (orBits (b.fe k).scanCond (b.benchCond k))

/-- A quotient of integers rounded to nearest in 64 bits; where the divisor is 0 the spec states none. -/
def Body.ratioOrFree (p q : Int) (b : Body) : Nat × Body :=
  if q = 0 then (b.free.1 % 2 ^ 64, b.free.2)
  else (ofSigned 64 (if q < 0 then divRound (-p) (-q) else divRound p q), b)

/-- The CVB input of a bench point (R367). -/
def benchInput (p : Nat) : Nat := if p < 32 then p else if p < 48 then p + 0x10 else if p = 48 then 0x40 else 0x44

/-- The conversions of a scan of die k from their raw results: of each the sum of the extended results of its NAVG samples behind DWELL
discarded ones, and whether one of them is saturated (R268, R369, R376). -/
def Body.conversions (k : Nat) (raws : List (List Int)) (b : Body) : List (Int × Bool) × Body :=
  let order := b.scanOrder k
  let span := b.rd .metaBenchcfgDwell + b.benchAvg
  let f := fun (a : List (Int × Bool) × Body) (i : Nat) =>
    let xs := (raws.getD i []).take b.benchAvg
    let r := Body.samples k (benchInput (order.getD i 0)) (b.fe k).serve false (b.fe k).urg.startT (1000 * b.urgentNs k)
      (i * span + b.rd .metaBenchcfgDwell) xs a.2
    (a.1 ++ [(r.1.foldl (· + ·) 0, r.1.any fun x => decide (x.natAbs = 2 ^ 19 - 1))], r.2)
  (List.range order.length).foldl f ([], b)

/-- Commit one point of a scan (R371, R373): c is its conversion (sum, saturated), br the sum of the two brackets in ratio mode, and sat
says that one of their samples is saturated. -/
def Body.commitPoint (k sq p : Nat) (c : Int × Bool) (br : Option Int) (sat : Bool) (b : Body) : Body :=
  let z := b.drd k .feBzeroZero (50 * k + p)
  let den : Int := (b.benchDen : Nat)
  if (b.fe k).scanZero then
    let a := b.benchV k p c.1
    (b.writePoint k p sq (ofSigned 64 (divRound a den)) false false c.2).dwr k .feBzeroZero (50 * k + p)
      (ofSigned 32 (clampInt (-(2 ^ 31)) (2 ^ 31 - 1) (divRound a (1000 * den))))
  else
    let a := b.benchV k p c.1 - b.zeroOf k p
    match br with
    | none => b.writePoint k p sq (ofSigned 64 (divRound a den)) (decide (z ≠ 0)) false c.2
    | some s =>
      if p = 49 then b.writePoint k p sq (ofSigned 64 (divRound s (2 * den))) (decide (z ≠ 0)) false sat
      else
        let r := b.ratioOrFree (2 * a * 2 ^ 40) s
        r.2.writePoint k p sq r.1 (decide (z ≠ 0)) true c.2

/-- The results of a scan of die k are committed together (R371 to R373). -/
def Body.scanCommit (e : Env) (k : Nat) (raws : List (List Int)) (b : Body) : Body :=
  let len := b.scanNs k
  let r := b.conversions k raws
  let b := r.2
  let order := b.scanOrder k
  let ratio := b.bracketed k
  let conv (i : Nat) : Int × Bool := r.1.getD i (0, false)
  let b1 := b.benchV k 49 (conv 0).1 - b.zeroOf k 49
  let b2 := b.benchV k 49 (conv (order.length - 1)).1 - b.zeroOf k 49
  let br : Option Int := if ratio then some (b1 + b2) else none
  let sq := (b.rd .metaBenchdieSeq k + 1) % 65536
  let b := b.forEach (b.scanPoints k) fun p b => b.commitPoint k sq p (conv ((order.findIdx? (· = p)).getD 0)) br
    ((conv 0).2 || (conv (order.length - 1)).2)
  let b := if ratio then
      b.wr .metaBenchdieCaldrift k (bit (decide (5 * (b1 + b2).natAbs < 2000000 * (b1 - b2).natAbs)))
    else b
  let b := (b.dwr k .feBtimeTime k (b.stampAt k (b.fe k).urg.startT)).wr .metaBenchdieSeq k sq
  let b := (b.wr .metaBenchdieBusy k 0).wr .metaBenchdieRest k 1
  let b := b.onDie k fun d => { d with restEnd := some (e.now + len), scanZero := false }
  (b.urgentEnd e k false).urgentStart e k

/-- BENCH_SCAN_COMMIT (R372): the running scan of die k has taken its last sample; raws are the raw results that each of its
conversions averages, in order. -/
def execBenchScanCommit (k : DieIx) (raws : List (List Int)) (s : State) : Out :=
  if (s.body.fe k).urg.run ≠ some .bench || s.body.dieOff k then .next s
  else .next ((s.goTo ((s.body.fe k).urg.startT + s.body.scanNs k)).onBody fun e b => b.scanCommit e k raws)

/-- The rest of die k ends: a held trigger starts the next scan once the pass is complete (R370). -/
def Body.restEnds (e : Env) (k : Nat) (b : Body) : Body :=
  let b := (b.wr .metaBenchdieRest k 0)
  let h := (b.fe k).scanHeld
  let b := b.onDie k fun d => { d with restEnd := none, scanHeld := none }
  match h with
  | some z => ((b.onDie k fun d => { d with scanZero := z }).onUrg k fun u => { u with waitBench := true }).urgentStart e k
  | none => b

/-- BENCH_REST_END (R370). -/
def execBenchRestEnd (k : DieIx) (s : State) : Out :=
  match (s.body.fe k).restEnd with
  | some t => .next ((s.goTo t).onBody fun e b => b.restEnds e k)
  | none => .next s

end Sys2Proof.Machine
end

