-- ==== Sys2Proof/Machine/Metering.lean ====
section
/-!
DEFINITION. Metering in HUB (chapter 08): increments and accumulators, energy checkpoints, and the reference watch; the ledger blocks
that wait for increments (R427).
-/

namespace Sys2Proof.Machine

open Sys2Proof

/-! ### Increments (R14, R43, R327 to R332) -/

/-- Saturate a value to an unsigned field of w bits. -/
def satU (w : Nat) (x : Int) : Nat := (clampInt 0 ((2 ^ w - 1 : Nat) : Int) x).toNat

/-- Saturate a value to a signed field of w bits (R15). -/
def satS (w : Nat) (x : Int) : Nat := ofSigned w (clampInt (-((2 ^ (w - 1) : Nat) : Int)) ((2 ^ (w - 1) : Nat) - 1 : Int) x)

/-- A mean of n values of LSB 10^-9 × 2^-19, in units of p / q. -/
def meanUnits (x : Int) (n q p : Nat) : Int := divRound (x * (q : Nat)) ((n * 1000000000 * 2 ^ 19 * p : Nat))

/-- The full scale of the range of an interval, in nV. -/
def IntSum.fsNv (s : IntSum) : Nat := if s.fine then 18750000 else 75000000

/-- E_INC: the increment rounded to 2^-20 J (R328). -/
def IntSum.eInc (s : IntSum) : Int := clampInt (-(2 ^ 31)) (2 ^ 31 - 1) (rshiftRound s.e 44)

/-- The trend word of channel n (R14, R15, R328, R424). DESIGN CHOICE (log 215): V_MEAN and I_MEAN of an interval without a paired
sample are 0. -/
def Closed.word (n : Nat) (c : Closed) (sq : Nat) : Nat :=
  let s := c.sum
  let bench := decide (c.state = 0x0E)
  let v := if s.n = 0 then 0 else satU 24 (meanUnits s.v s.n 200000 1)
  let i := if s.n = 0 then 0 else satS 24 (meanUnits s.u s.n (2 ^ 23) s.fsNv)
  1 * 2 ^ 120 + n * 2 ^ 112 + c.state * 2 ^ 104 + sq % 4096 +
    (if bench then 0 else v * 2 ^ 80 + i * 2 ^ 56 + ofSigned 32 s.eInc * 2 ^ 24 + c.tj * 2 ^ 12)

/-- Add an increment to A_n and to the total (R330). -/
def Body.addEnergy (n : Nat) (x : Int) (b : Body) : Body :=
  (b.wr .energyAcc n (ofSigned 128 ((b.rd .energyAcc n : Int) + x))).wr .energyTotalAcc 0
    (ofSigned 128 ((b.rd .energyTotalAcc : Int) + x))

/-- An increment of an interval that ended at an elapsed instant is none of a block's that has closed before (R427). -/
def BlkEnd.after (w : BlkEnd) (n : Nat) (x : Int) (t : Nat) : BlkEnd :=
  if w.endE < t then { w with late := sparseSet 0 w.late n (ofSigned 128 ((sparseGet 0 w.late n : Int) + x)) } else w

/-- HUB accepts an increment of an interval that ended at a count and an elapsed instant (R330, R331, R427). -/
def Body.accept (n : Nat) (x : Int) (count t : Nat) (b : Body) : Body :=
  ((b.addEnergy n x).onMtr fun m => { m with recent := addSecond ((count - 1) / 1000000000) n x m.recent }).onRcd fun r =>
    { r with blkWait := r.blkWait.map fun w => w.after n x t }

/-- An increment that comes before the accumulator has its origin is the first since the start (R333). -/
def Body.noteFirst (e : Env) (n : Nat) (b : Body) : Body :=
  if b.mtr.origin.contains n then b else b.onMtr fun m => { m with firstInc := some (m.firstInc.getD (e.count, e.now)) }

/-- The elapsed instant at which an interval ended. -/
def Closed.endE (c : Closed) : Nat := c.start + c.len

/-- The mean power of an interval in mW (R328). -/
def Closed.mw (c : Closed) : Int := if c.len = 0 then 0 else divRound (c.sum.e * 1000000000000) ((2 ^ 64 * c.len : Nat))

/-- The mean current of an interval in µA (R325, R328). -/
def IntSum.ua (s : IntSum) : Int :=
  let un := s.u - s.ofs * (s.n * 1000000000 * 2 ^ 19 : Nat)
  divRound (un * (s.rDen * 100000000 : Nat)) ((s.n * 1000000000 * 2 ^ 19 * s.rNum : Nat))

/-- The readouts of the last interval (R328, R329, R336); without a sample the means stay. -/
def Body.showInterval (n : Nat) (c : Closed) (b : Body) : Body :=
  let s := c.sum
  let b := ((b.wr .chMstatHold n (bit s.hold)).wr .chMstatSlot n (bit s.slot)).wr .chMstatShtFb n (bit s.shFb)
  let b := b.wr .chMpowP n (satS 32 c.mw)
  if s.n = 0 then b
  else (b.wr .chMvoltV n (satU 32 (meanUnits s.v s.n 1000000 1))).wr .chMcurrI n (satS 32 s.ua)

/-- A slot keeps back no sample of before an instant, and will keep none (R352). -/
def MPath.noneHeld (m : MPath) (t : Nat) : Bool :=
  match m.slot with
  | some s => decide (t ≤ s.t0) || s.held.all fun h => decide (t ≤ h.t)
  | none => true

/-- The first closed interval of channel n is complete: every sample of it has been paired (R26, R326) and summed (R352). -/
def MPath.ready (m : MPath) : Bool :=
  match m.closed with
  | [] => false
  | [_] => m.noneHeld m.openT && m.wait.all fun s => decide (m.openT ≤ s.1)
  | _ :: c :: _ => m.noneHeld c.start

/-- The module builds blocks: SOLO, ACTIVE or BENCH (R363, R444). -/
def Body.builds (b : Body) : Bool := (b.drives || b.role = .bench) && !b.hubDown

/-- A checkpoint is due after a block that ends now: at a whole hour, or 3 600 s after the previous one (R432). -/
def Body.ckptAfter (e : Env) (b : Body) : Option Bool :=
  if e.count % 3600000000000 = 0 then some false
  else if 3600000000000 ≤ e.now - b.rcd.ckptT && b.rcd.ckptDue.isNone && b.rcd.blkWait.all (·.due.isNone) then some true
  else none

/-- The digest of the bank in force as two units (R357, R415): D[i] holds byte 4i in [31:24]. -/
def Body.digestUnits (b : Body) : List Nat :=
  hashUnits ((List.range 8).flatMap fun i => (leBytes 4 (b.rd .metaDigestD i)).reverse)

/-- The block that ends now, as far as it is known at its end; a step ends it early (R386, R427, R428). -/
def Body.blkEnd (e : Env) (stepEnd : Bool) (b : Body) : BlkEnd :=
  let r := b.rcd
  { t0 := r.blkT0, startE := r.blkE0, tEnd := e.count, endE := e.now
    flags := r.blkFlags % 2 ^ 13 + 2 * bit stepEnd + 64 * bit (!bitAt r.blkFlags 31)
    cite := b.rd .metaEpochEpoch * 2 ^ 96 + b.citeSeq * 2 ^ 64 + (e.now - r.blkE0) % 2 ^ 32 * 2 ^ 32 + b.rd .metaDigestD 0
    bank := (b.rd .metaEpochEpoch, b.digestUnits), qual := r.blkQual, bufq := r.blkBufq, frozen := r.blkFrozen, chan := b.blkChans
    late := [], due := b.ckptAfter e }

/-- The QUAL byte of channel n (R428). -/
def BlkEnd.qualByte (w : BlkEnd) (n : Nat) : Nat :=
  orBits w.qual (sparseGet 0 w.chan n) + 4 * bit (bitAt w.bufq (n / 16)) + 8 * bit (bitAt w.frozen (n / 16))

/-- The units of a block, its increments complete (R427, R429). -/
def Body.blockUnits (w : BlkEnd) (b : Body) : List Nat :=
  let r := b.rcd
  let body := (List.range 128).map fun n => ofSigned 128 ((b.rd .energyAcc n : Int) - toSigned 128 (sparseGet 0 w.late n))
  let qual := (List.range 8).map fun i => (List.range 16).foldl (fun a j => a + w.qualByte (16 * i + j) * 2 ^ (8 * j)) 0
  [recHead 0x10 146 w.flags w.t0, b.rd .recNextblkNo * 2 ^ 64 + w.tEnd, w.cite, b.rd .recLedgerIdId] ++ r.prevHash
  ++ hashUnits (sha256 (unitBytes body)) ++ hashUnits (sha256 (unitBytes (r.sharedSince.flatMap (·.units)))) ++ qual ++ body

/-- Every increment of an interval that ended at or before an elapsed instant has come from the dies that are joined (R427). -/
def Body.sumsTo (t : Nat) (b : Body) : Bool :=
  (List.range 8).all fun k => !(b.fe k).joined || (dieChannels k).all fun n =>
    let m := (b.en n).m
    (m.closed.all fun c => decide (t < c.endE)) && (!b.meters n || decide (t ≤ m.openT))

/-- A block whose increments have come enters the stream, and the chain moves on (R427, R429, R432). -/
def Body.writeBlock (w : BlkEnd) (b : Body) : Body :=
  let us := b.blockUnits w
  let no := b.rd .recNextblkNo
  let lost := b.staged ⟨us⟩
  ((b.emit ⟨us⟩).wr .recNextblkNo 0 (no + 1)).onRcd fun r =>
    { r with prevHash := hashUnits (sha256 (unitBytes (us.take 18))), sharedSince := if lost then r.sharedSince else []
             lastEnd := w.tEnd, lastBank := w.bank, ckptDue := w.due.orElse fun _ => r.ckptDue
             unacked := r.unacked ++ [(no, w.t0, w.startE)]
             basketBlk := if lost then (if r.basketBlk.1 < r.basketBlk.2 then r.basketBlk.1 else no, no + 1) else r.basketBlk }

/-- The closed blocks whose increments have come enter the stream, oldest first, none before a checkpoint that is due; by fuel (R427,
R432). -/
def Body.writeBlocks : Nat → Body → Body
  | 0, b => b
  | f + 1, b =>
    match b.rcd.blkWait with
    | [] => b
    | w :: rest => if b.rcd.ckptDue.isNone && b.sumsTo w.endE then Body.writeBlocks f ((b.onRcd fun r => { r with blkWait := rest }).writeBlock w) else b

/-- Write the closed blocks that are complete. -/
def Body.settleBlocks (b : Body) : Body := Body.writeBlocks b.rcd.blkWait.length b

/-- Close the open block; a step closes it early (R386, R427). -/
def Body.closeBlock (e : Env) (step : Bool) (b : Body) : Body :=
  let w := b.blkEnd e step
  (b.onRcd fun r =>
    { r with blkWait := r.blkWait ++ [w], blkT0 := e.count, blkE0 := e.now, blkFlags := bit step, blkQual := 0, blkBufq := 0
             blkFrozen := 0, blkChan := [] }).settleBlocks

/-- The trend word and increment of channel n reach HUB (R43, R330, R334, R424). -/
def Body.increment (e : Env) (n : Nat) (b : Body) : Body :=
  let k := dieOf n
  let m := (b.en n).m
  match m.closed with
  | [] => b
  | c :: rest =>
    if !m.ready || !(b.fe k).joined || b.hubDown then b
    else
      let sq := m.seq
      let b := (b.onPath n fun m => { m with closed := rest, seq := (m.seq + 1) % 4096 }).framed k true [(6, [c.word n sq])]
      let b := b.onDie k fun d => { d with secs := addSecond ((c.count - 1) / 1000000000) n c.sum.e d.secs }
      if c.epoch ≠ b.rd .twinDieEpoch k then
        ((b.gap 4 5 (c.count - c.len) c.count c.len 0 0 (2 ^ n)).markQualAt c.endE n 7).settleBlocks
      else
        let w := c.word n sq
        let b := (((b.closeUnmetered e k).noteFirst e n).accept n c.sum.e c.count c.endE).showInterval n c
        let b := if c.sum.slot then b.markQualAt c.endE n 5 else b
        let b := if c.sum.hold then b.markQualAt c.endE n 6 else b
        let b := b.onRcd fun r =>
          { r with trMeta := (c.count - c.len, c.len, orBits r.trMeta.2.2 (2 * bit c.sum.hold + 4 * bit c.sum.slot)) }
        let b := (b.onPath n fun m => if b.mtr.origin.contains n then { m with lastMw := c.mw } else m).onCh n fun ch =>
          { ch with pMeas := (c.mw.toNat :: ch.pMeas).take 16 }
        ({ b with trendWords := b.trendWords.filter (fun p => p.1 ≠ n) ++ [(n, w)] } : Body).settleBlocks

/-- ICL_TREND_INCREMENT (R43): the oldest closed interval of channel n. -/
def execIclTrendIncrement (n : ChIx) (s : State) : Out := .next (s.onBody fun e b => b.increment e n)

/-! ### Energy checkpoints (R331) -/

/-- The voltage of input 0x44 through CALIN from a sum of n results, 10 nV per LSB (R345, R349). -/
def Body.calInput (b : Body) (k : Nat) (sum : Int) (n : Nat) : Int :=
  divRound (((1000000000 + toSigned 32 (b.dieRec k 2)) * sum * 25
      - 2 * (n : Int) * toSigned 32 (b.dieRec k 3) * 100 * 2 ^ 19) * 100000000)
    ((2 * n * 1000000000 * 2 ^ 19 : Nat))

/-- The mean of the two middle values of eight (R340). -/
def middleTwo (l : List Int) : Int :=
  let s := l.foldl (fun acc x => insertInt x acc) []
  divRound (s.getD 3 0 + s.getD 4 0) 2

/-- META.CALIN over the last second. -/
def Body.calinSecond (b : Body) : Body :=
  let b := b.forEach (List.range 8) fun k b => b.onDie k fun d =>
    if d.calN = 0 then d else { d with calV := b.calInput k d.calSum d.calN, calSum := 0, calN := 0 }
  b.wr .metaCalinV 0 (satS 32 (middleTwo ((List.range 8).map fun k => (b.fe k).calV)))

/-- The second boundary at or before a count. -/
def secondOf (count : Nat) : Nat := count / 1000000000 * 1000000000

/-- Every increment of an interval of channel n that ended at or before a count has reached HUB. -/
def Body.sentTo (e : Env) (t0 n : Nat) (b : Body) : Bool :=
  let m := (b.en n).m
  (m.closed.all fun c => decide (t0 < c.count)) && (!b.meters n || decide (e.now + t0 ≤ m.openT + e.count))

/-- Every joined die has sent the increments of the intervals that ended at or before a count, and no block waits for one (R331, R427). -/
def Body.allSent (e : Env) (t0 : Nat) (b : Body) : Bool :=
  b.rcd.blkWait.isEmpty && (List.range 8).all fun k => !(b.fe k).joined || (dieChannels k).all fun n => b.sentTo e t0 n

/-- ENERGY_CHECKPOINT (R331): for the second boundary just passed, or the next one when that has its checkpoint; it waits for the
increments of the intervals that end there or before. -/
def execEnergyCheckpoint (s : State) : Out :=
  let t0 := secondOf s.time.count
  let s := if s.body.mtr.lastSec = some t0 then s.goTo (s.time.elapsed + (t0 + 1000000000 - s.time.count)) else s
  .next (s.onBody fun e b =>
    if b.hubDown || !b.allSent e (secondOf e.count) then b
    else ((b.calinSecond).writeCkpt (secondOf e.count)).onMtr fun m => { m with lastSec := some (secondOf e.count) })

/-- The read-back of the checkpoint that waits (R231, R331). -/
def Body.readback (ok : Bool) (b : Body) : Body :=
  match b.mtr.pend with
  | none => b
  | some i =>
    let c := b.mtr.ckpts.getD i Ckpt.empty
    if ok then
      let b := (b.wr .energyCkptTime 0 c.time).onMtr fun m => { m with pend := none }
      if b.rd .budgetHustatRunStage = 3 then b.onHu fun h => { h with verified := true } else b
    else
      let j := (i + 1) % 4
      (b.wr .energyStatCkptFail 0 1).onMtr fun m =>
        { m with ckpts := (m.ckpts.set i { c with valid := false }).set j c, pend := some j }

/-- CHECKPOINT_READBACK (R331): the slot just written reads back correctly or not. -/
def execCheckpointReadback (ok : Bool) (s : State) : Out := .next (s.onHub fun _ b => b.readback ok)

/-! ### Warm-up and the reference watch (R339 to R343) -/

/-- A reading of the reference cell's die temperature, as m°C above 70 °C: its bands of ±0.1 °C and ±0.5 °C (R339). -/
def Body.cellTake (e : Env) (x : Int) (b : Body) : Body :=
  if x.natAbs ≤ 100 then
    (b.wr .metaRefstatHeaterFault 0 0).onMtr fun m => { m with cellT := some (m.cellT.getD e.now), cellFar := none, cellOnce := true }
  else b.onMtr fun m => { m with cellT := none, cellFar := if 500 < x.natAbs then some (m.cellFar.getD e.now) else none }

/-- WARM_UP_COMPLETE (R339): the cell has stayed in its band for 15 min. -/
def execWarmUpComplete (s : State) : Out :=
  match s.body.mtr.cellT, s.body.flag .metaRefstatWarmDone with
  | some t, false => .next ((s.goTo (t + 900000000000)).onHub fun _ b => b.wr .metaRefstatWarmDone 0 1)
  | _, _ => .next s

/-- When the heater is next found at fault: the cell has been outside ±0.5 °C for 1 s, or has not come into its band 10 min after AUX
good (R339). -/
def Body.heaterDue (b : Body) : Option Nat :=
  if b.flag .metaRefstatHeaterFault then none
  else if b.mtr.cellOnce then b.mtr.cellFar.map (· + 1000000000)
  else some (b.boot.startT + 600000000000)

/-- HEATER_FAULT (R339, R353). -/
def execHeaterFault (s : State) : Out :=
  match s.body.heaterDue with
  | some t => .next ((s.goTo t).onHub fun e b => ((b.wr .metaRefstatWarmDone 0 0).wr .metaRefstatHeaterFault 0 1).calInterrupt e)
  | none => .next s

/-- dev_k in 0.01 ppm: ρ_k is the mean result of 12.5 V full scale over VZ_k (R340, R345). -/
def Body.devOf (k : Nat) (b : Body) : Int × Body :=
  let d := b.fe k
  let den : Int := (d.refN * b.dieRec k 5 * b.dieRec k 4 : Nat)
  if den = 0 then (toSigned 32 b.free.1, b.free.2)
  else (divRound ((d.refSum * 1250000000 * 2 ^ 12 - den) * 100000000) den, b)

/-- The eight dev_k. -/
def Body.devs : List Nat → Body → List Int × Body
  | [], b => ([], b)
  | k :: ks, b =>
    let r := b.devOf k
    let rs := Body.devs ks r.2
    (r.1 :: rs.1, rs.2)

/-- A watch flag after a check: set at the third consecutive excess, cleared after 360 consecutive checks within the lower
level; nothing is set before WARM_DONE (R341 to R343). Answers the flag and the two counts. -/
def watchNext (warm flag : Bool) (hi lo : Nat) (mag up down : Nat) : Bool × Nat × Nat :=
  let hi := if up < mag then hi + 1 else 0
  let lo := if mag ≤ down then lo + 1 else 0
  (if flag then decide (lo < 360) else warm && decide (3 ≤ hi), min hi 3, min lo 360)

/-- WATCH follows the module excursion (R341). -/
def Body.watchFollow (e : Env) (dev : Int) (b : Body) : Body :=
  let was := b.flag .metaRefstatWatch
  let r := watchNext (b.flag .metaRefstatWarmDone) was b.mtr.watchHi b.mtr.watchLo dev.natAbs 1000 800
  let b := (b.wr .metaRefstatWatch 0 (bit r.1)).onMtr fun m => { m with watchHi := r.2.1, watchLo := r.2.2 }
  let b := if r.1 && !was then b.raise (10, 0) else b
  if r.1 = was then b else b.event e.count 0x0100 0xFF (bit r.1) (ofSigned 32 dev) 0

/-- BUF bit k follows dev_k (R342). -/
def Body.bufFollow (e : Env) (k : Nat) (dev x : Int) (b : Body) : Body :=
  let was := bitAt (b.rd .metaRefstatBuf) k
  let r := watchNext (b.flag .metaRefstatWarmDone) was (sparseGet 0 b.mtr.bufHi k) (sparseGet 0 b.mtr.bufLo k)
    (x - dev).natAbs 500 400
  let v := b.rd .metaRefstatBuf
  let b := (b.wr .metaRefstatBuf 0 (if r.1 then setBit v k else clearBit v k)).onMtr fun m =>
    { m with bufHi := sparseSet 0 m.bufHi k r.2.1, bufLo := sparseSet 0 m.bufLo k r.2.2 }
  let b := if r.1 && !was then b.raise (10, 1) else b
  if r.1 = was then b else b.event e.count 0x0101 0xFF (bit r.1) k (ofSigned 64 x)

/-- One check of the reference watch. -/
def Body.refCheck (e : Env) (b : Body) : Body :=
  let r := Body.devs (List.range 8) b
  let b := r.2
  let dev := middleTwo r.1
  let b := b.forEach (List.range 8) fun k b =>
    (b.wr .metaRefdieDev k (satS 32 (r.1.getD k 0))).onDie k fun d => { d with refSum := 0, refN := 0 }
  let b := ((b.wr .metaRefdevDev 0 (satS 32 dev)).wr .metaRefstatValid 0 1).onMtr fun m => { m with refT := some e.now }
  b.forEach (List.range 8) (fun k b => b.bufFollow e k dev (r.1.getD k 0)) |>.watchFollow e dev

/-- REF_WATCH_CHECK (R340): at the next multiple of 10 s of the count; none in doze, nor within 10 s of the wake, while refT holds
the wake and VALID is 0 (R343). -/
def execRefWatchCheck (s : State) : Out :=
  if s.body.doze || s.body.hubDown then .next s
  else
    let r := s.time.count % 10000000000
    let d := if r = 0 && s.body.mtr.refT ≠ some s.time.elapsed then 0 else 10000000000 - r
    let d := match s.body.mtr.refT with
      | some t => if !s.body.flag .metaRefstatValid && decide (s.time.elapsed + d < t + 10000000000) then d + 10000000000 else d
      | none => d
    .next ((s.goTo (s.time.elapsed + d)).onBody fun e b => b.refCheck e)

end Sys2Proof.Machine
end

