-- ==== Sys2Proof/Machine/Recorder.lean ====
section
/-!
DEFINITION. The recorder's commands (chapter 11): trend blocks, ledger blocks and checkpoints, the writes to the devices and
their completion, device changes, the read window and the start of the recorder.
-/

namespace Sys2Proof.Machine

open Sys2Proof

/-! ### Trend blocks (R14, R423, R424) -/

/-- E_INC and channel of a trend word. -/
def wordInc (w : Nat) : Int := toSigned 32 (w / 2 ^ 24)

/-- V_MEAN of the module word: the mean over the dies of their mean BUS (R14). DESIGN CHOICE (log 215): a die without a BUS sample counts
as 0. -/
def Body.busMean (b : Body) : Nat :=
  let vs := (List.range 8).map fun k =>
    let p := (b.fe k).busDone
    if p.2 = 0 then 0 else meanUnits p.1 p.2 200000 1
  satU 24 (divRound (vs.foldl (· + ·) 0) 8)

/-- The module word (R14). -/
def Body.moduleWord (b : Body) (ws : List Nat) : Nat :=
  let inc := clampInt (-(2 ^ 31)) (2 ^ 31 - 1) (ws.foldl (fun a w => a + wordInc w) 0)
  let tj := (List.range 8).foldl (fun a k => max a (b.fe k).tempDone) 0
  let bench := b.role = .bench
  1 * 2 ^ 120 + 0xFF * 2 ^ 112 + b.role.code * 2 ^ 104 + b.rcd.modSeq % 4096 +
    (if bench then 0 else b.busMean * 2 ^ 80 + ofSigned 32 inc * 2 ^ 24 + tj * 2 ^ 12)

/-- The words of channels 0 to 127 that are present, in channel order; in BENCH every channel's, with STATE 0x0E (R424). -/
def Body.blockWords (b : Body) : List Nat :=
  if b.role = .bench then
    (List.range 128).map fun n => 1 * 2 ^ 120 + n * 2 ^ 112 + 0x0E * 2 ^ 104 + (b.en n).m.seq % 4096
  else (orderBy (fun x y => x < y) (b.trendWords.map (·.1))).map fun n =>
    ((b.trendWords.find? fun p => p.1 = n).getD (n, 0)).2

/-- T_START and DUR of the interval received; without an increment, as in BENCH, those of the nominal interval just ended. -/
def Body.trSpan (e : Env) (b : Body) : Nat × Nat :=
  let m := b.rcd.trMeta
  if m.2.1 ≠ 0 then (m.1, m.2.1) else ((e.count / b.trendNs - 1) * b.trendNs, b.trendNs)

/-- Trend blocks are formed: SOLO, ACTIVE or BENCH, and after a Seam of what closed before it (R424, R444, R445). -/
def Body.formsTrend (b : Body) : Bool := b.drives || b.role = .bench || b.role = .standby && !b.trendWords.isEmpty

/-- The span of trend that a full Basket has cost ends at a count and an elapsed instant (R423). -/
def Body.endDrop (t1 e1 : Nat) (b : Body) : Body :=
  match b.rcd.dropFrom with
  | some (t0, e0) => (b.gap 1 1 t0 t1 (e1 - e0) 0 0 (2 ^ 128 - 1)).onRcd fun r => { r with dropFrom := none }
  | none => b

/-- Form the trend block of the interval received, or discard it when the trend part is full (R423, R424). -/
def Body.trendBlock (e : Env) (b : Body) : Body :=
  if !b.formsTrend || b.doze || b.hubDown then b
  else
    let b := Body.displace e b.rcd.trend.length b
    let ws := b.blockWords
    let m := b.trSpan e
    let us := (0x02 * 2 ^ 120 + 1 * 2 ^ 112 + b.rcd.trMeta.2.2 % 256 * 2 ^ 104 + (ws.length + 1) % 256 * 2 ^ 96 + m.2 % 2 ^ 32 * 2 ^ 64
      + m.1 % 2 ^ 64) :: ws ++ [b.moduleWord ws]
    let b := { b with trendWords := [] }.onRcd fun r => { r with modSeq := (r.modSeq + 1) % 4096, trMeta := (0, 0, 0) }
    let b := if b.role = .bench then b.forEach (List.range 128) fun n b => b.onPath n fun p => { p with seq := (p.seq + 1) % 4096 }
      else b
    if b.flag .recStatBasketDown then b
    else if trendPart < b.trendUnits + us.length + (b.ledgerUnits - ledgerPart) then
      if b.rcd.dropFrom.isSome then b else b.onRcd fun r => { r with dropFrom := some (m.1, e.now - m.2) }
    else
      let e0 := e.now - m.2
      let b := b.endDrop m.1 e0
      (b.onRcd fun r =>
        { r with trend := r.trend ++ us, trendT0 := if r.trend.isEmpty then m.1 else r.trendT0
                 trendE0 := if r.trend.isEmpty then e0 else r.trendE0 }).showFill.showOldest

/-- TREND_BLOCK (R424). -/
def execTrendBlock (s : State) : Out := .next (s.onBody fun e b => b.trendBlock e)

/-- The end of the wait after a burst (R577). -/
def State.afterBurst (s : State) : State := s.goTo s.body.rcd.burstEnd

/-- A burst has been issued: the next waits 25 ms × F while throttled (R577). -/
def Body.burst (e : Env) (b : Body) : Body :=
  if b.throttle = 1 then b else b.onRcd fun r => { r with burstEnd := e.now + 25000000 * b.throttle }

/-- TREND_STRIPE_WRITE (R426): a full stripe goes to the next device; after a planned Seam what is left of the trend goes as it is
(R445). -/
def execTrendStripeWrite (s : State) : Out :=
  .next (s.afterBurst.onHub fun e b => ((b.writeStripe e (b.role = .standby) false).burst e).showFill)

/-! ### Blocks and checkpoints (R427, R432, R433) -/

/-- LEDGER_BLOCK_CLOSE (R427): the whole second just reached, or the next one. -/
def execLedgerBlockClose (s : State) : Out :=
  if !s.body.builds then .next s
  else
    let r := s.time.count % 1000000000
    let d := if r = 0 && s.body.rcd.blkT0 ≠ s.time.count then 0 else 1000000000 - r
    .next ((s.goTo (s.time.elapsed + d)).onBody fun e b => b.closeBlock e false)

/-- Bytes of a number as a big-endian octet string, as a unit's value of its own (R415, R432). -/
def beUnits (x : Nat) : List Nat := hashUnits ((leBytes 32 x).reverse)

/-- The role flags of a checkpoint (R432). -/
def Role.ckptFlag : Role → Nat
  | .solo => 1 | .active => 2 | .standby => 4 | .bench => 8 | .starting => 0

/-- MODULE_SERIAL as a unit. -/
def Body.serialUnit (b : Body) : Nat :=
  (List.range 4).foldl (fun a i => a + b.rd .modSerialBytes i * 2 ^ (32 * i)) 0

/-- Write the signed checkpoint that is due (R432, R433); ok: the engine verified the signature. -/
def Body.checkpoint (e : Env) (ok : Bool) (b : Body) : Body :=
  match b.rcd.ckptDue with
  | none => b
  | some off =>
    let r := b.rcd
    let no := r.signed + 1
    let last := b.rd .recNextblkNo - 1
    let flags := b.role.ckptFlag + 16 * bit off + 32 * bit (!ok) + 64 * bit r.chainBreak
    let us := [recHead 0x11 16 flags r.lastEnd, no % 2 ^ 64 * 2 ^ 64 + last,
      r.ckptFirst * 2 ^ 64 + r.lastBank.1 * 2 ^ 32 + b.rd .recKeyidKeyId, b.rd .recLedgerIdId] ++ r.prevHash
      ++ r.lastBank.2 ++ [b.serialUnit, b.citeSeq * 2 ^ 96 + b.rd .healthOphoursHours * 2 ^ 64]
      ++ hashUnits (sha256 (unitBytes (r.localSince.flatMap (·.units))))
    let sig := ecdsaSign r.key (unitBytes us)
    let sg := if ok then beUnits sig.1 ++ beUnits sig.2 else [0, 0, 0, 0]
    let b := (b.emit ⟨us ++ sg⟩).wr .recCkptnoNo 0 no
    let b := b.onRcd fun r =>
      { r with localSince := [], ckptDue := none, ckptFirst := last + 1, ckptT := e.now, chainBreak := false, signed := no }
    if ok then b else (b.wr .recStatSignFail 0 1).raise (6, 3)

/-! ### The ledger of a STANDBY module (R431, R432, R444) -/

/-- Bytes with the first four of a word, most significant first, in place of their own. -/
def tagged (tag : Nat) (units : List Nat) : List Nat :=
  match units with
  | u :: us => (u - u % 2 ^ 32 + ofLeBytes (leBytes 4 tag).reverse) :: us
  | [] => []

/-- A block of the partner moves the chain on, and this module's own checkpoint may be due after it (R427, R432, R444). DESIGN CHOICE
(log 194): of the bank that governs it this module holds EPOCH and CAL_TAG alone, and the rest of the digest is a free value. -/
def Body.takeBlock (e : Env) (units : List Nat) (b : Body) : Body :=
  let no := units.getD 1 0 / 2 ^ 64
  let tEnd := units.getD 1 0 % 2 ^ 64
  let t0 := units.getD 0 0 % 2 ^ 64
  let endE := e.now - (e.count - tEnd)
  let off := decide (3600000000000 ≤ e.now - b.rcd.ckptT) && b.rcd.ckptDue.isNone
  let due := if tEnd % 3600000000000 = 0 then some false else if off then some true else b.rcd.ckptDue
  let d0 := b.free
  let d1 := d0.2.free
  (d1.2.wr .recNextblkNo 0 (no + 1)).onRcd fun c =>
    { c with prevHash := hashUnits (sha256 (unitBytes (units.take 18))), sharedSince := [], lastEnd := tEnd
             lastBank := (units.getD 2 0 / 2 ^ 96, tagged (units.getD 2 0) [d0.1 % 2 ^ 128, d1.1 % 2 ^ 128]), ckptDue := due
             unacked := c.unacked ++ [(no, t0, endE - units.getD 2 0 / 2 ^ 32 % 2 ^ 32)]
             blkT0 := tEnd, blkE0 := endE, blkFlags := 0, blkQual := 0, blkBufq := 0, blkFrozen := 0, blkChan := [] }

/-- The first block of another ledger than this module's comes from the partner: with blank devices the module goes on with it, behind an
ORIGIN record of KIND 4 (R434, R444). DESIGN CHOICE (log 219): a ledger of its own gives way too. -/
def Body.joinLedger (e : Env) (units : List Nat) (b : Body) : Body :=
  let id := units.getD 3 0
  let no := units.getD 1 0 / 2 ^ 64
  if b.rd .recLedgerIdId = id then b
  else
    let hash := (units.drop 4).take 2
    let b := ((b.wr .recLedgerIdId 0 id).wr .recNextblkNo 0 no).onRcd fun r =>
      { r with prevHash := hash, ckptFirst := no, ackBlk := no, unacked := [] }
    b.emit (mkRec 0x12 (4 * 2 ^ 24) e.count ([id, no * 2 ^ 64 + (no - 1)] ++ hash ++ [b.serialUnit]))

/-- A shared record or block of the partner enters the stream; a GAP record is counted. -/
def Body.takeUnits (r : LRec) (b : Body) : Body :=
  let b := b.emit r
  if r.typ = 0x14 then b.noteGap else b

/-- The blocks received enter the stream in the order of their BLOCK_NO, each behind the shared records that are bound to it, none before a
checkpoint that is due; by fuel (R432, R444). -/
def Body.takeAhead (e : Env) : Nat → Body → Body
  | 0, b => b
  | f + 1, b =>
    if b.rcd.ckptDue.isSome || !b.rcd.ready then b
    else
      let b := match b.rcd.ahead with
        | (_, g) :: _ => b.joinLedger e ((g.getLastD ⟨[]⟩).units)
        | [] => b
      let next := b.rd .recNextblkNo
      match b.rcd.ahead.find? fun x => x.1 = next with
      | some x =>
        let b := x.2.foldl (fun b r => b.takeUnits r) (b.onRcd fun r => { r with ahead := r.ahead.filter fun y => decide (next < y.1) })
        Body.takeAhead e f (b.takeBlock e ((x.2.getLastD ⟨[]⟩).units))
      | none => b

/-- The blocks received enter the stream as far as they can; the stream follows the partner's once none of them waits. -/
def Body.settleAhead (e : Env) (b : Body) : Body :=
  if b.rcd.ahead.isEmpty then b
  else (Body.takeAhead e b.rcd.ahead.length b).onRcd fun r => { r with follows := r.ahead.isEmpty }

/-- BLULI_LEDGER_RECORD (R444): a shared record or block of the partner, written unchanged; a record that had been passed to the ACTIVE
module has come back. Shared records that come before a block of which the turn has not come wait with it. -/
def Body.takeRecord (e : Env) (units : List Nat) (b : Body) : Body :=
  let r : LRec := ⟨units.map (· % 2 ^ 128)⟩
  let b : Body := { b with twin := { b.twin with pass := b.twin.pass.erase r } }
  if r.typ ≠ 0x10 then
    if b.rcd.follows || b.role ≠ .standby then b.takeUnits r else b.onRcd fun c => { c with group := c.group ++ [r] }
  else
    (b.onRcd fun c => { c with ahead := c.ahead ++ [(r.units.getD 1 0 / 2 ^ 64, c.group ++ [r])], group := [] }).settleAhead e

/-- SIGNED_CHECKPOINT (R432): the blocks that wait for it follow. -/
def execSignedCheckpoint (ok : Bool) (s : State) : Out :=
  .next (s.onBody fun e b =>
    if b.hubDown || b.rcd.ckptDue.isNone then b else ((b.checkpoint e ok).settleBlocks).settleAhead e)

/-- Units at which a STANDBY module's staging buffer is three-quarters full (R444). -/
def burstUnits : Nat := 12288

/-- A STANDBY module writes in bursts: when its buffer is three-quarters full, or 64 s after the last one (R431, R444). -/
def State.afterStaging (s : State) : State :=
  if s.body.role = .standby && decide (s.body.streamUnits < burstUnits) then s.goTo (s.body.rcd.burstT + 64000000000) else s

/-- The ledger page, or in a STANDBY module a burst of all that is staged. -/
def Body.pageWrite (e : Env) (b : Body) : Body :=
  if b.role = .standby then (b.ledgerOut e).onRcd fun r => { r with burstT := e.now } else b.ledgerPage e

/-- LEDGER_PAGE_WRITE (R431): the last page with the waiting units goes to every device that takes writes. -/
def execLedgerPageWrite (s : State) : Out :=
  .next (s.afterStaging.afterBurst.onHub fun e b => ((b.pageWrite e).burst e).showFill)

/-! ### Captures (R436) -/

/-- CAPDATA_WRITE (R436). -/
def execCapdataWrite (s : State) : Out := .next (s.afterBurst.onHub fun e b => (b.capWrite e).burst e)

/-! ### Commands of a device (R418, R440) -/

/-- One more error of device d: the sixteenth within one hour fails it (R440). -/
def Body.devError (e : Env) (d : Nat) (b : Body) : Body :=
  let es := e.now :: (b.dev d).errs.filter fun t => e.now < t + 3600000000000
  let b := (b.onDev d fun v => { v with errs := es }).bump .recDeverrErrs d
  if 16 ≤ es.length then b.failDev e d else b

/-- A write of device d has failed a second time (R440). -/
def Body.writeLost (e : Env) (d : Nat) (c : DevCmd) (b : Body) : Body :=
  match c.work with
  | .ledger _ _ | .label | .copy _ | .flush | .format => if b.devSt d = 8 then b else b.failDev e d
  | .stripe i t0 t1 _ len =>
    ((b.onDev d fun v => { v with stripes := v.stripes.filter (· ≠ (i, t0)) }).showOldest).gap 1 4 t0 t1 len 0 0 (2 ^ 128 - 1)
  | .pool cap _ _ => (b.onDev d fun v => { v with cmds := v.cmds.filter fun x => !x.ofCap cap.no }).capLost 4 cap

/-- A write of device d is acknowledged: what it carried leaves Basket, and a capture that is stored whole has its CAPTURE record (R422,
R436, R439). -/
def Body.acked (e : Env) (d : Nat) (c : DevCmd) (b : Body) : Body :=
  match c.work with
  | .ledger _ n => b.onRcd fun r => { r with ackBlk := max r.ackBlk n, unacked := r.unacked.filter fun x => decide (n ≤ x.1) }
  | .pool cap lba _ => if (b.dev d).cmds.any (DevCmd.ofCap cap.no) then b else b.emit ⟨cap.units 0x1C d lba []⟩
  | .copy p => ((b.onDev d fun v => { v with lacks := max v.lacks (p + 1) }).showCopy d).copyNext e d
  | .label | .stripe _ _ _ _ _ | .flush | .format => b

/-- The commands of device d that have been issued, by their place. -/
def Body.issued (b : Body) (d : Nat) : List Nat := ((b.dev d).cmds.zipIdx.filter fun x => !x.1.parked).map (·.2)

/-- One of them: which of several completes first the spec does not state (R418). -/
def Body.pick (is : List Nat) (b : Body) : Nat × Body :=
  match is with
  | [i] => (i, b)
  | is => let r := b.free; (is.getD (r.1 % is.length) 0, r.2)

/-- A command of device d completes (R418, R422, R440). -/
def Body.complete (e : Env) (d : Nat) (ok : Bool) (b : Body) : Body :=
  if (b.issued d).isEmpty then b
  else
    let x := b.pick (b.issued d)
    let i := x.1
    let b := x.2
    match (b.dev d).cmds[i]? with
    | none => b
    | some c =>
      let drop := b.onDev d fun v => { v with cmds := v.cmds.eraseIdx i }
      if ok then ((drop.acked e d c).ejected e d).showFill
      else
        let b := b.devError e d
        if b.devSt d = 8 then b
        else if c.again then ((b.onDev d fun v => { v with cmds := v.cmds.eraseIdx i }).writeLost e d c).showFill
        else b.onDev d fun v => { v with cmds := v.cmds.modify i fun c => { c with again := true, t := e.now, parked := !b.writesGo } }

/-- NVME_COMMAND_COMPLETE (R418): of a command of device d, in success or error. -/
def execNvmeCommandComplete (d : Fin 2) (ok : Bool) (s : State) : Out := .next (s.onHub fun e b => b.complete e d ok)

/-- Hold the PERST_N pin of device d low up to an instant (R597). -/
def Body.holdPerst (d t : Nat) (b : Body) : Body :=
  b.onRcd fun r => { r with perst := if d % 2 = 0 then (t, r.perst.2) else (r.perst.1, t) }

/-- PEA_PERST_N (0) or PEB_PERST_N (1) is held low (R597). -/
def Body.perstLow (e : Env) (b : Body) (d : Nat) : Bool := decide (e.now < if d % 2 = 0 then b.rcd.perst.1 else b.rcd.perst.2)

/-- A reset of the controller of device d holds its PERST_N low; for how long the spec does not state (R418, R597). -/
def Body.resetCtl (e : Env) (d : Nat) (b : Body) : Body :=
  let r := b.free
  r.2.holdPerst d (e.now + r.1 % 2 ^ 24)

/-- A command of device d has timed out: the controller is reset and the command reissued; the third failed reset within 60 s
fails the device (R418). -/
def Body.timedOut (e : Env) (d : Nat) (resetOk : Bool) (b : Body) : Body :=
  let b := (b.bump .recDeverrResets d).resetCtl e d
  let b := b.onDev d fun v => { v with cmds := v.cmds.map fun c => { c with t := e.now, parked := !b.writesGo } }
  if resetOk then b
  else
    let rs := e.now :: (b.dev d).resets.filter fun t => e.now < t + 60000000000
    let b := b.onDev d fun v => { v with resets := rs }
    if 3 ≤ rs.length then b.failDev e d else b

/-- NVME_COMMAND_TIMEOUT (R418): a command of device d is not complete 1 s after its submission; the oldest comes first. -/
def execNvmeCommandTimeout (d : Fin 2) (resetOk : Bool) (s : State) : Out :=
  match (s.body.dev d).cmds.filter fun c => !c.parked with
  | [] => .next s
  | c :: cs => .next ((s.goTo (cs.foldl (fun a x => min a x.t) c.t + 1000000000)).onHub fun e b => b.timedOut e d resetOk)

/-- The module reads the health log of device d: the device is identified, not refused, failed or out of use, and commands are issued
(R418, R419, R437, R442). -/
def Body.smartReads (b : Body) (d : Nat) : Bool := decide (1 ≤ b.devSt d) && decide (b.devSt d ≤ 5) && b.writesGo

/-- The health log of device d; it is read again 60 s later (R418). -/
def Body.smart (e : Env) (d crit pct temp : Nat) (b : Body) : Body :=
  (((b.wr .recDevstatCritWarn d crit).wr .recDevhlthPctUsed d pct).wr .recDevhlthTemp d temp).onDev d fun v =>
    { v with smartT := e.now + 60000000000 }

/-- SMART_POLL (R418): the health log of device d, read every 60 s. -/
def execSmartPoll (d : Fin 2) (crit pct temp : Nat) (s : State) : Out :=
  if !s.body.smartReads d then .next s
  else .next ((s.goTo (s.body.dev d).smartT).onHub fun e b => b.smart e d crit pct temp)

/-! ### Device changes (R419, R437 to R439) -/

/-- The refusal of a device, first reason first (R419). -/
def devRefuse (i : DevInfo) : Nat :=
  if !i.fmt4k then 1 else if i.namespaces ≠ 1 then 2 else if i.lbas < 976562500 then 3 else if i.hmb then 4
  else if !i.ready then 5 else 0

/-- A prepared device joins: a resilver from the other device, or ONLINE at once (R438, R439). -/
def Body.devJoin (e : Env) (d : Nat) (b : Body) : Body :=
  let b := b.onDev d fun v => { v with idle := false, joinT := e.now, copyFrom := v.lacks, copyTo := b.rcd.pages }
  if b.devOn (1 - d) && decide ((b.dev d).lacks < b.rcd.pages) then
    ((((b.setDev d 5).wr .recDevstatResilverPct d 0).takeHeld e d)).copyNext e d
  else ((b.setDev d 4).devRec e d 1).takeHeld e d

/-- The ten units of a LABEL (R438). -/
def Body.labelUnits (e : Env) (d : Nat) (b : Body) : List Nat :=
  [0x17 * 2 ^ 120 + 1 * 2 ^ 112 + 10 * 2 ^ 96 + e.count, b.rd .recLedgerIdId, b.rd .recDevcapLbas d * 2 ^ 64,
   256 * 2 ^ 64 + ledgerPages, 671088896 * 2 ^ 64 + 67108864, trendBase * 2 ^ 64 + b.stripes d * 256]
  ++ (b.dev d).serial ++ [b.serialUnit, d * 2 ^ 120]

/-- Prepare device d (R438): Format NVM where its namespace needs it, both LABEL pages, a DEVICE record of KIND 4, and a resilver; under a
hold on writes the preparation waits (R442). -/
def Body.prepare (e : Env) (d : Nat) (b : Body) : Body :=
  if !b.writesGo then b.onDev d fun v => { v with prepDue := true }
  else
    let pg := mkPage 4 0 (b.labelUnits e d)
    let b := if (b.dev d).inFormat then b else b.submit e d .format 0 []
    let b := (b.submit e d .label 0 pg).submit e d .label 128 pg
    let b := b.onDev d fun v =>
      { v with label := b.rd .recLedgerIdId, lacks := 0, poolLba := poolBase, stripes := [], inFormat := true, prepDue := false }
    ((b.wr .recDevwpStripe d 0).devRec e d 4).devJoin e d

/-- Writes may go on after a hold: the commands that wait are issued, and preparations and ejections that wait run (R437, R438, R442). -/
def Body.resumeWrites (e : Env) (b : Body) : Body :=
  if !b.writesGo then b
  else
    b.forEach [0, 1] fun d b =>
      let b := b.onDev d fun v => { v with cmds := v.cmds.map fun c => if c.parked then { c with parked := false, t := e.now } else c }
      let b := if (b.dev d).ejectDue then b.ejectWrites e d else b
      if (b.dev d).prepDue then b.prepare e d else b

/-- A device of this module's ledger rejoins: the numbers of the trend and pool streams go on behind those that it holds (R417, R438,
R443). -/
def Body.rejoin (e : Env) (d : Nat) (b : Body) : Body :=
  let v := b.dev d
  (b.onRcd fun r => { r with trendPseq := max r.trendPseq v.trendPseq, poolPseq := max r.poolPseq v.poolPseq }).devJoin e d

/-- A device that passed its checks, by its label: it rejoins, is FOREIGN, or is BLANK and is prepared at once with
AUTO_PREPARE (R438). -/
def Body.classify (e : Env) (d : Nat) (b : Body) : Body :=
  let l := (b.dev d).label
  if l ≠ 0 ∧ l = b.rd .recLedgerIdId then b.rejoin e d
  else if l ≠ 0 then (b.setDev d 3).raise (6, 10 + d)
  else
    let b := (b.setDev d 2).raise (6, 10 + d)
    if b.flag .recCtrlAutoPrepare then b.prepare e d else b

/-- CALINT.DUE_REM: whole days of operating time left, of 365 while no image has set the interval (R356). -/
def Body.showDue (b : Body) : Body :=
  let i := b.rd .metaCalintInterval
  b.wr .metaCalintDueRem 0 ((if i = 0 then 365 else i) - (b.rd .healthOphoursHours - b.mtr.dueFrom) / 24)

/-- What follows a new value of a field: with AUTO_PREPARE, BLANK devices are prepared at once (R438); DUE_REM goes with its interval
(R356). -/
def Body.recHook (e : Env) (f : Fld) (b : Body) : Body :=
  if f = .metaCalintInterval then b.showDue
  else if f = .recCtrlAutoPrepare && b.flag .recCtrlAutoPrepare then
    [0, 1].foldl (fun b d => if b.devSt d = 2 then b.prepare e d else b) b
  else b

/-- The link of device d comes up: Identify, the checks, the labels (R419, R438). Until the recorder has its position, the
device is PROBING (R443). -/
def Body.linkUp (e : Env) (d : Nat) (i : DevInfo) (b : Body) : Body :=
  if b.devSt d ≠ 0 || b.hubDown then b
  else
    let b := (b.wr .recDevstatGen d i.gen).wr .recDevstatWidth d i.width
    let b := b.onDev d fun _ =>
      { Dev.reset with label := i.label, lacks := i.pages, poolLba := i.poolLba, serial := [i.serialLo.toNat, i.serialHi.toNat]
                       inFormat := i.inFormat, smartT := e.now, trendPseq := i.trendPseq, poolPseq := i.poolPseq }
    if devRefuse i ≠ 0 then (b.wr .recDevstatRefuse d (devRefuse i)).setDev d 9 |>.devRec e d 7
    else
      let b := ((b.wr .recDevstatRefuse d 0).wr .recDevcapLbas d i.lbas).wr .recDevwpStripe d i.trendWp
      let b := (b.onDev d fun v => { v with stripes := i.stripes }).showOldest
      if b.rcd.ready then b.classify e d else b.setDev d 1

/-- DEVICE_LINK_UP (R438): not before the device's PERST_N is released (R597). -/
def execDeviceLinkUp (d : Fin 2) (i : DevInfo) (s : State) : Out :=
  .next ((s.goTo (if d.val = 0 then s.body.rcd.perst.1 else s.body.rcd.perst.2)).onBody fun e b => b.linkUp e d i)

/-- The readouts of a port without a device: those that describe the device are 0 (R448). -/
def Body.noDevice (d : Nat) (b : Body) : Body :=
  [Fld.recDevstatRefuse, .recDevstatGen, .recDevstatWidth, .recDevstatResilverPct, .recDevstatCritWarn, .recDevcapLbas, .recDevhlthPctUsed,
    .recDevhlthTemp, .recDevwpStripe].foldl (fun b f => b.wr f d 0) b

/-- Device d is removed (R437). -/
def Body.linkLoss (e : Env) (d : Nat) (b : Body) : Body :=
  if b.devSt d = 0 then b
  else
    let b := b.devRec e d 3
    ((((b.setDev d 0).dropCmds e d).noDevice d).raise (6, 16 + d)).copyEnds e (1 - d)

/-- DEVICE_LINK_LOSS (R437). -/
def execDeviceLinkLoss (d : Fin 2) (s : State) : Out := .next (s.onHub fun e b => b.linkLoss e d)

/-- DEVICE_EJECT (R437). -/
def execDeviceEject (d : Fin 2) (s : State) : Out := .next (s.onHub fun e b => b.eject e d)

/-- Bit i of the unlocks (R499). -/
def Body.unlocked (b : Body) (i : Nat) : Bool := bitAt (b.rd .modExpertUnlock) i

/-- PREPARE of a BLANK or FOREIGN device, with the recorder unlock. -/
def Body.devPrepare (e : Env) (d : Nat) (b : Body) : Body :=
  if (b.devSt d = 2 ∨ b.devSt d = 3) ∧ b.unlocked 8 then b.prepare e d else b

/-- DEVICE_PREPARE (R438). -/
def execDevicePrepare (d : Fin 2) (s : State) : Out := .next (s.onHub fun e b => b.devPrepare e d)

/-- CANCEL of device d (R448): a preparation that has not begun is dropped; a resilver stops, and the device stays in RESILVER, idle. -/
def Body.devCancel (d : Nat) (b : Body) : Body :=
  let b := b.onDev d fun v => { v with prepDue := false }
  if b.devSt d = 5 then b.onDev d fun v => { v with idle := true, cmds := dropCopies v.cmds } else b

/-- DEVICE_CANCEL (R448). -/
def execDeviceCancel (d : Fin 2) (s : State) : Out := .next (s.onHub fun _ b => b.devCancel d)

/-- The shortest time in which the pages that a resilver of device d still copies can be copied: 4 096 bytes at 100 MB/s each (R439). -/
def Body.copyNs (b : Body) (d : Nat) : Nat := ((b.dev d).copyTo - (b.dev d).lacks) * 40960

/-- A resilver of device d runs: its source is ONLINE, and commands are issued (R439, R442). -/
def Body.resilvers (b : Body) (d : Nat) : Bool := b.devSt d = 5 && !(b.dev d).idle && b.devOn (1 - d) && b.writesGo

/-- The copy to device d is complete: the device is ONLINE (R439). -/
def Body.resilvered (e : Env) (d : Nat) (b : Body) : Body :=
  let b := b.onDev d fun v => { v with lacks := max v.lacks v.copyTo, cmds := dropCopies v.cmds }
  (((b.devRec e d 5).raise (6, 12 + d)).showCopy d).setDev d 4

/-- RESILVER_DONE (R439): the pages that are left have been copied to device d. -/
def execResilverDone (d : Fin 2) (s : State) : Out :=
  if !s.body.resilvers d then .next s
  else .next ((s.goTo (s.time.elapsed + s.body.copyNs d)).onHub fun e b => b.resilvered e d)

/-- RECORDER_FLUSH (R426). -/
def execRecorderFlush (s : State) : Out := .next (s.onHub fun e b => (b.flushAll e).showFill)

/-! ### The read window (R446) -/

/-- RDCTL.GO (R446): ignored while a read is in progress. -/
def Body.readGo (src half : Nat) (b : Body) : Body :=
  if b.flag .recRdctlBusy then b
  else ((b.wr .recRdctlSrc 0 src).wr .recRdctlHalf 0 half).wr .recRdctlBusy 0 1

/-- RECORDER_READ_GO (R446): SRC and HALF as written with GO. -/
def execRecorderReadGo (src half : Nat) (s : State) : Out := .next (s.onHub fun _ b => b.readGo (src % 4) (half % 2))

/-- The source of the read is a device that is not ONLINE, an LBA beyond it, or no source (R446). -/
def Body.readFails (b : Body) : Bool :=
  let src := b.rd .recRdctlSrc
  if src = 3 then true else if src = 2 then false
  else !b.devOn src || decide (b.rd .recDevcapLbas src ≤ b.rd .recRdlbaLba)

/-- The words of a half of the certificate, padded with 0: byte 4j of the half in bits [7:0] of word j (R446). -/
def certWords (cert : List Nat) (half : Nat) : List Nat :=
  let bs := cert.drop (2048 * half)
  (List.range 512).map fun j => ofLeBytes ((bs.drop (4 * j)).take 4)

/-- The words that a read brings: of the certificate this module's own, else those of the page read. -/
def Body.readWords (b : Body) (data : List Word) : List Nat :=
  if b.rd .recRdctlSrc = 2 then certWords b.rcd.cert (b.rd .recRdctlHalf) else (List.range 512).map fun j => (data.getD j 0).toNat

/-- RECORDER_READ_DONE (R446): data are the words of the half read. -/
def execRecorderReadDone (ok : Bool) (data : List Word) (s : State) : Out :=
  .next (s.onHub fun _ b =>
    if !b.flag .recRdctlBusy then b
    else
      let ws := b.readWords data
      let b := b.wr .recRdctlBusy 0 0
      if b.readFails || !ok then b.wr .recRdctlErr 0 1
      else (((List.range 512).foldl (fun b j => b.wr .recRdbufBytes j (ws.getD j 0)) b)).wr .recRdctlDone 0 1)

/-! ### Basket's clock (R441) -/

/-- Start of the oldest trend, ledger and capture content that has not been handed to a device, on the count and on elapsed time (R441).
DESIGN CHOICE (log 220): the data of a command that is outstanding have left Basket. -/
def Body.basketStarts (e : Env) (b : Body) : List (Nat × Nat) :=
  let here := (e.count, e.now)
  let stripes := b.rcd.held.filterMap fun c => match c.work with
    | .stripe _ t0 _ e0 _ => some (t0, e0)
    | _ => none
  let trend := stripes.headD (if b.rcd.trend.isEmpty then here else (b.rcd.trendT0, b.rcd.trendE0))
  let led := match b.rcd.unacked.find? fun x => decide (b.handed ≤ x.1) with
    | some x => x.2
    | none => here
  let caps := (capsOf b.rcd.held ++ b.rcd.caps).map fun c => (c.time, c.start)
  [trend, led, caps.headD here]

/-- The Basket clock fails: its content is lost, and the ledger stream is written directly, on a page of its own (R441). -/
def Body.basketFail (e : Env) (b : Body) : Body :=
  if b.flag .recStatBasketDown then b
  else
    let starts := b.basketStarts e
    let lost := b.handed
    let b := b.onRcd fun r =>
      { r with basketFrom := starts, basketBlk := (lost, b.rd .recNextblkNo), trend := [], held := [], caps := []
               sharedSince := r.sharedSince.filter fun x => !r.stream.contains x
               localSince := r.localSince.filter fun x => !r.stream.contains x
               stream := [], streamAt := 0, page := [], pseq := r.pages }
    ((b.endDrop e.count e.now).wr .recStatBasketDown 0 1).raise (6, 5)

/-- BASKET_REINIT (R441): the clock has stayed in band for 1 s; one GAP of CAUSE 3 per stream. -/
def Body.basketReinit (e : Env) (b : Body) : Body :=
  let at' (i : Nat) : Nat × Nat := b.rcd.basketFrom.getD i (e.count, e.now)
  let lost := b.rcd.basketBlk
  let b := (b.wr .recStatBasketDown 0 0).onRcd fun r => { r with basketBlk := (0, 0) }
  let b := b.gap 1 3 (at' 0).1 e.count (e.now - (at' 0).2) 0 0 (2 ^ 128 - 1)
  let b := if lost.1 < lost.2 then b.gap 2 3 (at' 1).1 e.count (e.now - (at' 1).2) lost.1 (lost.2 - 1) 0 else b
  b.gap 3 3 (at' 2).1 e.count (e.now - (at' 2).2) 0 0 0

/-- BASKET_REINIT (R441). -/
def execBasketReinit (s : State) : Out := .next (s.onHub fun e b => if b.flag .recStatBasketDown then b.basketReinit e else b)

/-! ### The start of the recorder (R333, R443) -/

/-- The newest valid checkpoint that satisfies a test. -/
def newestCkpt (p : Ckpt → Bool) (cs : List Ckpt) : Option Ckpt :=
  cs.foldl (fun a c =>
    if c.valid && p c && c.ok then (match a with
      | none => some c
      | some x => if x.count < c.count then some c else some x) else a) none

/-- Give the accumulators their values, and the total their sum (R330). -/
def Body.loadAcc (f : Nat → Nat) (b : Body) : Body :=
  let b := (List.range 128).foldl (fun b n => b.wr .energyAcc n (f n)) b
  (b.wr .energyTotalAcc 0 (((List.range 128).foldl (fun a n => a + f n) 0) % 2 ^ 128)).onMtr fun m => { m with origin := List.range 128 }

/-- Load the accumulators at a start, on top of the increments accepted since; one that the partner's mirror has given stays
(R330, R333, R335). -/
def Body.startAcc (f : Nat → Nat) (b : Body) : Body :=
  let o := b.mtr.origin
  b.loadAcc fun n => if o.contains n then b.rd .energyAcc n else (b.rd .energyAcc n + f n) % 2 ^ 128

/-- The span from the time of the loaded values is unmetered (R333); a STANDBY module meters nothing of its own (R335). -/
def Body.startSpan (e : Env) (t0 : Nat) (b : Body) : Body :=
  if b.role = .standby then b else b.openUnmetered e none 2 t0

/-- An ORIGIN record (R434): kind, ORIGIN_UNVERIFIED, the block whose values were loaded and its hash. -/
def Body.originRec (e : Env) (kind unv blk : Nat) (hash : List Nat) (b : Body) : Body :=
  let b := if b.role = .standby then b else
    b.emit (mkRec 0x12 (kind * 2 ^ 24 + unv * 2 ^ 16) e.count
      ([b.rd .recLedgerIdId, b.rd .recNextblkNo * 2 ^ 64 + blk] ++ hash ++ [b.serialUnit]))
  b.markBlk 9

/-- Take over the identity and the position of the ledger found. -/
def Body.adoptLedger (id next : Nat) (hash : List Nat) (b : Body) : Body :=
  ((b.wr .recLedgerIdId 0 id).wr .recNextblkNo 0 next).onRcd fun r =>
    { r with prevHash := hash, ckptFirst := next, ackBlk := next, unacked := [] }

/-- The end of the ledger stream on the devices: its last page, what the next block and checkpoint bind, and the blocks that the next
checkpoint covers (R417, R429, R432, R443). -/
def Body.foundEnd (f : LedgerFound) (b : Body) : Body :=
  let recs (l : List (List Nat)) : List LRec := l.map LRec.mk
  let gap (r : LRec) : Bool := r.typ = 0x14 && decide (r.units.headD 0 / 2 ^ 88 % 256 = 2)
  (b.onRcd fun r =>
    { r with pseq := f.pseq, page := f.page, sharedSince := recs f.shared ++ r.sharedSince
             localSince := recs f.locals ++ r.localSince, signed := max r.signed f.ckptNo, ckptFirst := f.ckptNext
             chainBreak := r.chainBreak || (recs f.locals).any gap }).wr .recCkptnoNo 0 (max b.rcd.signed f.ckptNo) |>.showLedger

/-- A new ledger: LEDGER_ID comes from the random-number generator (R430). -/
def Body.newLedger (b : Body) : Body :=
  let r := b.free
  r.2.adoptLedger r.1 0 [0, 0]

/-- Establish the position and load the accumulators (R333, R443). -/
def Body.recStart (e : Env) (found : Option LedgerFound) (b : Body) : Body :=
  if b.rcd.ready || b.role = .starting then b
  else
    let b := b.onRcd fun r => { r with ready := true, blkT0 := e.count, blkE0 := e.now, ckptT := e.now, follows := b.role ≠ .standby }
    let any := newestCkpt (fun _ => true) b.mtr.ckpts
    let same := match found with
      | some f => newestCkpt (fun c => c.ledger = f.id) b.mtr.ckpts
      | none => none
    let b := match found, same, any with
      | some f, some c, _ =>
        let b := ((b.adoptLedger f.id (max (f.blk + 1) (c.blk + 1)) (if f.blk < c.blk then c.hash else f.hash)).foundEnd f).startAcc
          (sparseGet 0 c.acc)
        let b := b.originRec e 5 0 c.blk c.hash
        let b := if f.blk < c.blk then b.gap 2 2 f.time c.time (c.time - f.time) (f.blk + 1) c.blk 0 else b
        b.startSpan e c.time
      | some f, none, _ =>
        let b := (((b.adoptLedger f.id (f.blk + 1) f.hash).foundEnd f).startAcc fun n => f.acc.getD n 0).wr .energyStatOriginLedger 0 1
        (b.originRec e 3 0 f.blk f.hash).startSpan e f.time
      | none, _, some c =>
        let b := ((b.adoptLedger c.ledger (c.blk + 1) c.hash).startAcc (sparseGet 0 c.acc)).wr .energyStatOriginUnverified 0 1
        (b.originRec e 2 1 c.blk c.hash).startSpan e c.time
      | none, _, none =>
        let b := ((b.newLedger).startAcc fun _ => 0).wr .energyStatOriginUnverified 0 1
        (b.originRec e 1 1 0 [0, 0]).startSpan e 0
    ([0, 1].foldl (fun b d => if b.devSt d = 1 then b.classify e d else b) b).settleAhead e

/-- RECORDER_START (R443): found is the ledger on the devices. -/
def execRecorderStart (found : Option LedgerFound) (s : State) : Out := .next (s.onHub fun e b => b.recStart e found)

end Sys2Proof.Machine
end

