-- ==== Sys2Proof/Machine/Timebase.lean ====
section
/-!
DEFINITION. The timebase (chapter 10): the index pulse, slews and steps, the host's set and align, and the timebase states.
-/

namespace Sys2Proof.Machine

open Sys2Proof

/-- Change the discipline. -/
def Body.onDisc (f : Disc → Disc) (b : Body) : Body := { b with disc := f b.disc }

/-- TB.HOLDSEC while HOLDOVER lasts (R388). -/
def Body.holdSec (e : Env) (b : Body) : Nat :=
  if b.rd .tbStatState = 3 then (e.now - b.disc.holdT) / 1000000000 else b.rd .tbHoldsecSec

/-- Change the timebase state (R387, R435); ACQUIRING starts its counts anew. -/
def Body.tbState (e : Env) (st : Nat) (b : Body) : Body :=
  if b.rd .tbStatState = st then b
  else
    let b := (b.wr .tbHoldsecSec 0 (b.holdSec e)).wr .tbStatState 0 st
    (b.onDisc fun d => { d with badRun := 0, lockRun := 0 }).event e.count 0x0107 0xFF st 0 0

/-- Entry to HOLDOVER (R387, R388). -/
def Body.tbHoldover (e : Env) (b : Body) : Body :=
  let b := (((b.tbState e 3).wr .tbRateRate 0 0).wr .tbStatHoldoverSeen 0 1).wr .tbHoldsecSec 0 0
  (b.onDisc fun d => { d with holdT := e.now, rateEnd := none, prevE := none }).raise (3, 2)

/-! ### Pulses (R380 to R384, R387) -/

/-- The phase error of a corrected count: its distance from the nearest whole second, in (-0.5 s, +0.5 s] (R381). -/
def phaseErr (x : Int) : Int :=
  if 500000000 < x % 1000000000 then x % 1000000000 - 1000000000 else x % 1000000000

/-- The instant of the edge whose pulse is accepted now: its input has stayed at the new level for MINW since (R380). -/
def Body.atEdge (e : Env) (b : Body) : Env :=
  let w := b.rd .tbPpscfgMinw * 100
  { e with now := e.now - w, count := e.count - w }

/-- c − PPS_DELAY of a pulse at the present instant (R381). -/
def Body.pulseTime (e : Env) (b : Body) : Int := (e.count : Int) - toSigned 16 (b.rd .tbPpscfgPpsDelay)

/-- Schedule a step at the step instant (R384). -/
def Body.planStep (e : Env) (k : StepKind) (cause : Nat) (b : Body) : Body :=
  b.onDisc fun d => { d with step := some (e.now + 100000, k, cause) }

/-- The frequency error over the last second in ns, when the previous pulse was in window too (R382). -/
def Disc.freqErr (d : Disc) (err : Int) : Option Int := d.prevE.map fun p => err - p.1 - p.2

/-- y / 8 in whole units of TB.FREQ; the rounding of a fraction is free (R382). -/
def Body.steer (y : Int) (b : Body) : Int × Body :=
  if y % 8 = 0 then (y / 8, b)
  else (y / 8 + ((b.free.1 % 2 : Nat) : Int), b.free.2)

/-- Slew at a pulse in window (R382). -/
def Body.slew (e : Env) (err : Int) (b : Body) : Body :=
  let r := clampInt (-100000) 100000 (-err)
  let b := match b.disc.freqErr err with
    | some y =>
      let s := b.steer y
      s.2.wr .tbFreqSteer 0 (ofSigned 32 (clampInt (-10000) 10000 (toSigned 32 (s.2.rd .tbFreqSteer) + s.1)))
    | none => b
  (b.wr .tbRateRate 0 (ofSigned 32 r)).onDisc fun d => { d with rateEnd := some (e.now + 1000000000), prevE := some (err, r) }

/-- The record of an index slip that is not stepped (R383, R435). -/
def Body.slipFlag (e : Env) (err : Int) (b : Body) : Body := b.event e.count 0x0106 0xFF 0 0 (ofSigned 64 err)

/-- A pulse lies outside SLEW_WINDOW (R383). -/
def Body.slips (b : Body) (err : Int) : Bool := decide (b.rd .tbDiscSlewWindow < err.natAbs)

/-- A pulse outside SLEW_WINDOW sets INDEX_SLIP and its leaf (R383). -/
def Body.markSlip (err : Int) (b : Body) : Body := if b.slips err then (b.wr .tbStatIndexSlip 0 1).raise (3, 0) else b

/-- The rate correction of the pulse before has been in force until this one (R382). -/
def Body.endRate (b : Body) : Body := (b.wr .tbRateRate 0 0).onDisc fun d => { d with rateEnd := none }

/-- The correction that an accepted pulse brings: a step or a slew (R382 to R385). -/
def Body.correct (e : Env) (err : Int) (b : Body) : Body :=
  let st := b.rd .tbStatState
  let slip := b.slips err
  let b := (b.markSlip err).endRate
  let b := if slip then b.onDisc fun d => { d with prevE := none } else b
  let arm := b.disc.arm
  let align := b.disc.align
  let b := (b.onDisc fun d => { d with arm := false, align := false }).wr .tbSetctlArmed 0 0
  if arm then
    let sec := b.rd .tbSetsecTime / 1000000000 * 1000000000
    b.planStep e (.delta ((sec : Int) - b.pulseTime e)) 4
  else if st = 0 then b.planStep e (.delta (-err)) 1
  else if !slip then b.slew e err
  else if align then b.planStep e (.delta (-err)) 3
  else if b.flag .tbDiscStepEn then b.planStep e (.delta (-err)) 2
  else b.slipFlag e err

/-- |e| of a pulse is at most LOCK_THR. -/
def Body.isGood (b : Body) (err : Int) : Bool := decide (err.natAbs ≤ 10 * b.rd .tbDiscLockThr)

/-- GOOD counts consecutive accepted pulses within LOCK_THR (R406). -/
def Body.countGood (err : Int) (b : Body) : Body :=
  b.wr .tbStatGood 0 (if b.isGood err then min 255 (b.rd .tbStatGood + 1) else 0)

/-- The lock judgement of an accepted pulse (R387). -/
def Body.judge (e : Env) (err : Int) (b : Body) : Body :=
  let good := b.isGood err
  let b := b.countGood err
  let b := match b.rd .tbStatState with
    | 0 | 3 => b.tbState e 1
    | 2 => if b.slips err then b.tbState e 1 else b
    | _ => b
  let b := b.onDisc fun d =>
    { d with badRun := if good then 0 else d.badRun + 1, lockRun := if good then d.lockRun + 1 else 0 }
  if b.rd .tbStatState = 2 ∧ 3 ≤ b.disc.badRun then b.tbState e 1
  else if b.rd .tbStatState = 1 ∧ 10 ≤ b.disc.lockRun then b.tbState e 2
  else b

/-- A pulse in CLOCK_FAIL is shown and judged, and corrects nothing (R383, R389, R406). -/
def Body.pulseFail (e : Env) (err : Int) (b : Body) : Body :=
  let b := (b.markSlip err).countGood err
  if b.slips err then b.slipFlag e err else b

/-- A pulse with its edge at an instant (R380 to R383, R389); TB.STAT of a STANDBY module is its partner's (R457). -/
def Body.pulseAt (e : Env) (b : Body) : Body :=
  if b.rd .tbPpscfgPpsEn = 0 || b.hubDown then b
  else if (match b.disc.lastPulse with
    | some t => decide (e.now ≤ t + 500000000)
    | none => false) then (if b.role = .standby then b else b.wr .tbStatPpsExtra 0 1)
  else
    let err := phaseErr (b.pulseTime e)
    let b := (b.wr .tbLastppsTime 0 e.count).wr .tbPhaseE 0 (ofSigned 32 err)
    let b := b.onDisc fun d => { d with lastPulse := some e.now }
    if b.role = .standby then b
    else if b.rd .tbStatState = 4 then (b.wr .tbStatMiss 0 0).pulseFail e err
    else ((b.wr .tbStatMiss 0 0).correct e err).judge e err

/-- A pulse is accepted at the present instant (R380). -/
def Body.pulse (e : Env) (b : Body) : Body := b.pulseAt (b.atEdge e)

/-- One more pulse is missing (R387). -/
def Body.missing (e : Env) (b : Body) : Body :=
  let b := (b.wr .tbStatMiss 0 (min 255 (b.rd .tbStatMiss + 1))).onDisc fun d => { d with prevE := none }
  if 3 ≤ b.rd .tbStatMiss ∧ (b.rd .tbStatState = 1 ∨ b.rd .tbStatState = 2) then b.tbHoldover e else b

/-- PPS_MISSING (R387): 1.5 s after the last accepted pulse, and after each further second. -/
def execPpsMissing (s : State) : Out :=
  match s.body.disc.lastPulse with
  | none => .next s
  | some t => .next ((s.goTo (t + 1500000000 + s.body.rd .tbStatMiss * 1000000000)).onBody fun e b =>
      if b.hubDown || b.role = .standby then b else b.missing e)

/-- RATE_TIMEOUT (R382): 1 s after the pulse that set RATE. -/
def execRateTimeout (s : State) : Out :=
  match s.body.disc.rateEnd with
  | none => .next s
  | some t => .next ((s.goTo t).onBody fun _ b =>
      (b.wr .tbRateRate 0 0).onDisc fun d => { d with rateEnd := none })

/-! ### Steps (R384, R386) -/

/-- The difference of a step at a count. -/
def StepKind.delta? (k : StepKind) (setsec count : Nat) : Int :=
  match k with
  | .delta d => d
  | .now => (setsec : Int) - (count : Int)

/-- What closes at the step instant: the trend intervals of the dies whose link is up, and the ledger second (R384, R386). -/
def Body.stepClose (e : Env) (b : Body) : Body :=
  let b := if b.doze then b else b.forEach (List.range 8) fun k b => if (b.fe k).joined then b.closeDie e k else b
  let b := b.onRcd fun r => { r with trMeta := (r.trMeta.1, r.trMeta.2.1, orBits r.trMeta.2.2 1) }
  if b.builds then b.closeBlock e true else b

/-- What a step leaves, at the new count (R384). A step that a STANDBY module takes with its partner is in the partner's record; the one of
its own is passed on (R444, R457). -/
def Body.stepOpen (old : Nat) (d : Int) (cause : Nat) (e : Env) (b : Body) : Body :=
  let b := (((b.wr .tbRateRate 0 0).wr .tbStatStepped 0 1).wr .tbLaststepDelta 0 (ofSigned 64 d)).wr .tbSteptimeTime 0 e.count
  let b := ((b.wr .tbSetctlCause 0 cause).wr .tbStatGood 0 0).raise (3, 1)
  let b := if cause = 4 ∨ cause = 5 then b.wr .tbStatTimeSet 0 1 else b
  let b := if b.role = .standby && cause ≠ 6 then b
    else b.shared (mkRec 0x13 (cause * 2 ^ 24) old [e.count * 2 ^ 64 + ofSigned 64 d])
  let b := (b.onDisc fun x => { x with step := none, rateEnd := none, prevE := none, badRun := 0, lockRun := 0 }).onRcd fun r =>
    { r with blkT0 := e.count }
  if b.rd .tbStatState = 4 then b
  else if b.role = .standby && cause ≠ 6 then b.wr .tbStatState 0 1
  else b.tbState e 1

/-- Apply a step of the count at the present instant (R384, R386). -/
def State.stepBy (k : StepKind) (cause : Nat) (s : State) : State :=
  let s := s.onBody fun e b => b.stepClose e
  let old := s.time.count
  let d := k.delta? (s.body.rd .tbSetsecTime) old
  let s := { s with time := { s.time with count := ofSigned 64 ((old : Int) + d) }, body := s.body.stepMarks d }
  s.onBody fun e b => b.stepOpen old d cause e

/-- TIMEBASE_STEP (R384): at the step instant. -/
def execTimebaseStep (s : State) : Out :=
  match s.body.disc.step with
  | none => .next s
  | some (t, k, cause) => .next ((s.goTo t).stepBy k cause)

/-! ### Host commands (R385) -/

/-- A host command on the timebase is taken: the unlock is set. -/
def Body.tbUnlocked (b : Body) : Bool := b.unlocked 7

/-- ARM, NOW and ALIGN are ignored while a step is scheduled. -/
def Body.tbFree (b : Body) : Bool := b.tbUnlocked && b.disc.step.isNone

/-- ARM is written as 1. -/
def Body.tbArm (b : Body) : Body :=
  if b.tbFree then (b.onDisc fun d => { d with arm := true, align := false }).wr .tbSetctlArmed 0 1 else b

/-- TB_ARM (R385). -/
def execTbArm (s : State) : Out := .next (s.onHub fun _ b => b.tbArm)

/-- NOW is written as 1. -/
def Body.tbNow (e : Env) (b : Body) : Body := if b.tbFree then b.planStep e .now 5 else b

/-- TB_NOW (R385). -/
def execTbNow (s : State) : Out := .next (s.onHub fun e b => b.tbNow e)

/-- ALIGN is written as 1. -/
def Body.tbAlign (b : Body) : Body :=
  if b.tbFree then (b.onDisc fun d => { d with arm := false, align := true }).wr .tbSetctlArmed 0 1 else b

/-- TB_ALIGN (R385). -/
def execTbAlign (s : State) : Out := .next (s.onHub fun _ b => b.tbAlign)

/-- CANCEL is written as 1. -/
def Body.tbCancel (b : Body) : Body :=
  if b.tbUnlocked then (b.onDisc fun d => { d with arm := false, align := false }).wr .tbSetctlArmed 0 0 else b

/-- TB_CANCEL (R385). -/
def execTbCancel (s : State) : Out := .next (s.onHub fun _ b => b.tbCancel)

/-! ### The oscillator's clock (R45, R387, R389) -/

/-- The rate of CLK_HUB against CLK_TB that HUB has measured, from a free value: within ±100 ppm (DESIGN CHOICE, log 216; R23, R389). -/
def hubRateOf (x : Nat) : Int := (x % 200001 : Nat) - 100000

/-- CLK_TB is declared failed (R45, R387); the rate of CLK_HUB of the 10 s before is what corrects the count from now on (R389). -/
def Body.tbFails (e : Env) (b : Body) : Body :=
  if b.rd .tbStatState = 4 then b
  else
    let free := decide (b.rd .tbStatState = 0)
    let r := b.free
    let b := ((r.2.tbState e 4).wr .tbRateRate 0 0).onDisc fun d =>
      { d with fromFree := free, rateEnd := none, prevE := none, hubRate := hubRateOf r.1 }
    b.forEach (List.range 8) Body.spoilClock

/-- The rate correction of the count: RATE, in CLOCK_FAIL that of CLK_HUB (R377, R389). -/
def Body.tickRate (b : Body) : Int := if b.rd .tbStatState = 4 then b.disc.hubRate else toSigned 32 (b.rd .tbRateRate)

/-- CLK_TB_RETURN (R389): CLK_TB has stayed inside its band for 1 s. -/
def execClkTbReturn (s : State) : Out :=
  .next (s.onBody fun e b =>
    if b.rd .tbStatState ≠ 4 || b.hubDown then b
    else if b.disc.fromFree then b.tbState e 0
    else b.tbHoldover e)

end Sys2Proof.Machine
end

