-- ==== Sys2Proof/Machine/Timers.lean ====
section
/-!
DEFINITION. The cadence timers (chapter 10): ticks, matches and their actions, input capture, group release, the fan outputs
and the tach inputs.
-/

namespace Sys2Proof.Machine

open Sys2Proof

/-- Change the timers. -/
def Body.onTmr (f : Timers → Timers) (b : Body) : Body := { b with tmr := f b.tmr }

/-- Set the TLEAF bit of timer i (R399, R573); in doze it waits for the wake, as group 100 + w (R567). -/
def Body.raiseTmr (i : Nat) (b : Body) : Body :=
  if b.doze then { b with dozeLeaves := b.dozeLeaves ++ [(100 + i / 32, i % 32)] }
  else b.wr .alertTleafTimer (i / 32) (setBit (b.rd .alertTleafTimer (i / 32)) (i % 32))

/-- A module-wide condition of R395 holds; TMRCTL.RECOVERY is a live condition. -/
def Body.recovery (e : Env) (b : Body) : Bool := b.flag .healthStatBrace || decide (e.now < b.tmr.recovEnd)

/-- The lap-safe rule applies to timer i (R395). -/
def Body.lapSafe (e : Env) (b : Body) (i : Nat) : Bool :=
  b.flag .tmrCtrlLapsafe i || b.flag .tbTmrctlForce || b.flag .tbTmrctlStart || b.role = .bench || b.recovery e

/-! ### Ticks (R391 to R396) -/

/-- Timer i takes a tick at an elapsed instant: it ran then. -/
def Body.ticksAt (b : Body) (i t : Nat) : Bool :=
  decide (sparseGet 0 b.tmr.onT i < t) && (b.flag .tmrCtrlRun i || decide (t < sparseGet 0 b.tmr.offT i))

/-- The compare value that a tick sees (R394). -/
def Body.cmpSeen (b : Body) (i : Nat) : Nat :=
  if sparseGet 0 b.tmr.cmpOld i = 0 then b.rd .tmrCmpValue i else sparseGet 0 b.tmr.cmpOld i - 1

/-- A match of timer i: MATCH, HIT, the action of the next tick and the leaf (R393, R394, R399). -/
def Body.matchFires (i : Nat) (b : Body) : Body :=
  let b := (b.wr .tmrCtrlMatch i 1).wr .tmrCtrlHit i 1
  let act := b.rd .tmrCtrlAct i
  let tgt := if b.flag .tmrCtrlTgt i then b.rd .tmrCtrlLink i else i
  let b := b.onTmr fun t =>
    { t with resets := if act = 1 ∨ act = 3 then t.resets ++ [tgt] else t.resets
             starts := if 2 ≤ act then t.starts ++ [tgt] else t.starts }
  if b.flag .tmrCapcfgMie i then b.raiseTmr i else b

/-- Timer i starts at an instant, after a run that is over. DESIGN CHOICE (log 217): runs that ended more than 10 s ago are forgotten. -/
def Timers.startAt (i t : Nat) (x : Timers) : Timers :=
  let last := if sparseGet 0 x.onT i < sparseGet 0 x.offT i then [(i, sparseGet 0 x.onT i, sparseGet 0 x.offT i)] else []
  { x with onT := sparseSet 0 x.onT i t, runs := last ++ x.runs.filter fun p => decide (t ≤ p.2.2 + 10000000000) }

/-- A start action on timer i takes effect at the tick of elapsed instant t: a timer that does not count there counts from it on (R392,
R393). -/
def Body.tickStart (t i : Nat) (b : Body) : Body :=
  if b.ticksAt i t then b else (b.wr .tmrCtrlRun i 1).onTmr fun x => x.startAt i (t - 1)

/-- Timer i at the tick of elapsed instant t, with the actions of the previous tick (R392, R393). -/
def Body.tickTimer (e : Env) (t : Nat) (reset start : Bool) (i : Nat) (b : Body) : Body :=
  let b := if start then b.tickStart t i else b
  if t ≤ sparseGet 0 b.tmr.loadT i then b
  else
    let runs := b.ticksAt i t
    if !reset && !runs then b
    else
      let c := if reset then 0 else (b.rd .tmrCntCount i + 1) % 2 ^ 32
      let b := b.wr .tmrCntCount i c
      let b := if reset then b.onTmr fun x => { x with loadT := sparseSet 0 x.loadT i t } else b
      let b := if c = 0 then b.wr .tmrCtrlHit i 0 else b
      if runs && decide (c = b.cmpSeen i) && !(b.lapSafe e i && b.flag .tmrCtrlHit i) then b.matchFires i else b

/-- One tick of all timers (R391). -/
def Body.tick (e : Env) (b : Body) : Body :=
  let rs := b.tmr.resets
  let ss := b.tmr.starts
  let t := (b.tmr.tick + 1) * 1000
  let b := b.onTmr fun x => { x with tick := x.tick + 1, resets := [], starts := [] }
  let b := b.forEach (List.range 256) fun i b => b.tickTimer e t (rs.contains i) (ss.contains i) i
  b.onTmr fun x => { x with cmpOld := [] }

/-- TIMER_TICK (R392): the next whole microsecond of elapsed time. -/
def execTimerTick (s : State) : Out :=
  .next ((s.goTo ((s.body.tmr.tick + 1) * 1000)).onBody fun e b => if b.hubDown then b else b.tick e)

/-! ### Capture (R397 to R399, R403) -/

/-- The edge selection of timer i takes an edge (R397). -/
def Body.edgeTaken (b : Body) (i : Nat) (rising : Bool) : Bool :=
  match b.rd .tmrCapcfgEdge i with
  | 0 => rising
  | 1 => !rising
  | 2 => true
  | _ => false

/-- The source selected by timer i exists (R397). -/
def Body.srcExists (b : Body) (i : Nat) : Bool := decide (b.rd .tmrCapcfgSrc i ≤ 0x89)

/-- Ticks taken so far that lie behind an instant t and within a run from on, up to before off where it has ended (R391, R392). -/
def Timers.ticksOf (x : Timers) (t on : Nat) (off : Option Nat) : Nat :=
  (match off with
    | some u => min x.tick ((u - 1) / 1000)
    | none => x.tick) - max t on / 1000

/-- The count that timer i held at an elapsed instant, through the runs since (R398). -/
def Body.countAtEdge (b : Body) (i t : Nat) : Nat :=
  let c := b.rd .tmrCntCount i
  let x := b.tmr
  if t < sparseGet 0 x.loadT i then c
  else
    let n := x.ticksOf t (sparseGet 0 x.onT i) (if b.flag .tmrCtrlRun i then none else some (sparseGet 0 x.offT i))
    let n := (x.runs.filter fun p => p.1 = i).foldl (fun a p => a + x.ticksOf t p.2.1 (some p.2.2)) n
    (c + 2 ^ 32 - n % 2 ^ 32) % 2 ^ 32

/-- Timer i serves a tach input (R403). -/
def Body.tachOn (b : Body) (i : Nat) : Bool := decide (248 ≤ i) && b.flag .fanCfgTachEn (i - 248)

/-- Change tach input k. -/
def Body.onTach (k : Nat) (f : Tach → Tach) (b : Body) : Body :=
  b.onTmr fun t => { t with tach := t.tach.set (k % 8) (f (t.tach.get ⟨k % 8, Nat.mod_lt _ (by decide)⟩)) (Nat.mod_lt _ (by decide)) }

/-- Tach input k. -/
def Body.tach (b : Body) (k : Nat) : Tach := b.tmr.tach.get ⟨k % 8, Nat.mod_lt _ (by decide)⟩

/-- The speed at a capture of a tach timer (R403). -/
def Body.tachRead (e : Env) (k : Nat) (b : Body) : Body :=
  let v := b.rd .tmrCapvValue (248 + k)
  let b := match (b.tach k).prev with
    | some p =>
      let d := (v + 2 ^ 32 - p) % 2 ^ 32
      b.wr .fanSpeedRpm k (if d = 0 then 65535 else min 65535 (60000000 / d))
    | none => b
  (b.wr .fanStatStall k 0).onTach k fun _ => ⟨e.now, some v⟩

/-- A qualifying edge of timer i's source, so many ns ago (R398, R399). -/
def Body.timerEdge (e : Env) (i : Nat) (rising : Bool) (ago : Nat) (b : Body) : Body :=
  if b.hubDown || !b.flag .tmrCapcfgCen i || !b.srcExists i || !b.edgeTaken i rising then b
  else
    let n := sparseGet 0 b.tmr.edges i + 1
    if n < b.rd .tmrCapcfgPresc i + 1 then b.onTmr fun t => { t with edges := sparseSet 0 t.edges i n }
    else
      let b := b.onTmr fun t => { t with edges := sparseSet 0 t.edges i 0 }
      let b := b.wr .tmrCapvValue i (b.countAtEdge i (e.now - ago))
      let b := if b.flag .tmrCtrlCapf i then b.wr .tmrCtrlCovr i 1 else b.wr .tmrCtrlCapf i 1
      let b := if b.tachOn i then b.tachRead e (i - 248) else b
      if b.flag .tmrCapcfgCie i then b.raiseTmr i else b

/-- The Lint filter time of timer i in ns (R398). -/
def Body.lintNs (b : Body) (i : Nat) : Nat := b.rd .tmrCapcfgFilt i * (100 * 10 ^ b.rd .tmrCapcfgFunit i)

/-- An edge of a capture source at an instant: it ends the filter times that still run on the source, and the filter of every timer
begins that captures such an edge of it (R397, R398). -/
def Body.srcEdge (src : Nat) (rising : Bool) (t : Nat) (b : Body) : Body :=
  if b.hubDown then b
  else
    let new := (regEntries b.regs .tmrCapcfgCen).filter fun p => decide (b.rd .tmrCapcfgSrc p.1 = src) && b.edgeTaken p.1 rising
    b.onTmr fun x =>
      { x with lint := x.lint.filter (fun p => decide (b.rd .tmrCapcfgSrc p.1 ≠ src) || decide (p.2 + b.lintNs p.1 ≤ t)) ++
                 new.map fun p => (p.1, t) }

/-- TIMER_CAPTURE (R398): the Lint filter of timer i lets an edge pass, the oldest that waits there; where none does, as of a tach input, an
edge so many ns ago. -/
def execTimerCapture (i : Fin 256) (rising : Bool) (ago : Nat) (s : State) : Out :=
  match s.body.tmr.lint.find? fun p => p.1 = i.val with
  | some p => .next ((s.goTo (p.2 + s.body.lintNs i)).onBody fun e b =>
      let up := decide (b.rd .tmrCapcfgEdge i ≠ 1)
      (b.onTmr fun x => { x with lint := x.lint.erase p }).timerEdge e i up (e.now - p.2))
  | none =>
    let t := s.time.elapsed - ago
    .next ((s.goTo (t + s.body.lintNs i)).onBody fun e b => b.timerEdge e i rising (e.now - t))

/-- PPS_PULSE (R381): a pulse is accepted; its edge has the polarity of PPSCFG.EDGE, and is one of capture source 0x80 too (R380,
R397). -/
def execPpsPulse (s : State) : Out :=
  .next (s.onBody fun e b => (b.srcEdge 0x80 (!b.flag .tbPpscfgEdge) (b.atEdge e).now).pulse e)

/-- CONVST_EDGE (R292); an edge of capture source 0x89 too (R397). DESIGN CHOICE (log 218): HUB sees the edge that die 0 sees. -/
def execConvstEdge (k : DieIx) (rising : Bool) (s : State) : Out :=
  .next (s.onBody fun e b => (if k.val = 0 then b.srcEdge 0x89 rising e.now else b).convst e k rising)

/-! ### Group release (R400) -/

/-- The selected timers, ascending. -/
def Body.relSelected (b : Body) : List Nat := (List.range 256).filter fun i => bitAt (b.rd .tbRselSel (i / 32)) (i % 32)

/-- The start of each selected timer, in ticks after the release tick. -/
def Body.relOffsets (b : Body) : List (Nat × Nat) :=
  let sel := b.relSelected
  let s := if b.zq5016 then 0 else max 1 (b.rd .tbRperiodPeriod) / sel.length
  sel.zipIdx.map fun p => (p.2 * s, p.1)

/-- The first tick after an elapsed instant. -/
def tickAfter (t : Nat) : Nat := t / 1000 + 1

/-- GO (R400). -/
def Body.releaseGo (e : Env) (atTime : Bool) (b : Body) : Body :=
  let b := b.wr .tbRelctlAtTime 0 (bit atTime)
  if b.flag .tbRelctlBusy then b
  else if b.relSelected.isEmpty then b.wr .tbRelctlDone 0 1
  else
    let os := b.relOffsets
    (b.wr .tbRelctlBusy 0 1).onTmr fun t =>
      { t with relWait := atTime, rel := if atTime then os else os.map fun p => (p.1 + tickAfter e.now, p.2) }

/-- TIMER_RELEASE_GO (R400): RELCTL written with GO 1, and AT_TIME as written. -/
def execTimerReleaseGo (atTime : Bool) (s : State) : Out :=
  .next (s.onBody fun e b => if b.hubDown then b else b.releaseGo e atTime)

/-- BUSY and DONE after a start or a cancelled start (R400). -/
def Body.relDone (b : Body) : Body :=
  if b.tmr.rel.isEmpty && b.flag .tbRelctlBusy then
    ((b.wr .tbRelctlBusy 0 0).wr .tbRelctlDone 0 1).onTmr fun t => { t with relWait := false }
  else b

/-- Timer i loads 0 and starts (R400). -/
def Body.relStart (t i : Nat) (b : Body) : Body :=
  let b := ((b.wr .tmrCntCount i 0).wr .tmrCtrlRun i 1).wr .tmrCtrlHit i 0
  (b.onTmr fun x => { x.startAt i t with rel := x.rel.drop 1, loadT := sparseSet 0 x.loadT i t }).relDone

/-- The release tick of an AT_TIME release: the first tick at which the count is at or past RELTIME. -/
def State.releaseTick (s : State) : Nat :=
  ceilDiv (s.time.elapsed + (s.body.rd .tbReltimeTime - s.time.count)) 1000

/-- TIMER_RELEASE_START (R400): the next selected timer starts, at its start instant. -/
def execTimerReleaseStart (s : State) : Out :=
  let r := if s.body.tmr.relWait then s.releaseTick else 0
  match s.body.tmr.rel with
  | [] => .next s
  | (j, i) :: _ => .next ((s.goTo ((j + r) * 1000)).onHub fun _ b =>
      (b.onTmr fun t => { t with relWait := false, rel := t.rel.map fun p => (p.1 + r, p.2) }).relStart ((j + r) * 1000) i)

/-! ### Fans (R401 to R403) -/

/-- The next start of a period of output k after now: 40 µs periods, k × 5 µs apart (R401). -/
def fanReload (now k : Nat) : Nat := now + (40000 - (now + 40000 - k % 8 * 5000) % 40000)

/-- Every output is at 100 %: HUB in reset, until the image has written the duties, and in a freeze (R401, R579). -/
def Body.fansFull (b : Body) : Bool := b.hubDown || !b.boot.imaged || b.flag .healthStatFreeze

/-- FAN_PWM_RELOAD (R402): the live duty takes the shadow. -/
def execFanPwmReload (k : Fin 8) (s : State) : Out :=
  .next ((s.goTo (fanReload s.time.elapsed k)).onBody fun _ b =>
    b.wr .fanStatLive k (if b.fansFull then 10000 else min 10000 (b.rd .fanDutyDuty k)))

/-- The level of FAN_PWM[k] at an instant, none while its driver is high-impedance: a period of 40 µs, k × 5 µs behind that of output
0, begins at the ON level, which POL sets, for the live duty (R401); the module that has left its gates at the Seam drives none
(R465). -/
def Body.fanPin (b : Body) (now k : Nat) : Option Bool :=
  if b.twin.left || b.role = .standby then none
  else
    let o := (now + 40000 - k % 8 * 5000) % 40000
    some (decide (o < 4 * b.rd .fanStatLive k) != b.flag .fanCfgPol k)

/-- FAN_STALL (R403): no capture of the tach within STALL. -/
def execFanStall (k : Fin 8) (s : State) : Out :=
  if !s.body.flag .fanCfgTachEn k || s.body.flag .fanStatStall k then .next s
  else .next ((s.goTo ((s.body.tach k).t + max 1 (s.body.rd .fanCfgStall k) * 100000000)).onHub fun _ b =>
    (((b.wr .fanSpeedRpm k 0).wr .fanStatStall k 1).wr .fanStatStallSeen k 1).raise (8, k))

/-! ### Writes (R392 to R400, R403) -/

/-- The start of timer i that waits in a release is cancelled (R400). -/
def Body.relCancel (i : Nat) (b : Body) : Body :=
  if b.tmr.rel.any fun p => p.2 = i then (b.onTmr fun t => { t with rel := t.rel.filter fun p => p.2 ≠ i }).relDone else b

/-- TMR(248 + k) serves FAN_TACH[k] (R403). -/
def Body.tachServe (e : Env) (k : Nat) (b : Body) : Body :=
  let i := 248 + k
  let b := (((b.wr .tmrCapcfgCen i 1).wr .tmrCapcfgEdge i 1).wr .tmrCapcfgMie i 0).wr .tmrCapcfgCie i 0
  let b := ((b.wr .tmrCapcfgFunit i 1).wr .tmrCapcfgFilt i 10).wr .tmrCapcfgSrc i (0x81 + k)
  let b := b.wr .tmrCapcfgPresc i (max 1 (b.rd .fanCfgPpr k) - 1)
  let b := if b.flag .tmrCtrlRun i then b else (b.wr .tmrCtrlRun i 1).onTmr fun t => t.startAt i e.now
  (b.onTmr fun t => { t with edges := sparseSet 0 t.edges i 0 }).onTach k fun _ => ⟨e.now, none⟩

/-- What a write of a field of the timers or fans brings beside its value; old is the value before. -/
def Body.tmrHook (e : Env) (f : Fld) (i old : Nat) (b : Body) : Body :=
  match f with
  | .tmrCntCount =>
    ((b.wr .tmrCtrlHit i 0).onTmr fun t => { t with loadT := sparseSet 0 t.loadT i e.now }).relCancel i
  | .tmrCmpValue =>
    -- under the normal rule a tick of the same cycle sees the value before the write
    if b.lapSafe e i || decide (e.now < (b.tmr.tick + 1) * 1000) || sparseGet 0 b.tmr.cmpOld i ≠ 0 then b
    else b.onTmr fun t => { t with cmpOld := sparseSet 0 t.cmpOld i (old + 1) }
  | .tmrCtrlRun =>
    let b := b.relCancel i
    if b.flag .tmrCtrlRun i = (old = 1) then b
    else if b.flag .tmrCtrlRun i then b.onTmr fun t => t.startAt i e.now
    else b.onTmr fun t => { t with offT := sparseSet 0 t.offT i e.now }
  | .tmrCapcfgCen => b.onTmr fun t => { t with edges := sparseSet 0 t.edges i 0, lint := t.lint.filter fun p => p.1 ≠ i }
  | .fanCfgTachEn => if !b.flag .fanCfgTachEn i then b.wr .fanSpeedRpm i 0 else if old = 0 then b.tachServe e i else b
  | .fanCfgPpr => if b.flag .fanCfgTachEn i then b.wr .tmrCapcfgPresc (248 + i) (max 1 (b.rd .fanCfgPpr i) - 1) else b
  | _ => b

end Sys2Proof.Machine
end

