-- ==== Sys2Proof/Machine/Health.lean ====
section
/-!
DEFINITION. Module health (chapter 17): the temperature levels with throttling and the freeze, AUX12 with brace, and the
operating hours.
-/

namespace Sys2Proof.Machine

open Sys2Proof

/-- Change the health record. -/
def Body.onHealth (f : Health → Health) (b : Body) : Body := { b with health := f b.health }

/-! ### Levels (R574 to R577) -/

/-- Entry values of levels 1 to 4 in 0.0625 °C from −55 °C (R576). -/
def Body.levelIn (b : Body) (l : Nat) : Nat :=
  match l with
  | 1 => b.rd .healthTcfgWarn
  | 2 => 2640
  | 3 => 2752
  | _ => 2880

/-- Exit values of levels 1 to 4: 5 °C below. -/
def Body.levelOut (b : Body) (l : Nat) : Nat := b.levelIn l - 80

/-- Sensor i is read every 1 ms (R575). -/
def Body.fastSensor (b : Body) (i : Nat) : Bool := decide (b.levelOut 1 ≤ b.rd .healthTempT i)

/-- Some sensor is read every 1 ms. -/
def Body.fastRead (b : Body) : Bool := (List.range 11).any b.fastSensor

/-- FACTOR of a level: F is 1, 2 or 4 (R577). -/
def levelFactor (l : Nat) : Nat := if l < 2 then 0 else if l = 2 then 1 else 2

/-! ### The freeze (R578 to R581) -/

/-- Channel n is steady in ON (R579). -/
def Body.steadyOn (b : Body) (n : Nat) : Bool := (b.ch n).eff = .on && !(b.ch n).partialRamp

/-- The visits of every die follow what bars them (R275, R299, R580). -/
def Body.visitsAll (e : Env) (b : Body) : Body := b.forEach (List.range 8) fun k b => b.visitsFollow e k

/-- Hold one channel in a freeze: its gate goes to the full charge-pump voltage, and its engine no longer commands it (R104, R115,
R579). -/
def Body.freezeCh (e : Env) (n : Nat) (b : Body) : Body :=
  let b := b.deliver e n (.hold 0x37) e.now
  b.forEach (b.membersOf n) fun m b => b.onEng m fun g =>
    if g.gate = .driven then
      { g with gate := .full, dsel := 0, win := 0, sat := false, frozen := false, x := [0, 0, 0, 0, 0], wins := [], freeWins := 0
               stallNs := 0 }
    else g

/-- A freeze begins (R579). -/
def Body.freeze (e : Env) (b : Body) : Body :=
  let b := ((b.writeCkpt e.count).wr .healthStatFreeze 0 1).bump .healthEvcntFreezes
  let ns := b.leadersIn ChState.driven
  let b := b.forEach (ns.filter fun n => !b.steadyOn n) fun n b => b.deliver e n (.shedCmd 0x26) e.now
  let b := b.forEach (ns.filter b.steadyOn) fun n b => b.freezeCh e n
  b.lowPower e true

/-- The channels shed by the freeze become eligible (R581). -/
def Body.eligibleAfter (reason : Nat) (b : Body) : Body :=
  b.forEach ((List.range 128).filter fun n => (b.ch n).eff = .shed &&
      (if (b.ch n).state = .held then (b.ch n).priorReason else (b.ch n).reason) = reason) fun n b =>
    b.onCh n fun c => { c with eligible := true }

/-- A channel leaves the freeze; the integrators have been 0 since its start (R115, R581). -/
def Body.thawCh (e : Env) (n : Nat) (b : Body) : Body := b.deliver e n (.release 0x37) e.now

/-- The freeze ends (R581). -/
def Body.thaw (e : Env) (b : Body) : Body :=
  let b := ((b.wr .healthStatFreeze 0 0).lowPower e (b.role = .standby)).resumeWrites e
  let b := b.forEach ((List.range 128).filter fun n => (b.ch n).holds.contains 0x37) fun n b => b.thawCh e n
  b.eligibleAfter 0x26

/-! ### Readings (R575, R576, R578) -/

/-- A new level is in force (R576, R577, R275, R353). -/
def Body.setLevel (e : Env) (l sensor : Nat) (b : Body) : Body :=
  let old := b.health.lvl
  if l = old then b
  else
    let b := (b.onHealth fun h => { h with lvl := l, shutT := if l = 4 then e.now else h.shutT }).event e.count 0x0500 0xFF
      (l - 1) sensor (b.rd .healthTempT sensor)
    let b := (b.wr .healthStatLevel 0 (l - 1)).wr .healthStatFactor 0 (levelFactor l)
    let b := (b.forEach (List.range 8) fun k b => b.dwr k .feCvstatCalDefer k (bit (decide (2 ≤ l)))).visitsAll e
    let b := if levelFactor l = levelFactor old then b else b.formPlan e
    let b := if old < 2 ∧ 2 ≤ l then (b.bump .healthEvcntThrottles).calInterrupt e else b
    let b := if l = 4 then (b.bump .healthEvcntShutdowns).raise (8, 10) else b
    let b := if l = 4 ∧ b.role = .standby then { b with twin := { b.twin with synced := false } } else b
    if old = 4 ∧ b.flag .healthStatFreeze then b.thaw e else b

/-- What the shutdown level brings, by role: a SOLO module freezes; an ACTIVE one whose Seam is still refused after 10 ms does
(R578). -/
def Body.shutAct (e : Env) (b : Body) : Body :=
  if b.health.lvl ≠ 4 || b.flag .healthStatFreeze then b
  else if b.role = .solo then b.freeze e
  else if b.role = .active && b.twin.seam.isNone && decide (b.health.shutT + 10000000 ≤ e.now) then b.freeze e
  else b

/-- The sensor that a change of level names: the first that entered it, else the hottest. -/
def hottest (ts : List Nat) : Nat := (ts.findIdx? (fun t => t = ts.foldl max 0)).getD 0

/-- A round of readings: ts holds what each sensor reads now; the sensors that are due take it (R575, R576). -/
def Body.tempRound (e : Env) (ts : List Nat) (b : Body) : Body :=
  let is := List.range 11
  let due (i : Nat) : Bool := decide (e.now % 100000000 = 0) || b.fastSensor i
  let old := is.map fun i => b.rd .healthTempT i
  let new := is.map fun i => if due i then ts.getD i 0 % 4096 else old.getD i 0
  let twice (l i : Nat) : Bool := due i && decide (b.levelIn l ≤ old.getD i 0) && decide (b.levelIn l ≤ new.getD i 0)
  let top := new.foldl max 0
  let stays (l : Nat) : Bool := decide (l ≤ b.health.lvl) && !(decide (top ≤ b.levelOut l) && decide (b.health.roundMax ≤ b.levelOut l))
  let lvl := [1, 2, 3, 4].foldl (fun a l => if is.any (twice l) || stays l then l else a) 0
  let sensor := (is.find? (twice lvl)).getD (hottest new)
  let b := is.foldl (fun b i => (b.wr .healthTempT i (new.getD i 0)).wr .healthTempPeak i
    (max (b.rd .healthTempPeak i) (if due i then new.getD i 0 else 0))) b
  let b := (b.onHealth fun h => { h with roundMax := top }).wr .healthStatFast 0 (bit b.fastRead)
  (b.setLevel e lvl sensor).shutAct e

/-- The next whole multiple of a period after an instant. -/
def nextMultiple (now p : Nat) : Nat := (now / p + 1) * p

/-- TEMP_READING (R575): at the next whole millisecond while a sensor is read every 1 ms, else at the next 100 ms. DESIGN CHOICE
(log 184): the reference cell is read with the sensors. -/
def execTempReading (r : SensorRound) (s : State) : Out :=
  .next ((s.goTo (nextMultiple s.time.elapsed (if s.body.fastRead then 1000000 else 100000000))).onBody fun e b =>
    if b.hubDown then b else (b.tempRound e r.temps).cellTake e r.cell)

/-! ### AUX12 (R582, R583) -/

/-- AUX12 crosses its warning level downwards. -/
def Body.braceEnter (e : Env) (b : Body) : Body :=
  let b := ((b.wr .healthStatVauxWarn 0 1).raise (9, 0)).onHealth fun h => { h with riseT := none }
  if b.flag .healthStatBrace then b
  else
    let low := b.free
    let b := (low.2.event e.count 0x0501 0xFF 1 (low.1 % 2 ^ 16) 0).span e.count 4 1 (2 ^ 128 - 1)
    let b := ((b.wr .healthStatBrace 0 1).bump .healthEvcntBraces).raise (9, 1)
    (b.onHealth fun h => { h with braceMin := 0xFFFF }).writeCkpt e.count

/-- BRACE_ENTER (R583). -/
def execBraceEnter (s : State) : Out := .next (s.onBody fun e b => if b.hubDown then b else b.braceEnter e)

/-- AUX12_WARN_RISE (R583): AUX12 has risen above 10.7 V; the 10 ms start. -/
def execAux12WarnRise (s : State) : Out :=
  .next (s.onBody fun e b => if b.flag .healthStatBrace then b.onHealth fun h => { h with riseT := some e.now } else b)

/-- Brace ends; RECOVERY lasts 10 s more (R395, R583). -/
def Body.braceEnd (e : Env) (b : Body) : Body :=
  let b := ((b.wr .healthStatBrace 0 0).onHealth fun h => { h with riseT := none }).resumeWrites e
  let b := b.onTmr fun t => { t with recovEnd := max t.recovEnd (e.now + 10000000000) }
  (b.event e.count 0x0501 0xFF 2 b.health.braceMin 0).span e.count 4 2 (2 ^ 128 - 1)

/-- BRACE_END (R583): 10 ms after the rise. -/
def execBraceEnd (s : State) : Out :=
  match s.body.health.riseT with
  | some t => .next ((s.goTo (t + 10000000)).onHub fun e b => b.braceEnd e)
  | none => .next s

/-- AUX12_MEASUREMENT (R582): HUB measures AUX12 at the next whole millisecond, 10 mV per LSB. -/
def execAux12Measurement (v : Nat) (s : State) : Out :=
  .next ((s.goTo (nextMultiple s.time.elapsed 1000000)).onBody fun _ b =>
    if b.hubDown then b
    else
      let x := v % 2 ^ 16
      ((b.wr .healthAuxV 0 x).wr .healthAuxMin 0 (min (b.rd .healthAuxMin) x)).onHealth fun h =>
        { h with braceMin := min h.braceMin x })

/-! ### Operating hours (R356, R379, R587) -/

/-- OPERATING_HOUR (R587): a further whole hour; HUB saves it with the steering word. -/
def execOperatingHour (s : State) : Out :=
  .next ((s.goTo (s.body.health.hourT + 3600000000000)).onHub fun e b =>
    if b.health.auxOff then b
    else
      let b := (b.wr .healthOphoursHours 0 (b.rd .healthOphoursHours + 1)).onHealth fun h => { h with hourT := e.now }
      (b.onDisc fun d => { d with saved := b.rd .tbFreqSteer }).showDue)

end Sys2Proof.Machine
end

