-- ==== Sys2Proof/Machine/Feeder.lean ====
section
/-!
DEFINITION. The feeder port (chapter 14): feeder states and capacity, voltage commands with their slew, thermal balancing,
arbitration and hung buses, and the battery units. Voltages count 2^-4 pV (R518).
-/

namespace Sys2Proof.Machine

open Sys2Proof

/-- Change the feeder port. -/
def Body.onFp (f : FeederPort → FeederPort) (b : Body) : Body := { b with fdr := f b.fdr }

/-- Feeder f. -/
def Body.fd (b : Body) (f : Nat) : Feeder := b.fdr.f.get ⟨f % 12, Nat.mod_lt _ (by decide)⟩

/-- Change feeder f. -/
def Body.onFd (f : Nat) (g : Feeder → Feeder) (b : Body) : Body :=
  b.onFp fun p => { p with f := p.f.set (f % 12) (g (b.fd f)) (Nat.mod_lt _ (by decide)) }

/-- STATE of feeder f (R515). -/
def Body.fdSt (b : Body) (f : Nat) : Nat := b.rd .fdrStateState f

/-- The module starts transactions on FP: SOLO or ACTIVE with its image applied, no freeze, before T_P of a Seam (R513, R529,
R580). -/
def Body.fpRuns (b : Body) : Bool :=
  b.drives && b.boot.imaged && !b.flag .healthStatFreeze && !b.hubDown &&
    (match b.twin.seam with
      | some s => !(s.out && s.passedP)
      | none => true)

/-! ### Voltages (R518, R519) -/

/-- Units of 2^-4 pV in 10 mV and in 2 mV. -/
def tenMv : Nat := 160000000000
def twoMv : Nat := 32000000000

/-- V_T of feeder f (R518). -/
def Body.fdTarget (b : Body) (f : Nat) : Nat :=
  let v := (b.rd .feederVsetVSet * tenMv : Int) * (100000 * 65536 + (b.fd f).trim) / (100000 * 65536)
  max (b.rd .feederVlimVmin * tenMv) (min (b.rd .feederVlimVmax * tenMv) v.toNat)

/-- V_R of feeder f at an elapsed instant: it moves while the feeder is ONLINE (R518). -/
def Body.fdRef (b : Body) (f t : Nat) : Nat :=
  let x := b.fd f
  let d := if b.fdSt f = 2 then b.rd .feederSlewSlew * 16 * (t - x.t0) else 0
  if x.v0 ≤ x.tgt then (if b.fdSt f = 2 then min x.tgt (x.v0 + d) else x.v0) else max x.tgt (x.v0 - d)

/-- Take the reference as it stands at the present instant. -/
def Body.fdAnchor (e : Env) (f : Nat) (b : Body) : Body :=
  let v := b.fdRef f e.now
  b.onFd f fun x => { x with v0 := v, t0 := e.now }

/-- A changed target acts from the present reference on (R519). -/
def Body.fdRetarget (e : Env) (f : Nat) (b : Body) : Body :=
  let b := b.fdAnchor e f
  let v := b.fdTarget f
  (b.onFd f fun x => { x with tgt := v }).wr .fdrVcmdTarget f (min 0xFFFF (v / twoMv))

/-- Every target anew; in doze a change of V_SET waits for the wake (R529). -/
def Body.fdRetargetAll (e : Env) (b : Body) : Body :=
  if b.doze then b else b.forEach (List.range 12) fun f b => b.fdRetarget e f

/-- VOUT_COMMAND of a voltage at exponent N, rounded (R518). -/
def voutCode (n : Int) (v : Nat) : Nat :=
  min 0xFFFF (if n < 0 then fracRound (v * 2 ^ n.natAbs) 16000000000000 else fracRound v (16000000000000 * 2 ^ n.natAbs))

/-- The voltage of a ULINEAR16 word at exponent N. -/
def voutValue (n : Int) (w : Nat) : Nat :=
  if n < 0 then w * 16000000000000 / 2 ^ n.natAbs else w * 16000000000000 * 2 ^ n.natAbs

/-- N of feeder f. -/
def Body.fdExp (b : Body) (f : Nat) : Int := toSigned 8 (b.rd .fdrStateVoutExp f)

/-! ### Capacity (R516) -/

/-- Feeder f counts in FEEDER_CAP (R515). -/
def Body.fdCounts (b : Body) (f : Nat) : Bool := b.fdSt f = 2 || (b.fdSt f = 3 && !(b.fd f).expired)

/-- The feeder trigger of R516 holds. -/
def Body.infail (b : Body) : Bool :=
  let fs := List.range 12
  let bad := (fs.filter fun f => b.fdSt f = 5).length
  let all := (fs.filter fun f => b.flag .fdrCfgEn f && b.fdSt f ≠ 0 && b.fdSt f ≠ 6).length
  if b.rd .feederHoldcfgInfailMin = 0 then decide (0 < all) && decide (bad = all)
  else decide (b.rd .feederHoldcfgInfailMin ≤ bad)

/-- Form FEEDER_CAP, ONLINE and the trigger; a trigger that goes is clear (R234, R516). -/
def Body.fdSum (e : Env) (b : Body) : Body :=
  let fs := List.range 12
  let b := b.wr .feederCapFeederCap 0 (fs.foldl (fun a f => if b.fdCounts f then a + b.rd .fdrCfgPRated f else a) 0)
  let b := b.wr .feederStatOnline 0 (fs.foldl (fun a f => if b.fdSt f = 2 then a + 2 ^ f else a) 0)
  let was := b.flag .feederStatInfailTrig
  let b := b.wr .feederStatInfailTrig 0 (bit b.infail)
  if was && !b.infail then b.holdClear e .feeder else b

/-- Feeder f changes its state; one that has not been ONLINE counts nothing in COMM_LOST (R515, R520, R530). -/
def Body.fdState (e : Env) (f st : Nat) (b : Body) : Body :=
  let old := b.fdSt f
  if old = st then b
  else
    let b := b.fdAnchor e f
    let b := if old = 2 then ((b.onFd f fun x => { x with trim := 0 }).wr .fdrTrimTrim f 0).raise (5, f) else b
    let b := (b.wr .fdrStateState f st).onFd f fun x =>
      { x with commT := if st = 3 then e.now else x.commT, expired := !x.wasOn, okRun := if st = 2 then 0 else x.okRun
               wasOn := x.wasOn || decide (st = 2), teleDue := if st = 2 then e.now else x.teleDue }
    ((b.event e.count 0x0400 0xFF f st (b.rd .fdrStateStatus f)).fdRetarget e f).fdSum e

/-- Feeder f starts: DISABLED or PROBING, at the image's application or a write of EN (R515). -/
def Body.fdStart (e : Env) (f : Nat) (b : Body) : Body :=
  let b := (b.wr .fdrStateRefuse f 0).onFd f fun x =>
    { x with known := false, tries := 0, fails := 0, okRun := 0, wasOn := false, statDue := e.now }
  (b.fdState e f (bit (b.flag .fdrCfgEn f))).fdSum e

/-! ### Reads (R514 to R517, R524) -/

/-- The transaction under way is over (R522). -/
def Body.fpOver (b : Body) : Body := b.onFp fun p => { p with losses := 0 }

/-- A transaction has completed: FP_HUNG and SCL_STUCK clear (R525). -/
def Body.fpDone (b : Body) : Body := ((b.wr .feederStatFpHung 0 0).wr .feederStatSclStuck 0 0).fpOver

/-- A failed transaction of feeder f; nack says that a byte was not acknowledged (R524, R532). -/
def Body.fdFail (f : Nat) (nack : Bool) (b : Body) : Body :=
  ((if nack then b.bump .fdrErrNack f else b).bump .fdrErrFail f).fpOver

/-- The state whose condition a status read finds (R515). -/
def fdCond (word input : Nat) : Option Nat :=
  if (bitAt word 6 && !bitAt word 13) || bitAt word 5 || bitAt word 4 then some 4
  else if bitAt word 13 && (bitAt input 4 || bitAt input 3) then some 5
  else none

/-- A completed status read of feeder f (R515). -/
def Body.fdStatus (e : Env) (f word input : Nat) (b : Body) : Body :=
  let b := (b.fpDone.wr .fdrStateStatus f word).onFd f fun x => { x with fails := 0 }
  match fdCond word input with
  | some st => (b.onFd f fun x => { x with okRun := 0 }).fdState e f st
  | none =>
    let b := b.onFd f fun x => { x with okRun := x.okRun + 1 }
    if b.fdSt f ≠ 2 ∧ 2 ≤ (b.fd f).okRun then b.fdState e f 2 else b

/-- A failed status read of feeder f (R515, R524). -/
def Body.fdStatusFail (e : Env) (f : Nat) (nack : Bool) (b : Body) : Body :=
  let b := (b.fdFail f nack).onFd f fun x => { x with fails := x.fails + 1, okRun := 0 }
  if 3 ≤ (b.fd f).fails ∧ (b.fd f).known then b.fdState e f 3 else b

/-- Discovery of feeder f: VOUT_MODE, VOUT_COMMAND, STATUS_WORD and STATUS_INPUT (R515, R518). -/
def Body.discover (e : Env) (f : Nat) (r : FpEnd (Nat × Nat × Nat × Nat)) (b : Body) : Body :=
  if !b.fpRuns || b.fdSt f ≠ 1 || (b.fd f).known then b
  else match r with
    | .badPec => b.fdFail f false
    | .nack =>
      let b := (b.fdFail f true).onFd f fun x => { x with tries := x.tries + 1 }
      if 3 ≤ (b.fd f).tries then (b.wr .fdrStateRefuse f 2).fdState e f 6 else b
    | .done (mode, vout, word, input) =>
      if bits mode 7 5 ≠ 0 then (b.fpDone.wr .fdrStateRefuse f 1).fdState e f 6
      else
        let n := toSigned 5 mode
        let b := (b.wr .fdrStateVoutExp f (ofSigned 8 n)).wr .fdrVcmdSent f vout
        let b := b.onFd f fun x => { x with known := true, v0 := voutValue n (vout % 2 ^ 16), t0 := e.now }
        (b.fdRetarget e f).fdStatus e f (word % 2 ^ 16) input

/-- FEEDER_DISCOVERY (R515). -/
def execFeederDiscovery (f : Fin 12) (r : FpEnd (Nat × Nat × Nat × Nat)) (s : State) : Out :=
  .next (s.onHub fun e b => b.discover e f r)

/-- The status interval: STAT_MS, in doze 1 s (R517, R529). -/
def Body.statNs (b : Body) : Nat := if b.doze then 1000000000 else msNs (max 2 (b.rd .feederFpcfgStatMs))

/-- Feeder f takes status reads. -/
def Body.fdReads (b : Body) (f : Nat) : Bool := b.fpRuns && (b.fd f).known && b.fdSt f ≠ 0 && b.fdSt f ≠ 6

/-- A status read of feeder f: STATUS_WORD and STATUS_INPUT, or a failure (R517). -/
def Body.statusRead (e : Env) (f : Nat) (r : FpEnd (Nat × Nat)) (b : Body) : Body :=
  let due := (b.fd f).statDue
  let b := if due + b.statNs < e.now then b.wr .feederStatOverload 0 1 else b
  let b := b.onFd f fun x => { x with statDue := due + b.statNs }
  match r with
  | .done (w, i) => b.fdStatus e f (w % 2 ^ 16) i
  | .nack => b.fdStatusFail e f true
  | .badPec => b.fdStatusFail e f false

/-- FP_STATUS_READ (R517): at its due time, or late. -/
def execFpStatusRead (f : Fin 12) (r : FpEnd (Nat × Nat)) (s : State) : Out :=
  if s.body.fdReads f then .next ((s.goTo (s.body.fd f).statDue).onHub fun e b => b.statusRead e f r) else .next s

/-- A LINEAR11 word in units of 1/m, rounded (R514). -/
def linear11 (m w : Nat) : Int :=
  let n := toSigned 5 (w / 2 ^ 11)
  let y := toSigned 11 w
  if n < 0 then divRound (y * (m : Nat)) ((2 ^ n.natAbs : Nat)) else y * (m * 2 ^ n.natAbs : Nat)

/-- The telemetry of feeder f: READ_VOUT, READ_IOUT, READ_TEMPERATURE_1, READ_POUT (R514, R532). -/
def Body.telemetry (e : Env) (f v i t p : Nat) (b : Body) : Body :=
  let b := b.fpDone.wr .fdrVoutVout f (min 0xFFFF (fracRound (voutValue (b.fdExp f) (v % 2 ^ 16)) twoMv))
  let b := (b.wr .fdrVoutIout f (ofSigned 16 (clampInt (-32768) 32767 (linear11 100 i)))).wr .fdrTempPout f
    (clampInt 0 0xFFFF (linear11 1 p)).toNat
  (b.wr .fdrTempTemp f (satTemp (linear11 16 t + 880))).onFd f fun x => { x with tempT := some e.now }

/-- A field of a battery unit. -/
def pairGet (p : Nat × Nat) (u : Nat) : Nat := if u = 0 then p.1 else p.2

/-- Set a field of a battery unit. -/
def pairSet (p : Nat × Nat) (u x : Nat) : Nat × Nat := if u = 0 then (x, p.2) else (p.1, x)

/-- A status read of battery unit u (R528). -/
def Body.bbuRead (u : Nat) (r : Option Nat) (b : Body) : Body :=
  match r with
  | some w => ((b.fpDone.wr .bbuStatStatus u w).wr .bbuStatCommLost u 0).onFp fun p => { p with bbuFails := pairSet p.bbuFails u 0 }
  | none =>
    let n := pairGet b.fdr.bbuFails u + 1
    let b := b.fpOver.onFp fun p => { p with bbuFails := pairSet p.bbuFails u n }
    if 3 ≤ n then b.wr .bbuStatCommLost u 1 else b

/-- The telemetry interval. -/
def Body.pollNs (b : Body) : Nat := msNs (max 10 (b.rd .feederPollPollMs))

/-- FP_TELEMETRY_READ (R517, R528): at its due time, or late. -/
def execFpTelemetryRead (t : FpTele) (s : State) : Out :=
  match t with
  | .feeder f r =>
    if !s.body.fpRuns || s.body.doze || s.body.fdSt f ≠ 2 then .next s
    else .next ((s.goTo (s.body.fd f).teleDue).onBody fun e b =>
      let b := b.onFd f fun x => { x with teleDue := x.teleDue + b.pollNs }
      match r with
      | .done (v, i, tt, p) => b.telemetry e f v i tt p
      | .nack => b.fdFail f true
      | .badPec => b.fdFail f false)
  | .bbu u r =>
    if !s.body.fpRuns || s.body.doze || s.body.rd .bbuCfgAddr u = 0 then .next s
    else .next ((s.goTo (pairGet s.body.fdr.bbuDue u)).onBody fun _ b =>
      (b.onFp fun p => { p with bbuDue := pairSet p.bbuDue u (pairGet p.bbuDue u + b.pollNs) }).bbuRead u r)

/-! ### Writes (R518, R522, R523) -/

/-- The step interval. -/
def Body.stepNs (b : Body) : Nat := msNs (max 1 (b.rd .feederSlewStepMs))

/-- The value that the step instant at or before now sends to feeder f. -/
def Body.stepCode (e : Env) (b : Body) (f : Nat) : Nat := voutCode (b.fdExp f) (b.fdRef f (e.now / b.stepNs * b.stepNs))

/-- A step instant: VOUT_COMMAND is written when it differs from the value last written (R518). -/
def Body.stepWrite (e : Env) (f : Nat) (r : FpEnd Unit) (b : Body) : Body :=
  let c := b.stepCode e f
  if b.fdSt f ≠ 2 || c = b.rd .fdrVcmdSent f then b
  else match r with
    | .done _ => b.fpDone.wr .fdrVcmdSent f c
    | .nack => b.fdFail f true
    | .badPec => b.fdFail f false

/-- FP_STEP_WRITE (R518): at the next step instant. -/
def execFpStepWrite (f : Fin 12) (r : FpEnd Unit) (s : State) : Out :=
  if !s.body.fpRuns || s.body.doze then .next s
  else .next ((s.goTo (ceilDiv s.time.elapsed s.body.stepNs * s.body.stepNs)).onBody fun e b => b.stepWrite e f r)

/-- A transaction that has lost arbitration: it is repeated up to RETRIES times, and then counts as failed (R522). -/
def Body.arbRetry (e : Env) (f : Nat) (k : FpKind) (b : Body) : Body :=
  let n := b.fdr.losses + 1
  if n ≤ b.rd .feederFpcfgRetries then b.onFp fun p => { p with losses := n }
  else match k with
    | .status => b.fdStatusFail e f false
    | .bbu u => b.bbuRead u none
    | .write | .read => b.fdFail f false

/-- FP_ARB_LOST (R522): a transaction of feeder f or of a battery unit loses arbitration. -/
def execFpArbLost (f : Fin 12) (k : FpKind) (s : State) : Out :=
  .next (s.onBody fun e b => if !b.fpRuns then b else (b.bump .feederFpcntArbLost).arbRetry e f k)

/-- The outcome of an interrupted write: read-back equal, repeated, failed (R523). -/
def Body.arbWrite (e : Env) (f : Nat) (back : FpEnd Nat) (again : FpEnd Unit) (b : Body) : Body :=
  let c := b.stepCode e f
  let note := fun (x : Nat) (b : Body) => b.event e.count 0x0402 0xFF f x 0
  match back, again with
  | .nack, _ => note 3 (b.fdFail f true)
  | .badPec, _ => note 3 (b.fdFail f false)
  | .done v, r =>
    if v % 2 ^ 16 = c then note 1 (b.fpDone.wr .fdrVcmdSent f c)
    else match r with
      | .done _ => note 2 (b.fpDone.wr .fdrVcmdSent f c)
      | .nack => note 3 (b.fdFail f true)
      | .badPec => note 3 (b.fdFail f false)

/-- ARB_COND (R523): arbitration is lost at a STOP or a repeated START; for a write, back is the VOUT_COMMAND read back and again
the outcome of the repeat. A read is repeated as under R522. -/
def execArbCond (f : Fin 12) (k : FpKind) (back : FpEnd Nat) (again : FpEnd Unit) (s : State) : Out :=
  .next (s.onBody fun e b =>
    if !b.fpRuns then b
    else
      let b := b.bump .feederFpcntArbCond
      if k = .write then b.arbWrite e f back again else b.arbRetry e f k)

/-- A hung bus is tried (R525). -/
def Body.hang (e : Env) (r : HangEnd) (b : Body) : Body :=
  let note := fun (f : Fld) (x : Nat) (b : Body) =>
    if b.flag f then b else ((b.wr f 0 1).raise (5, 16)).event e.count 0x0401 0xFF x 0 0
  let b := b.onFp fun p => { p with hangT := e.now }
  match r with
  | .recovered => (b.bump .feederFpcntRecover).event e.count 0x0401 0xFF 1 0 0
  | .sdaLow => note .feederStatFpHung 2 b
  | .sclLow => note .feederStatSclStuck 3 b

/-- FP_HANG_RECOVERY (R525): a recovery of a hung bus; every 100 ms while it stays hung. -/
def execFpHangRecovery (r : HangEnd) (s : State) : Out :=
  if !s.body.fpRuns then .next s
  else
    let hung := s.body.flag .feederStatFpHung || s.body.flag .feederStatSclStuck
    .next ((s.goTo (if hung then s.body.fdr.hangT + 100000000 else s.time.elapsed)).onBody fun e b => b.hang e r)

/-- FEEDER_COMM_HOLD_EXPIRE (R515): COMM_HOLD after the entry to COMM_LOST. -/
def execFeederCommHoldExpire (f : Fin 12) (s : State) : Out :=
  if s.body.fdSt f ≠ 3 then .next s
  else .next ((s.goTo ((s.body.fd f).commT + s.body.rd .feederPollCommHold * 100000000)).onHub fun e b =>
    (b.onFd f fun x => { x with expired := true }).fdSum e)

/-! ### Balancing (R520, R521) -/

/-- Balancing is suspended by a hold-up sequence. -/
def Body.balSusp (b : Body) : Bool := b.holdup

/-- The set B (R520). -/
def Body.balSet (e : Env) (b : Body) : List Nat :=
  (List.range 12).filter fun f => b.fdSt f = 2 &&
    (match (b.fd f).tempT with
      | some t => decide (e.now ≤ t + 2 * b.pollNs)
      | none => false)

/-- Set the trim of feeder f, shown in 0.001 %. -/
def Body.setTrim (f : Nat) (x : Int) (b : Body) : Body :=
  (b.onFd f fun d => { d with trim := x }).wr .fdrTrimTrim f (ofSigned 16 (rshiftRound x 16))

/-- The trims after an update of the set B (R520). -/
def Body.newTrims (b : Body) (fs : List Nat) : List Int :=
  let n : Int := (fs.length : Nat)
  let temps := fs.map fun f => ((b.rd .fdrTempTemp f : Nat) : Int)
  let sum := temps.foldl (· + ·) 0
  let ts := (List.zip fs temps).map fun p =>
    (b.fd p.1).trim + clampInt (-3276800) 3276800 (divRound (-((b.rd .feederBalKBal : Nat) : Int) * (p.2 * n - sum) * 65536) (16 * n))
  let mean := divRound (ts.foldl (· + ·) 0) n
  let m : Int := (b.rd .feederBalTrimMax * 10 * 65536 : Nat)
  ts.map fun t => clampInt (-m) m (t - mean)

/-- One update of the trims. -/
def Body.balance (e : Env) (b : Body) : Body :=
  let b := b.onFp fun p => { p with balT := e.now }
  let fs := b.balSet e
  if fs.length < 2 then b
  else
    let b := (List.zip fs (b.newTrims fs)).foldl (fun b p => b.setTrim p.1 p.2) b
    b.fdRetargetAll e

/-- BALANCE_UPDATE (R520): every BAL_PERIOD of elapsed time. -/
def execBalanceUpdate (s : State) : Out :=
  if !s.body.flag .feederBalBalEn || s.body.balSusp || !s.body.fpRuns || s.body.doze then .next s
  else .next ((s.goTo (s.body.fdr.balT + max 1 (s.body.rd .feederBalBalPeriod) * 1000000000)).onBody fun e b => b.balance e)

/-- Balancing is switched off: every trim is 0 (R521). -/
def Body.balOff (e : Env) (b : Body) : Body :=
  (b.forEach (List.range 12) fun f b => b.setTrim f 0).fdRetargetAll e

/-! ### Battery units (R526) -/

/-- BBU_PIN_MISMATCH (R526): the pins of unit u have sensed a code for 10 µs. -/
def execBbuPinMismatch (u : Fin 2) (code : Fin 4) (s : State) : Out :=
  .next (s.onBody fun _ b =>
    let b := b.wr .bbuStatSensed u code
    if b.bbuDrives && decide (b.rd .bbuStatDriven u ≠ code) then (b.wr .bbuStatMismatch u 1).raise (5, 17 + u) else b)

end Sys2Proof.Machine
end

