-- ==== Sys2Proof/Machine/ImgFields.lean ====
section
/-!
DEFINITION. The fields that an image loads, with the defaults their tables state (R10, R488, R489): those of a channel, and the
others. The fields that the channel map gives or the module derives are not among them.
-/

namespace Sys2Proof.Machine

open Sys2Proof

/-- The fields of a channel that an image loads, a part of the list. -/
def imgChanFlds0 : List Fld :=
  [.chSeatcfgLossUs, .chSeatcfgAqMs, .chSeatcfgDebounceMs, .chRampGateOn, .chRampDoneVds, .chRampTarget, .chLimitcfgExit, .chLimitcfgIlimTmax, .chLoopcfgIsrc, .chLoopcfgBff, .chLoopcfgClearn, .chLoopcfgIdxShift, .chLoopcfgHem, .chIlimIlim, .chRampctlRate, .chRampctlRound, .chFfcfgCEst, .chFfcfgKv, .chTjloopTjLim, .chTjloopKtj, .chFollowFeBand, .chFollowFeTime, .tablesGainKp, .tablesGainKi]

/-- The fields of a channel that an image loads, a part of the list. -/
def imgChanFlds1 : List Fld :=
  [.chHtripHtFine, .chHtripHtCode, .chSoacfgHorizon, .chSoacfgTjSoa, .chTjtripTjTrip, .chTjtripTsTrip, .chAmbcfgAmbSrc, .chAmbcfgTsFitted, .chAmbcfgSenseMask, .chAmbcfgRestartRise, .chAmbcfgAmbFixed, .chMismatchMmTime, .chMismatchMmBand, .chGstallGsExpect, .chGstallGsTime, .chFshortFsSettle, .chFshortFsVout, .chFshortFsRise, .chFshortFsTime, .chFsiminFsImin, .chEsoaESoa, .poleRthRth, .poleTauTau, .soaVdsBp]

/-- The fields of a channel that an image loads, a part of the list. -/
def imgChanFlds2 : List Fld :=
  [.soaPMax, .chTrippolBusUnder, .chTrippolBusOver, .chTrippolOpenWire, .chTrippolFollow, .chTrippolTjMeasured, .chTrippolTjModel, .chTrippolSoaEnergy, .chTrippolIlimTimeout, .chTrippolHardtrip, .chRetryBackoff, .chRetryDarnMax, .chRetryRetryInterval, .chBuswinBusTime, .chBuswinBusOv, .chBuswinBusUv, .chBallocCapFloor, .chBallocAlloc, .chRshRshNom, .chShgainShGain, .chShtcShTc1, .chShtcShTc2, .chShcfgTsrc, .chShcfgShTref]

/-- The fields of a channel that an image loads, a part of the list. -/
def imgChanFlds3 : List Fld :=
  [.chShcfgShOfs]

/-- The fields of a channel that an image loads. -/
def imgChanFlds : List Fld := imgChanFlds0 ++ imgChanFlds1 ++ imgChanFlds2 ++ imgChanFlds3

/-- The other fields that an image loads, a part of the list. -/
def imgModFlds0 : List Fld :=
  [.budgetCtrlOvertake, .budgetCtrlMode, .budgetShelfPShelf, .budgetGuarValue, .budgetRelaxRelaxTime, .budgetRelaxRelaxMargin, .budgetQlimitQueueLimit, .budgetStaggerStaggerPeriod, .budgetStaggerStaggerMin, .budgetGselSel, .budgetBusminBusMinTime, .budgetBusminBusMin, .budgetHoldupReturnQual, .budgetHoldupAcfailFilt, .budgetHoldupBusWarnTime, .budgetHoldupBusWarn, .budgetHustageStageV, .budgetHustageDelay, .feScanmask1EnAux, .feIrangeFine, .feOwcfgPeriod, .feOwcfgConfirm, .feOwcfgCsThr, .feOwcfgTsThr]

/-- The other fields that an image loads, a part of the list. -/
def imgModFlds1 : List Fld :=
  [.feTsmodeMode, .feTslinSlope, .feTslinV0, .feTsdiodeEta, .feCapctlTsrc, .feCapctlTunit, .feCapctlWide, .feCapctlXout, .feCapctlEn, .feCapctlInput, .feCaplenLen, .feEntryInput, .fuFcfgOrder, .fuFcfgSettle, .fuFcfgWen, .fuFcfgWhyst, .fuFcfgRatio, .fuWloLevel, .fuWhiLevel, .metaCalintInterval, .tbDiscStepEn, .tbDiscLockThr, .tbDiscSlewWindow, .tbPpscfgPpsDelay]

/-- The other fields that an image loads, a part of the list. -/
def imgModFlds2 : List Fld :=
  [.tbPpscfgMinw, .tbPpscfgPpsEn, .tbPpscfgEdge, .recCtrlAutoPrepare, .recTrendcfgInterval, .feederFpcfgRetries, .feederFpcfgHangMs, .feederFpcfgStatMs, .feederFpcfgPec, .feederFpcfgSpeed, .feederPollCommHold, .feederPollPollMs, .feederVsetVSet, .feederVlimVmax, .feederVlimVmin, .feederSlewStepMs, .feederSlewSlew, .feederBalBalEn, .feederBalBalPeriod, .feederBalKBal, .feederBalTrimMax, .feederHoldcfgInfailMin, .bbuCfgAddr, .bbuCfgSelHoldup]

/-- The other fields that an image loads, a part of the list. -/
def imgModFlds3 : List Fld :=
  [.fdrCfgEn, .fdrCfgAddr, .fdrCfgPRated, .hostAddrcfgMode, .hostAddrcfgPair, .hostXaddrEn3, .hostXaddrA3, .hostXaddrEn2, .hostXaddrA2, .hostXaddrEn1, .hostXaddrA1, .hostXaddrEn0, .hostXaddrA0, .hostAmaskMask, .hostAmaskMatch, .hostPecReq, .hostAttncfgRepeatMs, .hostAttncfgMaxpull, .hostAttncfgEn1, .hostAttncfgEn0, .hpCfgSlope, .healthTcfgWarn]

/-- The other fields that an image loads. -/
def imgModFlds : List Fld := imgModFlds0 ++ imgModFlds1 ++ imgModFlds2 ++ imgModFlds3

/-- An image loads the field (R500). -/
def Fld.img (f : Fld) : Bool := f = .chCtrlEn || f = .chClassPclass || imgChanFlds.contains f || imgModFlds.contains f

/-- The field belongs to the mirror (R456, R567). -/
def Fld.mirrored (f : Fld) : Bool :=
  f.ofChan || (decide (0x3000 ≤ f.row.base) && decide (f.row.base < 0x6000) && f ≠ .tbFreqSteer) ||
    (decide (0x8000 ≤ f.row.base) && decide (f.row.base < 0xA000)) ||
    (match f with
      | .alertEn | .alertChmaskMask | .modSumenEn | .modAlctlAlertEn => true
      | _ => false)

/-- The registers of a field. -/
def Fld.count (f : Fld) : Nat := f.row.dims.foldl (fun a d => a * d.1) 1

/-- The default of a field at an index; 0 where its table states none (R489, step 3). -/
def Fld.imgDefault (f : Fld) (i : Nat) : Nat :=
  match f with
  | .chSeatcfgLossUs | .chFollowFeBand | .chFshortFsSettle | .chFshortFsVout | .budgetBusminBusMinTime => 20
  | .chSeatcfgAqMs => 250
  | .chSeatcfgDebounceMs | .chRampDoneVds | .chLoopcfgIsrc | .budgetRelaxRelaxTime | .budgetHoldupAcfailFilt
  | .feOwcfgTsThr | .feederPollCommHold | .feederBalTrimMax => 50
  | .chRampGateOn | .chSoacfgHorizon | .chMismatchMmTime | .chRetryRetryInterval | .budgetStaggerStaggerMin
  | .feederPollPollMs => 100
  | .chLimitcfgExit | .chFshortFsRise | .chFshortFsTime | .chBuswinBusTime | .budgetHoldupReturnQual
  | .feOwcfgPeriod | .feOwcfgCsThr | .tbDiscLockThr | .tbPpscfgMinw | .feederFpcfgStatMs | .feederSlewStepMs
  | .feederBalBalPeriod | .feederBalKBal | .hostAttncfgRepeatMs => 10
  | .chLimitcfgIlimTmax => 400
  | .chLoopcfgBff | .chTrippolOpenWire | .chTrippolSoaEnergy | .chRetryBackoff | .feCapctlWide | .feCapctlEn
  | .fuFcfgOrder | .tbPpscfgPpsEn | .feederFpcfgPec | .feederFpcfgSpeed | .feederBalBalEn | .hostPecReq
  | .hpCfgSlope => 1
  | .chLoopcfgIdxShift => 6
  | .chLoopcfgHem => 328
  | .chIlimIlim => 0x4000
  | .chRampctlRate | .budgetStaggerStaggerPeriod | .feTslinSlope | .tbDiscSlewWindow => 1000
  | .chFfcfgKv | .chTjloopKtj => 4096
  | .chTjloopTjLim | .chTjtripTsTrip => 2880
  | .chFollowFeTime | .budgetRelaxRelaxMargin | .feederSlewSlew => 500
  | .chSoacfgTjSoa => 3280
  | .chTjtripTjTrip => 3520
  | .chAmbcfgSenseMask => 8
  | .chAmbcfgRestartRise | .chMismatchMmBand | .chGstallGsExpect => 40
  | .chAmbcfgAmbFixed => 1760
  | .chGstallGsTime => 200
  | .chFsiminFsImin => 164
  | .chEsoaESoa => 2000
  | .chRetryDarnMax | .feederFpcfgRetries => 3
  | .chBuswinBusOv | .budgetQlimitQueueLimit => 600
  | .chBuswinBusUv => 380
  | .budgetGselSel => 0xFFFFFFFF
  | .budgetBusminBusMin => 460
  | .budgetHoldupBusWarnTime => 5
  | .budgetHoldupBusWarn => 440
  | .budgetHustageStageV => [0, 420, 0, 400].getD i 0
  | .budgetHustageDelay => [0, 20, 0, 500].getD i 0
  | .feScanmask1EnAux => 31
  | .feOwcfgConfirm | .feCapctlTsrc | .fuFcfgSettle => 2
  | .feTslinV0 => 5000
  | .feTsdiodeEta => 0x4106
  | .feCapctlInput => 126
  | .feCaplenLen => 64
  | .feEntryInput => if i % 64 < 49 then entryReset (i % 64) else if i % 64 < 54 then 0x41 + (i % 64 - 49) else 0x7F
  | .fuFcfgWhyst => 16
  | .fuFcfgRatio => if i % 80 < 16 then 1249 else 63
  | .fuWloLevel => 0x800000
  | .fuWhiLevel => 0x7FFFFF
  | .chShcfgShTref => 1280
  | .metaCalintInterval => 365
  | .feederFpcfgHangMs => 35
  | .feederVsetVSet => 5400
  | .feederVlimVmax => 5700
  | .feederVlimVmin => 4800
  | .healthTcfgWarn => 2480
  | _ => 0

/-- The value an image gives a field without a policy: its records', or the default (R489). -/
def ImgVals.plain (v : ImgVals) (f : Fld) (i : Nat) : Nat :=
  let g := sparseGet 0 v.given (fkey f i)
  if g = 0 then f.imgDefault i else g - 1

end Sys2Proof.Machine
end

