-- ==== Sys2Proof/Machine/Twin.lean ====
section
/-!
DEFINITION. Twin operation (chapter 12): roles, the Bluli link and its mirror, the planned Seam and the takeover, splits, and
the module's seat.
-/

namespace Sys2Proof.Machine

open Sys2Proof

/-! ### Frames (R454) -/

/-- A frame arrives; HUB in reset takes none (R44). -/
def Body.rxBluli (b : Body) : Body := if b.hubDown then b else b.onTwin fun t => { t with rxSeq := (t.rxSeq + 1) % 65536 }

/-- What HUB does with a frame that arrives. -/
def State.onFrame (f : Env → Body → Body) (s : State) : State := s.onBody fun e b => if b.hubDown then b else f e b.rxBluli

/-- The 256 bits of a frame with its kind, SEQ, payload and CRC-32; the layout of the payload the spec does not give. -/
def bluliFrame (kind sq payload : Nat) : Nat :=
  let x := kind % 256 * 2 ^ 216 + sq % 65536 * 2 ^ 200 + payload % 2 ^ 200
  x * 2 ^ 32 + crc32 (leBytes 28 x).reverse

/-- The bits of a frame as it is sent (R454). -/
def BFrame.bits (f : BFrame) : Nat := bluliFrame f.kind f.seq (Config.bluliPayload f.content).toNat

/-! ### Roles (R450, R451) -/

/-- The role of a heartbeat by its code; another code is none. -/
def roleOf (c : Nat) : Option Role :=
  match c with
  | 0 => some .starting | 1 => some .solo | 2 => some .active | 3 => some .standby | 4 => some .bench | _ => none

/-- A partner is present: its heartbeat arrives and carries neither BENCH nor STARTING (R451). -/
def Body.partner (b : Body) : Bool :=
  b.flag .twinStatHbOk && decide (b.rd .twinStatPartnerRole ≠ 0) && decide (b.rd .twinStatPartnerRole ≠ 4)

/-- The partner's role as EVENT 0x0201 cites it (R475). -/
def Body.partnerCode (b : Body) : Nat := if b.flag .twinStatHbOk then b.rd .twinStatPartnerRole else 0xFF

/-- The hold of admission ends, and QAGE restarts for every queued channel (R479). -/
def Body.endSoloHold (e : Env) (b : Body) : Body :=
  if !b.flag .modBootSoloHeld then b
  else (b.wr .modBootSoloHeld 0 0).forEach b.queue fun n b => b.onCh n fun c => { c with queuedT := e.now }

/-- Start-up ends: phase 7, its time, and the START condition clears (R395, R477). -/
def Body.startEnds (e : Env) (b : Body) : Body :=
  ((b.wr .modBootPhase 0 7).wr .modBootTConfig 0 (min 0xFFF ((e.now - b.boot.startT) / 1000000))).wr .tbTmrctlStart 0 0

/-- What a STANDBY module has passed and not got back, it writes itself once it is STANDBY no longer (R444). -/
def Body.emitPassed (b : Body) : Body :=
  if b.role = .standby then b else b.twin.pass.foldl (fun b r => b.emit r) (b.onTwin fun t => { t with pass := [] })

/-- The blocks that this module builds from now on are its own: a split, if it is one, begins here (R468). -/
def Body.splitFrom (e : Env) (b : Body) : Body := b.onTwin fun t => { t with splitBlk := b.rd .recNextblkNo, splitT := e.now }

/-- The role changes (R450, R475); the pins of the battery units are released by a module that no longer drives (R526). A module that
becomes SOLO other than from BENCH stands alone from now on (R468). -/
def Body.setRole (e : Env) (r : Role) (b : Body) : Body :=
  if b.role = r then b
  else
    let drove := b.bbuDrives
    let b := if r = .solo ∧ b.role ≠ .bench then b.splitFrom e else b
    let b := ({ b with role := r } : Body).emitPassed
    let b := (b.wr .twinStatRole 0 r.code).event e.count 0x0201 0xFF r.code b.partnerCode 0
    let b := if drove && !b.bbuDrives then b.bbuRelease e else b
    if r = .active then b.endSoloHold e else b

/-- Every gate driver goes high-impedance, gate keep included (R459, R461). -/
def Body.toHiZ (b : Body) : Body :=
  let b := b.forEach (List.range 8) fun k b => b.onDie k fun d => { d with keep := false, keepEnd := none }
  b.forEach (List.range 128) fun n b => b.onEng n fun g => { g with gate := .hiZ, hiZAfter := false, preset := g.vgs, dsel := 0, wins := [], freeWins := 0 }

/-- SOLO from STARTING: the controlled sink holds every gate at its source; with TWIN_REQUIRED admission is held (R451, R477,
R479). -/
def Body.becomeSolo (e : Env) (b : Body) : Body :=
  let b := (b.setRole e .solo).wr .twinStatPairAddr 0 1
  let b := b.forEach (List.range 128) fun n b => b.onEng n fun g => { g with gate := .sink }
  let b := b.wr .modBootPhase 0 5
  if bitAt (e.fuse 1) 2 then b.wr .modBootSoloHeld 0 1 else b

/-- The SHA-256 of the Starch words in force with SEAL taken as 0 (R494). -/
def starchDigest (m : Sparse) : List Nat :=
  sha256 ((List.range 128).flatMap fun w =>
    leBytes 4 (if w = 1 then sparseGet 0 m 1 % 2 ^ 31 else sparseGet 0 m w % 2 ^ 32))

/-- The Starch digests of the pair are compared: where they differ this module refuses the pairing (R470). -/
def Body.compareStarch (e : Env) (b : Body) : Body :=
  let bad := decide (b.twin.pDigest ≠ hashUnits (starchDigest e.map))
  let b := b.onTwin fun t => { t with mismatch := bad }
  if bad then ((b.wr .twinStatRefuse 0 6).raise (7, 4)).event e.count 0x0202 0xFF 6 0 0 else b

/-- A staging command, and a Patch that is not accepted, end with the role (R501 to R503, R509). DESIGN CHOICE (log 226): as failed. -/
def Body.dropChecked (b : Body) : Body :=
  let b := if b.boot.cmd = 0 then b else ((b.wr .modImgcmdBusy 0 0).wr .modImgcmdDone 0 1).wr .modImgcmdErr 0 1
  let b := if b.boot.checked.isSome then b.wr .modPatchstatState 0 0 else b
  { b with boot := { b.boot with cmd := 0, checked := none } }

/-- Entry to STANDBY (R451, R458, R459, R470): the mirror is not complete, and a partner that is present is compared with; the stream
follows its partner's from here (follows), or once its blocks have been copied (R444). DESIGN CHOICE (log 214): the channels of the outgoing module of a Seam go
on showing HELD with HANDOVER until the partner's mirror of them comes (R69). -/
def Body.enterStandby (e : Env) (follows : Bool) (b : Body) : Body :=
  let b := if b.role = .starting then b.startEnds e else b
  let b := if b.flag .twinStatHbOk then b.compareStarch e else b.onTwin fun t => { t with mismatch := false }
  let b := b.onRcd fun r => { r with burstT := e.now, follows := follows, group := [], ahead := [] }
  let b := b.dropChecked
  let b := ((b.toHiZ.setRole e .standby).wr .twinStatPairAddr 0 0).lowPower e true
  let b := b.onMtr fun m => { m with unmet := [], firstInc := none }
  let b := (b.wr .twinStatSeamRun 0 0).onTwin fun t =>
    { t with synced := false, snaps := [], left := false, seam := none, seamE := none, heldWrites := [], trendTill := none }
  b.forEach (List.range 128) fun n b => b.onPath n MPath.restart

/-- A STARTING module meets a partner that carries SOLO or ACTIVE (R451, R470). -/
def Body.joinPartner (e : Env) (b : Body) : Body := b.enterStandby e false

/-! ### The mirror (R456, R458, R470) -/

/-- This module takes the mirror: STANDBY, below its shutdown level, with matching digests (R470, R578). -/
def Body.mirrors (b : Body) : Bool := b.role = .standby && decide (b.health.lvl < 4) && !b.twin.mismatch && !b.hubDown

/-- Load a snapshot into the die of channel n (R456, R463). -/
def Body.loadSnap (e : Env) (n : Nat) (x : Snap) (b : Body) : Body :=
  let t := min x.t e.now
  let b := b.onEng n fun g =>
    { g with ref := x.ref, rNum := x.rNum, rDen := x.rDen, rFall := x.rFall, rampEnd := x.rampEnd, limFrom := x.limNs.map (t - ·)
             feSince := x.feNs.map (t - ·), stallNs := x.stallNs, episode := x.episode, epiRun := x.epiRun, x := x.x
             poles := x.poles, polesDue := false, win := x.win }
  (b.onCh n fun c => { c with partialRamp := x.partialRamp }).onTwin fun w => { w with snaps := sparseSet 0 w.snaps n (t + 1) }

/-- A mirrored change of state at the engines of a STANDBY die: what a GRANT, a shed or a release brings beside the gate, which stays with
its driver (R458). -/
def Eng.follow (now : Nat) (old new : ChState) (released : Bool) (g : Eng) : Eng :=
  let h := if new = .ramp && !old.driven then (if released then g.resumeRamp else g.startRamp) else g.onState now old new
  { h with gate := g.gate, due := .no }

/-- The mirrored view of channel n: its GRANT, SHED_CMD and RELEASE are forwarded to the dies, which a GRANT's latch clear reaches too
(R458, R460). -/
def Body.loadChan (e : Env) (n : Nat) (c : Chan) (latch : Bool) (b : Body) : Body :=
  let old := (b.ch n).state
  let released := old = .held && c.state = .ramp
  let granted := c.state = .ramp && !old.driven && !released
  let b := b.onCh n fun _ => c
  let b := if c.state = old || c.state = .held || b.isMember n then b
    else b.forEach (b.membersOf n) fun m b => b.onEng m (Eng.follow e.now old c.state released)
  b.onEng n fun g => { g with tripLatch := if granted then false else g.tripLatch || latch }

/-- The partner's serial (R476). -/
def Body.partnerSn (ws : List Nat) (b : Body) : Body :=
  b.forEach (List.range 4) fun i b => b.wr .twinPartnerSnBytes i (ws.getD i 0)

/-- The mirror carries the field (R456, R509): a mirrored register, an FE-held field of the image, what a Patch shows. DEDUCED (log 222):
MOD.IMGSTAT.OVERRIDDEN, which tells of the configuration in force. -/
def Fld.carried (f : Fld) : Bool :=
  f.mirrored || (f.held && f.img) ||
  (match f with
    | .modPatchstatState | .modPatchstatRefuse | .modPatchstatPending | .modPendingMask | .modImgstatOverridden => true
    | _ => false)

/-- Fields of the partner are set at once, by key, those that the mirror carries; where a level changes, the ladders follow, and a HOLDOVER
that begins is timed (R320, R388, R456, R458). -/
def Body.mirrorKeys (e : Env) (kvs : List (Nat × Nat)) (b : Body) : Body :=
  let kvs := kvs.filter fun kv => (keyFld kv.1).carried
  let was := b.rd .tbStatState
  let b := b.putKeys kvs
  let b := if was ≠ 3 ∧ b.rd .tbStatState = 3 then
      b.onDisc fun d => { d with holdT := e.now - b.rd .tbHoldsecSec * 1000000000 } else b
  if kvs.any fun kv => (keyFld kv.1).onLadder then b.loadLadders else b

/-- What an image gives the fields of the regions that the mirror leaves to each module (R456, R562), where they differ from what the
image before gave them. DEDUCED (log 222): each module takes its own from the image it holds. -/
def Body.ownPresets (v : ImgVals) (b : Body) : Body :=
  let kvs := (imgModFlds.filter fun f => !f.carried).flatMap fun f => (List.range f.count).filterMap fun i =>
    if b.boot.imaged && v.plain f i = b.boot.vals.plain f i then none else some (fkey f i, v.plain f i)
  b.putKeys kvs

/-- The image in force of the partner (R456, R509). -/
def Body.mirrorImage (i : ImgSlot) (v : ImgVals) (b : Body) : Body :=
  let b := b.ownPresets v
  (List.range 8).foldl (fun b j => b.wr .modImgdigestD j (i.digest.getD j 0))
    (({ b with boot := { b.boot with imaged := true, vals := v } } : Body).wr .modImgseqSeq 0 i.seq)

/-- The discipline of the partner: a scheduled step is applied here at the same instant (R456, R457). The pulses that this module measures,
its oscillator's word and its clocks' rate are its own. -/
def Body.mirrorDisc (d : Disc) (b : Body) : Body :=
  b.onDisc fun o => { d with lastPulse := o.lastPulse, saved := o.saved, hubRate := o.hubRate }

/-- An accumulator has its origin (R330, R333, R335). -/
def Body.hasOrigin (n : Nat) (b : Body) : Body :=
  b.onMtr fun m => if m.origin.contains n then m else { m with origin := n :: m.origin }

/-- A mirrored accumulator; the total follows (R330, R335). -/
def Body.mirrorAcc (n v : Nat) (b : Body) : Body :=
  ((b.wr .energyAcc n v).wr .energyTotalAcc 0 ((b.rd .energyTotalAcc + v + 2 ^ 128 - b.rd .energyAcc n) % 2 ^ 128)).hasOrigin n

/-- The Patch of the partner; its start interrupts a session here too (R353, R509). -/
def Body.mirrorPatch (e : Env) (p : Option Patch) (b : Body) : Body :=
  let starts := b.boot.patch.isNone && p.any fun x => !x.reload
  let b := if starts then b.calInterrupt e else b
  { b with boot := { b.boot with patch := p } }

/-- Take one piece of the mirror; accumulators hold Q64.64. -/
def Body.mirror (e : Env) (m : MirrorItem) (b : Body) : Body :=
  match m with
  | .chan n c latch => b.loadChan e n c latch
  | .budget bd => { b with bud := bd }
  | .fields kvs => b.mirrorKeys e kvs
  | .snap n x => b.loadSnap e (n % 128) x
  | .acc n v => b.mirrorAcc (n % 128) (v % 2 ^ 128)
  | .trip _ _ => b
  | .feeder f x => b.onFd f fun _ => x
  | .image i v => b.mirrorImage i v
  | .patch p => b.mirrorPatch e p
  | .timers t => b.onTmr fun _ => t
  | .trend t => b.onTwin fun w => { w with trendTill := some (t, e.now - (e.count - t)) }
  | .serial ws => b.partnerSn ws
  | .disc d => b.mirrorDisc d
  | .balance t => b.onFp fun p => { p with balT := t }
  | .staged _ => b

/-- The partner's report of a hard trip at its die: of two reports the earlier stands (R460). -/
def Body.partnerTrip (e : Env) (n t : Nat) (b : Body) : Body :=
  let l := b.leadOf n
  let b := b.deliver e l (.trip 0x10) t
  if b.rd .chLastTripTripReason l = 0x10 ∧ t < (b.ch l).tripE then
    (b.onCh l fun c => { c with tripE := t }).wr .chTriptimeTime l (e.countAt t)
  else b

/-- BLULI_LOOP_SNAPSHOT (R456). -/
def execBluliLoopSnapshot (n : ChIx) (x : Snap) (s : State) : Out :=
  .next (s.onFrame fun e b => if b.mirrors then b.loadSnap e n x else b)

/-- The outgoing module's part of the interval that contains T_S joins that interval: the open one, a closed one that waits, or, where
its increment has been taken, the accumulator and the blocks that wait (R464). -/
def Body.seamPart (e : Env) (n ts : Nat) (x : Int) (b : Body) : Body :=
  let m := (b.en n).m
  let add (c : IntSum) : IntSum := { c with e := c.e + x }
  if m.openT ≤ ts then b.onPath n fun m => { m with cur := add m.cur }
  else if m.closed.any fun c => decide (c.start ≤ ts) && decide (ts < c.endE) then
    b.onPath n fun m => { m with closed := m.closed.map fun c =>
      if c.start ≤ ts ∧ ts < c.endE then { c with sum := add c.sum } else c }
  else
    let left := b.trendNs - e.countAt ts % b.trendNs
    b.accept n x (e.countAt ts + left) (ts + left)

/-- BLULI_INCREMENT (R335, R456, R464): the mirror of an increment, or the outgoing module's part of the interval of T_S; LSB
2^-64 J. -/
def execBluliIncrement (n : ChIx) (inc : Int) (s : State) : Out :=
  .next (s.onFrame fun e b =>
    if b.mirrors then b.accept n inc (e.count - e.count % b.trendNs) (e.now - e.count % b.trendNs)
    else match b.twin.seamE with
      | some ts => if b.role = .active then b.seamPart e n ts inc else b
      | none => b)

/-- BLULI_LEDGER_RECORD (R444): a STANDBY module takes the ACTIVE module's; an ACTIVE module writes a shared record, other than a
block, that has arisen in its partner. -/
def execBluliLedgerRecord (units : List Nat) (s : State) : Out :=
  .next (s.onFrame fun e b =>
    let typ := units.headD 0 / 2 ^ 120 % 256
    if b.role = .standby || (b.role = .active && typ ≠ 0x10) then b.takeRecord e units else b)

/-- BLULI_BULK_SYNC (R470): pieces of the mirror, and the progress. -/
def execBluliBulkSync (ms : List MirrorItem) (pct : Nat) (s : State) : Out :=
  .next (s.onFrame fun e b => if b.mirrors then (ms.foldl (fun b m => b.mirror e m) b).wr .twinSyncPct 0 (min 100 pct) else b)

/-- The FE dies load the configuration that HUB holds (R470). -/
def Body.loadDies (b : Body) : Body :=
  b.forEach (List.range 8) fun k b => (b.onDie k fun d => { d with regs := b.loadedRegs k }).loadLadder k

/-- BULK_SYNC_COMPLETE (R470). -/
def execBulkSyncComplete (s : State) : Out :=
  .next (s.onBody fun _ b =>
    if b.mirrors then
      ({ b.loadDies.wr .twinSyncPct 0 100 with boot := { b.boot with imaged := true } } : Body).onTwin fun t => { t with synced := true }
    else b)

/-- The partner asks for the frames from one SEQ on: that frame and every later one are repeated in their order (R454). -/
def Body.repeatFrom (q : Nat) (b : Body) : Body :=
  b.onTwin fun t => { t with resent := t.sent.dropWhile fun f => decide (f.seq ≠ q) }

/-- BLULI_RETRANSMIT (R454): the partner's request for the frames from one SEQ on arrives; or this receiver, which has found a CRC error or
a gap in SEQ, asks for those after the last one it has taken. -/
def execBluliRetransmit (q : Option (Fin 65536)) (s : State) : Out :=
  .next (s.onBody fun _ b =>
    if b.hubDown then b
    else match q with
      | some q => b.rxBluli.repeatFrom q
      | none => (b.bump .twinLinkRetries).sendBluli 9 [(b.twin.rxSeq + 1) % 65536])

/-- LANE_DOWN (R454). -/
def execLaneDown (i : Fin 2) (s : State) : Out :=
  .next (s.onBody fun _ b => (b.wr .twinLinkLaneUp 0 (clearBit (b.rd .twinLinkLaneUp) i)).raise (7, 6 + i))

/-- LANE_UP (R454). -/
def execLaneUp (i : Fin 2) (s : State) : Out :=
  .next (s.onBody fun _ b => b.wr .twinLinkLaneUp 0 (setBit (b.rd .twinLinkLaneUp) i))

/-- The loop snapshot of channel n (R456). -/
def Body.snapOf (e : Env) (b : Body) (n : Nat) : Snap :=
  let g := b.en n
  { t := e.now, ref := g.ref, rNum := g.rNum, rDen := g.rDen, rFall := g.rFall, rampEnd := g.rampEnd, partialRamp := (b.ch (b.leadOf n)).partialRamp
    limNs := g.limFrom.map (e.now - ·), feNs := g.feSince.map (e.now - ·), stallNs := g.stallNs, episode := g.episode
    epiRun := g.epiRun, x := g.x, poles := g.poles, win := g.win }

/-- What a snapshot frame carries (R456). -/
def Snap.words (n : Nat) (x : Snap) : List Nat :=
  [n, x.t, ofSigned 41 x.ref, x.rNum, x.rDen, bit x.rFall, bit x.rampEnd, bit x.partialRamp, x.limNs.getD 0, bit x.limNs.isSome,
    x.feNs.getD 0, bit x.feNs.isSome, x.stallNs, x.episode, bit x.epiRun, x.win] ++ x.x.map (ofSigned 41) ++ x.poles.map (ofSigned 64)

/-- Snapshots of channels are taken, and sent to the partner (R456). -/
def Body.sendSnaps (e : Env) (ns : List Nat) (b : Body) : Body :=
  let xs := ns.map fun n => (n, b.snapOf e n)
  let b := b.onTwin fun t => { t with snapOut := t.snapOut.filter (fun p => !ns.contains p.1) ++ xs }
  xs.foldl (fun b p => b.sendBluli 3 (p.2.words p.1)) b

/-- LOOP_SNAPSHOT (R456): die k takes the snapshots of its channels, every 51.2 µs. -/
def execLoopSnapshot (k : DieIx) (s : State) : Out :=
  if s.body.role ≠ .active then .next s
  else .next ((s.goTo (nextMultiple s.time.elapsed 51200)).onHub fun e b =>
    if (b.fe k).joined then b.sendSnaps e (dieChannels k) else b)

/-! ### The gates change hands (R462, R463, R466) -/

/-- A Seam at this module, planned or taken over: unlocks clear, a session ends, the leaf and the counts (R353, R462, R476, R499). -/
def Body.seamMark (e : Env) (cause : Nat) (planned : Bool) (b : Body) : Body :=
  let b := ((b.calInterrupt e).wr .modExpertUnlock 0 0).wr .twinSeaminfoCause 0 cause
  let b := { b with boot := { b.boot with unlockEnd := none } }
  let b := (b.bump (if planned then .twinSeamcntPlanned else .twinSeamcntUnplanned)).wr .twinStatTakeover 0 (bit (!planned))
  (b.wr .twinLastseamTime 0 e.count).raise (7, 5)

/-- A channel shown HELD for the Seam has its own state again (R69, R462). -/
def Chan.unheld (c : Chan) : Chan :=
  if c.state = .held then
    match c.holds.filter (· ≠ 0x34) with
    | [] => if c.holds.contains 0x34 then
        { c with state := c.prior, reason := c.priorReason, prior := .empty, holds := [] } else c
    | h :: r => { c with holds := h :: r, reason := h }
  else c

/-- The recorded events of a channel that is no longer held act in their order (R69). -/
def Body.replay (e : Env) (l : Nat) (b : Body) : Body :=
  let evs := (b.ch l).heldEvs
  evs.foldl (fun b x => b.applyEv e l x.1 x.2) (b.onCh l fun c => { c with heldEvs := [] })

/-- The driver of channel n takes its gate by the channel's state; winner filters restart where no shadow cycle has done it, and the open
interval begins at an instant (R462 to R464). -/
def Body.takeGate (start n : Nat) (b : Body) : Body :=
  let st := (b.ch (b.leadOf n)).state
  let shadowed := b.twin.shadow.contains (b.leadOf n)
  (b.onEng n fun g =>
    { g with wins := if shadowed then g.wins else [], freeWins := if shadowed then g.freeWins else 0, hiZAfter := false
             gate := if st.driven && !g.tripLatch then .driven else g.offGate }).onPath n fun m =>
      { m.restart with openT := start, cur := b.newSum n }

/-- Ticks of the timers up to a tick, by their number. -/
def Body.ticks (e : Env) : Nat → Body → Body
  | 0, b => b
  | c + 1, b => Body.ticks e c (b.tick e)

/-- The mirrored timers take every tick since the last one of the outgoing module (R465). -/
def Body.catchUp (e : Env) (b : Body) : Body :=
  if (regEntries b.regs .tmrCtrlRun).isEmpty && b.tmr.resets.isEmpty && b.tmr.starts.isEmpty then
    b.onTmr fun t => { t with tick := max t.tick (e.now / 1000) }
  else Body.ticks e (e.now / 1000 - b.tmr.tick) b

/-- The incoming module takes every gate (R462, R463, R466, R578); its role has changed, and the trend interval and the block show
the Seam. The interval that contains T_S begins at its boundary at a planned Seam, at T_S at a takeover (R464, R466). -/
def Body.takeGates (e : Env) (planned : Bool) (b : Body) : Body :=
  let start := if planned then e.now - e.count % b.trendNs else e.now
  let b := (b.lowPower e false).loadLadders
  let freed := b.leaders.filter fun l => (b.ch l).state = .held && (b.ch l).holds = [0x34]
  let b := b.forEach (List.range 128) fun n b => b.onCh n Chan.unheld
  let b := b.forEach b.leaders fun l b => b.advance e l
  let b := (b.forEach (List.range 128) fun n b => b.takeGate start n).onTwin fun t => { t with shadow := [] }
  let b := b.forEach ((List.range 128).filter fun n => (b.ch (b.leadOf n)).holds.contains 0x37) fun n b =>
    b.onEng n fun g => { g with x := [0, 0, 0, 0, 0] }
  let b := b.forEach (freed.filter fun l => (b.ch l).state.driven) fun l b =>
    b.onCh l fun c => { c with busOut := b.excursion e l, busQual := false }
  let b := b.forEach freed fun l b => b.replay e l
  let tripped := b.leaders.filter fun l => (b.ch l).eff.driven && (b.membersOf l).any fun m => (b.en m).tripLatch
  let b := b.forEach tripped fun l b => b.deliver e l (.trip 0x10) e.now
  let b := b.forEach ((List.range 128).filter fun n => (b.ch n).holds.contains 0x37) fun n b => b.deliver e n (.release 0x37) e.now
  let b := b.forEach ((List.range 128).filter fun n => (b.ch n).holds.contains 0x33 && (b.fe (dieOf n)).joined) fun n b =>
    b.deliver e n (.release 0x33) e.now
  let b := ((b.onTmr fun t => { t with recovEnd := e.now + 10000000000 }).catchUp e).markBlk 11
  b.onRcd fun r => { r with trMeta := (r.trMeta.1, r.trMeta.2.1, orBits r.trMeta.2.2 8) }

/-- The STANDBY module takes over at the loss of the heartbeat (R466); the GAP covers the trend after the last stripe that the
partner has reported written (R445), and the pair pointers are invalid (R547). -/
def Body.takeover (e : Env) (b : Body) : Body :=
  let cause := 6
  let b := ((b.setRole e .solo).onTwin fun t => { t with seam := none }).seamMark e cause false
  let b := (b.wr .hpStatPairValid 0 0).wr .hpStatPairValid 1 0
  let b := ((b.wr .twinSeaminfoGapMax 0 0xFFFF).wr .twinStatSeamRun 0 0).raise (7, 1)
  let b := b.event e.count 0x0200 0xFF cause (b.twin.pSlot * 2 ^ 16 + b.rd .twinStatSlot) (0xFFFF * 10)
  let t := b.twin.trendTill.getD (e.count - e.count % b.trendNs, e.now - e.count % b.trendNs)
  (b.gap 1 6 t.1 e.count (e.now - t.2) 0 0 (2 ^ 128 - 1)).takeGates e false

/-! ### Loss of the partner (R451, R466, R468) -/

/-- Release the hold that the outgoing module shows (R69). -/
def Body.endHandover (e : Env) (b : Body) : Body :=
  b.forEach ((List.range 128).filter fun n => (b.ch n).holds.contains 0x34) fun n b => b.deliver e n (.release 0x34) e.now

/-- The record of a planned Seam, which the incoming module writes (R475). -/
def Body.seamRecord (e : Env) (m : Seam) (b : Body) : Body :=
  b.event e.count 0x0200 0xFF m.cause (b.twin.pSlot * 2 ^ 16 + b.rd .twinStatSlot) (b.rd .twinSeaminfoGapMax * 10)

/-- An ACTIVE module goes on alone (R451): a Seam that runs ends, recorded where this module has taken the gates; the hold that the outgoing
module shows is released, and a module that had left its gates takes them again. -/
def Body.alone (e : Env) (b : Body) : Body :=
  let b := match b.twin.seam with
    | some m => if m.passedS && !m.out then b.seamRecord e m else b
    | none => b
  let left := b.twin.left
  let b := (b.onTwin fun t => { t with seam := none, left := false }).wr .twinStatSeamRun 0 0
  let b := (b.endHandover e).setRole e .solo
  if left then (b.wr .twinStatPairAddr 0 1).takeGates e true else b

/-- There is no partner any more (R451, R466, R468). -/
def Body.partnerGone (e : Env) (b : Body) : Body :=
  match b.role with
  | .active => (b.alone e).raise (7, 1)
  | .standby =>
    if b.flag .twinStatReady then b.takeover e
    else (((b.onTwin fun t => { t with txT := some e.now, heard := false, seam := none }).wr .twinStatSeamRun 0 0).setRole e .starting).lowPower e
      false
  | _ => b

/-- Nothing of the partner shows (R476). -/
def Body.noPartner (b : Body) : Body :=
  let b := ((b.wr .twinStatHbOk 0 0).wr .twinStatPartnerRole 0 0xF).wr .twinStatPartnerReady 0 0
  b.forEach (List.range 4) fun i b => b.wr .twinPartnerSnBytes i 0

/-- The partner's heartbeat is lost; the age of the latest one goes on (R455). -/
def Body.hbLost (e : Env) (b : Body) : Body := b.noPartner.partnerGone e

/-! ### Heartbeats (R451, R455, R457) -/

/-- What a heartbeat brings by this module's role; one that carries BENCH or STARTING counts as no partner (R451). -/
def Body.hbRole (e : Env) (h : Heartbeat) (b : Body) : Body :=
  match b.role with
  | .starting =>
    if !b.flag .twinStatSeated || b.health.lvl = 4 then b
    else match h.role with
      | .solo | .active => b.joinPartner e
      | .starting => if b.rd .twinStatSlot = 0 then b.becomeSolo e else b
      | _ => b
  | .solo =>
    if h.role = .standby && h.ready then (b.setRole e .active).raise (7, 2) else b
  | .active =>
    if h.role = .bench || h.role = .starting then b.partnerGone e else if h.leaving then b.alone e else b
  | .standby => if h.role = .bench || h.role = .starting then b.partnerGone e else b
  | .bench => b

/-- The frames up to one SEQ have been received (R455). -/
def ackTo (q : Nat) (fs : List BFrame) : List BFrame :=
  if fs.any fun f => f.seq = q then (fs.dropWhile fun f => decide (f.seq ≠ q)).drop 1 else fs

/-- A heartbeat is taken; the first one that a STANDBY module has of its partner brings the comparison of the digests (R470). -/
def Body.hbTake (e : Env) (h : Heartbeat) (b : Body) : Body :=
  let first := !b.flag .twinStatHbOk
  let b := ((b.wr .twinStatHbOk 0 1).wr .twinStatPartnerRole 0 h.role.code).wr .twinStatPartnerReady 0 (bit h.ready)
  let b := b.onTwin fun t =>
    { t with hbT := some e.now, pSlot := h.slot % 2, pTakeover := h.takeover, pLeft := h.leaving, pDigest := h.digest
             sent := ackTo h.seq t.sent, heard := t.heard || (t.txT.isSome && decide (h.role ≠ .bench)) }
  let b := if first && b.role = .standby then b.compareStarch e else b
  b.hbRole e h

/-- What a heartbeat frame carries (R455). -/
def Heartbeat.words (h : Heartbeat) : List Nat :=
  [h.role.code, bit h.ready, h.slot, bit h.takeover, bit h.leaving, h.count, h.seq] ++ h.digest

/-- This module's heartbeat, every 10 µs from the start of its transmitters on; after one with LEAVING there is none (R451, R455, R469).
DESIGN CHOICE (log 221): it is formed where time passes with no command waiting, and at a heartbeat received. -/
def Body.beat (e : Env) (b : Body) : Body :=
  let due := match b.twin.hbOut with
    | some p => decide (p.1 + 10000 ≤ e.now)
    | none => true
  if b.hubDown || b.twin.txT.isNone || b.twin.silent || !due then b
  else
    let h : Heartbeat := ⟨b.role, b.flag .twinStatReady, b.rd .twinStatSlot, b.flag .twinStatTakeover, b.twin.leaving, e.count,
      hashUnits (starchDigest e.map), b.twin.rxSeq⟩
    (b.sendBluli 1 h.words).onTwin fun t => { t with hbOut := some (e.now, h), silent := t.leaving }

/-- A STANDBY module's count follows the partner's; at its entry, or where they differ by more than 1 µs, that is a step with
CAUSE 6 (R457). -/
def State.follow (entered : Bool) (c : Nat) (s : State) : State :=
  let d : Int := (c : Int) - (s.time.count : Int)
  if d = 0 then s
  else if entered || decide (1000 < d.natAbs) then s.stepBy (.delta d) 6
  else { s with time := { s.time with count := c % 2 ^ 64 }, body := s.body.stepMarks d }

/-- A heartbeat is received, and the count follows the partner's in STANDBY (R455, R457). -/
def State.heartbeat (h : Heartbeat) (s : State) : State :=
  let s' := s.onFrame fun e b => (b.hbTake e h).beat e
  if s'.body.role = .standby then s'.follow (decide (s.body.role ≠ .standby)) h.count else s'

/-- This module gives way when the link returns after a split: the one with TAKEOVER, between equals the one in slot 1 (R468). -/
def Body.givesWay (b : Body) : Bool :=
  let own := b.flag .twinStatTakeover
  if own = b.twin.pTakeover then decide (b.rd .twinStatSlot ≠ 0) else own

/-- SPLIT_RESOLVE (R468): each module receives a heartbeat that carries SOLO; the other one keeps control. -/
def Body.splitResolve (e : Env) (b : Body) : Body :=
  if b.role ≠ .solo || !b.flag .twinStatHbOk || b.rd .twinStatPartnerRole ≠ 1 || !b.givesWay then b
  else
    let first := b.twin.splitBlk
    let last := b.rd .recNextblkNo - 1
    let b := b.gap 2 6 (e.countAt b.twin.splitT) e.count (e.now - b.twin.splitT) first last 0
    let b := b.event e.count 0x0203 0xFF first last (e.now - b.twin.splitT)
    (((b.enterStandby e false).seamMark e 7 true).wr .twinStatTakeover 0 0).wr .recNextblkNo 0 first

/-- SPLIT_RESOLVE (R468). -/
def execSplitResolve (s : State) : Out := .next (s.onHub fun e b => b.splitResolve e)

/-! ### The planned Seam (R462) -/

/-- This module accepts a request and sends it to its partner (R462). -/
def Body.seamStart (e : Env) (cause : Nat) (b : Body) : Body :=
  if b.twin.seam.isSome || !b.flag .twinStatHbOk || (cause = 1 && b.flag .twinCtrlLock) then b
  else ((b.onTwin fun t => { t with seam := some ⟨cause, true, e.now, none, false, false⟩ }).wr .twinStatSeamRun 0 1).sendBluli 7 [0, cause]

/-- A request to the ACTIVE module (R462). -/
def Body.seamRequest (e : Env) (cause : Nat) (b : Body) : Body := if b.role = .active then b.seamStart e cause else b

/-- The cause of a request that no host or session makes holds (R462, R469, R472, R578). -/
def Body.causeHolds (b : Body) (cause : Nat) : Bool :=
  match cause with
  | 2 => !b.flag .twinStatSeated
  | 4 => decide (b.health.lvl = 4)
  | 5 => (List.range 8).any fun k => (b.fe k).stuckT.isSome
  | _ => false

/-- SEAM_REQUEST (R462): causes 2, 4 and 5; a refused request of cause 2 or 4 is repeated every 1 ms. -/
def execSeamRequest (cause : Nat) (s : State) : Out :=
  if !s.body.causeHolds cause then .next s
  else
    let t := match s.body.twin.refT with
      | some r => if cause = 5 then s.time.elapsed else r + 1000000
      | none => s.time.elapsed
    .next ((s.goTo t).onHub fun e b => b.seamRequest e cause)

/-- This module refuses as the incoming one, or learns that its partner has refused (R462). -/
def Body.seamRefused (e : Env) (cause code : Nat) (b : Body) : Body :=
  let b := (((b.wr .twinStatRefuse 0 code).raise (7, 3)).onTwin fun t => { t with seam := none, refT := some e.now, swapReq := t.swapReq && cause ≠ 3 }).wr .twinStatSeamRun 0 0
  if cause = 3 then b.wr .metaCalstatSwapRefused 0 1 else b

/-- T_P and T_S are fixed: the outgoing module shows every channel HELD with HANDOVER (R69, R462). -/
def Body.seamAccepted (e : Env) (tp ts : Nat) (b : Body) : Body :=
  match b.twin.seam with
  | some s =>
    if !s.out || s.plan.isSome then b
    else
      let b := b.onTwin fun t => { t with seam := some { s with plan := some (e.now + (tp - e.count), e.now + (ts - e.count)) } }
      b.forEach b.leaders fun n b => b.deliver e n (.hold 0x34) e.now
  | none => b

/-- The partner asks: a STANDBY module takes the Seam or refuses; an ACTIVE one starts it (cause 3, R355). -/
def Body.seamAsked (e : Env) (cause : Nat) (b : Body) : Body :=
  if b.role = .active then b.seamRequest e cause
  else if b.role ≠ .standby then b
  else
    let r := b.seamRefusal cause
    if r ≠ 0 then (b.seamRefused e cause r).sendBluli 7 [2, r]
    else ((b.onTwin fun t => { t with seam := some ⟨cause, false, e.now, some (e.now + 10000, e.now + 60000), false, false⟩,
                                      swapReq := t.swapReq && cause ≠ 3 }).wr
      .twinStatSeamRun 0 1).sendBluli 7 [1, e.count + 10000, e.count + 60000]

/-- This module is the incoming one of a Seam that runs. -/
def Body.takesGates (b : Body) : Bool :=
  match b.twin.seam with
  | some m => !m.out
  | none => false

/-- The pair pointer of a port: the pointer word, and whether it is valid (R547). -/
def Body.pairPtr (p w : Nat) (valid : Bool) (b : Body) : Body :=
  ((b.wr .hpPtrPairAddr (p % 2) (w / 4)).wr .hpPtrPairDesc (p % 2) (w % 2)).wr .hpStatPairValid (p % 2) (bit valid)

/-- BLULI_SEAM_CONTROL (R462, R464). -/
def execBluliSeamControl (m : SeamMsg) (s : State) : Out :=
  .next (s.onFrame fun e b =>
    match m with
      | .request c => b.seamAsked e c
      | .accept tp ts => b.seamAccepted e tp ts
      | .refuse c =>
        (match b.twin.seam with
          | some sm => if sm.plan.isSome then b else b.seamRefused e sm.cause c
          | none => if b.role = .standby && b.twin.swapReq then b.seamRefused e 3 c else b)
      | .pointers ps => if b.role = .standby || b.takesGates then ps.foldl (fun b p => b.pairPtr p.1 p.2.1 p.2.2) b else b
      | .gap g => b.wr .twinSeaminfoGapMax 0 (min 0xFFFF g))

/-- SEAM_T_P (R462): the outgoing dies take the final snapshot of each channel. -/
def execSeamTP (s : State) : Out :=
  match s.body.twin.seam with
  | some m =>
    match m.plan, m.passedP with
    | some (tp, _), false => .next ((s.goTo tp).onHub fun e b =>
        let b := b.onTwin fun t => { t with seam := some { m with passedP := true } }
        if m.out then b.sendSnaps e ((List.range 128).filter fun n => (b.fe (dieOf n)).joined)
        else (b.onTwin fun t => { t with shadow := [] }).lowPower e false)
    | _, _ => .next s
  | none => .next s

/-- The pair pointers of both ports, as a Seam control frame carries them (R547). -/
def Body.pairWords (b : Body) : List Nat :=
  3 :: [0, 1].flatMap fun p => [p, 4 * b.rd .hpPtrPairAddr p + b.rd .hpPtrPairDesc p, b.rd .hpStatPairValid p]

/-- The outgoing module leaves its gates at T_S; the pair pointers and its part of the open interval go to the partner (R462, R464,
R547). -/
def Body.leaveGates (e : Env) (b : Body) : Body :=
  let parts := ((List.range 128).filter b.meters).map fun n => (n, (b.en n).m.cur.e)
  let b := (b.toHiZ.onTwin fun t => { t with left := true, heldWrites := [] }).wr .twinStatPairAddr 0 0
  let b := parts.foldl (fun b p => b.sendBluli 4 [p.1, ofSigned 128 p.2]) (b.sendBluli 7 b.pairWords)
  b.forEach (List.range 128) fun n b => b.onPath n fun m => { m.restart with openT := e.now, cur := b.newSum n }

/-- The incoming module becomes ACTIVE at T_S (R462, R464, R474). -/
def Body.seamTake (e : Env) (b : Body) : Body :=
  ((((b.setRole e .active).wr .twinStatPairAddr 0 1).onTwin fun t => { t with seamE := some e.now }).takeGates e true)

/-- T_S comes (R462). -/
def Body.seamS (e : Env) (m : Seam) (b : Body) : Body :=
  let b := (b.onTwin fun t => { t with seam := some { m with passedS := true } }).seamMark e m.cause true
  if m.out then b.leaveGates e else b.seamTake e

/-- The Seam is over: the outgoing module becomes STANDBY, the incoming one writes the record (R462, R475). -/
def Body.seamEnd (e : Env) (m : Seam) (b : Body) : Body :=
  let b := (b.onTwin fun t => { t with seam := none }).wr .twinStatSeamRun 0 0
  if m.out then
    let b := b.enterStandby e true
    if b.flag .twinStatSeated then b else b.onTwin fun t => { t with leaving := true }
  else (b.seamRecord e m).sendBluli 7 [4, b.rd .twinSeaminfoGapMax]

/-- SEAM_CONFIRM (R462): at T_S + 10 µs every outgoing driver has been confirmed high-impedance. -/
def execSeamConfirm (s : State) : Out :=
  match s.body.twin.seam with
  | some m =>
    match m.plan, m.passedS with
    | some (_, ts), true => .next ((s.goTo (ts + 10000)).onHub fun e b => b.seamEnd e m)
    | _, _ => .next s
  | none => .next s

/-! ### Host commands (R467) -/

/-- HANDOVER: the ACTIVE module requests a Seam with cause 1. -/
def Body.handover (e : Env) (b : Body) : Body := if b.unlocked 9 then b.seamRequest e 1 else b

/-- HANDOVER (R467). -/
def execHandover (s : State) : Out := .next (s.onHub fun e b => b.handover e)

/-- STANDDOWN: with a partner heartbeat it acts as HANDOVER; without one the SOLO module
becomes STANDBY with READY 0. -/
def Body.standdown (e : Env) (b : Body) : Body :=
  if !b.unlocked 9 || b.role ≠ .solo then b
  else if b.partner then b.seamStart e 1
  else b.enterStandby e false

/-- STANDDOWN (R467). -/
def execStanddown (s : State) : Out := .next (s.onHub fun e b => b.standdown e)

/-- The role is one that acknowledges the pair address (R450, R474). -/
def Role.pairs : Role → Bool
  | .solo | .active | .bench => true
  | .starting | .standby => false

/-- PAIR_ADDR_ARM (R474): a transaction to the pair address has been left unacknowledged by every device. -/
def execPairAddrArm (s : State) : Out :=
  .next (s.onHub fun _ b => if b.role.pairs && !b.twin.left && b.flag .twinStatTakeover then b.wr .twinStatPairAddr 0 1 else b)

/-! ### The module's seat (R469) -/

/-- A contact makes or opens. -/
def Body.seatContact (e : Env) (i : Nat) (made : Bool) (b : Body) : Body :=
  b.onTwin fun t =>
    let set := fun (o : Option Nat) => if made then none else some (o.getD e.now)
    let t := if i = 0 then { t with openA := set t.openA } else { t with openB := set t.openB }
    { t with madeT := if t.openA.isNone && t.openB.isNone then some (t.madeT.getD e.now) else none }

/-- MOD_SEAT_CONTACT (R469). -/
def execModSeatContact (i : Fin 2) (made : Bool) (s : State) : Out := .next (s.onBody fun e b => b.seatContact e i made)

/-- MOD_SEAT_QUAL (R469): both contacts made for 20 ms; what the latest heartbeat asks of a STARTING module follows (R451). -/
def execModSeatQual (s : State) : Out :=
  match s.body.twin.madeT with
  | some t =>
    .next ((s.goTo (t + 20000000)).onHub fun e b =>
      let b := (b.wr .twinStatSeated 0 1).onTwin fun t => { t with leaving := false, silent := false }
      match roleOf (b.rd .twinStatPartnerRole), b.flag .twinStatHbOk with
      | some r, true => b.hbRole e ⟨r, b.flag .twinStatPartnerReady, b.twin.pSlot, b.twin.pTakeover, false, 0, b.twin.pDigest, 0⟩
      | _, _ => b)
  | none => .next s

/-- The instant since which a contact has been open. -/
def Twin.openSince (t : Twin) : Option Nat :=
  match t.openA, t.openB with
  | some x, some y => some (min x y)
  | some x, none => some x
  | none, y => y

/-- MOD_SEAT_LOSS (R469): a contact open for 50 µs. -/
def execModSeatLoss (s : State) : Out :=
  match s.body.twin.openSince, s.body.flag .twinStatSeated with
  | some t, true => .next ((s.goTo (t + 50000)).onHub fun e b =>
      let b := b.wr .twinStatSeated 0 0
      match b.role with
      | .active => b.seamRequest e 2
      | .standby => b.onTwin fun t => { t with leaving := true }
      | _ => b)
  | _, _ => .next s

end Sys2Proof.Machine
end

