-- ==== Sys2Proof/Machine/Access.lean ====
section
/-!
DEFINITION. The address space (R4 to R11, R560): which fields a word holds, how a word is read and written by access type
(R6), and what a write or a read of an FE-held word does at its die (R31 to R37).
-/

namespace Sys2Proof.Machine

open Sys2Proof

/-! ### Addresses (R560) -/

/-- The fields of the region of an address; none outside every region. -/
def regionFlds (a : Nat) : List Fld :=
  if a < 0x1000 then fldsMod
  else if a < 0x2000 then fldsStarch
  else if a < 0x3000 then fldsTwin
  else if a < 0x6000 then fldsTb ++ fldsTmr ++ fldsFan
  else if a < 0x7000 then fldsHealth
  else if a < 0x8000 then fldsHost
  else if a < 0x9000 then fldsFeeder
  else if a < 0xA000 then fldsBudget
  else if a < 0xB000 then fldsRec
  else if a < 0xC000 then fldsMeta
  else if a < 0xD000 then fldsAlert
  else if a < 0x10000 then []
  else if a < 0x20000 then fldsCh
  else if a < 0x28000 then fldsFe
  else if a < 0x30000 then []
  else if a < 0x31000 then fldsEnergy
  else if a < 0x80000 then []
  else if a < 0x88000 then fldsGaintab ++ fldsThtab
  else []

/-- The address lies in a region of R560. -/
def inRegion (a : Nat) : Bool :=
  decide (a < 0xD000) || (decide (0x10000 ≤ a) && decide (a < 0x28000)) || (decide (0x30000 ≤ a) && decide (a < 0x31000)) ||
    (decide (0x80000 ≤ a) && decide (a < 0x88000)) || (decide (0x100000 ≤ a) && decide (a < 0x180000))

/-- The registers of a field that an address names: its index and the word of the quantity. -/
def Fld.hit (f : Fld) (a : Nat) : Option (Nat × Nat) :=
  let r := f.row
  let o := a - r.base
  let n := 4 * (r.hi / 32 + 1)
  if a < r.base then none
  else match r.dims with
    | [] => if o < n then some (0, o / 4) else none
    | [(m, s)] => if o / s < m ∧ o % s < n then some (o / s, o % s / 4) else none
    | (m, s) :: (m2, s2) :: _ =>
      if o / s < m ∧ o % s / s2 < m2 ∧ o % s % s2 < n then some (o / s * m2 + o % s / s2, o % s % s2 / 4) else none

/-- The fields of the word at an address: field, index, word of the quantity. -/
def hits (a : Nat) : List (Fld × Nat × Nat) :=
  (regionFlds a).filterMap fun f => (f.hit (a / 4 * 4)).map fun h => (f, h)

/-- The bits that a field's value puts into word w of its quantity. -/
def Fld.part (f : Fld) (w v : Nat) : Nat := v * 2 ^ f.row.lo / 2 ^ (32 * w) % 2 ^ 32

/-- A field's value after word w of its quantity is written. -/
def Fld.taken (f : Fld) (w old word : Nat) : Nat :=
  if f.row.hi < 32 then bits word f.row.hi f.row.lo
  else old - f.part w old * 2 ^ (32 * w) + word % 2 ^ 32 * 2 ^ (32 * w)

/-- A value held to the range of its field: below it the lowest, above it the highest (R608); STAGE_V is 0 or 240 to 540
(R262). -/
def Fld.clampTo (f : Fld) (v : Nat) : Nat :=
  match f with
  | .budgetHustageStageV => if v = 0 then 0 else max 240 (min 540 v)
  | f => max f.row.rmin (min f.row.rmax v)

/-- The bits of a field in word w. -/
def Fld.asked (f : Fld) (w word : Nat) : Nat := if f.row.hi < 32 then bits word f.row.hi f.row.lo else if w = 0 then word else 0

/-! ### FE-held words (R31 to R37) -/

/-- The address is held in the FE dies: FE[k] and the trace windows (R31). -/
def feHeld (a : Nat) : Bool :=
  (decide (0x20000 ≤ a) && decide (a < 0x28000)) || (decide (0x100000 ≤ a) && decide (a < 0x180000))

/-- The die of an FE-held address. -/
def feOf (a : Nat) : Nat := if a < 0x28000 then (a - 0x20000) / 0x1000 else (a - 0x100000) / 0x10000

/-- FE-held fields that need no unlock: the trace set-up, bench points and zeros, CONVCTL (R123, R303, R376). -/
def Fld.feBasic (f : Fld) : Bool :=
  match f with
  | .feTrctlDiv | .feTrctlPre | .feTrtrigTsrc | .feTrtrigTchan | .feTrtrigTwin | .feTrtrigTedge | .feTrtrigXout
  | .feTrtrigTlevel | .feTrselNode | .feTrselLch | .feBzeroZero | .feBpts0En | .feBpts1En | .feConvctlNavg | .feConvctlSrc
  | .feConvctlInput => true
  | _ => false

/-- Fields that a write at the die cannot change now: the trace set-up while ARMED is 1 (R123), bench points and zeros outside
BENCH or during a scan (R376), expert-level fields without the unlock (R303). -/
def Body.feShut (b : Body) (k : Nat) (unlocked : Bool) (f : Fld) : Bool :=
  if !f.feBasic then !unlocked
  else match f with
    | .feBzeroZero | .feBpts0En | .feBpts1En => b.role ≠ .bench || (b.fe k).urg.run = some .bench
    | .feConvctlNavg | .feConvctlSrc | .feConvctlInput => false
    | _ => b.drd k .feTrctlArmed k = 1

/-- A window pair that would have WLO above WHI is ignored (R322). -/
def Body.badWindow (b : Body) (k : Nat) (f : Fld) (i v : Nat) : Bool :=
  match f with
  | .fuWloLevel => decide (toSigned 24 (b.drd k .fuWhiLevel i) < toSigned 24 v)
  | .fuWhiLevel => decide (toSigned 24 v < toSigned 24 (b.drd k .fuWloLevel i))
  | _ => false

/-- A field of a host write as the die stores it: a code taken as another stays as written; a change of a field that the image
loads is an override (R500). -/
def Body.feField (k : Nat) (unlocked : Bool) (word : Nat) (h : Fld × Nat × Nat) (b : Body) : Body :=
  let f := h.1
  let i := h.2.1
  match f.row.acc with
  | .rw =>
    let v := f.clampTo (f.taken h.2.2 (b.drd k f i) word)
    if b.feShut k unlocked f || b.badWindow k f i v then b
    else
      let b := if f.feBasic || b.drd k f i = v then b else b.wr .modImgstatOverridden 0 1
      let b := b.dwr k f i v
      if f = .fuFcfgWen && v = 0 then b.dwr k .fuFresOutside i 0 else b
  | .w1c => b.dwr k f i (andNot (b.drd k f i) (f.asked h.2.2 word))
  | _ => b

/-- A command bit of an FE-held word is written as 1. -/
def Body.feAct (e : Env) (k : Nat) (word : Nat) (h : Fld × Nat × Nat) (b : Body) : Body :=
  if h.1.asked h.2.2 word = 0 then b
  else match h.1 with
    | .feTrctlArm => b.trArm k
    | .feTrctlForce => if bitAt word 24 then b else b.trForceNow e k
    | .feConvctlGo => b.convRequest e k
    | .feCapctlForce => b.capture e k 0 0
    | .feCapctlAbort => b.capAbort k
    | _ => b

/-- A host write of an FE-held word is applied at die k: its fields, then its command bits (R33, R123). -/
def Body.feWrite (e : Env) (k a word : Nat) (unlocked : Bool) (b : Body) : Body :=
  let hs := hits a
  hs.foldl (fun b h => b.feAct e k word h) (hs.foldl (fun b h => b.feField k unlocked word h) b)

/-- A filter's parameters or an entry's input have been replaced: a disturbance (R283). -/
def Body.filterChange (k key : Nat) (b : Body) : Body :=
  let i := key / 1024
  match keyFld key with
  | .fuFcfgOrder | .fuFcfgSettle | .fuFcfgRatio | .fuFcfgWen | .fuFcfgWhyst => b.disturb k (i % 80)
  | .feEntryInput => b.disturb k (16 + i % 64)
  | _ => b

/-- Apply one message at die k (R33, R117). -/
def Body.applyDown (e : Env) (k : Nat) (m : DownMsg) (b : Body) : Body :=
  match m with
  | .fields _ kvs =>
    kvs.foldl (fun b kv => b.filterChange k kv.1)
      (b.onDie k fun d => { d with regs := kvs.foldl (fun r kv => regSetKey r kv.1 kv.2) d.regs })
  | .hostWrite a v u => b.feWrite e k a v u
  | .state _ _ _ | .grant _ | .trip _ | .release _ _ => b.actDie e m

/-- Apply every message that waits for die k, in order, and acknowledge it (R33, R34, R37). -/
def Body.drain (e : Env) (k : Nat) (b : Body) : Body :=
  let ms := (b.fe k).down
  (ms.foldl (fun b m => b.applyDown e k m) ((b.onDie k fun d => { d with down := [] }).framed k false (ms.map DownMsg.frame))).framed
    k true (ms.map fun _ => (4, []))

end Sys2Proof.Machine
end

