-- ==== Sys2Proof/Machine/Die.lean ====
section
/-!
DEFINITION. Resets of the front-end dies (R471, R472, R586), gate keep (R461), and the frames of the internal channel links
(R25, R29, R33, R37, R38, R125).
-/

namespace Sys2Proof.Machine

open Sys2Proof

/-! ### Die reset (R471) -/

/-- The leaders of the channels of die k. -/
def Body.dieLeaders (b : Body) (k : Nat) : List Nat := (dieChannels k).filter fun n => b.leadOf n = n

/-- Gate keep of die k: every gate that is commanded keeps its charge (R461). -/
def Body.enterKeep (k : Nat) (till : Option Nat) (b : Body) : Body :=
  let b := b.onDie k fun d => { d with keep := true, keepEnd := till }
  b.forEach (dieChannels k) fun n b => b.onEng n fun g => if g.gate.live then { g with gate := .keep } else g

/-- The reply to a host's read. -/
def UpMsg.isReply : UpMsg → Bool
  | .readReply _ _ _ => true
  | .event _ _ _ | .ack => false

/-- What the reset ends inside the die: urgent requests, filters of its own timers, samples that wait, registers that it does not keep
(R471). -/
def Body.dieStops (k : Nat) (b : Body) : Body :=
  let b := b.onRcd fun r => { r with caps := r.caps.map fun (c : Cap) =>
    if c.die = k then { c with ended := true, cut := c.cut || !c.ended, samples := if c.ended && c.whole then c.samples else c.sent } else c }
  let b := b.onDie k fun d =>
    { d with regs := d.regs.filter fun x => (keyFld x.1).keptByDie || !(keyFld x.1).held
             urg := Die.reset.urg, slotPos := 0, rotNext := 0, scanAt := 0, lpNext := none, visA := ⟨0, none⟩, visB := ⟨0, none⟩, repA := false
             repB := false, scanHeld := none, restEnd := none, secs := []
             bus3 := [], refSum := 0, refN := 0, calSum := 0, calN := 0, keepLowN := 0, secT := none }
  b.forEach (dieChannels k) fun n b =>
    (b.onCh n fun c => { c with debEnd := none, lossEnd := none }).onEng n fun g =>
      { g with wins := [], freeWins := 0, doneSince := none, feSince := none, stallNs := 0, fsFrom := none, shortSince := none
               tjOver := false, tsOver := false, measuring := false, tick := 0, mmSince := none, ps := [], x := [0, 0, 0, 0, 0], m := { g.m.restart with lastRaw := none, outT := none } }

/-- The frames of die k that a reset leaves: reports of trips that acted while it was in reset already (R69, R160). The rest is void with
its epoch. -/
def Die.keptUp (d : Die) : List UpMsg := if d.resetT.isSome then d.up.filter UpMsg.isEvent else []

/-- What a reset of die k does in the die; again says that HUB resets a die that has not rejoined (R471, R472). -/
def Body.dieFalls (e : Env) (k : Nat) (again : Bool) (b : Body) : Body :=
  let b := b.onDie k fun d =>
    { d with joined := false, up := d.keptUp, shown := if d.joined then (dieChannels k).map b.en else d.shown
             shownSeat := if d.joined then (dieChannels k).map fun n => ((b.ch n).seatRaw, (b.ch n).seated) else d.shownSeat
             secs := [], secsFrom := e.count
             resetT := some (d.resetT.getD e.now), stuckT := if again then some e.now else d.stuckT }
  (b.enterKeep k none).dieStops k

/-- What HUB does at a reset of die k, fresh where it was not in reset: requests outstanding are void, and a write that the die has not
acknowledged is to be sent again, before those that wait (R471). -/
def Body.dieVoid (e : Env) (k : Nat) (fresh : Bool) (b : Body) : Body :=
  let ep := (b.rd .twinDieEpoch k + 1) % 16
  let b := ((b.wr .twinDieEpoch k ep).wr .twinDieDown k 1).bump .twinDieResets k
  let b := ((b.wr .modFeclkDev k 0x800000).wr .metaBenchdieBusy k 0).wr .metaBenchdieRest k 0
  let b := b.onDie k fun d => { d with down := (d.unacked ++ d.down).filter DownMsg.writes, unacked := [] }
  let b := (b.raise (1, 16 + k)).calInterrupt e
  let b := if fresh then b.event e.count 0x0108 0xFF k ep 0 else b
  b.forEach (b.dieLeaders k) fun n b => b.deliver e n (.hold 0x33) e.now

/-- Die k resets (R471, R472). HUB in reset does its part as it restarts (R21, R44). -/
def Body.dieReset (e : Env) (k : Nat) (again : Bool) (b : Body) : Body :=
  let fresh := (b.fe k).resetT.isNone
  let b := if (b.fe k).up.any UpMsg.isReply && !b.hubDown then { b.wr .twinDieVoidRead k 1 with reply := [0] } else b
  let b := b.dieFalls e k again
  if b.hubDown then b else b.dieVoid e k fresh

/-- HUB leaves reset and finds die k in reset since it stopped (R44, R471). -/
def Body.dieFound (e : Env) (k : Nat) (b : Body) : Body :=
  if (b.fe k).resetT.isSome && b.rd .twinDieDown k = 0 then b.dieVoid e k true else b

/-- DIE_RESET (R471). -/
def execDieReset (k : DieIx) (s : State) : Out := .next (s.onBody fun e b => b.dieReset e k false)

/-- DIE_WATCHDOG (R586). -/
def execDieWatchdog (k : DieIx) (s : State) : Out :=
  .next (s.onBody fun e b =>
    if b.hubDown then b.dieReset e k false
    else ((((b.bump .healthWdcntFe).raise (9, 16)).event e.count 0x0502 0xFF (1 + k) 0 0).dieReset e k false))

/-! ### Rejoin (R471, R69, R115, R148) -/

/-- Repeat a model step. -/
def poleSteps (mant exp g p : Nat) : Nat → Int → Int
  | 0, t => t
  | c + 1, t => poleSteps mant exp g p c (poleStep mant exp g p t)

/-- The pole states of channel n at rejoin (R148). -/
def Body.rejoinPoles (e : Env) (n : Nat) (b : Body) : Body :=
  let g := b.en n
  let c := (e.now - g.polesRepT) / 6400
  let ps := (List.range 4).map fun i =>
    poleSteps (b.rd .kcoefMant (4 * n + i)) (b.rd .kcoefExp (4 * n + i)) (b.rd .gcoefValue (4 * n + i)) g.pHighRep c
      (g.polesRep.getD i 0)
  b.onEng n fun g => { g with poles := ps }

/-- The gate of channel n as gate keep ends at rejoin: high-impedance unless the module drives, else as its state says (R461). -/
def Body.rejoinGate (e : Env) (n : Nat) (b : Body) : Body :=
  let c := b.ch (b.leadOf n)
  let st := c.eff
  if !b.drives then b.onEng n fun g => { g with gate := .hiZ }
  else if !st.driven then b.onEng n fun g => { g.stop with gate := (g.endFast e.now).offGate }
  else if (b.en n).tripLatch then b.onEng n fun g => { g with gate := (g.endFast e.now).offGate }
  else if c.holds.contains 0x37 then b.onEng n fun g => { g with gate := .full }
  else b.onEng n fun g =>
    let g := if st = .ramp then g.resumeRamp else { g with gate := .driven }
    { g with limFrom := if st = .limit then some e.now else none }

/-- The open interval of channel n is lost with the old epoch, and a new one begins (R43, R471). -/
def Body.rejoinPath (e : Env) (n : Nat) (b : Body) : Body :=
  if !b.meters n then b
  else
    let c := b.closed e n ((b.rd .twinDieEpoch (dieOf n) + 15) % 16)
    let s := b.newSum n
    b.onPath n fun m => { m with closed := m.closed ++ [c], cur := s, openT := e.now }

/-- The seat filters of channel n restart at rejoin (R69). -/
def Body.rejoinSeat (e : Env) (n : Nat) (b : Body) : Body :=
  let c := b.ch n
  if !b.seatLive n then b
  else if c.seated then (if c.seatRaw then b else b.seatLost e n)
  else if c.seatRaw then
    (b.onCh n fun c => { c with debEnd := some (e.now + msNs (b.cd .chSeatcfgDebounceMs n)), assertT := e.now }).report e n
      .seatAssert e.now
  else if (b.ch (b.leadOf n)).eff = .seating then b.report e n .seatDrop e.now else b

/-- The instant that an event of a die carries: the die's, but for OPEN_WIRE, which HUB decides as the report reaches it (R69,
R190). -/
def decidedAt (ev : Ev) (t now : Nat) : Nat := if ev = .trip 0x19 then now else t

/-- Every frame that waits in die k reaches HUB, in its order (R30, R36, R471). -/
def Body.deliverUp (e : Env) (k : Nat) (b : Body) : Body :=
  let ms := (b.fe k).up
  ms.foldl (fun b m => match m with
    | .event n ev t => b.deliver e n ev (decidedAt ev t e.now)
    | .readReply _ _ v => { b with reply := [v] }
    | .ack => b.onDie k fun d => { d with unacked := d.unacked.drop 1 })
    ((b.onDie k fun d => { d with up := [] }).framed k true (ms.map UpMsg.frame))

/-- A report of a trip of leader n waits in its die. -/
def Die.tripWaits (d : Die) (n : Nat) : Bool :=
  d.up.any fun m => match m with
    | .event l (.trip _) _ => decide (l = n)
    | .event _ _ _ | .readReply _ _ _ | .ack => false

/-- A trip of leader n that acted, and of which HUB holds no report, is reported at rejoin with the instant at which the gate was
pulled down (R69, R160). DEDUCED (log 202): the die tells it from the latch that is set. -/
def Body.rejoinTrip (e : Env) (n : Nat) (b : Body) : Body :=
  if (b.ch n).eff.driven && (b.en n).tripLatch && !(b.fe (dieOf n)).tripWaits n then
    b.onDie (dieOf n) fun d => { d with up := d.up ++ [.event n (.trip 0x10) (min (b.en n).fastFrom e.now)] }
  else b

/-- A host write that a command names goes to die k, behind what waits there; f is its effect. A write to a die whose link is down
waits with the others (R33, R34, R36). -/
def Body.atDie (e : Env) (k a word : Nat) (f : Body → Body) (b : Body) : Body :=
  if b.hubDown then b
  else if (b.fe k).joined then f (b.drain e k)
  else b.sendDown k (.hostWrite (a + 0x1000 * k) word (b.unlocked 5 && b.role ≠ .standby))

/-- Die k has reloaded its trims and its configuration and accepts its epoch; at module start it joins for the first time
(R471, R477). -/
def Body.dieRejoin (e : Env) (k : Nat) (b : Body) : Body :=
  if (b.fe k).joined || b.hubDown || b.health.auxOff then b
  else
    let first := (b.fe k).resetT.isNone
    let b := b.onDie k fun d =>
      { d with joined := true, resetT := none, stuckT := none, keep := false, keepEnd := none, markT := e.now, phase := e.count
               joinT := e.now, shown := [], shownSeat := []
               regs := b.loadedRegs k, trims := if d.hubValid then d.hubTrims else d.otpTrims
               lin := if d.hubValid then d.hubLin else d.otpLin }
    let b := ((b.wr .twinDieDown k 0).dwr k .feCvstatLp k (bit (b.role = .standby || b.flag .healthStatFreeze))).drain e k
    let b := ((b.loadLadder k).onDie k fun d => { d with ow := ⟨e.now, 0, e.now, [], []⟩ }).visitsFollow e k
    let b := b.disturbAll k
    let b := if b.rd .modBootPhase = 3 ∧ b.allJoined then b.wr .modBootPhase 0 4 else b
    if first then b
    else
      let b := b.forEach (dieChannels k) fun n b => (((b.rejoinPoles e n).rejoinGate e n).rejoinPath e n).rejoinSeat e n
      let b := (b.forEach (b.dieLeaders k) fun n b => b.rejoinTrip e n).deliverUp e k
      b.forEach (b.dieLeaders k) fun n b => b.deliver e n (.release 0x33) e.now

/-- DIE_REJOIN (R471). -/
def execDieRejoin (k : DieIx) (s : State) : Out := .next (s.onBody fun e b => b.dieRejoin e k)

/-- Die k has not rejoined 5 ms after its reset (R472). -/
def Body.dieStuck (e : Env) (k : Nat) (b : Body) : Body :=
  let b := (b.onDie k fun d => { d with stuckT := some e.now }).raise (1, 24 + k)
  if b.role = .active && b.flag .twinStatPartnerReady then b.seamRequest e 5 else b

/-- DIE_REJOIN_TIMEOUT (R472): at 5 ms, and then every 50 ms, when HUB resets the die again. -/
def execDieRejoinTimeout (k : DieIx) (s : State) : Out :=
  match (s.body.fe k).resetT, (s.body.fe k).stuckT with
  | some t, none => .next ((s.goTo (t + 5000000)).onBody fun e b => if b.hubDown then b else b.dieStuck e k)
  | some _, some u => .next ((s.goTo (u + 50000000)).onBody fun e b => if b.drives && !b.hubDown then b.dieReset e k true else b)
  | none, _ => .next s

/-! ### Gate keep (R461) -/

/-- PAIRED as HUB forwards it (R461). -/
def Body.paired (b : Body) : Bool := b.role = .active && b.flag .twinStatPartnerReady && b.flag .twinStatHbOk

/-- MARKER_LOSS (R461): 20 µs after the last marker while PAIRED is 1. -/
def execMarkerLoss (k : DieIx) (s : State) : Out :=
  if !s.body.paired || (s.body.fe k).keep then .next s
  else .next ((s.goTo ((s.body.fe k).markT + 20000)).onBody fun e b => b.enterKeep k (some (e.now + 100000)))

/-- The drivers of a die whose gate keep ends without a rejoin are high-impedance (R461). -/
def Body.endKeep (k : Nat) (b : Body) : Body :=
  let b := b.onDie k fun d => { d with keep := false, keepEnd := none }
  b.forEach (dieChannels k) fun n b => b.onEng n fun g => { g with gate := .hiZ, dsel := 0, wins := [], freeWins := 0 }

/-- GATE_KEEP_END (R461): by time; the end by keep-release belongs to T_S of a Seam, the end at rejoin to the rejoin. -/
def execGateKeepEnd (k : DieIx) (s : State) : Out :=
  match (s.body.fe k).keepEnd with
  | some t => .next ((s.goTo t).onBody fun _ b => if (b.fe k).keep then b.endKeep k else b)
  | none => .next s

/-! ### Frames (R25, R29, R33, R37, R38, R125) -/

/-- KIND of a frame (R28). -/
def DownMsg.kind (m : DownMsg) : Nat := m.frame.1

/-- KIND of a frame (R28). -/
def UpMsg.kind (m : UpMsg) : Nat := m.frame.1

/-- The 160 bits of a frame that has passed a link (R28); the layout of its payload the spec does not give. -/
def Frame.bits (f : Frame) : Nat :=
  let x := f.kind * 2 ^ 140 + f.epoch * 2 ^ 136 + f.seq * 2 ^ 128 + (Config.iclPayload f.content).toNat
  x * 2 ^ 16 + crc16 144 x 0xFFFF

/-- The 160 bits of the last frame that die k's link has carried in a direction, 0 before the first (R28). -/
def Body.iclFrame (b : Body) (k : Nat) (up : Bool) : Nat :=
  match if up then (b.fe k).lastUp else (b.fe k).lastDn with
  | some f => f.bits
  | none => 0

/-- The link of die k carries frames. -/
def Body.linkUp? (b : Body) (k : Nat) : Bool := (b.fe k).joined && !b.hubDown

/-- ICL_WRITE (R33): the oldest write frame is applied, and the die sends its acknowledge. -/
def execIclWrite (k : DieIx) (s : State) : Out :=
  .next (s.onBody fun e b =>
    match (b.fe k).down with
    | m :: ms =>
      if b.linkUp? k then
        (((b.onDie k fun d => { d with down := ms, unacked := d.unacked ++ [m] }).framed k false [m.frame]).applyDown e k m).onDie k
          fun d => { d with up := d.up ++ [.ack] }
      else b
    | [] => b)

/-- The frame that die k sends next is taken, where it passes a test: frames keep their order (R30). -/
def Body.takeUp (k : Nat) (p : UpMsg → Bool) (b : Body) : Option UpMsg × Body :=
  match (b.fe k).up with
  | m :: ms => if p m then (some m, (b.onDie k fun d => { d with up := ms }).framed k true [m.frame]) else (none, b)
  | [] => (none, b)

/-- A reply for an address that passes a test. -/
def UpMsg.replyAt (p : Nat → Bool) : UpMsg → Bool
  | .readReply _ a _ => p a
  | .event _ _ _ | .ack => false

/-- The reply that die k sends next completes the host's read (R30, R37). -/
def Body.takeReply (k : Nat) (p : Nat → Bool) (b : Body) : Body :=
  if !b.linkUp? k then b
  else
    let r := b.takeUp k (UpMsg.replyAt p)
    match r.1 with
    | some (.readReply _ _ v) => { r.2 with reply := [v] }
    | _ => b

/-- ICL_READ_REPLY (R37). -/
def execIclReadReply (k : DieIx) (s : State) : Out := .next (s.onBody fun _ b => b.takeReply k fun a => decide (a < 0x100000))

/-- ICL_TRACE_DATA (R125): the reply to a read in a trace window. -/
def execIclTraceData (k : DieIx) (s : State) : Out := .next (s.onBody fun _ b => b.takeReply k fun a => decide (0x100000 ≤ a))

/-- ICL_WRITE_ACK (R33). -/
def execIclWriteAck (k : DieIx) (s : State) : Out :=
  .next (s.onBody fun _ b =>
    if !b.linkUp? k then b
    else
      let r := b.takeUp k fun m => m = .ack
      if r.1.isSome then r.2.onDie k fun d => { d with unacked := d.unacked.drop 1 } else b)

/-- ICL_STATUS (R38): a status frame that die k sends next reaches HUB. -/
def execIclStatus (k : DieIx) (s : State) : Out :=
  .next (s.onBody fun e b =>
    if !b.linkUp? k then b
    else
      let r := b.takeUp k UpMsg.isEvent
      match r.1 with
      | some (.event n ev t) => r.2.deliver e n ev (decidedAt ev t e.now)
      | _ => b)

/-- ICL_RETRANSMIT (R29): a frame is repeated; a second failure is handled as a reset of the die. -/
def execIclRetransmit (k : DieIx) (again : Bool) (s : State) : Out :=
  .next (s.onBody fun e b =>
    if !b.linkUp? k then b
    else
      let b := (b.wr .modIclRetrySeen 0 (setBit (b.rd .modIclRetrySeen) k)).raise (1, k)
      if again then b.dieReset e k false else b)

/-- What a marker announces of a step that is scheduled: the count at the step instant, and Δ (R384). -/
def Body.stepNews (e : Env) (b : Body) : List Nat :=
  match b.disc.step with
  | some (t, k, _) => [e.countAt t, ofSigned 64 (k.delta? (b.rd .tbSetsecTime) (e.countAt t))]
  | none => []

/-- ICL_SYNC_MARKER (R25): every 10 µs, with the timebase value; cycles of CLK_FEk have passed since the marker before. -/
def execIclSyncMarker (m : Marker) (s : State) : Out :=
  .next (s.onBody fun e b =>
    if b.linkUp? m.die then (b.mark e.now e.count m.cycles m.die).framed m.die false [(8, e.count :: b.stepNews e)] else b)

end Sys2Proof.Machine
end

