-- ==== Sys2Proof/Machine/Image.lean ====
section
/-!
DEFINITION. The Pyrid image (R483 to R491): its checks, its records, the values it gives, gang formation (R168), trip policy
presets (R194), and its application to every channel (R489, R497).
-/

namespace Sys2Proof.Machine

open Sys2Proof

/-! ### Records (R487, R488, R490) -/

/-- The word at an offset of a byte string (R484). -/
def wordAt (bs : List Nat) (off : Nat) : Nat := ofLeBytes ((bs.drop off).take 4)

/-- Bytes as 32-bit words, least significant byte first. -/
def leWords : List Nat → List Nat
  | a :: b :: c :: d :: r => ofLeBytes [a, b, c, d] :: leWords r
  | _ => []

/-- Channel word n names a gang that R488 allows: 1 to 8 channels, a single channel its own leader. -/
def mapWordOk (n w : Nat) : Bool :=
  !bitAt w 31 || (decide (1 ≤ bits w 19 16) && decide (bits w 19 16 ≤ 8) && (bits w 19 16 ≠ 1 || bits w 14 8 = n))

/-- An address that REG_WRITE may name (R490). -/
def regWriteOk (a : Nat) : Bool :=
  let o := (a - 0x10000) % 0x200
  decide (a % 4 = 0) && !(decide (a < 0x3000) || (decide (0x30000 ≤ a) && decide (a < 0x31000)) || decide (0x100000 ≤ a) ||
    (decide (0xB000 ≤ a) && decide (a < 0xC000) && a ≠ 0xB014) ||
    (decide (0x10000 ≤ a) && decide (a < 0x20000) && decide (0xE0 ≤ o) && decide (o < 0xF0)))

/-- The words behind the header of a record keep the form of its kind (R487). -/
def recOk (kind : Nat) (ws : List Nat) : Bool :=
  let l := ws.length
  match kind with
  | 0x01 => l = 128 && (List.range 128).all fun n => mapWordOk n (ws.getD n 0)
  | 0x02 => l % 2 = 1 && (List.range (l / 2)).all fun i => decide (ws.getD (2 * i + 1) 0 ≤ 0x1FC) && decide (ws.getD (2 * i + 1) 0 % 4 = 0)
  | 0x03 => l = 33
  | 0x04 | 0x05 => l = 9
  | 0x06 => l = 5
  | 0x07 => l = 2
  | 0x08 => decide (2 ≤ l) && (List.range (l - 1)).all fun j => regWriteOk (ws.headD 0 + 4 * j)
  | _ => false

/-- The records of an image, without those that are skipped, by fuel; none where one breaks R487 or R490. -/
def parseRecs : Nat → List Nat → Option (List (Nat × List Nat))
  | 0, _ => none
  | _, [] => none
  | f + 1, w :: ws =>
    let kind := bits w 31 24
    let n := bits w 23 0
    let body := ws.take (n - 1)
    let rest := ws.drop (n - 1)
    if n = 0 ∨ body.length + 1 < n then none
    else if kind = 0x7F then (if n = 1 ∧ ws.all (· = 0) then some [] else none)
    else if 0x80 ≤ kind ∧ kind ≤ 0xFE then parseRecs f rest
    else if recOk kind body then (parseRecs f rest).map ((kind, body) :: ·)
    else none

/-! ### Values (R488, R489, R194, R608) -/

/-- USED, EN, SET, GANG_SIZE, GANG_LEAD and PCLASS of channel n (R488). -/
def ImgVals.word (v : ImgVals) (n : Nat) : Nat := v.map.getD n 0
def ImgVals.used (v : ImgVals) (n : Nat) : Bool := bitAt (v.word n) 31
def ImgVals.set (v : ImgVals) (n : Nat) : Nat := bits (v.word n) 28 24
def ImgVals.gsize (v : ImgVals) (n : Nat) : Nat := bits (v.word n) 19 16
def ImgVals.glead (v : ImgVals) (n : Nat) : Nat := bits (v.word n) 14 8

/-- A field that an image value reaches: an img field whatever its access, but for those that the module derives, or a field
whose access is RW (R489). Only entries E49 to E63 take an input (R279). -/
def Fld.loads (f : Fld) (i : Nat) : Bool :=
  (imgChanFlds.contains f || imgModFlds.contains f || f = .chCtrlEn || f = .chClassPclass || f.row.acc = .rw) &&
    (f ≠ .feEntryInput || decide (49 ≤ i % 64))

/-- Give one field of a word. -/
def ImgVals.putField (word : Nat) (v : ImgVals) (h : Fld × Nat × Nat) : ImgVals :=
  let k := fkey h.1 h.2.1
  if h.1.loads h.2.1 then
    let old := sparseGet 0 v.given k - 1
    { v with given := sparseSet 0 v.given k (h.1.clampTo (h.1.taken h.2.2 old word) + 1) }
  else v

/-- Give the word at an address. -/
def ImgVals.put (v : ImgVals) (a word : Nat) : ImgVals := (hits a).foldl (fun v h => v.putField word h) v

/-- Give consecutive words. -/
def ImgVals.puts (v : ImgVals) (a : Nat) (ws : List Nat) : ImgVals :=
  (List.range ws.length).foldl (fun v j => v.put (a + 4 * j) (ws.getD j 0)) v

/-- Where the table of a record kind stands in the block of channel n (R136, R185, R188). -/
def tableAddr (kind n : Nat) : Nat :=
  match kind with
  | 0x03 => 0x80000 + 128 * n
  | 0x04 => 0x84000 + 128 * n
  | _ => 0x84060 + 128 * n

/-- A record is a table. -/
def isTable (kind : Nat) : Bool := decide (3 ≤ kind) && decide (kind ≤ 5)

/-- The values that preset set s gives channel n: its PRESET_SET records, then its tables (R489, step 3). -/
def ImgVals.preset (recs : List (Nat × List Nat)) (n : Nat) (v : ImgVals) : ImgVals :=
  let s := v.set n
  let v := recs.foldl (fun v r =>
    if r.1 = 2 ∧ r.2.headD 0 % 32 = s then
      (List.range (r.2.length / 2)).foldl (fun v i => v.put (0x10000 + 0x200 * n + r.2.getD (2 * i + 1) 0) (r.2.getD (2 * i + 2) 0)) v
    else v) v
  recs.foldl (fun v r =>
    if isTable r.1 && !bitAt (r.2.headD 0) 31 && r.2.headD 0 % 32 = s then v.puts (tableAddr r.1 n) (r.2.drop 1) else v) v

/-- The trip policy word of fuse class c (R194): the last record's, or the defaults. -/
def polWord (recs : List (Nat × List Nat)) (c : Nat) : Nat :=
  recs.foldl (fun a r => if r.1 = 7 ∧ r.2.headD 0 % 8 = c then r.2.getD 1 0 else a) 0x5010

/-- What the records of an image give (R489, steps 1 to 5). -/
def imgVals (recs : List (Nat × List Nat)) : ImgVals :=
  let v : ImgVals := ⟨((recs.find? fun r => r.1 = 1).getD (1, [])).2, (List.range 8).map (polWord recs), []⟩
  let v := (List.range 128).foldl (fun v n => if v.used n then v.preset recs n else v) v
  let v := recs.foldl (fun v r =>
    if isTable r.1 && bitAt (r.2.headD 0) 31 then v.puts (tableAddr r.1 (r.2.headD 0 % 128)) (r.2.drop 1)
    else if r.1 = 6 then v.puts (0x100E0 + 0x200 * (r.2.headD 0 % 128)) (r.2.drop 1)
    else v) v
  recs.foldl (fun v r => if r.1 = 8 then v.puts (r.2.headD 0) (r.2.drop 1) else v) v

/-- The fields of TRIPPOL with a policy of their own (R205). -/
def Fld.isPol (f : Fld) : Bool :=
  match f with
  | .chTrippolBusUnder | .chTrippolBusOver | .chTrippolOpenWire | .chTrippolFollow | .chTrippolTjMeasured | .chTrippolTjModel
  | .chTrippolSoaEnergy | .chTrippolIlimTimeout | .chTrippolHardtrip => true
  | _ => false

/-- How strict a policy code is for a field: event only, retry, latch (R193, R194). -/
def Fld.strict (f : Fld) (code : Nat) : Nat :=
  match f with
  | .chTrippolOpenWire | .chTrippolBusOver | .chTrippolBusUnder => if code = 2 then 0 else if code = 0 then 1 else 2
  | _ => if code = 0 then 1 else 2

/-- The code in force that a code is taken as (R193). -/
def Fld.polCode (f : Fld) (code : Nat) : Nat := if f.strict code = 2 then 1 else code

/-- A policy asked for, against its preset (R194, R205). -/
def Fld.polHeld (f : Fld) (preset asked : Nat) : Nat := f.polCode (if f.strict asked < f.strict preset then preset else asked)

/-- The policy preset of field f of channel n: its fuse class's (R194). -/
def ImgVals.polPreset (v : ImgVals) (fc : Nat) (f : Fld) : Nat := bits (v.pol.getD fc 0x5010) f.row.hi f.row.lo

/-- The value an image gives field f at index i, in a slot of fuse class fc. -/
def ImgVals.val (v : ImgVals) (fc : Nat) (f : Fld) (i : Nat) : Nat :=
  let g := sparseGet 0 v.given (fkey f i)
  if f.isPol then
    let p := v.polPreset fc f
    if g = 0 then f.polCode p else f.polHeld p (g - 1)
  else v.plain f i

/-! ### Gangs (R168) -/

/-- The gang of leader l and size g that an image names is formed: its channels name it alike, lie on one die, are joined in the
Starch gang map, and share fuse class, sense range and shunt value. -/
def Body.gangFormed (e : Env) (b : Body) (v : ImgVals) (l g : Nat) : Bool :=
  let ms := (List.range g).map (l + ·)
  let rsh (n : Nat) := sparseGet 0 v.given (fkey .chRshRshNom n)
  let fine (n : Nat) := bitAt (v.val 0 .feIrangeFine (dieOf n)) (n % 16)
  decide (l % 16 + g ≤ 16) &&
    ms.all fun n => v.used n && v.gsize n = g && v.glead n = l && (n = l || bitAt (e.fuse (64 + n / 32)) (n % 32)) &&
      b.rd .chClassFclass n = b.rd .chClassFclass l && rsh n = rsh l && fine n = fine l

/-- Channel n is named by a gang that is not formed. -/
def Body.gangFails (e : Env) (b : Body) (v : ImgVals) (n : Nat) : Bool :=
  (List.range 128).any fun m =>
    v.used m && decide (2 ≤ v.gsize m) && (n = m || (decide (v.glead m ≤ n) && decide (n < v.glead m + v.gsize m))) &&
      !b.gangFormed e v (v.glead m) (v.gsize m)

/-! ### Fields (R489) -/

/-- The fields of the channel map, and a used channel's img fields (R488, R489). -/
def Body.imgChan (e : Env) (b : Body) (v : ImgVals) (n : Nat) : List (Nat × Nat) :=
  let own := v.used n && decide (2 ≤ v.gsize n) && !b.gangFails e v n
  let map := [(fkey .chClassGangSize n, if own then v.gsize n else 1), (fkey .chClassGangLead n, if own then v.glead n else n)]
  if v.used n then
    let w (f : Fld) (x : Nat) := (fkey f n, if sparseGet 0 v.given (fkey f n) = 0 then x else sparseGet 0 v.given (fkey f n) - 1)
    map ++ [w .chCtrlEn (bit (bitAt (v.word n) 30)), w .chClassPclass (bits (v.word n) 1 0)] ++
      imgChanFlds.flatMap fun f => (List.range f.inner).map fun j =>
        (fkey f (n * f.inner + j), v.val (b.rd .chClassFclass n) f (n * f.inner + j))
  else map

/-- Every field that an image sets, by key, as its records and defaults give it (R489). -/
def Body.imgTarget (e : Env) (b : Body) (v : ImgVals) : List (Nat × Nat) :=
  let others := v.given.filter fun k => !imgModFlds.contains (keyFld k.1) &&
    !((keyFld k.1).ofChan && v.used ((keyFld k.1).unit (k.1 / 1024)))
  (List.range 128).flatMap (b.imgChan e v) ++
    (imgModFlds.flatMap fun f => (List.range f.count).map fun i => (fkey f i, v.val 0 f i)) ++
    others.map fun k => (k.1, k.2 - 1)

/-- Set HUB's fields and the FE-held ones, without forwarding. -/
def Body.putOwn (kvs : List (Nat × Nat)) (b : Body) : Body :=
  kvs.foldl (fun b k =>
    let f := keyFld k.1
    let i := k.1 / 1024
    if f.held then b.dwr (f.unit i) f i k.2 else b.wr f i k.2) b

/-- The derived values of a used channel (R112, R146, R218). -/
def Body.derive (n : Nat) (b : Body) : Body :=
  let b := (b.wr .chCapPCap n 0x7FFF).wr .chFfstatFfI n (b.ffOf n (b.capacitance n))
  (b.coefs n).foldl (fun b c => b.wr c.1 c.2.1 c.2.2) b

/-- The image gives the field of a key, by a record. -/
def ImgVals.gives (v : ImgVals) (k : Nat) : Bool := sparseGet 0 v.given k ≠ 0

/-- What the image gives an unused channel, by channel-scoped records: its derived values and the ceilings of the fields given (R146,
R188, R489, R498). -/
def Body.imgUnused (e : Env) (v : ImgVals) (n : Nat) (b : Body) : Body :=
  if !(v.given.any fun k => (keyFld k.1).ofChan && decide ((keyFld k.1).unit (k.1 / 1024) = n)) then b
  else
    let b := if v.given.any fun k => ((keyFld k.1).movesCoefs || keyFld k.1 = .chRshRshNom) && decide ((keyFld k.1).unit (k.1 / 1024) = n) then
        (b.coefs n).foldl (fun b c => b.wr c.1 c.2.1 c.2.2) b else b
    let b := b.onCh n fun c => { c with clamps := [] }
    let b := ((b.bounds e n).filter fun c => v.gives (fkey c.1 c.2.1)).foldl (fun b c => b.holdField n false c) b
    if v.gives (fkey .chHtripHtCode n) then b.holdHardTrip e n false else b

/-- An image asks for a trend interval: it is in force from the next timebase second boundary on (R425). -/
def Body.askTrend (x : Nat) (b : Body) : Body :=
  b.onRcd fun r => { r with trendNext := if x = b.rd .recTrendcfgInterval then none else some x }

/-- The image's fields in HUB, with the ranges in force, the derived values and the Starch clamps (R489, steps 1 to 6). -/
def Body.imgFields (e : Env) (v : ImgVals) (b : Body) : Body :=
  let kvs := b.imgTarget e v
  let old := b
  let b := b.askTrend (v.val 0 .recTrendcfgInterval 0)
  let kvs := kvs.filter fun kv => keyFld kv.1 ≠ .recTrendcfgInterval
  let b := kvs.foldl (fun b kv => (b.tmrHook e (keyFld kv.1) (kv.1 / 1024) (old.rd (keyFld kv.1) (kv.1 / 1024))).recHook e (keyFld kv.1)) (b.putOwn kvs)
  let b := b.forEach (List.range 8) fun k b => b.dwr k .feIrangeApplied k (b.drd k .feIrangeFine k)
  b.forEach (List.range 128) fun n b =>
    if v.used n then (b.derive n).onCh n (fun c => { c with clamps := [] }) |>.holdAll e n [] else b.imgUnused e v n

/-! ### What the compiler must refuse (R192, R230, R286, R322, R340, R344, R490, R523, R540) -/

/-- A reserved address (R540). -/
def reservedAddr (a : Nat) : Bool := decide (a ≤ 0x08) || decide (0x78 ≤ a) || a = 0x0C || a = 0x28 || a = 0x37 || a = 0x61

/-- The enabled entries of HOST.XADDR (R538). -/
def Body.listAddrs (b : Body) : List Nat :=
  [(Fld.hostXaddrEn0, Fld.hostXaddrA0), (.hostXaddrEn1, .hostXaddrA1), (.hostXaddrEn2, .hostXaddrA2),
    (.hostXaddrEn3, .hostXaddrA3)].filterMap fun p => if b.flag p.1 then some (b.rd p.2) else none

/-- The base address (R537). -/
def Body.baseAddr (b : Body) : Nat := 0x40 + b.rd .modStrapS

/-- No list entry and no PAIR value is reserved, the base address, or another enabled entry (R540). -/
def Body.addrsOk (b : Body) : Bool :=
  let l := b.listAddrs
  let p := b.rd .hostAddrcfgPair
  let xs := if p = 0 then l else p :: l
  xs.all (fun a => !reservedAddr a && a ≠ b.baseAddr) && decide xs.Nodup

/-- The pair address (R537, R539). -/
def Body.pairAddress (b : Body) : Nat :=
  if b.rd .hostAddrcfgPair = 0 then 0x58 + b.rd .modStrapS / 2 else b.rd .hostAddrcfgPair

/-- An own address (R538, R540): the base address, a list entry or a masked match. -/
def Body.ownAddress (b : Body) (a : Nat) : Bool :=
  a = b.baseAddr || (!reservedAddr a && a ≠ b.pairAddress &&
    (if b.flag .hostAddrcfgMode then
      andNot (Nat.xor a (b.rd .hostAmaskMatch)) (b.rd .hostAmaskMask) = 0
    else b.listAddrs.contains a))

/-- A transaction to this address is a pair-address one (R539, R540). -/
def Body.isPair (b : Body) (a : Nat) : Bool := a = b.pairAddress && !reservedAddr a && a ≠ b.baseAddr

/-- An input is enabled in an entry of die k (R340). -/
def Body.inputOn (b : Body) (k input : Nat) : Bool :=
  (List.range 15).any fun i => b.entryOn k (49 + i) && b.drd k .feEntryInput (64 * k + 49 + i) = input

/-- The image forms nothing that its compiler must refuse. -/
def Body.imgFits (b : Body) : Bool :=
  let chans := (List.range 128).filter fun n => (b.ch n).used
  chans.all (fun n => decide (b.rd .chBuswinBusUv n + 40 ≤ b.rd .chBuswinBusOv n)) &&
    decide (b.rd .budgetHoldupBusWarn < b.rd .budgetBusminBusMin) && b.laddersFit &&
    decide (b.rd .feederVlimVmin ≤ b.rd .feederVlimVmax) && b.addrsOk &&
    (List.range 8).all fun k => b.inputOn k 0x42 && b.inputOn k 0x44 &&
      (List.range 80).all fun u =>
        decide (toSigned 24 (b.drd k .fuWloLevel (80 * k + u)) ≤ toSigned 24 (b.drd k .fuWhiLevel (80 * k + u)))

/-- What an image gives, where its records break no rule (R486, code 9). -/
def Body.imgContent (e : Env) (b : Body) (ws : List Nat) : Option ImgVals :=
  match parseRecs (ws.length + 1) ws with
  | none => none
  | some recs =>
    if (recs.filter fun r => r.1 = 1).length ≠ 1 then none
    else
      let v := imgVals recs
      let c := Body.reset.wr .modStrapS 0 (b.rd .modStrapS)
      let c := (List.range 128).foldl (fun (c : Body) n =>
        (c.wr .chClassFclass n (b.rd .chClassFclass n)).onCh n fun x => { x with used := v.used n }) c
      let c := c.putOwn (c.imgTarget e v)
      -- a used channel's RSH_NOM of 0 is refused (R344)
      if c.imgFits && (List.range 128).all (fun n => !v.used n || sparseGet 0 v.given (fkey .chRshRshNom n) ≠ 1) then some v
      else none

/-! ### The checks of a slot (R484 to R486) -/

/-- Bytes of an image with a range taken as 0. -/
def blank (lo hi : Nat) (bs : List Nat) : List Nat := bs.take lo ++ List.replicate (hi - lo) 0 ++ bs.drop hi

/-- The code of the first check that fails, 0 for none, up to SHELF_TYPE (R486). -/
def imageHeader (e : Env) (bs : List Nat) : Nat :=
  let signed := bitAt (wordAt bs 0x14) 0
  let keyed := (List.range 8).any fun i => e.fuse (2 + i) ≠ 0
  let keyHash := (List.range 8).flatMap fun i => leBytes 4 (e.fuse (2 + i))
  let part (lo n : Nat) := (bs.drop lo).take n
  let digest := part 0x20 32
  if wordAt bs 0 ≠ 0x50595244 then 1
  else if wordAt bs 4 / 65536 ≠ 1 then 2
  else if wordAt bs 0x10 % 16 ≠ 0 ∨ wordAt bs 0x10 < 0x110 ∨ 0x400000 < wordAt bs 0x10 then 3
  else if crc32 (blank 0x18 0x20 bs) ≠ wordAt bs 0x1C then 4
  else if sha256 (blank 0x18 0x80 bs) ≠ digest then 5
  else if keyed ∧ (signed = false ∨ sha256 (part 0x80 64) ≠ keyHash) then 6
  else if signed = true ∧ ecdsaOk (ofBeBytes (part 0x80 32), ofBeBytes (part 0xA0 32)) (ofBeBytes digest) (ofBeBytes (part 0x40 32))
      (ofBeBytes (part 0x60 32)) = false then 7
  else if wordAt bs 8 ≠ e.fuse 0 ∨ e.fuse 0 = 0 then 8
  else 0

/-- The bytes of the image a slot holds: LENGTH of them, what lies beyond those read as erased flash. -/
def imageBytes (slot : List Nat) : List Nat :=
  let n := wordAt slot 0x10
  let l := if 0x400000 < n then 0x100 else n
  (slot ++ List.replicate (l - slot.length) 0xFF).take l

/-- Check a slot (R486): the code of the first failure, and the image where the code is 0 or UNCOMMITTED. -/
def Body.imageCheck (e : Env) (b : Body) (slot : List Nat) : Nat × Option ImgSlot :=
  let bs := imageBytes slot
  let h := imageHeader e bs
  if h ≠ 0 then (h, none)
  else
    let ws := leWords (bs.drop 0x100)
    match b.imgContent e ws with
    | none => (9, none)
    | some _ =>
      let done := decide (wordAt bs 0x18 = 0)
      (if done then 0 else 0xA, some ⟨wordAt bs 0xC, done, leWords ((bs.drop 0x20).take 32), ws⟩)

/-- What a slot that passed its checks gives. -/
def ImgSlot.vals (s : ImgSlot) : ImgVals := imgVals ((parseRecs (s.words.length + 1) s.words).getD [])

/-! ### Application (R489, R491, R497) -/

/-- Used channel n alone receives IMAGE_NONE (R168, R491, R497). -/
def Body.noneAlone (e : Env) (b : Body) (v : ImgVals) (n : Nat) : Bool :=
  let w (j : Nat) := b.fcWord e n j
  let rsh := sparseGet 0 v.given (fkey .chRshRshNom n)
  rsh = 0 || sparseGet 0 v.given (fkey .chHtripHtCode n) = 0 || b.gangFails e v n ||
    bits (w 0) 31 16 = 0 || bits (w 0) 15 0 = 0 || bits (w 1) 31 16 = 0 || decide (bits (w 2) 9 0 < 5) ||
    decide (2 * (rsh - 1) < bits (w 3) 31 16 * 100000)

/-- A leader's channels are used and none of them receives IMAGE_NONE. -/
def Body.configured (e : Env) (b : Body) (v : ImgVals) (l : Nat) : Bool :=
  (b.membersOf l).all fun n => v.used n && !b.noneAlone e v n

/-- Metering of a channel starts with the image's values: an open interval of before ends here, so that no word covers two ranges
(R16, R327, R477). -/
def Body.startPath (e : Env) (n : Nat) (b : Body) : Body :=
  if b.meters n && (b.en n).m.openT ≠ e.now then b.closeInterval e n
  else b.onPath n fun m => { m.restart with openT := e.now, cur := b.newSum n }

/-- Every channel receives IMAGE_OK or IMAGE_NONE (R65, R489). -/
def Body.imgEvents (e : Env) (v : ImgVals) (b : Body) : Body :=
  let b := b.forEach (List.range 128) fun n b => b.onCh n fun c => { c with used := b.configured e v (b.leadOf n) }
  let b := b.loadLadders
  let b := b.forEach b.leaders fun l b =>
    if (b.ch l).used then b.deliver e l .imageOk e.now else b.deliver e l .imageNone e.now
  b.forEach (List.range 128) fun n b =>
    if (b.ch (b.leadOf n)).used || (b.en n).m.cur.fine ≠ b.fineOn n then b.startPath e n else b

/-- SHA-256 digest of an image as two units, byte 0 in bits [7:0]. -/
def ImgSlot.units (s : ImgSlot) : List Nat := hashUnits (s.digest.flatMap (leBytes 4))

/-- An IMAGE record: 1 start-up, 2 Patch (R434). -/
def Body.imageRec (time kind : Nat) (s : ImgSlot) (b : Body) : Body :=
  if b.role = .standby then b else b.emit (mkRec 0x1F (kind * 2 ^ 24) time (s.seq * 2 ^ 96 :: s.units))

/-- The image in force shows (R510). -/
def Body.showImage (s : ImgSlot) (b : Body) : Body :=
  (List.range 8).foldl (fun b i => b.wr .modImgdigestD i (s.digest.getD i 0)) (b.wr .modImgseqSeq 0 s.seq)

/-- Apply an image to every channel (R489). -/
def Body.applyImage (e : Env) (s : ImgSlot) (b : Body) : Body :=
  let v := s.vals
  let b := b.imgFields e v
  let b := b.forEach (List.range 8) fun k b => (b.onDie k fun d => { d with regs := b.loadedRegs k }).disturbAll k
  let b : Body := { b with boot := { b.boot with imaged := true, vals := v } }
  let b := (b.imgEvents e v).showImage s
  let b := (b.imageRec e.count 1 s).wr .modImgstatOverridden 0 0
  let b := b.forEach (List.range 12) fun f b => b.fdStart e f
  b.bbuSet e 1

end Sys2Proof.Machine
end

