-- ==== Sys2Proof/Machine/Effects.lean ====
section
/-!
DEFINITION. What a change of configuration brings, whether a host write, a Patch or a reload makes it: derived values and
ceilings (R39, R112, R146, R498), forwarding (R31, R117), the ladder (R286), the timers (R392 to R400, R403), the feeders
(R515 to R521) and the battery units (R526).
-/

namespace Sys2Proof.Machine

open Sys2Proof

/-! ### Fields of a channel -/

/-- A change of the field changes FF_I (R112). -/
def Fld.movesFf (f : Fld) : Bool := f = .chRampctlRate || f = .chFfcfgCEst || f = .chLoopcfgClearn

/-- The field is a gain of the look-up table. -/
def Fld.isGain (f : Fld) : Bool := f = .tablesGainKp || f = .tablesGainKi

/-- The keys of forwarded values that follow from a change of fields of channel n: FF_I, the coefficients, what a ceiling
bounds. -/
def Body.followKeys (e : Env) (b : Body) (n : Nat) (ks : List Nat) : List Nat :=
  (if ks.any fun k => (keyFld k).movesFf then [fkey .chFfstatFfI n] else []) ++
    (if ks.any fun k => (keyFld k).movesCoefs then (b.coefs n).map fun c => fkey c.1 c.2.1 else []) ++
    (b.boundValues e n).map fun c => fkey c.1 c.2.1

/-- HUB's value at a key. -/
def Body.at (b : Body) (k : Nat) : Nat := b.rd (keyFld k) (k / 1024)

/-- The field acts from the next budget cycle on when it is written (R215). -/
def Fld.atCycle (f : Fld) : Bool :=
  match f with
  | .budgetGuarValue | .budgetShelfPShelf | .budgetCtrlMode | .budgetCtrlOvertake | .budgetStaggerStaggerMin
  | .budgetStaggerStaggerPeriod | .budgetRelaxRelaxMargin | .budgetRelaxRelaxTime | .budgetQlimitQueueLimit | .budgetBusminBusMin
  | .budgetBusminBusMinTime | .budgetHoldupReturnQual | .budgetHoldupAcfailFilt | .budgetHoldupBusWarn | .budgetHoldupBusWarnTime
  | .budgetHustageStageV | .budgetHustageDelay | .chBallocAlloc | .chBallocCapFloor => true
  | _ => false

/-- The values in force of fields that are about to be written are kept up to the next budget cycle (R215). -/
def Body.keepOld (ks : List Nat) (b : Body) : Body :=
  let new := ks.filter fun k => (keyFld k).atCycle && sparseGet 0 b.bud.old k = 0
  let old := new.foldl (fun m k => sparseSet 0 m k (b.at k + 1)) b.bud.old
  { b with bud := { b.bud with old := old } }

/-- Channel n takes new values of its fields, by key: what follows from them is formed and clamped, and the changed forwarded
values travel in one frame; a gain table waits for the gang's safe point (R39, R112, R117, R146, R498). -/
def Body.setChan (e : Env) (host : Bool) (n : Nat) (kvs : List (Nat × Nat)) (b : Body) : Body :=
  let ks := kvs.map (·.1)
  let old := b
  let b := kvs.foldl (fun b kv => b.wr (keyFld kv.1) (kv.1 / 1024) kv.2) b
  let b := if ks.any fun k => (keyFld k).movesFf then b.wr .chFfstatFfI n (b.ffOf n (b.capacitance n)) else b
  let b := if ks.any fun k => (keyFld k).movesCoefs then (b.coefs n).foldl (fun b c => b.wr c.1 c.2.1 c.2.2) b else b
  let b := b.holdAll e n ks
  let follow := (b.followKeys e n ks).filter fun k => !ks.contains k && b.at k ≠ old.at k
  let out := ks.filter (fun k => (keyFld k).forwarded && !(keyFld k).isGain) ++ follow
  let b := if ks.any fun k => (keyFld k).isGain then { b with gainDue := n :: b.gainDue.filter (· ≠ n) } else b
  if out.isEmpty then b else b.sendDown (dieOf n) (.fields host (out.map fun k => (k, b.at k)))

/-! ### The other fields of HUB -/

/-- What a write of a field of the feeder port, the battery units or the calibration brings beside its value. -/
def Body.fpHook (e : Env) (f : Fld) (i old : Nat) (b : Body) : Body :=
  match f with
  | .fdrCfgEn => if b.rd f i ≠ old ∨ (b.rd f i = 1 ∧ b.fdSt i = 6) then b.fdStart e i else b
  | .fdrCfgPRated | .feederHoldcfgInfailMin => b.fdSum e
  | .feederVsetVSet | .feederVlimVmin | .feederVlimVmax => b.fdRetargetAll e
  | .feederBalBalEn =>
    if b.rd f i = 0 then b.balOff e else if old = 0 then b.onFp fun p => { p with balT := e.now } else b
  | .bbuCfgForce | .bbuCfgSelForce | .bbuCfgSelHoldup => b.bbuSet e 3
  | .metaCalintInterval => b.showDue
  | _ => b

/-- A field of HUB that belongs to no channel takes a value. SLEW acts on the references from now on (R518). -/
def Body.setHub (e : Env) (kv : Nat × Nat) (b : Body) : Body :=
  let f := keyFld kv.1
  let i := kv.1 / 1024
  let old := b.rd f i
  let b := if f = .feederSlewSlew then b.forEach (List.range 12) fun x b => b.fdAnchor e x else b
  (((b.wr f i kv.2).tmrHook e f i old).fpHook e f i old).recHook e f

/-! ### A change of configuration -/

/-- The values of a list without repeats, in the order of their first place. -/
def distinct : List Nat → List Nat
  | [] => []
  | x :: xs => x :: (distinct xs).filter (· ≠ x)

/-- The channel a key belongs to; 128 for none. -/
def keyChan (k : Nat) : Nat := if (keyFld k).ofChan then (keyFld k).unit (k / 1024) else 128

/-- Fields take new values, by key: those of each channel together, the others of HUB one by one, those held in a die in one
message to it (R31, R117, R286); host says that a host write asks for them (R36). -/
def Body.config (e : Env) (host : Bool) (kvs : List (Nat × Nat)) (b : Body) : Body :=
  let b := b.keepOld (kvs.map (·.1))
  let chans := distinct ((kvs.map fun kv => keyChan kv.1).filter (· < 128))
  let b := b.forEach chans fun n b => b.setChan e host n (kvs.filter fun kv => keyChan kv.1 = n)
  let rest := kvs.filter fun kv => keyChan kv.1 = 128
  let b := (rest.filter fun kv => !(keyFld kv.1).held).foldl (fun b kv => b.setHub e kv) b
  let held := rest.filter fun kv => (keyFld kv.1).held
  let b := b.forEach (distinct (held.map fun kv => (keyFld kv.1).unit (kv.1 / 1024))) fun k b =>
    b.sendDown k (.fields host (held.filter fun kv => (keyFld kv.1).unit (kv.1 / 1024) = k))
  if kvs.any fun kv => (keyFld kv.1).onLadder then b.loadLadders else b

/-! ### Boundaries (R16, R344, R354) -/

/-- Make a change of the metering at the present instant, a trend interval boundary: every interval that spans it closes, and
the new ones begin with the change. -/
def Body.atBoundary (e : Env) (f : Body → Body) (b : Body) : Body :=
  let b := f b
  b.forEach (List.range 8) fun k b =>
    if b.doze || b.dieOff k then b
    else if (b.fe k).lastB ≠ e.now then b.closeDie e k
    else b.forEach (dieChannels k) fun n b =>
      if b.meters n && decide ((b.en n).m.openT = e.now) then
        let x := b.newSum n
        b.onPath n fun m => { m with cur := { x with slot := m.cur.slot } }
      else b

/-- The ledger block that ends at the present instant closes first (R354, R427, R506). -/
def Body.endBlock (e : Env) (b : Body) : Body :=
  if b.builds && b.rcd.blkT0 ≠ e.count then b.closeBlock e false else b

/-- The first second boundary of the count at least 20 ms after now, on elapsed time (R354, R506). -/
def Env.boundary (e : Env) : Nat :=
  let c := e.count + 20000000
  e.now + 20000000 + (1000000000 - c % 1000000000) % 1000000000

end Sys2Proof.Machine
end

