-- ==== Sys2Proof/Machine/Patch.lean ====
section
/-!
DEFINITION. The staging commands and Patch (R501 to R509).
-/

namespace Sys2Proof.Machine

open Sys2Proof

/-- Change the start-up state. -/
def Body.onBoot (f : Boot → Boot) (b : Body) : Body := { b with boot := f b.boot }

/-! ### Staging commands (R501) -/

/-- A Patch is in a state other than idle, done or refused. -/
def Body.patchRuns (b : Body) : Bool :=
  b.boot.patch.isSome || b.boot.checked.isSome ||
    (match b.rd .modPatchstatState with
      | 0 | 5 | 6 => false
      | _ => true)

/-- A staging command starts: 1 ERASE_B, 2 PROGRAM, 3 READ, 4 PATCH; without the unlock, or while one runs, it is ignored;
ERASE_B and PROGRAM may be refused with ERR. -/
def Body.imgStart (c : Nat) (b : Body) : Body :=
  if b.flag .modImgcmdBusy || b.hubDown || (c ≠ 3 && !b.unlocked 13) then b
  else if c ≤ 2 && (b.patchRuns || !b.drives || b.flag .healthStatBrace) then b.wr .modImgcmdErr 0 1
  else (b.wr .modImgcmdBusy 0 1).onBoot fun x => { x with cmd := c }

/-- The staging command that runs ends. -/
def Body.imgEnd (ok : Bool) (b : Body) : Body :=
  let b := ((b.wr .modImgcmdBusy 0 0).wr .modImgcmdDone 0 1).onBoot fun x => { x with cmd := 0 }
  if ok then b else b.wr .modImgcmdErr 0 1

/-- The module may drive the shelf flash: SOLO or ACTIVE, and not after a takeover while its partner's heartbeat is absent for another
reason than LEAVING (R478). -/
def Body.flashFree (b : Body) : Bool := b.drives && !(b.flag .twinStatTakeover && !b.flag .twinStatHbOk && !b.twin.pLeft)

/-- Run staging command c to its end, starting it unless it runs. DESIGN CHOICE (log 223): one that may not drive the flash fails, but for
PATCH, which is refused by its own checks. -/
def Body.imgRun (c : Nat) (f : Body → Body) (b : Body) : Body :=
  let b := if b.boot.cmd = c then b else b.imgStart c
  if b.boot.cmd = c && !b.hubDown then (if b.flashFree || c = 4 then f b else b.imgEnd false) else b

/-- IMG_ERASE_B (R501). -/
def execImgEraseB (ok : Bool) (s : State) : Out :=
  .next (s.onBody fun _ b => b.imgRun 1 fun b => (b.onBoot fun x => { x with slotB := none }).imgEnd ok)

/-- IMG_PROGRAM (R501): a page of slot B, read back. -/
def execImgProgram (ok : Bool) (s : State) : Out :=
  .next (s.onBody fun _ b => b.imgRun 2 fun b => (b.onBoot fun x => { x with slotB := none }).imgEnd ok)

/-- IMG_READ (R501): the page that SRC and PAGE name, into IMGBUF. -/
def execImgRead (ok : Bool) (bytes : List Nat) (s : State) : Out :=
  .next (s.onBody fun _ b => b.imgRun 3 fun b =>
    (if ok then (List.range 64).foldl (fun b j => b.wr .modImgbufBytes j (wordAt bytes (4 * j))) b else b).imgEnd ok)

/-! ### What a Patch changes (R504) -/

/-- The fields of a channel whose change toward a lower value is stricter. -/
def Fld.lowerStrict (f : Fld) : Bool :=
  match f with
  | .chIlimIlim | .chTjloopTjLim | .chSoacfgTjSoa | .chTjtripTjTrip | .chTjtripTsTrip | .chEsoaESoa | .chLimitcfgIlimTmax
  | .chFollowFeBand | .chFollowFeTime | .chGstallGsTime | .chBuswinBusOv | .chBuswinBusTime | .chRetryDarnMax => true
  | _ => false

/-- Those whose change toward a higher value is stricter. -/
def Fld.higherStrict (f : Fld) : Bool :=
  match f with
  | .chBuswinBusUv | .chRetryRetryInterval | .chRetryBackoff => true
  | _ => false

/-- The hard-trip threshold of channel n, 0.125 mV per LSB (R158). -/
def Body.hardMv8 (b : Body) (n : Nat) : Nat :=
  if b.flag .chHtripHtFine n then b.rd .chHtripHtCode n else 4 * b.rd .chHtripHtCode n

/-- No P_MAX of channel n's SOA table rises and no VDS_BP changes, from o to t. -/
def soaStricter (o t : Body) (n : Nat) : Bool :=
  (List.range 8).all fun j => decide (t.rd .soaPMax (8 * n + j) ≤ o.rd .soaPMax (8 * n + j)) &&
    decide (t.rd .soaVdsBp (8 * n + j) = o.rd .soaVdsBp (8 * n + j))

/-- The change of the field at a key, from o to t, is toward stricter protection (R504). -/
def tightens (o t : Body) (k : Nat) : Bool :=
  let f := keyFld k
  let i := k / 1024
  if f.lowerStrict then decide (t.rd f i < o.rd f i)
  else if f.higherStrict then decide (o.rd f i < t.rd f i)
  else if f.isPol then decide (f.strict (o.rd f i) < f.strict (t.rd f i))
  else match f with
    | .chHtripHtFine | .chHtripHtCode => decide (t.hardMv8 i < o.hardMv8 i)
    | .soaPMax => soaStricter o t (i / 8)
    | _ => false

/-- The field takes effect at acceptance whichever way it changes (R200). DEDUCED (log 177): a loosening change of one still takes a channel
in EMPTY, OFF or LATCHED through the hold of R505, as the example of R509 has it. -/
def Fld.atAcceptance (f : Fld) : Bool := f = .chRetryRetryInterval || f = .chRetryBackoff || f = .chRetryDarnMax || f.isPol

/-- Metering fields, with the trend interval, which also changes at a second boundary (R425, R504). -/
def Fld.metered (f : Fld) : Bool :=
  match f with
  | .chShgainShGain | .chShtcShTc1 | .chShtcShTc2 | .chShcfgShTref | .chShcfgShOfs | .chShcfgTsrc | .recTrendcfgInterval => true
  | _ => false

/-- Bits of a die word that belong to its channels. -/
def Fld.chanBits (f : Fld) : Bool := f = .feIrangeFine || f = .feTsmodeMode

/-- The field is one that an image sets, but for the gangs. -/
def Fld.patched (f : Fld) : Bool := imgChanFlds.contains f || imgModFlds.contains f || f = .chClassPclass || f = .chCtrlEn

/-- The body as an image would have it, for comparison (R489, R498). -/
def Body.asImaged (e : Env) (b : Body) (kvs : List (Nat × Nat)) (v : ImgVals) : Body :=
  (b.putOwn kvs).forEach ((List.range 128).filter v.used) fun n b => b.holdAll e n []

/-- The value of the field at a key, where it is held. -/
def Body.held (b : Body) (k : Nat) : Nat := b.get (keyFld k) (k / 1024)

/-- The keys whose value an image changes: an img field that holds another value than the image's under its ceilings, another
field that the image gives otherwise than the image in force, or at a reload otherwise than it is held (R480, R500, R504). -/
def Body.patchKeys (e : Env) (b : Body) (v : ImgVals) (reload : Bool) : List Nat :=
  let kvs := b.imgTarget e v
  let t := b.asImaged e kvs v
  (kvs.map (·.1)).filter fun k =>
    if (keyFld k).patched then b.held k ≠ t.held k
    else keyFld k ≠ .chClassGangSize && keyFld k ≠ .chClassGangLead &&
      (if reload then b.held k ≠ t.held k else sparseGet 0 v.given k ≠ sparseGet 0 b.boot.vals.given k)

/-- The value of die word f that waits for die k last, or the value it holds. -/
def Body.feNext (b : Body) (k key : Nat) : Nat :=
  (b.fe k).down.foldl (fun x m => match m with
    | .fields _ kvs => kvs.foldl (fun x kv => if kv.1 = key then kv.2 else x) x
    | _ => x) (b.drd k (keyFld key) (key / 1024))

/-- Replace the bits of channels ns, w bits each, of a die word by those of another. -/
def takeBits (w : Nat) (old new : Nat) (ns : List Nat) : Nat :=
  ns.foldl (fun x n =>
    let lo := w * (n % 16)
    x - bits x (lo + w - 1) lo * 2 ^ lo + bits new (lo + w - 1) lo * 2 ^ lo) old

/-- Bits of each channel in a die word. -/
def Fld.chanWidth (f : Fld) : Nat := if f = .feTsmodeMode then 2 else 1

/-- The leaders whose channels' bits differ between two values of a die word. -/
def Body.bitLeaders (b : Body) (f : Fld) (k x y : Nat) : List Nat :=
  distinct (((dieChannels k).filter fun n =>
    takeBits f.chanWidth x y [n] ≠ x).map b.leadOf)

/-- The keys of a Patch that wait for the safe points: (leader, keys) (R504). -/
def Body.patchChans (e : Env) (b : Body) (v : ImgVals) (ks : List Nat) : List (Nat × List Nat) :=
  let kvs := b.imgTarget e v
  let own := (ks.filter fun k => (keyFld k).ofChan).map fun k => (b.leadOf (keyChan k), k)
  let bit := (ks.filter fun k => (keyFld k).chanBits).flatMap fun k =>
    let x := ((kvs.find? fun kv => kv.1 = k).getD (k, 0)).2
    (b.bitLeaders (keyFld k) (k / 1024) (b.held k) x).map fun l => (l, k)
  (distinct ((own ++ bit).map (·.1))).map fun l => (l, ((own ++ bit).filter fun p => p.1 = l).map (·.2))

/-! ### Application (R504 to R507) -/

/-- Take the image's values of channels ms' keys among ks, and of their bits in die words (R504); EN's edges act (R64, R81). -/
def Body.patchTake (e : Env) (v : ImgVals) (ms ks : List Nat) (b : Body) : Body :=
  let own := (ms.flatMap (b.imgChan e v)).filter fun kv => ks.contains kv.1
  let bit := (ks.filter fun k => (keyFld k).chanBits).map fun k =>
    (k, takeBits (keyFld k).chanWidth (b.feNext (k / 1024) k) (v.val 0 (keyFld k) (k / 1024)) ms)
  let b := b.config e false (own.filter (fun kv => keyFld kv.1 ≠ .chCtrlEn) ++ bit)
  let b := (own.filter fun kv => keyFld kv.1 = .chCtrlEn).foldl (fun b kv =>
    if kv.2 = 1 then b.enGo e (kv.1 / 1024) else b.enOff e (kv.1 / 1024)) b
  (b.gainDue.filter fun n => ms.contains n).foldl (fun b n => b.sendGain n) b

/-- PATCHSTAT and MOD.PENDING of the Patch that runs (R505, R510). -/
def Body.patchShow (b : Body) : Body :=
  match b.boot.patch with
  | none => b
  | some p =>
    let ls := (p.chans.filter fun c => !c.2.isEmpty).map (·.1)
    let b := (List.range 4).foldl (fun b w =>
      b.wr .modPendingMask w ((ls.filter fun l => l / 32 = w).foldl (fun a l => a + 2 ^ (l % 32)) 0)) b
    let b := b.wr .modPatchstatPending 0 ls.length
    if p.reload then (if p.chans.isEmpty && p.passed then b.onBoot fun x => { x with patch := none } else b)
    else b.wr .modPatchstatState 0 (if !ls.isEmpty then 2 else if p.passed then 4 else 3)

/-- The winner has been 1 in every loop cycle of the last LIMITCFG.EXIT (R505). -/
def Body.steadyWin (b : Body) (l : Nat) : Bool :=
  decide (b.cd .chLimitcfgExit l * 10000 ≤ (b.en l).freeWins * 800)

/-- Channel l's changes leave the Patch. -/
def Body.patchDrop (l : Nat) (b : Body) : Body :=
  b.onBoot fun x => { x with patch := x.patch.map fun p => { p with chans := p.chans.filter fun c => c.1 ≠ l } }

/-- Leader l, if it is at a safe point, takes its changes (R505). -/
def Body.patchChan (e : Env) (l : Nat) (b : Body) : Body :=
  match b.boot.patch with
  | none => b
  | some p =>
    match p.chans.find? (fun c => c.1 = l) with
    | none => b
    | some c =>
      let take := fun (b : Body) => ((b.patchTake e p.vals (b.membersOf l) c.2).patchDrop l).patchShow
      match (b.ch l).state with
      | .empty | .off | .latched => (take (b.deliver e l (.hold 0x32) e.now)).deliver e l (.release 0x32) e.now
      | .held => if (b.ch l).holds = [0x32] then (take b).deliver e l (.release 0x32) e.now else b
      | .on => if b.steadyWin l then take b else b
      | .seating | .queued | .cooling | .shed | .refused | .fetFault => take b
      | .unconfigured | .bench => (b.patchDrop l).patchShow
      | .ramp | .limit | .capped => b

/-- The channel waits for a Patch in HELD (R505). -/
def Body.patchHolds (b : Body) (l : Nat) : Bool :=
  match (b.ch l).state with
  | .empty | .off | .latched => true
  | _ => false

/-- A channel reached by a Patch in EMPTY, OFF or LATCHED at acceptance is held for it (R505). -/
def Body.patchFirst (e : Env) (l : Nat) (b : Body) : Body :=
  if b.patchHolds l then b.deliver e l (.hold 0x32) e.now else b.patchChan e l

/-- The leaders that are held at acceptance though no change of theirs is left to apply (R200, R505, R509). -/
def Body.patchPass (b : Body) (ks : List Nat) (chans : List (Nat × List Nat)) : List (Nat × List Nat) :=
  let ls := (distinct ((ks.filter fun k => (keyFld k).ofChan).map fun k => b.leadOf (keyChan k))).filter b.patchHolds
  (ls.filter fun l => !chans.any fun c => c.1 = l).map fun l => (l, [])

/-- Sort the changes of an image and apply what applies at once (R480, R504). -/
def Body.patchStart (e : Env) (img : ImgSlot) (oldSeq : Nat) (reload : Bool) (b : Body) : Body :=
  let v := img.vals
  let ks := b.patchKeys e v reload
  let t := b.asImaged e (b.imgTarget e v) v
  let live (k : Nat) : Bool := !(keyFld k).ofChan ||
    (match (b.ch (b.leadOf (keyChan k))).state with | .unconfigured | .bench => false | _ => true)
  let ks := ks.filter live
  let meter := ks.filter fun k => (keyFld k).metered
  let rest := ks.filter fun k => !(keyFld k).metered
  let tight := rest.filter fun k => tightens b t k || (keyFld k).atAcceptance
  let mods := rest.filter fun k => !(keyFld k).ofChan && !(keyFld k).chanBits
  let chans := b.patchChans e v (rest.filter fun k => !tight.contains k && !mods.contains k)
  let chans := chans ++ b.patchPass (rest.filter fun k => (keyFld k).atAcceptance && !tightens b t k) chans
  let b := b.onBoot fun x => { x with vals := v, patch := some ⟨img, v, chans, meter, e.boundary, false, oldSeq, reload⟩ }
  let b := b.config e false ((b.imgTarget e v).filter fun kv => tight.contains kv.1 || mods.contains kv.1)
  (b.forEach (chans.map (·.1)) fun l b => b.patchFirst e l).patchShow

/-- A Patch takes no step: HUB is in reset, a Seam is between T_P and T_S, or the module is frozen (R508, R580). -/
def Body.patchRests (b : Body) : Bool := b.hubDown || b.froze || b.flag .healthStatFreeze

/-- PATCH_SAFE_POINT (R505). -/
def execPatchSafePoint (n : ChIx) (s : State) : Out :=
  .next (s.onBody fun e b => if !b.drives || b.patchRests then b else b.patchChan e (b.leadOf n))

/-- The instant of a boundary that was fixed for an elapsed instant t: t itself or, once t has passed, the next second boundary of the
count (R506). DESIGN CHOICE (log 226): so for a Patch that could take no step at its B_P. -/
def State.boundaryFrom (s : State) (t : Nat) : Nat :=
  let now := s.time.elapsed
  if now ≤ t then t else now + (1000000000 - s.time.count % 1000000000) % 1000000000

/-- PATCH_METERING_APPLY (R506): at B_P. -/
def Body.patchMeter (e : Env) (p : Patch) (b : Body) : Body :=
  let b := b.endBlock e
  let b := b.atBoundary e fun b => b.config e false ((b.imgTarget e p.vals).filter fun kv => p.meter.contains kv.1)
  let b := b.onBoot fun x => { x with patch := some { p with passed := true, meter := [] } }
  (if p.reload then b else b.imageRec e.count 2 p.img).patchShow

/-- PATCH_METERING_APPLY (R506). -/
def execPatchMeteringApply (s : State) : Out :=
  match s.body.boot.patch with
  | none => .next s
  | some p =>
    if p.passed || !s.body.drives || s.body.patchRests then .next s
    else .next ((s.goTo (s.boundaryFrom p.bP)).onBody fun e b => b.patchMeter e p)

/-! ### PATCH, its acceptance and its end (R502, R503, R507, R509) -/

/-- The Patch is refused. -/
def Body.patchRefuse (e : Env) (code seq : Nat) (b : Body) : Body :=
  let b := ((b.wr .modPatchstatState 0 6).wr .modPatchstatRefuse 0 code).onBoot fun x => { x with checked := none }
  ((b.raise (10, 12)).event e.count 0x0301 0xFF code seq 0).imgEnd false

/-- A slot is rejected: its leaf and EVENT 0x0300 (R486, R512). -/
def Body.slotReject (e : Env) (slot code : Nat) (b : Body) : Body :=
  ((b.wr (if slot = 0 then .modImgstatRejA else .modImgstatRejB) 0 code).raise (10, 8)).event e.count 0x0300 0xFF slot code 0

/-- USED, GANG_SIZE, GANG_LEAD or a used channel's RSH_NOM differ from the image in force (R502). -/
def fixedDiffers (o v : ImgVals) : Bool :=
  (List.range 128).any fun n =>
    o.used n ≠ v.used n || o.gsize n ≠ v.gsize n || o.glead n ≠ v.glead n ||
      (v.used n && sparseGet 0 o.given (fkey .chRshRshNom n) ≠ sparseGet 0 v.given (fkey .chRshRshNom n))

/-- What keeps a Patch from starting: BUSY before ROLE (R502). -/
def Body.patchBars (b : Body) : Nat :=
  let seam := match b.twin.seam with
    | some s => s.plan.isSome && !s.passedS
    | none => false
  if b.patchRuns || b.holdup || b.flag .healthStatBrace || seam then 1 else if !b.drives then 2 else 0

/-- PATCH: slot B is read and checked (R502); no bytes stand for a read that failed. -/
def Body.patchCheck (e : Env) (bytes : List Nat) (b : Body) : Body :=
  let seq := wordAt bytes 0xC
  let bar := b.patchBars
  if bar ≠ 0 then b.patchRefuse e bar seq
  else
    let b := (b.wr .modPatchstatState 0 1).wr .modPatchstatRefuse 0 0
    if bytes.isEmpty || !b.flashFree then b.patchRefuse e 7 seq
    else match b.imageCheck e bytes with
      | (code, none) => (b.slotReject e 1 code).patchRefuse e 3 seq
      | (_, some img) =>
        let b := b.wr .modImgstatRejB 0 0
        if img.seq ≤ b.rd .modImgseqSeq then b.patchRefuse e 4 seq
        else if fixedDiffers b.boot.vals img.vals then b.patchRefuse e 5 seq
        else
          let b := if b.role = .active then b.sendBluli 2 img.words else b
          b.onBoot fun x => { x with checked := some img }

/-- The checks that a STANDBY module makes of the image that its partner is to take, by REFUSE of R502; 0 where it agrees (R509). -/
def Body.patchAgrees (e : Env) (bytes : List Nat) (b : Body) : Nat :=
  match b.imageCheck e bytes with
  | (_, none) => 3
  | (_, some img) =>
    if img.seq ≤ b.rd .modImgseqSeq then 4 else if fixedDiffers b.boot.vals img.vals then 5 else 0

/-- BLULI_STATE_CHANGE (R456): the STANDBY module takes it; a trip report goes to the ACTIVE module (R460), a serial to either
(R476); a staged image is checked and answered (R509). -/
def execBluliStateChange (m : MirrorItem) (s : State) : Out :=
  .next (s.onFrame fun e b =>
    match m with
    | .trip n t => if b.role = .active then b.partnerTrip e n t else b
    | .serial ws => if b.flag .twinStatHbOk then b.partnerSn ws else b
    | .staged bytes => if b.mirrors then b.sendBluli 2 [b.patchAgrees e bytes] else b
    | m => if b.mirrors then b.mirror e m else b)

/-- PATCH (R502). -/
def execPatch (bytes : List Nat) (s : State) : Out :=
  .next (s.onBody fun e b => b.imgRun 4 fun b => if b.boot.checked.isSome then b else b.patchCheck e bytes)

/-- A Patch is accepted: slot B is in force (R503). -/
def Body.patchAccept (e : Env) (img : ImgSlot) (b : Body) : Body :=
  let img := { img with committed := true }
  let old := b.rd .modImgseqSeq
  let b := (b.imgEnd true).onBoot fun x => { x with checked := none, slotB := some img }
  ((b.wr .modImgstatSlot 0 1).calInterrupt e).showImage img |>.patchStart e img old false

/-- PATCH_ACCEPT (R503, R509): the STANDBY partner's answer, and whether COMMIT has been programmed and read back. -/
def execPatchAccept (partner ok : Bool) (s : State) : Out :=
  .next (s.onBody fun e b =>
    match b.boot.checked with
    | none => b
    | some img =>
      if b.patchRests then b
      else if b.role = .active && !partner then b.patchRefuse e 6 img.seq
      else if !ok || !b.flashFree then b.patchRefuse e 7 img.seq
      else b.patchAccept e img)

/-- Slot A has been written from slot B and reads back, or does not (R507). -/
def Body.copied (e : Env) (ok : Bool) (b : Body) : Body :=
  if ok then
    let b := ((b.onBoot fun x => { x with slotA := x.slotB }).wr .modImgstatRejA 0 0).wr .modImgstatSlot 0 0
    match b.boot.patch with
    | some p =>
      let b := (b.onBoot fun x => { x with patch := none }).wr .modPatchstatState 0 5
      (b.raise (10, 13)).event e.count 0x0302 0xFF p.oldSeq (b.rd .modImgseqSeq) 0
    | none => b
  else
    let r := b.free
    (r.2.onBoot fun x => { x with slotA := none, patch := none }).slotReject e 0 (r.1 % 10 + 1)

/-- The copy to slot A is due: the Patch is complete, or slot B was in force at a start (R507). -/
def Body.copies (b : Body) : Bool :=
  b.flashFree && !b.patchRests && !b.flag .healthStatBrace &&
    (match b.boot.patch with
      | some p => p.passed && p.chans.isEmpty
      | none => b.boot.copyDue)

/-- PATCH_SLOT_COPY (R507): it pauses during brace. -/
def execPatchSlotCopy (ok : Bool) (s : State) : Out :=
  .next (s.onBody fun e b => if b.copies then (b.copied e ok).onBoot fun x => { x with copyDue := false } else b)

end Sys2Proof.Machine
end

