-- ==== Sys2Proof/Machine/Start.lean ====
section
/-!
DEFINITION. The module's starts and restarts (R44, R45, R333, R346, R347, R379, R477 to R492, R584, R586), the unlocks (R499) and
the Starch bank (R493 to R496).
-/

namespace Sys2Proof.Machine

open Sys2Proof

/-! ### Starch (R493 to R496) -/

/-- The fuses: each bit is the OR of its two copies (R493). -/
def Starch.fuses (s : Starch) : Sparse :=
  (List.range 128).foldl (fun m w => sparseSet 0 m w (orBits (sparseGet 0 s.copyA w) (sparseGet 0 s.copyB w))) []

/-- A bit differs between the copies. -/
def Starch.differs (s : Starch) : Bool := (List.range 128).any fun w => sparseGet 0 s.copyA w ≠ sparseGet 0 s.copyB w

/-- The CRC over words 0 to 126 (R493). -/
def starchCrc (m : Sparse) : Nat := crc32 ((List.range 127).flatMap fun w => leBytes 4 (sparseGet 0 m w))

/-- SEAL is 1. -/
def sealed (m : Sparse) : Bool := bitAt (sparseGet 0 m 1) 31

/-- CLASS.FCLASS of every slot (R493). -/
def Body.loadClasses (m : Sparse) (b : Body) : Body :=
  b.forEach (List.range 128) fun n b =>
    b.wr .chClassFclass n (bits (sparseGet 0 m (48 + n / 10)) (3 * (n % 10) + 2) (3 * (n % 10)))

/-- Every channel is UNCONFIGURED. -/
def Body.allUnconf (b : Body) : Bool := (List.range 128).all fun n => (b.ch n).state = .unconfigured

/-- The conditions of a fuse session (R495). -/
def Body.fuseOk (e : Env) (b : Body) : Bool :=
  b.unlocked 14 && !sealed e.map && b.allUnconf && decide (1140 ≤ b.rd .healthAuxV) && decide (b.rd .healthAuxV ≤ 1320) &&
    (List.range 8).all fun k => decide (b.rd .healthTempT (k + 1) ≤ 2240)

/-- A fuse command ends with a result (R511). -/
def Body.fuseEnd (r : Nat) (b : Body) : Body :=
  ((b.wr .starchFusectlBusy 0 0).wr .starchFusectlResult 0 r).onBoot fun x => { x with fuseCmd := 0 }

/-- The result that a fuse command is refused with, 0 for none: 1 BURN, 2 SEAL, 3 RELOAD (R495). -/
def fuseBar (e : Env) (st : Starch) (b : Body) (c : Nat) : Nat :=
  if !b.fuseOk e then 4
  else if c = 1 ∧ (List.range 128).any (fun w => andNot (sparseGet 0 st.fuses w) (sparseGet 0 st.map w) ≠ 0) then 2
  else if c = 2 ∧ (sparseGet 0 st.map 0 = 0 ∨ st.map ≠ st.fuses) then 4
  else 0

/-- A fuse command starts, or is refused; while one runs, or HUB is in reset, it is ignored. -/
def State.fuseStart (c : Nat) (s : State) : State :=
  s.onBody fun e b =>
    if b.boot.fuseCmd ≠ 0 || b.hubDown then b
    else
      let r := fuseBar e s.starch b c
      if r = 0 then (b.wr .starchFusectlBusy 0 1).onBoot fun x => { x with fuseCmd := c } else b.fuseEnd r

/-- EVENT 0x0303 (R495, R512). -/
def Body.burned (e : Env) (arg0 : Nat) (b : Body) : Body :=
  b.event e.count 0x0303 0xFF arg0 (ofLeBytes ((starchDigest e.map).take 4)) 0

/-- Blow the bits of a map in a copy. -/
def blow (copy map : Sparse) : Sparse :=
  (List.range 128).foldl (fun m w => sparseSet 0 m w (orBits (sparseGet 0 m w) (sparseGet 0 map w % 2 ^ 32))) copy

/-- Which bits of a map have been blown where the read-back differs is open: a free subset. -/
def Body.someBits (map : Sparse) (b : Body) : Sparse × Body :=
  (List.range 128).foldl (fun p w =>
    let r := p.2.free
    (sparseSet 0 p.1 w (andBits (sparseGet 0 map w) r.1), r.2)) ([], b)

/-- Burn words into both copies, with the outcome of the read-back; the map in force follows a completed SEAL. -/
def State.burn (words : Sparse) (ok : Bool) (arg0 result : Nat) (s : State) : State :=
  if ok then
    let st := { s.starch with copyA := blow s.starch.copyA words, copyB := blow s.starch.copyB words }
    let s : State := { s with starch := if arg0 = 2 then { st with map := words } else st }
    s.onBody fun e b => (b.fuseEnd result).burned e arg0
  else
    let pa := s.body.someBits words
    let pb := pa.2.someBits words
    let s : State := { s with body := pb.2, starch :=
      { s.starch with copyA := blow s.starch.copyA pa.1, copyB := blow s.starch.copyB pb.1 } }
    s.onBody fun _ b => b.fuseEnd 3

/-- STARCH_BURN (R495). -/
def execStarchBurn (ok : Bool) (s : State) : Out :=
  let s := if s.body.boot.fuseCmd = 1 then s else s.fuseStart 1
  .next (if s.body.boot.fuseCmd = 1 && !s.body.hubDown then s.burn s.starch.map ok 1 1 else s)

/-- The map with SEAL and its CRC word (R493, R495). -/
def sealedMap (m : Sparse) : Sparse :=
  let m := sparseSet 0 m 1 (setBit (sparseGet 0 m 1) 31)
  sparseSet 0 m 127 (starchCrc m)

/-- STARCH_SEAL (R495). -/
def execStarchSeal (ok : Bool) (s : State) : Out :=
  let s := if s.body.boot.fuseCmd = 2 then s else s.fuseStart 2
  .next (if s.body.boot.fuseCmd = 2 && !s.body.hubDown then s.burn (sealedMap s.starch.map) ok 2 5 else s)

/-- The map in force becomes another (R494, R495). -/
def State.setMap (m : Sparse) (s : State) : State :=
  ({ s with starch := { s.starch with map := m } } : State).onBody fun e b => b.loadClasses e.map

/-- STARCH_RELOAD (R495). -/
def execStarchReload (s : State) : Out :=
  let s := if s.body.boot.fuseCmd = 3 then s else s.fuseStart 3
  .next (if s.body.boot.fuseCmd = 3 && !s.body.hubDown then
    (s.setMap s.starch.fuses).onBody fun _ b => b.fuseEnd 1 else s)

/-! ### The calibration at a start (R346, R347, R356, R357) -/

/-- Bytes of a bank from word 0 on. -/
def bankBytes (m : Sparse) (words : Nat) : List Nat := (List.range words).flatMap fun w => leBytes 4 (sparseGet 0 m w)

/-- SEQ of a valid COMMIT; none where it is not valid (R346). -/
def bankSeq (m : Sparse) : Option Nat :=
  let q := sparseGet 0 m 2
  if q ≠ 0 ∧ q ≠ 2 ^ 32 - 1 ∧ sparseGet 0 m 3 = 2 ^ 32 - 1 - q then some q else none

/-- The CRC word that fits a bank (R345). -/
def bankCrc (m : Sparse) : Nat := crc32 (bankBytes (sparseSet 0 (sparseSet 0 m 2 0) 3 0) 1280)

/-- A bank is valid (R346). -/
def bankOk (m : Sparse) : Bool :=
  (bankSeq m).isSome && decide (sparseGet 0 m 0 = 0x4B594342) && decide (sparseGet 0 m 1 = 0x00011404) &&
    decide (sparseGet 0 m 1280 = bankCrc m)

/-- A bank is in force: 0, 1, or 3 for the manufacture coefficients (R344, R347, R357). -/
def Body.takeBank (k : Nat) (b : Body) : Body :=
  let b := b.wr .metaCalstatBank 0 k
  let w (i : Nat) := sparseGet 0 b.bank i
  let none' := decide (k = 3)
  let b := (b.wr .metaEpochEpoch 0 (if none' then 0 else w 4)).wr .metaCalseqSeq 0 (if none' then 0 else w 2)
  let b := (b.wr .metaCalstatNone 0 (bit none')).wr .metaCalstatTimeUntraced 0 (if none' then 0 else bit (bitAt (w 5) 2))
  let d := beWords (sha256 (bankBytes b.bank 1281))
  let b := (List.range 8).foldl (fun b i => b.wr .metaDigestD i (d.getD i 0)) b
  (b.onMtr fun m => { m with dueFrom := if none' then 0 else w 41, rolled := false }).showDue

/-- The module selects its calibration (R347). -/
def Body.selectBank (e : Env) (b : Body) : Body :=
  let banks := [(0, b.mtr.bank0), (1, b.mtr.bank1)].filterMap fun p => (bankSeq p.2).map fun q => (p.1, q, bankOk p.2)
  let top := match banks with
    | [x, y] => some (if x.2.1 < y.2.1 then (y, some x) else (x, some y))
    | [x] => some (x, none)
    | _ => none
  let noBank := fun (b : Body) => (b.takeBank 3).event e.count 0x0103 0xFF 0 0 0
  match top with
  | none => noBank b
  | some (x, y) =>
    if x.2.2 then b.takeBank x.1
    else match y with
      | some y =>
        if y.2.2 then
          let b := ((b.takeBank y.1).wr .metaCalstatRollback 0 1).onMtr fun m => { m with rolled := true }
          (b.raise (10, 3)).event e.count 0x0102 0xFF (b.rd .metaEpochEpoch) x.2.1 0
        else noBank b
      | none => noBank b

/-! ### Module start (R202, R276, R333, R379, R477) -/

/-- The count that a start loads: the newest valid checkpoint's time plus 1 s, or 0 (R379). -/
def startCount (cs : List Ckpt) : Nat :=
  match newestCkpt (fun _ => true) cs with
  | some c => (c.time + 1000000000) % 2 ^ 64
  | none => 0

/-- The registers that a start takes from the ledger store or from manufacture (R202, R433, R558, R586, R587). -/
def Fld.keptByStart (f : Fld) : Bool :=
  match f with
  | .chTripcntTrips | .chTripcntLatches | .healthOphoursHours | .healthWdcntHub | .modSerialBytes | .recKeyidKeyId
  | .recCertlenBytes => true
  | _ => false

/-- What a channel keeps over a module start: its raw seat, its bench record (R68), and that a latch or FET_FAULT was set, which its
IMAGE_OK clears (R202, R435). -/
def Chan.restarted (c : Chan) : Chan :=
  { Chan.reset with seatRaw := c.seatRaw, benchRec := c.benchRec, kept := c.kept || c.eff = .latched || c.eff = .fetFault }

/-- A field that says which slice of a converter stays out for good: its retired slices, the one out of service, CAL_FROZEN (R274). -/
def Fld.retired (f : Fld) : Bool :=
  match f with
  | .feCvstatCvaRet | .feCvstatCvbRet | .feCvstatCvaOut | .feCvstatCvbOut | .feCvstatCalFrozen => true
  | _ => false

/-- What a die keeps: its one-time memory, HUB's copies of trims and tables (R276), and its retired slices, with the places of those in
service (R274). -/
def Die.restarted (k : Nat) (d : Die) : Die :=
  let frozen := decide (regGet d.regs .feCvstatCalFrozen k ≠ 0)
  { Die.reset with
    otpTrims := d.otpTrims, otpLin := d.otpLin, hubTrims := d.hubTrims, hubLin := d.hubLin, hubValid := d.hubValid
    regs := if frozen then d.regs.filter fun x => (keyFld x.1).retired else []
    posA := if frozen then d.posA else Die.reset.posA
    posB := if frozen then d.posB else Die.reset.posB }

/-- The body right after the start's reset, with what the ledger store, one-time memory and the pins hold. -/
def Body.restarted (now : Nat) (o : Body) : Body :=
  let b := Body.reset
  { b with
    regs := o.regs.filter fun x => (keyFld x.1).keptByStart
    chan := o.chan.map Chan.restarted
    eng := o.eng.map fun g => { Eng.reset with polesRepT := now, m := { MPath.reset with openT := now, lastMw := g.m.lastMw } }
    die := o.die.mapIdx fun k d => d.restarted k
    bud := { b.bud with lastCycle := now }
    rcd := { b.rcd with signed := o.rcd.signed, perst := (now + 100000000, now + 100000000) }
    mtr := { b.mtr with bank0 := o.mtr.bank0, bank1 := o.mtr.bank1, bankM := o.mtr.bankM, ckpts := o.mtr.ckpts,
                        written := o.mtr.written, epochHigh := o.mtr.epochHigh }
    disc := { b.disc with saved := o.disc.saved }
    tmr := { b.tmr with tick := now / 1000 }
    health := { b.health with auxT := now, hourT := now }
    fdr := { b.fdr with balT := now, bbuDue := (now, now), hangT := now }
    twin := { b.twin with openA := o.twin.openA, openB := o.twin.openB, madeT := o.twin.madeT, txT := some now }
    boot := { b.boot with startT := now }
    alertHold := false
    freeIx := o.freeIx }

/-- The window of strap value i in ohms (R537, R596): the nominal resistance ± 0.8 kΩ, that of 0 from 0 Ω, that of 15 above
31 kΩ. -/
def strapWindow (i : Nat) : Nat × Nat :=
  match [2000, 4020, 6040, 8060, 10000, 12100, 14000, 16200, 18200, 20000, 22100, 24300, 26100, 28000][i - 1]? with
  | some r => if i = 0 then (0, 800) else (r - 800, r + 800)
  | none => (31001, 2 ^ 32)

/-- How far a reading lies outside the window of strap value i. -/
def strapMiss (ohms i : Nat) : Nat := ((strapWindow i).1 - ohms) + (ohms - (strapWindow i).2)

/-- ADDRSEL decoded (R537, R596): the strap value whose window holds the reading; between two windows the nearer one, and the
reading is ambiguous. -/
def strapOf (ohms : Nat) : Nat × Bool :=
  let o := min ohms (2 ^ 32)
  let s := (List.range 16).foldl (fun a i => if strapMiss o i < strapMiss o a then i else a) 0
  (s, decide (strapMiss o s ≠ 0))

/-- What HUB reads and checks in phases 1 to 3 (R477, R493, R496, R537). -/
def Body.startReads (strap : Nat) (ambig differs : Bool) (e : Env) (b : Body) : Body :=
  let b := ((b.wr .modStrapS 0 strap).wr .modStrapAmbig 0 (bit ambig)).wr .twinStatSlot 0 (strap % 2)
  let b := (b.loadClasses e.map).wr .starchStatCopyDiff 0 (bit differs)
  let b := if sealed e.map ∧ starchCrc e.map ≠ sparseGet 0 e.map 127 then
      (b.wr .starchStatFault 0 1).wr .modImgstatCause 0 4 else b
  let b := (List.range 8).foldl (fun b k => b.wr .modFeclkDev k 0x800000) b
  let b := (b.wr .tbFreqSteer 0 b.disc.saved).wr .modBootPhase 0 3
  b.selectBank e

/-- MODULE_START (R477): phases 0 to 2 and the entry to phase 3, as AUX12 comes good; ohms is the resistance that ADDRSEL shows at 100 µA. -/
def execModuleStart (ohms : Nat) (s : State) : Out :=
  let m := s.starch.fuses
  let t : Time := { s.time with count := startCount s.body.mtr.ckpts % 2 ^ 64, frac := 0 }
  let s' : State := { s with time := t, starch := { s.starch with map := m }, body := s.body.restarted s.time.elapsed }
  .next (s'.onBody fun e b => b.startReads (strapOf ohms).1 (strapOf ohms).2 s.starch.differs e)

/-- SOLO_DECISION (R451, R477): at 100 ms after the transmitters have started; it waits at the shutdown level (R578). -/
def execSoloDecision (s : State) : Out :=
  match s.body.twin.txT with
  | none => .next s
  | some t =>
    if s.body.role ≠ .starting || s.body.twin.heard || !s.body.flag .twinStatSeated || s.body.hubDown || s.body.health.lvl = 4 then
      .next s
    else .next ((s.goTo (t + 100000000)).onBody fun e b => b.becomeSolo e)

/-! ### The shelf flash (R478, R481 to R483, R492) -/

/-- The module reads the shelf flash for a start: it drives the flash, every channel is UNCONFIGURED, no Starch fault (R478, R492). -/
def Body.readsFlash (b : Body) : Bool :=
  b.flashFree && !b.hubDown && b.allUnconf && !b.flag .starchStatFault

/-- No image can be had: its cause, and a retry every 10 s (R492). -/
def Body.noImage (e : Env) (cause : Nat) (b : Body) : Body :=
  let b := (((b.wr .modImgstatCause 0 cause).wr .modImgstatSlot 0 3).wr .modImgstatRetrying 0 1).wr .metaBenchstatExiting 0 0
  b.onBoot fun x => { x with retryT := some (x.retryT.getD (e.now + 10000000000)) }

/-- MODE of FLASHID (R482, R510). -/
def flashMode (f : FlashInfo) : Nat :=
  if f.quad144 && f.quadEnable then 3 else if f.quad114 && f.quadEnable then 2 else 1

/-- The outcome of SFDP discovery (R482, R492). -/
def Body.discovered (e : Env) (f : Option FlashInfo) (b : Body) : Body :=
  let b := b.onBoot fun x => { x with flash := f, readA := false, readB := false }
  match f with
  | none => (((b.wr .modFlashidMode 0 0).wr .modFlashidAddr 0 0).wr .modFlashidJedecId 0 0).noImage e 1
  | some i => ((b.wr .modFlashidMode 0 (flashMode i)).wr .modFlashidAddr 0 (if i.over128 then 4 else 3)).wr .modFlashidJedecId 0 i.jedec.toNat

/-- FLASH_DISCOVERY (R482). -/
def execFlashDiscovery (f : Option FlashInfo) (s : State) : Out :=
  .next (s.onBody fun e b => if b.readsFlash then b.discovered e f else b)

/-- The slot in force: the valid, committed one with the higher SEQ, A between equals (R483). -/
def Boot.chosen (x : Boot) : Option (Nat × ImgSlot) :=
  let ok := fun (s : Option ImgSlot) => match s with
    | some i => if i.committed then some i else none
    | none => none
  match ok x.slotA, ok x.slotB with
  | some a, some b => some (if a.seq < b.seq then (1, b) else (0, a))
  | some a, none => some (0, a)
  | none, some b => some (1, b)
  | none, none => none

/-- Both slots have been checked: the image in force is to be applied, phase 6 of a start (R477, R483, R492). -/
def Body.slotsRead (e : Env) (b : Body) : Body :=
  match b.boot.chosen with
  | some c => (if b.rd .modBootPhase = 5 then b.wr .modBootPhase 0 6 else b).wr .modImgstatSlot 0 c.1
  | none => b.noImage e (if b.rd .modImgstatRejA = 8 ∧ b.rd .modImgstatRejB = 8 then 3 else 2)

/-- A slot is read and checked (R486). -/
def Body.slotRead (e : Env) (slot : Nat) (bytes : List Nat) (b : Body) : Body :=
  let r := b.imageCheck e bytes
  let b := b.onBoot fun x =>
    if slot = 0 then { x with slotA := r.2, readA := true } else { x with slotB := r.2, readB := true }
  let b := if r.1 = 0 then b.wr (if slot = 0 then .modImgstatRejA else .modImgstatRejB) 0 0 else b.slotReject e slot r.1
  if b.boot.readA && b.boot.readB then b.slotsRead e else b

/-- IMAGE_READ_CHECK (R486). -/
def execImageReadCheck (slotB : Bool) (bytes : List Nat) (s : State) : Out :=
  .next (s.onBody fun e b =>
    if b.readsFlash && b.boot.flash.isSome then b.slotRead e (bit slotB) bytes else b)

/-- At module start the poles of channel n stand at 0, and with AMB_SRC 0 and a sensor its first TS_MEAS loads them (R148). -/
def Body.startPoles (n : Nat) (b : Body) : Body :=
  if b.rd .chAmbcfgAmbSrc n = 1 || !b.flag .chAmbcfgTsFitted n then b else b.onEng n fun g => { g with polesDue := true }

/-- The image in force is applied, and start-up ends (R477, R489, R507). -/
def Body.startImage (e : Env) (slot : Nat) (img : ImgSlot) (b : Body) : Body :=
  let first := !b.boot.imaged
  let b := b.applyImage e img
  let b := if first then b.forEach ((List.range 128).filter fun n => (b.ch n).used) fun n b => b.startPoles n else b
  let b := (((b.wr .modImgstatCause 0 0).wr .modImgstatRetrying 0 0).wr .metaBenchstatExiting 0 0).onBoot fun x =>
    { x with retryT := none, readA := false, readB := false, copyDue := slot = 1 }
  if b.rd .modBootPhase = 7 then b else b.startEnds e

/-- IMAGE_APPLY (R489). -/
def execImageApply (s : State) : Out :=
  .next (s.onBody fun e b =>
    if !b.readsFlash || !b.boot.readA || !b.boot.readB then b
    else match b.boot.chosen with
      | some c => b.startImage e c.1 c.2
      | none => b)

/-- IMAGE_RETRY (R492): discovery and reading are repeated. -/
def execImageRetry (s : State) : Out :=
  match s.body.boot.retryT with
  | none => .next s
  | some t => .next ((s.goTo t).onBody fun e b =>
      if b.readsFlash then
        b.onBoot fun x => { x with retryT := some (e.now + 10000000000), flash := none, readA := false, readB := false }
      else b)

/-- The host accepts a start without its twin: the write sets the bit and ends the hold (R6, R479). -/
def Body.soloAccept (e : Env) (b : Body) : Body :=
  if b.unlocked 9 && !b.hubDown then (b.wr .modBootSoloAccept 0 1).endSoloHold e else b

/-- SOLO_ACCEPT (R479). -/
def execSoloAccept (s : State) : Out := .next (s.onBody fun e b => b.soloAccept e)

/-! ### Unlocks (R499) -/

/-- A write of MOD.EXPERT. -/
def Body.expert (e : Env) (w : Nat) (b : Body) : Body :=
  if b.hubDown || bits w 31 16 ≠ 0x7128 then b
  else (b.wr .modExpertUnlock 0 (bits w 15 0)).onBoot fun x => { x with unlockEnd := some (e.now + 600000000000) }

/-- Every unlock clears. -/
def Body.lockAll (b : Body) : Body := (b.wr .modExpertUnlock 0 0).onBoot fun x => { x with unlockEnd := none }

/-- EXPERT_UNLOCK (R499). -/
def execExpertUnlock (value : Word) (s : State) : Out := .next (s.onBody fun e b => b.expert e value.toNat)

/-- EXPERT_UNLOCK_TIMEOUT (R499). -/
def execExpertUnlockTimeout (s : State) : Out :=
  match s.body.boot.unlockEnd with
  | none => .next s
  | some t => .next ((s.goTo t).onHub fun _ b => b.lockAll)

/-! ### Clocks (R44, R45, R584, R586) -/

/-- MOD.CLKMON as it reads (R48). -/
def Body.clkmon (b : Body) : Nat :=
  b.rd .modClkmonFeFail + 256 * b.rd .modClkmonTbFail + 512 * b.rd .modClkmonPcieFail + 1024 * b.rd .modClkmonBasketFail
    + 2048 * b.rd .modClkmonHubRestart

/-- A monitored clock has failed (R45). -/
def Body.clockFails (e : Env) (c : ClockId) (b : Body) : Body :=
  let note := fun (b : Body) => b.event e.count 0x0109 0xFF b.clkmon 0 0
  match c with
  | .fe k => (note ((b.wr .modClkmonFeFail 0 (setBit (b.rd .modClkmonFeFail) k)).raise (1, 8 + k))).dieReset e k false
  | .tb => (note ((b.wr .modClkmonTbFail 0 1).raise (3, 3))).tbFails e
  | .pcie => ((note ((b.wr .modClkmonPcieFail 0 1).raise (6, 4))).linkLoss e 0).linkLoss e 1
  | .basket => (note (b.wr .modClkmonBasketFail 0 1)).basketFail e

/-- CLOCK_FAIL (R45). -/
def execClockFail (c : ClockId) (s : State) : Out := .next (s.onBody fun e b => if b.hubDown then b else b.clockFails e c)

/-- HUB goes into reset; it drives no port, and every fan is at 100 % at once (R44, R401, R526). -/
def Body.hubReset (e : Env) (b : Body) : Body :=
  if b.hubDown then b
  else
    let b := if b.bbuDrives then b.bbuRelease e else b
    let b := (List.range 8).foldl (fun b k => b.wr .fanStatLive k 10000) b
    { b with hubDown := true, boot := { b.boot with downT := e.now } }

/-- HUB_CLOCK_LOSS (R44). -/
def execHubClockLoss (s : State) : Out := .next (s.onBody fun e b => b.hubReset e)

/-- A time of CLK_HUB in elapsed ns, from a free value: CLK_HUB runs within ±2 % of its frequency (R44, R378). -/
def hubTime (ns x : Nat) : Nat := ns * 100 / 102 + x % (ns * 100 / 98 - ns * 100 / 102 + 1)

/-- HUB_WATCHDOG (R586): 10 ms of CLK_HUB after the last completed budget cycle. -/
def execHubWatchdog (s : State) : Out :=
  if s.body.hubDown || s.body.doze || !s.body.cycles then .next s
  else .next ((s.goTo (s.body.bud.lastCycle + hubTime 10000000 s.body.free.1)).onBody fun e b =>
    (b.free.2.hubReset e).onHealth fun h => { h with wdPend := true })

/-- AUX12_RESET (R584): HUB in reset, every die in gate keep on its keeper. -/
def execAux12Reset (s : State) : Out :=
  .next (s.onBody fun e b =>
    let b := (b.hubReset e).onHealth fun h => { h with auxOff := true }
    b.forEach (List.range 8) fun k b => ((b.enterKeep k none).dieStops k).onDie k fun d => { d with joined := false })

/-! ### HUB restarts (R44, R332, R480, R499, R567, R586) -/

/-- Die k's closed intervals, which HUB has not received, join its sums; their trend words are lost (R332). -/
def Body.foldDie (k : Nat) (b : Body) : Body :=
  b.forEach (dieChannels k) fun n b =>
    let cs := (b.en n).m.closed
    let b := cs.foldl (fun b c =>
      if c.epoch = b.rd .twinDieEpoch k then
        b.onDie k fun d => { d with secs := addSecond ((c.count - 1) / 1000000000) n c.sum.e d.secs }
      else b) b
    b.onPath n fun m => { m with closed := [], seq := (m.seq + cs.length) % 4096 }

/-- The end of the last second that a die can supply after a time, at most the present count (R332). -/
def Die.suppliesTo (d : Die) (t count : Nat) : Nat :=
  min count (d.secs.foldl (fun a p => max a ((p.1 + 1) * 1000000000)) t)

/-- HUB rebuilds the accumulators from the newest valid checkpoint and the dies' sums (R44, R332); a die that cannot supply them
opens an unmetered span of its own. -/
def Body.rebuild (e : Env) (b : Body) : Body :=
  let b := b.forEach (List.range 8) fun k b => b.foldDie k
  let c := (newestCkpt (fun _ => true) b.mtr.ckpts).getD Ckpt.empty
  let t := c.time
  let lacks (k : Nat) : Bool := decide (t < (b.fe k).secsFrom) || decide (64000000000 < e.count - t)
  let b := (b.loadAcc fun n =>
    ofSigned 128 ((sparseGet 0 c.acc n : Int) + sumSince (b.fe (dieOf n)).secs (ceilDiv t 1000000000) n)).markBlk 8
  let late (w : BlkEnd) : Sparse := (List.range 128).foldl (fun m n =>
    sparseSet 0 m n (ofSigned 128 (sumSince (b.fe (dieOf n)).secs (ceilDiv w.tEnd 1000000000) n))) []
  let b := (b.onMtr fun m => { m with firstInc := none, recent := [] }).onRcd fun r =>
    { r with blkWait := r.blkWait.map fun w => { w with late := late w } }
  let b := b.settleBlocks
  if !c.valid then b.openUnmetered e none 1 t
  else
    b.forEach ((List.range 8).filter fun k => lacks k && (dieChannels k).any b.meters) fun k b =>
      b.openUnmetered e (some k) 3 ((b.fe k).suppliesTo t e.count)

/-- The image in force, read again, passes its checks: differences are applied as by a Patch (R480). -/
def Body.reloadImage (e : Env) (bytes : List Nat) (b : Body) : Body :=
  let slot := b.rd .modImgstatSlot
  match b.imageCheck e bytes with
  | (0, some img) =>
    let p := b.boot.patch
    let patching := match p with
      | some p => !p.reload
      | none => false
    let old := match p with
      | some p => p.oldSeq
      | none => img.seq
    (b.patchStart e img old (!patching)).wr .modImgstatHubReload 0 1
  | (code, _) => if slot < 2 then b.slotReject e slot code else b

/-- The leaves and the enables take their reset values (R567). -/
def Body.treeReset (b : Body) : Body :=
  let regs := b.regs.filter fun x =>
    match keyFld x.1 with
    | .alertLeaf | .alertChleaf | .alertTleafTimer | .alertEn => false
    | _ => true
  { b with regs := regs, dozeLeaves := [] }

/-- What a restart leaves of commands that ran when HUB stopped (R353, R501 to R503). -/
def Body.dropCommands (e : Env) (b : Body) : Body :=
  let b := b.calInterrupt e
  let b := if b.boot.cmd ≠ 0 then b.imgEnd false else b
  let b := if b.boot.checked.isSome then (b.wr .modPatchstatState 0 0).onBoot fun x => { x with checked := none } else b
  if b.boot.fuseCmd ≠ 0 then b.fuseEnd 0 else b

/-- HUB has left reset (R44, R480, R586). -/
def Body.hubRestart (e : Env) (bytes : List Nat) (b : Body) : Body :=
  let t0 := e.countAt b.boot.downT
  let b := (({ b with hubDown := false } : Body).treeReset.wr .modClkmonHubRestart 0 1).raise (10, 14)
  let b := ((b.onTmr fun t => { t with recovEnd := e.now + 10000000000, tick := e.now / 1000 }).lockAll).dropCommands e
  let b := ({ b with bud := { b.bud with lastCycle := e.now } } : Body).event e.count 0x010A 0xFF 0 0 0
  let b := b.forEach (List.range 8) fun k b => b.dieFound e k
  let b := if b.health.wdPend then
      (((b.bump .healthWdcntHub).raise (9, 16)).event e.count 0x0502 0xFF 0 0 0).onHealth fun h => { h with wdPend := false } else b
  match b.role with
  | .solo | .bench =>
    let b := (b.rebuild e).gap 1 7 t0 e.count (e.now - b.boot.downT) 0 0 0
    let b := b.forEach (List.range 8) fun k b => if (b.fe k).joined then b.deliverUp e k else b
    let b := if b.role = .solo && b.boot.imaged && b.flashFree then b.reloadImage e bytes else b
    b.bbuSet e (if b.holdup then 1 else 3)
  | .active | .standby | .starting =>
    let b := (((b.setRole e .starting).toHiZ.noPartner.wr .twinStatSeamRun 0 0).wr .twinStatPairAddr 0 0).lowPower e false
    b.onTwin fun t =>
      { t with txT := some e.now, heard := false, hbT := none, seam := none, left := false, synced := false, seamE := none
               heldWrites := [], sent := [], resent := [] }

/-- HUB_RESTART (R44): CLK_HUB is back; bytes is what the slot in force holds. -/
def execHubRestart (bytes : List Nat) (s : State) : Out :=
  .next (s.onBody fun e b => if b.hubDown && !b.health.auxOff then b.hubRestart e bytes else b)

end Sys2Proof.Machine
end

