-- ==== Sys2Proof/Machine/Calibrate.lean ====
section
/-!
DEFINITION. Calibration sessions (R346, R348 to R356).
-/

namespace Sys2Proof.Machine

open Sys2Proof

/-- Change the session that runs. -/
def Body.onSess (f : Sess → Sess) (b : Body) : Body := b.onMtr fun m => { m with sess := m.sess.map f }

/-! ### Start and end (R348, R353) -/

/-- The role permits the mode (R348). -/
def Body.modeOk (b : Body) (mode : Nat) : Bool :=
  match mode with
  | 0 => b.role = .solo
  | 1 => b.role = .standby
  | _ => b.role = .solo || b.role = .active || b.role = .standby

/-- What makes START fail with NOT_READY (R348). -/
def Body.calNotReady (b : Body) : Bool :=
  let v := b.rd .metaStageBytes 8
  !b.flag .metaRefstatWarmDone || b.frozenDies ≠ 0 || b.mtr.sess.isSome || b.holdup || b.patchRuns || decide (2 ≤ b.health.lvl) ||
    decide (v < 500000000) || decide (1000000000 < v)

/-- START is refused. -/
def Body.calRefuse (code : Nat) (b : Body) : Body :=
  let b := (b.wr .metaCalstatFailed 0 1).wr .metaCalprogFailCode 0 code
  if b.mtr.sess.isSome then b else (b.wr .metaCalprogPhase 0 8).wr .metaCalprogFailCh 0 0xFF

/-- The highest SEQ of a valid COMMIT; 0 for none (R346). -/
def Meter.seqHigh (m : Meter) : Nat := max ((bankSeq m.bank0).getD 0) ((bankSeq m.bank1).getD 0)

/-- A session starts (R345, R348, R349). -/
def Body.calBegin (e : Env) (mode : Nat) (b : Body) : Body :=
  let stage := (List.range 64).foldl (fun m w => sparseSet 0 m w (b.rd .metaStageBytes w)) []
  let s : Sess :=
    { mode := mode, swap := b.flag .metaCalctlSwap, slots := max 1 (b.rd .metaCalctlSlots), together := b.role = .standby
      phase := 1, phaseT := e.now, stage := stage, v1 := [], words := [], sums := [], waits := [], slotAt := [], relief := []
      calTime := 0, untraced := false, seqHigh := b.mtr.seqHigh, target := 0, applyB := none }
  let b := ((b.onMtr fun m => { m with sess := some s }).wr .metaCalprogPhase 0 1).wr .metaCalprogFailCode 0 0
  (b.wr .metaCalprogFailCh 0 0xFF).wr .metaCalprogDoneCh 0 0

/-- CALCTL is written with the unlock; START asks for a session (R348). -/
def Body.calStart (e : Env) (w : Nat) (b : Body) : Body :=
  if !b.unlocked 6 || b.hubDown then b
  else
    let b := ((b.wr .metaCalctlSwap 0 (bits w 25 25)).wr .metaCalctlSlots 0 (bits w 23 20)).wr .metaCalctlMode 0 (bits w 1 0)
    let mode := min 2 (bits w 1 0)
    if !bitAt w 31 then b
    else if !b.modeOk mode then b.calRefuse 9
    else if b.calNotReady then b.calRefuse 2
    else b.calBegin e mode

/-- CAL_START (R348): CALCTL written with START. -/
def execCalStart (value : Word) (s : State) : Out := .next (s.onBody fun e b => b.calStart e (setBit value.toNat 31))

/-- A session is ended by the host, unless it has committed (R353, R354). -/
def Body.calAbort (e : Env) (b : Body) : Body :=
  match b.mtr.sess with
  | some s => if s.applyB.isSome || b.hubDown then b else b.calFail e 1 0xFF
  | none => b

/-- CAL_ABORT (R353). -/
def execCalAbort (s : State) : Out := .next (s.onBody fun e b => b.calAbort e)

/-! ### Stability (R349) -/

/-- The first die whose input 0x44 satisfies a test of its index and voltage. -/
def Body.badDie (b : Body) (p : Nat → Int → Bool) : Option Nat := (List.range 8).find? fun k => p k (b.fe k).calV

/-- The check of a second: the first one in phase 1 takes the values to compare with. -/
def Body.calCheck (e : Env) (s : Sess) (b : Body) : Body :=
  if s.v1.isEmpty then b.onSess fun x => { x with v1 := (List.range 8).map fun k => (b.fe k).calV }
  else match b.badDie fun k v => decide (2 * (s.v1.getD k 0).natAbs < (v - s.v1.getD k 0).natAbs * 1000000) with
    | some k => b.calFail e 4 (0x80 + k)
    | none => b

/-- CAL_STABILITY_CHECK (R349): at the next whole second. -/
def execCalStabilityCheck (s : State) : Out :=
  match s.body.mtr.sess with
  | none => .next s
  | some x =>
    if x.applyB.isSome || s.body.hubDown then .next s
    else .next ((s.goTo (s.time.elapsed + (1000000000 - s.time.count % 1000000000) % 1000000000)).onBody fun e b => b.calCheck e x)

/-! ### Phases (R349, R351) -/

/-- Die words that phase ph measures: ladder, then RHO_E, VZ, CALIN, and BUS where channels are measured together. -/
def dieWords (ph : Nat) (together : Bool) : List Nat :=
  if ph = 2 then [6, 7] else if ph = 3 then (if together then [0, 1, 2, 3, 4, 5] else [2, 3, 4, 5]) else []

/-- The words of the bank that a phase measures. -/
def phaseWords (ph : Nat) (together : Bool) : List Nat :=
  ((List.range 8).flatMap fun k => (dieWords ph together).map fun w => 64 + 8 * k + w) ++
    (if ph = 4 ∧ together = true then (List.range 128).flatMap fun n => (List.range 6).map fun w => 128 + 9 * n + w else [])

/-- The length of phase ph in ns. -/
def Sess.phaseNs (s : Sess) (ph : Nat) : Nat :=
  match ph with
  | 1 => 10000000000
  | 2 => 60000000000
  | 3 => 20000000000
  | _ => if s.together then 12000000000 else s.slots * 4800000000

/-- Slots of a kind measured on a channel, or a die. -/
def Sess.done (s : Sess) (kind ch : Nat) : Nat := (s.sums.filter fun x => x.kind = kind ∧ x.ch = ch).foldl (fun a x => a + x.n) 0

/-- A channel's three kinds are complete. -/
def Sess.chDone (s : Sess) (n : Nat) : Bool := [0, 1, 2].all fun k => decide (s.slots ≤ s.done k n)

/-- Phase ph lacks no slot. -/
def Sess.slotsDone (s : Sess) (ph : Nat) : Bool :=
  s.together || (if ph = 3 then (List.range 8).all fun k => decide (1 ≤ s.done 3 k)
    else if ph = 4 then (List.range 128).all s.chDone else true)

/-- A phase completes: what it measured is taken, and the next one starts. -/
def Body.phaseEnd (e : Env) (s : Sess) (meas : List (Nat × Nat)) (b : Body) : Body :=
  let v := sparseGet 0 s.stage 8
  let bad := if s.phase = 1 then b.badDie fun _ x => decide (200 * v < (x - v).natAbs * 1000000) else none
  match bad with
  | some k => b.calFail e 3 (0x80 + k)
  | none =>
    let ok := phaseWords s.phase s.together
    let ws := meas.foldl (fun m p => if ok.contains p.1 then sparseSet 0 m p.1 (p.2 % 2 ^ 32) else m) s.words
    let b := b.wr .metaCalprogPhase 0 (s.phase + 1)
    let b := if s.phase = 4 ∧ s.together = true then b.wr .metaCalprogDoneCh 0 128 else b
    b.onSess fun x =>
      { x with
        words := ws, phase := x.phase + 1, phaseT := e.now
        calTime := if x.phase = 3 then e.count else x.calTime
        untraced := if x.phase = 3 then decide (b.rd .tbStatState ≠ 2) else x.untraced }

/-- CAL_PHASE_END (R349): meas holds the words of the bank that the phase has measured; a word it lacks stays as it is. -/
def execCalPhaseEnd (meas : List (Nat × Nat)) (s : State) : Out :=
  match s.body.mtr.sess with
  | none => .next s
  | some x =>
    if x.applyB.isSome || 5 ≤ x.phase || s.body.hubDown || !x.slotsDone x.phase then .next s
    else .next ((s.goTo (x.phaseT + x.phaseNs x.phase)).onBody fun e b => b.phaseEnd e x meas)

/-! ### Slots (R350 to R352) -/

/-- The code of a kind of slot less 1 (R434), and where its gain and offset words stand. -/
def kindCode : CalKind → Nat
  | .a => 0
  | .b => 1
  | .v => 2
  | .bus => 3

/-- The gain word of kind k of channel, or die, n; its offset word follows. -/
def kindWord (k n : Nat) : Nat :=
  match k with
  | 0 => 128 + 9 * n + 2
  | 1 => 128 + 9 * n + 4
  | 2 => 128 + 9 * n
  | _ => 64 + 8 * n

/-- Add a slot's measurement. -/
def addSlot (kind ch : Nat) (g o : Int) : List SlotSum → List SlotSum
  | [] => [⟨kind, ch, 1, g, o⟩]
  | x :: xs =>
    if x.kind = kind ∧ x.ch = ch then { x with n := x.n + 1, gain := x.gain + g, ofs := x.ofs + o } :: xs
    else x :: addSlot kind ch g o xs

/-- The session after a slot of kind k has been measured on n, and its coefficients once the last is in. -/
def Sess.slot (s : Sess) (k n : Nat) (m : SlotMeas) : Sess :=
  let sums := addSlot k n m.gain m.ofs s.sums
  let need := if k = 3 then 1 else s.slots
  let s := { s with sums := sums, waits := s.waits.filter fun w => w.1 ≠ n }
  match sums.find? fun x => x.kind = k ∧ x.ch = n with
  | some x =>
    if x.n = need then
      { s with words := sparseSet 0 (sparseSet 0 s.words (kindWord k n) (ofSigned 32 (divRound x.gain (need : Nat)))) (kindWord k n + 1)
                 (ofSigned 32 (divRound x.ofs (need : Nat))) }
    else s
  | none => s

/-- The slot of a channel that is in RAMP, LIMIT or HELD is not started; after 30 s the session ends (R351). -/
def Body.slotWaits (e : Env) (s : Sess) (n : Nat) (b : Body) : Body :=
  match s.waits.find? fun w => w.1 = n with
  | some w => if w.2 + 30000000000 ≤ e.now then b.calFail e 10 n else b
  | none => b.onSess fun x => { x with waits := (n, e.now) :: x.waits }

/-- A slot of kind k on channel, or die, n. -/
def Body.calSlot (e : Env) (s : Sess) (n k : Nat) (m : SlotMeas) (b : Body) : Body :=
  let st := (b.ch (b.leadOf n)).state
  let who := if k = 3 then 0x80 + n else n
  if s.together || s.phase ≠ (if k = 3 then 3 else 4) || (if k = 3 then 8 else 128) ≤ n ||
      (if k = 3 then 1 else s.slots) ≤ s.done k n then b
  else if k ≠ 3 && (st = .ramp || st = .limit || st = .held) then b.slotWaits e s n
  else if !m.agree then
    if s.relief.contains who then b.calFail e 5 who else b.onSess fun x => { x with relief := who :: x.relief }
  else
    let b := b.onSess fun x => { x with slotAt := sparseSet 0 x.slotAt (if k = 3 then n else dieOf n) (e.now + 1) }
    let b := if k = 3 then b.onDie n (Die.busSlotStart e.now e.count)
      else (b.slotEnds e n).onPath n fun p => p.slotStart k e.now e.count
    let b := b.onSess fun x => x.slot k n m
    match b.mtr.sess with
    | some x => b.wr .metaCalprogDoneCh 0 ((List.range 128).filter x.chDone).length
    | none => b

/-- CAL_SLOT (R350): a slot that starts now, or 100 ms after the last one of its die (R349). -/
def execCalSlot (n : Nat) (kind : CalKind) (m : SlotMeas) (s : State) : Out :=
  match s.body.mtr.sess with
  | some x =>
    if x.applyB.isSome || s.body.hubDown then .next s
    else
      let t := sparseGet 0 x.slotAt (if kind = .bus then n else dieOf n)
      .next ((if t = 0 then s else s.goTo (t - 1 + 100000000)).onBody fun e b => b.calSlot e x n (kindCode kind) m)
  | none => .next s

/-! ### Coefficients and storage (R345, R346, R353) -/

/-- A word of the session: measured, or as in force. -/
def Body.newWord (b : Body) (s : Sess) (w : Nat) : Nat := if s.words.any fun p => p.1 = w then sparseGet 0 s.words w else sparseGet 0 b.bank w

/-- The gain words that R353 checks, with the code of FAIL_CH: channels, then dies. -/
def gainWords : List (Nat × Nat) :=
  ((List.range 128).flatMap fun n => [(128 + 9 * n, n), (128 + 9 * n + 2, n), (128 + 9 * n + 4, n)]) ++
    (List.range 8).flatMap fun k => [(64 + 8 * k, 0x80 + k), (64 + 8 * k + 2, 0x80 + k)]

/-- The first gain that lies outside its limits (R353). -/
def Body.overLimit (b : Body) (s : Sess) : Option Nat :=
  (gainWords.find? fun p =>
    let g := toSigned 32 (b.newWord s p.1)
    decide (300000 < (g - toSigned 32 (sparseGet 0 b.bank p.1)).natAbs) ||
      decide (2000000 < (g - toSigned 32 (sparseGet 0 b.mtr.bankM p.1)).natAbs)).map (·.2)

/-- The as-found error of a gain: (1 + g_old) / (1 + g_new) − 1, 0.01 ppm (R345). -/
def asFound (o n : Int) : Int := divRound ((o - n) * 100000000) (1000000000 + n)

/-- The as-found word w (0 to 2) of channel n. -/
def Body.afWord (b : Body) (s : Sess) (n w : Nat) : Nat :=
  let a := 128 + 9 * n + 2 * w
  ofSigned 32 (asFound (toSigned 32 (sparseGet 0 b.bank a)) (toSigned 32 (b.newWord s a)))

/-- The header words that the host stages (R345). -/
def hostWords : List Nat := (List.range 7).map (8 + ·) ++ (List.range 20).map (16 + ·)

/-- A bank with the staged host fields. -/
def withStage (s : Sess) (m : Sparse) : Sparse := hostWords.foldl (fun m w => sparseSet 0 m w (sparseGet 0 s.stage w)) m

/-- The new bank without its COMMIT (R345). -/
def Body.newBank (s : Sess) (b : Body) : Sparse :=
  let put := fun (m : Sparse) (p : Nat × Nat) => sparseSet 0 m p.1 (p.2 % 2 ^ 32)
  let head := [(0, 0x4B594342), (1, 0x00011404), (2, 2 ^ 32 - 1), (3, 2 ^ 32 - 1), (4, b.mtr.epochHigh),
    (5, s.mode + 4 * bit s.untraced + 8 * bit s.together), (6, s.calTime), (7, s.calTime / 2 ^ 32), (15, b.rd .healthTempT 10)] ++
    ((List.range 4).map fun i => (36 + i, b.rd .modSerialBytes i)) ++
    [(40, b.rd .metaEpochEpoch), (41, b.rd .healthOphoursHours)]
  let m := head.foldl put (withStage s [])
  let m := ((List.range 64).map fun i => (64 + i, b.newWord s (64 + i))).foldl put m
  let m := ((List.range 128).flatMap fun n => ((List.range 6).map fun w => (128 + 9 * n + w, b.newWord s (128 + 9 * n + w))) ++
    (List.range 3).map fun w => (128 + 9 * n + 6 + w, b.afWord s n w)).foldl put m
  sparseSet 0 m 1280 (bankCrc m)

/-- A CAL record (R434): 1 calibration, 2 verification; head holds the bank's first 64 words. -/
def Body.calRec (time kind : Nat) (head : Nat → Nat) (af : Nat → Nat) (b : Body) : Body :=
  let four (f : Nat → Nat) (i : Nat) : Nat := (List.range 4).foldl (fun a j => a + f (4 * i + j) % 2 ^ 32 * 2 ^ (32 * j)) 0
  b.shared (mkRec 0x1A (kind * 2 ^ 24) time ((List.range 16).map (four head) ++ (List.range 96).map (four af)))

/-- A session completes (R354). -/
def Body.calDone (b : Body) : Body :=
  ((((b.onMtr fun m => { m with sess := none }).wr .metaCalprogPhase 0 7).wr .metaCalstatDone 0 1).raise (10, 6))

/-- A verification ends (R348, R354). -/
def Body.verified (e : Env) (s : Sess) (b : Body) : Body :=
  let head := withStage s b.bank
  (b.calRec e.count 2 (sparseGet 0 head) fun i => b.afWord s (i / 3) (i % 3)).calDone

/-- Write a bank of the ledger store. -/
def Meter.setBank (m : Meter) (k : Nat) (x : Sparse) : Meter := if k = 0 then { m with bank0 := x } else { m with bank1 := x }

/-- The try that decides: the first, or its one repeat after a failed check (R346). -/
def lastTry (t1 t2 : StoreTry) : StoreTry :=
  match t1 with
  | .badCrc | .badCommit => t2
  | t => t

/-- Steps 1 to 5 (R346): the new bank is committed, and takes effect at B; or the session ends, with the COMMIT words erased up to step
4, written after it, and open where step 5 has failed. -/
def Body.calCommit (e : Env) (s : Sess) (t1 t2 : StoreTry) (b : Body) : Body :=
  let k := if b.rd .metaCalstatBank = 0 then 1 else 0
  let b := b.onMtr fun m => { m with epochHigh := m.epochHigh + 1 }
  let x := b.newBank s
  let q := s.seqHigh + 1
  let y := sparseSet 0 (sparseSet 0 x 2 q) 3 (2 ^ 32 - 1 - q)
  match lastTry t1 t2 with
  | .good => ((b.onMtr fun m => m.setBank k y).wr .metaCalprogPhase 0 6).onSess fun z =>
      { z with phase := 6, target := k, applyB := some e.boundary }
  | .badCrc => (b.onMtr fun m => m.setBank k x).calFail e 8 0xFF
  | .badCommit =>
    let r := b.free
    let t := r.2.free
    let z := sparseSet 0 (sparseSet 0 x 2 (r.1 % 2 ^ 32)) 3 (t.1 % 2 ^ 32)
    (t.2.onMtr fun m => m.setBank k z).calFail e 8 0xFF
  | .cut committed => (b.onMtr fun m => m.setBank k (if committed then y else x)).calFail e 7 0xFF

/-- Phase 5 (R346, R349, R353). -/
def Body.calStore (e : Env) (s : Sess) (t1 t2 : StoreTry) (b : Body) : Body :=
  match b.overLimit s with
  | some c => b.calFail e 6 c
  | none =>
    if s.mode = 2 then b.verified e s
    else if s.seqHigh + 1 = 2 ^ 32 - 1 then b.calFail e 8 0xFF
    else b.calCommit e s t1 t2

/-- CAL_STORE (R346): the first try, and its repeat where a check of the first fails. -/
def execCalStore (t1 t2 : StoreTry) (s : State) : Out :=
  .next (s.onBody fun e b =>
    match b.mtr.sess with
    | some x => if x.phase = 5 && !b.hubDown then b.calStore e x t1 t2 else b
    | none => b)

/-- At B the new bank is in force (R354); a STANDBY module with SWAP then asks its partner for a handover (R355). -/
def Body.calApply (e : Env) (s : Sess) (b : Body) : Body :=
  let b := ((b.endBlock e).atBoundary e fun b => b.takeBank s.target).markBlk 2
  let m := b.bank
  let b := (b.calRec e.count 1 (sparseGet 0 m) fun i => sparseGet 0 m (128 + 9 * (i / 3) + 6 + i % 3)).calDone
  if s.swap && s.mode = 1 && b.role = .standby then (b.onTwin fun t => { t with swapReq := true }).sendBluli 7 [0, 3] else b

/-- CAL_EPOCH_APPLY (R354): at the boundary B. -/
def execCalEpochApply (s : State) : Out :=
  match s.body.mtr.sess with
  | none => .next s
  | some x =>
    match x.applyB with
    | none => .next s
    | some t => if s.body.hubDown then .next s else .next ((s.goTo t).onBody fun e b => b.calApply e x)

/-- CAL_DUE_EXPIRE (R356): DUE_REM is formed; the level leaf CAL_DUE follows it. -/
def execCalDueExpire (s : State) : Out := .next (s.onBody fun _ b => if b.hubDown then b else b.showDue)

end Sys2Proof.Machine
end

