-- ==== Sys2Proof/Machine/Bench.lean ====
section
/-!
DEFINITION. Entry to bench mode and its end (R361 to R365); the scans stand beside the other urgent requests.
-/

namespace Sys2Proof.Machine

open Sys2Proof

/-- States in which a channel lets the module enter bench mode (R361). -/
def ChState.benchOk : ChState → Bool
  | .empty | .off | .latched | .refused | .fetFault | .unconfigured => true
  | _ => false

/-- The refusal of a bench entry, 0 for none (R361). -/
def Body.benchBar (e : Env) (b : Body) : Nat :=
  if !bitAt (e.fuse 1) 1 then 1
  else if b.role ≠ .solo || b.flag .twinStatHbOk then 2
  else if b.leaders.any fun n => !(b.ch n).state.benchOk then 3
  else if b.mtr.sess.isSome || b.holdup || b.patchRuns then 4
  else 0

/-- Every zero is 0 and no result is valid (R362). -/
def Body.benchClear (b : Body) : Body :=
  b.forEach (List.range 8) fun k b => b.onDie k fun d =>
    { d with regs := d.regs.filter fun x => keyFld x.1 ≠ .feBzeroZero && keyFld x.1 ≠ .bresStatValid }

/-- An accepted entry (R362). -/
def Body.benchBegin (e : Env) (b : Body) : Body :=
  let b := (b.metersStop e).setRole e .bench
  let b := b.forEach b.leaders fun n b => b.deliver e n .benchIn e.now
  let b := b.forEach (List.range 128) fun n b => b.onEng n fun g => { g with gate := .sink, htCmp := false }
  let b := (b.benchClear.wr .metaBenchstatActive 0 1).wr .metaBenchstatReady 0 0
  b.span e.count 2 1 (2 ^ 128 - 1)

/-- BENCHCTL.ENTER is written as 1 (R361). -/
def Body.benchEnter (e : Env) (b : Body) : Body :=
  if !b.unlocked 6 || b.hubDown then b
  else
    let r := b.benchBar e
    if r = 0 then b.benchBegin e else (b.wr .metaBenchstatRefused 0 1).wr .metaBenchstatRefuse 0 r

/-- BENCH_ENTER (R361, R362). -/
def execBenchEnter (s : State) : Out := .next (s.onBody fun e b => b.benchEnter e)

/-- BENCH_READY (R362). -/
def execBenchReady (s : State) : Out :=
  .next (s.onBody fun _ b => if b.role = .bench && !b.hubDown then b.wr .metaBenchstatReady 0 1 else b)

/-- The scans of die k end and their results are discarded; nothing waits any more (R364). -/
def Body.scansEnd (e : Env) (k : Nat) (b : Body) : Body :=
  let b := if (b.fe k).urg.run = some .bench then b.urgentEnd e k false else b
  let b := (b.onUrg k fun u => { u with waitBench := false }).onDie k fun d =>
    { d with scanHeld := none, restEnd := none, scanZero := false }
  (b.wr .metaBenchdieBusy k 0).wr .metaBenchdieRest k 0

/-- Bench mode ends: the image is to be read again as at a start (R364). -/
def Body.benchEnd (e : Env) (b : Body) : Body :=
  let b := b.forEach (List.range 8) fun k b => b.scansEnd e k
  let b := b.setRole e .solo
  let b := b.forEach b.leaders fun n b => b.deliver e n .benchOut e.now
  let b := b.forEach (List.range 128) fun n b => b.onEng n fun g => { g with poles := [0, 0, 0, 0], polesDue := false }
  let b := ((b.wr .metaBenchstatActive 0 0).wr .metaBenchstatReady 0 0).wr .metaBenchstatExiting 0 1
  ((b.metersStart e).onBoot fun x => { x with readA := false, readB := false }).span e.count 2 2 (2 ^ 128 - 1)

/-- BENCHCTL.EXIT is written as 1 (R364). -/
def Body.benchExit (e : Env) (b : Body) : Body :=
  if b.unlocked 6 && b.role = .bench && !b.hubDown then b.benchEnd e else b

/-- BENCH_EXIT (R364). -/
def execBenchExit (s : State) : Out := .next (s.onBody fun e b => b.benchExit e)

end Sys2Proof.Machine
end

