-- ==== Sys2Proof/Machine/Doze.lean ====
section
/-!
DEFINITION. Doze (R51 to R53, R167, R299, R343, R529, R557 to R559, R567), and the commands whose events wake the module.
-/

namespace Sys2Proof.Machine

open Sys2Proof

/-- States in which a channel lets the module doze (R51). -/
def ChState.dozeOk : ChState → Bool
  | .empty | .off | .latched | .refused | .unconfigured => true
  | _ => false

/-- A fault capture waits or runs on die k. -/
def Body.captures (b : Body) (k : Nat) : Bool := (b.fe k).urg.waitCap || (b.fe k).urg.run = some .capture

/-- The conditions of doze (R51). -/
def Body.dozeOk (b : Body) : Bool :=
  b.role = .solo && (b.leaders.all fun n => (b.ch n).state.dozeOk) && !((List.range 8).any b.captures) && b.mtr.sess.isNone &&
    !b.patchRuns

/-- DOZE is written as 1 (R557). -/
def Body.dozeRequest (e : Env) (b : Body) : Body :=
  if b.hubDown || b.doze then b
  else if b.dozeOk then { b with dozeReq := some e.now }
  else b.wr .modCtrlDozeRefused 0 1

/-- DOZE_REQUEST (R557). -/
def execDozeRequest (s : State) : Out := .next (s.onBody fun e b => b.dozeRequest e)

/-- The module enters doze: the open intervals close, and conversion goes to low power (R53, R298, R299). -/
def Body.dozeBegin (e : Env) (b : Body) : Body :=
  let b := b.metersStop e
  ({ b.span e.count 1 1 (2 ^ 128 - 1) with doze := true } : Body).lowPower e true

/-- DOZE_ENTER (R557): the entry that a request has begun, unless its conditions have ceased to hold. -/
def execDozeEnter (s : State) : Out :=
  .next (s.onBody fun e b =>
    if b.dozeReq.isNone || b.hubDown then b
    else
      let b : Body := { b with dozeReq := none }
      if b.dozeOk then b.dozeBegin e else b)

/-- A leaf that waited for the wake is set (R567). -/
def Body.lateLeaf (l : Leaf) (b : Body) : Body :=
  if 200 ≤ l.1 then b.wr .alertChleaf (l.1 - 200) (setBit (b.rd .alertChleaf (l.1 - 200)) l.2)
  else if 100 ≤ l.1 then b.wr .alertTleafTimer (l.1 - 100) (setBit (b.rd .alertTleafTimer (l.1 - 100)) l.2)
  else b.raise l

/-- The paths of channel n start anew: integration (R327), and the FET-short check with FS_SETTLE from the wake (R167). -/
def Body.wakeCh (e : Env) (n : Nat) (b : Body) : Body :=
  let x := b.newSum n
  let settle := e.now + msNs (b.cd .chFshortFsSettle n)
  b.onEng n fun g =>
    { g with fsFrom := if g.gate.live then none else some settle, outMin := 32767, shortSince := none
             m := { g.m.restart with outT := none, cur := x, openT := e.now } }

/-- The converters of die k start again (R266, R299). -/
def Body.wakeDie (e : Env) (k : Nat) (b : Body) : Body :=
  let b := b.onDie k fun d => { d with slotPos := 0, rotNext := 0, scanAt := 0, lastB := e.now, busSum := 0, busN := 0, refSum := 0, refN := 0, calSum := 0, calN := 0 }
  b.forEach (dieChannels k) fun n b => b.wakeCh e n

/-- The module leaves doze (R52). -/
def Body.wake (e : Env) (b : Body) : Body :=
  let ls := b.dozeLeaves
  let b := ls.foldl (fun b l => b.lateLeaf l) ({ b with doze := false, dozeLeaves := [] } : Body)
  let b := b.forEach (List.range 8) fun k b => b.wakeDie e k
  let b := ((b.span e.count 1 2 (2 ^ 128 - 1)).lowPower e (b.flag .healthStatFreeze)).wr .metaRefstatValid 0 0
  let b := b.forEach (List.range 8) fun k b => b.wr .metaRefdieDev k 0x80000000
  let b := (b.wr .metaRefdevDev 0 0x80000000).onMtr fun m => { m with refT := some e.now }
  ({ b with bud := { b.bud with lastCycle := e.now } } : Body).fdRetargetAll e

/-- A wake event ends doze, or abandons an entry that has been requested (R52, R557). -/
def Body.stir (e : Env) (b : Body) : Body := if b.doze then b.wake e else { b with dozeReq := none }

/-- DOZE_WAKE (R52): a seat input that changes does so at the wake. -/
def execDozeWake (w : WakeEv) (s : State) : Out :=
  .next (s.onBody fun e b =>
    let b := b.stir e
    match w with
    | .seat n =>
      let b := b.srcEdge n (b.ch n).seatRaw e.now
      if !(b.ch n).seatRaw then b.seatAssert e n else if (b.ch n).debEnd.isSome then b.seatDrop e n else b.seatDeassert e n
    | .out _ | .acfail | .host _ => b)

/-- OUT of channel n stands at its FET-short threshold or above (R167). -/
def Body.outHigh (b : Body) (n : Nat) : Bool := voltGe (b.en n).out (b.cd .chFshortFsVout n) 500

/-- The scan of die k in doze: E0 to E15 in CVB's slots, from the raw results of OUT (R268, R299). -/
def Body.dozeScan (e : Env) (k : Nat) (raws : List Int) (b : Body) : Body :=
  let b := b.forEach (dieChannels k) fun n b =>
    let r := b.slice k (b.sliceB k (n % 16)) (raws.getD (n % 16) 0)
    r.2.onEng n fun g => { g with out := loopResult (satExt r.1), outAt := e.now }
  let b := b.onDie k fun d => { d with lastB := e.now }
  if (dieChannels k).any b.outHigh then b.wake e else b

/-- DOZE_SCAN (R299): 10 ms after the die's last; raws are the raw results of its entries E0 to E15. -/
def execDozeScan (k : DieIx) (raws : List Int) (s : State) : Out :=
  if !s.body.doze || s.body.dieOff k then .next s
  else .next ((s.goTo ((s.body.fe k).lastB + 10000000)).onBody fun e b => b.dozeScan e k raws)

/-! ### Commands that wake the module (R52) -/

/-- The pin SEAT[n] takes a level, low for a seat, at the present instant: an edge of capture source n where it changes (R397). -/
def Body.seatPin (e : Env) (n : Nat) (seat : Bool) (b : Body) : Body :=
  if (b.ch n).seatRaw = seat then b else b.srcEdge n (!seat) e.now

/-- SEAT_ASSERT (R58). -/
def execSeatAssert (n : ChIx) (s : State) : Out :=
  .next (s.onBody fun e b => ((b.stir e).seatPin e n true).seatAssert e n)

/-- SEAT_DROP (R65). -/
def execSeatDrop (n : ChIx) (s : State) : Out :=
  .next (s.onBody fun e b => ((b.stir e).seatPin e n false).seatDrop e n)

/-- SEAT_DEASSERT (R58). -/
def execSeatDeassert (n : ChIx) (s : State) : Out :=
  .next (s.onBody fun e b => ((b.stir e).seatPin e n false).seatDeassert e n)

/-- HOLDUP_TRIGGER (R230): ACFAIL_N, low from now on, stays low through its filter (R261); feeder input failure, or the bus below BUS_WARN for
BUS_WARN_TIME. -/
def execHoldupTrigger (t : HoldTrig) (s : State) : Out :=
  match t with
  | .acfail => .next (((s.onBody fun e b => b.stir e).goTo (s.time.elapsed + usNs (s.body.bdg .budgetHoldupAcfailFilt))).onBody
      fun e b => b.holdTrigger e .acfail)
  | .feeder => .next (s.onBody fun e b => if b.feederTrig then b.holdTrigger e .feeder else b)
  | .bus =>
    match s.body.bud.hu.warnSince with
    | some w => .next ((s.goTo (w + s.body.bdg .budgetHoldupBusWarnTime * 100000)).onBody fun e b => b.holdTrigger e .bus)
    | none => .next s

end Sys2Proof.Machine
end

