-- ==== Sys2Proof/Machine/Flags.lean ====
section
/-!
DEFINITION. The fields that the module forms at a read (R16, R38, R48, R49, R54 to R56, R62, R82 to R88, R106, R147 to R157, R168, R225,
R238 to R244, R279, R301, R306, R318, R319, R336, R347, R359, R377, R395, R442, R476, R494, R510, R518, R564, R569).
-/

namespace Sys2Proof.Machine

open Sys2Proof

/-! ### Channels -/

/-- The reason shown: CLAMPED is shown in RAMP, ON, LIMIT and CAPPED when no other reason applies (R56); a queued channel shows
BUDGET_QUEUED, or GUARANTEE_YIELD in a bus pause (R243). -/
def Body.dispReason (b : Body) (n : Nat) : Nat :=
  let c := b.ch (b.leadOf n)
  if c.state = .queued then (if b.bud.busLow.isSome && !b.higherPause then 0x25 else 0x20)
  else if c.reason = 0 && b.flag .chStatusClamped (b.leadOf n) then 0x35 else c.reason

/-- The remaining time to an instant in units of ns, rounded up, in 16 bits. -/
def remain (now t unit : Nat) : Nat := min 0xFFFF (ceilDiv (t - now) unit)

/-- The remaining time to an instant that may be absent: 0 without one. -/
def remainOpt (now : Nat) (t : Option Nat) (unit : Nat) : Nat :=
  match t with
  | some t => remain now t unit
  | none => 0

/-- RETRY_REM: in COOLING, stopped by the bus or running; 0 in every other state, HELD included, where the timer goes on (R87,
R198, R199). -/
def Body.retryRem (e : Env) (b : Body) (n : Nat) : Nat :=
  let c := b.ch (b.leadOf n)
  if c.state ≠ .cooling then 0
  else match c.retryLeft with
    | some d => min 0xFFFF (ceilDiv d 10000000)
    | none => remainOpt e.now c.retryEnd 10000000

/-- QPOS of channel n, 1 being next; 0 when it does not queue (R88). -/
def Body.qpos (b : Body) (n : Nat) : Nat :=
  match b.queue.findIdx? (· = n) with
  | some i => i + 1
  | none => 0

/-- SLOT_REM of channel n: its place in the queue is its place among the slots still to open (R225, R242). -/
def Body.slotRem (e : Env) (b : Body) (n : Nat) : Nat :=
  match b.bud.plan, b.qpos n with
  | _, 0 => 0xFFFF
  | none, _ => 0xFFFF
  | some p, q + 1 =>
    if b.bud.openSlot.isSome && q = 0 then 0
    else
      let i := if b.bud.openSlot.isSome then q - 1 else q
      if p.n ≤ p.j + i then 0xFFFF
      else match b.nextSlot with
        | some t => remain e.now (max (ceilDiv (p.slot (p.j + i)) p.den) (t + ceilDiv (i * p.s) p.den)) 100000
        | none => 0xFFFF

/-- BWAIT.WAIT of channel n (R242, R243). -/
def Body.waitCode (b : Body) (n : Nat) : Nat :=
  if b.qpos n = 0 then 0
  else if b.flag .healthStatFreeze then 10
  else if b.flag .healthStatBrace then 9
  else if b.holdup then 5
  else if b.bud.busLow.isSome then 4
  else if b.flag .modBootSoloHeld then 8
  else if b.zq5016 then 6
  else if b.bud.cutsFor = some n then 3
  else if b.bud.openSlot.isNone then 1
  else if b.qpos n = 1 then 2 else 7

/-- QAGE of channel n (R244). -/
def Body.qage (e : Env) (b : Body) (n : Nat) : Nat :=
  match (b.ch n).state with
  | .queued => min 0xFFFFFFFF ((e.now - (b.ch n).queuedT) / 1000000)
  | .refused => min 0xFFFFFFFF (b.ch n).qageHeld
  | _ => 0

/-- The selected output is saturated: the winning demand is, or the gate driver stands at the limit that it drives to (R114). -/
def Eng.outSat (g : Eng) : Bool := g.sat || (g.atPump && decide (0 < g.dsel)) || (g.atSource && decide (g.dsel < 0))

/-- The engine of channel n commands its gate: not in HELD for a die reset (R104). -/
def Body.commands (b : Body) (n : Nat) : Bool :=
  (b.engSeen n).gate = .driven && !((b.ch (b.leadOf n)).state = .held && (b.ch (b.leadOf n)).holds.contains 0x33)

/-- Fields of a channel's status, trip, wait and loop registers. -/
def Body.formedCh (e : Env) (b : Body) (f : Fld) (n : Nat) : Option Nat :=
  let l := b.leadOf n
  let c := b.ch l
  let g := b.engSeen n
  match f with
  | .chStatusPartial => some (bit c.partialRamp)
  | .chStatusAbsentPending => some (bit c.absStart.isSome)
  | .chStatusSeatRaw => some (bit (b.seatSeen n).1)
  | .chStatusSeated => some (bit (b.seatSeen n).2)
  | .chStatusGangMember => some (bit (b.isMember n))
  | .chStatusPriorState => some (if c.state = .held then c.prior.code else 0)
  | .chStatusReason => some (b.dispReason n)
  | .chStatusState => some c.state.code
  | .chLastTripDarnMaxEff => some (b.rd .chRetryDarnMax l)
  | .chLastTripDarnCount => some c.darn
  | .chLastTripStateAtTrip => some (b.rd .chLastTripStateAtTrip l)
  | .chLastTripTripReason => some (b.rd .chLastTripTripReason l)
  | .chTimersAqRem => some (if c.absStart.isSome then remainOpt e.now c.aqEnd 1000000 else 0)
  | .chTimersRetryRem => some (b.retryRem e n)
  | .chWaitHoldoffRem => some (remain e.now c.holdoffEnd 10000000)
  | .chWaitCoolWait => some (bit !(b.cool n))
  | .chWaitQpos => some (b.qpos n)
  | .chSeatTimeTime => some c.seatTime
  | .chLoopcfgLaw => some (bit (1 < b.rd .chClassGangSize n))
  | .chLoopstatDsel => some (if b.commands n then ofSigned 16 g.dsel else 0x8000)
  | .chLoopstatWin => some (if b.commands n then g.win else 0)
  | .chLoopstatFrozen => some (bit (1 < b.rd .chClassGangSize n && (b.engSeen l).frozen))
  | .chLoopstatSat => some (bit (b.commands n && (b.engSeen l).outSat))
  | _ => none

/-- Fields of a channel's safe-area, budget and metering registers. -/
def Body.formedArea (e : Env) (b : Body) (f : Fld) (n : Nat) : Option Nat :=
  let g := b.engSeen n
  let own := !b.isMember n
  match f with
  | .chSafestatPlim => some g.plim
  | .chSafestatPlimSrc => some g.plimSrc
  | .chSafestatTripLatch => some (bit g.tripLatch)
  | .chSafestatHtCmp => some (bit g.htCmp)
  | .chSafestatMismatch => some (bit g.mismatch)
  | .chSafestatShortNow => some (bit (g.shortRuns e b n && g.shortSince.isSome))
  | .chSafestatStallRun => some (bit (g.stallCounts b n))
  | .chSafestatEpiRun => some (bit g.epiRun)
  | .chSafestatTsOpen => some (bit (b.cd .chAmbcfgTsFitted n = 1 && g.tsOpen))
  | .chThermTjEst => some g.tjEst
  | .chThermTsMeas => some (if b.tsLive n then g.tsMeas else 0)
  | .chEpisodeEEpi => some (b.epiMj n)
  | .chTsestTsEst => some (if b.cd .chAmbcfgAmbSrc n = 0 ∧ b.cd .chAmbcfgTsFitted n = 1 then g.tsEst else 0)
  | .chBallocCapFloor | .chBallocAlloc | .chBresRes | .chByieldFavoured | .chByieldGbroken => if own then none else some 0
  | .chBcapCapOn => some (bit (own && (b.ch n).capOn))
  | .chBcapCapW => some (if own && (b.ch n).capOn then (b.ch n).capW else 0)
  | .chBwaitSlotRem => some (if own then b.slotRem e n else 0)
  | .chBwaitWait => some (if own then b.waitCode n else 0)
  | .chQageAge => some (if own then b.qage e n else 0)
  | .chMstatNocal => some (bit (b.rd .metaEpochEpoch = 0))
  | .chMstatFrozen => some (b.drd (dieOf n) .feCvstatCalFrozen (dieOf n))
  | .chMstatBufq => some (bits (b.rd .metaRefstatBuf) (dieOf n) (dieOf n))
  | .chMstatRefq => some (b.rd .metaRefstatWatch)
  | .chMstatWarm => some (1 - b.rd .metaRefstatWarmDone)
  | _ => none

/-! ### Dies, budget, calibration, timebase and the rest of HUB -/

/-- A word whose bit i tells a test of index start + i. -/
def bitsOf (count start : Nat) (p : Nat → Bool) : Nat :=
  (List.range count).foldl (fun a i => if p (start + i) then a + 2 ^ i else a) 0

/-- Fields of the dies that follow from their state. -/
def Body.formedFe (b : Body) (f : Fld) (i : Nat) : Option Nat :=
  match f with
  | .feScanmask1EnAux => some (bitsOf 15 49 fun x => b.entryOn i x)
  | .feScanmask1EnTs => some (bitsOf 16 32 fun x => b.entryOn i x)
  | .feScanstatEntries => some (b.entries i)
  | .feOwstatTsOpen => some (bitsOf 16 (16 * i) fun n => (b.en n).tsOpen)
  | .feOwstatCsOpen => some (bitsOf 16 (16 * i) fun n => (b.en n).csOpen)
  | .feWevtsumWevt => some (bitsOf 32 (i % 3 * 32) fun u => u < 80 && b.drd (i / 3) .fuFresWevt (80 * (i / 3) + u) = 1)
  | .feSliceOfs => some (b.trim (i / 10) (i % 10) 0 % 2 ^ 16)
  | .feSliceGain => some (b.trim (i / 10) (i % 10) 1 % 2 ^ 16)
  | .feSliceSkew => some (b.trim (i / 10) (i % 10) 2 % 2 ^ 10)
  | _ => none

/-- Fields of the budget, the alert tree and MOD. -/
def Body.formedHub (e : Env) (b : Body) (f : Fld) (i : Nat) : Option Nat :=
  match f with
  | .budgetStagstatNextRem => some (match b.nextSlot with
      | some t => remain e.now t 100000
      | none => 0xFFFF)
  | .budgetStagstatFactor => some (b.rd .healthStatFactor)
  | .budgetStagstatQlen => some b.queue.length
  | .budgetCapmaskMask => some (bitsOf 32 (32 * i) fun n => (b.ch n).capOn)
  | .budgetShedmaskMask => some (bitsOf 32 (32 * i) fun n => (b.ch (b.leadOf n)).state = .shed)
  | .alertLeaf => if i = 0 ∨ i = 3 then some (b.leafWord i) else none
  | .alertStat => some (b.alertStat i)
  | .alertPendPend => some (bitsOf 32 (32 * i) fun n => b.chPending n (b.rd .alertChleaf n))
  | .modSumAsserted => some (bit b.alertLow)
  | .modSumFixed => some (bit b.anyShort)
  | .modSumGroup => some b.sumGroup
  | .modIclLinkUp => some (bitsOf 8 0 fun k => (b.fe k).joined)
  | .recStatHeld => some (bit (b.flag .healthStatBrace || b.flag .healthStatFreeze))
  | .feederStatBalSusp => some (bit b.balSusp)
  | .bbuStatDriven => if b.bbuDrives then none else some 3
  | .fdrTrimSlewing => some (bit (b.fdSt i = 2 && b.fdRef i e.now ≠ (b.fd i).tgt))
  | .fdrTrimDown => some (bit (b.fdSt i = 2 && (b.fd i).tgt < b.fdRef i e.now))
  | _ => none

/-- Word w of the record that COEFSEL selects; 0 beyond it (R345, R359). -/
def coefWord (bank : Sparse) (sel w : Nat) : Nat :=
  if sel < 128 then (if w < 9 then sparseGet 0 bank (128 + 9 * sel + w) else 0)
  else if sel < 136 then (if w < 8 then sparseGet 0 bank (64 + 8 * (sel - 128) + w) else 0)
  else 0

/-- The bank that COEFSEL.BANK selects: in force, or the other one (R359). -/
def Body.coefBank (b : Body) : Sparse :=
  if b.flag .metaCoefselBank then (if b.rd .metaCalstatBank = 0 then b.mtr.bank1 else b.mtr.bank0) else b.bank

/-- The age of the oldest snapshot held, in a STANDBY module (R476). -/
def Body.snapAge (e : Env) (b : Body) : Nat :=
  if b.role ≠ .standby ∨ b.twin.snaps.isEmpty then 0xFFFF
  else min 0xFFFF (b.twin.snaps.foldl (fun a p => max a ((e.now + 1 - p.2) / 100)) 0)

/-- Fields of META, the timebase, the timers, TWIN and STARCH. -/
def Body.formedRest (e : Env) (b : Body) (f : Fld) (i : Nat) : Option Nat :=
  match f with
  | .metaCoefValue => some (coefWord b.coefBank (b.rd .metaCoefselSel) i)
  | .metaWarmWarmRem => some (if b.flag .metaRefstatWarmDone then 0
      else match b.mtr.cellT with
        | some t => remain e.now (t + 900000000000) 1000000000
        | none => 0xFFFF)
  | .metaTraceBytes => some (sparseGet 0 b.bank i)
  | .tbNowTime => some e.count
  | .tbHoldsecSec => some (b.holdSec e % 2 ^ 32)
  | .tbTmrctlRecovery => some (bit (b.recovery e))
  | .tbTmrctlBench => some (bit (b.role = .bench))
  | .tbTmrctlInForce =>
    some (bit (b.flag .tbTmrctlForce || b.flag .tbTmrctlStart || b.role = .bench || b.recovery e))
  | .tbMatchsumBits => some (bitsOf 32 (32 * i) fun t => b.flag .tmrCtrlMatch t)
  | .tbCapsumBits => some (bitsOf 32 (32 * i) fun t => b.flag .tmrCtrlCapf t)
  | .twinHbSnapAge => some (b.snapAge e)
  | .twinHbHbAge => some (match b.twin.hbT with
      | some t => min 0xFFFF ((e.now - t) / 10)
      | none => 0xFFFF)
  | .starchStatSealed => some (bit (bitAt (e.fuse 1) 31))
  | .starchDigestD => some (ofLeBytes ((((starchDigest e.map).drop (4 * i)).take 4)))
  | _ => none

/-- The value of a field as the module forms it now; none for one that is kept. -/
def Body.formed (e : Env) (b : Body) (f : Fld) (i : Nat) : Option Nat :=
  let a := f.row.base
  if 0x10000 ≤ a ∧ a < 0x20000 then
    match b.formedCh e f i with
    | some v => some v
    | none => b.formedArea e f i
  else if f.held then b.formedFe f i
  else match b.formedHub e f i with
    | some v => some v
    | none => b.formedRest e f i

/-- The value of a field that no rule fixes: coefficients of "the other bank" while the manufacture coefficients are in force (R359). -/
def Body.openField (b : Body) (f : Fld) : Bool :=
  match f with
  | .metaCoefValue => b.flag .metaCoefselBank && decide (b.rd .metaCalstatBank = 3)
  | _ => false

/-- A field's value at a read. -/
def Body.readField (e : Env) (f : Fld) (i : Nat) (b : Body) : Nat × Body :=
  if b.openField f then (b.free.1 % 2 ^ fieldWidth f, b.free.2)
  else match b.formed e f i with
    | some v => (v % 2 ^ fieldWidth f, b)
    | none => (b.get f i, b)

/-- A read of the fields of a word: WO reads 0 (R6). -/
def Body.readHits (e : Env) (hs : List (Fld × Nat × Nat)) (b : Body) : Nat × Body :=
  hs.foldl (fun p h =>
    if h.1.row.acc = .wo then p
    else
      let r := p.2.readField e h.1 h.2.1
      (orBits p.1 (h.1.part h.2.2 r.1), r.2)) (0, b)

/-- A read sets an RC field to its reset value (R6). -/
def Body.clearRc (hs : List (Fld × Nat × Nat)) (b : Body) : Body :=
  hs.foldl (fun b h => if h.1.row.acc = .rc then b.put h.1 h.2.1 (fieldReset h.1 h.2.1) else b) b

/-- A word holds an RC field. -/
def hasRc (a : Nat) : Bool := (hits a).any fun h => h.1.row.acc = .rc

end Sys2Proof.Machine
end

