-- ==== Sys2Proof/Machine/Link.lean ====
section
/-!
DEFINITION. Host accesses of FE-held words: reads (R31, R36, R37, R125, R471), the commands that a host write gives a die (R123, R292,
R294, R316), and MOD.SYNC.
-/

namespace Sys2Proof.Machine

open Sys2Proof

/-- The entry at an address of a trace window (R125). -/
def Body.traceWord (b : Body) (a : Nat) : Nat :=
  let o := (a - 0x100000) % 0x10000
  sparseGet 0 (b.fe (feOf a)).trace (o / 0x4000 * 4096 + o % 0x4000 / 4)

/-- The word at an FE-held address as its die samples it; an RC field is cleared (R6, R37, R550). -/
def Body.feSample (e : Env) (a : Nat) (b : Body) : Nat × Body :=
  if 0x100000 ≤ a then (b.traceWord a, b)
  else
    let hs := hits a
    let r := b.readHits e hs
    (r.1, r.2.clearRc hs)

/-- A host read of an FE-held address: behind every earlier write to the die (R37); 0 while its link is down (R471). -/
def Body.feRead (e : Env) (a : Nat) (b : Body) : Nat × Body :=
  let k := feOf a
  if b.linkUp? k then (b.drain e k).feSample e a else (0, b.wr .twinDieVoidRead k 1)

/-- ICL_READ_REQUEST (R37): the request reaches die k, which samples the word and replies. -/
def execIclReadRequest (k : DieIx) (port : Fin 2) (addr : Nat) (s : State) : Out :=
  .next (s.onBody fun e b =>
    let a := addr / 4 * 4
    if b.hubDown || !feHeld a || feOf a ≠ k then b
    else
      let b := if b.linkUp? k then (b.drain e k).framed k false [(2, [a])] else b
      let r := b.feRead e a
      if b.linkUp? k then r.2.onDie k fun d => { d with up := d.up ++ [.readReply port a r.1] }
      else { r.2 with reply := [0] })

/-- The RW fields of die k's word at an FE[0] address as they stand: a command bit written with them changes none. -/
def Body.heldBits (k a : Nat) (b : Body) : Nat :=
  (hits a).foldl (fun x h => if h.1.row.acc = .rw then x + h.1.part 0 (b.drd k h.1 k) else x) 0

/-- TRACE_ARM (R123): DIV and PRE as written with the same write. -/
def execTraceArm (k : DieIx) (div pre : Nat) (s : State) : Out :=
  .next (s.onBody fun e b => b.atDie e k 0x20810 (div % 256 * 2 ^ 16 + pre % 4096 + 2 ^ 24) fun b =>
    (b.trFields k (div % 256) (pre % 4096)).trArm k)

/-- TRACE_FORCE (R123). -/
def execTraceForce (k : DieIx) (s : State) : Out :=
  .next (s.onBody fun e b => b.atDie e k 0x20810 (b.heldBits k 0x20810 + 2 ^ 25) fun b => b.trForceNow e k)

/-- DIRECT_CONV_GO (R292). -/
def execDirectConvGo (k : DieIx) (s : State) : Out :=
  .next (s.onBody fun e b => b.atDie e k 0x20020 (b.heldBits k 0x20020 + 2 ^ 31) fun b => b.convRequest e k)

/-- CAPTURE_FORCE (R294): a capture whatever the source, and even while EN is 0. -/
def execCaptureForce (k : DieIx) (s : State) : Out :=
  .next (s.onBody fun e b => b.atDie e k 0x20040 (b.heldBits k 0x20040 + 2 ^ 31) fun b => b.capture e k 0 0)

/-- CAPTURE_ABORT (R316). -/
def execCaptureAbort (k : DieIx) (s : State) : Out :=
  .next (s.onBody fun e b => b.atDie e k 0x20040 (b.heldBits k 0x20040 + 2 ^ 30) fun b => b.capAbort k)

/-- A read of MOD.SYNC: every write to a die that is up is applied and acknowledged, behind what that die has sent before, and the
dies whose link is down and for which host writes wait are marked (R30, R36, R46). -/
def Body.sync (e : Env) (b : Body) : Nat × Body :=
  let mask := bitsOf 8 0 fun k => !(b.fe k).joined && (b.fe k).owes
  (mask, b.forEach ((List.range 8).filter fun k => (b.fe k).joined) fun k b => (b.drain e k).deliverUp e k)

/-- MOD_SYNC_READ (R36). -/
def execModSyncRead (s : State) : Out :=
  .next (s.onBody fun e b =>
    if b.hubDown then b
    else
      let r := (b.stir e).sync e
      { r.2 with reply := [r.1] })

/-! ### Current ranges (R16, R101, R302) -/

/-- A capture of the current input of channel n runs (R302). -/
def Body.capturesCs (b : Body) (n : Nat) : Bool :=
  (b.fe (dieOf n)).urg.run = some .capture && decide ((b.fe (dieOf n)).urg.capIn = n % 16)

/-- The ranges of die k change at the boundary just reached; the forwarding frame that carries the change and the rescaled values
arrives behind the frames sent before it, and with the link down it does not arrive (R16, R30, R101, R302). -/
def Body.applyRanges (e : Env) (k : Nat) (b : Body) : Body :=
  if !b.linkUp? k then b
  else (b.drain e k).forEach (dieChannels k) fun n b =>
    let fine := bitAt (b.drd k .feIrangeFine k) (n % 16)
    if fine = b.fineOn n || b.capturesCs n then b
    else
      let a := b.drd k .feIrangeApplied k
      let b := b.dwr k .feIrangeApplied k (if fine then setBit a (n % 16) else clearBit a (n % 16))
      let b := (b.rangeFields e n fine).disturb k (n % 16)
      b.onPath n fun m => { m with cur := { b.newSum n with slot := m.cur.slot } }

/-- IRANGE_APPLY (R302): at the present boundary of die k, or at its next one. -/
def execIrangeApply (k : DieIx) (s : State) : Out :=
  if s.body.dieOff k || s.body.hubDown then .next s
  else if (s.body.fe k).lastB = s.time.elapsed then .next (s.onBody fun e b => b.applyRanges e k)
  else .next ((s.goTo (nextBoundary s.env s.body k)).onBody fun e b => (b.closeDie e k).applyRanges e k)

end Sys2Proof.Machine
end

