-- ==== Sys2Proof/Machine/Host.lean ====
section
/-!
DEFINITION. Host writes (R6 to R9, R31 to R34, R464, R494, R499, R500, R608): which fields a write takes, what it does beside
them, and where a word goes.
-/

namespace Sys2Proof.Machine

open Sys2Proof

/-! ### Levels and mirroring -/

/-- The unlock that a write of a field of CH or TABLES needs (R80, R126, R136, R170, R184, R204, R238). -/
def chanUnlock (a : Nat) : Option Nat :=
  if 0x84000 ≤ a then some 2
  else if 0x80000 ≤ a then some 1
  else
    let o := a - 0x10000
    if 0x0C ≤ o ∧ o ≤ 0x14 then some 0
    else if o < 0x30 then none
    else if o < 0x60 then some 1
    else if o < 0xA0 then some 2
    else if o < 0xC0 then some 3
    else if o < 0xE0 then some 4
    else none

/-- The unlock that a write of a HUB-held field needs; none at the basic level (R247, R359, R404, R467, R531, R562, R588). -/
def Fld.unlock (f : Fld) : Option Nat :=
  if f.ofChan then chanUnlock f.row.base
  else if 0x8000 ≤ f.row.base ∧ f.row.base < 0x9000 then (if f = .feederVsetVSet then none else some 10)
  else if 0x7000 ≤ f.row.base ∧ f.row.base < 0x8000 then
    (match f with
      | .hpCfgRdwords | .hostAttncfgEn0 | .hostAttncfgEn1 => none
      | _ => some 11)
  else match f with
    | .budgetStaggerStaggerPeriod | .budgetStaggerStaggerMin | .budgetBusminBusMinTime | .budgetBusminBusMin
    | .budgetHoldupReturnQual | .budgetHoldupAcfailFilt | .budgetHoldupBusWarnTime | .budgetHoldupBusWarn
    | .budgetHustageStageV | .budgetHustageDelay => some 4
    | .metaCalintInterval | .metaCoefselBank | .metaCoefselSel | .metaStageBytes => some 6
    | .tbDiscStepEn | .tbDiscLockThr | .tbDiscSlewWindow | .tbPpscfgPpsDelay | .tbPpscfgMinw | .tbPpscfgPpsEn
    | .tbPpscfgEdge => some 7
    | .twinCtrlLock => some 9
    | .healthTcfgWarn => some 12
    | _ => none

/-! ### Fields -/

/-- A bench scan runs on a die. -/
def Body.scans (b : Body) : Bool := (List.range 8).any fun k => (b.fe k).urg.run = some .bench

/-- Fields of a timer's CTRL and CAPCFG: host writes are ignored while the timer serves a tach (R403). -/
def Fld.ofTimer (f : Fld) : Bool :=
  match f with
  | .tmrCtrlMatch | .tmrCtrlCapf | .tmrCtrlCovr | .tmrCtrlRun | .tmrCtrlAct | .tmrCtrlTgt | .tmrCtrlLink | .tmrCtrlLapsafe
  | .tmrCapcfgCen | .tmrCapcfgEdge | .tmrCapcfgMie | .tmrCapcfgCie | .tmrCapcfgFunit | .tmrCapcfgFilt | .tmrCapcfgPresc
  | .tmrCapcfgSrc => true
  | _ => false

/-- A host write of an RW field takes effect now; CTRL.EN, CALCTL and MOD.EXPERT act by their own rules (R359, R374, R403). -/
def Body.rwTakes (b : Body) (f : Fld) (i : Nat) : Bool :=
  (match f.unlock with
    | some u => b.unlocked u
    | none => true) && !(b.role = .standby && f.mirrored) &&
  (match f with
    | .chCtrlEn | .metaCalctlSwap | .metaCalctlSlots | .metaCalctlMode | .modExpertUnlock => false
    | .metaBenchcfgEdge | .metaBenchcfgRatio | .metaBenchcfgDwell | .metaBenchcfgNavg => b.role = .bench && !b.scans
    | .metaStageBytes => b.mtr.sess.isNone
    | _ => !(f.ofTimer && b.tachOn i))

/-- The value that a write gives an RW field: held to its range, to its enable layout, in which FET_SHORT's bit is fixed at 1 (R165, R571, R572), to its policy preset (R194). -/
def Body.rwValue (b : Body) (h : Fld × Nat × Nat) (word : Nat) : Nat :=
  let v := h.1.clampTo (h.1.taken h.2.2 (b.rd h.1 h.2.1) word)
  if h.1 = .alertEn then orBits (andBits v (alertEnMask h.2.1)) (if h.2.1 = 0 then 4 else 0)
  else if h.1.isPol then h.1.polHeld (b.boot.vals.polPreset (b.rd .chClassFclass h.2.1) h.1) v
  else v

/-- What a word that has been written must not form: a window without its width, a hold-up level at or above BUS_MIN, more
levels than a ladder has, limits that cross, addresses that collide (R192, R230, R286, R523, R540). -/
def Body.wordOk (b : Body) (hs : List (Fld × Nat × Nat)) : Bool :=
  hs.all fun h =>
    match h.1 with
    | .chBuswinBusUv => decide (b.rd .chBuswinBusUv h.2.1 + 40 ≤ b.rd .chBuswinBusOv h.2.1) && b.laddersFit
    | .budgetBusminBusMin | .budgetHoldupBusWarn =>
      decide (b.rd .budgetHoldupBusWarn < b.rd .budgetBusminBusMin) && b.laddersFit
    | .budgetHustageStageV => b.laddersFit
    | .feederVlimVmin => decide (b.rd .feederVlimVmin ≤ b.rd .feederVlimVmax)
    | .hostAddrcfgPair | .hostXaddrEn0 => b.addrsOk
    | _ => true

/-- The RW fields of a word that a write takes, by key, with their values. -/
def Body.taking (b : Body) (hs : List (Fld × Nat × Nat)) (word : Nat) : List (Nat × Nat) :=
  (hs.filter fun h => h.1.row.acc = .rw && b.rwTakes h.1 h.2.1).map fun h => (fkey h.1 h.2.1, b.rwValue h word)

/-- The RW fields of a word are written together; a change of a field that the image loads is an override (R500). -/
def Body.writeFields (e : Env) (hs : List (Fld × Nat × Nat)) (word : Nat) (b : Body) : Body :=
  let kvs := b.taking hs word
  let trial := kvs.foldl (fun b kv => b.wr (keyFld kv.1) (kv.1 / 1024) kv.2) b
  if kvs.isEmpty || !trial.wordOk hs then b
  else
    let moved := kvs.any fun kv => (keyFld kv.1).img && b.at kv.1 ≠ kv.2
    (if moved then b.wr .modImgstatOverridden 0 1 else b).config e true kvs

/-- Each 1 clears a bit of a W1C field (R6, R403). -/
def Body.writeClears (hs : List (Fld × Nat × Nat)) (word : Nat) (b : Body) : Body :=
  hs.foldl (fun b h =>
    if h.1.row.acc = .w1c && !(b.role = .standby && h.1.mirrored) && !(h.1.ofTimer && b.tachOn h.2.1) then
      b.wr h.1 h.2.1 (andNot (b.rd h.1 h.2.1) (h.1.asked h.2.2 word))
    else b) b

/-- CTRL.EN of channel n is written; a member's is ignored (R62, R64). -/
def Body.writeEn (e : Env) (n v : Nat) (b : Body) : Body :=
  if b.isMember n || b.rd .chCtrlEn n = v then b
  else
    let b := b.wr .modImgstatOverridden 0 1
    if v = 1 then b.enGo e n else b.enOff e n

/-! ### Commands -/

/-- A trigger at every die (R368, R373). -/
def Body.benchAll (e : Env) (zero : Bool) (b : Body) : Body := (List.range 8).foldl (fun b k => b.benchTrigger e zero k) b

/-- A command bit of the timebase, the timers or the budget is written as 1, or CTRL.EN takes its bit. -/
def Body.actMirrored (e : Env) (f : Fld) (i word : Nat) (b : Body) : Body :=
  match f with
  | .chCtrlRequeue => b.requeue e i
  | .budgetGstartGo => b.gstart e
  | .tbSetctlNow => b.tbNow e
  | .tbSetctlArm => b.tbArm
  | .tbSetctlAlign => b.tbAlign
  | .tbSetctlCancel => b.tbCancel
  | .tbRelctlGo => b.releaseGo e (bitAt word 28)
  | _ => b

/-- A command bit of the rest of HUB is written as 1. -/
def Body.actOwn (e : Env) (f : Fld) (i word : Nat) (b : Body) : Body :=
  match f with
  | .metaCalctlAbort => b.calAbort e
  | .metaBenchctlEnter => b.benchEnter e
  | .metaBenchctlExit => b.benchExit e
  | .metaBenchctlTrig => b.benchAll e false
  | .metaBenchctlZero => b.benchAll e true
  | .recCtrlFlush => (b.flushAll e).showFill
  | .recDevctlEject => b.eject e i
  | .recDevctlPrepare => b.devPrepare e i
  | .recDevctlCancel => b.devCancel i
  | .recRdctlGo => b.readGo (bits word 1 0) (bits word 4 4)
  | .twinCtrlHandover => b.handover e
  | .twinCtrlStanddown => b.standdown e
  | .modBootSoloAccept => b.soloAccept e
  | .modExpertKey => b.expert e word
  | .modImgcmdEraseB => b.imgStart 1
  | .modImgcmdProgram => b.imgStart 2
  | .modImgcmdRead => b.imgStart 3
  | .modImgcmdPatch => b.imgStart 4
  | .modCtrlDoze => b.dozeRequest e
  | _ => b

/-- What a word does beside its fields: each command bit written as 1, in the table's order. -/
def Body.act (e : Env) (word : Nat) (h : Fld × Nat × Nat) (b : Body) : Body :=
  if b.role = .standby && h.1.mirrored then b
  else if h.1 = .chCtrlEn then b.writeEn e h.2.1 (bits word 0 0)
  else if h.1 = .metaCalctlStart then b.calStart e word
  else if h.1.asked h.2.2 word = 0 then b
  else (b.actMirrored e h.1 h.2.1 word).actOwn e h.1 h.2.1 word

/-- A host write of a HUB-held word: its fields, the bits it clears, its commands. -/
def Body.hubWrite (e : Env) (a word : Nat) (b : Body) : Body :=
  let hs := hits a
  hs.foldl (fun b h => b.act e word h) ((b.writeFields e hs word).writeClears hs word)

/-! ### The Starch bank (R493 to R495) -/

/-- The bits of a word of the Starch map that a write takes; word 0x1FC is written at SEAL. -/
def mapMask (w : Nat) : Nat :=
  if w = 1 then 0x80000006
  else if w < 10 then 0xFFFFFFFF
  else if 16 ≤ w ∧ w < 48 then
    (match w % 4 with
      | 2 => 0xFFFF03FF
      | 3 => 0xFFFF0000
      | _ => 0xFFFFFFFF)
  else if 48 ≤ w ∧ w < 60 then 0x3FFFFFFF
  else if w = 60 then 0xFFFFFF
  else if 64 ≤ w ∧ w < 68 then 0xFFFFFFFF
  else 0

/-- A write of a word of the Starch map (R494). -/
def State.mapWrite (w word : Nat) (s : State) : State :=
  if s.body.unlocked 14 && s.body.allUnconf && !sealed s.starch.map && decide (mapMask w ≠ 0) then
    s.setMap (sparseSet 0 s.starch.map w (andBits word (mapMask w)))
  else s

/-- A write of STARCH.FUSECTL (R495). -/
def State.fuseWrite (word : Nat) (s : State) : State :=
  [(31, 1), (30, 2), (29, 3)].foldl (fun s p => if bitAt word p.1 then s.fuseStart p.2 else s) s

/-! ### Any word -/

/-- The module holds host writes for the incoming module of a Seam (R464). -/
def Body.passes (b : Body) : Bool :=
  match b.twin.seam with
  | some m => m.out && m.passedP
  | none => false

/-- A host write of a word (R9, R31, R32, R464, R552); a STANDBY module's dies take no mirrored field from it (R458). From T_P on the
outgoing module forwards it (R464). -/
def State.hostWrite (addr word : Nat) (s : State) : State :=
  let a := addr / 4 * 4
  if !inRegion a || s.body.hubDown then s
  else if s.body.passes then
    s.onBody fun _ b => (b.onTwin fun t => { t with heldWrites := t.heldWrites ++ [(a, word)] }).sendBluli 5 [a, word]
  else if feHeld a then
    s.onBody fun _ b => b.sendDown (feOf a) (.hostWrite a word (b.unlocked 5 && b.role ≠ .standby))
  else if 0x1000 ≤ a ∧ a < 0x1200 then s.mapWrite ((a - 0x1000) / 4) word
  else if a = 0x1240 then s.fuseWrite word
  else s.onBody fun e b => b.hubWrite e a word

/-- REGISTER_WRITE (R32): an accepted write of one word, without its port. -/
def execRegisterWrite (addr : Nat) (value : Word) (s : State) : Out :=
  .next ((s.onBody fun e b => b.stir e).hostWrite addr value.toNat)

/-! ### Writes held over a Seam (R464, R466) -/

/-- The module that has taken the gates applies the host writes that its partner had accepted and forwarded, in their order (R464, R466). -/
def State.heldOut (s : State) : State :=
  if !s.body.drives || s.body.passes then s
  else
    s.body.twin.heldWrites.foldl (fun s w => s.hostWrite w.1 w.2)
      { s with body := s.body.onTwin fun t => { t with heldWrites := [] } }

/-- BLULI_CONFIG_WRITE (R456, R464): fields by key, in force at once. DESIGN CHOICE (log 221): from T_P of a Seam on, the pairs that the
incoming module receives are host writes, address and word, held until T_S and applied at once from then on. -/
def execBluliConfigWrite (kvs : List (Nat × Nat)) (s : State) : Out :=
  let hold := fun (t : Twin) => { t with heldWrites := t.heldWrites ++ kvs }
  if s.body.mirrors then
    .next (s.onFrame fun e b => if b.froze then b.onTwin hold else b.mirrorKeys e kvs)
  else if s.body.role = .active && s.body.twin.seamE.isSome && s.body.twin.seam.isSome then
    .next (s.onFrame fun _ b => b.onTwin hold).heldOut
  else .next (s.onFrame fun _ b => b)

/-- SEAM_T_S (R462, R464). -/
def execSeamTS (s : State) : Out :=
  match s.body.twin.seam with
  | some m =>
    match m.plan, m.passedP && !m.passedS with
    | some (_, ts), true => .next ((s.goTo ts).onBody fun e b => b.seamS e m).heldOut
    | _, _ => .next s
  | none => .next s

/-- HEARTBEAT_LOSS (R455, R466): 25 µs after the last heartbeat. -/
def execHeartbeatLoss (s : State) : Out :=
  match s.body.twin.hbT, s.body.flag .twinStatHbOk with
  | some t, true => .next ((s.goTo (t + 25000)).onBody fun e b => if b.hubDown then b else b.hbLost e).heldOut
  | _, _ => .next s

/-- BLULI_HEARTBEAT (R455). -/
def execBluliHeartbeat (h : Heartbeat) (s : State) : Out :=
  if s.body.hubDown then .next s else .next (s.heartbeat h).heldOut

end Sys2Proof.Machine
end

