-- ==== Sys2Proof/Machine/Port.lean ====
section
/-!
DEFINITION. The host ports (R534 to R559): how a transaction is taken, the PMBus commands, the window commands, the attention
pull and the Alert Response Address.
-/

namespace Sys2Proof.Machine

open Sys2Proof

/-! ### Reads of any word -/

/-- A host read of a word; dirty says that the Starch map in force differs from the fuses (R9, R36, R37, R493, R511, R552). -/
def Body.readWord (e : Env) (dirty : Bool) (addr : Nat) (b : Body) : Nat × Body :=
  let a := addr / 4 * 4
  if !inRegion a then (0, b)
  else if feHeld a then b.feRead e a
  else if a = 0x40 then b.sync e
  else if 0x1000 ≤ a ∧ a < 0x1200 then (e.fuse ((a - 0x1000) / 4), b)
  else
    let hs := hits a
    let r := b.readHits e hs
    (orBits r.1 (if a = 0x1200 then 2 ^ 28 * bit dirty else 0), r.2.clearRc hs)

/-- STARCH.STAT.DIRTY (R511). -/
def State.dirty (s : State) : Bool := s.starch.map ≠ s.starch.fuses

/-! ### Transactions (R534, R542, R545 to R548) -/

/-- The transaction is addressed to the pair address (R539). -/
def Body.xferPaired (b : Body) (x : Xfer) : Bool := b.isPair x.addr

/-- The module acknowledges the address of a transaction (R474, R533, R538, R539). -/
def Body.answers (b : Body) (x : Xfer) : Bool :=
  b.rd .modBootPhase ≠ 0 && !b.hubDown &&
    (if b.xferPaired x then b.flag .twinStatPairAddr && (match b.role with
      | .solo | .active | .bench => true
      | .starting | .standby => false)
    else b.ownAddress x.addr)

/-- A bit of HOST[p].STAT is set; bits 6 to 0 raise their leaves (R563). -/
def Body.portFlag (p : Nat) (f : Fld) (b : Body) : Body :=
  let b := b.wr f p 1
  if f.row.lo ≤ 6 then b.raise (4, 8 * p + f.row.lo) else b

/-- The pointer of an address kind on port p is valid. -/
def Body.ptrValid (b : Body) (p : Nat) (pair : Bool) : Bool := b.flag (if pair then .hpStatPairValid else .hpStatOwnValid) p

/-- The pointer of an address kind on port p: byte address and direction (R547). -/
def Body.ptr (b : Body) (p : Nat) (pair : Bool) : Nat × Bool :=
  if pair then (4 * b.rd .hpPtrPairAddr p, b.flag .hpPtrPairDesc p) else (4 * b.rd .hpPtrOwnAddr p, b.flag .hpPtrOwnDesc p)

/-- Set the byte address of a pointer, modulo 2^32. -/
def Body.setPtr (p : Nat) (pair : Bool) (a : Nat) (b : Body) : Body :=
  b.wr (if pair then .hpPtrPairAddr else .hpPtrOwnAddr) p (a % 2 ^ 32 / 4)

/-- Byte addresses from a pointer on, ascending or descending (R548). -/
def ptrAddrs (q : Nat × Bool) (n : Nat) : List Nat :=
  (List.range n).map fun j => if q.2 then (q.1 + 2 ^ 32 - 4 * j) % 2 ^ 32 else (q.1 + 4 * j) % 2 ^ 32

/-- A write of a word is protected (R546). -/
def protectedAddr (addr : Nat) : Bool :=
  let a := addr / 4 * 4
  let within (lo hi : Nat) := decide (lo ≤ a) && decide (a ≤ hi)
  within 0x100 0x2FF || within 0x1000 0x1FFF || a = 0x2004 || within 0x3000 0x30FF || within 0x7000 0x7FFF || within 0x8000 0x9FFF ||
    (within 0x10000 0x1FFFF && decide ((a - 0x10000) % 0x200 ≤ 0xDF)) ||
    (within 0x20000 0x27FFF && ((a - 0x20000) % 0x1000 = 0x14 || (a - 0x20000) % 0x1000 = 0x18)) || within 0x80000 0x87FFF

/-- A write must carry PEC; hot says that it is protected (R546). -/
def Body.pecNeeded (b : Body) (hot : Bool) : Bool :=
  match b.rd .hostPecReq with
  | 0 => false
  | 1 => hot
  | _ => true

/-- What the module takes a transaction for: a read, or a write that is protected or not. -/
inductive XferKind where
  | read
  | write (hot : Bool)
  deriving DecidableEq, Repr

/-- Why the module does not take a transaction: the STAT bit it sets; window says that it uses the pointer (R542, R545 to
R547). -/
def Body.portBar (b : Body) (x : Xfer) (window : Bool) (kind : XferKind) : Option Fld :=
  if window && !b.ptrValid x.port (b.xferPaired x) then some .hpStatNoptr
  else match x.fit, kind, x.pec with
    | .badCmd, _, _ => some .hpStatBadCmd
    | .badLen, _, _ => some .hpStatBadLen
    | .ok, .write _, .bad => some .hpStatPecErr
    | .ok, .write hot, .absent => if b.pecNeeded hot then some .hpStatPecMissing else none
    | .ok, .write _, .good => none
    | .ok, .read, _ => none

/-- A transaction that is not taken changes nothing but its STAT bit and REJECTED (R542, R563). -/
def Body.portReject (p : Nat) (f : Fld) (b : Body) : Body :=
  let b := b.portFlag p f
  if f = .hpStatNoptr then b else b.bump .hpCntRejected p

/-- ACCEPTED counts modulo 65 536 (R563). -/
def Body.portCount (p : Nat) (b : Body) : Body := b.wr .hpCntAccepted p (b.rd .hpCntAccepted p + 1)

/-- A transaction runs: an address match wakes the module (R52), and what is taken has its effect and is counted. -/
def State.serve (x : Xfer) (window : Bool) (kind : XferKind) (f : State → State) (s : State) : State :=
  if !s.body.answers x then s
  else
    let s := s.onBody fun e b => b.stir e
    match s.body.portBar x window kind with
    | some g => s.onBody fun _ b => b.portReject x.port g
    | none => (f s).onBody fun _ b => b.portCount x.port

/-- A read command answers with bytes or a word. -/
def State.answer (x : Xfer) (f : Body → List Nat) (s : State) : State :=
  s.serve x false .read fun s => s.onBody fun _ b => { b with reply := f b }

/-- An access outside every region is flagged (R552). -/
def Body.flagUnmapped (p : Nat) (as : List Nat) (b : Body) : Body :=
  if as.all inRegion then b else b.portFlag p .hpStatUnmapped

/-! ### Standard commands (R541, R543, R544) -/

/-- CAPABILITY (R541). -/
def execCapability (x : Xfer) (s : State) : Out := .next (s.answer x fun _ => [0xD0])

/-- The byte that QUERY returns for a command code (R544). -/
def queryByte (code : Nat) : Nat :=
  match code with
  | 0x1A | 0xD0 | 0xD1 | 0xD2 => 0xFC
  | 0x19 | 0x78 | 0x79 | 0x98 | 0x99 | 0x9A | 0x9B | 0x9E => 0xBC
  | _ => 0

/-- QUERY (R544). -/
def execQuery (x : Xfer) (code : Nat) (s : State) : Out := .next (s.answer x fun _ => [queryByte code])

/-- The gate of a channel's state is off or forced off (R54, R543). -/
def Body.gateOff (b : Body) (n : Nat) : Bool := !((b.ch (b.leadOf n)).eff).driven

/-- A group is pending (R543). -/
def Body.groupPends (b : Body) (g : Nat) : Bool := bitAt b.sumGroup g

/-- STATUS_WORD (R543). -/
def Body.statusWord (b : Body) : Nat :=
  let chans := List.range 128
  let st (n : Nat) := (b.ch (b.leadOf n)).eff
  let any (gs : List Nat) := gs.any b.groupPends
  2 ^ 14 * bit (chans.any fun n => (b.ch n).capOn || st n = .shed) + 2 ^ 13 * bit (b.holdup || b.feederTrig)
    + 2 ^ 12 * bit (any [0]) + 2 ^ 11 * bit (!(b.role = .solo || b.role = .active))
    + 2 ^ 10 * bit ((List.range 8).any fun k => b.flag .fanStatStall k) + 2 ^ 9 * bit (any [6, 7, 10])
    + 2 ^ 7 * bit (decide (b.rd .modBootPhase < 7)) + 2 ^ 6 * bit (chans.all b.gateOff)
    + 2 ^ 4 * bit (chans.any fun n => st n = .cooling || st n = .latched)
    + 2 ^ 3 * bit (any [9]) + 2 ^ 2 * bit (any [8]) + 2 * bit (any [4]) + bit (any [1, 2, 3, 5])

/-- STATUS_BYTE (R543). -/
def execStatusByte (x : Xfer) (s : State) : Out := .next (s.answer x fun b => [b.statusWord % 256])

/-- STATUS_WORD (R543). -/
def execStatusWord (x : Xfer) (s : State) : Out := .next (s.answer x fun b => [b.statusWord])

/-- PMBUS_REVISION (R541). -/
def execPmbusRevision (x : Xfer) (s : State) : Out := .next (s.answer x fun _ => [0x33])

/-- MFR_ID (R541): "KYSINOR". -/
def execMfrId (x : Xfer) (s : State) : Out := .next (s.answer x fun _ => [0x4B, 0x59, 0x53, 0x49, 0x4E, 0x4F, 0x52])

/-- MFR_MODEL (R541): "ZQ-7128". -/
def execMfrModel (x : Xfer) (s : State) : Out := .next (s.answer x fun _ => [0x5A, 0x51, 0x2D, 0x37, 0x31, 0x32, 0x38])

/-- MFR_REVISION (R541): MOD.REV.MINOR, then MOD.REV.MAJOR. -/
def execMfrRevision (x : Xfer) (s : State) : Out := .next (s.answer x fun b => [b.rd .modRevMinor, b.rd .modRevMajor])

/-- MFR_SERIAL (R541): MODULE_SERIAL. -/
def execMfrSerial (x : Xfer) (s : State) : Out :=
  .next (s.answer x fun b => (List.range 4).flatMap fun i => leBytes 4 (b.rd .modSerialBytes i))

/-! ### Window commands (R547 to R550) -/

/-- A pointer is loaded and valid. -/
def Body.loadPtr (x : Xfer) (v : Nat) (b : Body) : Body :=
  let pair := b.xferPaired x
  ((b.setPtr x.port pair v).wr (if pair then .hpPtrPairDesc else .hpPtrOwnDesc) x.port (v % 2)).wr
    (if pair then .hpStatPairValid else .hpStatOwnValid) x.port 1

/-- WIN_ADDR written (R547). -/
def execWinAddrWrite (x : Xfer) (value : Word) (s : State) : Out :=
  .next (s.serve x false (.write false) fun s => s.onBody fun _ b => b.loadPtr x value.toNat)

/-- WIN_ADDR read (R547). -/
def execWinAddrRead (x : Xfer) (s : State) : Out :=
  .next (s.answer x fun b => [(b.ptr x.port (b.xferPaired x)).1 + bit (b.ptr x.port (b.xferPaired x)).2])

/-- WIN_DATA written (R548). -/
def execWinDataWrite (x : Xfer) (value : Word) (s : State) : Out :=
  let a := (s.body.ptr x.port (s.body.xferPaired x)).1
  .next (s.serve x true (.write (protectedAddr a)) fun s =>
    (s.hostWrite a value.toNat).onBody fun _ b => b.flagUnmapped x.port [a])

/-- A word is read through a port, whose BUSY is 1 meanwhile. -/
def State.portRead (p a : Nat) (s : State) : Nat × State :=
  let r := (s.body.wr .hpStatBusy p 1).readWord s.env s.dirty a
  (r.1, ({ s with body := r.2.wr .hpStatBusy p 0 } : State).onBody fun _ b => b.flagUnmapped p [a])

/-- A read that ends inside a word loses what the word cleared (R550). -/
def Body.loseRc (p a : Nat) (b : Body) : Body := if hasRc (a / 4 * 4) then b.portFlag p .hpStatRcLost else b

/-- WIN_DATA read (R548, R550): whole says that the last byte of the word has been sent. -/
def execWinDataRead (x : Xfer) (whole : Bool) (s : State) : Out :=
  let a := (s.body.ptr x.port (s.body.xferPaired x)).1
  .next (s.serve x true .read fun s =>
    let r := s.portRead x.port a
    r.2.onBody fun _ b => if whole then { b with reply := [r.1] } else b.loseRc x.port a)

/-- A block write carries 1 to 63 words (R542, R548). -/
def blockXfer (x : Xfer) (n : Nat) : Xfer :=
  if x.fit = .ok ∧ (n = 0 ∨ 63 < n) then { x with fit := .badLen } else x

/-- The words of a block write in ascending order of address (R32, R548). -/
def blockOrder (q : Nat × Bool) (ws : List (Nat × Nat)) : List (Nat × Nat) :=
  if q.2 then (ws.reverse.filter fun w => decide (w.1 ≤ q.1)) ++ ws.reverse.filter fun w => decide (q.1 < w.1)
  else (ws.filter fun w => decide (w.1 < q.1)) ++ ws.filter fun w => decide (q.1 ≤ w.1)

/-- The pointer moves past words (R548). -/
def Body.movePtr (p : Nat) (pair : Bool) (n : Nat) (b : Body) : Body :=
  let q := b.ptr p pair
  b.setPtr p pair (if q.2 then q.1 + 2 ^ 32 - 4 * n else q.1 + 4 * n)

/-- WIN_AUTOINC written (R548). -/
def execWinAutoincWrite (x : Xfer) (values : List Word) (s : State) : Out :=
  let pair := s.body.xferPaired x
  let q := s.body.ptr x.port pair
  let as := ptrAddrs q values.length
  .next (s.serve (blockXfer x values.length) true (.write (as.any protectedAddr)) fun s =>
    let s := (blockOrder q (as.zip (values.map (·.toNat)))).foldl (fun s w => s.hostWrite w.1 w.2) s
    s.onBody fun _ b => (b.flagUnmapped x.port as).movePtr x.port pair values.length)

/-- Words are read one after another, each sampled wordNs after the one before it, so a block is no snapshot (R11, R549): their
values, oldest first. -/
def State.portReads (p wordNs : Nat) : List Nat → State → List Nat × State
  | [], s => ([], s)
  | a :: as, s =>
    let r := s.portRead p a
    let t := (r.2.goTo (r.2.time.elapsed + wordNs)).portReads p wordNs as
    (r.1 :: t.1, t.2)

/-- WIN_AUTOINC read (R548 to R550): the words that the host clocks, wordNs apart. -/
def execWinAutoincRead (x : Xfer) (c : Clocked) (wordNs : Nat) (s : State) : Out :=
  let pair := s.body.xferPaired x
  let q := s.body.ptr x.port pair
  .next (s.serve x true .read fun s =>
    let n := min c.sent (s.body.rd .hpCfgRdwords x.port)
    let cut := c.part && decide (n < s.body.rd .hpCfgRdwords x.port)
    let r := s.portReads x.port wordNs (ptrAddrs q n)
    let t := r.2.portReads x.port wordNs ((ptrAddrs q (n + 1)).drop (if cut then n else n + 1))
    t.2.onBody fun _ b =>
      let b := if cut then b.loseRc x.port ((ptrAddrs q (n + 1)).getD n 0) else b
      { b.movePtr x.port pair n with reply := r.1 })

/-- HOST_PORT_TIMEOUT (R534): both pointers of the port become invalid. -/
def execHostPortTimeout (p : Fin 2) (s : State) : Out :=
  .next (s.onBody fun _ b =>
    if b.hubDown || b.rd .modBootPhase = 0 then b
    else ((b.wr .hpStatOwnValid p 0).wr .hpStatPairValid p 0).portFlag p .hpStatTimeout)

/-! ### Attention (R554 to R556) -/

/-- A pull is due on port p (R555). -/
def Body.pullDue (b : Body) (p : Nat) : Bool :=
  b.flag .hpStatAttnPend p && !b.doze && !b.hubDown &&
    (b.rd .hostAttncfgMaxpull = 0 || decide ((b.port p).pulls < b.rd .hostAttncfgMaxpull))

/-- One pull (R555). -/
def Body.pull (e : Env) (p : Nat) (collided : Bool) (b : Body) : Body :=
  let b := (b.bump .hpCntPulls p).onHp p fun h => ⟨h.pulls + 1, some e.now⟩
  if collided then b.portFlag p .hpStatAttnColl else b

/-- ATTENTION_PULL (R555): the first at once, further ones REPEAT_MS apart. -/
def execAttentionPull (p : Fin 2) (collided : Bool) (s : State) : Out :=
  if !s.body.pullDue p then .next s
  else
    let s := match (s.body.port p).lastPull with
      | some t => s.goTo (t + msNs (max 1 (s.body.rd .hostAttncfgRepeatMs)))
      | none => s
    .next (s.onBody fun e b => b.pull e p collided)

/-- ALERT_RESPONSE (R556): a Read Byte at 0x0C; won says that the module completes its address byte. -/
def execAlertResponse (p : Fin 2) (won : Bool) (s : State) : Out :=
  .next (s.onBody fun _ b =>
    if !(b.alertLow || b.flag .hpStatAttnPend p) || b.doze || b.hubDown || !won then b
    else { (b.portFlag p .hpStatAraWon).wr .hpStatAttnPend p 0 with reply := [2 * b.baseAddr] })

end Sys2Proof.Machine
end

