-- ==== Sys2Proof/Machine/Dispatch.lean ====
section
/-!
DEFINITION. One arm per command: a direct call of its meaning, or its name where it has none yet.
-/

namespace Sys2Proof.Machine

open Sys2Proof

/-- The effect of a command on everything but the queue. -/
def exec (i : Instr) (s : State) : Host.Outcome State Fault Refusal :=
  match i with
  | .moduleStart ohms => Sys2Proof.Machine.execModuleStart ohms s
  | .soloDecision => Sys2Proof.Machine.execSoloDecision s
  | .flashDiscovery f => Sys2Proof.Machine.execFlashDiscovery f s
  | .imageReadCheck slotB bytes => Sys2Proof.Machine.execImageReadCheck slotB bytes s
  | .imageApply => Sys2Proof.Machine.execImageApply s
  | .imageRetry => Sys2Proof.Machine.execImageRetry s
  | .soloAccept => Sys2Proof.Machine.execSoloAccept s
  | .expertUnlock value => Sys2Proof.Machine.execExpertUnlock value s
  | .expertUnlockTimeout => Sys2Proof.Machine.execExpertUnlockTimeout s
  | .registerWrite addr value => Sys2Proof.Machine.execRegisterWrite addr value s
  | .modSyncRead => Sys2Proof.Machine.execModSyncRead s
  | .iclWrite k => Sys2Proof.Machine.execIclWrite k s
  | .iclReadRequest k port addr => Sys2Proof.Machine.execIclReadRequest k port addr s
  | .iclReadReply k => Sys2Proof.Machine.execIclReadReply k s
  | .iclWriteAck k => Sys2Proof.Machine.execIclWriteAck k s
  | .iclStatus k => Sys2Proof.Machine.execIclStatus k s
  | .iclTrendIncrement n => Sys2Proof.Machine.execIclTrendIncrement n s
  | .iclCaptureData k raws => Sys2Proof.Machine.execIclCaptureData k raws s
  | .iclSyncMarker m => Sys2Proof.Machine.execIclSyncMarker m s
  | .iclTraceData k => Sys2Proof.Machine.execIclTraceData k s
  | .iclRetransmit k again => Sys2Proof.Machine.execIclRetransmit k again s
  | .clockFail c => Sys2Proof.Machine.execClockFail c s
  | .hubClockLoss => Sys2Proof.Machine.execHubClockLoss s
  | .hubRestart bytes => Sys2Proof.Machine.execHubRestart bytes s
  | .dozeRequest => Sys2Proof.Machine.execDozeRequest s
  | .dozeEnter => Sys2Proof.Machine.execDozeEnter s
  | .dozeScan k outs => Sys2Proof.Machine.execDozeScan k outs s
  | .dozeWake w => Sys2Proof.Machine.execDozeWake w s
  | .seatAssert n => Sys2Proof.Machine.execSeatAssert n s
  | .seatDrop n => Sys2Proof.Machine.execSeatDrop n s
  | .seatQual n => Sys2Proof.Machine.execSeatQual n s
  | .seatLoss n => Sys2Proof.Machine.execSeatLoss n s
  | .aqExpire n => Sys2Proof.Machine.execAqExpire n s
  | .restartOk n => Sys2Proof.Machine.execRestartOk n s
  | .en0 n => Sys2Proof.Machine.execEn0 n s
  | .en1 n => Sys2Proof.Machine.execEn1 n s
  | .requeue n => Sys2Proof.Machine.execRequeue n s
  | .rampDone n => Sys2Proof.Machine.execRampDone n s
  | .limitWin n => Sys2Proof.Machine.execLimitWin n s
  | .capWin n => Sys2Proof.Machine.execCapWin n s
  | .noWin n => Sys2Proof.Machine.execNoWin n s
  | .ilimExpire n => Sys2Proof.Machine.execIlimExpire n s
  | .readmit n => Sys2Proof.Machine.execReadmit n s
  | .retryExpire n => Sys2Proof.Machine.execRetryExpire n s
  | .loopCycle n atPump atSource => Sys2Proof.Machine.execLoopCycle n atPump atSource s
  | .thermalModelStep n => Sys2Proof.Machine.execThermalModelStep n s
  | .hardtrip n uv => Sys2Proof.Machine.execHardtrip n uv s
  | .follow n => Sys2Proof.Machine.execFollow n s
  | .gateStall n => Sys2Proof.Machine.execGateStall n s
  | .fetShort n => Sys2Proof.Machine.execFetShort n s
  | .modelMismatch n => Sys2Proof.Machine.execModelMismatch n s
  | .busWindowQualify n => Sys2Proof.Machine.execBusWindowQualify n s
  | .currentSample n raw => Sys2Proof.Machine.execCurrentSample n raw s
  | .cvbEntrySample k j raw => Sys2Proof.Machine.execCvbEntrySample k j raw s
  | .filterOutput k u => Sys2Proof.Machine.execFilterOutput k u s
  | .sliceVisitEnd k cvb v => Sys2Proof.Machine.execSliceVisitEnd k cvb v s
  | .openWireTest k l ts => Sys2Proof.Machine.execOpenWireTest k l ts s
  | .trendIntervalBoundary k => Sys2Proof.Machine.execTrendIntervalBoundary k s
  | .irangeApply k => Sys2Proof.Machine.execIrangeApply k s
  | .directConvGo k => Sys2Proof.Machine.execDirectConvGo k s
  | .convstEdge k rising => Sys2Proof.Machine.execConvstEdge k rising s
  | .directConvDone k raws => Sys2Proof.Machine.execDirectConvDone k raws s
  | .convRead k => Sys2Proof.Machine.execConvRead k s
  | .captureTrigger k src unit => Sys2Proof.Machine.execCaptureTrigger k src unit s
  | .captureForce k => Sys2Proof.Machine.execCaptureForce k s
  | .captureAbort k => Sys2Proof.Machine.execCaptureAbort k s
  | .captureEnd k => Sys2Proof.Machine.execCaptureEnd k s
  | .traceArm k div pre => Sys2Proof.Machine.execTraceArm k div pre s
  | .traceForce k => Sys2Proof.Machine.execTraceForce k s
  | .traceDone k => Sys2Proof.Machine.execTraceDone k s
  | .budgetCycle => Sys2Proof.Machine.execBudgetCycle s
  | .staggerSlot => Sys2Proof.Machine.execStaggerSlot s
  | .queueLimitExpire n => Sys2Proof.Machine.execQueueLimitExpire n s
  | .gstartGo => Sys2Proof.Machine.execGstartGo s
  | .busMinShed => Sys2Proof.Machine.execBusMinShed s
  | .busMinCrossing => Sys2Proof.Machine.execBusMinCrossing s
  | .holdupTrigger t => Sys2Proof.Machine.execHoldupTrigger t s
  | .holdupStageStart => Sys2Proof.Machine.execHoldupStageStart s
  | .holdupStageEnd => Sys2Proof.Machine.execHoldupStageEnd s
  | .holdupReturn => Sys2Proof.Machine.execHoldupReturn s
  | .energyCheckpoint => Sys2Proof.Machine.execEnergyCheckpoint s
  | .checkpointReadback ok => Sys2Proof.Machine.execCheckpointReadback ok s
  | .refWatchCheck => Sys2Proof.Machine.execRefWatchCheck s
  | .warmUpComplete => Sys2Proof.Machine.execWarmUpComplete s
  | .heaterFault => Sys2Proof.Machine.execHeaterFault s
  | .calStart value => Sys2Proof.Machine.execCalStart value s
  | .calAbort => Sys2Proof.Machine.execCalAbort s
  | .calPhaseEnd meas => Sys2Proof.Machine.execCalPhaseEnd meas s
  | .calStabilityCheck => Sys2Proof.Machine.execCalStabilityCheck s
  | .calSlot n kind m => Sys2Proof.Machine.execCalSlot n kind m s
  | .calStore t1 t2 => Sys2Proof.Machine.execCalStore t1 t2 s
  | .calEpochApply => Sys2Proof.Machine.execCalEpochApply s
  | .calDueExpire => Sys2Proof.Machine.execCalDueExpire s
  | .benchEnter => Sys2Proof.Machine.execBenchEnter s
  | .benchReady => Sys2Proof.Machine.execBenchReady s
  | .benchExit => Sys2Proof.Machine.execBenchExit s
  | .benchTrig => Sys2Proof.Machine.execBenchTrig s
  | .benchZero => Sys2Proof.Machine.execBenchZero s
  | .benchScanCommit k raws => Sys2Proof.Machine.execBenchScanCommit k raws s
  | .benchRestEnd k => Sys2Proof.Machine.execBenchRestEnd k s
  | .ppsPulse => Sys2Proof.Machine.execPpsPulse s
  | .ppsMissing => Sys2Proof.Machine.execPpsMissing s
  | .rateTimeout => Sys2Proof.Machine.execRateTimeout s
  | .timebaseStep => Sys2Proof.Machine.execTimebaseStep s
  | .tbArm => Sys2Proof.Machine.execTbArm s
  | .tbNow => Sys2Proof.Machine.execTbNow s
  | .tbAlign => Sys2Proof.Machine.execTbAlign s
  | .tbCancel => Sys2Proof.Machine.execTbCancel s
  | .clkTbReturn => Sys2Proof.Machine.execClkTbReturn s
  | .timerTick => Sys2Proof.Machine.execTimerTick s
  | .timerCapture j rising ago => Sys2Proof.Machine.execTimerCapture j rising ago s
  | .timerReleaseGo atTime => Sys2Proof.Machine.execTimerReleaseGo atTime s
  | .timerReleaseStart => Sys2Proof.Machine.execTimerReleaseStart s
  | .fanPwmReload k => Sys2Proof.Machine.execFanPwmReload k s
  | .fanStall k => Sys2Proof.Machine.execFanStall k s
  | .trendBlock => Sys2Proof.Machine.execTrendBlock s
  | .ledgerBlockClose => Sys2Proof.Machine.execLedgerBlockClose s
  | .signedCheckpoint ok => Sys2Proof.Machine.execSignedCheckpoint ok s
  | .trendStripeWrite => Sys2Proof.Machine.execTrendStripeWrite s
  | .ledgerPageWrite => Sys2Proof.Machine.execLedgerPageWrite s
  | .capdataWrite => Sys2Proof.Machine.execCapdataWrite s
  | .nvmeCommandComplete d ok => Sys2Proof.Machine.execNvmeCommandComplete d ok s
  | .nvmeCommandTimeout d resetOk => Sys2Proof.Machine.execNvmeCommandTimeout d resetOk s
  | .smartPoll d crit pct temp => Sys2Proof.Machine.execSmartPoll d crit pct temp s
  | .deviceLinkUp d j => Sys2Proof.Machine.execDeviceLinkUp d j s
  | .deviceLinkLoss d => Sys2Proof.Machine.execDeviceLinkLoss d s
  | .deviceEject d => Sys2Proof.Machine.execDeviceEject d s
  | .devicePrepare d => Sys2Proof.Machine.execDevicePrepare d s
  | .deviceCancel d => Sys2Proof.Machine.execDeviceCancel d s
  | .resilverDone d => Sys2Proof.Machine.execResilverDone d s
  | .recorderFlush => Sys2Proof.Machine.execRecorderFlush s
  | .recorderReadGo src half => Sys2Proof.Machine.execRecorderReadGo src half s
  | .recorderReadDone ok data => Sys2Proof.Machine.execRecorderReadDone ok data s
  | .basketReinit => Sys2Proof.Machine.execBasketReinit s
  | .recorderStart found => Sys2Proof.Machine.execRecorderStart found s
  | .bluliHeartbeat h => Sys2Proof.Machine.execBluliHeartbeat h s
  | .heartbeatLoss => Sys2Proof.Machine.execHeartbeatLoss s
  | .bluliStateChange m => Sys2Proof.Machine.execBluliStateChange m s
  | .bluliLoopSnapshot n x => Sys2Proof.Machine.execBluliLoopSnapshot n x s
  | .bluliIncrement n inc => Sys2Proof.Machine.execBluliIncrement n inc s
  | .bluliConfigWrite kvs => Sys2Proof.Machine.execBluliConfigWrite kvs s
  | .bluliLedgerRecord units => Sys2Proof.Machine.execBluliLedgerRecord units s
  | .bluliSeamControl m => Sys2Proof.Machine.execBluliSeamControl m s
  | .bluliBulkSync ms pct => Sys2Proof.Machine.execBluliBulkSync ms pct s
  | .bluliRetransmit asked => Sys2Proof.Machine.execBluliRetransmit asked s
  | .laneDown j => Sys2Proof.Machine.execLaneDown j s
  | .loopSnapshot k => Sys2Proof.Machine.execLoopSnapshot k s
  | .bulkSyncComplete => Sys2Proof.Machine.execBulkSyncComplete s
  | .handover => Sys2Proof.Machine.execHandover s
  | .standdown => Sys2Proof.Machine.execStanddown s
  | .seamRequest cause => Sys2Proof.Machine.execSeamRequest cause s
  | .seamTP => Sys2Proof.Machine.execSeamTP s
  | .seamTS => Sys2Proof.Machine.execSeamTS s
  | .seamConfirm => Sys2Proof.Machine.execSeamConfirm s
  | .splitResolve => Sys2Proof.Machine.execSplitResolve s
  | .modSeatQual => Sys2Proof.Machine.execModSeatQual s
  | .modSeatLoss => Sys2Proof.Machine.execModSeatLoss s
  | .pairAddrArm => Sys2Proof.Machine.execPairAddrArm s
  | .dieReset k => Sys2Proof.Machine.execDieReset k s
  | .dieRejoin k => Sys2Proof.Machine.execDieRejoin k s
  | .dieRejoinTimeout k => Sys2Proof.Machine.execDieRejoinTimeout k s
  | .markerLoss k => Sys2Proof.Machine.execMarkerLoss k s
  | .gateKeepEnd k => Sys2Proof.Machine.execGateKeepEnd k s
  | .imgEraseB ok => Sys2Proof.Machine.execImgEraseB ok s
  | .imgProgram ok => Sys2Proof.Machine.execImgProgram ok s
  | .imgRead ok bytes => Sys2Proof.Machine.execImgRead ok bytes s
  | .patch bytes => Sys2Proof.Machine.execPatch bytes s
  | .patchAccept partner ok => Sys2Proof.Machine.execPatchAccept partner ok s
  | .patchSafePoint n => Sys2Proof.Machine.execPatchSafePoint n s
  | .patchMeteringApply => Sys2Proof.Machine.execPatchMeteringApply s
  | .patchSlotCopy ok => Sys2Proof.Machine.execPatchSlotCopy ok s
  | .starchBurn ok => Sys2Proof.Machine.execStarchBurn ok s
  | .starchSeal ok => Sys2Proof.Machine.execStarchSeal ok s
  | .starchReload => Sys2Proof.Machine.execStarchReload s
  | .feederDiscovery f r => Sys2Proof.Machine.execFeederDiscovery f r s
  | .fpStatusRead f r => Sys2Proof.Machine.execFpStatusRead f r s
  | .fpTelemetryRead t => Sys2Proof.Machine.execFpTelemetryRead t s
  | .fpStepWrite f r => Sys2Proof.Machine.execFpStepWrite f r s
  | .fpArbLost f k => Sys2Proof.Machine.execFpArbLost f k s
  | .arbCond f k back again => Sys2Proof.Machine.execArbCond f k back again s
  | .fpHangRecovery r => Sys2Proof.Machine.execFpHangRecovery r s
  | .feederCommHoldExpire f => Sys2Proof.Machine.execFeederCommHoldExpire f s
  | .balanceUpdate => Sys2Proof.Machine.execBalanceUpdate s
  | .bbuPinMismatch b code => Sys2Proof.Machine.execBbuPinMismatch b code s
  | .capability x => Sys2Proof.Machine.execCapability x s
  | .query x code => Sys2Proof.Machine.execQuery x code s
  | .statusByte x => Sys2Proof.Machine.execStatusByte x s
  | .statusWord x => Sys2Proof.Machine.execStatusWord x s
  | .pmbusRevision x => Sys2Proof.Machine.execPmbusRevision x s
  | .mfrId x => Sys2Proof.Machine.execMfrId x s
  | .mfrModel x => Sys2Proof.Machine.execMfrModel x s
  | .mfrRevision x => Sys2Proof.Machine.execMfrRevision x s
  | .mfrSerial x => Sys2Proof.Machine.execMfrSerial x s
  | .winAddrWrite x value => Sys2Proof.Machine.execWinAddrWrite x value s
  | .winAddrRead x => Sys2Proof.Machine.execWinAddrRead x s
  | .winDataWrite x value => Sys2Proof.Machine.execWinDataWrite x value s
  | .winDataRead x whole => Sys2Proof.Machine.execWinDataRead x whole s
  | .winAutoincWrite x values => Sys2Proof.Machine.execWinAutoincWrite x values s
  | .winAutoincRead x n wordNs => Sys2Proof.Machine.execWinAutoincRead x n wordNs s
  | .hostPortTimeout p => Sys2Proof.Machine.execHostPortTimeout p s
  | .attentionPull p collided => Sys2Proof.Machine.execAttentionPull p collided s
  | .alertResponse p won => Sys2Proof.Machine.execAlertResponse p won s
  | .tempReading r => Sys2Proof.Machine.execTempReading r s
  | .braceEnter => Sys2Proof.Machine.execBraceEnter s
  | .braceEnd => Sys2Proof.Machine.execBraceEnd s
  | .aux12Reset => Sys2Proof.Machine.execAux12Reset s
  | .hubWatchdog => Sys2Proof.Machine.execHubWatchdog s
  | .dieWatchdog k => Sys2Proof.Machine.execDieWatchdog k s
  | .operatingHour => Sys2Proof.Machine.execOperatingHour s
  | .laneUp j => Sys2Proof.Machine.execLaneUp j s
  | .acfailNClear => Sys2Proof.Machine.execAcfailNClear s
  | .aux12WarnRise => Sys2Proof.Machine.execAux12WarnRise s
  | .seatDeassert n => Sys2Proof.Machine.execSeatDeassert n s
  | .modSeatContact j made => Sys2Proof.Machine.execModSeatContact j made s
  | .aux12Measurement v => Sys2Proof.Machine.execAux12Measurement v s

end Sys2Proof.Machine
end

