-- ==== Sys2Proof/Machine/Step.lean ====
section
/-!
DEFINITION. One step of the module: the command at the front of the queue runs with the rest of the queue; an empty queue
lets one cycle of the timebase pass.
-/

namespace Sys2Proof.Machine

open Sys2Proof

/-- DESIGN CHOICE (log 1): with no command waiting, one CLK_TB cycle passes, or one of CLK_HUB in CLOCK_FAIL (R377, R389); a fast sink whose
die takes no samples may end (R159), and this module's heartbeat may be due (R455). -/
def idle (s : State) : State :=
  let s : State := { s with time := s.time.tick s.body.tickRate }
  { s with body := (s.body.endFasts s.time.elapsed).beat s.env }

/-- One step. -/
def step (s : State) : Host.Outcome State Fault Refusal :=
  match s.pending with
  | [] => .next (idle s)
  | c :: rest => exec c { s with pending := rest }

/-- The state with the command that a table word spells at the front of its queue; no word spells one. -/
def State.withFetchWord (s : State) (nbits w : Nat) : State :=
  match decodeTableWord nbits w with
  | some c => { s with pending := c :: s.pending }
  | none => s

end Sys2Proof.Machine
end

