-- ==== Sys2Proof/Safety.lean ====
section
/-!
DEFINITION. The terms in which the statements speak of a command: that it runs to a next state, what that state is, and what
the alert tree may change beside it.
-/

namespace Sys2Proof.Safety

open Sys2Proof Sys2Proof.Machine

/-- Elapsed time never runs backwards between two states (R378). -/
def elapsedKept (s t : State) : Prop := s.time.elapsed ≤ t.time.elapsed

/-- The time held is in range: a count of 64 bits, a fraction below one nanosecond (R377, R378). -/
def TimeOk (s : State) : Prop := s.time.count < 2 ^ 64 ∧ s.time.frac < 2 ^ 32

/-- A bank of the Starch map: 128 words of 32 bits in canonical form (R493). -/
def BankOk (m : Sparse) : Prop := sparseWf (fun _ => 0) m = true ∧ sparseAll (fun w v => decide (w < 128) && decide (v < 2 ^ 32)) m = true

/-- The fuses, both copies, and the map in force are banks (R493). -/
def StarchOk (s : State) : Prop := BankOk s.starch.copyA ∧ BankOk s.starch.copyB ∧ BankOk s.starch.map

/-- Every bit of a bank is set in another. -/
def Within (m n : Sparse) : Prop := ∀ w i, bitAt (sparseGet 0 m w) i = true → bitAt (sparseGet 0 n w) i = true

/-! ### What follows every command -/

/-- The fields that the alert tree, READY, the attention of the host ports and the yields of a bus pause may write after any
command (R211, R229, R452, R554, R564 to R573). -/
def isTree (f : Fld) : Bool :=
  match f with
  | .twinStatReady | .alertLeaf | .alertChleaf | .modAlcntAsserts | .hpStatAttnPend | .chByieldGbroken | .chByieldFavoured => true
  | _ => false

/-- The recorder without the stream and the conditions of the open block, which any command may extend (R211, R428). -/
def rcdKept (r : Recorder) : Recorder :=
  { r with stream := [], sharedSince := [], localSince := [], blkFlags := 0, blkQual := 0, blkBufq := 0, blkFrozen := 0 }

/-- The second body is the first but for what follows every command: the alert tree and its pin, READY, the conditions of the
open ledger block and of the bench scans that run, gain tables sent at a safe point, the yields of a bus pause, and the attention of the
host ports. -/
structure Settled (b c : Body) : Prop where
  role : c.role = b.role
  eng : c.eng = b.eng
  bud : c.bud = b.bud
  mtr : c.mtr = b.mtr
  disc : c.disc = b.disc
  tmr : c.tmr = b.tmr
  health : c.health = b.health
  fdr : c.fdr = b.fdr
  twin : c.twin = b.twin
  boot : c.boot = b.boot
  dozeReq : c.dozeReq = b.dozeReq
  alertHold : c.alertHold = b.alertHold
  hubDown : c.hubDown = b.hubDown
  doze : c.doze = b.doze
  reply : c.reply = b.reply
  freeIx : c.freeIx = b.freeIx
  trendWords : c.trendWords = b.trendWords
  rcd : rcdKept c.rcd = rcdKept b.rcd
  rd : ∀ f i, isTree f = false → c.rd f i = b.rd f i
  ch : ∀ n, { c.ch n with pauseYield := false } = { b.ch n with pauseYield := false }
  fe : ∀ k, { c.fe k with down := [], scanCond := 0 } = { b.fe k with down := [], scanCond := 0 }


/-- ALERT_N is low exactly where the alert tree asks for it and nothing holds it; while HUB is in reset it is released; in doze
it stays (R52, R564 to R568). -/
def PinOk (s : State) : Prop :=
  if s.body.hubDown then s.body.alertLow = false
  else s.body.doze = false → s.body.alertLow = (s.body.wantsAlert && !s.body.alertHold)

/-! ### What only some commands change -/

/-- The commands at which time passes or the count is set: those that stand for an instant to come, a step of the count, a heartbeat
that the count follows, a module start. -/
def letsTimePass (i : Instr) : Bool :=
  match i with
  | .moduleStart .. | .soloDecision | .imageRetry | .expertUnlockTimeout | .dozeScan .. | .seatQual .. | .seatLoss .. |
    .aqExpire .. | .rampDone .. | .limitWin .. | .capWin .. | .noWin .. | .ilimExpire .. | .retryExpire .. | .follow .. |
    .gateStall .. | .fetShort .. | .modelMismatch .. | .busWindowQualify .. | .trendIntervalBoundary .. | .irangeApply .. |
    .directConvDone .. | .openWireTest .. | .sliceVisitEnd .. | .captureEnd .. | .budgetCycle | .staggerSlot |
    .queueLimitExpire .. | .busMinShed | .holdupTrigger .. | .holdupStageStart | .holdupStageEnd | .holdupReturn |
    .energyCheckpoint | .refWatchCheck | .warmUpComplete | .heaterFault | .calPhaseEnd .. | .calStabilityCheck | .calSlot .. |
    .calEpochApply | .benchScanCommit .. | .benchRestEnd .. | .ppsMissing | .rateTimeout | .timebaseStep | .timerTick |
    .timerReleaseStart | .fanPwmReload .. | .fanStall .. | .ledgerBlockClose | .trendStripeWrite | .ledgerPageWrite |
    .capdataWrite | .nvmeCommandTimeout .. | .smartPoll .. | .resilverDone .. | .timerCapture .. | .deviceLinkUp .. | .bluliHeartbeat .. |
    .heartbeatLoss | .loopSnapshot .. |
    .seamRequest .. | .seamTP | .seamTS | .seamConfirm | .modSeatQual | .modSeatLoss | .dieRejoinTimeout .. | .markerLoss .. |
    .gateKeepEnd .. | .patchMeteringApply | .fpStatusRead .. | .fpTelemetryRead .. | .fpStepWrite .. | .fpHangRecovery .. |
    .feederCommHoldExpire .. | .balanceUpdate | .attentionPull .. | .winAutoincRead .. | .tempReading .. | .braceEnd |
    .hubWatchdog | .operatingHour | .aux12Measurement .. => true
  | _ => false

/-- The commands that may change the Starch bank: fuse commands, module start, and the host's writes, those that a Seam holds among them
(R464, R493 to R495). -/
def mayWriteStarch (i : Instr) : Bool :=
  match i with
  | .moduleStart .. | .registerWrite .. | .starchBurn .. | .starchSeal .. | .starchReload | .winDataWrite .. |
    .winAutoincWrite .. | .bluliConfigWrite .. | .bluliHeartbeat .. | .heartbeatLoss | .seamTS => true
  | _ => false

/-- The commands that may change the role (R366, R450, R451, R462, R466 to R468). -/
def mayChangeRole (i : Instr) : Bool :=
  match i with
  | .moduleStart .. | .soloDecision | .registerWrite .. | .hubRestart .. | .benchEnter | .benchExit | .bluliHeartbeat
    .. | .bluliConfigWrite .. | .heartbeatLoss | .standdown | .seamTS | .seamConfirm | .splitResolve | .modSeatQual | .winDataWrite .. |
    .winAutoincWrite .. => true
  | _ => false

/-! ### Completion -/

/-- The command answers a next state that has a property. -/
def Runs (i : Instr) (s : State) (P : State → Prop) : Prop := ∃ t, exec i s = .next t ∧ P t

/-- The command answers a next state at an elapsed instant, with a property: the queue and the Starch bank are as they were. -/
def RunsAt (i : Instr) (s : State) (T : Nat) (P : State → Prop) : Prop :=
  ∃ t, exec i s = .next t ∧ t.pending = s.pending ∧ t.starch = s.starch ∧ t.time = s.time.advance (T - s.time.elapsed) ∧ P t

/-- The command answers at once; what it does to the body is said whole, but for what follows every command. -/
def Becomes (i : Instr) (s : State) (b : Body) : Prop :=
  ∃ t, exec i s = .next t ∧ t.pending = s.pending ∧ t.starch = s.starch ∧ t.time = s.time ∧ Settled b t.body

/-- The command answers at an elapsed instant; what it does to the body is said whole, but for what follows every command. -/
def BecomesAt (i : Instr) (s : State) (T : Nat) (b : Body) : Prop :=
  ∃ t, exec i s = .next t ∧ t.pending = s.pending ∧ t.starch = s.starch ∧ t.time = s.time.advance (T - s.time.elapsed) ∧
    Settled b t.body

/-- The wire of a channel, of TS or of the current, has been declared open (R301). -/
def wireOpen (ts : Bool) (g : Eng) : Bool := if ts then g.tsOpen else g.csOpen

/-- Its consecutive tests that speak against its state (R301). -/
def wireRun (ts : Bool) (g : Eng) : Nat := if ts then g.tsRun else g.csRun

/-- The field that holds the slice out of service of a converter, CVB or CVA (R304). -/
def outFld (cvb : Bool) : Fld := if cvb then .feCvstatCvbOut else .feCvstatCvaOut

/-- The running visit of a converter (R272). -/
def visitOf (cvb : Bool) (d : Die) : VisitRun := if cvb then d.visB else d.visA

/-- The leader of channel n's gang leads itself (R62, R90). -/
def Led (b : Body) (n : Nat) : Prop := b.leadOf (b.leadOf n) = b.leadOf n

/-- The die of channel n reports to a HUB that runs the state machines, and no earlier frame waits (R30, R38). -/
def Reports (b : Body) (n : Nat) : Prop :=
  b.orch = true ∧ (b.fe (dieOf (b.leadOf n))).joined = true ∧ (b.fe (dieOf (b.leadOf n))).up = [] ∧ Led b n

/-- What a trip of channel l for a reason leaves: LAST_TRIP, the state that the policy and the Darn count give, and the trip latch
(R83, R189, R196 to R199). -/
def Tripped (b : Body) (l reason : Nat) (c : Body) : Prop :=
  c.rd .chLastTripTripReason l = reason ∧ (c.en l).tripLatch = true ∧
    (c.ch l).state = if b.policy l reason = 1 ∨ b.rd .chRetryDarnMax l ≤ (b.ch l).darn then .latched else .cooling

end Sys2Proof.Safety
end

