-- ==== Sys2Proof/WellFormed.lean ====
section
/-!
DEFINITION. Which commands are well formed: addresses that are words of the 32-bit space (R4), codes and counts within what the
protocol carries (R541, R542, R548), fields within their widths (R123, R446). A meaning takes any operand; these checks say
which ones the outside can send.
-/

namespace Sys2Proof

/-- The commands whose operands have bounds beyond their types. -/
def Instr.bounded : Instr → Bool
  | .registerWrite _ _ | .iclReadRequest _ _ _ | .traceArm _ _ _ | .recorderReadGo _ _ | .query _ _ | .winAutoincWrite _ _
  | .winAutoincRead _ _ _ | .tempReading _ | .dozeScan _ _ => true
  | _ => false

/-- The checks on the operands of a command. -/
def Instr.wellFormed : Instr → Bool
  | .registerWrite addr _ => decide (addr < 2 ^ 32) && decide (addr % 4 = 0)
  | .iclReadRequest _ _ addr => decide (addr < 2 ^ 32) && decide (addr % 4 = 0)
  | .traceArm _ div pre => decide (div < 256) && decide (pre < 4096)
  | .recorderReadGo src half => decide (src < 4) && decide (half < 2)
  | .query _ code => decide (code < 256)
  | .winAutoincWrite _ values => decide (values.length < 64)
  | .winAutoincRead _ n _ => decide (n.sent < 64)
  | .tempReading r => decide (r.temps.length = 11)
  | .dozeScan _ outs => decide (outs.length = 16)
  | _ => true

end Sys2Proof
end

