-- ==== Sys2Proof/Certificates/Slice0/Obligations.lean ====
section
/-!
DEFINITION. The statements about the model. `Becomes` and `BecomesAt` say a command's whole effect on the body, so they are
frames too: what they do not name is unchanged, the alert tree apart; `Runs` and `RunsAt` say that the command completes and
what its next state holds.
-/

open Sys2Proof Sys2Proof.Machine Sys2Proof.Safety

/-! ### The whole machine -/

/-- A step takes the command at the front of the queue. -/
def Obligations.StepRunsFront : Prop :=
  ∀ (c : Instr) (rest : List Instr) (s : State),
    step { s with pending := c :: rest } = exec c { s with pending := rest }

/-- On an empty queue one cycle of CLK_TB passes, of CLK_HUB in CLOCK_FAIL (R377, R389): the model's choice (assumption log
1). Nothing else changes while no fast sink runs (R159) and no transmitter does (R451); otherwise a register stays as it is, a
gate changes only where the fast sink of a die that takes no samples is over, and a heartbeat that is due carries the role and
the count (R455). -/
def Obligations.IdleLetsACyclePass : Prop :=
  ∀ s : State, s.pending = [] →
    ((∀ n, (s.body.en n).gate ≠ .fastSink) → s.body.twin.txT = none →
      step s = .next { s with time := s.time.tick s.body.tickRate }) ∧
    ∃ t, step s = .next t ∧ t.time = s.time.tick s.body.tickRate ∧ t.pending = [] ∧ t.starch = s.starch ∧ t.body.regs = s.body.regs ∧
      t.body.role = s.body.role ∧ (∀ n, t.body.ch n = s.body.ch n) ∧ (∀ k, t.body.fe k = s.body.fe k) ∧
      (∀ n, n < 128 → t.body.en n =
        if s.body.dieOff (dieOf n) = true ∧ (s.body.en n).gate = .fastSink then (s.body.en n).endFast t.time.elapsed else s.body.en n) ∧
      (s.body.hubDown = false → s.body.twin.silent = false → s.body.twin.txT.isSome = true →
        (∀ p, s.body.twin.hbOut = some p → p.1 + 10000 ≤ t.time.elapsed) →
        ∃ h, t.body.twin.hbOut = some (t.time.elapsed, h) ∧ h.role = s.body.role ∧ h.count = t.time.count ∧
          h.seq = s.body.twin.rxSeq ∧ h.leaving = s.body.twin.leaving ∧ t.body.twin.silent = s.body.twin.leaving)

/-- No command stops the module, and no command adds to the queue or takes from it. -/
def Obligations.EveryCommandCompletes : Prop :=
  ∀ (c : Instr) (s : State), ∃ t, exec c s = .next t ∧ t.pending = s.pending

/-- The time held is in range after reset (R377, R378). The Starch bank is well formed after reset (R493). After reset the pin
follows the tree (R567). -/
def Obligations.ResetKeepsTheInvariants : Prop :=
  (TimeOk State.reset) ∧
  (StarchOk State.reset) ∧
  (PinOk State.reset)

/-- Every step keeps the time held in range (R377, R378). Elapsed time never runs backwards, whatever the host sets, aligns or
steps (R378). -/
def Obligations.StepKeepsTime : Prop :=
  (∀ s t : State, TimeOk s → step s = .next t → TimeOk t) ∧
  (∀ s t : State, step s = .next t → elapsedKept s t)

/-- Every step keeps both copies of the Starch bank and the map in force well formed (R493 to R495). A blown fuse stays blown:
no step clears a bit of either copy (R493, R495). -/
def Obligations.StepKeepsStarch : Prop :=
  (∀ s t : State, StarchOk s → step s = .next t → StarchOk t) ∧
  (∀ s t : State, step s = .next t → Within s.starch.copyA t.starch.copyA ∧ Within s.starch.copyB t.starch.copyB)

/-- Every step leaves ALERT_N low exactly where the tree asks for it: the summary of the groups under SUMEN and ALERT_EN, or a
shorted FET; while HUB is in reset the pin is released (R564 to R568). -/
def Obligations.PinFollowsTree : Prop :=
  ∀ s t : State, PinOk s → step s = .next t → PinOk t

/-- What reset leaves: a STARTING module (R450), every channel UNCONFIGURED (R54, R65) with its driver high-impedance (R477),
no die joined, every register field at its reset value (R10), the pin released (R567), no command waiting. -/
def Obligations.ResetLeaves : Prop :=
  State.reset.body.role = .starting ∧ (∀ n, (State.reset.body.ch n).state = .unconfigured) ∧
  (∀ n, (State.reset.body.en n).gate = .hiZ) ∧ (∀ k, (State.reset.body.fe k).joined = false) ∧
  (∀ f i, State.reset.body.rd f i = fieldReset f i) ∧ (∀ k f i, State.reset.body.drd k f i = fieldReset f i) ∧
  State.reset.body.alertLow = false ∧ State.reset.pending = []

/-- Every other command leaves the time as it is, and the Starch bank as it is (R378, R493). Every other command leaves the
role (R366, R450, R451, R462, R466 to R468). -/
def Obligations.ModuleFrame : Prop :=
  (∀ (i : Instr) (s t : State), exec i s = .next t →
    (letsTimePass i = false → t.time = s.time) ∧ (mayWriteStarch i = false → t.starch = s.starch)) ∧
  (∀ (i : Instr) (s t : State), exec i s = .next t → mayChangeRole i = false → t.body.role = s.body.role)

/-! ### Single rules -/

/-- R552: an address outside every region reads 0, ignores the write and sets UNMAPPED; an address inside a region where no
register is mapped reads 0, ignores the write and sets nothing. -/
def Obligations.UnmappedAddresses : Prop :=
  ∀ (x : Xfer) (v : Word) (a : Nat) (s : State), s.body.doze = false → s.body.answers x = true → x.fit = .ok → x.pec = .good →
    s.body.ptrValid x.port (s.body.xferPaired x) = true → (s.body.ptr x.port (s.body.xferPaired x)).1 = a → a % 4 = 0 →
    (inRegion a = false →
      Becomes (.winDataWrite x v) s ((({ s.body with dozeReq := none } : Body).wr .hpStatUnmapped x.port 1).portCount x.port) ∧
      Runs (.winDataRead x true) s fun t => t.body.reply = [0] ∧ t.body.rd .hpStatUnmapped x.port = 1) ∧
    (inRegion a = true → hits a = [] → feHeld a = false → ¬ (0x1000 ≤ a ∧ a < 0x1200) → s.body.passes = false →
      Becomes (.winDataWrite x v) s (({ s.body with dozeReq := none } : Body).portCount x.port) ∧
      Runs (.winDataRead x true) s fun t =>
        t.body.reply = [0] ∧ t.body.rd .hpStatUnmapped x.port = s.body.rd .hpStatUnmapped x.port) ∧
    (hits a = [] → feHeld a = true → a < 0x100000 → (s.body.fe (feOf a)).down = [] →
      (∀ k env (b : Body), (b.feWrite env k a v.toNat true) = b) ∧
      Runs (.winDataRead x true) s fun t =>
        t.body.reply = [0] ∧ t.body.rd .hpStatUnmapped x.port = s.body.rd .hpStatUnmapped x.port)

/-- R365: a module never starts in BENCH. -/
def Obligations.StartsOutsideBench : Prop :=
  ∀ (ohms : Nat) (s : State), Runs (.moduleStart ohms) s fun t => t.body.role ≠ .bench

/-- R496: a start of a sealed module checks the CRC word; a mismatch sets FAULT, raises STARCH_FAULT and leaves the module
without an image under CAUSE 4; an unsealed module makes no check. -/
def Obligations.StarchCheckedAtStart : Prop :=
  ∀ (ohms : Nat) (s : State),
    (sealed s.starch.fuses = true → starchCrc s.starch.fuses ≠ sparseGet 0 s.starch.fuses 127 →
      Runs (.moduleStart ohms) s fun t =>
        t.body.rd .starchStatFault = 1 ∧ bitAt (t.body.rd .alertLeaf 10) 11 = true ∧ t.body.rd .modImgstatCause = 4 ∧
        t.body.readsFlash = false) ∧
    (sealed s.starch.fuses = false ∨ starchCrc s.starch.fuses = sparseGet 0 s.starch.fuses 127 →
      Runs (.moduleStart ohms) s fun t => t.body.rd .starchStatFault = 0 ∧ t.body.rd .modImgstatCause ≠ 4)

/-! ### Links and registers (chapter 01) -/

/-- Frames on the link of a die that has joined: the oldest write frame is applied and acknowledged (R33), an acknowledge and
a reply (R37, R125) are taken in their order (R30), a synchronisation marker corrects the die's replica (R25), a frame is
repeated, and a second failure is handled as a reset of the die (R29). Fields of a channel become the die's together. A frame
counts in its direction's SEQ and carries the epoch at its building (R28); a write waits for its acknowledge (R33, R471). With
the link down no frame passes: none is applied, taken or repeated (R30, R471). A status frame that die k sends next brings its
event to the channel's machine (R30, R38); the end of a ramp moves the channel to ON (R65). -/
def Obligations.LinkFrames : Prop :=
  (∀ (k : DieIx) (s : State), s.body.linkUp? k = true →
    (∀ m ms, (s.body.fe k).down = m :: ms →
      Becomes (.iclWrite k) s ((((s.body.onDie k fun d => { d with down := ms, unacked := d.unacked ++ [m] }).framed k false
        [m.frame]).applyDown s.env k m).onDie k fun d => { d with up := d.up ++ [.ack] })) ∧
    (∀ h kvs ms, (s.body.fe k).down = .fields h kvs :: ms → (∀ kv ∈ kvs, (keyFld kv.1).ofChan = true) →
      Becomes (.iclWrite k) s (s.body.onDie k fun d =>
        { d with down := ms, unacked := d.unacked ++ [.fields h kvs], regs := kvs.foldl (fun r kv => regSetKey r kv.1 kv.2) d.regs
                 up := d.up ++ [.ack], seqDn := (d.seqDn + 1) % 256
                 lastDn := some ⟨1, s.body.rd .twinDieEpoch k, d.seqDn, kvs.flatMap fun kv => [kv.1, kv.2]⟩ })) ∧
    (∀ up, (s.body.fe k).up = .ack :: up →
      Becomes (.iclWriteAck k) s (s.body.onDie k fun d =>
        { d with up := up, unacked := d.unacked.drop 1, seqUp := (d.seqUp + 1) % 256
                 lastUp := some ⟨4, s.body.rd .twinDieEpoch k, d.seqUp, []⟩ })) ∧
    (∀ p a v up, (s.body.fe k).up = .readReply p a v :: up → a < 0x100000 → Becomes (.iclReadReply k) s
      (({ s.body with reply := [v] } : Body).onDie k fun d =>
        { d with up := up, seqUp := (d.seqUp + 1) % 256, lastUp := some ⟨3, s.body.rd .twinDieEpoch k, d.seqUp, [a, v]⟩ })) ∧
    (∀ p a v up, (s.body.fe k).up = .readReply p a v :: up → 0x100000 ≤ a → Becomes (.iclTraceData k) s
      (({ s.body with reply := [v] } : Body).onDie k fun d =>
        { d with up := up, seqUp := (d.seqUp + 1) % 256, lastUp := some ⟨9, s.body.rd .twinDieEpoch k, d.seqUp, [a, v]⟩ })) ∧
    (∀ c, Runs (.iclSyncMarker ⟨k, c⟩) s fun t =>
      let d := s.body.fe k
      let u := t.body.fe k
      u.markT = s.time.elapsed ∧ u.phase = s.time.count ∧ u.seqDn = (d.seqDn + 1) % 256 ∧
      u.lastDn = some ⟨8, s.body.rd .twinDieEpoch k, d.seqDn, s.time.count :: s.body.stepNews s.env⟩ ∧
      u.rate = (if c = 0 then d.rate else ((s.time.count + 2 ^ 64 - d.phase) % 2 ^ 64 * 2 ^ 32 + c / 2) / c) ∧
      (∀ j, j < 8 → j ≠ k.val → { t.body.fe j with down := [], scanCond := 0 } = { s.body.fe j with down := [], scanCond := 0 }) ∧
      t.body.eng = s.body.eng ∧ t.body.twin = s.body.twin ∧
      ∀ f i, f ≠ .modFeclkDev → isTree f = false → t.body.rd f i = s.body.rd f i) ∧
    Becomes (.iclRetransmit k false) s (s.body.wr .modIclRetrySeen 0 (setBit (s.body.rd .modIclRetrySeen) k)) ∧
    Becomes (.iclRetransmit k true) s (((s.body.wr .modIclRetrySeen 0 (setBit (s.body.rd .modIclRetrySeen) k)).raise
      (1, k)).dieReset s.env k false)) ∧
  (∀ (k : DieIx) (s : State), s.body.linkUp? k = false →
    Becomes (.iclWrite k) s s.body ∧ Becomes (.iclWriteAck k) s s.body ∧ Becomes (.iclReadReply k) s s.body ∧
    Becomes (.iclTraceData k) s s.body ∧ Becomes (.iclStatus k) s s.body ∧ (∀ c, Becomes (.iclSyncMarker ⟨k, c⟩) s s.body) ∧
    ∀ again, Becomes (.iclRetransmit k again) s s.body) ∧
  (∀ (k : DieIx) (n t : Nat) (ev : Ev) (up : List UpMsg) (s : State), s.body.linkUp? k = true →
    (s.body.fe k).up = .event n ev t :: up →
    Becomes (.iclStatus k) s (((s.body.onDie k fun d => { d with up := up }).framed k true [(5, [n, t])]).deliver s.env n ev
      (decidedAt ev t s.time.elapsed)) ∧
    (s.body.orch = true → Led s.body n → ev = .rampDone → (s.body.ch (s.body.leadOf n)).state = .ramp →
      Runs (.iclStatus k) s fun u =>
        (u.body.ch (s.body.leadOf n)).state = .on ∧ (u.body.ch (s.body.leadOf n)).reason = 0 ∧ (u.body.fe k).up = up))

/-- A read request samples the word at the die, behind every write that waits there, and the die replies (R37); while the link
is down the host's read returns 0 and sets VOID_READ (R471). A trace window returns the entry as it stands (R125). A read of
MOD.SYNC reports exactly the dies whose link is down and for which host writes wait (R36, R46). -/
def Obligations.LinkReads : Prop :=
  (∀ (k : DieIx) (p : Fin 2) (a : Nat) (s : State), s.body.hubDown = false → a % 4 = 0 → feHeld a = true → feOf a = k →
    ((s.body.fe k).joined = true → Runs (.iclReadRequest k p a) s fun t =>
      ∃ up, (t.body.fe k).up = up ++ [.readReply p a (((s.body.drain s.env k).framed k false [(2, [a])]).feSample s.env a).1]) ∧
    ((s.body.fe k).joined = false → Runs (.iclReadRequest k p a) s fun t =>
      t.body.reply = [0] ∧ t.body.rd .twinDieVoidRead k = 1) ∧
    ((s.body.fe k).joined = true → (s.body.fe k).down = [] → 0x100000 ≤ a → Runs (.iclReadRequest k p a) s fun t =>
      (t.body.fe k).up = (s.body.fe k).up ++
        [.readReply p a (sparseGet 0 (s.body.fe k).trace ((a - 0x100000) % 0x10000 / 0x4000 * 4096 + a % 0x4000 / 4))])) ∧
  (∀ s : State, s.body.hubDown = false → Runs .modSyncRead s fun t => ∃ m, t.body.reply = [m] ∧
    ∀ k, k < 8 → (bitAt m k = true ↔ ((s.body.fe k).joined = false ∧ (s.body.fe k).owes = true)))

/-- Host writes of a word, by where it is held and by its level: a basic-level field takes the value, held to its range (R6,
R31, R562); an FE-held word goes to its die, behind what waits there (R33, R34); a read-only word (R6), an address outside
every region (R552) and a field whose unlock is 0 (R499) change nothing. -/
def Obligations.RegisterWrites : Prop :=
  ∀ (v : Word) (s : State), s.body.hubDown = false → s.body.passes = false → s.body.doze = false →
    (∀ p : Fin 2, Runs (.registerWrite (0x7100 + 0x40 * p) v) s fun t =>
      t.body.rd .hpCfgRdwords p = max 1 (min 63 (bits v.toNat 13 8))) ∧
    (∀ a k, a % 4 = 0 → feHeld a = true → feOf a = k → Runs (.registerWrite a v) s fun t =>
      ∃ gs, (t.body.fe k).down =
        (s.body.fe k).down ++ [.hostWrite a v.toNat (s.body.unlocked 5 && s.body.role ≠ .standby)] ++ gs) ∧
    (∀ a, a < 0x20 → Becomes (.registerWrite a v) s { s.body with dozeReq := none }) ∧
    (∀ a, inRegion (a / 4 * 4) = false → Becomes (.registerWrite a v) s { s.body with dozeReq := none }) ∧
    (s.body.unlocked 12 = false → Becomes (.registerWrite 0x6004 v) s { s.body with dozeReq := none })

/-! ### Channel lifecycle (chapter 02) -/

/-- The raw seat input and its filters (R58 to R60, R65), whose edges are those of a capture source too (R397): an assertion
starts the debounce and takes an EMPTY gang to SEATING; a drop in the debounce cancels it and takes an unseated SEATING gang
to EMPTY; a deassertion of a qualified seat starts the loss filter. The ends of the seat filters (R58, R62, R65): a debounce
that completes qualifies the seat, and a loss filter that completes loses it; a gang that loses its seat in ON goes to EMPTY,
and its absence timer starts with AQ_MS. A qualified absence clears a latched channel (R60, R65); while a debounce that began
before the expiry can still end the absence, the decision waits. In a gang it waits while every member is qualified or
debounces: the model's choice (assumption log 171). While the absence is open at the expiry, AQ_EXPIRE only lets the time pass
(R60). -/
def Obligations.Seats : Prop :=
  (∀ (n : ChIx) (s : State), s.body.doze = false → Reports s.body n → s.body.dieOff (dieOf n) = false →
    ((s.body.ch n).seatRaw = false → (s.body.ch n).seated = false → (s.body.ch n).debEnd = none →
      (s.body.ch (s.body.leadOf n)).state = .empty → dieOf (s.body.leadOf n) = dieOf n →
      Runs (.seatAssert n) s fun t => (t.body.ch n).seatRaw = true ∧
        (t.body.ch n).debEnd = some (s.time.elapsed + msNs (s.body.cd .chSeatcfgDebounceMs n)) ∧
        (t.body.ch (s.body.leadOf n)).state = .seating) ∧
    ((s.body.ch n).debEnd.isSome = true → (s.body.ch n).seated = false → (s.body.ch (s.body.leadOf n)).state = .seating →
      n.val ∈ s.body.membersOf (s.body.leadOf n) → dieOf (s.body.leadOf n) = dieOf n →
      Runs (.seatDrop n) s fun t => (t.body.ch n).seatRaw = false ∧ (t.body.ch n).debEnd = none ∧
        (t.body.ch (s.body.leadOf n)).state = .empty) ∧
    ((s.body.ch n).seatRaw = true → (s.body.ch n).debEnd = none →
      Becomes (.seatDeassert n) s ((({ s.body with dozeReq := none } : Body).srcEdge n true s.time.elapsed).onCh n fun c =>
        { c with seatRaw := false
                 lossEnd := if c.seated && s.body.seatLive n then
                   some (s.time.elapsed + usNs (s.body.cd .chSeatcfgLossUs n)) else none }))) ∧
  (∀ (n : ChIx) (T : Nat) (s : State), Reports s.body n → dieOf (s.body.leadOf n) = dieOf n →
    ((s.body.ch n).debEnd = some T → (s.body.ch n).seatRaw = true →
      RunsAt (.seatQual n) s T fun t => (t.body.ch n).seated = true ∧ (t.body.ch n).debEnd = none) ∧
    ((s.body.ch n).lossEnd = some T → s.body.seated (s.body.leadOf n) = true →
      (s.body.ch (s.body.leadOf n)).state = .on → n.val ∈ s.body.membersOf (s.body.leadOf n) →
      RunsAt (.seatLoss n) s T fun t => (t.body.ch n).seated = false ∧ (t.body.ch n).lossEnd = none ∧
        (t.body.ch (s.body.leadOf n)).state = .empty ∧
        (t.body.ch (s.body.leadOf n)).aqEnd =
          some (s.time.elapsed + (T - s.time.elapsed) + msNs (s.body.rd .chSeatcfgAqMs (s.body.leadOf n))))) ∧
  (∀ (n : ChIx) (T : Nat) (s : State), s.body.orch = true → Led s.body n →
    (s.body.ch (s.body.leadOf n)).aqEnd = some T → s.body.aqOpen (s.body.leadOf n) T = false →
    (s.body.ch (s.body.leadOf n)).state = .latched →
    RunsAt (.aqExpire n) s T fun t =>
      (t.body.ch (s.body.leadOf n)).state = .empty ∧ (t.body.ch (s.body.leadOf n)).darn = 0 ∧
      (t.body.ch (s.body.leadOf n)).aqEnd = none ∧ (t.body.ch (s.body.leadOf n)).absStart = none) ∧
  (∀ (n : ChIx) (T : Nat) (s : State), (s.body.ch (s.body.leadOf n)).aqEnd = some T → s.body.aqOpen (s.body.leadOf n) T = true →
    BecomesAt (.aqExpire n) s T s.body)

/-- Host commands on a channel that is no gang member (R62, R64, R65): EN_0 sends a channel with a machine to OFF with EN_OFF;
EN_1 of an OFF channel with no seat leads to EMPTY, and a toggle clears its Darn count; an edge that is none does nothing. A
member's CTRL.EN is ignored (R62, R81); its REQUEUE is dropped, which is the model's choice (assumption log 172). -/
def Obligations.EnableEdges : Prop :=
  (∀ (n : ChIx) (s : State), s.body.orch = true → s.body.isMember n = false →
    (s.body.rd .chCtrlEn n = 1 → (s.body.ch n).state ∈ [ChState.empty, .seating, .queued, .ramp, .on, .limit, .capped, .cooling,
        .shed, .refused] →
      Runs (.en0 n) s fun t => (t.body.ch n).state = .off ∧ (t.body.ch n).reason = 0x30 ∧ t.body.rd .chCtrlEn n = 0 ∧
        (t.body.ch n).enZeroT = s.time.elapsed) ∧
    (s.body.rd .chCtrlEn n = 0 → (s.body.ch n).state = .off → s.body.seated n = false → s.body.debouncing n = false →
      Runs (.en1 n) s fun t => (t.body.ch n).state = .empty ∧ t.body.rd .chCtrlEn n = 1 ∧
        (t.body.ch n).darn = if 1000000 ≤ s.time.elapsed - (s.body.ch n).enZeroT then 0 else (s.body.ch n).darn) ∧
    (s.body.rd .chCtrlEn n = 0 → Becomes (.en0 n) s s.body) ∧ (s.body.rd .chCtrlEn n = 1 → Becomes (.en1 n) s s.body)) ∧
  (∀ (n : ChIx) (s : State), s.body.isMember n = true →
    Becomes (.en0 n) s s.body ∧ Becomes (.en1 n) s s.body ∧ Becomes (.requeue n) s s.body)

/-- What brings a channel to the queue (R65, R71, R198, R220, R235), where no hold-up sequence sheds it and the refusal test
passes: the restart conditions of a waiting SEATING channel, REQUEUE of a REFUSED one (SEAT_TIME is stamped), READMIT of a
SHED one, and the retry timer of a COOLING one; the Darn count rises with the retry, also while the channel has to wait. Where
the refusal test fails the channel ends REFUSED, with the reason of the test (R222). -/
def Obligations.EntersQueue : Prop :=
  ∀ (n : ChIx) (s : State), s.body.orch = true → s.body.leadOf n = n → s.body.seated n = true → s.body.holdup = false →
    (s.body.refusal n = none → s.body.restartOk s.env n = true → (s.body.ch n).state = .seating → (s.body.ch n).reason = 0x36 →
      Runs (.restartOk n) s fun t => (t.body.ch n).state = .queued ∧ (t.body.ch n).reason = 0x20) ∧
    (s.body.refusal n = none → (s.body.ch n).state = .refused →
      Runs (.requeue n) s fun t => (t.body.ch n).state = .queued ∧ (t.body.ch n).seatTime = s.time.count) ∧
    (∀ r, s.body.refusal n = some r → (s.body.ch n).state = .refused →
      Runs (.requeue n) s fun t => (t.body.ch n).state = .refused ∧ (t.body.ch n).reason = r) ∧
    (s.body.refusal n = none → s.body.readmitOk s.env n = true → (s.body.ch n).state = .shed →
      Runs (.readmit n) s fun t => (t.body.ch n).state = .queued) ∧
    (∀ T, s.body.refusal n = none → (s.body.ch n).retryEnd = some T → (s.body.ch n).state = .cooling →
      (s.body.restartOk (s.goTo T).env n = true → RunsAt (.retryExpire n) s T fun t =>
        (t.body.ch n).state = .queued ∧ (t.body.ch n).darn = min 15 ((s.body.ch n).darn + 1)) ∧
      (s.body.restartOk (s.goTo T).env n = false → RunsAt (.retryExpire n) s T fun t =>
        (t.body.ch n).state = .cooling ∧ (t.body.ch n).retryReady = true ∧
          (t.body.ch n).darn = min 15 ((s.body.ch n).darn + 1)))

/-- Between RAMP, ON, LIMIT and CAPPED (R65, R74, R76 to R79, R103): RAMP_DONE 100 µs after both conditions began to hold; ten
cycles in a row won by a limiting loop, or by the cap; the ramp or enhance loop winning for LIMITCFG.EXIT. -/
def Obligations.WinsMoveTheChannel : Prop :=
  ∀ (n : ChIx) (l : Nat) (s : State), s.body.leadOf n = l → Reports s.body n →
    (∀ T, (s.body.en l).doneSince = some T → (s.body.ch l).state = .ramp →
      RunsAt (.rampDone n) s (T + 100000) fun t => (t.body.ch l).state = .on ∧ (t.body.ch l).reason = 0) ∧
    (∀ r, runLen (fun w => decide (2 ≤ w)) (s.body.en l).wins = r → 0 < r → (∃ w ∈ (s.body.en l).wins.take r, w ≤ 4) →
      ((s.body.ch l).state = .on ∨ (s.body.ch l).state = .capped) →
      RunsAt (.limitWin n) s (s.time.elapsed + (10 - r) * 800) fun t =>
        (t.body.ch l).state = .limit ∧ (t.body.en l).winPulse = true) ∧
    (∀ r, (s.body.en l).wins = List.replicate r 5 → 0 < r → ((s.body.ch l).state = .on ∨ (s.body.ch l).state = .limit) →
      RunsAt (.capWin n) s (s.time.elapsed + (10 - r) * 800) fun t =>
        (t.body.ch l).state = .capped ∧ (t.body.ch l).reason = if (s.body.ch l).capGuar then 0x25 else 0x21) ∧
    (0 < (s.body.en l).freeWins → ((s.body.ch l).state = .limit ∨ (s.body.ch l).state = .capped) →
      RunsAt (.noWin n) s (s.time.elapsed + (s.body.cd .chLimitcfgExit l * 10000 - (s.body.en l).freeWins * 800)) fun t =>
        (t.body.ch l).state = .on ∧ (t.body.ch l).reason = 0)

/-! ### The engines and trips (chapters 03 to 05) -/

/-- A loop cycle (R99, R102, R105, R109, R110, R144). With the gate not driven the cycle takes the dissipation sample and
forms the input nodes; an incoming die of a Seam runs the channel in shadow, with its integrators frozen and its winner
filters restarted at the first cycle, and commands nothing (R462, R463). With the gate driven, and the energy of an episode
within E_SOA, the lowest of five demands wins and is applied; a single channel's demands of loops 2 to 5 follow the hysteretic
law on their errors. In a ramp without rounding REF advances by Δ, to the target at most. -/
def Obligations.LoopCycles : Prop :=
  ∀ (n : ChIx) (p q : Bool) (s : State), s.body.dieOff (dieOf n) = false →
    ((s.body.en n).gate ≠ .driven → s.body.shadows (s.body.leadOf n) = false → Runs (.loopCycle n p q) s fun t =>
      (t.body.en n).ps = ((dissip (s.body.fe (dieOf n)).bus (s.body.en n).out (s.body.en n).i : Int) :: (s.body.en n).ps).take 8 ∧
      (t.body.en n).tick = (s.body.en n).tick + 1 ∧ (t.body.en n).nodes.getD 1 0 = (s.body.en n).out) ∧
    ((s.body.en n).gate = .hiZ → s.body.leadOf n = n → s.body.shadows n = true → Runs (.loopCycle n p q) s fun t =>
      (t.body.en n).gate = .hiZ ∧ (t.body.en n).x = (s.body.en n).x ∧ 1 ≤ (t.body.en n).win ∧ (t.body.en n).win ≤ 5 ∧
      n.val ∈ t.body.twin.shadow ∧ (n.val ∉ s.body.twin.shadow → (t.body.en n).wins = [(t.body.en n).win])) ∧
    ((s.body.en n).gate = .driven → s.body.leadOf n = n → (s.body.ch n).eff ≠ .ramp → (s.body.ch n).partialRamp = false →
      ((s.body.en n).epiRun && (s.body.takeSample s.env n p q).overEsoa n n) = false → Runs (.loopCycle n p q) s fun t =>
      1 ≤ (t.body.en n).win ∧ (t.body.en n).win ≤ 5 ∧ (t.body.en n).dsel = (t.body.en n).nodes.getD (23 + (t.body.en n).win) 0 ∧
      (∀ j < 5, (t.body.en n).dsel ≤ (t.body.en n).nodes.getD (24 + j) 0) ∧
      (t.body.en n).nodes.getD 17 0 = sat16 ((s.body.cd .chIlimIlim n : Nat) - (s.body.loopIn n).iMax) ∧
      (s.body.rd .chClassGangSize n ≤ 1 → ∀ j, 1 ≤ j → j < 5 → (t.body.en n).nodes.getD (24 + j) 0 =
        hysteretic (s.body.cd .chLoopcfgHem n : Nat) ((t.body.en n).nodes.getD (16 + j) 0))) ∧
    ((s.body.en n).gate = .driven → s.body.leadOf n = n → (s.body.ch n).state = .ramp → (s.body.en n).rampEnd = false →
      ((s.body.en n).epiRun && (s.body.takeSample s.env n p q).overEsoa n n) = false → s.body.targetBelow n = false →
      s.body.cd .chRampctlRound n = 0 →
      Runs (.loopCycle n p q) s fun t =>
      (t.body.en n).ref = min (s.body.rampTarget n) ((s.body.en n).ref + rampDelta (max 1 (s.body.cd .chRampctlRate n))))

/-- One step of the thermal model (R144, R145, R149, R155): P is the mean of the eight samples, every pole follows its
recurrence, TJ_EST is AMB plus the sum of the poles, and PLIM is the least of the three limits. In BENCH, and while the die is
in reset or without AUX12, no step runs (R21, R362, R471). -/
def Obligations.ThermalStep : Prop :=
  ∀ (n : ChIx) (s : State), (s.body.modelRuns n = false → Becomes (.thermalModelStep n) s s.body) ∧
  (s.body.modelRuns n = true → Runs (.thermalModelStep n) s fun t =>
    (∀ i < 4, (t.body.en n).poles.getD i 0 = poleStep (s.body.drd (dieOf n) .kcoefMant (4 * n + i))
      (s.body.drd (dieOf n) .kcoefExp (4 * n + i)) (s.body.drd (dieOf n) .gcoefValue (4 * n + i)) (meanP (s.body.en n).ps)
      ((s.body.en n).poles.getD i 0)) ∧
    (t.body.en n).ps = [] ∧
    (t.body.en n).tjEst = satTemp ((s.body.amb n : Int) + polesTo12 ((t.body.en n).poles.foldl (· + ·) 0)) ∧
    (t.body.en n).plim = min (s.body.pTh n (t.body.en n).poles (t.body.en n).tjEst)
      (min (s.body.pSoa n (s.body.vds n)) (s.body.pCeil s.env n)))

/-- Trips that a die decides (R78, R116, R156 to R164, R189, R191): the LIMIT timer at ILIM_TMAX and the following error for
FE_TIME, where neither a stall nor the energy comes first (R162), the energy of an episode beyond E_SOA, a stalled gate for
GS_TIME and the hard-trip comparator trip the channel. With the gate off the comparator sets the latch and reports no trip; in
BENCH it does nothing; falling back, it only clears its own crossing. -/
def Obligations.DieTrips : Prop :=
  ∀ (n : ChIx) (l : Nat) (s : State), s.body.leadOf n = l → Reports s.body n → (s.body.en l).tripLatch = false →
    s.body.dieOff (dieOf l) = false → (s.body.en n).tripLatch = false →
    (∀ T, (s.body.en l).limFrom = some T → (s.body.ch l).state = .limit → (s.body.membersOf l).any s.body.stallDue = false →
      ((s.body.membersOf l).any fun m => (s.body.en m).epiRun && s.body.overEsoa m l) = false →
      RunsAt (.ilimExpire n) s (T + s.body.cd .chLimitcfgIlimTmax l * 25000) fun t => Tripped s.body l 0x11 t.body) ∧
    (∀ T, (s.body.en l).feSince = some T → (s.body.en l).gate = .driven → (s.body.ch l).state = .ramp →
      (s.body.membersOf l).any s.body.stallDue = false →
      ((s.body.membersOf l).any fun m => (s.body.en m).epiRun && s.body.overEsoa m l) = false →
      RunsAt (.follow n) s (T + s.body.cd .chFollowFeTime l * 10000) fun t => Tripped s.body l 0x15 t.body) ∧
    (∀ p q, n.val = l → (s.body.en l).gate = .driven → (s.body.ch l).state = .limit → (s.body.en l).epiRun = true →
      (s.body.takeSample s.env l p q).overEsoa l l = true →
      (∀ m ∈ s.body.membersOf l, (s.body.en m).stallNs + 800 < s.body.cd .chGstallGsTime m * 10000) →
      Runs (.loopCycle n p q) s fun t => Tripped s.body l 0x12 t.body) ∧
    (0 < (s.body.en n).stallNs → (s.body.en n).gate = .driven → 0 < (s.body.en n).dsel → (s.body.ch l).state.driven = true →
      RunsAt (.gateStall n) s (s.time.elapsed + (s.body.cd .chGstallGsTime n * 10000 - (s.body.en n).stallNs)) fun t =>
        Tripped s.body l 0x16 t.body) ∧
    (∀ uv : Int, (s.body.htThreshold n : Int) < uv →
      ((s.body.en n).gate.live = true → (s.body.ch l).state.driven = true →
        Runs (.hardtrip n uv) s fun t => Tripped s.body l 0x10 t.body) ∧
      ((s.body.en n).gate.live = false → s.body.role ≠ .standby → (s.body.ch l).state ≠ .bench →
        Runs (.hardtrip n uv) s fun t => (t.body.en n).htCmp = true ∧ (t.body.ch l).state = (s.body.ch l).state ∧
          ∀ m ∈ s.body.membersOf l, (t.body.en m).tripLatch = true) ∧
      ((s.body.ch l).state = .bench → Becomes (.hardtrip n uv) s s.body)) ∧
    (∀ uv : Int, uv ≤ s.body.htThreshold n → Becomes (.hardtrip n uv) s (s.body.onEng n fun g => { g with htCmp := false }))

/-- A shorted FET (R164, R165): after FS_TIME of the short condition the channel is in FET_FAULT, with reason and LAST_TRIP
FET_SHORT, also from HELD, where no recorded event follows. A model mismatch is declared after MM_TIME (R150); it stops
nothing. A STANDBY module passes its record on (R444). The bus window qualifies after BUS_TIME (R192, R195): a trip BUS_OVER
or BUS_UNDER, or under policy 2 the event alone. -/
def Obligations.OtherFaults : Prop :=
  (∀ (n : ChIx) (l T : Nat) (s : State), s.body.leadOf n = l → Reports s.body n → (s.body.en n).shortSince = some T →
    (s.body.ch l).state ∉ [ChState.unconfigured, .bench, .fetFault] →
    ((s.body.ch l).state = .held → (s.body.ch l).heldEvs = []) →
    RunsAt (.fetShort n) s (T + msNs (s.body.cd .chFshortFsTime n)) fun t =>
      (t.body.ch l).state = .fetFault ∧ (t.body.ch l).reason = 0x17 ∧ t.body.rd .chLastTripTripReason l = 0x17) ∧
  (∀ (n : ChIx) (T : Nat) (s : State), (s.body.en n).mmSince = some T → (s.body.en n).mismatch = false → s.body.modelRuns n = true →
    (s.body.role ≠ .standby → BecomesAt (.modelMismatch n) s (T + s.body.cd .chMismatchMmTime n * 100000000)
      (s.body.onEng n fun g => { g with mismatch := true, mmSince := none })) ∧
    (s.body.role = .standby → s.body.hubDown = false → RunsAt (.modelMismatch n) s (T + s.body.cd .chMismatchMmTime n * 100000000) fun t =>
      (t.body.en n).mismatch = true ∧ (t.body.en n).mmSince = none ∧ t.body.twin.pass.length = s.body.twin.pass.length + 1)) ∧
  (∀ (n : ChIx) (l T : Nat) (high : Bool) (s : State), s.body.leadOf n = l → s.body.orch = true → Led s.body n →
    (s.body.ch l).busOut = some (T, high) → (s.body.ch l).busQual = false → (s.body.ch l).state.driven = true →
    (s.body.policy l (if high then 0x1A else 0x1B) ≠ 2 → (s.body.fe (dieOf l)).joined = true → (s.body.fe (dieOf l)).down = [] →
      RunsAt (.busWindowQualify n) s (T + s.body.rd .chBuswinBusTime l * 10000) fun t =>
        Tripped s.body l (if high then 0x1A else 0x1B) t.body) ∧
    (s.body.policy l (if high then 0x1A else 0x1B) = 2 →
      BecomesAt (.busWindowQualify n) s (T + s.body.rd .chBuswinBusTime l * 10000)
        (s.body.onCh l fun c => { c with busQual := true })))

/-- The trace buffer (R123), where a command reaches its die behind the writes that wait there (R30, R34): ARM clears DONE and
TRIGGERED, sets ARMED and starts at entry 0, with DIV and PRE taken with the write unless the buffer is armed; FORCE triggers
at the latest entry once PRE entries exist; the recording ends with DONE when every entry after the trigger is written. With
the link down the command waits as a host write. -/
def Obligations.TraceBuffer : Prop :=
  ∀ (k : DieIx) (s : State), s.body.hubDown = false →
    (∀ div pre, (s.body.fe k).joined = true → Runs (.traceArm k div pre) s fun t =>
      t.body.drd k .feTrctlArmed k = 1 ∧ t.body.drd k .feTrctlDone k = 0 ∧ t.body.drd k .feTrctlTriggered k = 0 ∧
      (t.body.fe k).trNext = 0 ∧ (t.body.fe k).trCount = 0 ∧ ∀ c, c = s.body.drain s.env k →
      t.body.drd k .feTrctlPre k = (if c.drd k .feTrctlArmed k = 1 then c.drd k .feTrctlPre k else pre % 4096) ∧
      t.body.drd k .feTrctlDiv k = if c.drd k .feTrctlArmed k = 1 then c.drd k .feTrctlDiv k else div % 256) ∧
    (∀ c, c = s.body.drain s.env k → (s.body.fe k).joined = true → c.drd k .feTrctlArmed k = 1 →
      c.drd k .feTrctlTriggered k = 0 →
      (c.drd k .feTrctlPre k ≤ (c.fe k).trCount → 0 < (c.fe k).trCount → Runs (.traceForce k) s fun t =>
        t.body.drd k .feTrctlTriggered k = 1 ∧ t.body.drd k .feTrstatTrigIdx k = ((c.fe k).trNext + 4095) % 4096) ∧
      ((c.fe k).trCount < c.drd k .feTrctlPre k →
        Becomes (.traceForce k) s (c.onDie k fun d => { d with trForce := true }))) ∧
    (∀ div pre, (s.body.fe k).joined = false → Runs (.traceArm k div pre) s fun t => ∃ x u gs,
      (t.body.fe k).down = (s.body.fe k).down ++ [.hostWrite (0x20810 + 0x1000 * k) x u] ++ gs) ∧
    ((s.body.fe k).joined = false → Runs (.traceForce k) s fun t => ∃ x u gs,
      (t.body.fe k).down = (s.body.fe k).down ++ [.hostWrite (0x20810 + 0x1000 * k) x u] ++ gs) ∧
    (s.body.trFull k = true → Becomes (.traceDone k) s ((s.body.dwr k .feTrctlArmed k 0).dwr k .feTrctlDone k 1)) ∧
    (s.body.trFull k = false → Becomes (.traceDone k) s s.body)

/-! ### Budget and hold-up (chapter 06) -/

/-- A budget cycle (R212, R213, R215, R233) runs 250 µs after a whole millisecond: outside hold-up P_AVAIL becomes the lower
of P_SHELF and FEEDER_CAP (P_SHELF where no feeder is enabled), and during hold-up it keeps its value; the effective
guarantees are filled in class order from it. Fields have 24 bits. FEEDER_LIMITED follows the feeders also during hold-up
(R250). -/
def Obligations.BudgetCycle : Prop :=
  ∀ s : State, s.body.cycles = true →
    RunsAt .budgetCycle s (nextCycle s.env s.body) fun t =>
      t.body.rd .budgetAvailPAvail = (if s.body.holdup then s.body.rd .budgetAvailPAvail
        else (if s.body.feedersOn then min (s.body.rd .budgetShelfPShelf) (s.body.rd .feederCapFeederCap)
          else s.body.rd .budgetShelfPShelf) % 2 ^ 24) ∧
      t.body.rd .budgetAvailFeederLimited = bit (s.body.feedersOn &&
        decide (s.body.rd .feederCapFeederCap < s.body.rd .budgetShelfPShelf)) ∧
      t.body.rd .budgetGeffValue 0 = min (s.body.rd .budgetGuarValue 0) (t.body.rd .budgetAvailPAvail) % 2 ^ 24 ∧
      t.body.bud.lastCycle = s.time.elapsed + (nextCycle s.env s.body - s.time.elapsed)

/-- The stagger (R221, R223, R225, R226, R228): a slot that opens goes to the head of the queue if it passes the refusal test
and fits, and stays open while admission is paused; a channel that has waited QUEUE_LIMIT seconds is refused; GO of the
ZQ-5016 mode grants a selected channel that fits, and does nothing in the native mode. -/
def Obligations.Slots : Prop :=
  ∀ s : State, s.body.orch = true →
    (∀ n rest T, s.body.froze = false → s.body.bud.openSlot = none → s.body.nextSlot = some T → s.body.paused = false →
      s.body.zq5016 = false → s.body.queue = n :: rest → s.body.leadOf n = n → (s.body.ch n).state = .queued →
      s.body.refusal n = none → s.body.fits n = true →
      RunsAt .staggerSlot s T fun t => (t.body.ch n).state = .ramp ∧ (t.body.ch n).reason = 0 ∧ t.body.bud.openSlot = none ∧
        t.body.bud.tLast = some (s.time.elapsed + (T - s.time.elapsed))) ∧
    (∀ T, s.body.froze = false → s.body.bud.openSlot = none → s.body.nextSlot = some T → s.body.paused = true →
      RunsAt .staggerSlot s T fun t => t.body.bud.openSlot = some (s.time.elapsed + (T - s.time.elapsed))) ∧
    (∀ n : ChIx, Led s.body n → (s.body.ch (s.body.leadOf n)).state = .queued → s.body.flag .modBootSoloHeld = false →
      s.body.bdg .budgetQlimitQueueLimit (s.body.pclass (s.body.leadOf n)) ≠ 0 →
      RunsAt (.queueLimitExpire n) s ((s.body.ch (s.body.leadOf n)).queuedT +
          s.body.bdg .budgetQlimitQueueLimit (s.body.pclass (s.body.leadOf n)) * 1000000000) fun t =>
        (t.body.ch (s.body.leadOf n)).state = .refused ∧ (t.body.ch (s.body.leadOf n)).reason = 0x23) ∧
    (∀ n, s.body.zq5016 = true → s.body.paused = false → s.body.queue = [n] → s.body.leadOf n = n →
      (s.body.ch n).state = .queued → bitAt (s.body.rd .budgetGselSel (n / 32)) (n % 32) = true → s.body.fits n = true →
      Runs .gstartGo s fun t => (t.body.ch n).state = .ramp) ∧
    (s.body.zq5016 = false → Becomes .gstartGo s s.body)

/-- Bus integrity (R229): a lowest BUS entry below BUS_MIN pauses admission and starts BUS_MIN_TIME; at BUS_MIN + 0.5 V and
above admission resumes; in between the pause stays and the time is cleared. After BUS_MIN_TIME the channel with the lowest
claim is shed, with BUDGET_SHED for a pool part and GUARANTEE_YIELD otherwise. -/
def Obligations.BusIntegrity : Prop :=
  ∀ s : State, s.body.orch = true →
    (s.body.busAtLeast (s.body.bdg .budgetBusminBusMin) = false →
      Becomes .busMinCrossing s { s.body with bud := { s.body.bud with
        busLow := some (s.body.bud.busLow.getD s.time.elapsed), busShedT := some (s.body.bud.busShedT.getD s.time.elapsed) } }) ∧
    (s.body.busAtLeast (s.body.bdg .budgetBusminBusMin) = true → s.body.busAtLeast (s.body.bdg .budgetBusminBusMin + 5) = true →
      Becomes .busMinCrossing s { s.body with bud := { s.body.bud with busLow := none, busShedT := none } }) ∧
    (s.body.busAtLeast (s.body.bdg .budgetBusminBusMin) = true → s.body.busAtLeast (s.body.bdg .budgetBusminBusMin + 5) = false →
      Becomes .busMinCrossing s { s.body with bud := { s.body.bud with busShedT := none } }) ∧
    (∀ n T, s.body.froze = false → s.body.bud.busShedT = some T → s.body.lowestClaim = some n → s.body.leadOf n = n →
      (s.body.ch n).state.driven = true → (s.body.ch n).shedWaits = false →
      RunsAt .busMinShed s (T + s.body.bdg .budgetBusminBusMinTime * 100000) fun t =>
        (t.body.ch n).state = .shed ∧ (t.body.ch n).reason = if s.body.lowRank n < 3 then 0x22 else 0x25)

/-- Hold-up (R230 to R234, R261): a trigger, ACFAIL_N once it has been low for its filter, starts a sequence and stamps
HUTIME; a stage starts at DELAY after the one before, and stage 1 sheds class 3; its end is recorded in DONE_STAGE; with every
trigger clear, and the bus 1.0 V above BUS_WARN, RETURN_QUAL runs, and its end stops the sequence between stages. -/
def Obligations.HoldUp : Prop :=
  ∀ s : State, s.body.orch = true →
    (s.body.holdup = false → RunsAt (.holdupTrigger .acfail) s (s.time.elapsed + usNs (s.body.bdg .budgetHoldupAcfailFilt)) fun t =>
      t.body.rd .budgetHustatActive = 1 ∧ t.body.rd .budgetHustatTrigAcfail = 1 ∧ t.body.rd .budgetHustatTrigBus = 0 ∧
      t.body.rd .budgetHustatDoneStage = 0 ∧ t.body.rd .budgetHutimeTime = (s.time.count + usNs (s.body.bdg .budgetHoldupAcfailFilt)) % 2 ^ 64 ∧ t.body.bud.hu.acfail = true) ∧
    (s.body.feederTrig = true → s.body.holdup = false → Runs (.holdupTrigger .feeder) s fun t =>
      t.body.rd .budgetHustatActive = 1 ∧ t.body.rd .budgetHustatTrigFeeder = 1 ∧ t.body.bud.hu.feeder = true) ∧
    (∀ T, s.body.bud.hu.warnSince = some T → s.body.holdup = false →
      RunsAt (.holdupTrigger .bus) s (T + s.body.bdg .budgetHoldupBusWarnTime * 100000) fun t =>
        t.body.rd .budgetHustatActive = 1 ∧ t.body.rd .budgetHustatTrigBus = 1) ∧
    (s.body.holdup = true → s.body.froze = false → s.body.rd .budgetHustatRunStage = 0 → s.body.bud.hu.returned = false →
      s.body.rd .budgetHustatDoneStage = 0 → s.body.bud.hu.reached = [] →
      RunsAt .holdupStageStart s (s.body.bud.hu.prevEnd + msNs (s.body.bdg .budgetHustageDelay 0)) fun t =>
        t.body.rd .budgetHustatRunStage = 1 ∧
        ∀ n, s.body.leadOf n = n → n < 128 → s.body.pclass n = 3 → (s.body.ch n).state.driven = true →
          (t.body.ch n).state = .shed ∧ (t.body.ch n).reason = 0x24) ∧
    (s.body.rd .budgetHustatRunStage = 1 → s.body.bud.hu.returned = false →
      RunsAt .holdupStageEnd s (if s.body.gatesDown then s.time.elapsed else s.body.bud.hu.stageT + 2000000) fun t =>
        t.body.rd .budgetHustatRunStage = 0 ∧ t.body.rd .budgetHustatDoneStage = 1) ∧
    (s.body.rd .budgetHustatRunStage = 3 → s.body.bud.hu.returned = false → s.body.bud.hu.verified = true →
      RunsAt .holdupStageEnd s (s.body.bud.hu.stageT + 1000000) fun t =>
        t.body.rd .budgetHustatRunStage = 0 ∧ t.body.rd .budgetHustatDoneStage = 3) ∧
    (s.body.holdup = true → s.body.bud.hu.retEnd = none → s.body.bud.hu.returned = false → s.body.bud.hu.feeder = false →
      s.body.bud.hu.bus = false → s.body.busAtLeast (s.body.bdg .budgetHoldupBusWarn + 10) = true →
      Runs .acfailNClear s fun t => t.body.bud.hu.acfail = false ∧
        t.body.rd .budgetHustatReturning = 1 ∧
        t.body.bud.hu.retEnd = some (s.time.elapsed + msNs (s.body.bdg .budgetHoldupReturnQual * 10))) ∧
    (s.body.holdup = true → s.body.bud.hu.returned = false → s.body.busAtLeast (s.body.bdg .budgetHoldupBusWarn + 10) = false →
      Runs .acfailNClear s fun t => t.body.bud.hu.acfail = false ∧ t.body.rd .budgetHustatReturning = 0 ∧
        t.body.bud.hu.retEnd = none) ∧
    (∀ T, s.body.bud.hu.retEnd = some T → s.body.rd .budgetHustatRunStage = 0 →
      RunsAt .holdupReturn s T fun t => t.body.rd .budgetHustatActive = 0 ∧ t.body.rd .budgetHustatReturning = 0 ∧
        t.body.rd .budgetHustatAborted = if s.body.bud.hu.done4 then s.body.rd .budgetHustatAborted else 1)

/-! ### Conversion (chapter 07) -/

/-- Samples (R97, R268, R270, R277, R280, R289, R350). The current sample whose turn it is in the rotation goes through the
correction chain, is turned to its true polarity and becomes the loop's current; the polarity changes and the rotation goes
on. The entry whose turn it is in the scan, or in the loop set of an urgent request, is converted: entries E0 to E15 give OUT;
E48 gives BUS and moves the value before to BUS_PREV. In a calibration slot of its path the sample is the relief block's. Out
of turn, or with the converter stopped, no sample is taken. A filter output (R282, R283, R304): the formed value is published,
SEQ counts modulo 16, and VALID says that no settling remains; a unit that has formed no output gives none. Slice visits
(R267, R272 to R274): a visit ends when its conversions are done; accepted values count a visit, and the incoming slice takes
the position of the next one, which leaves; values out of bounds are measured once more, and then the slice is retired and
CAL_FROZEN set. A visit that is barred meanwhile changes nothing. Open wires (R300, R301): the test of the wire whose turn it
is ends after its two phases. An outcome that agrees with the wire's state clears the count of the others; CONFIRM consecutive
ones that do not agree declare the wire open, or intact again. Any other wire's test does nothing. -/
def Obligations.Samples : Prop :=
  (∀ s : State,
    (∀ (n : ChIx) (raw : Int), s.body.cvaRuns n = true → (s.body.fe (dieOf n)).rotNext = n.val % 16 →
      Runs (.currentSample n raw) s fun t =>
        (t.body.fe (dieOf n)).rotNext = (n.val % 16 + 1) % 16 ∧ (t.body.en n).m.chop = !(s.body.en n).m.chop ∧
        (∀ x, x = (s.body.slice (dieOf n) ((s.body.fe (dieOf n)).posA.getD (n.val % 16 % 4) 0) raw).1 →
          s.body.relieved s.env (dieOf n) (n.val % 16) = false →
          (t.body.en n).i = loopResult (chopped (s.body.en n).m.chop (s.body.en n).m.resid x) ∧
          (t.body.en n).m.lastRaw = some x ∧
          (t.body.en n).m.resid = residNext (s.body.en n).m.resid x (s.body.en n).m.lastRaw) ∧
        (s.body.relieved s.env (dieOf n) (n.val % 16) = true →
          (t.body.en n).i = loopResult (satExt raw) ∧ (t.body.en n).m.resid = (s.body.en n).m.resid)) ∧
    (∀ (n : ChIx) (raw : Int), (s.body.cvaRuns n = false ∨ (s.body.fe (dieOf n)).rotNext ≠ n.val % 16) →
      Becomes (.currentSample n raw) s s.body) ∧
    (∀ (k : DieIx) (j : Fin 64) (raw x : Int) (sl input : Nat), s.body.dieRuns k = true →
      ((s.body.fe k).urg.run = none ∧ s.body.scanNext k = j.val ∧ sl = s.body.sliceB k 0 ∨
        (s.body.fe k).urg.run ≠ none ∧ s.body.loopNext k = j.val ∧ sl = s.body.loopSlice k) →
      input = s.body.drd k .feEntryInput (64 * k + j) →
      x = (if s.body.relieved s.env k input then raw else (s.body.slice k sl raw).1) →
      (j.val < 16 → input = 0x10 + j.val → Runs (.cvbEntrySample k j raw) s fun t =>
        (t.body.en (16 * k + j)).out = loopResult (satExt x) ∧ (t.body.en (16 * k + j)).outAt = s.time.elapsed) ∧
      (j.val = 48 → input = 0x40 → Runs (.cvbEntrySample k j raw) s fun t =>
        (t.body.fe k).bus = loopResult (satExt x) ∧ (t.body.fe k).busPrev = (s.body.fe k).bus)) ∧
    (∀ (k : DieIx) (j : Fin 64) (raw : Int), (s.body.dieRuns k = false ∨
        (s.body.fe k).urg.run = none ∧ (s.body.scanNext k ≠ j.val ∨ s.body.entryOn k j = false) ∨
        (s.body.fe k).urg.run ≠ none ∧ s.body.loopNext k ≠ j.val) →
      Becomes (.cvbEntrySample k j raw) s s.body)) ∧
  (∀ (k : DieIx) (u : Fin 80) (s : State),
    (∀ y, (s.body.fu k u).ready = some y → Runs (.filterOutput k u) s fun t =>
      t.body.drd k .fuFresValue (80 * k + u) = ofSigned 24 y ∧
      t.body.drd k .fuFresSeq (80 * k + u) = (s.body.drd k .fuFresSeq (80 * k + u) + 1) % 16 ∧
      t.body.drd k .fuFresValid (80 * k + u) = bit (decide ((s.body.fu k u).left = 0)) ∧ (t.body.fu k u).ready = none) ∧
    ((s.body.fu k u).ready = none → Becomes (.filterOutput k u) s s.body)) ∧
  (∀ (k : DieIx) (cvb : Bool) (v : Visit) (T out : Nat) (s : State), (visitOf cvb (s.body.fe k)).since = some T →
    out = s.body.drd k (outFld cvb) k →
    (s.body.visitsRun k cvb = true →
      s.body.visitOk k (s.body.visitSet k cvb) (out + if cvb then 5 else 0) v = true →
      RunsAt (.sliceVisitEnd k cvb v) s (T + (visitConvs - (visitOf cvb (s.body.fe k)).done) * s.body.convNs k) fun t =>
        t.body.drd k (outFld cvb) k = (out + 1) % 5 ∧
        t.body.drd k .feCalcntVisits k = (s.body.drd k .feCalcntVisits k + 1) % 65536 ∧
        (if cvb then (t.body.fe k).posB else (t.body.fe k).posA) =
          (if cvb then (s.body.fe k).posB else (s.body.fe k).posA).map (fun x => if x = (out + 1) % 5 then out else x) ∧
        (if cvb then (t.body.fe k).repB else (t.body.fe k).repA) = false) ∧
    (s.body.visitsRun k cvb = true →
      s.body.visitOk k (s.body.visitSet k cvb) (out + if cvb then 5 else 0) v = false →
      RunsAt (.sliceVisitEnd k cvb v) s (T + (visitConvs - (visitOf cvb (s.body.fe k)).done) * s.body.convNs k) fun t =>
        t.body.drd k (outFld cvb) k = out ∧ t.body.drd k .feCalcntVisits k = s.body.drd k .feCalcntVisits k ∧
        ((if cvb then (s.body.fe k).repB else (s.body.fe k).repA) = false →
          (if cvb then (t.body.fe k).repB else (t.body.fe k).repA) = true) ∧
        ((if cvb then (s.body.fe k).repB else (s.body.fe k).repA) = true →
          t.body.drd k (if cvb then .feCvstatCvbRet else .feCvstatCvaRet) k = 2 ^ out % 32 ∧
          t.body.drd k .feCvstatCalFrozen k = 1)) ∧
    (s.body.visitsRun k cvb = false → BecomesAt (.sliceVisitEnd k cvb v) s
      (T + (visitConvs - (visitOf cvb (s.body.fe k)).done) * s.body.convNs k) s.body)) ∧
  (∀ (k : DieIx) (l : Fin 16) (ts : Bool) (n : Nat) (s : State), n = 16 * k.val + l.val →
    (∀ T start, s.body.owNext k = some (2 * l.val + bit ts, T, start) → s.body.dieOff k = false →
      RunsAt (.openWireTest k l ts) s (T + 2 * s.body.owPhase k (2 * l.val + bit ts)) fun t =>
        (t.body.fe k).ow.place = 2 * l.val + bit ts + 1 ∧
        (s.body.owOpen n ts = wireOpen ts (s.body.en n) →
          wireOpen ts (t.body.en n) = wireOpen ts (s.body.en n) ∧ wireRun ts (t.body.en n) = 0) ∧
        (s.body.owOpen n ts ≠ wireOpen ts (s.body.en n) →
          wireRun ts (s.body.en n) + 1 < max 1 (s.body.drd k .feOwcfgConfirm k) →
          wireOpen ts (t.body.en n) = wireOpen ts (s.body.en n) ∧ wireRun ts (t.body.en n) = wireRun ts (s.body.en n) + 1) ∧
        (s.body.owOpen n ts ≠ wireOpen ts (s.body.en n) →
          max 1 (s.body.drd k .feOwcfgConfirm k) ≤ wireRun ts (s.body.en n) + 1 →
          wireOpen ts (t.body.en n) = s.body.owOpen n ts ∧ wireRun ts (t.body.en n) = 0)) ∧
    ((∀ T start, s.body.owNext k ≠ some (2 * l.val + bit ts, T, start)) →
      Becomes (.openWireTest k l ts) s s.body))

/-- Trend interval boundaries of a die (R14, R16, R43, R302): the open interval of a metering channel closes with its sums,
its state code and TJ_EST, the BUS mean closes with it, and at a boundary the channels take the range that IRANGE.FINE
selects, unless their current input is being captured. Direct conversions (R292, R293, R312). GO reaches its die behind the
writes that wait there (R30); CONVST acts on the edge that CONVCTL.SRC selects, and the edge of die 0 is also a source of the
Cadence timers (R397, assumption log 218). A request starts at once on an idle die, and one more while it waits or runs is
missed; at the last sample the mean of the corrected samples is published, and a read of CONV clears RDY and OVR. The result
of an input that is never converted is a free value (log 54). -/
def Obligations.TrendBoundaries : Prop :=
  (∀ (k : DieIx) (s : State), s.body.dieOff k = false →
    (s.body.doze = false → RunsAt (.trendIntervalBoundary k) s (nextBoundary s.env s.body k) (fun t =>
      (t.body.fe k).lastB = t.time.elapsed ∧ (t.body.fe k).busDone = ((s.body.fe k).busSum, (s.body.fe k).busN) ∧
      (t.body.fe k).busN = 0 ∧
      ∀ n, n < 128 → dieOf n = k → s.body.meters n = true →
        (t.body.en n).m.closed.map Closed.sum = (s.body.en n).m.closed.map Closed.sum ++ [(s.body.en n).m.cur] ∧
        ((t.body.en n).m.closed.map Closed.state).getLast? = some (s.body.ch (s.body.leadOf n)).state.code ∧
        ((t.body.en n).m.closed.map Closed.tj).getLast? = some (s.body.en n).tjEst ∧
        (t.body.en n).m.openT = t.time.elapsed ∧ (t.body.en n).pHigh = 0)) ∧
    (s.body.hubDown = false → (s.body.fe k).joined = true → (s.body.fe k).lastB = s.time.elapsed →
      Runs (.irangeApply k) s fun t => ∀ c, c = s.body.drain s.env k → ∀ n, n < 128 → dieOf n = k → c.capturesCs n = false →
        t.body.fineOn n = bitAt (c.drd k .feIrangeFine k) (n % 16)) ∧
    (s.body.hubDown = false → (s.body.fe k).joined = true → (s.body.fe k).lastB ≠ s.time.elapsed → (s.body.fe k).down = [] →
      RunsAt (.irangeApply k) s (nextBoundary s.env s.body k) fun t => ∀ n, n < 128 → dieOf n = k →
        s.body.capturesCs n = false → t.body.fineOn n = bitAt (s.body.drd k .feIrangeFine k) (n % 16)) ∧
    (s.body.hubDown = false → (s.body.fe k).joined = false → (s.body.fe k).lastB = s.time.elapsed →
      Becomes (.irangeApply k) s s.body)) ∧
  (∀ (k : DieIx) (s : State),
    (∀ i c, (i = Instr.directConvGo k ∧ s.body.hubDown = false ∧ (s.body.fe k).joined = true ∧ c = s.body.drain s.env k ∨
        (∃ r, i = .convstEdge k r ∧ s.body.role ≠ .bench ∧ edgeActs (s.body.drd k .feConvctlSrc k) r = true ∧
          c = (if k.val = 0 then s.body.srcEdge 0x89 r s.time.elapsed else s.body))) →
      c.dieRuns k = true →
      ((c.fe k).urg.run = none → (c.fe k).urg.passLeft = 0 → (c.fe k).urg.waitCap = false →
        (c.fe k).urg.waitBench = false → (c.fe k).urg.waitConv = false → Runs i s fun t =>
        t.body.drd k .feConvctlBusy k = 1 ∧ (t.body.fe k).urg.run = some .direct ∧ (t.body.fe k).urg.startT = s.time.elapsed) ∧
      ((c.fe k).urg.waitConv = true ∨ (c.fe k).urg.run = some .direct → Becomes i s (c.dwr k .feConvctlMissed k 1))) ∧
    (∀ r, s.body.role ≠ .bench → edgeActs (s.body.drd k .feConvctlSrc k) r = false → Becomes (.convstEdge k r) s
      (if k.val = 0 then s.body.srcEdge 0x89 r s.time.elapsed else s.body)) ∧
    (∀ raws, s.body.dieRuns k = true → (s.body.fe k).urg.run = some .direct → RunsAt (.directConvDone k raws) s
        ((s.body.fe k).urg.startT + (s.body.drd k .feConvctlNavg k + 1) * s.body.urgentNs k) fun t =>
        t.body.drd k .feConvRdy k = 1 ∧ t.body.drd k .feConvctlBusy k = 0 ∧
        t.body.drd k .feConvSeq k = (s.body.drd k .feConvSeq k + 1) % 64 ∧
        (s.body.drd k .feConvctlInput k ≤ 0x45 →
          t.body.drd k .feConvResult k = ofSigned 24 (clampInt (-(2 ^ 23)) (2 ^ 23 - 1)
            (divRound ((Body.samples k (s.body.drd k .feConvctlInput k) (s.body.fe k).serve false (s.body.fe k).urg.startT (1000 * s.body.urgentNs k) 0
                (raws.take (s.body.drd k .feConvctlNavg k + 1)) s.body).1.foldl (· + ·) 0 * 16)
              ((s.body.drd k .feConvctlNavg k + 1 : Nat) : Int)))) ∧
        (s.body.drd k .feConvRdy k = 1 → t.body.drd k .feConvOvr k = 1)) ∧
    Becomes (.convRead k) s
      (({ s.body with reply := [s.body.convWord k] } : Body).dwr k .feConvRdy k 0 |>.dwr k .feConvOvr k 0))

/-- Fault captures (R294 to R297, R316): a trigger of the source selected, or FORCE, starts a capture on an idle die and is
missed while any request waits, runs or still owes its pass; any other trigger does nothing; ABORT cuts a running capture; its
end counts, and CVB then makes one pass of every enabled entry. FORCE and ABORT reach the die behind the writes that wait
there (R30). The oldest capture of the die with samples in its buffer sends its next frame once no status frame or reply
waits; the frame is kept while the capture part of Basket has room. -/
def Obligations.FaultCaptures : Prop :=
  ∀ (k : DieIx) (s : State),
    (∀ i src unit c, (i = Instr.captureForce k ∧ src = 0 ∧ unit = 0 ∧ s.body.hubDown = false ∧ (s.body.fe k).joined = true ∧
          c = s.body.drain s.env k ∨
        (i = .captureTrigger k src unit ∧ s.body.capHits k src unit = true ∧ c = s.body)) →
      c.dieRuns k = true → c.capInput k src unit ≠ 0x7F →
      ((c.fe k).urg.run = none → (c.fe k).urg.passLeft = 0 → (c.fe k).urg.waitCap = false → Runs i s fun t =>
        (t.body.fe k).urg.run = some .capture ∧ (t.body.fe k).urg.capSrc = src ∧ t.body.drd k .feCapstatBusy k = 1 ∧
        (t.body.fe k).urg.capIn = c.capInput k src unit) ∧
      ((c.fe k).urg.waitCap = true ∨ (c.fe k).urg.run ≠ none ∨ 0 < (c.fe k).urg.passLeft → c.drd k .feCapctlXout k = 0 →
        Becomes i s (c.dwr k .feCapstatMissed k 1))) ∧
    (∀ src unit, s.body.capHits k src unit = false → Becomes (.captureTrigger k src unit) s s.body) ∧
    (∀ c, c = s.body.drain s.env k → s.body.hubDown = false → (s.body.fe k).joined = true →
      ((c.fe k).urg.run = some .capture →
        Becomes (.captureAbort k) s (c.onUrg k fun u => { u with capAbort := true, capCut := true })) ∧
      ((c.fe k).urg.run ≠ some .capture → Becomes (.captureAbort k) s c)) ∧
    (s.body.dieOff k = false → (s.body.fe k).urg.run = some .capture →
      RunsAt (.captureEnd k) s (if (s.body.fe k).urg.capCut then s.time.elapsed else
        (s.body.fe k).urg.startT + ceilDiv (s.body.capLen k * s.body.capPeriod k (s.body.wideRuns k)) 1000) fun t =>
      t.body.drd k .feCapstatCount k = (s.body.drd k .feCapstatCount k + 1) % 2 ^ 24 ∧ t.body.drd k .feCapstatBusy k = 0 ∧
      (t.body.fe k).urg.run = none ∧ (t.body.fe k).urg.passLeft = s.body.entries k) ∧
    (∀ cs c ds raws len, s.body.linkUp? k = true → (s.body.fe k).up = [] → s.body.rcd.caps = cs ++ c :: ds →
      (∀ x ∈ cs, x.die ≠ k.val) → c.die = k.val → len = s.body.capFrameLen s.env k c → 0 < len →
      (∀ x ∈ cs ++ c :: ds, x.dev = none) → s.body.capUnits + 1 ≤ ledgerPart →
      Runs (.iclCaptureData k raws) s fun t => t.body.rcd.caps = cs ++ { c with
        sent := c.sent + len, lost := s.body.capTaken s.env k c - c.sent - s.body.capWaits s.env k c
        data := c.data ++ [frameOf (Body.samples k c.input c.serve c.wide c.start c.period (c.sent + c.lost)
          ((raws ++ List.replicate len 0).take len) s.body).1] } :: ds) ∧
    (∀ raws, ((s.body.fe k).up ≠ [] ∨ ∀ c ∈ s.body.rcd.caps, c.die ≠ k.val) → Becomes (.iclCaptureData k raws) s s.body)

/-! ### Metering and bench mode (chapters 08 and 09) -/

/-- An increment that reaches HUB (R43, R328, R330, R334): under the present epoch it is added to the channel's accumulator
and to TOTAL, 128 bits in two's complement, and gives the mean power; under an earlier one it is discarded. A closed block
that waits for it alone enters the stream, unless a checkpoint is due first (R427, R432). Nothing comes while the interval is
not complete or the link is down. Energy checkpoints (R331): the boundary just passed, or the next one when that has its
checkpoint, gets one once every increment of an interval that ends there or before has arrived; it waits for its read-back; a
good read-back publishes its time, and a bad one sets CKPT_FAIL and takes the next slot. -/
def Obligations.Metering : Prop :=
  (∀ (n : ChIx) (s : State),
    (∀ c rest, (s.body.en n).m.closed = c :: rest → (s.body.en n).m.ready = true → s.body.linkUp? (dieOf n) = true →
      (c.epoch = s.body.rd .twinDieEpoch (dieOf n) → Runs (.iclTrendIncrement n) s fun t =>
        t.body.rd .energyAcc n = ofSigned 128 ((s.body.rd .energyAcc n : Int) + c.sum.e) ∧
        t.body.rd .energyTotalAcc = ofSigned 128 ((s.body.rd .energyTotalAcc : Int) + c.sum.e) ∧
        t.body.rd .chMpowP n = satS 32 c.mw ∧ (t.body.en n).m.closed = rest ∧
        (∀ j, j < 128 → j ≠ n → t.body.rd .energyAcc j = s.body.rd .energyAcc j)) ∧
      (∀ w, c.epoch = s.body.rd .twinDieEpoch (dieOf n) → s.body.rcd.blkWait = [w] → s.body.rcd.ckptDue = none →
        ((s.body.onPath n fun m => { m with closed := rest }).sumsTo w.endE = true → Runs (.iclTrendIncrement n) s fun t =>
          t.body.rcd.blkWait = [] ∧ t.body.rcd.lastEnd = w.tEnd ∧
          t.body.rd .recNextblkNo = (s.body.rd .recNextblkNo + 1) % 2 ^ 64) ∧
        ((s.body.onPath n fun m => { m with closed := rest }).sumsTo w.endE = false → Runs (.iclTrendIncrement n) s fun t =>
          t.body.rcd.blkWait.map (fun x => (x.tEnd, x.late)) = [(w.tEnd, (w.after n c.sum.e c.endE).late)] ∧
          t.body.rd .recNextblkNo = s.body.rd .recNextblkNo)) ∧
      (c.epoch ≠ s.body.rd .twinDieEpoch (dieOf n) → Runs (.iclTrendIncrement n) s fun t =>
        (∀ j, t.body.rd .energyAcc j = s.body.rd .energyAcc j) ∧ (t.body.en n).m.closed = rest)) ∧
    ((s.body.en n).m.ready = false ∨ s.body.linkUp? (dieOf n) = false → Becomes (.iclTrendIncrement n) s s.body)) ∧
  (∀ s : State, s.body.hubDown = false →
    (s.body.mtr.lastSec ≠ some (secondOf s.time.count) →
      (s.body.allSent s.env (secondOf s.time.count) = true → Runs .energyCheckpoint s fun t =>
        t.body.mtr.lastSec = some (secondOf s.time.count) ∧ t.body.mtr.written = s.body.mtr.written + 1 ∧
        t.body.mtr.pend = some (oldestSlot s.body.mtr.ckpts)) ∧
      (s.body.allSent s.env (secondOf s.time.count) = false → Becomes .energyCheckpoint s s.body)) ∧
    (∀ T u, s.body.mtr.lastSec = some (secondOf s.time.count) →
      T = s.time.elapsed + (secondOf s.time.count + 1000000000 - s.time.count) → u = s.goTo T →
      s.body.allSent u.env (secondOf u.time.count) = true → RunsAt .energyCheckpoint s T fun t =>
        t.body.mtr.lastSec = some (secondOf u.time.count) ∧ t.body.mtr.written = s.body.mtr.written + 1) ∧
    (∀ i, s.body.mtr.pend = some i →
      (Runs (.checkpointReadback true) s fun t => t.body.mtr.pend = none ∧
        t.body.rd .energyCkptTime = (s.body.mtr.ckpts.getD i Ckpt.empty).time % 2 ^ 64) ∧
      (Runs (.checkpointReadback false) s fun t =>
        t.body.mtr.pend = some ((i + 1) % 4) ∧ t.body.rd .energyStatCkptFail = 1)) ∧
    (∀ ok, s.body.mtr.pend = none → Becomes (.checkpointReadback ok) s s.body))

/-- The reference (R339 to R343): warm-up completes 15 min after the cell has come into its band; a heater fault ends it; a
check at a multiple of 10 s publishes the module excursion, marks VALID and starts the sums anew. In doze there is no check,
and within 10 s of the wake none. -/
def Obligations.Reference : Prop :=
  ∀ s : State, s.body.hubDown = false →
    (∀ T, s.body.mtr.cellT = some T → s.body.flag .metaRefstatWarmDone = false →
      BecomesAt .warmUpComplete s (T + 900000000000) (s.body.wr .metaRefstatWarmDone 0 1)) ∧
    (s.body.mtr.cellT = none ∨ s.body.flag .metaRefstatWarmDone = true → Becomes .warmUpComplete s s.body) ∧
    (∀ T, s.body.heaterDue = some T → RunsAt .heaterFault s T fun t =>
      t.body.rd .metaRefstatWarmDone = 0 ∧ t.body.rd .metaRefstatHeaterFault = 1) ∧
    (s.body.heaterDue = none → Becomes .heaterFault s s.body) ∧
    (∀ d, s.body.doze = false →
      d = (if s.time.count % 10000000000 = 0 ∧ s.body.mtr.refT ≠ some s.time.elapsed then 0
        else 10000000000 - s.time.count % 10000000000) →
      (s.body.mtr.refT = none ∨ s.body.flag .metaRefstatValid = true →
        RunsAt .refWatchCheck s (s.time.elapsed + d) fun t =>
          t.body.rd .metaRefstatValid = 1 ∧ t.body.mtr.refT = some t.time.elapsed ∧
          t.body.rd .metaRefdevDev = satS 32 (middleTwo (Body.devs (List.range 8) s.body).1) ∧
          ∀ k, k < 8 → (t.body.fe k).refN = 0) ∧
      (∀ T, s.body.mtr.refT = some T → s.body.flag .metaRefstatValid = false → s.time.elapsed + d < T + 10000000000 →
        RunsAt .refWatchCheck s (s.time.elapsed + (d + 10000000000)) fun t => t.body.rd .metaRefstatValid = 1)) ∧
    (s.body.doze = true → Becomes .refWatchCheck s s.body)

/-- A calibration session starts, is refused or is ended by the host (R348, R353): refusals set FAILED with ROLE before
NOT_READY; ABORT ends a session that has not committed, with code 1. The calibration interval (R356): DUE_REM counts down from
INTERVAL, 365 while no image has set it, in days of operation, to 0. -/
def Obligations.CalibrationControl : Prop :=
  (∀ (v : Word) (s : State), s.body.hubDown = false → s.body.unlocked 6 = true →
    (s.body.modeOk (min 2 (bits v.toNat 1 0)) = true → s.body.calNotReady = false → Runs (.calStart v) s fun t =>
      t.body.rd .metaCalprogPhase = 1 ∧
      ∃ x, t.body.mtr.sess = some x ∧ x.phase = 1 ∧ x.phaseT = s.time.elapsed ∧ x.mode = min 2 (bits v.toNat 1 0)) ∧
    (s.body.modeOk (min 2 (bits v.toNat 1 0)) = false → Runs (.calStart v) s fun t =>
      t.body.rd .metaCalstatFailed = 1 ∧ t.body.rd .metaCalprogFailCode = 9 ∧ t.body.mtr.sess = s.body.mtr.sess) ∧
    (s.body.modeOk (min 2 (bits v.toNat 1 0)) = true → s.body.calNotReady = true → Runs (.calStart v) s fun t =>
      t.body.rd .metaCalstatFailed = 1 ∧ t.body.rd .metaCalprogFailCode = 2 ∧ t.body.mtr.sess = s.body.mtr.sess) ∧
    (∀ x, s.body.mtr.sess = some x → x.applyB = none → Runs .calAbort s fun t =>
      t.body.mtr.sess = none ∧ t.body.rd .metaCalprogFailCode = 1 ∧ t.body.rd .metaCalstatFailed = 1) ∧
    (∀ x T, s.body.mtr.sess = some x → x.applyB = some T → Becomes .calAbort s s.body)) ∧
  (∀ s : State, s.body.hubDown = false → Becomes .calDueExpire s (s.body.wr .metaCalintDueRem 0
    ((if s.body.rd .metaCalintInterval = 0 then 365 else s.body.rd .metaCalintInterval) -
      (s.body.rd .healthOphoursHours - s.body.mtr.dueFrom) / 24)))

/-- A session runs (R346, R349 to R354): the first stability check takes the voltages; phases 2 to 4 end at their length; a
slot, 100 ms after the last one of its die, that agrees is added and takes the path, one whose relief disagrees is repeated
once and then ends the session, and one of a channel in RAMP, LIMIT or HELD waits; phase 5 stores, or ends the session where a
gain is out of its limits or the store fails or is cut, with a verification done at once; and at B the new bank is in force.
-/
def Obligations.CalibrationRuns : Prop :=
  ∀ (x : Sess) (s : State), s.body.mtr.sess = some x → s.body.hubDown = false →
    (x.applyB = none → x.v1 = [] → Runs .calStabilityCheck s fun t =>
      t.body.mtr.sess = some { x with v1 := (List.range 8).map fun k => (s.body.fe k).calV }) ∧
    (∀ meas, x.applyB = none → 2 ≤ x.phase → x.phase < 5 → x.slotsDone x.phase = true →
      RunsAt (.calPhaseEnd meas) s (x.phaseT + x.phaseNs x.phase) fun t =>
        t.body.rd .metaCalprogPhase = x.phase + 1 ∧ t.body.mtr.sess.map Sess.phase = some (x.phase + 1)) ∧
    (∀ (n : Nat) (kind : CalKind) (m : SlotMeas) (T U : Nat), x.applyB = none → x.together = false → x.phase = 4 → n < 128 →
      kind ≠ .bus → x.done (kindCode kind) n < x.slots →
      T = (if sparseGet 0 x.slotAt (dieOf n) = 0 then s.time.elapsed else sparseGet 0 x.slotAt (dieOf n) - 1 + 100000000) →
      U = s.time.elapsed + (T - s.time.elapsed) →
      ((s.body.ch (s.body.leadOf n)).state ∉ [ChState.ramp, .limit, .held] →
        (m.agree = true → RunsAt (.calSlot n kind m) s T fun t =>
          t.body.mtr.sess = some (({ x with slotAt := sparseSet 0 x.slotAt (dieOf n) (U + 1) } : Sess).slot (kindCode kind) n m) ∧
          (t.body.en n).m.slot.map (fun z => (z.kind, z.t0)) = some (kindCode kind, U) ∧
          (t.body.en n).m.slotTill = U + 1900000) ∧
        (m.agree = false → x.relief.contains n = false → RunsAt (.calSlot n kind m) s T fun t =>
          t.body.mtr.sess = some { x with relief := n :: x.relief }) ∧
        (m.agree = false → x.relief.contains n = true → RunsAt (.calSlot n kind m) s T fun t =>
          t.body.mtr.sess = none ∧ t.body.rd .metaCalprogFailCode = 5 ∧ t.body.rd .metaCalprogFailCh = n)) ∧
      ((s.body.ch (s.body.leadOf n)).state ∈ [ChState.ramp, .limit, .held] → (x.waits.any fun w => w.1 = n) = false →
        RunsAt (.calSlot n kind m) s T fun t => t.body.mtr.sess = some { x with waits := (n, U) :: x.waits })) ∧
    (∀ (k : DieIx) (m : SlotMeas), x.applyB = none → x.together = false → x.phase = 3 → x.done 3 k = 0 → m.agree = true →
      sparseGet 0 x.slotAt k = 0 → Runs (.calSlot k .bus m) s fun t =>
        t.body.mtr.sess = some (({ x with slotAt := sparseSet 0 x.slotAt k (s.time.elapsed + 1) } : Sess).slot 3 k m) ∧
        (t.body.fe k).busSlot.map (fun z => (z.kind, z.t0, z.count)) = some (3, s.time.elapsed, s.time.count)) ∧
    (∀ t1 t2, x.phase = 5 →
      (∀ c, s.body.overLimit x = some c → Runs (.calStore t1 t2) s fun t =>
        t.body.mtr.sess = none ∧ t.body.rd .metaCalprogFailCode = 6 ∧ t.body.rd .metaCalprogFailCh = c % 256) ∧
      (s.body.overLimit x = none → x.mode = 2 → Runs (.calStore t1 t2) s fun t =>
        t.body.mtr.sess = none ∧ t.body.rd .metaCalprogPhase = 7 ∧ t.body.rd .metaCalstatDone = 1) ∧
      (s.body.overLimit x = none → x.mode ≠ 2 → x.seqHigh + 1 ≠ 2 ^ 32 - 1 → lastTry t1 t2 = .good →
        Runs (.calStore t1 t2) s fun t =>
        t.body.rd .metaCalprogPhase = 6 ∧ t.body.mtr.epochHigh = s.body.mtr.epochHigh + 1 ∧
        t.body.mtr.sess.bind Sess.applyB = some s.env.boundary) ∧
      (s.body.overLimit x = none → x.mode ≠ 2 → x.seqHigh + 1 ≠ 2 ^ 32 - 1 → lastTry t1 t2 ≠ .good →
        Runs (.calStore t1 t2) s fun t => t.body.mtr.sess = none ∧
        t.body.rd .metaCalprogFailCode = if lastTry t1 t2 = .badCrc ∨ lastTry t1 t2 = .badCommit then 8 else 7)) ∧
    (∀ T, x.applyB = some T → x.target < 2 → RunsAt .calEpochApply s T fun t =>
      t.body.rd .metaCalstatBank = x.target ∧ t.body.mtr.sess = none ∧ t.body.rd .metaCalstatDone = 1 ∧
      t.body.rd .metaEpochEpoch = sparseGet 0 (if x.target = 0 then s.body.mtr.bank0 else s.body.mtr.bank1) 4 % 2 ^ 32)

/-- Bench mode (R361, R362, R364): an accepted entry makes the role BENCH with every gate on the controlled sink; a refused
one sets REFUSED with its code; READY follows; and the exit returns to SOLO. Bench scans (R368 to R373): a trigger starts a
scan on every idle die with an enabled point, and ZERO a zero scan; its commit counts SEQ modulo 65 536 and starts a rest of
the scan's length; the end of the rest starts a held trigger. -/
def Obligations.BenchMode : Prop :=
  (∀ s : State, s.body.hubDown = false → s.body.unlocked 6 = true →
    (s.body.benchBar s.env = 0 → Runs .benchEnter s fun t =>
      t.body.role = .bench ∧ t.body.rd .metaBenchstatActive = 1 ∧ t.body.rd .metaBenchstatReady = 0 ∧
      ∀ n, n < 128 → (t.body.en n).gate = .sink) ∧
    (s.body.benchBar s.env ≠ 0 → Becomes .benchEnter s
      ((s.body.wr .metaBenchstatRefused 0 1).wr .metaBenchstatRefuse 0 (s.body.benchBar s.env))) ∧
    (s.body.role = .bench → Becomes .benchReady s (s.body.wr .metaBenchstatReady 0 1)) ∧
    (s.body.role = .bench → Runs .benchExit s fun t =>
      t.body.role = .solo ∧ t.body.rd .metaBenchstatActive = 0 ∧ t.body.rd .metaBenchstatExiting = 1)) ∧
  (∀ (k : DieIx) (s : State), s.body.hubDown = false →
    (s.body.role = .bench → s.body.flag .metaBenchstatReady = true → s.body.dieRuns k = true → (s.body.points k).isEmpty = false →
      (s.body.fe k).urg.run = none → (s.body.fe k).urg.passLeft = 0 → (s.body.fe k).urg.waitCap = false →
      (s.body.fe k).urg.waitBench = false → (s.body.fe k).restEnd = none → s.body.health.lvl < 4 →
      (Runs .benchTrig s fun t => (t.body.fe k).urg.run = some .bench ∧ t.body.rd .metaBenchdieBusy k = 1 ∧
        (t.body.fe k).scanZero = false) ∧
      (Runs .benchZero s fun t => (t.body.fe k).urg.run = some .bench ∧ t.body.rd .metaBenchdieBusy k = 1 ∧
        (t.body.fe k).scanZero = true)) ∧
    (∀ raws, (s.body.fe k).urg.run = some .bench → s.body.dieOff k = false →
      RunsAt (.benchScanCommit k raws) s ((s.body.fe k).urg.startT + s.body.scanNs k) fun t =>
        t.body.rd .metaBenchdieSeq k = (s.body.rd .metaBenchdieSeq k + 1) % 65536 ∧ t.body.rd .metaBenchdieBusy k = 0 ∧
        t.body.rd .metaBenchdieRest k = 1 ∧ (t.body.fe k).restEnd = some (t.time.elapsed + s.body.scanNs k) ∧
        (t.body.fe k).urg.run = none) ∧
    (∀ T, (s.body.fe k).restEnd = some T →
      ((s.body.fe k).scanHeld = none → BecomesAt (.benchRestEnd k) s T
        ((s.body.wr .metaBenchdieRest k 0).onDie k fun d => { d with restEnd := none })) ∧
      (∀ z, (s.body.fe k).scanHeld = some z → (s.body.points k).isEmpty = false → s.body.health.lvl < 4 → (s.body.fe k).urg.run = none →
        (s.body.fe k).urg.passLeft = 0 → (s.body.fe k).urg.waitCap = false →
        RunsAt (.benchRestEnd k) s T fun t => (t.body.fe k).urg.run = some .bench ∧ (t.body.fe k).scanZero = z ∧
          t.body.rd .metaBenchdieRest k = 0)))

/-! ### Time (chapter 10) -/

/-- An accepted pulse (R380 to R387), whose edge lies the filter time MINW back: it publishes c and e and clears MISS; in
window it slews with RATE −e, saturated at 100 ppm; the first one of FREE schedules the first alignment at the step instant;
in CLOCK_FAIL it is shown and counted and corrects nothing, and one out of window sets INDEX_SLIP. Pulses that come too soon,
whose edge the Cadence timers see all the same (R397), or that stay away, and the end of RATE's second (R380, R382, R387,
R388). The third missing pulse of a timebase that was ACQUIRING or LOCKED brings HOLDOVER. -/
def Obligations.Pulses : Prop :=
  (∀ (e : Int) (s : State), s.body.hubDown = false → s.body.rd .tbPpscfgPpsEn ≠ 0 → phaseErr (s.body.pulseTime (s.body.atEdge s.env)) = e →
    (s.body.disc.lastPulse = none ∨ ∃ t, s.body.disc.lastPulse = some t ∧ t + 500000000 < (s.body.atEdge s.env).now) →
    s.body.role ≠ .standby → s.body.disc.arm = false →
    ((s.body.rd .tbStatState = 1 ∨ s.body.rd .tbStatState = 2 ∨ s.body.rd .tbStatState = 3) → s.body.slips e = false →
      Runs .ppsPulse s fun t => t.body.rd .tbRateRate = ofSigned 32 (clampInt (-100000) 100000 (-e)) ∧
        t.body.rd .tbPhaseE = ofSigned 32 e ∧ t.body.rd .tbLastppsTime = (s.body.atEdge s.env).count % 2 ^ 64 ∧
        t.body.rd .tbStatMiss = 0 ∧ t.body.disc.lastPulse = some (s.body.atEdge s.env).now) ∧
    (s.body.rd .tbStatState = 0 → Runs .ppsPulse s fun t =>
      t.body.disc.step = some ((s.body.atEdge s.env).now + 100000, .delta (-e), 1) ∧ t.body.rd .tbStatState = 1) ∧
    (s.body.rd .tbStatState = 4 → Runs .ppsPulse s fun t =>
      t.body.rd .tbPhaseE = ofSigned 32 e ∧ t.body.rd .tbStatMiss = 0 ∧ t.body.rd .tbRateRate = s.body.rd .tbRateRate ∧
        t.body.rd .tbStatState = 4 ∧ t.body.disc.step = s.body.disc.step ∧ (s.body.slips e = true → t.body.rd .tbStatIndexSlip = 1))) ∧
  (∀ (T : Nat) (s : State), s.body.hubDown = false → s.body.role ≠ .standby →
    (s.body.rd .tbPpscfgPpsEn ≠ 0 → s.body.disc.lastPulse = some T →
      (s.body.atEdge s.env).now ≤ T + 500000000 → Becomes .ppsPulse s
        ((s.body.srcEdge 0x80 (!s.body.flag .tbPpscfgEdge) (s.body.atEdge s.env).now).wr .tbStatPpsExtra 0 1)) ∧
    (s.body.disc.lastPulse = some T →
      RunsAt .ppsMissing s (T + 1500000000 + s.body.rd .tbStatMiss * 1000000000) fun t =>
        t.body.rd .tbStatMiss = min 255 (s.body.rd .tbStatMiss + 1) ∧
        (s.body.rd .tbStatMiss = 2 → (s.body.rd .tbStatState = 1 ∨ s.body.rd .tbStatState = 2) →
          t.body.rd .tbStatState = 3 ∧ t.body.rd .tbStatHoldoverSeen = 1 ∧ t.body.rd .tbRateRate = 0)) ∧
    (s.body.disc.rateEnd = some T → BecomesAt .rateTimeout s T
      ((s.body.wr .tbRateRate 0 0).onDisc fun d => { d with rateEnd := none })))

/-- A step (R384, R386): at its instant the count moves by the difference decided, elapsed time goes on, and STEPPED, the
cause and the new count are published; the timebase is ACQUIRING afterwards unless it has failed. The replicas of the dies
that have joined follow (R25). CLK_TB back in its band (R389): the timebase returns to FREE if it failed from there, else to
HOLDOVER with RATE 0. -/
def Obligations.StepsOfTheCount : Prop :=
  (∀ (T : Nat) (d : Int) (cause : Nat) (s : State), s.body.disc.step = some (T, .delta d, cause) →
    Runs .timebaseStep s fun t =>
      t.time.elapsed = s.time.elapsed + (T - s.time.elapsed) ∧
      t.time.count = ofSigned 64 (((s.time.count + (T - s.time.elapsed)) % 2 ^ 64 : Nat) + d) ∧
      t.body.rd .tbStatStepped = 1 ∧ t.body.rd .tbSetctlCause = cause % 16 ∧ t.body.rd .tbSteptimeTime = t.time.count ∧
      (s.body.rd .tbStatState ≠ 4 → t.body.rd .tbStatState = 1) ∧ t.body.disc.step = none ∧
      ∀ k, k < 8 → (s.body.fe k).joined = true → (t.body.fe k).phase = ofSigned 64 ((s.body.fe k).phase + d)) ∧
  (∀ s : State, s.body.hubDown = false → s.body.rd .tbStatState = 4 →
    (s.body.disc.fromFree = true → Runs .clkTbReturn s fun t => t.body.rd .tbStatState = 0) ∧
    (s.body.disc.fromFree = false → Runs .clkTbReturn s fun t => t.body.rd .tbStatState = 3 ∧ t.body.rd .tbRateRate = 0))

/-- The host's commands on the count (R385), with the unlock and no step scheduled: ARM, ALIGN and NOW; CANCEL needs the
unlock alone. While a step is scheduled ARM, NOW and ALIGN do nothing. -/
def Obligations.TimebaseCommands : Prop :=
  ∀ s : State, s.body.unlocked 7 = true → s.body.hubDown = false →
    (s.body.disc.step = none →
      Becomes .tbArm s ((s.body.onDisc fun d => { d with arm := true, align := false }).wr .tbSetctlArmed 0 1) ∧
      Becomes .tbAlign s ((s.body.onDisc fun d => { d with arm := false, align := true }).wr .tbSetctlArmed 0 1) ∧
      Becomes .tbNow s (s.body.onDisc fun d => { d with step := some (s.time.elapsed + 100000, .now, 5) })) ∧
    Becomes .tbCancel s ((s.body.onDisc fun d => { d with arm := false, align := false }).wr .tbSetctlArmed 0 0) ∧
    (s.body.disc.step ≠ none → Becomes .tbArm s s.body ∧ Becomes .tbNow s s.body ∧ Becomes .tbAlign s s.body)

/-- One tick (R391 to R395): where no action of the tick before waits, a timer that runs counts up by 1, modulo 2^32, and one
that does not keeps its count; a match sets MATCH unless the lap-safe rule holds and the lap has had its match. Captures
(R397, R398): an edge passes the Lint filter of its timer its filter time after it came, the oldest that waits there, or where
none waits the one given; if it is of the selection and completes the prescaler it captures the count that the timer held at
the edge, and sets CAPF, or COVR over a capture not yet cleared; else the prescaler counts it. -/
def Obligations.Timers : Prop :=
  (∀ s : State, s.body.hubDown = false → s.body.tmr.resets = [] → s.body.tmr.starts = [] →
    RunsAt .timerTick s ((s.body.tmr.tick + 1) * 1000) fun t =>
      t.body.tmr.tick = s.body.tmr.tick + 1 ∧ ∀ i, i < 256 →
        sparseGet 0 s.body.tmr.loadT i < (s.body.tmr.tick + 1) * 1000 →
        (s.body.ticksAt i ((s.body.tmr.tick + 1) * 1000) = false → t.body.rd .tmrCntCount i = s.body.rd .tmrCntCount i) ∧
        (s.body.ticksAt i ((s.body.tmr.tick + 1) * 1000) = true →
          t.body.rd .tmrCntCount i = (s.body.rd .tmrCntCount i + 1) % 2 ^ 32 ∧
          (t.body.rd .tmrCntCount i = s.body.cmpSeen i →
            s.body.lapSafe (s.goTo ((s.body.tmr.tick + 1) * 1000)).env i = false → t.body.rd .tmrCtrlMatch i = 1))) ∧
  (∀ (i : Fin 256) (rising : Bool) (ago : Nat) (s : State), s.body.hubDown = false → s.body.flag .tmrCapcfgCen i = true →
    s.body.srcExists i = true → ∀ (p : Nat × Nat) (T : Nat),
    ((s.body.tmr.lint.find? fun q => q.1 = i.val) = none ∧ p = (i.val, s.time.elapsed - ago) ∧ s.body.edgeTaken i rising = true ∨
      (s.body.tmr.lint.find? fun q => q.1 = i.val) = some p ∧
        s.body.edgeTaken i (decide (s.body.rd .tmrCapcfgEdge i ≠ 1)) = true ∧ p.2 ≤ s.time.elapsed) →
    T = p.2 + s.body.lintNs i →
    (s.body.rd .tmrCapcfgPresc i ≤ sparseGet 0 s.body.tmr.edges i → RunsAt (.timerCapture i rising ago) s T fun t =>
      t.body.rd .tmrCapvValue i = s.body.countAtEdge i p.2 % 2 ^ 32 ∧ t.body.rd .tmrCtrlCapf i = 1 ∧
      (s.body.rd .tmrCtrlCapf i = 1 → t.body.rd .tmrCtrlCovr i = 1) ∧ t.body.tmr.lint = s.body.tmr.lint.erase p) ∧
    (sparseGet 0 s.body.tmr.edges i < s.body.rd .tmrCapcfgPresc i → BecomesAt (.timerCapture i rising ago) s T
      (s.body.onTmr fun x => { x with edges := sparseSet 0 x.edges i (sparseGet 0 x.edges i + 1), lint := x.lint.erase p })))

/-- Group release (R400): GO with timers selected sets BUSY, without any sets DONE; at its start instant the next timer loads
0 and runs, and the last start clears BUSY and sets DONE. Fans (R401 to R403, R579): at its next period the live duty takes
the shadow, held to 100 %, and 100 % in a freeze, in a reset of HUB and before the image; a tach without a capture within
STALL shows 0 rpm and STALL. -/
def Obligations.GroupReleaseAndFans : Prop :=
  (∀ s : State, s.body.hubDown = false →
    (∀ atTime, s.body.rd .tbRelctlBusy = 0 →
      (s.body.relSelected.isEmpty = false → Runs (.timerReleaseGo atTime) s fun t =>
        t.body.rd .tbRelctlBusy = 1 ∧ t.body.rd .tbRelctlAtTime = bit atTime ∧ t.body.tmr.relWait = atTime ∧
        t.body.tmr.rel.map (·.2) = s.body.relSelected) ∧
      (s.body.relSelected.isEmpty = true → Becomes (.timerReleaseGo atTime) s
        ((s.body.wr .tbRelctlAtTime 0 (bit atTime)).wr .tbRelctlDone 0 1))) ∧
    (∀ j i rest, s.body.tmr.rel = (j, i) :: rest → s.body.rd .tbRelctlBusy = 1 → s.body.tmr.relWait = false →
      RunsAt .timerReleaseStart s (j * 1000) fun t =>
        t.body.rd .tmrCntCount i = 0 ∧ t.body.rd .tmrCtrlRun i = 1 ∧ t.body.rd .tmrCtrlHit i = 0 ∧ t.body.tmr.rel = rest ∧
        (rest = [] → t.body.rd .tbRelctlBusy = 0 ∧ t.body.rd .tbRelctlDone = 1))) ∧
  (∀ (k : Fin 8) (s : State), s.body.hubDown = false →
    BecomesAt (.fanPwmReload k) s (fanReload s.time.elapsed k) (s.body.wr .fanStatLive k
      (if s.body.fansFull then 10000 else min 10000 (s.body.rd .fanDutyDuty k))) ∧
    (s.body.flag .fanCfgTachEn k = true → s.body.flag .fanStatStall k = false →
      BecomesAt (.fanStall k) s ((s.body.tach k).t + max 1 (s.body.rd .fanCfgStall k) * 100000000)
        (((s.body.wr .fanSpeedRpm k 0).wr .fanStatStall k 1).wr .fanStatStallSeen k 1)))

/-! ### The recorder (chapter 11) -/

/-- Trend blocks and stripes (R14, R423, R424, R426): a block joins the trend held, with the words received and then the
module word; a full stripe leaves to the next device in turn. Ledger blocks and checkpoints (R427, R432, R433): a block closes
at the next whole second; it enters the stream and NEXTBLK counts once every increment of an interval that ended by then has
come, and waits until then, or behind a checkpoint that is due; that checkpoint counts CKPT_NO and starts the next span of
blocks, and one without a signature sets SIGN_FAIL. -/
def Obligations.TrendAndLedger : Prop :=
  (∀ s : State, s.body.drives = true → s.body.hubDown = false → s.body.flag .recStatBasketDown = false →
    (s.body.doze = false → s.body.rcd.dropFrom = none →
      s.body.trendUnits + (s.body.blockWords.length + 2) + (s.body.ledgerUnits - ledgerPart) ≤ trendPart →
      Runs .trendBlock s fun t => t.body.trendWords = [] ∧ t.body.rcd.modSeq = (s.body.rcd.modSeq + 1) % 4096 ∧
        ∃ head, t.body.rcd.trend = s.body.rcd.trend ++ head :: s.body.blockWords ++ [s.body.moduleWord s.body.blockWords]) ∧
    (∀ d, stripeUnits ≤ s.body.rcd.trend.length → s.body.writesGo = true → s.body.nextDev = some d →
      RunsAt .trendStripeWrite s s.body.rcd.burstEnd fun t =>
        t.body.rcd.trend = s.body.rcd.trend.drop stripeUnits ∧ t.body.rcd.turn = d + 1 ∧
        (t.body.dev d).cmds.length = (s.body.dev d).cmds.length + 1)) ∧
  (∀ s : State,
    (∀ T, s.body.builds = true → s.time.count % 1000000000 ≠ 0 →
      T = s.time.elapsed + (1000000000 - s.time.count % 1000000000) →
      (s.body.rcd.blkWait = [] → s.body.rcd.ckptDue = none → s.body.sumsTo T = true → RunsAt .ledgerBlockClose s T fun t =>
        t.body.rd .recNextblkNo = (s.body.rd .recNextblkNo + 1) % 2 ^ 64 ∧ t.body.rcd.blkT0 = t.time.count ∧
        t.body.rcd.lastEnd = t.time.count ∧ t.body.rcd.blkWait = []) ∧
      (s.body.rcd.blkWait = [] → (s.body.sumsTo T = false ∨ s.body.rcd.ckptDue ≠ none) → RunsAt .ledgerBlockClose s T fun t =>
        t.body.rd .recNextblkNo = s.body.rd .recNextblkNo ∧ t.body.rcd.blkT0 = t.time.count ∧
        t.body.rcd.blkWait.map (fun w => (w.t0, w.tEnd, w.endE)) = [(s.body.rcd.blkT0, t.time.count, T)])) ∧
    (s.body.builds = false → Becomes .ledgerBlockClose s s.body) ∧
    (∀ ok off, s.body.hubDown = false → s.body.rcd.ckptDue = some off → s.body.rcd.blkWait = [] → s.body.rcd.ahead = [] → Runs (.signedCheckpoint ok) s fun t =>
      t.body.rd .recCkptnoNo = (s.body.rcd.signed + 1) % 2 ^ 64 ∧ t.body.rcd.signed = s.body.rcd.signed + 1 ∧
      t.body.rcd.ckptDue = none ∧ t.body.rcd.ckptFirst = s.body.rd .recNextblkNo - 1 + 1 ∧
      (ok = false → t.body.rd .recStatSignFail = 1)) ∧
    (s.body.rcd.ckptDue = none → ∀ ok, Becomes (.signedCheckpoint ok) s s.body))

/-- Ledger pages and captures go to the devices (R431, R436): where units wait, a page of them goes to every device that takes
writes and has room in its queue; the oldest capture that has ended goes to one pool, in two writes where it runs over the
ring's end; FLUSH ends with a Flush to every device that takes writes (R426). Commands of a device (R418, R440): a success
removes one of those issued, and which of several completes first is free; a first error repeats the command; 1 s after the
oldest was issued the controller is reset and every outstanding command starts anew; the health log is published, at the
device's next reading, 60 s after the one before. -/
def Obligations.DeviceWork : Prop :=
  (∀ s : State, s.body.writesGo = true →
    (s.body.role ≠ .standby → 0 < s.body.streamUnits → s.body.targets.isEmpty = false → s.body.rcd.ready = true →
      (∀ d ∈ s.body.targets, (s.body.dev d).room 1 = true) →
      RunsAt .ledgerPageWrite s s.body.rcd.burstEnd fun t =>
        t.body.rd .recLpagePages = (s.body.rcd.pseq + 1) % 2 ^ 64 ∧
        ∀ d ∈ s.body.targets, (t.body.dev d).cmds.length = (s.body.dev d).cmds.length + 1) ∧
    (∀ i d, s.body.rcd.caps.findIdx? Cap.whole = some i → s.body.drives = true → s.body.flag .recStatBasketDown = false →
      s.body.poolDev = some d → RunsAt .capdataWrite s s.body.rcd.burstEnd fun t =>
        t.body.rcd.caps = s.body.rcd.caps.eraseIdx i ∧
        ∀ c lba, s.body.rcd.caps[i]? = some c → lba = (s.body.dev d).poolLba →
          (t.body.dev d).cmds.length = (s.body.dev d).cmds.length +
            (poolParts lba ((c.pages d lba s.body.rcd.poolPseq).length / 256)).length) ∧
    (Runs .recorderFlush s fun t => ∀ d ∈ s.body.targets, (t.body.dev d).cmds.getLast?.map DevCmd.work = some .flush)) ∧
  (∀ (d : Fin 2) (s : State), s.body.hubDown = false →
    ((s.body.dev d).cmds ≠ [] → (∀ x ∈ (s.body.dev d).cmds, x.parked = false) →
      dropCopies (s.body.dev d).cmds = (s.body.dev d).cmds → Runs (.nvmeCommandComplete d true) s fun t =>
        ∃ i, i < (s.body.dev d).cmds.length ∧ (t.body.dev d).cmds = (s.body.dev d).cmds.eraseIdx i) ∧
    (∀ c, (s.body.dev d).cmds = [c] → c.parked = false → c.again = false → (s.body.dev d).errs = [] → s.body.devSt d ≠ 8 →
      Runs (.nvmeCommandComplete d false) s fun t =>
        (t.body.dev d).cmds = [{ c with again := true, t := s.time.elapsed, parked := !s.body.writesGo }] ∧
        (t.body.dev d).errs = [s.time.elapsed]) ∧
    (∀ c rest, (s.body.dev d).cmds = c :: rest → (∀ x ∈ c :: rest, x.parked = false ∧ c.t ≤ x.t) →
      RunsAt (.nvmeCommandTimeout d true) s (c.t + 1000000000) fun t =>
        (t.body.dev d).cmds.length = (s.body.dev d).cmds.length ∧ (∀ x ∈ (t.body.dev d).cmds, x.t = t.time.elapsed) ∧
        t.body.rd .recDeverrResets d = min (s.body.rd .recDeverrResets d + 1) (2 ^ 16 - 1)) ∧
    (∀ crit pct temp T, s.body.smartReads d = true → T = (s.body.dev d).smartT → BecomesAt (.smartPoll d crit pct temp) s T
      ((((s.body.wr .recDevstatCritWarn d crit).wr .recDevhlthPctUsed d pct).wr .recDevhlthTemp d temp).onDev d fun v =>
        { v with smartT := s.time.elapsed + (T - s.time.elapsed) + 60000000000 })) ∧
    (∀ crit pct temp, s.body.smartReads d = false → Becomes (.smartPoll d crit pct temp) s s.body))

/-- Devices come and go (R419, R437 to R439, R442, R448, R597): a new device, not before its PERST_N is released, is refused
with its code, PROBING until the recorder is ready, foreign, blank, or joins; a removed one is ABSENT with no command; EJECT
and PREPARE, which wait under a hold on writes, CANCEL, and the end of a resilver once what is left of it has been copied at
100 MB/s. The read window (R446): GO starts a read unless one is in progress; its end fills RDBUF, with the words read or the
module's own certificate, and sets DONE, or sets ERR. The recorder starts, once the module has its role (R450), and restarts
(R330, R333, R430, R441, R443): an accumulator takes the value found, on top of the increments accepted since the module
started, unless it has one already; the origin is the newest checkpoint of the ledger found, the ledger's last block without
one, a checkpoint of another ledger or nothing at all; the next block follows the newer of the two, and the time since the
value found is unmetered. Basket's return writes its gaps. -/
def Obligations.Devices : Prop :=
  (∀ (d : Fin 2) (s : State), s.body.hubDown = false →
    (∀ j T, s.body.devSt d = 0 → T = (if d.val = 0 then s.body.rcd.perst.1 else s.body.rcd.perst.2) →
      (devRefuse j ≠ 0 → RunsAt (.deviceLinkUp d j) s T fun t =>
        t.body.devSt d = 9 ∧ t.body.rd .recDevstatRefuse d = devRefuse j) ∧
      (devRefuse j = 0 → s.body.rcd.ready = false → RunsAt (.deviceLinkUp d j) s T fun t => t.body.devSt d = 1) ∧
      (devRefuse j = 0 → s.body.rcd.ready = true → j.label ≠ 0 → j.label ≠ s.body.rd .recLedgerIdId →
        RunsAt (.deviceLinkUp d j) s T fun t => t.body.devSt d = 3) ∧
      (devRefuse j = 0 → s.body.rcd.ready = true → j.label = 0 → s.body.flag .recCtrlAutoPrepare = false →
        RunsAt (.deviceLinkUp d j) s T fun t => t.body.devSt d = 2) ∧
      (devRefuse j = 0 → s.body.rcd.ready = true → j.label ≠ 0 → j.label = s.body.rd .recLedgerIdId →
        s.body.devOn (1 - d) = false → RunsAt (.deviceLinkUp d j) s T fun t => t.body.devSt d = 4)) ∧
    (s.body.devSt d ≠ 0 → Runs (.deviceLinkLoss d) s fun t => t.body.devSt d = 0 ∧ (t.body.dev d).cmds = []) ∧
    ((s.body.devSt d = 4 ∨ s.body.devSt d = 5) → Runs (.deviceEject d) s fun t => t.body.devSt d = 6 ∧
      (s.body.writesGo = true → (t.body.dev d).cmds.getLast?.map DevCmd.work = some .flush) ∧
      (s.body.writesGo = false → (t.body.dev d).ejectDue = true)) ∧
    ((s.body.devSt d = 2 ∨ s.body.devSt d = 3) → s.body.unlocked 8 = true →
      (s.body.writesGo = true → Runs (.devicePrepare d) s fun t =>
        t.body.devSt d = (if s.body.devOn (1 - d) = true ∧ 0 < s.body.rcd.pages then 5 else 4) ∧
        (t.body.dev d).label = s.body.rd .recLedgerIdId) ∧
      (s.body.writesGo = false → Becomes (.devicePrepare d) s (s.body.onDev d fun v => { v with prepDue := true }))) ∧
    (s.body.devSt d = 5 → Becomes (.deviceCancel d) s
      (s.body.onDev d fun v => { v with prepDue := false, idle := true, cmds := dropCopies v.cmds })) ∧
    (s.body.resilvers d = true → RunsAt (.resilverDone d) s (s.time.elapsed + s.body.copyNs d) fun t =>
      t.body.devSt d = 4 ∧ t.body.rd .recDevstatResilverPct d = 100 ∧
      (t.body.dev d).lacks = max (s.body.dev d).lacks (s.body.dev d).copyTo)) ∧
  (∀ s : State, s.body.hubDown = false →
    (∀ src half, s.body.flag .recRdctlBusy = false → Becomes (.recorderReadGo src half) s
      (((s.body.wr .recRdctlSrc 0 (src % 4)).wr .recRdctlHalf 0 (half % 2)).wr .recRdctlBusy 0 1)) ∧
    (∀ src half, s.body.flag .recRdctlBusy = true → Becomes (.recorderReadGo src half) s s.body) ∧
    (∀ ok (data : List Word), s.body.flag .recRdctlBusy = false → Becomes (.recorderReadDone ok data) s s.body) ∧
    (∀ ok (data : List Word), s.body.flag .recRdctlBusy = true →
      ((s.body.readFails = true ∨ ok = false) → Becomes (.recorderReadDone ok data) s
        ((s.body.wr .recRdctlBusy 0 0).wr .recRdctlErr 0 1)) ∧
      (s.body.readFails = false → ok = true → Runs (.recorderReadDone ok data) s fun t =>
        t.body.rd .recRdctlBusy = 0 ∧ t.body.rd .recRdctlDone = 1 ∧
        ∀ j, j < 512 → t.body.rd .recRdbufBytes j = (s.body.readWords data).getD j 0 % 2 ^ 32 ∧
          (s.body.rd .recRdctlSrc ≠ 2 → t.body.rd .recRdbufBytes j = (data.getD j 0).toNat)))) ∧
  (∀ s : State, s.body.hubDown = false →
    (s.body.rcd.ready = false → s.body.role ≠ .starting → s.body.rcd.ahead = [] →
      (newestCkpt (fun _ => true) s.body.mtr.ckpts = none → Runs (.recorderStart none) s fun t =>
        (∀ n, n < 128 → t.body.rd .energyAcc n = s.body.rd .energyAcc n % 2 ^ 128) ∧
        t.body.rd .energyStatOriginUnverified = 1 ∧ t.body.rd .recNextblkNo = 0 ∧ t.body.rcd.ready = true) ∧
      (∀ c, newestCkpt (fun _ => true) s.body.mtr.ckpts = some c → Runs (.recorderStart none) s fun t =>
        (∀ n, n < 128 → n ∉ s.body.mtr.origin →
          t.body.rd .energyAcc n = (s.body.rd .energyAcc n + sparseGet 0 c.acc n) % 2 ^ 128) ∧
        (∀ n, n < 128 → n ∈ s.body.mtr.origin → t.body.rd .energyAcc n = s.body.rd .energyAcc n % 2 ^ 128) ∧
        t.body.rd .energyStatOriginUnverified = 1 ∧ t.body.rd .recNextblkNo = (c.blk + 1) % 2 ^ 64 ∧
        (s.body.role ≠ .standby → s.body.mtr.firstInc = none → t.body.mtr.unmet.getLast?.map Unmet.t0 = some c.time)) ∧
      (∀ f, newestCkpt (fun c => c.ledger = f.id) s.body.mtr.ckpts = none → Runs (.recorderStart (some f)) s fun t =>
        (∀ n, n < 128 → n ∉ s.body.mtr.origin →
          t.body.rd .energyAcc n = (s.body.rd .energyAcc n + f.acc.getD n 0) % 2 ^ 128) ∧
        t.body.rd .energyStatOriginLedger = 1 ∧ t.body.rd .recNextblkNo = (f.blk + 1) % 2 ^ 64 ∧
        (s.body.role ≠ .standby → s.body.mtr.firstInc = none → t.body.mtr.unmet.getLast?.map Unmet.t0 = some f.time)) ∧
      (∀ f c, newestCkpt (fun c => c.ledger = f.id) s.body.mtr.ckpts = some c → Runs (.recorderStart (some f)) s fun t =>
        (∀ n, n < 128 → n ∉ s.body.mtr.origin →
          t.body.rd .energyAcc n = (s.body.rd .energyAcc n + sparseGet 0 c.acc n) % 2 ^ 128) ∧
        t.body.rd .recNextblkNo = max (f.blk + 1) (c.blk + 1) % 2 ^ 64)) ∧
    (s.body.rcd.ready = true → ∀ f, Becomes (.recorderStart f) s s.body) ∧
    (s.body.flag .recStatBasketDown = true → Runs .basketReinit s fun t =>
      t.body.rd .recStatBasketDown = 0 ∧ t.body.rd .recStatGapSeen = 1))

/-! ### Module health (chapter 17) and doze -/

/-- Readings (R339, R575 to R578): a reading that finds a level at two consecutive readings of a sensor that is due puts it in
force; a round publishes what the sensors due have read, at the next whole millisecond while some sensor is fast and else at
the next 100 ms, when all are due; the reference cell within ±0.1 °C starts its 15 min and clears HEATER_FAULT, and outside it
ends them. AUX12 (R582 to R584): falling below the warning level brings brace with an energy checkpoint; 10 ms after it has
risen again brace ends and RECOVERY lasts 10 s; the measurement keeps the lowest value; below its reset level HUB is in reset
and no die is joined. Watchdogs and operating hours (R471, R586, R587): HUB's watchdog puts HUB into reset 10 ms of CLK_HUB,
whose rate is free within ±2 % (assumption log 216), after the last budget cycle; a die's counts and resets the die under its
next epoch, and while HUB is in reset the die resets and HUB's registers stay; an operating hour counts, and its steering word
is saved. -/
def Obligations.Health : Prop :=
  (∀ (ts : List Nat) (cell : Int) (s : State), s.body.hubDown = false →
    (s.body.fastRead = false → RunsAt (.tempReading ⟨ts, cell⟩) s (nextMultiple s.time.elapsed 100000000) fun t =>
      ∀ i, i < 11 → t.body.rd .healthTempT i = ts.getD i 0 % 4096) ∧
    (cell.natAbs ≤ 100 → Runs (.tempReading ⟨ts, cell⟩) s fun t =>
      t.body.rd .metaRefstatHeaterFault = 0 ∧ t.body.mtr.cellFar = none ∧
      t.body.mtr.cellT = some (s.body.mtr.cellT.getD t.time.elapsed)) ∧
    (100 < cell.natAbs → Runs (.tempReading ⟨ts, cell⟩) s fun t => t.body.mtr.cellT = none ∧
      t.body.mtr.cellFar = if 500 < cell.natAbs then some (s.body.mtr.cellFar.getD t.time.elapsed) else none) ∧
    (s.body.fastRead = true → RunsAt (.tempReading ⟨ts, cell⟩) s (nextMultiple s.time.elapsed 1000000) fun t =>
      (∀ i, i < 11 → s.body.fastSensor i = true → t.body.rd .healthTempT i = ts.getD i 0 % 4096) ∧
      (∀ i, i < 11 → s.body.fastSensor i = false → nextMultiple s.time.elapsed 1000000 % 100000000 ≠ 0 →
        t.body.rd .healthTempT i = s.body.rd .healthTempT i % 4096) ∧
      (s.body.health.lvl ≠ 4 → (∃ i, i < 11 ∧ s.body.fastSensor i = true ∧ 2880 ≤ s.body.rd .healthTempT i ∧ 2880 ≤ ts.getD i 0 % 4096) →
        t.body.health.lvl = 4 ∧ t.body.rd .healthStatLevel = 3 ∧ t.body.rd .healthStatFactor = 2))) ∧
  (∀ s : State, s.body.hubDown = false →
    (s.body.flag .healthStatBrace = false → Runs .braceEnter s fun t =>
      t.body.rd .healthStatBrace = 1 ∧ t.body.rd .healthStatVauxWarn = 1 ∧ t.body.mtr.written = s.body.mtr.written + 1) ∧
    (s.body.flag .healthStatBrace = false → Becomes .aux12WarnRise s s.body) ∧
    (s.body.flag .healthStatBrace = true →
      Becomes .aux12WarnRise s (s.body.onHealth fun h => { h with riseT := some s.time.elapsed })) ∧
    (∀ T, s.body.health.riseT = some T → RunsAt .braceEnd s (T + 10000000) fun t =>
      t.body.rd .healthStatBrace = 0 ∧ t.body.health.riseT = none ∧
      t.body.tmr.recovEnd = max s.body.tmr.recovEnd (t.time.elapsed + 10000000000)) ∧
    (∀ v, BecomesAt (.aux12Measurement v) s (nextMultiple s.time.elapsed 1000000)
      (((s.body.wr .healthAuxV 0 (v % 2 ^ 16)).wr .healthAuxMin 0 (min (s.body.rd .healthAuxMin) (v % 2 ^ 16))).onHealth fun h =>
        { h with braceMin := min h.braceMin (v % 2 ^ 16) })) ∧
    (Runs .aux12Reset s fun t => t.body.hubDown = true ∧ t.body.health.auxOff = true ∧
      ∀ k, k < 8 → (t.body.fe k).joined = false ∧ (t.body.fe k).keep = true)) ∧
  (∀ s : State,
    (s.body.hubDown = false → s.body.doze = false → s.body.cycles = true →
      RunsAt .hubWatchdog s (s.body.bud.lastCycle + hubTime 10000000 s.body.free.1) fun t =>
        t.body.hubDown = true ∧ t.body.health.wdPend = true ∧ t.body.boot.downT = t.time.elapsed) ∧
    (∀ k : DieIx, s.body.hubDown = false → Runs (.dieWatchdog k) s fun t =>
      t.body.rd .healthWdcntFe = min (s.body.rd .healthWdcntFe + 1) (2 ^ 16 - 1) ∧ (t.body.fe k).joined = false ∧
      t.body.rd .twinDieEpoch k = (s.body.rd .twinDieEpoch k + 1) % 16) ∧
    (∀ k : DieIx, s.body.hubDown = true → Runs (.dieWatchdog k) s fun t =>
      (t.body.fe k).joined = false ∧ (t.body.fe k).keep = true ∧ ∀ f i, t.body.rd f i = s.body.rd f i) ∧
    (s.body.hubDown = false → s.body.health.auxOff = false → RunsAt .operatingHour s (s.body.health.hourT + 3600000000000) fun t =>
      t.body.rd .healthOphoursHours = (s.body.rd .healthOphoursHours + 1) % 2 ^ 32 ∧
      t.body.disc.saved = s.body.rd .tbFreqSteer ∧ t.body.health.hourT = t.time.elapsed))

/-- Resets of a die (R45, R69, R471, R472): a reset takes the next epoch, marks the die down, keeps its gates and holds the
channels that its leaders run; a rejoin ends gate keep and clears DOWN; a die that has not rejoined after 5 ms is stuck; a
failed clock of a die resets it. Gate keep (R461): 20 µs without a marker while PAIRED every live gate of the die keeps its
charge; its end by time leaves the drivers high-impedance. -/
def Obligations.DieResets : Prop :=
  (∀ (k : DieIx) (s : State), s.body.hubDown = false →
    (∀ i, (i = Instr.dieReset k ∨ i = .clockFail (.fe k)) → Runs i s fun t =>
      (t.body.fe k).joined = false ∧ (t.body.fe k).keep = true ∧ t.body.rd .twinDieDown k = 1 ∧
      t.body.rd .twinDieEpoch k = (s.body.rd .twinDieEpoch k + 1) % 16 ∧
      (∀ n, n < 128 → dieOf n = k → (s.body.en n).gate.live = true → (t.body.en n).gate = .keep) ∧
      (s.body.orch = true → ∀ n, n < 128 → dieOf n = k → s.body.leadOf n = n → (s.body.ch n).state = .on →
        (t.body.ch n).state = .held ∧ (t.body.ch n).prior = .on ∧ (t.body.ch n).reason = 0x33)) ∧
    ((s.body.fe k).joined = false → s.body.health.auxOff = false → Runs (.dieRejoin k) s fun t =>
      (t.body.fe k).joined = true ∧ (t.body.fe k).keep = false ∧ (t.body.fe k).resetT = none ∧
      t.body.rd .twinDieDown k = 0) ∧
    (∀ T, (s.body.fe k).resetT = some T → (s.body.fe k).stuckT = none →
      RunsAt (.dieRejoinTimeout k) s (T + 5000000) fun t => (t.body.fe k).stuckT = some t.time.elapsed) ∧
    (∀ T U, (s.body.fe k).resetT = some T → (s.body.fe k).stuckT = some U → s.body.drives = true →
      RunsAt (.dieRejoinTimeout k) s (U + 50000000) fun t =>
        t.body.rd .twinDieEpoch k = (s.body.rd .twinDieEpoch k + 1) % 16 ∧ (t.body.fe k).stuckT = some t.time.elapsed)) ∧
  (∀ (k : DieIx) (s : State),
    (s.body.paired = true → (s.body.fe k).keep = false →
      RunsAt (.markerLoss k) s ((s.body.fe k).markT + 20000) fun t =>
        (t.body.fe k).keep = true ∧ (t.body.fe k).keepEnd = some (t.time.elapsed + 100000) ∧
        ∀ n, n < 128 → dieOf n = k →
          (t.body.en n).gate = if (s.body.en n).gate.live then .keep else (s.body.en n).gate) ∧
    (∀ T, (s.body.fe k).keepEnd = some T → (s.body.fe k).keep = true → RunsAt (.gateKeepEnd k) s T fun t =>
      (t.body.fe k).keep = false ∧ ∀ n, n < 128 → dieOf n = k → (t.body.en n).gate = .hiZ))

/-- Other clocks (R45, R387, R441): CLK_TB failing brings CLOCK_FAIL; PCIe's loses both devices; Basket's loses what it held.
HUB and its clock (R44, R480, R567): without CLK_HUB, HUB is in reset and the pin is released; a restart clears every unlock
and starts RECOVERY, and a module of a pair starts again with its gates high-impedance. -/
def Obligations.ClocksAndHub : Prop :=
  (∀ s : State, s.body.hubDown = false →
    (Runs (.clockFail .tb) s fun t => t.body.rd .modClkmonTbFail = 1 ∧ t.body.rd .tbStatState = 4) ∧
    (Runs (.clockFail .pcie) s fun t => t.body.rd .modClkmonPcieFail = 1 ∧ t.body.devSt 0 = 0 ∧ t.body.devSt 1 = 0) ∧
    (Runs (.clockFail .basket) s fun t => t.body.rd .modClkmonBasketFail = 1 ∧ t.body.rd .recStatBasketDown = 1)) ∧
  (∀ s : State,
    (s.body.hubDown = false → Runs .hubClockLoss s fun t =>
      t.body.hubDown = true ∧ t.body.boot.downT = s.time.elapsed ∧ t.body.alertLow = false ∧ t.body.role = s.body.role) ∧
    (s.body.hubDown = true → Becomes .hubClockLoss s s.body) ∧
    (s.body.hubDown = true → s.body.health.auxOff = false → ∀ bytes,
      (Runs (.hubRestart bytes) s fun t => t.body.hubDown = false ∧ t.body.boot.unlockEnd = none) ∧
      ((s.body.role = .active ∨ s.body.role = .standby ∨ s.body.role = .starting) → Runs (.hubRestart bytes) s fun t =>
        t.body.role = .starting ∧ t.body.twin.txT = some s.time.elapsed ∧ t.body.twin.heard = false ∧
        t.body.rd .modClkmonHubRestart = 1 ∧ t.body.rd .modExpertUnlock = 0 ∧ t.body.rd .twinStatPairAddr = 0 ∧
        t.body.rd .twinStatHbOk = 0 ∧ t.body.rd .twinStatPartnerRole = 15 ∧ t.body.rd .twinStatSeamRun = 0 ∧
        t.body.tmr.recovEnd = s.time.elapsed + 10000000000 ∧ ∀ n, (t.body.en n).gate = .hiZ) ∧
      (s.body.role = .solo → Runs (.hubRestart bytes) s fun t => t.body.role = .solo)))

/-- Doze (R51, R52, R299, R343, R557): a request is accepted where every channel lets the module doze, and refused otherwise;
the entry stops the converters; a scan converts OUT of the die's channels, each through its slice and the correction chain
(R268), 10 ms after its last; a wake event ends it, and the reference is not valid until it has settled again. -/
def Obligations.Doze : Prop :=
  ∀ s : State, s.body.hubDown = false →
    (s.body.doze = false → s.body.dozeOk = true →
      Becomes .dozeRequest s { s.body with dozeReq := some s.time.elapsed }) ∧
    (s.body.doze = false → s.body.dozeOk = false → Becomes .dozeRequest s (s.body.wr .modCtrlDozeRefused 0 1)) ∧
    (s.body.dozeReq ≠ none → s.body.dozeOk = true → Runs .dozeEnter s fun t =>
      t.body.doze = true ∧ t.body.dozeReq = none ∧ ∀ k, k < 8 → t.body.drd k .feCvstatLp k = 1) ∧
    (∀ (k : DieIx) outs, s.body.doze = true → s.body.dieOff k = false →
      RunsAt (.dozeScan k outs) s ((s.body.fe k).lastB + 10000000) fun t =>
        ∀ n, n < 128 → dieOf n = k → (t.body.en n).out = loopResult (satExt
          ((s.body.onDie k fun d => { d with lfsr := Nat.repeat lfsrNext (n % 16) d.lfsr }).slice k (s.body.sliceB k (n % 16))
            (outs.getD (n % 16) 0)).1)) ∧
    (∀ w, (∀ n : ChIx, w ≠ .seat n) → s.body.doze = true → Runs (.dozeWake w) s fun t =>
      t.body.doze = false ∧ t.body.rd .metaRefstatValid = 0 ∧ t.body.rd .metaRefdevDev = 0x80000000 ∧
      ∀ k, k < 8 → t.body.rd .metaRefdieDev k = 0x80000000) ∧
    (∀ n : ChIx, s.body.doze = true → (s.body.ch n).seatRaw = false → Runs (.dozeWake (.seat n)) s fun t =>
      t.body.doze = false ∧ (t.body.ch n).seatRaw = true)

/-! ### The feeder port (chapter 14) -/

/-- Reads of a feeder and of a battery unit (R514 to R518, R528). Discovery: no acknowledge three times, or a mode other than
ULINEAR16, ends in REFUSED; an answer is taken. A status read is taken at its due time: a condition found is the state; two
reads without one bring ONLINE; the third failure in a row brings COMM_LOST, and COMM_HOLD later the feeder's capacity no
longer counts. -/
def Obligations.FeederReads : Prop :=
  ∀ (f : Fin 12) (s : State),
    (s.body.fpRuns = true → s.body.fdSt f = 1 → (s.body.fd f).known = false →
      ((s.body.fd f).tries < 2 → Runs (.feederDiscovery f .nack) s fun t =>
        (t.body.fd f).tries = (s.body.fd f).tries + 1 ∧ t.body.fdSt f = 1) ∧
      ((s.body.fd f).tries = 2 → Runs (.feederDiscovery f .nack) s fun t =>
        t.body.fdSt f = 6 ∧ t.body.rd .fdrStateRefuse f = 2) ∧
      (∀ mode vout word input, bits mode 7 5 ≠ 0 → Runs (.feederDiscovery f (.done (mode, vout, word, input))) s fun t =>
        t.body.fdSt f = 6 ∧ t.body.rd .fdrStateRefuse f = 1) ∧
      (∀ mode vout word input, bits mode 7 5 = 0 → Runs (.feederDiscovery f (.done (mode, vout, word, input))) s fun t =>
        (t.body.fd f).known = true ∧ t.body.fdExp f = toSigned 5 mode ∧ t.body.rd .fdrVcmdSent f = vout % 2 ^ 16 ∧
        t.body.rd .fdrStateStatus f = word % 2 ^ 16)) ∧
    (s.body.fdReads f = true →
      (∀ w i, RunsAt (.fpStatusRead f (.done (w, i))) s (s.body.fd f).statDue fun t =>
        t.body.rd .fdrStateStatus f = w % 2 ^ 16 ∧ (∀ st, fdCond (w % 2 ^ 16) i = some st → t.body.fdSt f = st) ∧
        (fdCond (w % 2 ^ 16) i = none → s.body.fdSt f = 2 ∨ 1 ≤ (s.body.fd f).okRun → t.body.fdSt f = 2)) ∧
      RunsAt (.fpStatusRead f .nack) s (s.body.fd f).statDue fun t =>
        (t.body.fd f).fails = (s.body.fd f).fails + 1 ∧ (2 ≤ (s.body.fd f).fails → t.body.fdSt f = 3)) ∧
    (s.body.fpRuns = true → s.body.doze = false → s.body.fdSt f = 2 → ∀ v i c p,
      RunsAt (.fpTelemetryRead (.feeder f (.done (v, i, c, p)))) s (s.body.fd f).teleDue fun t =>
        t.body.rd .fdrVoutVout f = min 0xFFFF (fracRound (voutValue (s.body.fdExp f) (v % 2 ^ 16)) twoMv) ∧
        t.body.rd .fdrTempTemp f = satTemp (linear11 16 c + 880) ∧ (t.body.fd f).tempT = some t.time.elapsed) ∧
    (s.body.fpRuns = true → s.body.doze = false → ∀ u : Fin 2, s.body.rd .bbuCfgAddr u ≠ 0 → ∀ w,
      RunsAt (.fpTelemetryRead (.bbu u (some w))) s (pairGet s.body.fdr.bbuDue u) fun t =>
        t.body.rd .bbuStatStatus u = w % 2 ^ 16 ∧ t.body.rd .bbuStatCommLost u = 0) ∧
    (s.body.fdSt f = 3 → s.body.hubDown = false →
      RunsAt (.feederCommHoldExpire f) s ((s.body.fd f).commT + s.body.rd .feederPollCommHold * 100000000) fun t =>
        (t.body.fd f).expired = true ∧ t.body.fdCounts f = false)

/-- Writes to a feeder (R518, R522, R523, R525): at a step instant VOUT_COMMAND follows the reference; a loss of arbitration
counts and RETRIES repeats follow; an interrupted write whose read-back agrees has been done; a bus that stays hung is
flagged. Balancing and the pins of a battery unit (R520, R526): an update leaves every trim of the set within TRIM_MAX and the
others as they were, and fewer than two feeders move none; a sensed code is shown, and one that is not the driven one is a
mismatch. -/
def Obligations.FeederWrites : Prop :=
  (∀ (f : Fin 12) (s : State), s.body.fpRuns = true →
    (s.body.doze = false → s.body.fdSt f = 2 →
      RunsAt (.fpStepWrite f (.done ())) s (ceilDiv s.time.elapsed s.body.stepNs * s.body.stepNs) fun t =>
        t.body.rd .fdrVcmdSent f =
          s.body.stepCode (s.goTo (ceilDiv s.time.elapsed s.body.stepNs * s.body.stepNs)).env f) ∧
    (∀ k : FpKind, s.body.fdr.losses < s.body.rd .feederFpcfgRetries → Becomes (.fpArbLost f k) s
      ((s.body.bump .feederFpcntArbLost).onFp fun p => { p with losses := p.losses + 1 })) ∧
    (s.body.rd .feederFpcfgRetries ≤ s.body.fdr.losses → Becomes (.fpArbLost f .read) s
      (((s.body.bump .feederFpcntArbLost).bump .fdrErrFail f).onFp fun p => { p with losses := 0 })) ∧
    (∀ (k : FpKind) back again, k ≠ .write → s.body.fdr.losses < s.body.rd .feederFpcfgRetries → Becomes (.arbCond f k back again) s
      ((s.body.bump .feederFpcntArbCond).onFp fun p => { p with losses := p.losses + 1 })) ∧
    (∀ v again, v % 2 ^ 16 = s.body.stepCode s.env f → Runs (.arbCond f .write (.done v) again) s fun t =>
      t.body.rd .fdrVcmdSent f = v % 2 ^ 16 ∧ t.body.rd .fdrErrFail f = s.body.rd .fdrErrFail f) ∧
    Runs (.arbCond f .write .nack .nack) s (fun t =>
      t.body.rd .fdrErrNack f = min (s.body.rd .fdrErrNack f + 1) (2 ^ 16 - 1) ∧ t.body.rd .fdrErrFail f = min (s.body.rd .fdrErrFail f + 1) (2 ^ 16 - 1)) ∧
    Runs (.fpHangRecovery .sdaLow) s (fun t => t.body.rd .feederStatFpHung = 1) ∧
    Runs (.fpHangRecovery .sclLow) s (fun t => t.body.rd .feederStatSclStuck = 1) ∧
    Runs (.fpHangRecovery .recovered) s (fun t =>
      t.body.rd .feederFpcntRecover = min (s.body.rd .feederFpcntRecover + 1) (2 ^ 8 - 1))) ∧
  (∀ s : State,
    (s.body.flag .feederBalBalEn = true → s.body.balSusp = false → s.body.fpRuns = true → s.body.doze = false →
      RunsAt .balanceUpdate s (s.body.fdr.balT + max 1 (s.body.rd .feederBalBalPeriod) * 1000000000) fun t =>
        t.body.fdr.balT = t.time.elapsed ∧
        (∀ f ∈ s.body.balSet t.env, 2 ≤ (s.body.balSet t.env).length →
          ((t.body.fd f).trim).natAbs ≤ s.body.rd .feederBalTrimMax * 10 * 65536) ∧
        (∀ f, f < 12 → f ∉ s.body.balSet t.env ∨ (s.body.balSet t.env).length < 2 →
          (t.body.fd f).trim = (s.body.fd f).trim)) ∧
    (∀ (u : Fin 2) (c : Fin 4), s.body.bbuDrives = false ∨ s.body.rd .bbuStatDriven u = c →
      Becomes (.bbuPinMismatch u c) s (s.body.wr .bbuStatSensed u c)) ∧
    (∀ (u : Fin 2) (c : Fin 4), s.body.bbuDrives = true → s.body.rd .bbuStatDriven u ≠ c →
      Becomes (.bbuPinMismatch u c) s ((s.body.wr .bbuStatSensed u c).wr .bbuStatMismatch u 1)))

/-! ### Twin operation (chapter 12) -/

/-- A heartbeat (R451, R455, R457): its role and readiness show. A SOLO module becomes ACTIVE when its partner is a ready
STANDBY, an ACTIVE module SOLO when it leaves, its channels held for a Seam no longer; a seated STARTING module below its
shutdown level joins a SOLO or ACTIVE partner as STANDBY and, in slot 0, is SOLO beside a STARTING one; the count of a STANDBY
module follows. Loss of the partner (R451, R455, R464, R466): 25 µs after the last heartbeat an ACTIVE module is SOLO; a ready
STANDBY takes over as SOLO and leaves the pair address as it is, the pair pointers invalid (R547); one that is not ready
starts again. A heartbeat that is lost already is not lost again. The host writes that the partner had accepted and forwarded
act then, in their order. -/
def Obligations.Partner : Prop :=
  (∀ (h : Heartbeat) (s : State), s.body.hubDown = false →
    (s.body.twin.heldWrites = [] → Runs (.bluliHeartbeat h) s fun t =>
      t.body.rd .twinStatHbOk = 1 ∧ t.body.rd .twinStatPartnerRole = h.role.code ∧
      t.body.rd .twinStatPartnerReady = bit h.ready ∧ t.body.twin.hbT = some s.time.elapsed) ∧
    (s.body.role = .solo → h.role = .standby → h.ready = true → s.body.twin.heldWrites = [] →
      Runs (.bluliHeartbeat h) s fun t => t.body.role = .active ∧ t.body.rd .twinStatRole = 2) ∧
    (s.body.role = .active → h.leaving = true → s.body.twin.heldWrites = [] → Runs (.bluliHeartbeat h) s fun t =>
      t.body.role = .solo ∧ t.body.twin.seam = none ∧ t.body.rd .twinStatSeamRun = 0) ∧
    (s.body.role = .starting → s.body.flag .twinStatSeated = true → s.body.health.lvl ≠ 4 → h.count < 2 ^ 64 →
      h.role = .solo ∨ h.role = .active →
      Runs (.bluliHeartbeat h) s fun t => t.body.role = .standby ∧ t.time.count = h.count ∧
        ∀ n, n < 128 → (t.body.en n).gate = .hiZ) ∧
    (s.body.role = .starting → s.body.flag .twinStatSeated = true → s.body.health.lvl ≠ 4 → h.role = .starting →
      s.body.rd .twinStatSlot = 0 → s.body.twin.heldWrites = [] →
      Runs (.bluliHeartbeat h) s fun t => t.body.role = .solo ∧ t.body.rd .twinStatPairAddr = 1) ∧
    (s.body.role = .standby → h.role ≠ .bench → h.role ≠ .starting → h.count < 2 ^ 64 →
      Runs (.bluliHeartbeat h) s fun t => t.body.role = .standby ∧ t.time.count = h.count)) ∧
  (∀ (T : Nat) (s : State), s.body.twin.hbT = some T → s.body.hubDown = false →
    (s.body.flag .twinStatHbOk = true → s.body.twin.heldWrites = [] →
      (RunsAt .heartbeatLoss s (T + 25000) fun t =>
        t.body.rd .twinStatHbOk = 0 ∧ t.body.rd .twinStatPartnerRole = 15 ∧ t.body.rd .twinStatPartnerReady = 0 ∧
        t.body.twin.hbT = some T) ∧
      (s.body.role = .active → RunsAt .heartbeatLoss s (T + 25000) fun t =>
        t.body.role = .solo ∧ t.body.twin.seam = none ∧ t.body.rd .twinStatSeamRun = 0) ∧
      (s.body.role = .standby → s.body.flag .twinStatReady = true →
        RunsAt .heartbeatLoss s (T + 25000) fun t =>
          t.body.role = .solo ∧ t.body.rd .twinStatTakeover = 1 ∧ t.body.rd .twinSeaminfoCause = 6 ∧
          t.body.rd .twinStatPairAddr = s.body.rd .twinStatPairAddr ∧ (∀ p, p < 2 → t.body.rd .hpStatPairValid p = 0) ∧
          t.body.rd .twinSeamcntUnplanned = min (s.body.rd .twinSeamcntUnplanned + 1) (2 ^ 16 - 1)) ∧
      (s.body.role = .standby → s.body.flag .twinStatReady = false →
        RunsAt .heartbeatLoss s (T + 25000) fun t => t.body.role = .starting)) ∧
    (s.body.flag .twinStatHbOk = true → ∃ u : State, u.time = s.time.advance (T + 25000 - s.time.elapsed) ∧ u.body.rd .twinStatHbOk = 0 ∧
      u.body.twin.heldWrites = s.body.twin.heldWrites ∧
      exec .heartbeatLoss s = .next (if u.body.drives = true ∧ u.body.passes = false then
        u.body.twin.heldWrites.foldl (fun s w => s.hostWrite w.1 w.2)
          { u with body := u.body.onTwin fun w => { w with heldWrites := [] } } else u)) ∧
    (s.body.flag .twinStatHbOk = false → Becomes .heartbeatLoss s s.body))

/-- The mirror (R320, R335, R444, R456, R458, R460, R464, R470, R476): what a STANDBY module takes of each frame, and that it
takes none while its digest differs or it has shut down; only the fields that the mirror carries are taken, and those of a
ladder's levels reload the ladders; host writes that come while a Seam is made are held, and act at once in the module that
has taken the gates; a trip report goes to the ACTIVE module and a serial to either; a staged image is checked and answered
(R509). Frames between the modules and lanes (R444, R454, R456, R460): a STANDBY module whose stream follows writes the
partner's record unchanged, and a block whose turn it is moves the chain on; else the record waits; an ACTIVE module writes
the shared records of its partner. A CRC error or a gap is counted and asks for the frames after the last one taken, and such
a request repeats them from the SEQ asked for on. Lanes come and go; an ACTIVE module's die takes its snapshots every 51.2 µs
and sends them; a hard trip of a STANDBY die starts the fast sink from high impedance, to which the gate returns, and goes to
the partner. -/
def Obligations.Mirror : Prop :=
  (∀ (n : ChIx) (x : Snap) (inc : Int) (kvs : List (Nat × Nat)) (ms : List MirrorItem) (pct : Nat) (s : State),
    (s.body.mirrors = true →
      (∀ c, (c = Instr.bluliStateChange (.fields kvs) ∨ c = .bluliConfigWrite kvs ∧ s.body.froze = false) →
        Becomes c s (s.body.rxBluli.mirrorKeys s.env kvs) ∧
        (kvs.all (fun kv => (keyFld kv.1).carried && decide (keyFld kv.1 ≠ .tbStatState)) = true →
          (kvs.any (fun kv => (keyFld kv.1).onLadder) = false → Becomes c s (s.body.rxBluli.putKeys kvs)) ∧
          (kvs.any (fun kv => (keyFld kv.1).onLadder) = true → Becomes c s (s.body.rxBluli.putKeys kvs).loadLadders)) ∧
        (kvs.any (fun kv => (keyFld kv.1).carried) = false → Becomes c s s.body.rxBluli)) ∧
      (∀ c latch, Becomes (.bluliStateChange (.chan n c latch)) s (s.body.rxBluli.loadChan s.env n c latch)) ∧
      (∀ m, (∀ j t, m ≠ .trip j t) → (∀ ws, m ≠ .serial ws) → (∀ bytes, m ≠ .staged bytes) →
        Becomes (.bluliStateChange m) s (s.body.rxBluli.mirror s.env m)) ∧
      Becomes (.bluliLoopSnapshot n x) s (s.body.rxBluli.loadSnap s.env n x) ∧
      (s.body.froze = true → Becomes (.bluliConfigWrite kvs) s
        (s.body.rxBluli.onTwin fun w => { w with heldWrites := w.heldWrites ++ kvs })) ∧
      (Runs (.bluliIncrement n inc) s fun t =>
        t.body.rd .energyAcc n = ofSigned 128 ((s.body.rd .energyAcc n : Int) + inc) ∧
        t.body.rd .energyTotalAcc = ofSigned 128 ((s.body.rd .energyTotalAcc : Int) + inc)) ∧
      (Runs (.bluliBulkSync ms pct) s fun t => t.body.rd .twinSyncPct = min 100 pct) ∧
      (Runs .bulkSyncComplete s fun t =>
        t.body.twin.synced = true ∧ t.body.boot.imaged = true ∧ t.body.rd .twinSyncPct = 100)) ∧
    (s.body.mirrors = false →
      (∀ m, (∀ j t, m ≠ .trip j t) → (∀ ws, m ≠ .serial ws) → Becomes (.bluliStateChange m) s s.body.rxBluli) ∧
      Becomes (.bluliLoopSnapshot n x) s s.body.rxBluli ∧
      (s.body.role ≠ .active ∨ s.body.twin.seamE = none ∨ s.body.twin.seam = none →
        Becomes (.bluliConfigWrite kvs) s s.body.rxBluli) ∧
      Becomes (.bluliBulkSync ms pct) s s.body.rxBluli ∧ Becomes .bulkSyncComplete s s.body ∧
      (s.body.role ≠ .active ∨ s.body.twin.seamE = none → Becomes (.bluliIncrement n inc) s s.body.rxBluli)) ∧
    (∀ ts m, s.body.role = .active → s.body.hubDown = false → s.body.twin.left = false → s.body.twin.seamE = some ts →
      s.body.twin.seam = some m → m.out = false →
      ∃ u : State, Settled s.body.rxBluli u.body ∧ u.time = s.time ∧ exec (.bluliConfigWrite kvs) s =
        .next ((s.body.twin.heldWrites ++ kvs).foldl (fun s w => s.hostWrite w.1 w.2)
          { u with body := u.body.onTwin fun w => { w with heldWrites := [] } })) ∧
    (∀ j t, (s.body.role = .active → s.body.hubDown = false → Becomes (.bluliStateChange (.trip j t)) s (s.body.rxBluli.partnerTrip s.env j t)) ∧
      (s.body.role ≠ .active → Becomes (.bluliStateChange (.trip j t)) s s.body.rxBluli)) ∧
    (∀ ws, s.body.flag .twinStatHbOk = true → s.body.hubDown = false → Runs (.bluliStateChange (.serial ws)) s fun t =>
      ∀ i, i < 4 → t.body.rd .twinPartnerSnBytes i = ws.getD i 0 % 2 ^ 32) ∧
    (∀ bytes, s.body.mirrors = true → Becomes (.bluliStateChange (.staged bytes)) s
      (s.body.rxBluli.sendBluli 2 [s.body.rxBluli.patchAgrees s.env bytes]))) ∧
  (∀ (s : State),
    (∀ (units : List Nat) (r : LRec) (no : Nat), r = ⟨units.map (· % 2 ^ 128)⟩ → no = units.getD 1 0 % 2 ^ 128 / 2 ^ 64 →
      s.body.hubDown = false →
      (units.headD 0 / 2 ^ 120 % 256 ≠ 0x10 →
        ((s.body.role = .standby ∧ s.body.rcd.follows = true ∨ s.body.role = .active) → s.body.staged r = false →
          Runs (.bluliLedgerRecord units) s fun t => ∃ more, t.body.rcd.stream = s.body.rcd.stream ++ r :: more) ∧
        (s.body.role = .standby → s.body.rcd.follows = false → Runs (.bluliLedgerRecord units) s fun t =>
          t.body.rcd.group = s.body.rcd.group ++ [r] ∧ t.body.rd .recNextblkNo = s.body.rd .recNextblkNo)) ∧
      (units.headD 0 / 2 ^ 120 % 256 = 0x10 → s.body.role = .standby → s.body.rcd.ahead = [] →
        units.getD 3 0 % 2 ^ 128 = s.body.rd .recLedgerIdId →
        (no = s.body.rd .recNextblkNo → s.body.rcd.ready = true → s.body.rcd.ckptDue = none → s.body.rcd.group = [] →
          s.body.staged r = false → Runs (.bluliLedgerRecord units) s fun t =>
            (∃ more, t.body.rcd.stream = s.body.rcd.stream ++ r :: more) ∧ t.body.rcd.follows = true ∧ t.body.rcd.ahead = [] ∧
            t.body.rd .recNextblkNo = (no + 1) % 2 ^ 64) ∧
        (no ≠ s.body.rd .recNextblkNo ∨ s.body.rcd.ready = false ∨ s.body.rcd.ckptDue ≠ none →
          Runs (.bluliLedgerRecord units) s fun t => t.body.rcd.ahead = [(no, s.body.rcd.group ++ [r])] ∧
            t.body.rcd.group = [] ∧ t.body.rcd.follows = false ∧ t.body.rd .recNextblkNo = s.body.rd .recNextblkNo))) ∧
    (∀ units, s.body.role ≠ .standby → s.body.role ≠ .active → Becomes (.bluliLedgerRecord units) s s.body.rxBluli) ∧
    (s.body.hubDown = false → Becomes (.bluliRetransmit none) s
      ((s.body.bump .twinLinkRetries).sendBluli 9 [(s.body.twin.rxSeq + 1) % 65536])) ∧
    (∀ q : Fin 65536, s.body.hubDown = false → Becomes (.bluliRetransmit (some q)) s (s.body.rxBluli.repeatFrom q) ∧
      ((∃ f ∈ s.body.twin.sent, f.seq = q) → Runs (.bluliRetransmit (some q)) s fun t =>
        ∃ f rest, t.body.twin.resent = f :: rest ∧ f.seq = q)) ∧
    (∀ q, s.body.hubDown = true → Becomes (.bluliRetransmit q) s s.body) ∧
    (∀ i : Fin 2, Becomes (.laneDown i) s (s.body.wr .twinLinkLaneUp 0 (clearBit (s.body.rd .twinLinkLaneUp) i)) ∧
      Becomes (.laneUp i) s (s.body.wr .twinLinkLaneUp 0 (setBit (s.body.rd .twinLinkLaneUp) i))) ∧
    (∀ (k : DieIx) T e, T = nextMultiple s.time.elapsed 51200 → e = (s.goTo T).env → s.body.role = .active →
      s.body.hubDown = false → (s.body.fe k).joined = true →
      BecomesAt (.loopSnapshot k) s T (s.body.sendSnaps e (dieChannels k)) ∧
      (RunsAt (.loopSnapshot k) s T fun t => ∀ n, n < 128 → dieOf n = k → (n, s.body.snapOf e n) ∈ t.body.twin.snapOut ∧
        (s.body.twin.txT ≠ none → ∃ q, ⟨3, q, (s.body.snapOf e n).words n⟩ ∈ t.body.twin.sent))) ∧
    (∀ k : DieIx, s.body.role ≠ .active → Becomes (.loopSnapshot k) s s.body) ∧
    (∀ (n : ChIx) (l : Nat) (uv : Int), s.body.leadOf n = l → Led s.body n → s.body.role = .standby → s.body.hubDown = false →
      (s.body.fe (dieOf l)).joined = true → (s.body.fe (dieOf l)).up = [] → (s.body.en n).gate = .hiZ →
      (s.body.en n).tripLatch = false → (s.body.ch l).eff.driven = true → (s.body.htThreshold n : Int) < uv →
      Runs (.hardtrip n uv) s fun t => (t.body.en n).tripLatch = true ∧ (t.body.en n).gate = .fastSink ∧
        (t.body.en n).hiZAfter = true ∧ (t.body.en n).fastFrom = s.time.elapsed ∧
        (s.body.twin.txT ≠ none → ∃ q, ⟨2, q, [l, s.time.elapsed]⟩ ∈ t.body.twin.sent)))

/-- How a planned Seam is asked for (R462, R467, R472): the ACTIVE module starts one for the host's HANDOVER, for a cause that
holds, and at the loss of its seat; a STANDBY module refuses with its code or plans T_P and T_S. STANDDOWN with a partner acts
as HANDOVER, and without one makes a SOLO module STANDBY. What a planned Seam does (R462 to R464, R474): at T_P orchestration
pauses; at T_S the outgoing module leaves its gates and the pair address, and the incoming one is ACTIVE and applies the host
writes that it has been forwarded, in their order; 10 µs later the outgoing one is STANDBY and has released the pins of the
battery units (R526, R529). The incoming one takes the pair pointers (R547). -/
def Obligations.Seams : Prop :=
  (∀ s : State, s.body.twin.seam = none → s.body.hubDown = false →
    (s.body.role = .active → s.body.flag .twinStatHbOk = true →
      (s.body.unlocked 9 = true → s.body.flag .twinCtrlLock = false → Becomes .handover s
        (((s.body.onTwin fun w => { w with seam := some ⟨1, true, s.time.elapsed, none, false, false⟩ }).wr .twinStatSeamRun 0 1).sendBluli
          7 [0, 1])) ∧
      (∀ cause, s.body.causeHolds cause = true → Runs (.seamRequest cause) s fun t =>
        t.body.twin.seam = some ⟨cause, true, t.time.elapsed, none, false, false⟩ ∧ t.body.rd .twinStatSeamRun = 1)) ∧
    (s.body.role = .solo → s.body.unlocked 9 = true → s.body.partner = true → s.body.flag .twinCtrlLock = false → Becomes .standdown s
      (((s.body.onTwin fun w => { w with seam := some ⟨1, true, s.time.elapsed, none, false, false⟩ }).wr .twinStatSeamRun 0 1).sendBluli
        7 [0, 1])) ∧
    (s.body.role = .solo → s.body.unlocked 9 = true → s.body.partner = false →
      Runs .standdown s fun t => t.body.role = .standby ∧ t.body.rd .twinStatPairAddr = 0) ∧
    (s.body.unlocked 9 = false → Becomes .handover s s.body ∧ Becomes .standdown s s.body) ∧
    (s.body.role = .standby → ∀ cause,
      (s.body.seamRefusal cause = 0 → Runs (.bluliSeamControl (.request cause)) s fun t =>
        t.body.twin.seam = some ⟨cause, false, s.time.elapsed, some (s.time.elapsed + 10000, s.time.elapsed + 60000), false, false⟩ ∧
        t.body.rd .twinStatSeamRun = 1) ∧
      (s.body.seamRefusal cause ≠ 0 → Runs (.bluliSeamControl (.request cause)) s fun t =>
        t.body.twin.seam = none ∧ t.body.rd .twinStatRefuse = s.body.seamRefusal cause)) ∧
    (∀ g, Becomes (.bluliSeamControl (.gap g)) s (s.body.rxBluli.wr .twinSeaminfoGapMax 0 (min 0xFFFF g)))) ∧
  (∀ (m : Seam) (tp ts : Nat) (s : State), s.body.twin.seam = some m → m.plan = some (tp, ts) → s.body.hubDown = false →
    (m.passedP = false → RunsAt .seamTP s tp fun t => t.body.twin.seam = some { m with passedP := true } ∧
      (m.passedS = false → t.body.froze = true)) ∧
    (m.passedP = true → m.passedS = false →
      (m.out = true ∨ s.body.twin.heldWrites = [] → RunsAt .seamTS s ts fun t =>
        t.body.rd .twinSeaminfoCause = m.cause % 256 ∧ t.body.rd .twinStatTakeover = 0 ∧
        t.body.rd .modExpertUnlock = 0 ∧ t.body.rd .twinLastseamTime = t.time.count % 2 ^ 64) ∧
      (m.out = true → RunsAt .seamTS s ts fun t => t.body.twin.left = true ∧ t.body.rd .twinStatPairAddr = 0 ∧
        ∀ n, n < 128 → (t.body.en n).gate = .hiZ) ∧
      (m.out = false → s.body.twin.heldWrites = [] → RunsAt .seamTS s ts fun t =>
        t.body.role = .active ∧ t.body.rd .twinStatPairAddr = 1) ∧
      (m.out = false → ∃ u : State, u.time = s.time.advance (ts - s.time.elapsed) ∧ u.body.role = .active ∧
        u.body.twin.heldWrites = s.body.twin.heldWrites ∧
        exec .seamTS s = .next (if u.body.twin.left = true then u else
          s.body.twin.heldWrites.foldl (fun s w => s.hostWrite w.1 w.2)
            { u with body := u.body.onTwin fun w => { w with heldWrites := [] } }))) ∧
    (m.passedS = true →
      (RunsAt .seamConfirm s (ts + 10000) fun t => t.body.twin.seam = none ∧ t.body.rd .twinStatSeamRun = 0) ∧
      (m.out = true → RunsAt .seamConfirm s (ts + 10000) fun t => t.body.role = .standby ∧ t.body.twin.left = false ∧
        (s.body.bbuDrives = true → ∀ u, u < 2 → t.body.rd .bbuStatDriven u = 3))) ∧
    (m.out = false → ∀ p w valid, Becomes (.bluliSeamControl (.pointers [(p, w, valid)])) s (s.body.rxBluli.pairPtr p w valid)))

/-- Splits and the module's seat (R468, R469, R474): of two SOLO modules that hear each other one becomes STANDBY; both
contacts made for 20 ms qualify the seat, and one open for 50 µs loses it; a module that took over arms the pair address, in
whichever of the roles that acknowledge it. -/
def Obligations.SplitsAndSeats : Prop :=
  ∀ s : State, s.body.hubDown = false →
    (s.body.role = .solo → s.body.flag .twinStatHbOk = true → s.body.rd .twinStatPartnerRole = 1 →
      (s.body.givesWay = true → Runs .splitResolve s fun t => t.body.role = .standby ∧ t.body.rd .twinStatTakeover = 0) ∧
      (s.body.givesWay = false → Becomes .splitResolve s s.body)) ∧
    (∀ made, Runs (.modSeatContact 0 made) s fun t =>
      t.body.twin.openA = (if made then none else some (s.body.twin.openA.getD s.time.elapsed)) ∧
      t.body.twin.openB = s.body.twin.openB ∧
      (t.body.twin.madeT.isSome = true ↔ made = true ∧ s.body.twin.openB = none)) ∧
    (∀ made, Runs (.modSeatContact 1 made) s fun t =>
      t.body.twin.openB = (if made then none else some (s.body.twin.openB.getD s.time.elapsed)) ∧
      t.body.twin.openA = s.body.twin.openA ∧
      (t.body.twin.madeT.isSome = true ↔ made = true ∧ s.body.twin.openA = none)) ∧
    (∀ T, s.body.twin.madeT = some T → RunsAt .modSeatQual s (T + 20000000) fun t => t.body.rd .twinStatSeated = 1) ∧
    (∀ T, s.body.twin.openSince = some T → s.body.flag .twinStatSeated = true →
      RunsAt .modSeatLoss s (T + 50000) fun t => t.body.rd .twinStatSeated = 0 ∧
        (s.body.role = .standby → t.body.twin.leaving = true) ∧
        (s.body.role = .active → s.body.twin.seam = none → s.body.flag .twinStatHbOk = true →
          t.body.twin.seam = some ⟨2, true, t.time.elapsed, none, false, false⟩)) ∧
    (s.body.role.pairs = true → s.body.twin.left = false → s.body.flag .twinStatTakeover = true →
      Becomes .pairAddrArm s (s.body.wr .twinStatPairAddr 0 1)) ∧
    (s.body.flag .twinStatTakeover = false → Becomes .pairAddrArm s s.body)

/-! ### Starts, images, Patch and Starch (chapter 13) -/

/-- Module start (R379, R450, R451, R477, R479, R493): phases 0 to 2 leave a STARTING module with its strap, its count, the
fuses in force, every channel UNCONFIGURED and its driver high-impedance. 100 ms without a partner a seated module below its
shutdown level is SOLO with its gates held at their sources; with TWIN_REQUIRED it holds admission until the host accepts. -/
def Obligations.ModuleStarts : Prop :=
  (∀ (ohms : Nat) (s : State), Runs (.moduleStart ohms) s fun t =>
    t.pending = s.pending ∧ t.time.elapsed = s.time.elapsed ∧ t.time.count = startCount s.body.mtr.ckpts % 2 ^ 64 ∧
    t.starch = { s.starch with map := s.starch.fuses } ∧ t.body.role = .starting ∧ t.body.rd .modBootPhase = 3 ∧
    t.body.rd .modStrapS = (strapOf ohms).1 ∧ t.body.rd .modStrapAmbig = bit (strapOf ohms).2 ∧
    t.body.rd .twinStatSlot = (strapOf ohms).1 % 2 ∧ t.body.hubDown = false ∧
    (∀ n, (t.body.ch n).state = .unconfigured ∧ (t.body.en n).gate = .hiZ) ∧ ∀ k, (t.body.fe k).joined = false) ∧
  (∀ (T : Nat) (s : State), s.body.twin.txT = some T → s.body.role = .starting → s.body.twin.heard = false →
    s.body.flag .twinStatSeated = true → s.body.hubDown = false → s.body.health.lvl ≠ 4 → RunsAt .soloDecision s (T + 100000000) fun t =>
      t.body.role = .solo ∧ t.body.rd .twinStatPairAddr = 1 ∧ t.body.rd .modBootPhase = 5 ∧
      (∀ n, (t.body.en n).gate = .sink) ∧ (bitAt (s.env.fuse 1) 2 = true → t.body.rd .modBootSoloHeld = 1)) ∧
  (∀ s : State, s.body.hubDown = false → s.body.flag .modBootSoloHeld = true →
    (s.body.unlocked 9 = true → Runs .soloAccept s fun t => t.body.rd .modBootSoloHeld = 0 ∧ t.body.rd .modBootSoloAccept = 1 ∧
      ∀ n ∈ s.body.queue, (t.body.ch n).queuedT = s.time.elapsed) ∧
    (s.body.unlocked 9 = false → Becomes .soloAccept s s.body))

/-- The shelf flash (R478, R482, R483, R486, R489, R492): discovery shows the mode found or the cause; a slot read shows the
code of its first failed check; the chosen image is applied and shown; after 10 s all is tried again. Unlocks (R499): a write
with the key puts unlocks in force for 600 s; another write changes nothing; at the end all clear. -/
def Obligations.ImagesAndUnlocks : Prop :=
  (∀ s : State, s.body.readsFlash = true →
    (Runs (.flashDiscovery none) s fun t =>
      t.body.rd .modImgstatCause = 1 ∧ t.body.rd .modImgstatRetrying = 1 ∧ t.body.rd .modFlashidMode = 0 ∧
      t.body.boot.flash = none) ∧
    (∀ i, Runs (.flashDiscovery (some i)) s fun t =>
      t.body.rd .modFlashidMode = flashMode i ∧ t.body.rd .modFlashidAddr = (if i.over128 then 4 else 3) ∧
      t.body.boot.flash = some i ∧ t.body.boot.readA = false ∧ t.body.boot.readB = false) ∧
    (s.body.boot.flash.isSome = true → ∀ bytes,
      (Runs (.imageReadCheck false bytes) s fun t =>
        t.body.rd .modImgstatRejA = (s.body.imageCheck s.env bytes).1 ∧
        t.body.boot.slotA = (s.body.imageCheck s.env bytes).2 ∧ t.body.boot.slotB = s.body.boot.slotB) ∧
      (Runs (.imageReadCheck true bytes) s fun t =>
        t.body.rd .modImgstatRejB = (s.body.imageCheck s.env bytes).1 ∧
        t.body.boot.slotB = (s.body.imageCheck s.env bytes).2 ∧ t.body.boot.slotA = s.body.boot.slotA)) ∧
    (s.body.boot.readA = true → s.body.boot.readB = true →
      (∀ k img, s.body.boot.chosen = some (k, img) → Runs .imageApply s fun t =>
        t.body.boot.imaged = true ∧ t.body.boot.vals = img.vals ∧ t.body.boot.retryT = none ∧
        t.body.boot.copyDue = decide (k = 1) ∧ t.body.rd .modImgstatCause = 0 ∧ t.body.rd .modImgstatRetrying = 0) ∧
      (s.body.boot.chosen = none → Becomes .imageApply s s.body)) ∧
    (∀ T, s.body.boot.retryT = some T → BecomesAt .imageRetry s T (s.body.onBoot fun x =>
      { x with retryT := some (max s.time.elapsed T + 10000000000), flash := none, readA := false, readB := false }))) ∧
  (∀ (v : Word) (s : State), s.body.hubDown = false →
    (bits v.toNat 31 16 = 0x7128 → Becomes (.expertUnlock v) s
      ((s.body.wr .modExpertUnlock 0 (bits v.toNat 15 0)).onBoot fun x => { x with unlockEnd := some (s.time.elapsed + 600000000000) })) ∧
    (bits v.toNat 31 16 ≠ 0x7128 → Becomes (.expertUnlock v) s s.body) ∧
    (∀ T, s.body.boot.unlockEnd = some T →
      BecomesAt .expertUnlockTimeout s T ((s.body.wr .modExpertUnlock 0 0).onBoot fun x => { x with unlockEnd := none })))

/-- Staging commands (R478, R501): with the unlock each runs to its end and shows it; a failure, or a bar, sets ERR; what
barred it has left slot B alone; one that may not drive the flash fails (assumption log 223); without the unlock nothing
happens. PATCH and its acceptance (R478, R502, R503, R509): what bars it, a slot B that cannot be read or fails its checks, an
image that is not newer, and a partner that does not accept each refuse it with a code; a checked image that is accepted is in
force. The course of a Patch (R505 to R507): a channel at a safe point takes its changes, one in RAMP, LIMIT or CAPPED waits;
at B_P, or where the Patch rested then at the next second boundary (assumption log 226), the metering fields follow; slot A is
written from slot B, and then the Patch is done. Between T_P and T_S of a Seam and in a freeze it takes no step (R508, R580).
-/
def Obligations.StagingAndPatch : Prop :=
  (∀ (ok : Bool) (s : State), s.body.hubDown = false → s.body.boot.cmd = 0 → s.body.flag .modImgcmdBusy = false →
    (∀ i, (i = Instr.imgEraseB ok ∨ i = .imgProgram ok) →
      (s.body.unlocked 13 = true → s.body.patchRuns = false → s.body.flashFree = true → s.body.flag .healthStatBrace = false →
        Runs i s fun t => t.body.rd .modImgcmdBusy = 0 ∧ t.body.rd .modImgcmdDone = 1 ∧ t.body.boot.slotB = none ∧
          t.body.boot.slotA = s.body.boot.slotA ∧ (ok = false → t.body.rd .modImgcmdErr = 1) ∧
          (ok = true → t.body.rd .modImgcmdErr = s.body.rd .modImgcmdErr)) ∧
      (s.body.unlocked 13 = true → (s.body.patchRuns = true ∨ s.body.drives = false ∨ s.body.flag .healthStatBrace = true) →
        Becomes i s (s.body.wr .modImgcmdErr 0 1)) ∧
      (s.body.unlocked 13 = true → s.body.patchRuns = false → s.body.drives = true → s.body.flag .healthStatBrace = false →
        s.body.flashFree = false → Runs i s fun t => t.body.rd .modImgcmdBusy = 0 ∧ t.body.rd .modImgcmdDone = 1 ∧
          t.body.rd .modImgcmdErr = 1 ∧ t.body.boot = s.body.boot) ∧
      (s.body.unlocked 13 = false → Becomes i s s.body)) ∧
    (∀ bytes, s.body.flashFree = false → Runs (.imgRead ok bytes) s fun t => t.body.rd .modImgcmdBusy = 0 ∧
      t.body.rd .modImgcmdDone = 1 ∧ t.body.rd .modImgcmdErr = 1 ∧ ∀ j, t.body.rd .modImgbufBytes j = s.body.rd .modImgbufBytes j) ∧
    (∀ bytes, s.body.flashFree = true → Runs (.imgRead ok bytes) s fun t =>
      t.body.rd .modImgcmdBusy = 0 ∧ t.body.rd .modImgcmdDone = 1 ∧ t.body.boot = s.body.boot ∧
      (ok = true → ∀ j, j < 64 → t.body.rd .modImgbufBytes j = wordAt bytes (4 * j) % 2 ^ 32) ∧
      (ok = false → t.body.rd .modImgcmdErr = 1 ∧ ∀ j, t.body.rd .modImgbufBytes j = s.body.rd .modImgbufBytes j))) ∧
  (∀ s : State, s.body.hubDown = false →
    (s.body.boot.cmd = 0 → s.body.boot.checked = none → s.body.flag .modImgcmdBusy = false → s.body.unlocked 13 = true → ∀ bytes,
      (s.body.patchBars ≠ 0 → Runs (.patch bytes) s fun t =>
        t.body.rd .modPatchstatState = 6 ∧ t.body.rd .modPatchstatRefuse = s.body.patchBars ∧
        t.body.rd .modImgcmdBusy = 0 ∧ t.body.rd .modImgcmdErr = 1 ∧ t.body.boot.checked = none) ∧
      (s.body.patchBars = 0 → (bytes = [] ∨ s.body.flashFree = false) → Runs (.patch bytes) s fun t =>
        t.body.rd .modPatchstatState = 6 ∧ t.body.rd .modPatchstatRefuse = 7 ∧ t.body.boot.checked = none) ∧
      (s.body.patchBars = 0 → bytes ≠ [] → s.body.flashFree = true → Runs (.patch bytes) s fun t =>
        match (s.body.imageCheck s.env bytes).2 with
        | none =>
          t.body.rd .modPatchstatState = 6 ∧ t.body.rd .modPatchstatRefuse = 3 ∧
          t.body.rd .modImgstatRejB = (s.body.imageCheck s.env bytes).1
        | some img =>
          if img.seq ≤ s.body.rd .modImgseqSeq then
            t.body.rd .modPatchstatState = 6 ∧ t.body.rd .modPatchstatRefuse = 4
          else if fixedDiffers s.body.boot.vals img.vals then
            t.body.rd .modPatchstatState = 6 ∧ t.body.rd .modPatchstatRefuse = 5
          else t.body.rd .modPatchstatState = 1 ∧ t.body.boot.checked = some img)) ∧
    (∀ img partner ok, s.body.boot.checked = some img → s.body.patchRests = false →
      (s.body.role = .active → partner = false → Runs (.patchAccept partner ok) s fun t =>
        t.body.rd .modPatchstatState = 6 ∧ t.body.rd .modPatchstatRefuse = 6 ∧ t.body.boot.checked = none) ∧
      ((s.body.role = .active → partner = true) → (ok = false ∨ s.body.flashFree = false) → Runs (.patchAccept partner ok) s fun t =>
        t.body.rd .modPatchstatState = 6 ∧ t.body.rd .modPatchstatRefuse = 7 ∧ t.body.boot.checked = none) ∧
      ((s.body.role = .active → partner = true) → ok = true → s.body.flashFree = true → Runs (.patchAccept partner ok) s fun t =>
        t.body.boot.checked = none ∧ t.body.boot.slotB = some { img with committed := true } ∧
        t.body.boot.vals = img.vals ∧ t.body.boot.patch.isSome = true)) ∧
    (∀ partner ok, s.body.patchRests = true → Becomes (.patchAccept partner ok) s s.body)) ∧
  (∀ (p : Patch) (s : State), s.body.boot.patch = some p → s.body.drives = true → s.body.hubDown = false →
    (∀ (n : ChIx) (l : Nat), s.body.patchRests = false → s.body.leadOf n = l →
      ((s.body.ch l).state ∉ [ChState.ramp, .limit, .capped] → ((s.body.ch l).state = .on → s.body.steadyWin l = true) →
        ((s.body.ch l).state = .held → (s.body.ch l).holds = [0x32]) →
        Runs (.patchSafePoint n) s fun t => ∀ q, t.body.boot.patch = some q → ∀ c ∈ q.chans, c.1 ≠ l) ∧
      ((s.body.ch l).state ∈ [ChState.ramp, .limit, .capped] → Becomes (.patchSafePoint n) s s.body)) ∧
    (p.passed = false → p.reload = false → s.body.patchRests = false → RunsAt .patchMeteringApply s (s.boundaryFrom p.bP) fun t =>
      t.body.boot.patch = some { p with passed := true, meter := [] }) ∧
    (p.passed = false → p.reload = true → p.chans = [] → s.body.patchRests = false →
      RunsAt .patchMeteringApply s (s.boundaryFrom p.bP) fun t =>
      t.body.boot.patch = none) ∧
    (s.body.copies = true →
      (Runs (.patchSlotCopy true) s fun t =>
        t.body.boot.slotA = s.body.boot.slotB ∧ t.body.boot.patch = none ∧ t.body.boot.copyDue = false ∧
        t.body.rd .modImgstatRejA = 0 ∧ t.body.rd .modImgstatSlot = 0 ∧ t.body.rd .modPatchstatState = 5) ∧
      (Runs (.patchSlotCopy false) s fun t => t.body.boot.slotA = none ∧ t.body.boot.patch = none)) ∧
    (s.body.patchRests = true → (∀ n, Becomes (.patchSafePoint n) s s.body) ∧ Becomes .patchMeteringApply s s.body ∧
      ∀ ok, Becomes (.patchSlotCopy ok) s s.body))

/-- Fuse commands (R494, R495): BURN blows the bits of the map in both copies; SEAL adds SEAL and the CRC; RELOAD puts the
fuses in force again with the classes they give; a read-back that differs shows VERIFY; what is not allowed changes no fuse.
-/
def Obligations.FuseCommands : Prop :=
  ∀ s : State, s.body.hubDown = false → s.body.boot.fuseCmd = 0 →
    (fuseBar s.env s.starch s.body 1 = 0 →
      (Runs (.starchBurn true) s fun t =>
        t.starch = { s.starch with copyA := blow s.starch.copyA s.starch.map, copyB := blow s.starch.copyB s.starch.map } ∧
        t.body.rd .starchFusectlResult = 1 ∧ t.body.rd .starchFusectlBusy = 0) ∧
      (Runs (.starchBurn false) s fun t => t.starch.map = s.starch.map ∧ t.body.rd .starchFusectlResult = 3)) ∧
    (fuseBar s.env s.starch s.body 2 = 0 → Runs (.starchSeal true) s fun t =>
      t.starch = ⟨blow s.starch.copyA (sealedMap s.starch.map), blow s.starch.copyB (sealedMap s.starch.map),
        sealedMap s.starch.map⟩ ∧ t.body.rd .starchFusectlResult = 5) ∧
    (fuseBar s.env s.starch s.body 3 = 0 → Runs .starchReload s fun t =>
      t.starch = { s.starch with map := s.starch.fuses } ∧ t.body.rd .starchFusectlResult = 1 ∧
      ∀ n, n < 128 → t.body.rd .chClassFclass n =
        bits (sparseGet 0 s.starch.fuses (48 + n / 10)) (3 * (n % 10) + 2) (3 * (n % 10))) ∧
    (∀ c i, (c, i) ∈ [(1, Instr.starchBurn true), (2, .starchSeal true), (3, .starchReload)] →
      fuseBar s.env s.starch s.body c ≠ 0 →
      Becomes i s (s.body.fuseEnd (fuseBar s.env s.starch s.body c)))

/-! ### The host ports (chapter 15) -/

/-- Read commands (R52, R541, R543, R544, R547): what each answers; a transaction that is taken wakes a module in doze,
counts, and otherwise changes nothing. Timeouts, attention and the Alert Response Address (R534, R555, R556): a timeout makes
both pointers of its port invalid; a pull is counted, and flagged where it collides; the module that wins answers with its
address, and another changes nothing. -/
def Obligations.PortCommands : Prop :=
  (∀ (x : Xfer) (s : State), s.body.answers x = true → x.fit = .ok →
    (Runs (.capability x) s fun t => t.body.reply = [0xD0]) ∧
    (∀ code, Runs (.query x code) s fun t => t.body.reply = [queryByte code]) ∧
    (Runs (.statusByte x) s fun t => t.body.reply = [(s.onBody fun e b => b.stir e).body.statusWord % 256]) ∧
    (Runs (.statusWord x) s fun t => t.body.reply = [(s.onBody fun e b => b.stir e).body.statusWord]) ∧
    (Runs (.pmbusRevision x) s fun t => t.body.reply = [0x33]) ∧
    (Runs (.mfrId x) s fun t => t.body.reply = [0x4B, 0x59, 0x53, 0x49, 0x4E, 0x4F, 0x52]) ∧
    (Runs (.mfrModel x) s fun t => t.body.reply = [0x5A, 0x51, 0x2D, 0x37, 0x31, 0x32, 0x38]) ∧
    (Runs (.mfrRevision x) s fun t => t.body.reply = [s.body.rd .modRevMinor, s.body.rd .modRevMajor]) ∧
    (Runs (.mfrSerial x) s fun t =>
      t.body.reply = (List.range 4).flatMap fun i => leBytes 4 (s.body.rd .modSerialBytes i)) ∧
    (Runs (.winAddrRead x) s fun t =>
      t.body.reply = [(s.body.ptr x.port (s.body.xferPaired x)).1 + bit (s.body.ptr x.port (s.body.xferPaired x)).2]) ∧
    (∀ code, ∀ i ∈ [Instr.capability x, .query x code, .statusByte x, .statusWord x, .pmbusRevision x, .mfrId x, .mfrModel x,
        .mfrRevision x, .mfrSerial x, .winAddrRead x],
      (Runs i s fun t => t.body.doze = false ∧ t.body.rd .hpCntAccepted x.port = (s.body.rd .hpCntAccepted x.port + 1) % 2 ^ 16) ∧
      (s.body.doze = false →
        ∃ r, Becomes i s (({ s.body with dozeReq := none, reply := r } : Body).portCount x.port)))) ∧
  (∀ (p : Fin 2) (s : State), s.body.hubDown = false →
    (s.body.rd .modBootPhase ≠ 0 → Becomes (.hostPortTimeout p) s
      (((s.body.wr .hpStatOwnValid p 0).wr .hpStatPairValid p 0).wr .hpStatTimeout p 1)) ∧
    (s.body.rd .modBootPhase = 0 → Becomes (.hostPortTimeout p) s s.body) ∧
    (∀ c, s.body.pullDue p = true → Runs (.attentionPull p c) s fun t =>
      t.body.rd .hpCntPulls p = min (s.body.rd .hpCntPulls p + 1) (2 ^ 8 - 1) ∧
      (c = true → t.body.rd .hpStatAttnColl p = 1)) ∧
    (∀ c, s.body.pullDue p = false → exec (.attentionPull p c) s = .next s) ∧
    (s.body.doze = false → s.body.alertLow = true ∨ s.body.flag .hpStatAttnPend p = true → Runs (.alertResponse p true) s fun t =>
      t.body.reply = [2 * s.body.baseAddr] ∧ t.body.rd .hpStatAraWon p = 1 ∧
      (s.body.alertLow = true → t.body.rd .hpStatAttnPend p = 0)) ∧
    (s.body.doze = true ∨ s.body.alertLow = false ∧ s.body.flag .hpStatAttnPend p = false →
      Becomes (.alertResponse p true) s s.body) ∧
    Becomes (.alertResponse p false) s s.body)

/-- Window commands (R11, R32, R52, R546 to R550, R552): WIN_ADDR loads the pointer; WIN_DATA written does what REGISTER_WRITE
does at the pointer, and read answers the word there; a read that ends inside a word with an RC field is flagged; a block
writes its words in ascending order of address, or reads them one after another, and moves the pointer; an access outside
every region writes nothing, reads 0 and is flagged. What a port does not take (R542, R545 to R548, R563): an address that the
module does not answer changes nothing at all; a wrong command, length or PEC, a PEC that is missing where it must be there
and a pointer that is not valid set their bits. -/
def Obligations.Windows : Prop :=
  (∀ (x : Xfer) (a : Nat) (s : State), s.body.answers x = true → x.fit = .ok → (s.body.ptr x.port (s.body.xferPaired x)).1 = a →
    (x.pec = .good ∨ x.pec = .absent ∧ s.body.pecNeeded false = false → ∀ v,
      (Runs (.winAddrWrite x v) s fun t =>
        t.body.ptr x.port (s.body.xferPaired x) = (v.toNat / 4 * 4, decide (v.toNat % 2 = 1)) ∧
        t.body.ptrValid x.port (s.body.xferPaired x) = true) ∧
      (s.body.doze = false →
        Becomes (.winAddrWrite x v) s ((({ s.body with dozeReq := none } : Body).loadPtr x v.toNat).portCount x.port))) ∧
    (s.body.ptrValid x.port (s.body.xferPaired x) = true →
      (x.pec = .good ∨ x.pec = .absent ∧ s.body.pecNeeded (protectedAddr a) = false → ∀ v,
        ∃ u, exec (.registerWrite a v) s = .next u ∧ exec (.winDataWrite x v) s =
          .next ((u.onBody fun _ b => b.flagUnmapped x.port [a]).onBody fun _ b => b.portCount x.port)) ∧
      (Runs (.winDataRead x true) s fun t =>
        t.body.reply = [(((s.onBody fun e b => b.stir e).body.wr .hpStatBusy x.port 1).readWord s.env s.dirty a).1] ∧
        t.pending = s.pending ∧ t.starch = s.starch ∧ t.time = s.time) ∧
      (hasRc (a / 4 * 4) = true → Runs (.winDataRead x false) s fun t => t.body.rd .hpStatRcLost x.port = 1) ∧
      (∀ vs : List Word, 1 ≤ vs.length → vs.length ≤ 63 →
        x.pec = .good ∨ x.pec = .absent ∧ s.body.pecNeeded ((ptrAddrs (s.body.ptr x.port (s.body.xferPaired x)) vs.length).any
          protectedAddr) = false →
        exec (.winAutoincWrite x vs) s = .next
          ((((blockOrder (s.body.ptr x.port (s.body.xferPaired x)) ((ptrAddrs (s.body.ptr x.port (s.body.xferPaired x))
            vs.length).zip (vs.map (·.toNat)))).foldl (fun s w => s.hostWrite w.1 w.2) (s.onBody fun e b => b.stir e)).onBody
            fun _ b => (b.flagUnmapped x.port (ptrAddrs (s.body.ptr x.port (s.body.xferPaired x)) vs.length)).movePtr x.port
              (s.body.xferPaired x) vs.length).onBody fun _ b => b.portCount x.port)) ∧
      (x.pec = .good → s.body.doze = false → ∀ vs : List Word, 1 ≤ vs.length → vs.length ≤ 63 →
        (∀ a ∈ ptrAddrs (s.body.ptr x.port (s.body.xferPaired x)) vs.length, inRegion (a / 4 * 4) = false) →
        Becomes (.winAutoincWrite x vs) s (((({ s.body with dozeReq := none } : Body).wr .hpStatUnmapped x.port 1).movePtr x.port
          (s.body.xferPaired x) vs.length).portCount x.port)) ∧
      (∀ n w part, Runs (.winAutoincRead x ⟨n, part⟩ w) s fun t =>
        t.body.reply = ((s.onBody fun e b => b.stir e).portReads x.port w
          (ptrAddrs (s.body.ptr x.port (s.body.xferPaired x)) (min n (s.body.rd .hpCfgRdwords x.port)))).1 ∧
        t.body.reply.length = min n (s.body.rd .hpCfgRdwords x.port) ∧ t.pending = s.pending ∧ t.starch = s.starch ∧
        t.time.elapsed = s.time.elapsed +
          (min n (s.body.rd .hpCfgRdwords x.port) + bit (part && decide (n < s.body.rd .hpCfgRdwords x.port))) * w ∧
        ((∀ a ∈ ptrAddrs (s.body.ptr x.port (s.body.xferPaired x)) (min n (s.body.rd .hpCfgRdwords x.port)),
            inRegion (a / 4 * 4) = false) →
          t.body.reply = List.replicate (min n (s.body.rd .hpCfgRdwords x.port)) 0)))) ∧
  (∀ (x : Xfer) (v : Word) (vs : List Word) (n w : Nat) (p : Bool) (s : State), s.body.doze = false →
    (s.body.answers x = false → ∀ i ∈ [Instr.capability x, .query x n, .statusByte x, .statusWord x, .pmbusRevision x,
      .mfrId x, .mfrModel x, .mfrRevision x, .mfrSerial x, .winAddrWrite x v, .winAddrRead x, .winDataWrite x v,
      .winDataRead x p, .winAutoincWrite x vs, .winAutoincRead x ⟨n, p⟩ w], exec i s = .next s) ∧
    (s.body.answers x = true →
      (x.fit = .badCmd → ∀ i ∈ [Instr.query x n, .winAddrWrite x v, .mfrId x], Becomes i s
        ((({ s.body with dozeReq := none } : Body).wr .hpStatBadCmd x.port 1).bump .hpCntRejected x.port)) ∧
      (x.fit = .badLen → ∀ i ∈ [Instr.query x n, .winAddrWrite x v, .mfrId x], Becomes i s
        ((({ s.body with dozeReq := none } : Body).wr .hpStatBadLen x.port 1).bump .hpCntRejected x.port)) ∧
      (x.fit = .ok → x.pec = .bad → Becomes (.winAddrWrite x v) s
        ((({ s.body with dozeReq := none } : Body).wr .hpStatPecErr x.port 1).bump .hpCntRejected x.port)) ∧
      (x.fit = .ok → x.pec = .absent → 2 ≤ s.body.rd .hostPecReq → Becomes (.winAddrWrite x v) s
        ((({ s.body with dozeReq := none } : Body).wr .hpStatPecMissing x.port 1).bump .hpCntRejected x.port)) ∧
      (x.fit = .ok → x.pec = .absent → s.body.rd .hostPecReq = 1 → s.body.ptrValid x.port (s.body.xferPaired x) = true →
        protectedAddr (s.body.ptr x.port (s.body.xferPaired x)).1 = true → Becomes (.winDataWrite x v) s
        ((({ s.body with dozeReq := none } : Body).wr .hpStatPecMissing x.port 1).bump .hpCntRejected x.port)) ∧
      (s.body.ptrValid x.port (s.body.xferPaired x) = false →
        ∀ i ∈ [Instr.winDataWrite x v, .winDataRead x p, .winAutoincWrite x vs, .winAutoincRead x ⟨n, p⟩ w], Becomes i s (({ s.body with dozeReq := none } : Body).wr .hpStatNoptr x.port 1)) ∧
      (s.body.ptrValid x.port (s.body.xferPaired x) = true → x.fit = .ok → vs.length = 0 ∨ 63 < vs.length →
        Becomes (.winAutoincWrite x vs) s
        ((({ s.body with dozeReq := none } : Body).wr .hpStatBadLen x.port 1).bump .hpCntRejected x.port))))
end

