-- ==== Sys2Proof/Laws/Sparse.lean ====
section
/-!
SUPPORT. Laws of the sparse stores: a read after a write, and the canonical form that every write keeps.
-/

namespace Sys2Proof.Laws

open Sys2Proof Sys2Proof.Machine

@[simp] theorem sparseGet_nil (d q : Nat) : sparseGet d [] q = d := rfl

theorem sparseGet_ins (d : Nat) (m : Sparse) (q x r : Nat) :
    sparseGet d (sparseIns m q x) r = if r = q then x else sparseGet d m r := by
  induction m with
  | nil => by_cases h : q = r <;> simp [sparseIns, sparseGet, h, Ne.symm (a := q)]
  | cons e m ih =>
    obtain ⟨k, v⟩ := e
    simp only [sparseIns]
    split
    · simp only [sparseGet]; by_cases h : q = r <;> simp [h, Ne.symm (a := q)]
    · split
      · subst_vars; simp only [sparseGet]; by_cases h : k = r <;> simp [h, Ne.symm (a := k)]
      · simp only [sparseGet, ih]; split <;> split <;> simp_all

theorem sparseGet_filter (d : Nat) (m : Sparse) (q r : Nat) :
    sparseGet d (m.filter fun e => e.1 ≠ q) r = if r = q then d else sparseGet d m r := by
  induction m with
  | nil => simp
  | cons e m ih =>
    obtain ⟨k, v⟩ := e
    by_cases hk : k = q <;> by_cases hr : k = r <;> simp_all [sparseGet]

/-- A read after a write: the value written at its key, every other key as before. -/
theorem sparseGet_set (d : Nat) (m : Sparse) (q x r : Nat) :
    sparseGet d (sparseSet d m q x) r = if r = q then x else sparseGet d m r := by
  unfold sparseSet
  split
  · subst_vars; exact sparseGet_filter _ _ _ _
  · exact sparseGet_ins _ _ _ _ _

@[simp] theorem sparseGet_set_same (d : Nat) (m : Sparse) (q x : Nat) : sparseGet d (sparseSet d m q x) q = x := by
  simp [sparseGet_set]

theorem sparseGet_set_ne (d : Nat) (m : Sparse) {q r : Nat} (x : Nat) (h : r ≠ q) :
    sparseGet d (sparseSet d m q x) r = sparseGet d m r := by simp [sparseGet_set, h]

theorem sparseSorted_mono {a b : Nat} (h : a ≤ b) : ∀ {m : Sparse}, sparseSorted b m = true → sparseSorted a m = true
  | [], _ => rfl
  | (k, v) :: m, hm => by simp only [sparseSorted, Bool.and_eq_true, decide_eq_true_eq] at *; exact ⟨by omega, hm.2⟩

theorem sparseSorted_ins (m : Sparse) (q x : Nat) :
    ∀ b, b ≤ q → sparseSorted b m = true → sparseSorted b (sparseIns m q x) = true := by
  induction m with
  | nil => intro b hb _; simp [sparseIns, sparseSorted, hb]
  | cons e m ih =>
    obtain ⟨k, v⟩ := e
    intro b hb hm
    simp only [sparseSorted, Bool.and_eq_true, decide_eq_true_eq] at hm
    simp only [sparseIns]
    split
    · simp only [sparseSorted, Bool.and_eq_true, decide_eq_true_eq]; exact ⟨hb, by omega, hm.2⟩
    · split
      · simp only [sparseSorted, Bool.and_eq_true, decide_eq_true_eq]; exact hm
      · simp only [sparseSorted, Bool.and_eq_true, decide_eq_true_eq]; exact ⟨hm.1, ih (k + 1) (by omega) hm.2⟩

theorem sparseSorted_filter (p : Nat × Nat → Bool) (m : Sparse) :
    ∀ b, sparseSorted b m = true → sparseSorted b (m.filter p) = true := by
  induction m with
  | nil => intro b h; simpa using h
  | cons e m ih =>
    obtain ⟨k, v⟩ := e
    intro b hm
    simp only [sparseSorted, Bool.and_eq_true, decide_eq_true_eq] at hm
    rw [List.filter_cons]
    split
    · simp only [sparseSorted, Bool.and_eq_true, decide_eq_true_eq]; exact ⟨hm.1, ih (k + 1) hm.2⟩
    · exact sparseSorted_mono (by omega) (ih (k + 1) hm.2)

theorem sparseAll_ins (p : Nat → Nat → Bool) (m : Sparse) (q x : Nat) (hx : p q x = true) :
    sparseAll p m = true → sparseAll p (sparseIns m q x) = true := by
  induction m with
  | nil => intro _; simp [sparseIns, sparseAll, hx]
  | cons e m ih =>
    obtain ⟨k, v⟩ := e
    intro hm
    simp only [sparseAll, Bool.and_eq_true] at hm
    simp only [sparseIns]
    split
    · simp only [sparseAll, Bool.and_eq_true]; exact ⟨hx, hm⟩
    · split
      · subst_vars; simp only [sparseAll, Bool.and_eq_true]; exact ⟨hx, hm.2⟩
      · simp only [sparseAll, Bool.and_eq_true]; exact ⟨hm.1, ih hm.2⟩

theorem sparseAll_filter (p : Nat → Nat → Bool) (r : Nat × Nat → Bool) (m : Sparse) :
    sparseAll p m = true → sparseAll p (m.filter r) = true := by
  induction m with
  | nil => intro h; simpa using h
  | cons e m ih =>
    obtain ⟨k, v⟩ := e
    intro hm
    simp only [sparseAll, Bool.and_eq_true] at hm
    rw [List.filter_cons]
    split
    · simp only [sparseAll, Bool.and_eq_true]; exact ⟨hm.1, ih hm.2⟩
    · exact ih hm.2

/-- Every write keeps the canonical form of a store. -/
theorem sparseSet_wf (d : Nat → Nat) (m : Sparse) (q x : Nat) (h : sparseWf d m = true) :
    sparseWf d (sparseSet (d q) m q x) = true := by
  unfold sparseWf at *
  simp only [Bool.and_eq_true] at *
  unfold sparseSet
  split
  · exact ⟨sparseSorted_filter _ _ _ h.1, sparseAll_filter _ _ _ h.2⟩
  · exact ⟨sparseSorted_ins _ _ _ _ (Nat.zero_le _) h.1, sparseAll_ins _ _ _ _ (by simpa using ‹_›) h.2⟩

end Sys2Proof.Laws
end

