-- ==== Sys2Proof/Laws/Regs.lean ====
section
/-!
SUPPORT. Laws of the register fields: a field reads as written, and every other field reads as before.
-/

namespace Sys2Proof.Laws

open Sys2Proof Sys2Proof.Machine

theorem ctorIdx_lt (f : Fld) : f.ctorIdx < 1024 := by cases f <;> decide

theorem ofNat_ctorIdx (f : Fld) : Fld.ofNat f.ctorIdx = f := by cases f <;> rfl

theorem ctorIdx_inj {f g : Fld} (h : f.ctorIdx = g.ctorIdx) : f = g := by
  rw [← ofNat_ctorIdx f, h, ofNat_ctorIdx]

/-- The key of a field names its field and index. -/
theorem fkey_inj {f g : Fld} {i j : Nat} : fkey f i = fkey g j ↔ f = g ∧ i = j := by
  constructor
  · intro h
    have hf := ctorIdx_lt f
    have hg := ctorIdx_lt g
    unfold fkey at h
    exact ⟨ctorIdx_inj (by omega), by omega⟩
  · rintro ⟨rfl, rfl⟩; rfl

@[simp] theorem keyFld_fkey (f : Fld) (i : Nat) : keyFld (fkey f i) = f := by
  have hf := ctorIdx_lt f
  unfold keyFld fkey
  rw [show (i * 1024 + f.ctorIdx) % 1024 = f.ctorIdx by omega, ofNat_ctorIdx]

@[simp] theorem fkey_div (f : Fld) (i : Nat) : fkey f i / 1024 = i := by
  have hf := ctorIdx_lt f
  unfold fkey
  omega

/-- A read of a register store after a write. -/
theorem regGet_set (m : Sparse) (f g : Fld) (i j v : Nat) :
    regGet (regSet m f i v) g j = if g = f ∧ j = i then v % 2 ^ fieldWidth f else regGet m g j := by
  unfold regGet regSet
  by_cases h : g = f ∧ j = i
  · obtain ⟨rfl, rfl⟩ := h
    simp
  · rw [if_neg h]
    have hk : fkey g j ≠ fkey f i := by rw [Ne, fkey_inj]; exact h
    generalize hd : fieldReset g j = d
    generalize hc : fieldReset f i = c
    have : ∀ (m : Sparse), sparseGet d (sparseSet c m (fkey f i) (v % 2 ^ fieldWidth f)) (fkey g j) = sparseGet d m (fkey g j) := by
      intro m
      unfold sparseSet
      split
      · simpa [hk] using sparseGet_filter d m (fkey f i) (fkey g j)
      · simpa [hk] using sparseGet_ins d m (fkey f i) (v % 2 ^ fieldWidth f) (fkey g j)
    exact this m

@[simp] theorem rd_wr_same (b : Body) (f : Fld) (i v : Nat) : (b.wr f i v).rd f i = v % 2 ^ fieldWidth f := by
  simp [Body.rd, Body.wr, regGet_set]

@[simp] theorem rd_wr_fld (b : Body) (f g : Fld) (i j v : Nat) (h : g ≠ f) : (b.wr f i v).rd g j = b.rd g j := by
  simp [Body.rd, Body.wr, regGet_set, h]

theorem rd_wr_ix (b : Body) (f : Fld) (i j v : Nat) (h : j ≠ i) : (b.wr f i v).rd f j = b.rd f j := by
  simp [Body.rd, Body.wr, regGet_set, h]

theorem rd_wr (b : Body) (f g : Fld) (i j v : Nat) :
    (b.wr f i v).rd g j = if g = f ∧ j = i then v % 2 ^ fieldWidth f else b.rd g j := by
  simp [Body.rd, Body.wr, regGet_set]

end Sys2Proof.Laws
end

