-- ==== Sys2Proof/Laws/Blocks.lean ====
section
/-!
SUPPORT. What writing the closed ledger blocks can do (R427).
-/

namespace Sys2Proof.Laws

open Sys2Proof Sys2Proof.Machine

/-- A record placed in the stream with a new NEXTBLK changes the recorder and the registers alone. -/
theorem emitNext_kept (us : List Nat) (v : Nat) (b : Body) (f : Recorder → Recorder) :
    ∃ m r, ((b.emit ⟨us⟩).wr .recNextblkNo 0 v).onRcd f = { b with regs := m, rcd := r } := ⟨_, _, rfl⟩

/-- A record placed in the stream with a new NEXTBLK leaves every other register. -/
theorem emitNext_rd (us : List Nat) (v : Nat) (b : Body) (f : Recorder → Recorder) (g : Fld) (j : Nat) (h : g ≠ .recNextblkNo) :
    (((b.emit ⟨us⟩).wr .recNextblkNo 0 v).onRcd f).rd g j = b.rd g j :=
  rd_wr_fld (b.emit ⟨us⟩) .recNextblkNo g 0 j v h

/-- A block that is written changes the recorder and NEXTBLK alone. -/
theorem writeBlock_kept (w : BlkEnd) (b : Body) :
    (∃ m r, b.writeBlock w = { b with regs := m, rcd := r }) ∧
      ∀ g j, g ≠ .recNextblkNo → (b.writeBlock w).rd g j = b.rd g j := by
  delta Body.writeBlock
  exact ⟨emitNext_kept _ _ _ _, emitNext_rd _ _ _ _⟩

/-- Writing closed blocks changes the recorder and NEXTBLK alone. -/
theorem writeBlocks_kept (f : Nat) : ∀ b : Body,
    (∃ m r, Body.writeBlocks f b = { b with regs := m, rcd := r }) ∧
      ∀ g j, g ≠ .recNextblkNo → (Body.writeBlocks f b).rd g j = b.rd g j := by
  induction f with
  | zero => exact fun b => ⟨⟨_, _, rfl⟩, fun _ _ _ => rfl⟩
  | succ f ih =>
    intro b
    unfold Body.writeBlocks
    split
    · exact ⟨⟨_, _, rfl⟩, fun _ _ _ => rfl⟩
    · rename_i w rest _
      split
      · obtain ⟨⟨m, r, h⟩, hr⟩ := ih ((b.onRcd fun r => { r with blkWait := rest }).writeBlock w)
        obtain ⟨⟨m', r', h'⟩, hr'⟩ := writeBlock_kept w (b.onRcd fun r => { r with blkWait := rest })
        exact ⟨⟨m, r, by rw [h, h']; rfl⟩, fun g j hg => by rw [hr g j hg, hr' g j hg]; rfl⟩
      · exact ⟨⟨_, _, rfl⟩, fun _ _ _ => rfl⟩

/-- With no block that waits, nothing is written. -/
theorem settleBlocks_none (b : Body) (h : b.rcd.blkWait = []) : b.settleBlocks = b := by
  simp [Body.settleBlocks, h, Body.writeBlocks]

/-- While the oldest block lacks an increment, nothing is written. -/
theorem settleBlocks_waits (b : Body) {w : BlkEnd} {ws : List BlkEnd} (h : b.rcd.blkWait = w :: ws) (hs : b.sumsTo w.endE = false) :
    b.settleBlocks = b := by
  simp [Body.settleBlocks, h, Body.writeBlocks, hs]

/-- While a checkpoint is due, nothing is written. -/
theorem settleBlocks_due (b : Body) {c : Bool} (hd : b.rcd.ckptDue = some c) : b.settleBlocks = b := by
  unfold Body.settleBlocks
  cases h : b.rcd.blkWait with
  | nil => rfl
  | cons w ws => simp [Body.writeBlocks, h, hd]

/-- The one block that waits is written once its increments are complete and no checkpoint is due. -/
theorem settleBlocks_one (b : Body) {w : BlkEnd} (h : b.rcd.blkWait = [w]) (hd : b.rcd.ckptDue = none) (hs : b.sumsTo w.endE = true) :
    b.settleBlocks = (b.onRcd fun r => { r with blkWait := [] }).writeBlock w := by
  simp [Body.settleBlocks, h, hd, Body.writeBlocks, hs]

end Sys2Proof.Laws
end

