-- ==== Sys2Proof/Laws/State.lean ====
section
/-!
SUPPORT. One lemma per field per update of the body: what an update leaves as it was.
-/

namespace Sys2Proof.Laws

open Sys2Proof Sys2Proof.Machine

/-- Moving in time leaves the queue. -/
@[simp] theorem goTo_pending (s : State) (t : Nat) : (s.goTo t).pending = s.pending := rfl
@[simp] theorem goTo_body (s : State) (t : Nat) : (s.goTo t).body = s.body := rfl
@[simp] theorem goTo_starch (s : State) (t : Nat) : (s.goTo t).starch = s.starch := rfl

@[simp] theorem wr_role (b : Body) (f : Fld) (i v : Nat) : (b.wr f i v).role = b.role := rfl
@[simp] theorem wr_chan (b : Body) (f : Fld) (i v : Nat) : (b.wr f i v).chan = b.chan := rfl
@[simp] theorem wr_eng (b : Body) (f : Fld) (i v : Nat) : (b.wr f i v).eng = b.eng := rfl
@[simp] theorem wr_die (b : Body) (f : Fld) (i v : Nat) : (b.wr f i v).die = b.die := rfl
@[simp] theorem wr_bud (b : Body) (f : Fld) (i v : Nat) : (b.wr f i v).bud = b.bud := rfl
@[simp] theorem wr_rcd (b : Body) (f : Fld) (i v : Nat) : (b.wr f i v).rcd = b.rcd := rfl
@[simp] theorem wr_mtr (b : Body) (f : Fld) (i v : Nat) : (b.wr f i v).mtr = b.mtr := rfl
@[simp] theorem wr_disc (b : Body) (f : Fld) (i v : Nat) : (b.wr f i v).disc = b.disc := rfl
@[simp] theorem wr_tmr (b : Body) (f : Fld) (i v : Nat) : (b.wr f i v).tmr = b.tmr := rfl
@[simp] theorem wr_health (b : Body) (f : Fld) (i v : Nat) : (b.wr f i v).health = b.health := rfl
@[simp] theorem wr_fdr (b : Body) (f : Fld) (i v : Nat) : (b.wr f i v).fdr = b.fdr := rfl
@[simp] theorem wr_twin (b : Body) (f : Fld) (i v : Nat) : (b.wr f i v).twin = b.twin := rfl
@[simp] theorem wr_boot (b : Body) (f : Fld) (i v : Nat) : (b.wr f i v).boot = b.boot := rfl
@[simp] theorem wr_hp (b : Body) (f : Fld) (i v : Nat) : (b.wr f i v).hp = b.hp := rfl
@[simp] theorem wr_gainDue (b : Body) (f : Fld) (i v : Nat) : (b.wr f i v).gainDue = b.gainDue := rfl
@[simp] theorem wr_dozeReq (b : Body) (f : Fld) (i v : Nat) : (b.wr f i v).dozeReq = b.dozeReq := rfl
@[simp] theorem wr_trendWords (b : Body) (f : Fld) (i v : Nat) : (b.wr f i v).trendWords = b.trendWords := rfl
@[simp] theorem wr_alertLow (b : Body) (f : Fld) (i v : Nat) : (b.wr f i v).alertLow = b.alertLow := rfl
@[simp] theorem wr_alertHold (b : Body) (f : Fld) (i v : Nat) : (b.wr f i v).alertHold = b.alertHold := rfl
@[simp] theorem wr_hubDown (b : Body) (f : Fld) (i v : Nat) : (b.wr f i v).hubDown = b.hubDown := rfl
@[simp] theorem wr_doze (b : Body) (f : Fld) (i v : Nat) : (b.wr f i v).doze = b.doze := rfl
@[simp] theorem wr_dozeLeaves (b : Body) (f : Fld) (i v : Nat) : (b.wr f i v).dozeLeaves = b.dozeLeaves := rfl
@[simp] theorem wr_reply (b : Body) (f : Fld) (i v : Nat) : (b.wr f i v).reply = b.reply := rfl
@[simp] theorem wr_freeIx (b : Body) (f : Fld) (i v : Nat) : (b.wr f i v).freeIx = b.freeIx := rfl
@[simp] theorem wr_ch (b : Body) (f : Fld) (i v : Nat) (n' : Nat) : (b.wr f i v).ch n' = b.ch n' := rfl
@[simp] theorem wr_en (b : Body) (f : Fld) (i v : Nat) (n' : Nat) : (b.wr f i v).en n' = b.en n' := rfl
@[simp] theorem wr_fe (b : Body) (f : Fld) (i v : Nat) (k' : Nat) : (b.wr f i v).fe k' = b.fe k' := rfl
@[simp] theorem wr_drd (b : Body) (f : Fld) (i v : Nat) (k' : Nat) (g : Fld) (j : Nat) : (b.wr f i v).drd k' g j = b.drd k' g j := rfl
@[simp] theorem wr_cd (b : Body) (f : Fld) (i v : Nat) (g : Fld) (n' : Nat) : (b.wr f i v).cd g n' = b.cd g n' := rfl
@[simp] theorem wr_port (b : Body) (f : Fld) (i v : Nat) (p' : Nat) : (b.wr f i v).port p' = b.port p' := rfl

@[simp] theorem onCh_role (b : Body) (n : Nat) (f : Chan → Chan) : (b.onCh n f).role = b.role := rfl
@[simp] theorem onCh_regs (b : Body) (n : Nat) (f : Chan → Chan) : (b.onCh n f).regs = b.regs := rfl
@[simp] theorem onCh_eng (b : Body) (n : Nat) (f : Chan → Chan) : (b.onCh n f).eng = b.eng := rfl
@[simp] theorem onCh_die (b : Body) (n : Nat) (f : Chan → Chan) : (b.onCh n f).die = b.die := rfl
@[simp] theorem onCh_bud (b : Body) (n : Nat) (f : Chan → Chan) : (b.onCh n f).bud = b.bud := rfl
@[simp] theorem onCh_rcd (b : Body) (n : Nat) (f : Chan → Chan) : (b.onCh n f).rcd = b.rcd := rfl
@[simp] theorem onCh_mtr (b : Body) (n : Nat) (f : Chan → Chan) : (b.onCh n f).mtr = b.mtr := rfl
@[simp] theorem onCh_disc (b : Body) (n : Nat) (f : Chan → Chan) : (b.onCh n f).disc = b.disc := rfl
@[simp] theorem onCh_tmr (b : Body) (n : Nat) (f : Chan → Chan) : (b.onCh n f).tmr = b.tmr := rfl
@[simp] theorem onCh_health (b : Body) (n : Nat) (f : Chan → Chan) : (b.onCh n f).health = b.health := rfl
@[simp] theorem onCh_fdr (b : Body) (n : Nat) (f : Chan → Chan) : (b.onCh n f).fdr = b.fdr := rfl
@[simp] theorem onCh_twin (b : Body) (n : Nat) (f : Chan → Chan) : (b.onCh n f).twin = b.twin := rfl
@[simp] theorem onCh_boot (b : Body) (n : Nat) (f : Chan → Chan) : (b.onCh n f).boot = b.boot := rfl
@[simp] theorem onCh_hp (b : Body) (n : Nat) (f : Chan → Chan) : (b.onCh n f).hp = b.hp := rfl
@[simp] theorem onCh_gainDue (b : Body) (n : Nat) (f : Chan → Chan) : (b.onCh n f).gainDue = b.gainDue := rfl
@[simp] theorem onCh_dozeReq (b : Body) (n : Nat) (f : Chan → Chan) : (b.onCh n f).dozeReq = b.dozeReq := rfl
@[simp] theorem onCh_trendWords (b : Body) (n : Nat) (f : Chan → Chan) : (b.onCh n f).trendWords = b.trendWords := rfl
@[simp] theorem onCh_alertLow (b : Body) (n : Nat) (f : Chan → Chan) : (b.onCh n f).alertLow = b.alertLow := rfl
@[simp] theorem onCh_alertHold (b : Body) (n : Nat) (f : Chan → Chan) : (b.onCh n f).alertHold = b.alertHold := rfl
@[simp] theorem onCh_hubDown (b : Body) (n : Nat) (f : Chan → Chan) : (b.onCh n f).hubDown = b.hubDown := rfl
@[simp] theorem onCh_doze (b : Body) (n : Nat) (f : Chan → Chan) : (b.onCh n f).doze = b.doze := rfl
@[simp] theorem onCh_dozeLeaves (b : Body) (n : Nat) (f : Chan → Chan) : (b.onCh n f).dozeLeaves = b.dozeLeaves := rfl
@[simp] theorem onCh_reply (b : Body) (n : Nat) (f : Chan → Chan) : (b.onCh n f).reply = b.reply := rfl
@[simp] theorem onCh_freeIx (b : Body) (n : Nat) (f : Chan → Chan) : (b.onCh n f).freeIx = b.freeIx := rfl
@[simp] theorem onCh_en (b : Body) (n : Nat) (f : Chan → Chan) (n' : Nat) : (b.onCh n f).en n' = b.en n' := rfl
@[simp] theorem onCh_fe (b : Body) (n : Nat) (f : Chan → Chan) (k' : Nat) : (b.onCh n f).fe k' = b.fe k' := rfl
@[simp] theorem onCh_rd (b : Body) (n : Nat) (f : Chan → Chan) (g : Fld) (j : Nat) : (b.onCh n f).rd g j = b.rd g j := rfl
@[simp] theorem onCh_flag (b : Body) (n : Nat) (f : Chan → Chan) (g : Fld) (j : Nat) : (b.onCh n f).flag g j = b.flag g j := rfl
@[simp] theorem onCh_drd (b : Body) (n : Nat) (f : Chan → Chan) (k' : Nat) (g : Fld) (j : Nat) : (b.onCh n f).drd k' g j = b.drd k' g j := rfl
@[simp] theorem onCh_cd (b : Body) (n : Nat) (f : Chan → Chan) (g : Fld) (n' : Nat) : (b.onCh n f).cd g n' = b.cd g n' := rfl
@[simp] theorem onCh_port (b : Body) (n : Nat) (f : Chan → Chan) (p' : Nat) : (b.onCh n f).port p' = b.port p' := rfl

@[simp] theorem onEng_role (b : Body) (n : Nat) (f : Eng → Eng) : (b.onEng n f).role = b.role := rfl
@[simp] theorem onEng_regs (b : Body) (n : Nat) (f : Eng → Eng) : (b.onEng n f).regs = b.regs := rfl
@[simp] theorem onEng_chan (b : Body) (n : Nat) (f : Eng → Eng) : (b.onEng n f).chan = b.chan := rfl
@[simp] theorem onEng_die (b : Body) (n : Nat) (f : Eng → Eng) : (b.onEng n f).die = b.die := rfl
@[simp] theorem onEng_bud (b : Body) (n : Nat) (f : Eng → Eng) : (b.onEng n f).bud = b.bud := rfl
@[simp] theorem onEng_rcd (b : Body) (n : Nat) (f : Eng → Eng) : (b.onEng n f).rcd = b.rcd := rfl
@[simp] theorem onEng_mtr (b : Body) (n : Nat) (f : Eng → Eng) : (b.onEng n f).mtr = b.mtr := rfl
@[simp] theorem onEng_disc (b : Body) (n : Nat) (f : Eng → Eng) : (b.onEng n f).disc = b.disc := rfl
@[simp] theorem onEng_tmr (b : Body) (n : Nat) (f : Eng → Eng) : (b.onEng n f).tmr = b.tmr := rfl
@[simp] theorem onEng_health (b : Body) (n : Nat) (f : Eng → Eng) : (b.onEng n f).health = b.health := rfl
@[simp] theorem onEng_fdr (b : Body) (n : Nat) (f : Eng → Eng) : (b.onEng n f).fdr = b.fdr := rfl
@[simp] theorem onEng_twin (b : Body) (n : Nat) (f : Eng → Eng) : (b.onEng n f).twin = b.twin := rfl
@[simp] theorem onEng_boot (b : Body) (n : Nat) (f : Eng → Eng) : (b.onEng n f).boot = b.boot := rfl
@[simp] theorem onEng_hp (b : Body) (n : Nat) (f : Eng → Eng) : (b.onEng n f).hp = b.hp := rfl
@[simp] theorem onEng_gainDue (b : Body) (n : Nat) (f : Eng → Eng) : (b.onEng n f).gainDue = b.gainDue := rfl
@[simp] theorem onEng_dozeReq (b : Body) (n : Nat) (f : Eng → Eng) : (b.onEng n f).dozeReq = b.dozeReq := rfl
@[simp] theorem onEng_trendWords (b : Body) (n : Nat) (f : Eng → Eng) : (b.onEng n f).trendWords = b.trendWords := rfl
@[simp] theorem onEng_alertLow (b : Body) (n : Nat) (f : Eng → Eng) : (b.onEng n f).alertLow = b.alertLow := rfl
@[simp] theorem onEng_alertHold (b : Body) (n : Nat) (f : Eng → Eng) : (b.onEng n f).alertHold = b.alertHold := rfl
@[simp] theorem onEng_hubDown (b : Body) (n : Nat) (f : Eng → Eng) : (b.onEng n f).hubDown = b.hubDown := rfl
@[simp] theorem onEng_doze (b : Body) (n : Nat) (f : Eng → Eng) : (b.onEng n f).doze = b.doze := rfl
@[simp] theorem onEng_dozeLeaves (b : Body) (n : Nat) (f : Eng → Eng) : (b.onEng n f).dozeLeaves = b.dozeLeaves := rfl
@[simp] theorem onEng_reply (b : Body) (n : Nat) (f : Eng → Eng) : (b.onEng n f).reply = b.reply := rfl
@[simp] theorem onEng_freeIx (b : Body) (n : Nat) (f : Eng → Eng) : (b.onEng n f).freeIx = b.freeIx := rfl
@[simp] theorem onEng_ch (b : Body) (n : Nat) (f : Eng → Eng) (n' : Nat) : (b.onEng n f).ch n' = b.ch n' := rfl
@[simp] theorem onEng_fe (b : Body) (n : Nat) (f : Eng → Eng) (k' : Nat) : (b.onEng n f).fe k' = b.fe k' := rfl
@[simp] theorem onEng_rd (b : Body) (n : Nat) (f : Eng → Eng) (g : Fld) (j : Nat) : (b.onEng n f).rd g j = b.rd g j := rfl
@[simp] theorem onEng_flag (b : Body) (n : Nat) (f : Eng → Eng) (g : Fld) (j : Nat) : (b.onEng n f).flag g j = b.flag g j := rfl
@[simp] theorem onEng_drd (b : Body) (n : Nat) (f : Eng → Eng) (k' : Nat) (g : Fld) (j : Nat) : (b.onEng n f).drd k' g j = b.drd k' g j := rfl
@[simp] theorem onEng_cd (b : Body) (n : Nat) (f : Eng → Eng) (g : Fld) (n' : Nat) : (b.onEng n f).cd g n' = b.cd g n' := rfl
@[simp] theorem onEng_port (b : Body) (n : Nat) (f : Eng → Eng) (p' : Nat) : (b.onEng n f).port p' = b.port p' := rfl

@[simp] theorem onDie_role (b : Body) (k : Nat) (f : Die → Die) : (b.onDie k f).role = b.role := rfl
@[simp] theorem onDie_regs (b : Body) (k : Nat) (f : Die → Die) : (b.onDie k f).regs = b.regs := rfl
@[simp] theorem onDie_chan (b : Body) (k : Nat) (f : Die → Die) : (b.onDie k f).chan = b.chan := rfl
@[simp] theorem onDie_eng (b : Body) (k : Nat) (f : Die → Die) : (b.onDie k f).eng = b.eng := rfl
@[simp] theorem onDie_bud (b : Body) (k : Nat) (f : Die → Die) : (b.onDie k f).bud = b.bud := rfl
@[simp] theorem onDie_rcd (b : Body) (k : Nat) (f : Die → Die) : (b.onDie k f).rcd = b.rcd := rfl
@[simp] theorem onDie_mtr (b : Body) (k : Nat) (f : Die → Die) : (b.onDie k f).mtr = b.mtr := rfl
@[simp] theorem onDie_disc (b : Body) (k : Nat) (f : Die → Die) : (b.onDie k f).disc = b.disc := rfl
@[simp] theorem onDie_tmr (b : Body) (k : Nat) (f : Die → Die) : (b.onDie k f).tmr = b.tmr := rfl
@[simp] theorem onDie_health (b : Body) (k : Nat) (f : Die → Die) : (b.onDie k f).health = b.health := rfl
@[simp] theorem onDie_fdr (b : Body) (k : Nat) (f : Die → Die) : (b.onDie k f).fdr = b.fdr := rfl
@[simp] theorem onDie_twin (b : Body) (k : Nat) (f : Die → Die) : (b.onDie k f).twin = b.twin := rfl
@[simp] theorem onDie_boot (b : Body) (k : Nat) (f : Die → Die) : (b.onDie k f).boot = b.boot := rfl
@[simp] theorem onDie_hp (b : Body) (k : Nat) (f : Die → Die) : (b.onDie k f).hp = b.hp := rfl
@[simp] theorem onDie_gainDue (b : Body) (k : Nat) (f : Die → Die) : (b.onDie k f).gainDue = b.gainDue := rfl
@[simp] theorem onDie_dozeReq (b : Body) (k : Nat) (f : Die → Die) : (b.onDie k f).dozeReq = b.dozeReq := rfl
@[simp] theorem onDie_trendWords (b : Body) (k : Nat) (f : Die → Die) : (b.onDie k f).trendWords = b.trendWords := rfl
@[simp] theorem onDie_alertLow (b : Body) (k : Nat) (f : Die → Die) : (b.onDie k f).alertLow = b.alertLow := rfl
@[simp] theorem onDie_alertHold (b : Body) (k : Nat) (f : Die → Die) : (b.onDie k f).alertHold = b.alertHold := rfl
@[simp] theorem onDie_hubDown (b : Body) (k : Nat) (f : Die → Die) : (b.onDie k f).hubDown = b.hubDown := rfl
@[simp] theorem onDie_doze (b : Body) (k : Nat) (f : Die → Die) : (b.onDie k f).doze = b.doze := rfl
@[simp] theorem onDie_dozeLeaves (b : Body) (k : Nat) (f : Die → Die) : (b.onDie k f).dozeLeaves = b.dozeLeaves := rfl
@[simp] theorem onDie_reply (b : Body) (k : Nat) (f : Die → Die) : (b.onDie k f).reply = b.reply := rfl
@[simp] theorem onDie_freeIx (b : Body) (k : Nat) (f : Die → Die) : (b.onDie k f).freeIx = b.freeIx := rfl
@[simp] theorem onDie_ch (b : Body) (k : Nat) (f : Die → Die) (n' : Nat) : (b.onDie k f).ch n' = b.ch n' := rfl
@[simp] theorem onDie_en (b : Body) (k : Nat) (f : Die → Die) (n' : Nat) : (b.onDie k f).en n' = b.en n' := rfl
@[simp] theorem onDie_rd (b : Body) (k : Nat) (f : Die → Die) (g : Fld) (j : Nat) : (b.onDie k f).rd g j = b.rd g j := rfl
@[simp] theorem onDie_flag (b : Body) (k : Nat) (f : Die → Die) (g : Fld) (j : Nat) : (b.onDie k f).flag g j = b.flag g j := rfl
@[simp] theorem onDie_port (b : Body) (k : Nat) (f : Die → Die) (p' : Nat) : (b.onDie k f).port p' = b.port p' := rfl

@[simp] theorem dwr_role (b : Body) (k : Nat) (f : Fld) (i v : Nat) : (b.dwr k f i v).role = b.role := rfl
@[simp] theorem dwr_regs (b : Body) (k : Nat) (f : Fld) (i v : Nat) : (b.dwr k f i v).regs = b.regs := rfl
@[simp] theorem dwr_chan (b : Body) (k : Nat) (f : Fld) (i v : Nat) : (b.dwr k f i v).chan = b.chan := rfl
@[simp] theorem dwr_eng (b : Body) (k : Nat) (f : Fld) (i v : Nat) : (b.dwr k f i v).eng = b.eng := rfl
@[simp] theorem dwr_bud (b : Body) (k : Nat) (f : Fld) (i v : Nat) : (b.dwr k f i v).bud = b.bud := rfl
@[simp] theorem dwr_rcd (b : Body) (k : Nat) (f : Fld) (i v : Nat) : (b.dwr k f i v).rcd = b.rcd := rfl
@[simp] theorem dwr_mtr (b : Body) (k : Nat) (f : Fld) (i v : Nat) : (b.dwr k f i v).mtr = b.mtr := rfl
@[simp] theorem dwr_disc (b : Body) (k : Nat) (f : Fld) (i v : Nat) : (b.dwr k f i v).disc = b.disc := rfl
@[simp] theorem dwr_tmr (b : Body) (k : Nat) (f : Fld) (i v : Nat) : (b.dwr k f i v).tmr = b.tmr := rfl
@[simp] theorem dwr_health (b : Body) (k : Nat) (f : Fld) (i v : Nat) : (b.dwr k f i v).health = b.health := rfl
@[simp] theorem dwr_fdr (b : Body) (k : Nat) (f : Fld) (i v : Nat) : (b.dwr k f i v).fdr = b.fdr := rfl
@[simp] theorem dwr_twin (b : Body) (k : Nat) (f : Fld) (i v : Nat) : (b.dwr k f i v).twin = b.twin := rfl
@[simp] theorem dwr_boot (b : Body) (k : Nat) (f : Fld) (i v : Nat) : (b.dwr k f i v).boot = b.boot := rfl
@[simp] theorem dwr_hp (b : Body) (k : Nat) (f : Fld) (i v : Nat) : (b.dwr k f i v).hp = b.hp := rfl
@[simp] theorem dwr_gainDue (b : Body) (k : Nat) (f : Fld) (i v : Nat) : (b.dwr k f i v).gainDue = b.gainDue := rfl
@[simp] theorem dwr_dozeReq (b : Body) (k : Nat) (f : Fld) (i v : Nat) : (b.dwr k f i v).dozeReq = b.dozeReq := rfl
@[simp] theorem dwr_trendWords (b : Body) (k : Nat) (f : Fld) (i v : Nat) : (b.dwr k f i v).trendWords = b.trendWords := rfl
@[simp] theorem dwr_alertLow (b : Body) (k : Nat) (f : Fld) (i v : Nat) : (b.dwr k f i v).alertLow = b.alertLow := rfl
@[simp] theorem dwr_alertHold (b : Body) (k : Nat) (f : Fld) (i v : Nat) : (b.dwr k f i v).alertHold = b.alertHold := rfl
@[simp] theorem dwr_hubDown (b : Body) (k : Nat) (f : Fld) (i v : Nat) : (b.dwr k f i v).hubDown = b.hubDown := rfl
@[simp] theorem dwr_doze (b : Body) (k : Nat) (f : Fld) (i v : Nat) : (b.dwr k f i v).doze = b.doze := rfl
@[simp] theorem dwr_dozeLeaves (b : Body) (k : Nat) (f : Fld) (i v : Nat) : (b.dwr k f i v).dozeLeaves = b.dozeLeaves := rfl
@[simp] theorem dwr_reply (b : Body) (k : Nat) (f : Fld) (i v : Nat) : (b.dwr k f i v).reply = b.reply := rfl
@[simp] theorem dwr_freeIx (b : Body) (k : Nat) (f : Fld) (i v : Nat) : (b.dwr k f i v).freeIx = b.freeIx := rfl
@[simp] theorem dwr_ch (b : Body) (k : Nat) (f : Fld) (i v : Nat) (n' : Nat) : (b.dwr k f i v).ch n' = b.ch n' := rfl
@[simp] theorem dwr_en (b : Body) (k : Nat) (f : Fld) (i v : Nat) (n' : Nat) : (b.dwr k f i v).en n' = b.en n' := rfl
@[simp] theorem dwr_rd (b : Body) (k : Nat) (f : Fld) (i v : Nat) (g : Fld) (j : Nat) : (b.dwr k f i v).rd g j = b.rd g j := rfl
@[simp] theorem dwr_flag (b : Body) (k : Nat) (f : Fld) (i v : Nat) (g : Fld) (j : Nat) : (b.dwr k f i v).flag g j = b.flag g j := rfl
@[simp] theorem dwr_port (b : Body) (k : Nat) (f : Fld) (i v : Nat) (p' : Nat) : (b.dwr k f i v).port p' = b.port p' := rfl

@[simp] theorem sendDown_role (b : Body) (k : Nat) (m : DownMsg) : (b.sendDown k m).role = b.role := rfl
@[simp] theorem sendDown_regs (b : Body) (k : Nat) (m : DownMsg) : (b.sendDown k m).regs = b.regs := rfl
@[simp] theorem sendDown_chan (b : Body) (k : Nat) (m : DownMsg) : (b.sendDown k m).chan = b.chan := rfl
@[simp] theorem sendDown_eng (b : Body) (k : Nat) (m : DownMsg) : (b.sendDown k m).eng = b.eng := rfl
@[simp] theorem sendDown_bud (b : Body) (k : Nat) (m : DownMsg) : (b.sendDown k m).bud = b.bud := rfl
@[simp] theorem sendDown_rcd (b : Body) (k : Nat) (m : DownMsg) : (b.sendDown k m).rcd = b.rcd := rfl
@[simp] theorem sendDown_mtr (b : Body) (k : Nat) (m : DownMsg) : (b.sendDown k m).mtr = b.mtr := rfl
@[simp] theorem sendDown_disc (b : Body) (k : Nat) (m : DownMsg) : (b.sendDown k m).disc = b.disc := rfl
@[simp] theorem sendDown_tmr (b : Body) (k : Nat) (m : DownMsg) : (b.sendDown k m).tmr = b.tmr := rfl
@[simp] theorem sendDown_health (b : Body) (k : Nat) (m : DownMsg) : (b.sendDown k m).health = b.health := rfl
@[simp] theorem sendDown_fdr (b : Body) (k : Nat) (m : DownMsg) : (b.sendDown k m).fdr = b.fdr := rfl
@[simp] theorem sendDown_twin (b : Body) (k : Nat) (m : DownMsg) : (b.sendDown k m).twin = b.twin := rfl
@[simp] theorem sendDown_boot (b : Body) (k : Nat) (m : DownMsg) : (b.sendDown k m).boot = b.boot := rfl
@[simp] theorem sendDown_hp (b : Body) (k : Nat) (m : DownMsg) : (b.sendDown k m).hp = b.hp := rfl
@[simp] theorem sendDown_gainDue (b : Body) (k : Nat) (m : DownMsg) : (b.sendDown k m).gainDue = b.gainDue := rfl
@[simp] theorem sendDown_dozeReq (b : Body) (k : Nat) (m : DownMsg) : (b.sendDown k m).dozeReq = b.dozeReq := rfl
@[simp] theorem sendDown_trendWords (b : Body) (k : Nat) (m : DownMsg) : (b.sendDown k m).trendWords = b.trendWords := rfl
@[simp] theorem sendDown_alertLow (b : Body) (k : Nat) (m : DownMsg) : (b.sendDown k m).alertLow = b.alertLow := rfl
@[simp] theorem sendDown_alertHold (b : Body) (k : Nat) (m : DownMsg) : (b.sendDown k m).alertHold = b.alertHold := rfl
@[simp] theorem sendDown_hubDown (b : Body) (k : Nat) (m : DownMsg) : (b.sendDown k m).hubDown = b.hubDown := rfl
@[simp] theorem sendDown_doze (b : Body) (k : Nat) (m : DownMsg) : (b.sendDown k m).doze = b.doze := rfl
@[simp] theorem sendDown_dozeLeaves (b : Body) (k : Nat) (m : DownMsg) : (b.sendDown k m).dozeLeaves = b.dozeLeaves := rfl
@[simp] theorem sendDown_reply (b : Body) (k : Nat) (m : DownMsg) : (b.sendDown k m).reply = b.reply := rfl
@[simp] theorem sendDown_freeIx (b : Body) (k : Nat) (m : DownMsg) : (b.sendDown k m).freeIx = b.freeIx := rfl
@[simp] theorem sendDown_ch (b : Body) (k : Nat) (m : DownMsg) (n' : Nat) : (b.sendDown k m).ch n' = b.ch n' := rfl
@[simp] theorem sendDown_en (b : Body) (k : Nat) (m : DownMsg) (n' : Nat) : (b.sendDown k m).en n' = b.en n' := rfl
@[simp] theorem sendDown_rd (b : Body) (k : Nat) (m : DownMsg) (g : Fld) (j : Nat) : (b.sendDown k m).rd g j = b.rd g j := rfl
@[simp] theorem sendDown_flag (b : Body) (k : Nat) (m : DownMsg) (g : Fld) (j : Nat) : (b.sendDown k m).flag g j = b.flag g j := rfl
@[simp] theorem sendDown_port (b : Body) (k : Nat) (m : DownMsg) (p' : Nat) : (b.sendDown k m).port p' = b.port p' := rfl

@[simp] theorem emit_role (b : Body) (r : LRec) : (b.emit r).role = b.role := rfl
@[simp] theorem emit_regs (b : Body) (r : LRec) : (b.emit r).regs = b.regs := rfl
@[simp] theorem emit_chan (b : Body) (r : LRec) : (b.emit r).chan = b.chan := rfl
@[simp] theorem emit_eng (b : Body) (r : LRec) : (b.emit r).eng = b.eng := rfl
@[simp] theorem emit_die (b : Body) (r : LRec) : (b.emit r).die = b.die := rfl
@[simp] theorem emit_bud (b : Body) (r : LRec) : (b.emit r).bud = b.bud := rfl
@[simp] theorem emit_mtr (b : Body) (r : LRec) : (b.emit r).mtr = b.mtr := rfl
@[simp] theorem emit_disc (b : Body) (r : LRec) : (b.emit r).disc = b.disc := rfl
@[simp] theorem emit_tmr (b : Body) (r : LRec) : (b.emit r).tmr = b.tmr := rfl
@[simp] theorem emit_health (b : Body) (r : LRec) : (b.emit r).health = b.health := rfl
@[simp] theorem emit_fdr (b : Body) (r : LRec) : (b.emit r).fdr = b.fdr := rfl
@[simp] theorem emit_twin (b : Body) (r : LRec) : (b.emit r).twin = b.twin := rfl
@[simp] theorem emit_boot (b : Body) (r : LRec) : (b.emit r).boot = b.boot := rfl
@[simp] theorem emit_hp (b : Body) (r : LRec) : (b.emit r).hp = b.hp := rfl
@[simp] theorem emit_gainDue (b : Body) (r : LRec) : (b.emit r).gainDue = b.gainDue := rfl
@[simp] theorem emit_dozeReq (b : Body) (r : LRec) : (b.emit r).dozeReq = b.dozeReq := rfl
@[simp] theorem emit_trendWords (b : Body) (r : LRec) : (b.emit r).trendWords = b.trendWords := rfl
@[simp] theorem emit_alertLow (b : Body) (r : LRec) : (b.emit r).alertLow = b.alertLow := rfl
@[simp] theorem emit_alertHold (b : Body) (r : LRec) : (b.emit r).alertHold = b.alertHold := rfl
@[simp] theorem emit_hubDown (b : Body) (r : LRec) : (b.emit r).hubDown = b.hubDown := rfl
@[simp] theorem emit_doze (b : Body) (r : LRec) : (b.emit r).doze = b.doze := rfl
@[simp] theorem emit_dozeLeaves (b : Body) (r : LRec) : (b.emit r).dozeLeaves = b.dozeLeaves := rfl
@[simp] theorem emit_reply (b : Body) (r : LRec) : (b.emit r).reply = b.reply := rfl
@[simp] theorem emit_freeIx (b : Body) (r : LRec) : (b.emit r).freeIx = b.freeIx := rfl
@[simp] theorem emit_ch (b : Body) (r : LRec) (n' : Nat) : (b.emit r).ch n' = b.ch n' := rfl
@[simp] theorem emit_en (b : Body) (r : LRec) (n' : Nat) : (b.emit r).en n' = b.en n' := rfl
@[simp] theorem emit_fe (b : Body) (r : LRec) (k' : Nat) : (b.emit r).fe k' = b.fe k' := rfl
@[simp] theorem emit_rd (b : Body) (r : LRec) (g : Fld) (j : Nat) : (b.emit r).rd g j = b.rd g j := rfl
@[simp] theorem emit_flag (b : Body) (r : LRec) (g : Fld) (j : Nat) : (b.emit r).flag g j = b.flag g j := rfl
@[simp] theorem emit_drd (b : Body) (r : LRec) (k' : Nat) (g : Fld) (j : Nat) : (b.emit r).drd k' g j = b.drd k' g j := rfl
@[simp] theorem emit_cd (b : Body) (r : LRec) (g : Fld) (n' : Nat) : (b.emit r).cd g n' = b.cd g n' := rfl
@[simp] theorem emit_port (b : Body) (r : LRec) (p' : Nat) : (b.emit r).port p' = b.port p' := rfl

@[simp] theorem onRcd_role (b : Body) (f : Recorder → Recorder) : (b.onRcd f).role = b.role := rfl
@[simp] theorem onRcd_regs (b : Body) (f : Recorder → Recorder) : (b.onRcd f).regs = b.regs := rfl
@[simp] theorem onRcd_chan (b : Body) (f : Recorder → Recorder) : (b.onRcd f).chan = b.chan := rfl
@[simp] theorem onRcd_eng (b : Body) (f : Recorder → Recorder) : (b.onRcd f).eng = b.eng := rfl
@[simp] theorem onRcd_die (b : Body) (f : Recorder → Recorder) : (b.onRcd f).die = b.die := rfl
@[simp] theorem onRcd_bud (b : Body) (f : Recorder → Recorder) : (b.onRcd f).bud = b.bud := rfl
@[simp] theorem onRcd_mtr (b : Body) (f : Recorder → Recorder) : (b.onRcd f).mtr = b.mtr := rfl
@[simp] theorem onRcd_disc (b : Body) (f : Recorder → Recorder) : (b.onRcd f).disc = b.disc := rfl
@[simp] theorem onRcd_tmr (b : Body) (f : Recorder → Recorder) : (b.onRcd f).tmr = b.tmr := rfl
@[simp] theorem onRcd_health (b : Body) (f : Recorder → Recorder) : (b.onRcd f).health = b.health := rfl
@[simp] theorem onRcd_fdr (b : Body) (f : Recorder → Recorder) : (b.onRcd f).fdr = b.fdr := rfl
@[simp] theorem onRcd_twin (b : Body) (f : Recorder → Recorder) : (b.onRcd f).twin = b.twin := rfl
@[simp] theorem onRcd_boot (b : Body) (f : Recorder → Recorder) : (b.onRcd f).boot = b.boot := rfl
@[simp] theorem onRcd_hp (b : Body) (f : Recorder → Recorder) : (b.onRcd f).hp = b.hp := rfl
@[simp] theorem onRcd_gainDue (b : Body) (f : Recorder → Recorder) : (b.onRcd f).gainDue = b.gainDue := rfl
@[simp] theorem onRcd_dozeReq (b : Body) (f : Recorder → Recorder) : (b.onRcd f).dozeReq = b.dozeReq := rfl
@[simp] theorem onRcd_trendWords (b : Body) (f : Recorder → Recorder) : (b.onRcd f).trendWords = b.trendWords := rfl
@[simp] theorem onRcd_alertLow (b : Body) (f : Recorder → Recorder) : (b.onRcd f).alertLow = b.alertLow := rfl
@[simp] theorem onRcd_alertHold (b : Body) (f : Recorder → Recorder) : (b.onRcd f).alertHold = b.alertHold := rfl
@[simp] theorem onRcd_hubDown (b : Body) (f : Recorder → Recorder) : (b.onRcd f).hubDown = b.hubDown := rfl
@[simp] theorem onRcd_doze (b : Body) (f : Recorder → Recorder) : (b.onRcd f).doze = b.doze := rfl
@[simp] theorem onRcd_dozeLeaves (b : Body) (f : Recorder → Recorder) : (b.onRcd f).dozeLeaves = b.dozeLeaves := rfl
@[simp] theorem onRcd_reply (b : Body) (f : Recorder → Recorder) : (b.onRcd f).reply = b.reply := rfl
@[simp] theorem onRcd_freeIx (b : Body) (f : Recorder → Recorder) : (b.onRcd f).freeIx = b.freeIx := rfl
@[simp] theorem onRcd_ch (b : Body) (f : Recorder → Recorder) (n' : Nat) : (b.onRcd f).ch n' = b.ch n' := rfl
@[simp] theorem onRcd_en (b : Body) (f : Recorder → Recorder) (n' : Nat) : (b.onRcd f).en n' = b.en n' := rfl
@[simp] theorem onRcd_fe (b : Body) (f : Recorder → Recorder) (k' : Nat) : (b.onRcd f).fe k' = b.fe k' := rfl
@[simp] theorem onRcd_rd (b : Body) (f : Recorder → Recorder) (g : Fld) (j : Nat) : (b.onRcd f).rd g j = b.rd g j := rfl
@[simp] theorem onRcd_flag (b : Body) (f : Recorder → Recorder) (g : Fld) (j : Nat) : (b.onRcd f).flag g j = b.flag g j := rfl
@[simp] theorem onRcd_drd (b : Body) (f : Recorder → Recorder) (k' : Nat) (g : Fld) (j : Nat) : (b.onRcd f).drd k' g j = b.drd k' g j := rfl
@[simp] theorem onRcd_cd (b : Body) (f : Recorder → Recorder) (g : Fld) (n' : Nat) : (b.onRcd f).cd g n' = b.cd g n' := rfl
@[simp] theorem onRcd_port (b : Body) (f : Recorder → Recorder) (p' : Nat) : (b.onRcd f).port p' = b.port p' := rfl

@[simp] theorem onMtr_role (b : Body) (f : Meter → Meter) : (b.onMtr f).role = b.role := rfl
@[simp] theorem onMtr_regs (b : Body) (f : Meter → Meter) : (b.onMtr f).regs = b.regs := rfl
@[simp] theorem onMtr_chan (b : Body) (f : Meter → Meter) : (b.onMtr f).chan = b.chan := rfl
@[simp] theorem onMtr_eng (b : Body) (f : Meter → Meter) : (b.onMtr f).eng = b.eng := rfl
@[simp] theorem onMtr_die (b : Body) (f : Meter → Meter) : (b.onMtr f).die = b.die := rfl
@[simp] theorem onMtr_bud (b : Body) (f : Meter → Meter) : (b.onMtr f).bud = b.bud := rfl
@[simp] theorem onMtr_rcd (b : Body) (f : Meter → Meter) : (b.onMtr f).rcd = b.rcd := rfl
@[simp] theorem onMtr_disc (b : Body) (f : Meter → Meter) : (b.onMtr f).disc = b.disc := rfl
@[simp] theorem onMtr_tmr (b : Body) (f : Meter → Meter) : (b.onMtr f).tmr = b.tmr := rfl
@[simp] theorem onMtr_health (b : Body) (f : Meter → Meter) : (b.onMtr f).health = b.health := rfl
@[simp] theorem onMtr_fdr (b : Body) (f : Meter → Meter) : (b.onMtr f).fdr = b.fdr := rfl
@[simp] theorem onMtr_twin (b : Body) (f : Meter → Meter) : (b.onMtr f).twin = b.twin := rfl
@[simp] theorem onMtr_boot (b : Body) (f : Meter → Meter) : (b.onMtr f).boot = b.boot := rfl
@[simp] theorem onMtr_hp (b : Body) (f : Meter → Meter) : (b.onMtr f).hp = b.hp := rfl
@[simp] theorem onMtr_gainDue (b : Body) (f : Meter → Meter) : (b.onMtr f).gainDue = b.gainDue := rfl
@[simp] theorem onMtr_dozeReq (b : Body) (f : Meter → Meter) : (b.onMtr f).dozeReq = b.dozeReq := rfl
@[simp] theorem onMtr_trendWords (b : Body) (f : Meter → Meter) : (b.onMtr f).trendWords = b.trendWords := rfl
@[simp] theorem onMtr_alertLow (b : Body) (f : Meter → Meter) : (b.onMtr f).alertLow = b.alertLow := rfl
@[simp] theorem onMtr_alertHold (b : Body) (f : Meter → Meter) : (b.onMtr f).alertHold = b.alertHold := rfl
@[simp] theorem onMtr_hubDown (b : Body) (f : Meter → Meter) : (b.onMtr f).hubDown = b.hubDown := rfl
@[simp] theorem onMtr_doze (b : Body) (f : Meter → Meter) : (b.onMtr f).doze = b.doze := rfl
@[simp] theorem onMtr_dozeLeaves (b : Body) (f : Meter → Meter) : (b.onMtr f).dozeLeaves = b.dozeLeaves := rfl
@[simp] theorem onMtr_reply (b : Body) (f : Meter → Meter) : (b.onMtr f).reply = b.reply := rfl
@[simp] theorem onMtr_freeIx (b : Body) (f : Meter → Meter) : (b.onMtr f).freeIx = b.freeIx := rfl
@[simp] theorem onMtr_ch (b : Body) (f : Meter → Meter) (n' : Nat) : (b.onMtr f).ch n' = b.ch n' := rfl
@[simp] theorem onMtr_en (b : Body) (f : Meter → Meter) (n' : Nat) : (b.onMtr f).en n' = b.en n' := rfl
@[simp] theorem onMtr_fe (b : Body) (f : Meter → Meter) (k' : Nat) : (b.onMtr f).fe k' = b.fe k' := rfl
@[simp] theorem onMtr_rd (b : Body) (f : Meter → Meter) (g : Fld) (j : Nat) : (b.onMtr f).rd g j = b.rd g j := rfl
@[simp] theorem onMtr_flag (b : Body) (f : Meter → Meter) (g : Fld) (j : Nat) : (b.onMtr f).flag g j = b.flag g j := rfl
@[simp] theorem onMtr_drd (b : Body) (f : Meter → Meter) (k' : Nat) (g : Fld) (j : Nat) : (b.onMtr f).drd k' g j = b.drd k' g j := rfl
@[simp] theorem onMtr_cd (b : Body) (f : Meter → Meter) (g : Fld) (n' : Nat) : (b.onMtr f).cd g n' = b.cd g n' := rfl
@[simp] theorem onMtr_port (b : Body) (f : Meter → Meter) (p' : Nat) : (b.onMtr f).port p' = b.port p' := rfl

@[simp] theorem onDisc_role (b : Body) (f : Disc → Disc) : (b.onDisc f).role = b.role := rfl
@[simp] theorem onDisc_regs (b : Body) (f : Disc → Disc) : (b.onDisc f).regs = b.regs := rfl
@[simp] theorem onDisc_chan (b : Body) (f : Disc → Disc) : (b.onDisc f).chan = b.chan := rfl
@[simp] theorem onDisc_eng (b : Body) (f : Disc → Disc) : (b.onDisc f).eng = b.eng := rfl
@[simp] theorem onDisc_die (b : Body) (f : Disc → Disc) : (b.onDisc f).die = b.die := rfl
@[simp] theorem onDisc_bud (b : Body) (f : Disc → Disc) : (b.onDisc f).bud = b.bud := rfl
@[simp] theorem onDisc_rcd (b : Body) (f : Disc → Disc) : (b.onDisc f).rcd = b.rcd := rfl
@[simp] theorem onDisc_mtr (b : Body) (f : Disc → Disc) : (b.onDisc f).mtr = b.mtr := rfl
@[simp] theorem onDisc_tmr (b : Body) (f : Disc → Disc) : (b.onDisc f).tmr = b.tmr := rfl
@[simp] theorem onDisc_health (b : Body) (f : Disc → Disc) : (b.onDisc f).health = b.health := rfl
@[simp] theorem onDisc_fdr (b : Body) (f : Disc → Disc) : (b.onDisc f).fdr = b.fdr := rfl
@[simp] theorem onDisc_twin (b : Body) (f : Disc → Disc) : (b.onDisc f).twin = b.twin := rfl
@[simp] theorem onDisc_boot (b : Body) (f : Disc → Disc) : (b.onDisc f).boot = b.boot := rfl
@[simp] theorem onDisc_hp (b : Body) (f : Disc → Disc) : (b.onDisc f).hp = b.hp := rfl
@[simp] theorem onDisc_gainDue (b : Body) (f : Disc → Disc) : (b.onDisc f).gainDue = b.gainDue := rfl
@[simp] theorem onDisc_dozeReq (b : Body) (f : Disc → Disc) : (b.onDisc f).dozeReq = b.dozeReq := rfl
@[simp] theorem onDisc_trendWords (b : Body) (f : Disc → Disc) : (b.onDisc f).trendWords = b.trendWords := rfl
@[simp] theorem onDisc_alertLow (b : Body) (f : Disc → Disc) : (b.onDisc f).alertLow = b.alertLow := rfl
@[simp] theorem onDisc_alertHold (b : Body) (f : Disc → Disc) : (b.onDisc f).alertHold = b.alertHold := rfl
@[simp] theorem onDisc_hubDown (b : Body) (f : Disc → Disc) : (b.onDisc f).hubDown = b.hubDown := rfl
@[simp] theorem onDisc_doze (b : Body) (f : Disc → Disc) : (b.onDisc f).doze = b.doze := rfl
@[simp] theorem onDisc_dozeLeaves (b : Body) (f : Disc → Disc) : (b.onDisc f).dozeLeaves = b.dozeLeaves := rfl
@[simp] theorem onDisc_reply (b : Body) (f : Disc → Disc) : (b.onDisc f).reply = b.reply := rfl
@[simp] theorem onDisc_freeIx (b : Body) (f : Disc → Disc) : (b.onDisc f).freeIx = b.freeIx := rfl
@[simp] theorem onDisc_ch (b : Body) (f : Disc → Disc) (n' : Nat) : (b.onDisc f).ch n' = b.ch n' := rfl
@[simp] theorem onDisc_en (b : Body) (f : Disc → Disc) (n' : Nat) : (b.onDisc f).en n' = b.en n' := rfl
@[simp] theorem onDisc_fe (b : Body) (f : Disc → Disc) (k' : Nat) : (b.onDisc f).fe k' = b.fe k' := rfl
@[simp] theorem onDisc_rd (b : Body) (f : Disc → Disc) (g : Fld) (j : Nat) : (b.onDisc f).rd g j = b.rd g j := rfl
@[simp] theorem onDisc_flag (b : Body) (f : Disc → Disc) (g : Fld) (j : Nat) : (b.onDisc f).flag g j = b.flag g j := rfl
@[simp] theorem onDisc_drd (b : Body) (f : Disc → Disc) (k' : Nat) (g : Fld) (j : Nat) : (b.onDisc f).drd k' g j = b.drd k' g j := rfl
@[simp] theorem onDisc_cd (b : Body) (f : Disc → Disc) (g : Fld) (n' : Nat) : (b.onDisc f).cd g n' = b.cd g n' := rfl
@[simp] theorem onDisc_port (b : Body) (f : Disc → Disc) (p' : Nat) : (b.onDisc f).port p' = b.port p' := rfl

@[simp] theorem onTmr_role (b : Body) (f : Timers → Timers) : (b.onTmr f).role = b.role := rfl
@[simp] theorem onTmr_regs (b : Body) (f : Timers → Timers) : (b.onTmr f).regs = b.regs := rfl
@[simp] theorem onTmr_chan (b : Body) (f : Timers → Timers) : (b.onTmr f).chan = b.chan := rfl
@[simp] theorem onTmr_eng (b : Body) (f : Timers → Timers) : (b.onTmr f).eng = b.eng := rfl
@[simp] theorem onTmr_die (b : Body) (f : Timers → Timers) : (b.onTmr f).die = b.die := rfl
@[simp] theorem onTmr_bud (b : Body) (f : Timers → Timers) : (b.onTmr f).bud = b.bud := rfl
@[simp] theorem onTmr_rcd (b : Body) (f : Timers → Timers) : (b.onTmr f).rcd = b.rcd := rfl
@[simp] theorem onTmr_mtr (b : Body) (f : Timers → Timers) : (b.onTmr f).mtr = b.mtr := rfl
@[simp] theorem onTmr_disc (b : Body) (f : Timers → Timers) : (b.onTmr f).disc = b.disc := rfl
@[simp] theorem onTmr_health (b : Body) (f : Timers → Timers) : (b.onTmr f).health = b.health := rfl
@[simp] theorem onTmr_fdr (b : Body) (f : Timers → Timers) : (b.onTmr f).fdr = b.fdr := rfl
@[simp] theorem onTmr_twin (b : Body) (f : Timers → Timers) : (b.onTmr f).twin = b.twin := rfl
@[simp] theorem onTmr_boot (b : Body) (f : Timers → Timers) : (b.onTmr f).boot = b.boot := rfl
@[simp] theorem onTmr_hp (b : Body) (f : Timers → Timers) : (b.onTmr f).hp = b.hp := rfl
@[simp] theorem onTmr_gainDue (b : Body) (f : Timers → Timers) : (b.onTmr f).gainDue = b.gainDue := rfl
@[simp] theorem onTmr_dozeReq (b : Body) (f : Timers → Timers) : (b.onTmr f).dozeReq = b.dozeReq := rfl
@[simp] theorem onTmr_trendWords (b : Body) (f : Timers → Timers) : (b.onTmr f).trendWords = b.trendWords := rfl
@[simp] theorem onTmr_alertLow (b : Body) (f : Timers → Timers) : (b.onTmr f).alertLow = b.alertLow := rfl
@[simp] theorem onTmr_alertHold (b : Body) (f : Timers → Timers) : (b.onTmr f).alertHold = b.alertHold := rfl
@[simp] theorem onTmr_hubDown (b : Body) (f : Timers → Timers) : (b.onTmr f).hubDown = b.hubDown := rfl
@[simp] theorem onTmr_doze (b : Body) (f : Timers → Timers) : (b.onTmr f).doze = b.doze := rfl
@[simp] theorem onTmr_dozeLeaves (b : Body) (f : Timers → Timers) : (b.onTmr f).dozeLeaves = b.dozeLeaves := rfl
@[simp] theorem onTmr_reply (b : Body) (f : Timers → Timers) : (b.onTmr f).reply = b.reply := rfl
@[simp] theorem onTmr_freeIx (b : Body) (f : Timers → Timers) : (b.onTmr f).freeIx = b.freeIx := rfl
@[simp] theorem onTmr_ch (b : Body) (f : Timers → Timers) (n' : Nat) : (b.onTmr f).ch n' = b.ch n' := rfl
@[simp] theorem onTmr_en (b : Body) (f : Timers → Timers) (n' : Nat) : (b.onTmr f).en n' = b.en n' := rfl
@[simp] theorem onTmr_fe (b : Body) (f : Timers → Timers) (k' : Nat) : (b.onTmr f).fe k' = b.fe k' := rfl
@[simp] theorem onTmr_rd (b : Body) (f : Timers → Timers) (g : Fld) (j : Nat) : (b.onTmr f).rd g j = b.rd g j := rfl
@[simp] theorem onTmr_flag (b : Body) (f : Timers → Timers) (g : Fld) (j : Nat) : (b.onTmr f).flag g j = b.flag g j := rfl
@[simp] theorem onTmr_drd (b : Body) (f : Timers → Timers) (k' : Nat) (g : Fld) (j : Nat) : (b.onTmr f).drd k' g j = b.drd k' g j := rfl
@[simp] theorem onTmr_cd (b : Body) (f : Timers → Timers) (g : Fld) (n' : Nat) : (b.onTmr f).cd g n' = b.cd g n' := rfl
@[simp] theorem onTmr_port (b : Body) (f : Timers → Timers) (p' : Nat) : (b.onTmr f).port p' = b.port p' := rfl

@[simp] theorem onHealth_role (b : Body) (f : Health → Health) : (b.onHealth f).role = b.role := rfl
@[simp] theorem onHealth_regs (b : Body) (f : Health → Health) : (b.onHealth f).regs = b.regs := rfl
@[simp] theorem onHealth_chan (b : Body) (f : Health → Health) : (b.onHealth f).chan = b.chan := rfl
@[simp] theorem onHealth_eng (b : Body) (f : Health → Health) : (b.onHealth f).eng = b.eng := rfl
@[simp] theorem onHealth_die (b : Body) (f : Health → Health) : (b.onHealth f).die = b.die := rfl
@[simp] theorem onHealth_bud (b : Body) (f : Health → Health) : (b.onHealth f).bud = b.bud := rfl
@[simp] theorem onHealth_rcd (b : Body) (f : Health → Health) : (b.onHealth f).rcd = b.rcd := rfl
@[simp] theorem onHealth_mtr (b : Body) (f : Health → Health) : (b.onHealth f).mtr = b.mtr := rfl
@[simp] theorem onHealth_disc (b : Body) (f : Health → Health) : (b.onHealth f).disc = b.disc := rfl
@[simp] theorem onHealth_tmr (b : Body) (f : Health → Health) : (b.onHealth f).tmr = b.tmr := rfl
@[simp] theorem onHealth_fdr (b : Body) (f : Health → Health) : (b.onHealth f).fdr = b.fdr := rfl
@[simp] theorem onHealth_twin (b : Body) (f : Health → Health) : (b.onHealth f).twin = b.twin := rfl
@[simp] theorem onHealth_boot (b : Body) (f : Health → Health) : (b.onHealth f).boot = b.boot := rfl
@[simp] theorem onHealth_hp (b : Body) (f : Health → Health) : (b.onHealth f).hp = b.hp := rfl
@[simp] theorem onHealth_gainDue (b : Body) (f : Health → Health) : (b.onHealth f).gainDue = b.gainDue := rfl
@[simp] theorem onHealth_dozeReq (b : Body) (f : Health → Health) : (b.onHealth f).dozeReq = b.dozeReq := rfl
@[simp] theorem onHealth_trendWords (b : Body) (f : Health → Health) : (b.onHealth f).trendWords = b.trendWords := rfl
@[simp] theorem onHealth_alertLow (b : Body) (f : Health → Health) : (b.onHealth f).alertLow = b.alertLow := rfl
@[simp] theorem onHealth_alertHold (b : Body) (f : Health → Health) : (b.onHealth f).alertHold = b.alertHold := rfl
@[simp] theorem onHealth_hubDown (b : Body) (f : Health → Health) : (b.onHealth f).hubDown = b.hubDown := rfl
@[simp] theorem onHealth_doze (b : Body) (f : Health → Health) : (b.onHealth f).doze = b.doze := rfl
@[simp] theorem onHealth_dozeLeaves (b : Body) (f : Health → Health) : (b.onHealth f).dozeLeaves = b.dozeLeaves := rfl
@[simp] theorem onHealth_reply (b : Body) (f : Health → Health) : (b.onHealth f).reply = b.reply := rfl
@[simp] theorem onHealth_freeIx (b : Body) (f : Health → Health) : (b.onHealth f).freeIx = b.freeIx := rfl
@[simp] theorem onHealth_ch (b : Body) (f : Health → Health) (n' : Nat) : (b.onHealth f).ch n' = b.ch n' := rfl
@[simp] theorem onHealth_en (b : Body) (f : Health → Health) (n' : Nat) : (b.onHealth f).en n' = b.en n' := rfl
@[simp] theorem onHealth_fe (b : Body) (f : Health → Health) (k' : Nat) : (b.onHealth f).fe k' = b.fe k' := rfl
@[simp] theorem onHealth_rd (b : Body) (f : Health → Health) (g : Fld) (j : Nat) : (b.onHealth f).rd g j = b.rd g j := rfl
@[simp] theorem onHealth_flag (b : Body) (f : Health → Health) (g : Fld) (j : Nat) : (b.onHealth f).flag g j = b.flag g j := rfl
@[simp] theorem onHealth_drd (b : Body) (f : Health → Health) (k' : Nat) (g : Fld) (j : Nat) : (b.onHealth f).drd k' g j = b.drd k' g j := rfl
@[simp] theorem onHealth_cd (b : Body) (f : Health → Health) (g : Fld) (n' : Nat) : (b.onHealth f).cd g n' = b.cd g n' := rfl
@[simp] theorem onHealth_port (b : Body) (f : Health → Health) (p' : Nat) : (b.onHealth f).port p' = b.port p' := rfl

@[simp] theorem onFp_role (b : Body) (f : FeederPort → FeederPort) : (b.onFp f).role = b.role := rfl
@[simp] theorem onFp_regs (b : Body) (f : FeederPort → FeederPort) : (b.onFp f).regs = b.regs := rfl
@[simp] theorem onFp_chan (b : Body) (f : FeederPort → FeederPort) : (b.onFp f).chan = b.chan := rfl
@[simp] theorem onFp_eng (b : Body) (f : FeederPort → FeederPort) : (b.onFp f).eng = b.eng := rfl
@[simp] theorem onFp_die (b : Body) (f : FeederPort → FeederPort) : (b.onFp f).die = b.die := rfl
@[simp] theorem onFp_bud (b : Body) (f : FeederPort → FeederPort) : (b.onFp f).bud = b.bud := rfl
@[simp] theorem onFp_rcd (b : Body) (f : FeederPort → FeederPort) : (b.onFp f).rcd = b.rcd := rfl
@[simp] theorem onFp_mtr (b : Body) (f : FeederPort → FeederPort) : (b.onFp f).mtr = b.mtr := rfl
@[simp] theorem onFp_disc (b : Body) (f : FeederPort → FeederPort) : (b.onFp f).disc = b.disc := rfl
@[simp] theorem onFp_tmr (b : Body) (f : FeederPort → FeederPort) : (b.onFp f).tmr = b.tmr := rfl
@[simp] theorem onFp_health (b : Body) (f : FeederPort → FeederPort) : (b.onFp f).health = b.health := rfl
@[simp] theorem onFp_twin (b : Body) (f : FeederPort → FeederPort) : (b.onFp f).twin = b.twin := rfl
@[simp] theorem onFp_boot (b : Body) (f : FeederPort → FeederPort) : (b.onFp f).boot = b.boot := rfl
@[simp] theorem onFp_hp (b : Body) (f : FeederPort → FeederPort) : (b.onFp f).hp = b.hp := rfl
@[simp] theorem onFp_gainDue (b : Body) (f : FeederPort → FeederPort) : (b.onFp f).gainDue = b.gainDue := rfl
@[simp] theorem onFp_dozeReq (b : Body) (f : FeederPort → FeederPort) : (b.onFp f).dozeReq = b.dozeReq := rfl
@[simp] theorem onFp_trendWords (b : Body) (f : FeederPort → FeederPort) : (b.onFp f).trendWords = b.trendWords := rfl
@[simp] theorem onFp_alertLow (b : Body) (f : FeederPort → FeederPort) : (b.onFp f).alertLow = b.alertLow := rfl
@[simp] theorem onFp_alertHold (b : Body) (f : FeederPort → FeederPort) : (b.onFp f).alertHold = b.alertHold := rfl
@[simp] theorem onFp_hubDown (b : Body) (f : FeederPort → FeederPort) : (b.onFp f).hubDown = b.hubDown := rfl
@[simp] theorem onFp_doze (b : Body) (f : FeederPort → FeederPort) : (b.onFp f).doze = b.doze := rfl
@[simp] theorem onFp_dozeLeaves (b : Body) (f : FeederPort → FeederPort) : (b.onFp f).dozeLeaves = b.dozeLeaves := rfl
@[simp] theorem onFp_reply (b : Body) (f : FeederPort → FeederPort) : (b.onFp f).reply = b.reply := rfl
@[simp] theorem onFp_freeIx (b : Body) (f : FeederPort → FeederPort) : (b.onFp f).freeIx = b.freeIx := rfl
@[simp] theorem onFp_ch (b : Body) (f : FeederPort → FeederPort) (n' : Nat) : (b.onFp f).ch n' = b.ch n' := rfl
@[simp] theorem onFp_en (b : Body) (f : FeederPort → FeederPort) (n' : Nat) : (b.onFp f).en n' = b.en n' := rfl
@[simp] theorem onFp_fe (b : Body) (f : FeederPort → FeederPort) (k' : Nat) : (b.onFp f).fe k' = b.fe k' := rfl
@[simp] theorem onFp_rd (b : Body) (f : FeederPort → FeederPort) (g : Fld) (j : Nat) : (b.onFp f).rd g j = b.rd g j := rfl
@[simp] theorem onFp_flag (b : Body) (f : FeederPort → FeederPort) (g : Fld) (j : Nat) : (b.onFp f).flag g j = b.flag g j := rfl
@[simp] theorem onFp_drd (b : Body) (f : FeederPort → FeederPort) (k' : Nat) (g : Fld) (j : Nat) : (b.onFp f).drd k' g j = b.drd k' g j := rfl
@[simp] theorem onFp_cd (b : Body) (f : FeederPort → FeederPort) (g : Fld) (n' : Nat) : (b.onFp f).cd g n' = b.cd g n' := rfl
@[simp] theorem onFp_port (b : Body) (f : FeederPort → FeederPort) (p' : Nat) : (b.onFp f).port p' = b.port p' := rfl

@[simp] theorem onFd_role (b : Body) (x : Nat) (f : Feeder → Feeder) : (b.onFd x f).role = b.role := rfl
@[simp] theorem onFd_regs (b : Body) (x : Nat) (f : Feeder → Feeder) : (b.onFd x f).regs = b.regs := rfl
@[simp] theorem onFd_chan (b : Body) (x : Nat) (f : Feeder → Feeder) : (b.onFd x f).chan = b.chan := rfl
@[simp] theorem onFd_eng (b : Body) (x : Nat) (f : Feeder → Feeder) : (b.onFd x f).eng = b.eng := rfl
@[simp] theorem onFd_die (b : Body) (x : Nat) (f : Feeder → Feeder) : (b.onFd x f).die = b.die := rfl
@[simp] theorem onFd_bud (b : Body) (x : Nat) (f : Feeder → Feeder) : (b.onFd x f).bud = b.bud := rfl
@[simp] theorem onFd_rcd (b : Body) (x : Nat) (f : Feeder → Feeder) : (b.onFd x f).rcd = b.rcd := rfl
@[simp] theorem onFd_mtr (b : Body) (x : Nat) (f : Feeder → Feeder) : (b.onFd x f).mtr = b.mtr := rfl
@[simp] theorem onFd_disc (b : Body) (x : Nat) (f : Feeder → Feeder) : (b.onFd x f).disc = b.disc := rfl
@[simp] theorem onFd_tmr (b : Body) (x : Nat) (f : Feeder → Feeder) : (b.onFd x f).tmr = b.tmr := rfl
@[simp] theorem onFd_health (b : Body) (x : Nat) (f : Feeder → Feeder) : (b.onFd x f).health = b.health := rfl
@[simp] theorem onFd_twin (b : Body) (x : Nat) (f : Feeder → Feeder) : (b.onFd x f).twin = b.twin := rfl
@[simp] theorem onFd_boot (b : Body) (x : Nat) (f : Feeder → Feeder) : (b.onFd x f).boot = b.boot := rfl
@[simp] theorem onFd_hp (b : Body) (x : Nat) (f : Feeder → Feeder) : (b.onFd x f).hp = b.hp := rfl
@[simp] theorem onFd_gainDue (b : Body) (x : Nat) (f : Feeder → Feeder) : (b.onFd x f).gainDue = b.gainDue := rfl
@[simp] theorem onFd_dozeReq (b : Body) (x : Nat) (f : Feeder → Feeder) : (b.onFd x f).dozeReq = b.dozeReq := rfl
@[simp] theorem onFd_trendWords (b : Body) (x : Nat) (f : Feeder → Feeder) : (b.onFd x f).trendWords = b.trendWords := rfl
@[simp] theorem onFd_alertLow (b : Body) (x : Nat) (f : Feeder → Feeder) : (b.onFd x f).alertLow = b.alertLow := rfl
@[simp] theorem onFd_alertHold (b : Body) (x : Nat) (f : Feeder → Feeder) : (b.onFd x f).alertHold = b.alertHold := rfl
@[simp] theorem onFd_hubDown (b : Body) (x : Nat) (f : Feeder → Feeder) : (b.onFd x f).hubDown = b.hubDown := rfl
@[simp] theorem onFd_doze (b : Body) (x : Nat) (f : Feeder → Feeder) : (b.onFd x f).doze = b.doze := rfl
@[simp] theorem onFd_dozeLeaves (b : Body) (x : Nat) (f : Feeder → Feeder) : (b.onFd x f).dozeLeaves = b.dozeLeaves := rfl
@[simp] theorem onFd_reply (b : Body) (x : Nat) (f : Feeder → Feeder) : (b.onFd x f).reply = b.reply := rfl
@[simp] theorem onFd_freeIx (b : Body) (x : Nat) (f : Feeder → Feeder) : (b.onFd x f).freeIx = b.freeIx := rfl
@[simp] theorem onFd_ch (b : Body) (x : Nat) (f : Feeder → Feeder) (n' : Nat) : (b.onFd x f).ch n' = b.ch n' := rfl
@[simp] theorem onFd_en (b : Body) (x : Nat) (f : Feeder → Feeder) (n' : Nat) : (b.onFd x f).en n' = b.en n' := rfl
@[simp] theorem onFd_fe (b : Body) (x : Nat) (f : Feeder → Feeder) (k' : Nat) : (b.onFd x f).fe k' = b.fe k' := rfl
@[simp] theorem onFd_rd (b : Body) (x : Nat) (f : Feeder → Feeder) (g : Fld) (j : Nat) : (b.onFd x f).rd g j = b.rd g j := rfl
@[simp] theorem onFd_flag (b : Body) (x : Nat) (f : Feeder → Feeder) (g : Fld) (j : Nat) : (b.onFd x f).flag g j = b.flag g j := rfl
@[simp] theorem onFd_drd (b : Body) (x : Nat) (f : Feeder → Feeder) (k' : Nat) (g : Fld) (j : Nat) : (b.onFd x f).drd k' g j = b.drd k' g j := rfl
@[simp] theorem onFd_cd (b : Body) (x : Nat) (f : Feeder → Feeder) (g : Fld) (n' : Nat) : (b.onFd x f).cd g n' = b.cd g n' := rfl
@[simp] theorem onFd_port (b : Body) (x : Nat) (f : Feeder → Feeder) (p' : Nat) : (b.onFd x f).port p' = b.port p' := rfl

@[simp] theorem onHu_role (b : Body) (f : HoldUp → HoldUp) : (b.onHu f).role = b.role := rfl
@[simp] theorem onHu_regs (b : Body) (f : HoldUp → HoldUp) : (b.onHu f).regs = b.regs := rfl
@[simp] theorem onHu_chan (b : Body) (f : HoldUp → HoldUp) : (b.onHu f).chan = b.chan := rfl
@[simp] theorem onHu_eng (b : Body) (f : HoldUp → HoldUp) : (b.onHu f).eng = b.eng := rfl
@[simp] theorem onHu_die (b : Body) (f : HoldUp → HoldUp) : (b.onHu f).die = b.die := rfl
@[simp] theorem onHu_rcd (b : Body) (f : HoldUp → HoldUp) : (b.onHu f).rcd = b.rcd := rfl
@[simp] theorem onHu_mtr (b : Body) (f : HoldUp → HoldUp) : (b.onHu f).mtr = b.mtr := rfl
@[simp] theorem onHu_disc (b : Body) (f : HoldUp → HoldUp) : (b.onHu f).disc = b.disc := rfl
@[simp] theorem onHu_tmr (b : Body) (f : HoldUp → HoldUp) : (b.onHu f).tmr = b.tmr := rfl
@[simp] theorem onHu_health (b : Body) (f : HoldUp → HoldUp) : (b.onHu f).health = b.health := rfl
@[simp] theorem onHu_fdr (b : Body) (f : HoldUp → HoldUp) : (b.onHu f).fdr = b.fdr := rfl
@[simp] theorem onHu_twin (b : Body) (f : HoldUp → HoldUp) : (b.onHu f).twin = b.twin := rfl
@[simp] theorem onHu_boot (b : Body) (f : HoldUp → HoldUp) : (b.onHu f).boot = b.boot := rfl
@[simp] theorem onHu_hp (b : Body) (f : HoldUp → HoldUp) : (b.onHu f).hp = b.hp := rfl
@[simp] theorem onHu_gainDue (b : Body) (f : HoldUp → HoldUp) : (b.onHu f).gainDue = b.gainDue := rfl
@[simp] theorem onHu_dozeReq (b : Body) (f : HoldUp → HoldUp) : (b.onHu f).dozeReq = b.dozeReq := rfl
@[simp] theorem onHu_trendWords (b : Body) (f : HoldUp → HoldUp) : (b.onHu f).trendWords = b.trendWords := rfl
@[simp] theorem onHu_alertLow (b : Body) (f : HoldUp → HoldUp) : (b.onHu f).alertLow = b.alertLow := rfl
@[simp] theorem onHu_alertHold (b : Body) (f : HoldUp → HoldUp) : (b.onHu f).alertHold = b.alertHold := rfl
@[simp] theorem onHu_hubDown (b : Body) (f : HoldUp → HoldUp) : (b.onHu f).hubDown = b.hubDown := rfl
@[simp] theorem onHu_doze (b : Body) (f : HoldUp → HoldUp) : (b.onHu f).doze = b.doze := rfl
@[simp] theorem onHu_dozeLeaves (b : Body) (f : HoldUp → HoldUp) : (b.onHu f).dozeLeaves = b.dozeLeaves := rfl
@[simp] theorem onHu_reply (b : Body) (f : HoldUp → HoldUp) : (b.onHu f).reply = b.reply := rfl
@[simp] theorem onHu_freeIx (b : Body) (f : HoldUp → HoldUp) : (b.onHu f).freeIx = b.freeIx := rfl
@[simp] theorem onHu_ch (b : Body) (f : HoldUp → HoldUp) (n' : Nat) : (b.onHu f).ch n' = b.ch n' := rfl
@[simp] theorem onHu_en (b : Body) (f : HoldUp → HoldUp) (n' : Nat) : (b.onHu f).en n' = b.en n' := rfl
@[simp] theorem onHu_fe (b : Body) (f : HoldUp → HoldUp) (k' : Nat) : (b.onHu f).fe k' = b.fe k' := rfl
@[simp] theorem onHu_rd (b : Body) (f : HoldUp → HoldUp) (g : Fld) (j : Nat) : (b.onHu f).rd g j = b.rd g j := rfl
@[simp] theorem onHu_flag (b : Body) (f : HoldUp → HoldUp) (g : Fld) (j : Nat) : (b.onHu f).flag g j = b.flag g j := rfl
@[simp] theorem onHu_drd (b : Body) (f : HoldUp → HoldUp) (k' : Nat) (g : Fld) (j : Nat) : (b.onHu f).drd k' g j = b.drd k' g j := rfl
@[simp] theorem onHu_cd (b : Body) (f : HoldUp → HoldUp) (g : Fld) (n' : Nat) : (b.onHu f).cd g n' = b.cd g n' := rfl
@[simp] theorem onHu_port (b : Body) (f : HoldUp → HoldUp) (p' : Nat) : (b.onHu f).port p' = b.port p' := rfl

@[simp] theorem onBoot_role (b : Body) (f : Boot → Boot) : (b.onBoot f).role = b.role := rfl
@[simp] theorem onBoot_regs (b : Body) (f : Boot → Boot) : (b.onBoot f).regs = b.regs := rfl
@[simp] theorem onBoot_chan (b : Body) (f : Boot → Boot) : (b.onBoot f).chan = b.chan := rfl
@[simp] theorem onBoot_eng (b : Body) (f : Boot → Boot) : (b.onBoot f).eng = b.eng := rfl
@[simp] theorem onBoot_die (b : Body) (f : Boot → Boot) : (b.onBoot f).die = b.die := rfl
@[simp] theorem onBoot_bud (b : Body) (f : Boot → Boot) : (b.onBoot f).bud = b.bud := rfl
@[simp] theorem onBoot_rcd (b : Body) (f : Boot → Boot) : (b.onBoot f).rcd = b.rcd := rfl
@[simp] theorem onBoot_mtr (b : Body) (f : Boot → Boot) : (b.onBoot f).mtr = b.mtr := rfl
@[simp] theorem onBoot_disc (b : Body) (f : Boot → Boot) : (b.onBoot f).disc = b.disc := rfl
@[simp] theorem onBoot_tmr (b : Body) (f : Boot → Boot) : (b.onBoot f).tmr = b.tmr := rfl
@[simp] theorem onBoot_health (b : Body) (f : Boot → Boot) : (b.onBoot f).health = b.health := rfl
@[simp] theorem onBoot_fdr (b : Body) (f : Boot → Boot) : (b.onBoot f).fdr = b.fdr := rfl
@[simp] theorem onBoot_twin (b : Body) (f : Boot → Boot) : (b.onBoot f).twin = b.twin := rfl
@[simp] theorem onBoot_hp (b : Body) (f : Boot → Boot) : (b.onBoot f).hp = b.hp := rfl
@[simp] theorem onBoot_gainDue (b : Body) (f : Boot → Boot) : (b.onBoot f).gainDue = b.gainDue := rfl
@[simp] theorem onBoot_dozeReq (b : Body) (f : Boot → Boot) : (b.onBoot f).dozeReq = b.dozeReq := rfl
@[simp] theorem onBoot_trendWords (b : Body) (f : Boot → Boot) : (b.onBoot f).trendWords = b.trendWords := rfl
@[simp] theorem onBoot_alertLow (b : Body) (f : Boot → Boot) : (b.onBoot f).alertLow = b.alertLow := rfl
@[simp] theorem onBoot_alertHold (b : Body) (f : Boot → Boot) : (b.onBoot f).alertHold = b.alertHold := rfl
@[simp] theorem onBoot_hubDown (b : Body) (f : Boot → Boot) : (b.onBoot f).hubDown = b.hubDown := rfl
@[simp] theorem onBoot_doze (b : Body) (f : Boot → Boot) : (b.onBoot f).doze = b.doze := rfl
@[simp] theorem onBoot_dozeLeaves (b : Body) (f : Boot → Boot) : (b.onBoot f).dozeLeaves = b.dozeLeaves := rfl
@[simp] theorem onBoot_reply (b : Body) (f : Boot → Boot) : (b.onBoot f).reply = b.reply := rfl
@[simp] theorem onBoot_freeIx (b : Body) (f : Boot → Boot) : (b.onBoot f).freeIx = b.freeIx := rfl
@[simp] theorem onBoot_ch (b : Body) (f : Boot → Boot) (n' : Nat) : (b.onBoot f).ch n' = b.ch n' := rfl
@[simp] theorem onBoot_en (b : Body) (f : Boot → Boot) (n' : Nat) : (b.onBoot f).en n' = b.en n' := rfl
@[simp] theorem onBoot_fe (b : Body) (f : Boot → Boot) (k' : Nat) : (b.onBoot f).fe k' = b.fe k' := rfl
@[simp] theorem onBoot_rd (b : Body) (f : Boot → Boot) (g : Fld) (j : Nat) : (b.onBoot f).rd g j = b.rd g j := rfl
@[simp] theorem onBoot_flag (b : Body) (f : Boot → Boot) (g : Fld) (j : Nat) : (b.onBoot f).flag g j = b.flag g j := rfl
@[simp] theorem onBoot_drd (b : Body) (f : Boot → Boot) (k' : Nat) (g : Fld) (j : Nat) : (b.onBoot f).drd k' g j = b.drd k' g j := rfl
@[simp] theorem onBoot_cd (b : Body) (f : Boot → Boot) (g : Fld) (n' : Nat) : (b.onBoot f).cd g n' = b.cd g n' := rfl
@[simp] theorem onBoot_port (b : Body) (f : Boot → Boot) (p' : Nat) : (b.onBoot f).port p' = b.port p' := rfl

@[simp] theorem onTwin_role (b : Body) (f : Twin → Twin) : (b.onTwin f).role = b.role := rfl
@[simp] theorem onTwin_regs (b : Body) (f : Twin → Twin) : (b.onTwin f).regs = b.regs := rfl
@[simp] theorem onTwin_chan (b : Body) (f : Twin → Twin) : (b.onTwin f).chan = b.chan := rfl
@[simp] theorem onTwin_eng (b : Body) (f : Twin → Twin) : (b.onTwin f).eng = b.eng := rfl
@[simp] theorem onTwin_die (b : Body) (f : Twin → Twin) : (b.onTwin f).die = b.die := rfl
@[simp] theorem onTwin_bud (b : Body) (f : Twin → Twin) : (b.onTwin f).bud = b.bud := rfl
@[simp] theorem onTwin_rcd (b : Body) (f : Twin → Twin) : (b.onTwin f).rcd = b.rcd := rfl
@[simp] theorem onTwin_mtr (b : Body) (f : Twin → Twin) : (b.onTwin f).mtr = b.mtr := rfl
@[simp] theorem onTwin_disc (b : Body) (f : Twin → Twin) : (b.onTwin f).disc = b.disc := rfl
@[simp] theorem onTwin_tmr (b : Body) (f : Twin → Twin) : (b.onTwin f).tmr = b.tmr := rfl
@[simp] theorem onTwin_health (b : Body) (f : Twin → Twin) : (b.onTwin f).health = b.health := rfl
@[simp] theorem onTwin_fdr (b : Body) (f : Twin → Twin) : (b.onTwin f).fdr = b.fdr := rfl
@[simp] theorem onTwin_boot (b : Body) (f : Twin → Twin) : (b.onTwin f).boot = b.boot := rfl
@[simp] theorem onTwin_hp (b : Body) (f : Twin → Twin) : (b.onTwin f).hp = b.hp := rfl
@[simp] theorem onTwin_gainDue (b : Body) (f : Twin → Twin) : (b.onTwin f).gainDue = b.gainDue := rfl
@[simp] theorem onTwin_dozeReq (b : Body) (f : Twin → Twin) : (b.onTwin f).dozeReq = b.dozeReq := rfl
@[simp] theorem onTwin_trendWords (b : Body) (f : Twin → Twin) : (b.onTwin f).trendWords = b.trendWords := rfl
@[simp] theorem onTwin_alertLow (b : Body) (f : Twin → Twin) : (b.onTwin f).alertLow = b.alertLow := rfl
@[simp] theorem onTwin_alertHold (b : Body) (f : Twin → Twin) : (b.onTwin f).alertHold = b.alertHold := rfl
@[simp] theorem onTwin_hubDown (b : Body) (f : Twin → Twin) : (b.onTwin f).hubDown = b.hubDown := rfl
@[simp] theorem onTwin_doze (b : Body) (f : Twin → Twin) : (b.onTwin f).doze = b.doze := rfl
@[simp] theorem onTwin_dozeLeaves (b : Body) (f : Twin → Twin) : (b.onTwin f).dozeLeaves = b.dozeLeaves := rfl
@[simp] theorem onTwin_reply (b : Body) (f : Twin → Twin) : (b.onTwin f).reply = b.reply := rfl
@[simp] theorem onTwin_freeIx (b : Body) (f : Twin → Twin) : (b.onTwin f).freeIx = b.freeIx := rfl
@[simp] theorem onTwin_ch (b : Body) (f : Twin → Twin) (n' : Nat) : (b.onTwin f).ch n' = b.ch n' := rfl
@[simp] theorem onTwin_en (b : Body) (f : Twin → Twin) (n' : Nat) : (b.onTwin f).en n' = b.en n' := rfl
@[simp] theorem onTwin_fe (b : Body) (f : Twin → Twin) (k' : Nat) : (b.onTwin f).fe k' = b.fe k' := rfl
@[simp] theorem onTwin_rd (b : Body) (f : Twin → Twin) (g : Fld) (j : Nat) : (b.onTwin f).rd g j = b.rd g j := rfl
@[simp] theorem onTwin_flag (b : Body) (f : Twin → Twin) (g : Fld) (j : Nat) : (b.onTwin f).flag g j = b.flag g j := rfl
@[simp] theorem onTwin_drd (b : Body) (f : Twin → Twin) (k' : Nat) (g : Fld) (j : Nat) : (b.onTwin f).drd k' g j = b.drd k' g j := rfl
@[simp] theorem onTwin_cd (b : Body) (f : Twin → Twin) (g : Fld) (n' : Nat) : (b.onTwin f).cd g n' = b.cd g n' := rfl
@[simp] theorem onTwin_port (b : Body) (f : Twin → Twin) (p' : Nat) : (b.onTwin f).port p' = b.port p' := rfl

@[simp] theorem onHp_role (b : Body) (p : Nat) (f : HostPort → HostPort) : (b.onHp p f).role = b.role := rfl
@[simp] theorem onHp_regs (b : Body) (p : Nat) (f : HostPort → HostPort) : (b.onHp p f).regs = b.regs := rfl
@[simp] theorem onHp_chan (b : Body) (p : Nat) (f : HostPort → HostPort) : (b.onHp p f).chan = b.chan := rfl
@[simp] theorem onHp_eng (b : Body) (p : Nat) (f : HostPort → HostPort) : (b.onHp p f).eng = b.eng := rfl
@[simp] theorem onHp_die (b : Body) (p : Nat) (f : HostPort → HostPort) : (b.onHp p f).die = b.die := rfl
@[simp] theorem onHp_bud (b : Body) (p : Nat) (f : HostPort → HostPort) : (b.onHp p f).bud = b.bud := rfl
@[simp] theorem onHp_rcd (b : Body) (p : Nat) (f : HostPort → HostPort) : (b.onHp p f).rcd = b.rcd := rfl
@[simp] theorem onHp_mtr (b : Body) (p : Nat) (f : HostPort → HostPort) : (b.onHp p f).mtr = b.mtr := rfl
@[simp] theorem onHp_disc (b : Body) (p : Nat) (f : HostPort → HostPort) : (b.onHp p f).disc = b.disc := rfl
@[simp] theorem onHp_tmr (b : Body) (p : Nat) (f : HostPort → HostPort) : (b.onHp p f).tmr = b.tmr := rfl
@[simp] theorem onHp_health (b : Body) (p : Nat) (f : HostPort → HostPort) : (b.onHp p f).health = b.health := rfl
@[simp] theorem onHp_fdr (b : Body) (p : Nat) (f : HostPort → HostPort) : (b.onHp p f).fdr = b.fdr := rfl
@[simp] theorem onHp_twin (b : Body) (p : Nat) (f : HostPort → HostPort) : (b.onHp p f).twin = b.twin := rfl
@[simp] theorem onHp_boot (b : Body) (p : Nat) (f : HostPort → HostPort) : (b.onHp p f).boot = b.boot := rfl
@[simp] theorem onHp_gainDue (b : Body) (p : Nat) (f : HostPort → HostPort) : (b.onHp p f).gainDue = b.gainDue := rfl
@[simp] theorem onHp_dozeReq (b : Body) (p : Nat) (f : HostPort → HostPort) : (b.onHp p f).dozeReq = b.dozeReq := rfl
@[simp] theorem onHp_trendWords (b : Body) (p : Nat) (f : HostPort → HostPort) : (b.onHp p f).trendWords = b.trendWords := rfl
@[simp] theorem onHp_alertLow (b : Body) (p : Nat) (f : HostPort → HostPort) : (b.onHp p f).alertLow = b.alertLow := rfl
@[simp] theorem onHp_alertHold (b : Body) (p : Nat) (f : HostPort → HostPort) : (b.onHp p f).alertHold = b.alertHold := rfl
@[simp] theorem onHp_hubDown (b : Body) (p : Nat) (f : HostPort → HostPort) : (b.onHp p f).hubDown = b.hubDown := rfl
@[simp] theorem onHp_doze (b : Body) (p : Nat) (f : HostPort → HostPort) : (b.onHp p f).doze = b.doze := rfl
@[simp] theorem onHp_dozeLeaves (b : Body) (p : Nat) (f : HostPort → HostPort) : (b.onHp p f).dozeLeaves = b.dozeLeaves := rfl
@[simp] theorem onHp_reply (b : Body) (p : Nat) (f : HostPort → HostPort) : (b.onHp p f).reply = b.reply := rfl
@[simp] theorem onHp_freeIx (b : Body) (p : Nat) (f : HostPort → HostPort) : (b.onHp p f).freeIx = b.freeIx := rfl
@[simp] theorem onHp_ch (b : Body) (p : Nat) (f : HostPort → HostPort) (n' : Nat) : (b.onHp p f).ch n' = b.ch n' := rfl
@[simp] theorem onHp_en (b : Body) (p : Nat) (f : HostPort → HostPort) (n' : Nat) : (b.onHp p f).en n' = b.en n' := rfl
@[simp] theorem onHp_fe (b : Body) (p : Nat) (f : HostPort → HostPort) (k' : Nat) : (b.onHp p f).fe k' = b.fe k' := rfl
@[simp] theorem onHp_rd (b : Body) (p : Nat) (f : HostPort → HostPort) (g : Fld) (j : Nat) : (b.onHp p f).rd g j = b.rd g j := rfl
@[simp] theorem onHp_flag (b : Body) (p : Nat) (f : HostPort → HostPort) (g : Fld) (j : Nat) : (b.onHp p f).flag g j = b.flag g j := rfl
@[simp] theorem onHp_drd (b : Body) (p : Nat) (f : HostPort → HostPort) (k' : Nat) (g : Fld) (j : Nat) : (b.onHp p f).drd k' g j = b.drd k' g j := rfl
@[simp] theorem onHp_cd (b : Body) (p : Nat) (f : HostPort → HostPort) (g : Fld) (n' : Nat) : (b.onHp p f).cd g n' = b.cd g n' := rfl

@[simp] theorem onUrg_role (b : Body) (k : Nat) (f : Urgent → Urgent) : (b.onUrg k f).role = b.role := rfl
@[simp] theorem onUrg_regs (b : Body) (k : Nat) (f : Urgent → Urgent) : (b.onUrg k f).regs = b.regs := rfl
@[simp] theorem onUrg_chan (b : Body) (k : Nat) (f : Urgent → Urgent) : (b.onUrg k f).chan = b.chan := rfl
@[simp] theorem onUrg_eng (b : Body) (k : Nat) (f : Urgent → Urgent) : (b.onUrg k f).eng = b.eng := rfl
@[simp] theorem onUrg_bud (b : Body) (k : Nat) (f : Urgent → Urgent) : (b.onUrg k f).bud = b.bud := rfl
@[simp] theorem onUrg_rcd (b : Body) (k : Nat) (f : Urgent → Urgent) : (b.onUrg k f).rcd = b.rcd := rfl
@[simp] theorem onUrg_mtr (b : Body) (k : Nat) (f : Urgent → Urgent) : (b.onUrg k f).mtr = b.mtr := rfl
@[simp] theorem onUrg_disc (b : Body) (k : Nat) (f : Urgent → Urgent) : (b.onUrg k f).disc = b.disc := rfl
@[simp] theorem onUrg_tmr (b : Body) (k : Nat) (f : Urgent → Urgent) : (b.onUrg k f).tmr = b.tmr := rfl
@[simp] theorem onUrg_health (b : Body) (k : Nat) (f : Urgent → Urgent) : (b.onUrg k f).health = b.health := rfl
@[simp] theorem onUrg_fdr (b : Body) (k : Nat) (f : Urgent → Urgent) : (b.onUrg k f).fdr = b.fdr := rfl
@[simp] theorem onUrg_twin (b : Body) (k : Nat) (f : Urgent → Urgent) : (b.onUrg k f).twin = b.twin := rfl
@[simp] theorem onUrg_boot (b : Body) (k : Nat) (f : Urgent → Urgent) : (b.onUrg k f).boot = b.boot := rfl
@[simp] theorem onUrg_hp (b : Body) (k : Nat) (f : Urgent → Urgent) : (b.onUrg k f).hp = b.hp := rfl
@[simp] theorem onUrg_gainDue (b : Body) (k : Nat) (f : Urgent → Urgent) : (b.onUrg k f).gainDue = b.gainDue := rfl
@[simp] theorem onUrg_dozeReq (b : Body) (k : Nat) (f : Urgent → Urgent) : (b.onUrg k f).dozeReq = b.dozeReq := rfl
@[simp] theorem onUrg_trendWords (b : Body) (k : Nat) (f : Urgent → Urgent) : (b.onUrg k f).trendWords = b.trendWords := rfl
@[simp] theorem onUrg_alertLow (b : Body) (k : Nat) (f : Urgent → Urgent) : (b.onUrg k f).alertLow = b.alertLow := rfl
@[simp] theorem onUrg_alertHold (b : Body) (k : Nat) (f : Urgent → Urgent) : (b.onUrg k f).alertHold = b.alertHold := rfl
@[simp] theorem onUrg_hubDown (b : Body) (k : Nat) (f : Urgent → Urgent) : (b.onUrg k f).hubDown = b.hubDown := rfl
@[simp] theorem onUrg_doze (b : Body) (k : Nat) (f : Urgent → Urgent) : (b.onUrg k f).doze = b.doze := rfl
@[simp] theorem onUrg_dozeLeaves (b : Body) (k : Nat) (f : Urgent → Urgent) : (b.onUrg k f).dozeLeaves = b.dozeLeaves := rfl
@[simp] theorem onUrg_reply (b : Body) (k : Nat) (f : Urgent → Urgent) : (b.onUrg k f).reply = b.reply := rfl
@[simp] theorem onUrg_freeIx (b : Body) (k : Nat) (f : Urgent → Urgent) : (b.onUrg k f).freeIx = b.freeIx := rfl
@[simp] theorem onUrg_ch (b : Body) (k : Nat) (f : Urgent → Urgent) (n' : Nat) : (b.onUrg k f).ch n' = b.ch n' := rfl
@[simp] theorem onUrg_en (b : Body) (k : Nat) (f : Urgent → Urgent) (n' : Nat) : (b.onUrg k f).en n' = b.en n' := rfl
@[simp] theorem onUrg_rd (b : Body) (k : Nat) (f : Urgent → Urgent) (g : Fld) (j : Nat) : (b.onUrg k f).rd g j = b.rd g j := rfl
@[simp] theorem onUrg_flag (b : Body) (k : Nat) (f : Urgent → Urgent) (g : Fld) (j : Nat) : (b.onUrg k f).flag g j = b.flag g j := rfl
@[simp] theorem onUrg_port (b : Body) (k : Nat) (f : Urgent → Urgent) (p' : Nat) : (b.onUrg k f).port p' = b.port p' := rfl

@[simp] theorem onVisit_role (b : Body) (k : Nat) (cvb : Bool) (f : VisitRun → VisitRun) : (b.onVisit k cvb f).role = b.role := rfl
@[simp] theorem onVisit_regs (b : Body) (k : Nat) (cvb : Bool) (f : VisitRun → VisitRun) : (b.onVisit k cvb f).regs = b.regs := rfl
@[simp] theorem onVisit_chan (b : Body) (k : Nat) (cvb : Bool) (f : VisitRun → VisitRun) : (b.onVisit k cvb f).chan = b.chan := rfl
@[simp] theorem onVisit_eng (b : Body) (k : Nat) (cvb : Bool) (f : VisitRun → VisitRun) : (b.onVisit k cvb f).eng = b.eng := rfl
@[simp] theorem onVisit_bud (b : Body) (k : Nat) (cvb : Bool) (f : VisitRun → VisitRun) : (b.onVisit k cvb f).bud = b.bud := rfl
@[simp] theorem onVisit_rcd (b : Body) (k : Nat) (cvb : Bool) (f : VisitRun → VisitRun) : (b.onVisit k cvb f).rcd = b.rcd := rfl
@[simp] theorem onVisit_mtr (b : Body) (k : Nat) (cvb : Bool) (f : VisitRun → VisitRun) : (b.onVisit k cvb f).mtr = b.mtr := rfl
@[simp] theorem onVisit_disc (b : Body) (k : Nat) (cvb : Bool) (f : VisitRun → VisitRun) : (b.onVisit k cvb f).disc = b.disc := rfl
@[simp] theorem onVisit_tmr (b : Body) (k : Nat) (cvb : Bool) (f : VisitRun → VisitRun) : (b.onVisit k cvb f).tmr = b.tmr := rfl
@[simp] theorem onVisit_health (b : Body) (k : Nat) (cvb : Bool) (f : VisitRun → VisitRun) : (b.onVisit k cvb f).health = b.health := rfl
@[simp] theorem onVisit_fdr (b : Body) (k : Nat) (cvb : Bool) (f : VisitRun → VisitRun) : (b.onVisit k cvb f).fdr = b.fdr := rfl
@[simp] theorem onVisit_twin (b : Body) (k : Nat) (cvb : Bool) (f : VisitRun → VisitRun) : (b.onVisit k cvb f).twin = b.twin := rfl
@[simp] theorem onVisit_boot (b : Body) (k : Nat) (cvb : Bool) (f : VisitRun → VisitRun) : (b.onVisit k cvb f).boot = b.boot := rfl
@[simp] theorem onVisit_hp (b : Body) (k : Nat) (cvb : Bool) (f : VisitRun → VisitRun) : (b.onVisit k cvb f).hp = b.hp := rfl
@[simp] theorem onVisit_gainDue (b : Body) (k : Nat) (cvb : Bool) (f : VisitRun → VisitRun) : (b.onVisit k cvb f).gainDue = b.gainDue := rfl
@[simp] theorem onVisit_dozeReq (b : Body) (k : Nat) (cvb : Bool) (f : VisitRun → VisitRun) : (b.onVisit k cvb f).dozeReq = b.dozeReq := rfl
@[simp] theorem onVisit_trendWords (b : Body) (k : Nat) (cvb : Bool) (f : VisitRun → VisitRun) : (b.onVisit k cvb f).trendWords = b.trendWords := rfl
@[simp] theorem onVisit_alertLow (b : Body) (k : Nat) (cvb : Bool) (f : VisitRun → VisitRun) : (b.onVisit k cvb f).alertLow = b.alertLow := rfl
@[simp] theorem onVisit_alertHold (b : Body) (k : Nat) (cvb : Bool) (f : VisitRun → VisitRun) : (b.onVisit k cvb f).alertHold = b.alertHold := rfl
@[simp] theorem onVisit_hubDown (b : Body) (k : Nat) (cvb : Bool) (f : VisitRun → VisitRun) : (b.onVisit k cvb f).hubDown = b.hubDown := rfl
@[simp] theorem onVisit_doze (b : Body) (k : Nat) (cvb : Bool) (f : VisitRun → VisitRun) : (b.onVisit k cvb f).doze = b.doze := rfl
@[simp] theorem onVisit_dozeLeaves (b : Body) (k : Nat) (cvb : Bool) (f : VisitRun → VisitRun) : (b.onVisit k cvb f).dozeLeaves = b.dozeLeaves := rfl
@[simp] theorem onVisit_reply (b : Body) (k : Nat) (cvb : Bool) (f : VisitRun → VisitRun) : (b.onVisit k cvb f).reply = b.reply := rfl
@[simp] theorem onVisit_freeIx (b : Body) (k : Nat) (cvb : Bool) (f : VisitRun → VisitRun) : (b.onVisit k cvb f).freeIx = b.freeIx := rfl
@[simp] theorem onVisit_ch (b : Body) (k : Nat) (cvb : Bool) (f : VisitRun → VisitRun) (n' : Nat) : (b.onVisit k cvb f).ch n' = b.ch n' := rfl
@[simp] theorem onVisit_en (b : Body) (k : Nat) (cvb : Bool) (f : VisitRun → VisitRun) (n' : Nat) : (b.onVisit k cvb f).en n' = b.en n' := rfl
@[simp] theorem onVisit_rd (b : Body) (k : Nat) (cvb : Bool) (f : VisitRun → VisitRun) (g : Fld) (j : Nat) : (b.onVisit k cvb f).rd g j = b.rd g j := rfl
@[simp] theorem onVisit_flag (b : Body) (k : Nat) (cvb : Bool) (f : VisitRun → VisitRun) (g : Fld) (j : Nat) : (b.onVisit k cvb f).flag g j = b.flag g j := rfl
@[simp] theorem onVisit_port (b : Body) (k : Nat) (cvb : Bool) (f : VisitRun → VisitRun) (p' : Nat) : (b.onVisit k cvb f).port p' = b.port p' := rfl

@[simp] theorem framed_role (b : Body) (k : Nat) (up : Bool) (fs : List (Nat × List Nat)) : (b.framed k up fs).role = b.role := rfl
@[simp] theorem framed_regs (b : Body) (k : Nat) (up : Bool) (fs : List (Nat × List Nat)) : (b.framed k up fs).regs = b.regs := rfl
@[simp] theorem framed_chan (b : Body) (k : Nat) (up : Bool) (fs : List (Nat × List Nat)) : (b.framed k up fs).chan = b.chan := rfl
@[simp] theorem framed_eng (b : Body) (k : Nat) (up : Bool) (fs : List (Nat × List Nat)) : (b.framed k up fs).eng = b.eng := rfl
@[simp] theorem framed_bud (b : Body) (k : Nat) (up : Bool) (fs : List (Nat × List Nat)) : (b.framed k up fs).bud = b.bud := rfl
@[simp] theorem framed_rcd (b : Body) (k : Nat) (up : Bool) (fs : List (Nat × List Nat)) : (b.framed k up fs).rcd = b.rcd := rfl
@[simp] theorem framed_mtr (b : Body) (k : Nat) (up : Bool) (fs : List (Nat × List Nat)) : (b.framed k up fs).mtr = b.mtr := rfl
@[simp] theorem framed_disc (b : Body) (k : Nat) (up : Bool) (fs : List (Nat × List Nat)) : (b.framed k up fs).disc = b.disc := rfl
@[simp] theorem framed_tmr (b : Body) (k : Nat) (up : Bool) (fs : List (Nat × List Nat)) : (b.framed k up fs).tmr = b.tmr := rfl
@[simp] theorem framed_health (b : Body) (k : Nat) (up : Bool) (fs : List (Nat × List Nat)) : (b.framed k up fs).health = b.health := rfl
@[simp] theorem framed_fdr (b : Body) (k : Nat) (up : Bool) (fs : List (Nat × List Nat)) : (b.framed k up fs).fdr = b.fdr := rfl
@[simp] theorem framed_twin (b : Body) (k : Nat) (up : Bool) (fs : List (Nat × List Nat)) : (b.framed k up fs).twin = b.twin := rfl
@[simp] theorem framed_boot (b : Body) (k : Nat) (up : Bool) (fs : List (Nat × List Nat)) : (b.framed k up fs).boot = b.boot := rfl
@[simp] theorem framed_hp (b : Body) (k : Nat) (up : Bool) (fs : List (Nat × List Nat)) : (b.framed k up fs).hp = b.hp := rfl
@[simp] theorem framed_gainDue (b : Body) (k : Nat) (up : Bool) (fs : List (Nat × List Nat)) : (b.framed k up fs).gainDue = b.gainDue := rfl
@[simp] theorem framed_dozeReq (b : Body) (k : Nat) (up : Bool) (fs : List (Nat × List Nat)) : (b.framed k up fs).dozeReq = b.dozeReq := rfl
@[simp] theorem framed_trendWords (b : Body) (k : Nat) (up : Bool) (fs : List (Nat × List Nat)) : (b.framed k up fs).trendWords = b.trendWords := rfl
@[simp] theorem framed_alertLow (b : Body) (k : Nat) (up : Bool) (fs : List (Nat × List Nat)) : (b.framed k up fs).alertLow = b.alertLow := rfl
@[simp] theorem framed_alertHold (b : Body) (k : Nat) (up : Bool) (fs : List (Nat × List Nat)) : (b.framed k up fs).alertHold = b.alertHold := rfl
@[simp] theorem framed_hubDown (b : Body) (k : Nat) (up : Bool) (fs : List (Nat × List Nat)) : (b.framed k up fs).hubDown = b.hubDown := rfl
@[simp] theorem framed_doze (b : Body) (k : Nat) (up : Bool) (fs : List (Nat × List Nat)) : (b.framed k up fs).doze = b.doze := rfl
@[simp] theorem framed_dozeLeaves (b : Body) (k : Nat) (up : Bool) (fs : List (Nat × List Nat)) : (b.framed k up fs).dozeLeaves = b.dozeLeaves := rfl
@[simp] theorem framed_reply (b : Body) (k : Nat) (up : Bool) (fs : List (Nat × List Nat)) : (b.framed k up fs).reply = b.reply := rfl
@[simp] theorem framed_freeIx (b : Body) (k : Nat) (up : Bool) (fs : List (Nat × List Nat)) : (b.framed k up fs).freeIx = b.freeIx := rfl
@[simp] theorem framed_ch (b : Body) (k : Nat) (up : Bool) (fs : List (Nat × List Nat)) (n' : Nat) : (b.framed k up fs).ch n' = b.ch n' := rfl
@[simp] theorem framed_en (b : Body) (k : Nat) (up : Bool) (fs : List (Nat × List Nat)) (n' : Nat) : (b.framed k up fs).en n' = b.en n' := rfl
@[simp] theorem framed_rd (b : Body) (k : Nat) (up : Bool) (fs : List (Nat × List Nat)) (g : Fld) (j : Nat) : (b.framed k up fs).rd g j = b.rd g j := rfl
@[simp] theorem framed_flag (b : Body) (k : Nat) (up : Bool) (fs : List (Nat × List Nat)) (g : Fld) (j : Nat) : (b.framed k up fs).flag g j = b.flag g j := rfl
@[simp] theorem framed_port (b : Body) (k : Nat) (up : Bool) (fs : List (Nat × List Nat)) (p' : Nat) : (b.framed k up fs).port p' = b.port p' := rfl

@[simp] theorem onSess_role (b : Body) (f : Sess → Sess) : (b.onSess f).role = b.role := rfl
@[simp] theorem onSess_regs (b : Body) (f : Sess → Sess) : (b.onSess f).regs = b.regs := rfl
@[simp] theorem onSess_chan (b : Body) (f : Sess → Sess) : (b.onSess f).chan = b.chan := rfl
@[simp] theorem onSess_eng (b : Body) (f : Sess → Sess) : (b.onSess f).eng = b.eng := rfl
@[simp] theorem onSess_die (b : Body) (f : Sess → Sess) : (b.onSess f).die = b.die := rfl
@[simp] theorem onSess_bud (b : Body) (f : Sess → Sess) : (b.onSess f).bud = b.bud := rfl
@[simp] theorem onSess_rcd (b : Body) (f : Sess → Sess) : (b.onSess f).rcd = b.rcd := rfl
@[simp] theorem onSess_disc (b : Body) (f : Sess → Sess) : (b.onSess f).disc = b.disc := rfl
@[simp] theorem onSess_tmr (b : Body) (f : Sess → Sess) : (b.onSess f).tmr = b.tmr := rfl
@[simp] theorem onSess_health (b : Body) (f : Sess → Sess) : (b.onSess f).health = b.health := rfl
@[simp] theorem onSess_fdr (b : Body) (f : Sess → Sess) : (b.onSess f).fdr = b.fdr := rfl
@[simp] theorem onSess_twin (b : Body) (f : Sess → Sess) : (b.onSess f).twin = b.twin := rfl
@[simp] theorem onSess_boot (b : Body) (f : Sess → Sess) : (b.onSess f).boot = b.boot := rfl
@[simp] theorem onSess_hp (b : Body) (f : Sess → Sess) : (b.onSess f).hp = b.hp := rfl
@[simp] theorem onSess_gainDue (b : Body) (f : Sess → Sess) : (b.onSess f).gainDue = b.gainDue := rfl
@[simp] theorem onSess_dozeReq (b : Body) (f : Sess → Sess) : (b.onSess f).dozeReq = b.dozeReq := rfl
@[simp] theorem onSess_trendWords (b : Body) (f : Sess → Sess) : (b.onSess f).trendWords = b.trendWords := rfl
@[simp] theorem onSess_alertLow (b : Body) (f : Sess → Sess) : (b.onSess f).alertLow = b.alertLow := rfl
@[simp] theorem onSess_alertHold (b : Body) (f : Sess → Sess) : (b.onSess f).alertHold = b.alertHold := rfl
@[simp] theorem onSess_hubDown (b : Body) (f : Sess → Sess) : (b.onSess f).hubDown = b.hubDown := rfl
@[simp] theorem onSess_doze (b : Body) (f : Sess → Sess) : (b.onSess f).doze = b.doze := rfl
@[simp] theorem onSess_dozeLeaves (b : Body) (f : Sess → Sess) : (b.onSess f).dozeLeaves = b.dozeLeaves := rfl
@[simp] theorem onSess_reply (b : Body) (f : Sess → Sess) : (b.onSess f).reply = b.reply := rfl
@[simp] theorem onSess_freeIx (b : Body) (f : Sess → Sess) : (b.onSess f).freeIx = b.freeIx := rfl
@[simp] theorem onSess_ch (b : Body) (f : Sess → Sess) (n' : Nat) : (b.onSess f).ch n' = b.ch n' := rfl
@[simp] theorem onSess_en (b : Body) (f : Sess → Sess) (n' : Nat) : (b.onSess f).en n' = b.en n' := rfl
@[simp] theorem onSess_fe (b : Body) (f : Sess → Sess) (k' : Nat) : (b.onSess f).fe k' = b.fe k' := rfl
@[simp] theorem onSess_rd (b : Body) (f : Sess → Sess) (g : Fld) (j : Nat) : (b.onSess f).rd g j = b.rd g j := rfl
@[simp] theorem onSess_flag (b : Body) (f : Sess → Sess) (g : Fld) (j : Nat) : (b.onSess f).flag g j = b.flag g j := rfl
@[simp] theorem onSess_drd (b : Body) (f : Sess → Sess) (k' : Nat) (g : Fld) (j : Nat) : (b.onSess f).drd k' g j = b.drd k' g j := rfl
@[simp] theorem onSess_cd (b : Body) (f : Sess → Sess) (g : Fld) (n' : Nat) : (b.onSess f).cd g n' = b.cd g n' := rfl
@[simp] theorem onSess_port (b : Body) (f : Sess → Sess) (p' : Nat) : (b.onSess f).port p' = b.port p' := rfl

@[simp] theorem onPath_role (b : Body) (n : Nat) (f : MPath → MPath) : (b.onPath n f).role = b.role := rfl
@[simp] theorem onPath_regs (b : Body) (n : Nat) (f : MPath → MPath) : (b.onPath n f).regs = b.regs := rfl
@[simp] theorem onPath_chan (b : Body) (n : Nat) (f : MPath → MPath) : (b.onPath n f).chan = b.chan := rfl
@[simp] theorem onPath_die (b : Body) (n : Nat) (f : MPath → MPath) : (b.onPath n f).die = b.die := rfl
@[simp] theorem onPath_bud (b : Body) (n : Nat) (f : MPath → MPath) : (b.onPath n f).bud = b.bud := rfl
@[simp] theorem onPath_rcd (b : Body) (n : Nat) (f : MPath → MPath) : (b.onPath n f).rcd = b.rcd := rfl
@[simp] theorem onPath_mtr (b : Body) (n : Nat) (f : MPath → MPath) : (b.onPath n f).mtr = b.mtr := rfl
@[simp] theorem onPath_disc (b : Body) (n : Nat) (f : MPath → MPath) : (b.onPath n f).disc = b.disc := rfl
@[simp] theorem onPath_tmr (b : Body) (n : Nat) (f : MPath → MPath) : (b.onPath n f).tmr = b.tmr := rfl
@[simp] theorem onPath_health (b : Body) (n : Nat) (f : MPath → MPath) : (b.onPath n f).health = b.health := rfl
@[simp] theorem onPath_fdr (b : Body) (n : Nat) (f : MPath → MPath) : (b.onPath n f).fdr = b.fdr := rfl
@[simp] theorem onPath_twin (b : Body) (n : Nat) (f : MPath → MPath) : (b.onPath n f).twin = b.twin := rfl
@[simp] theorem onPath_boot (b : Body) (n : Nat) (f : MPath → MPath) : (b.onPath n f).boot = b.boot := rfl
@[simp] theorem onPath_hp (b : Body) (n : Nat) (f : MPath → MPath) : (b.onPath n f).hp = b.hp := rfl
@[simp] theorem onPath_gainDue (b : Body) (n : Nat) (f : MPath → MPath) : (b.onPath n f).gainDue = b.gainDue := rfl
@[simp] theorem onPath_dozeReq (b : Body) (n : Nat) (f : MPath → MPath) : (b.onPath n f).dozeReq = b.dozeReq := rfl
@[simp] theorem onPath_trendWords (b : Body) (n : Nat) (f : MPath → MPath) : (b.onPath n f).trendWords = b.trendWords := rfl
@[simp] theorem onPath_alertLow (b : Body) (n : Nat) (f : MPath → MPath) : (b.onPath n f).alertLow = b.alertLow := rfl
@[simp] theorem onPath_alertHold (b : Body) (n : Nat) (f : MPath → MPath) : (b.onPath n f).alertHold = b.alertHold := rfl
@[simp] theorem onPath_hubDown (b : Body) (n : Nat) (f : MPath → MPath) : (b.onPath n f).hubDown = b.hubDown := rfl
@[simp] theorem onPath_doze (b : Body) (n : Nat) (f : MPath → MPath) : (b.onPath n f).doze = b.doze := rfl
@[simp] theorem onPath_dozeLeaves (b : Body) (n : Nat) (f : MPath → MPath) : (b.onPath n f).dozeLeaves = b.dozeLeaves := rfl
@[simp] theorem onPath_reply (b : Body) (n : Nat) (f : MPath → MPath) : (b.onPath n f).reply = b.reply := rfl
@[simp] theorem onPath_freeIx (b : Body) (n : Nat) (f : MPath → MPath) : (b.onPath n f).freeIx = b.freeIx := rfl
@[simp] theorem onPath_ch (b : Body) (n : Nat) (f : MPath → MPath) (n' : Nat) : (b.onPath n f).ch n' = b.ch n' := rfl
@[simp] theorem onPath_fe (b : Body) (n : Nat) (f : MPath → MPath) (k' : Nat) : (b.onPath n f).fe k' = b.fe k' := rfl
@[simp] theorem onPath_rd (b : Body) (n : Nat) (f : MPath → MPath) (g : Fld) (j : Nat) : (b.onPath n f).rd g j = b.rd g j := rfl
@[simp] theorem onPath_flag (b : Body) (n : Nat) (f : MPath → MPath) (g : Fld) (j : Nat) : (b.onPath n f).flag g j = b.flag g j := rfl
@[simp] theorem onPath_drd (b : Body) (n : Nat) (f : MPath → MPath) (k' : Nat) (g : Fld) (j : Nat) : (b.onPath n f).drd k' g j = b.drd k' g j := rfl
@[simp] theorem onPath_cd (b : Body) (n : Nat) (f : MPath → MPath) (g : Fld) (n' : Nat) : (b.onPath n f).cd g n' = b.cd g n' := rfl
@[simp] theorem onPath_port (b : Body) (n : Nat) (f : MPath → MPath) (p' : Nat) : (b.onPath n f).port p' = b.port p' := rfl

@[simp] theorem onRcd_rcd (b : Body) (f : Recorder → Recorder) : (b.onRcd f).rcd = f b.rcd := rfl
@[simp] theorem onMtr_mtr (b : Body) (f : Meter → Meter) : (b.onMtr f).mtr = f b.mtr := rfl
@[simp] theorem onDisc_disc (b : Body) (f : Disc → Disc) : (b.onDisc f).disc = f b.disc := rfl
@[simp] theorem onTmr_tmr (b : Body) (f : Timers → Timers) : (b.onTmr f).tmr = f b.tmr := rfl
@[simp] theorem onHealth_health (b : Body) (f : Health → Health) : (b.onHealth f).health = f b.health := rfl
@[simp] theorem onFp_fdr (b : Body) (f : FeederPort → FeederPort) : (b.onFp f).fdr = f b.fdr := rfl
@[simp] theorem onBoot_boot (b : Body) (f : Boot → Boot) : (b.onBoot f).boot = f b.boot := rfl
@[simp] theorem onTwin_twin (b : Body) (f : Twin → Twin) : (b.onTwin f).twin = f b.twin := rfl
@[simp] theorem onHu_bud (b : Body) (f : HoldUp → HoldUp) : (b.onHu f).bud = { b.bud with hu := f b.bud.hu } := rfl

/-- A channel reads as it has been changed, the others as before. -/
theorem ch_onCh (b : Body) (n m : Nat) (f : Chan → Chan) :
    (b.onCh n f).ch m = if m % 128 = n % 128 then f (b.ch n) else b.ch m := by
  have h : m % 128 < 128 := Nat.mod_lt _ (by decide)
  change (b.chan.set (n % 128) (f (b.ch n)) (Nat.mod_lt _ (by decide)))[m % 128]'h = if m % 128 = n % 128 then f (b.ch n) else b.chan[m % 128]'h
  rw [Vector.getElem_set]
  simp only [eq_comm]

@[simp] theorem ch_onCh_same (b : Body) (n : Nat) (f : Chan → Chan) : (b.onCh n f).ch n = f (b.ch n) := by simp [ch_onCh]

/-- A channel's engines read as they have been changed, the others as before. -/
theorem en_onEng (b : Body) (n m : Nat) (f : Eng → Eng) :
    (b.onEng n f).en m = if m % 128 = n % 128 then f (b.en n) else b.en m := by
  have h : m % 128 < 128 := Nat.mod_lt _ (by decide)
  change (b.eng.set (n % 128) (f (b.en n)) (Nat.mod_lt _ (by decide)))[m % 128]'h = if m % 128 = n % 128 then f (b.en n) else b.eng[m % 128]'h
  rw [Vector.getElem_set]
  simp only [eq_comm]

@[simp] theorem en_onEng_same (b : Body) (n : Nat) (f : Eng → Eng) : (b.onEng n f).en n = f (b.en n) := by simp [en_onEng]

/-- A die reads as it has been changed, the others as before. -/
theorem fe_onDie (b : Body) (k j : Nat) (f : Die → Die) :
    (b.onDie k f).fe j = if j % 8 = k % 8 then f (b.fe k) else b.fe j := by
  have h : j % 8 < 8 := Nat.mod_lt _ (by decide)
  change (b.die.set (k % 8) (f (b.fe k)) (Nat.mod_lt _ (by decide)))[j % 8]'h = if j % 8 = k % 8 then f (b.fe k) else b.die[j % 8]'h
  rw [Vector.getElem_set]
  simp only [eq_comm]

@[simp] theorem fe_onDie_same (b : Body) (k : Nat) (f : Die → Die) : (b.onDie k f).fe k = f (b.fe k) := by simp [fe_onDie]

@[simp] theorem onUrg_fe_same (b : Body) (k : Nat) (f : Urgent → Urgent) :
    (b.onUrg k f).fe k = { b.fe k with urg := f (b.fe k).urg } := by simp [Body.onUrg]

@[simp] theorem onPath_en_same (b : Body) (n : Nat) (f : MPath → MPath) :
    (b.onPath n f).en n = { b.en n with m := f (b.en n).m } := by simp [Body.onPath]

end Sys2Proof.Laws
end

