-- ==== Sys2Proof/Laws/Channels.lean ====
section
/-!
SUPPORT. What the shared operations of the channel machines can do: `outer` is everything but the registers, the channels, the
engines, the dies, the budget, the recorder and the counters beside them, and every event leaves it as it was; a change of state
gives the machine its state and reason and leaves every other machine's.
-/

namespace Sys2Proof.Laws

open Sys2Proof Sys2Proof.Machine

/-- The body with everything taken out that an event of a channel may change. -/
def outer (b : Body) : Body :=
  { b with twin := { b.twin with pass := [], sent := [], txSeq := 0 }, regs := [], chan := Body.reset.chan, eng := Body.reset.eng, die := Body.reset.die, bud := Budget.reset,
           rcd := Recorder.reset, gainDue := [], dozeLeaves := [], freeIx := 0 }

@[simp] theorem outer_wr (b : Body) (f : Fld) (i v : Nat) : outer (b.wr f i v) = outer b := rfl
@[simp] theorem outer_bump (b : Body) (f : Fld) (i : Nat) : outer (b.bump f i) = outer b := rfl
@[simp] theorem outer_onCh (b : Body) (n : Nat) (f : Chan → Chan) : outer (b.onCh n f) = outer b := rfl
@[simp] theorem outer_onEng (b : Body) (n : Nat) (f : Eng → Eng) : outer (b.onEng n f) = outer b := rfl
@[simp] theorem outer_onDie (b : Body) (k : Nat) (f : Die → Die) : outer (b.onDie k f) = outer b := rfl
@[simp] theorem outer_emit (b : Body) (r : LRec) : outer (b.emit r) = outer b := rfl
@[simp] theorem outer_bud (b : Body) (x : Budget) : outer { b with bud := x } = outer b := rfl
@[simp] theorem outer_sendDown (b : Body) (k : Nat) (m : DownMsg) : outer (b.sendDown k m) = outer b := rfl
@[simp] theorem outer_setReason (b : Body) (n r : Nat) : outer (b.setReason n r) = outer b := rfl

theorem outer_fold {α : Type} (f : Body → α → Body) (hf : ∀ b a, outer (f b a) = outer b) (l : List α) (b : Body) :
    outer (l.foldl f b) = outer b := by
  induction l generalizing b with
  | nil => rfl
  | cons a l ih => exact (ih _).trans (hf b a)

theorem outer_forEach (l : List Nat) (f : Nat → Body → Body) (hf : ∀ n b, outer (f n b) = outer b) (b : Body) :
    outer (b.forEach l f) = outer b := outer_fold _ (fun b a => hf a b) l b

/-- The engines of a list of channels. -/
@[simp] theorem outer_engines (l : List Nat) (f : Nat → Eng → Eng) (b : Body) :
    outer (b.forEach l fun m b => b.onEng m (f m)) = outer b :=
  outer_forEach l (fun m b => b.onEng m (f m)) (fun _ _ => rfl) b

/-- A frame to the partner. -/
@[simp] theorem outer_sendBluli (k : Nat) (c : List Nat) (b : Body) : outer (b.sendBluli k c) = outer b := by
  unfold Body.sendBluli; split <;> rfl

/-- The frames of a die's link. -/
@[simp] theorem outer_framed (k : Nat) (up : Bool) (fs : List (Nat × List Nat)) (b : Body) : outer (b.framed k up fs) = outer b := rfl

@[simp] theorem outer_shared (r : LRec) (b : Body) : outer (b.shared r) = outer b := by
  unfold Body.shared; split
  · exact (outer_sendBluli _ _ _).trans rfl
  · rfl

@[simp] theorem outer_event (t c n x y z : Nat) (b : Body) : outer (b.event t c n x y z) = outer b := outer_shared _ b

@[simp] theorem outer_raiseCh1 (n : Nat) (l : ChLeaf) (b : Body) : outer (b.raiseCh1 n l) = outer b := by
  unfold Body.raiseCh1; split
  · rfl
  · split <;> rfl

@[simp] theorem outer_raise (l : Leaf) (b : Body) : outer (b.raise l) = outer b := by
  unfold Body.raise; repeat' split
  all_goals rfl

@[simp] theorem outer_raiseCh (n : Nat) (l : ChLeaf) (b : Body) : outer (b.raiseCh n l) = outer b :=
  outer_forEach _ _ (fun m b => outer_raiseCh1 m l b) b

@[simp] theorem outer_fwd (n : Nat) (fs : List (Fld × Nat)) (b : Body) : outer (b.fwd n fs) = outer b := by
  unfold Body.fwd; simp only [outer_sendDown]
  exact outer_fold (fun b f => b.wr f.1 n f.2) (fun _ _ => rfl) fs b

@[simp] theorem outer_dropMeas (n : Nat) (b : Body) : outer (b.dropMeas n) = outer b := by
  unfold Body.dropMeas; split <;> rfl

@[simp] theorem outer_endCap (n : Nat) (b : Body) : outer (b.endCap n) = outer b := by
  unfold Body.endCap; split
  · simp
  · rfl

@[simp] theorem outer_cutWide (k : Nat) (b : Body) : outer (b.cutWide k) = outer b := by
  unfold Body.cutWide; split <;> rfl

@[simp] theorem outer_dwr (b : Body) (k : Nat) (f : Fld) (i v : Nat) : outer (b.dwr k f i v) = outer b := rfl
@[simp] theorem outer_onUrg (b : Body) (k : Nat) (f : Urgent → Urgent) : outer (b.onUrg k f) = outer b := rfl
@[simp] theorem outer_onVisit (b : Body) (k : Nat) (c : Bool) (f : VisitRun → VisitRun) : outer (b.onVisit k c f) = outer b := rfl
@[simp] theorem outer_onPath (b : Body) (n : Nat) (f : MPath → MPath) : outer (b.onPath n f) = outer b := rfl
@[simp] theorem outer_startCap (e : Env) (k : Nat) (b : Body) : outer (b.startCap e k) = outer b := by
  unfold Body.startCap; split <;> rfl

@[simp] theorem outer_span (t k d m : Nat) (b : Body) : outer (b.span t k d m) = outer b := outer_shared _ b

@[simp] theorem outer_visitsPause (e : Env) (k : Nat) (b : Body) : outer (b.visitsPause e k) = outer b :=
  outer_forEach [0, 1] (fun c b => b.onVisit k (c = 1) fun v => ⟨v.doneAt (b.convNs k) e.now, none⟩) (fun _ _ => rfl) b

/-- The sums of the open intervals of a list of channels. -/
theorem outer_paths (l : List Nat) (f : MPath → MPath) (b : Body) : outer (b.forEach l fun n b => b.onPath n f) = outer b :=
  outer_forEach l (fun n b => b.onPath n f) (fun _ _ => rfl) b

@[simp] theorem outer_emptyScan (e : Env) (k : Nat) (b : Body) : outer (b.emptyScan e k) = outer b := by
  unfold Body.emptyScan
  simp only [apply_ite outer, outer_onDie, ite_self]

/-- An urgent request that starts leaves the rest of the module. -/
@[simp] theorem outer_urgentStart (e : Env) (k : Nat) (b : Body) : outer (b.urgentStart e k) = outer b := by
  unfold Body.urgentStart
  simp only [apply_ite outer, outer_span, outer_paths, outer_startCap, outer_dwr, outer_onUrg, outer_onDie, outer_visitsPause, outer_wr,
    outer_emptyScan, ite_self]

@[simp] theorem outer_capture (e : Env) (k s u : Nat) (b : Body) : outer (b.capture e k s u) = outer b := by
  unfold Body.capture
  simp only [apply_ite outer, outer_urgentStart, outer_dwr, outer_onUrg, ite_self]

@[simp] theorem outer_capTrigger (e : Env) (k s u : Nat) (b : Body) : outer (b.capTrigger e k s u) = outer b := by
  unfold Body.capTrigger; split <;> simp

/-- A trigger of a die, passed on to the others, leaves the rest of the module. -/
@[simp] theorem outer_capTriggerAll (e : Env) (k s u : Nat) (b : Body) : outer (b.capTriggerAll e k s u) = outer b := by
  unfold Body.capTriggerAll
  simp only []
  split
  · refine (outer_fold (fun (b : Body) (j : Nat) => if j = k then b else b.capTrigger e j 5 0) (fun b j => ?_) _ _).trans (by simp)
    simp only [apply_ite outer, outer_capTrigger, ite_self]
  · simp

@[simp] theorem outer_latchDie (e : Env) (n : Nat) (b : Body) : outer (b.latchDie e n) = outer b := by
  unfold Body.latchDie
  refine outer_forEach _ _ (fun m b => ?_) b
  split
  · rfl
  · exact (outer_capTriggerAll _ _ _ _ _).trans rfl

/-- A short's pulses and triggers. -/
@[simp] theorem outer_pulses (e : Env) (l : List Nat) (b : Body) :
    outer (b.forEach l fun m b => (b.onEng m fun g => { g with tripPulse := true }).capTriggerAll e (dieOf m) 1 (m % 16)) = outer b :=
  outer_forEach l (fun m b => (b.onEng m fun g => { g with tripPulse := true }).capTriggerAll e (dieOf m) 1 (m % 16))
    (fun _ _ => by simp) b

@[simp] theorem outer_landFields (k : Nat) (b : Body) : outer (b.landFields k) = outer b := rfl

@[simp] theorem outer_grantDie (e : Env) (n : Nat) (b : Body) : outer (b.grantDie e n) = outer b := by
  have fe : ∀ (c : Body) (l : List Nat) (f : Eng → Eng), outer (c.forEach l fun m b => b.onEng m f) = outer c :=
    fun c l f => outer_engines l (fun _ => f) c
  unfold Body.grantDie
  simp only [fe, apply_ite outer, outer_onUrg, ite_self]

@[simp] theorem outer_stateDie (e : Env) (n : Nat) (o x : ChState) (b : Body) : outer (b.stateDie e n o x) = outer b := by
  unfold Body.stateDie; simp only [apply_ite outer, outer_cutWide, outer_engines, ite_self]

@[simp] theorem outer_releaseDie (n : Nat) (p : ChState) (b : Body) : outer (b.releaseDie n p) = outer b :=
  outer_engines (b.membersOf n) (fun _ g =>
    if g.tripLatch then { g with gate := g.offGate }
    else if p = .ramp then g.resumeRamp
    else if p.driven then { g with gate := .driven, stallNs := 0 }
    else { g with gate := g.offGate }) b

/-- What a die does to its engines at a command leaves the rest of the module. -/
@[simp] theorem outer_actDie (e : Env) (m : DownMsg) (b : Body) : outer (b.actDie e m) = outer b := by
  cases m <;> simp [Body.actDie]

/-- So does HUB's command of a die's engines. -/
@[simp] theorem outer_tell (e : Env) (k : Nat) (m : DownMsg) (b : Body) : outer (b.tell e k m) = outer b := by
  unfold Body.tell
  simp only [apply_ite outer, outer_framed, outer_actDie, outer_landFields, outer_sendDown, ite_self]

/-- A change of state leaves the rest of the module. -/
@[simp] theorem outer_enter (e : Env) (n : Nat) (st : ChState) (r : Nat) (b : Body) : outer (b.enter e n st r) = outer b := by
  unfold Body.enter
  simp only [apply_ite outer, outer_onCh, outer_tell, outer_endCap, outer_dropMeas, outer_raiseCh, ite_self]

@[simp] theorem outer_writeTrip (e : Env) (n r t : Nat) (b : Body) : outer (b.writeTrip e n r t) = outer b := rfl

/-- A trip leaves the rest of the module. -/
@[simp] theorem outer_applyTrip (e : Env) (n r t : Nat) (b : Body) : outer (b.applyTrip e n r t) = outer b := by
  unfold Body.applyTrip
  simp only []
  split
  · rfl
  · simp only [outer_event, outer_onCh, outer_enter]
    repeat' split
    all_goals simp

@[simp] theorem outer_applyShort (e : Env) (n t : Nat) (b : Body) : outer (b.applyShort e n t) = outer b := by
  unfold Body.applyShort
  split <;> simp

@[simp] theorem outer_yieldTo (e : Env) (n x y : Nat) (st : ChState) (b : Body) : outer (b.yieldTo e n x y st) = outer b := by
  simp [Body.yieldTo]

@[simp] theorem outer_refuse (e : Env) (n r : Nat) (b : Body) : outer (b.refuse e n r) = outer b := by
  unfold Body.refuse; simp only [outer_event]; split <;> simp

@[simp] theorem outer_shed (e : Env) (n r : Nat) (b : Body) : outer (b.shed e n r) = outer b := by simp [Body.shed]

@[simp] theorem outer_formPlan (e : Env) (b : Body) : outer (b.formPlan e) = outer b := by
  unfold Body.formPlan; repeat' split
  all_goals rfl

@[simp] theorem outer_enqueue (e : Env) (n : Nat) (b : Body) : outer (b.enqueue e n) = outer b := by
  unfold Body.enqueue; simp only []; repeat' split
  all_goals simp

@[simp] theorem outer_trySeat (e : Env) (n : Nat) (b : Body) : outer (b.trySeat e n) = outer b := by
  unfold Body.trySeat; split <;> simp

@[simp] theorem outer_stampSeat (e : Env) (n t : Nat) (b : Body) : outer (b.stampSeat e n t) = outer b := rfl

@[simp] theorem outer_grant (e : Env) (n : Nat) (b : Body) : outer (b.grant e n) = outer b := by
  unfold Body.grant; exact (outer_bud _ _).trans (by simp)

@[simp] theorem outer_enOn (e : Env) (n : Nat) (b : Body) : outer (b.enOn e n) = outer b := by
  unfold Body.enOn; repeat' split
  all_goals simp

@[simp] theorem outer_cleared (e : Env) (n c : Nat) (b : Body) : outer (b.cleared e n c) = outer b := by simp [Body.cleared]

@[simp] theorem outer_aqQualified (e : Env) (n : Nat) (b : Body) : outer (b.aqQualified e n) = outer b := by
  unfold Body.aqQualified; simp only []; split <;> simp

@[simp] theorem outer_aqAtQual (e : Env) (n : Nat) (b : Body) : outer (b.aqAtQual e n) = outer b := by
  unfold Body.aqAtQual; split
  · rfl
  · simp only []; split <;> simp

@[simp] theorem outer_startAq (n t : Nat) (b : Body) : outer (b.startAq n t) = outer b := rfl

@[simp] theorem outer_stopSeats (l : List Nat) (b : Body) : outer (b.forEach l fun m b => b.stopSeat m) = outer b :=
  outer_forEach l (fun m b => b.stopSeat m) (fun _ _ => rfl) b

@[simp] theorem outer_benchIn (e : Env) (n : Nat) (b : Body) : outer (b.benchIn e n) = outer b := by simp [Body.benchIn]

@[simp] theorem outer_restored (e : Env) (n : Nat) (st : ChState) (b : Body) : outer (b.restored e n st) = outer b := by
  unfold Body.restored; split
  · rfl
  · have fe : ∀ (c : Body) (l : List Nat) (f : Nat → Body → Eng → Eng),
        outer (c.forEach l fun m b => b.onEng m (f m b)) = outer c :=
      fun c l f => outer_forEach l (fun m b => b.onEng m (f m b)) (fun _ _ => rfl) c
    exact fe _ _ _

@[simp] theorem outer_imageOk (e : Env) (n : Nat) (b : Body) : outer (b.imageOk e n) = outer b := by
  have fe : ∀ (c : Body) (l : List Nat) (f : Nat → Body → Chan → Chan),
      outer (c.forEach l fun m b => (b.stopSeat m).onCh m (f m b)) = outer c :=
    fun c l f => outer_forEach l (fun m b => (b.stopSeat m).onCh m (f m b)) (fun _ _ => rfl) c
  unfold Body.imageOk
  split
  · rfl
  · simp only []
    repeat' split
    all_goals simp [fe]

/-- An event leaves the rest of the module. -/
@[simp] theorem outer_applyEv (e : Env) (n : Nat) (ev : Ev) (t : Nat) (b : Body) : outer (b.applyEv e n ev t) = outer b := by
  unfold Body.applyEv
  cases ev <;> simp only [] <;> repeat' split
  all_goals simp

@[simp] theorem outer_releaseHold (e : Env) (n : Nat) (b : Body) : outer (b.releaseHold e n) = outer b := by
  unfold Body.releaseHold
  simp only []
  split
  · rfl
  · refine (outer_fold (fun (b : Body) (ev : Ev × Nat) => b.applyEv e n ev.1 ev.2) (fun b ev => outer_applyEv e n ev.1 ev.2 b) _ _).trans ?_
    simp only [apply_ite outer, outer_formPlan, outer_tell, outer_raiseCh, outer_onCh, ite_self]

@[simp] theorem outer_releaseOne (e : Env) (n r : Nat) (b : Body) : outer (b.releaseOne e n r) = outer b := by
  unfold Body.releaseOne; simp only []; split <;> simp

@[simp] theorem outer_breakHold (e : Env) (n : Nat) (ev : Ev) (t : Nat) (b : Body) : outer (b.breakHold e n ev t) = outer b := by
  unfold Body.breakHold
  refine (outer_fold (fun (b : Body) (x : Ev × Nat) => b.applyEv e n x.1 x.2) (fun b x => outer_applyEv e n x.1 x.2 b) _ _).trans ?_
  simp

/-- What reaches a machine leaves the rest of the module. -/
@[simp] theorem outer_deliver (e : Env) (n : Nat) (ev : Ev) (t : Nat) (b : Body) : outer (b.deliver e n ev t) = outer b := by
  unfold Body.deliver
  simp only []
  split
  · split <;> simp
  · split
    · cases ev <;> simp
    · simp

/-- What a die reports leaves the rest of the module. -/
@[simp] theorem outer_report (e : Env) (n : Nat) (ev : Ev) (t : Nat) (b : Body) : outer (b.report e n ev t) = outer b := by
  unfold Body.report
  simp only [apply_ite outer, outer_deliver, outer_framed, outer_onDie, ite_self]

/-- So an event leaves the role. -/
theorem report_role (e : Env) (n : Nat) (ev : Ev) (t : Nat) (b : Body) : (b.report e n ev t).role = b.role := by
  show (outer (b.report e n ev t)).role = (outer b).role
  rw [outer_report]

/-! ### A change of state -/

/-- HUB's channels through a fold that leaves them. -/
theorem chan_fold {α : Type} (f : Body → α → Body) (hf : ∀ b a, (f b a).chan = b.chan) (l : List α) (b : Body) :
    (l.foldl f b).chan = b.chan := by
  induction l generalizing b with
  | nil => rfl
  | cons a l ih => exact (ih _).trans (hf b a)

/-- The machine takes the state and the reason of a change. -/
theorem enter_state (e : Env) (n : Nat) (st : ChState) (r : Nat) (b : Body) :
    ((b.enter e n st r).ch n).state = st ∧ ((b.enter e n st r).ch n).reason = r := by
  have fe : ∀ (c : Body) (l : List Nat) (f : Eng → Eng), (c.forEach l fun m b => b.onEng m f).ch n = c.ch n := by
    intro c l f
    have h := chan_fold (fun b m => b.onEng m f) (fun _ _ => rfl) l c
    unfold Body.ch; rw [← h]; rfl
  have cw : ∀ (k : Nat) (c : Body), (c.cutWide k).ch n = c.ch n := by
    intro k c; unfold Body.cutWide; split <;> rfl
  have tl : ∀ (k m : Nat) (o x : ChState) (c : Body), (c.tell e k (.state m o x)).ch n = c.ch n := by
    intro k m o x c
    have st : ∀ c : Body, (c.stateDie e m o x).ch n = c.ch n := by
      intro c; unfold Body.stateDie
      simp only [apply_ite (fun c : Body => c.ch n), cw]
      rw [ite_self]; exact fe c _ _
    unfold Body.tell
    split
    · rfl
    · split
      · exact (st _).trans rfl
      · rfl
  unfold Body.enter
  simp only [apply_ite (fun c : Body => c.ch n), tl, ch_onCh_same]
  split <;> exact ⟨rfl, rfl⟩

end Sys2Proof.Laws
end

