-- ==== Sys2Proof/Laws/PerInstr.lean ====
section
/-!
SUPPORT. The statement made for each command by itself: only the commands that WellFormed bounds can be ill formed.
-/

namespace Sys2Proof.Laws.Family

open Sys2Proof.Machine

/-- A command whose operands have no bounds beyond their types is well formed. -/
def Statement (i : Instr) : Prop := i.bounded = false → i.wellFormed = true

theorem moduleStart (ohms : Nat) : Statement (.moduleStart ohms) := fun _ => rfl
theorem soloDecision : Statement (.soloDecision) := fun _ => rfl
theorem flashDiscovery (f : Option FlashInfo) : Statement (.flashDiscovery f) := fun _ => rfl
theorem imageReadCheck (slotB : Bool) (bytes : List Nat) : Statement (.imageReadCheck slotB bytes) := fun _ => rfl
theorem imageApply : Statement (.imageApply) := fun _ => rfl
theorem imageRetry : Statement (.imageRetry) := fun _ => rfl
theorem soloAccept : Statement (.soloAccept) := fun _ => rfl
theorem expertUnlock (value : Word) : Statement (.expertUnlock value) := fun _ => rfl
theorem expertUnlockTimeout : Statement (.expertUnlockTimeout) := fun _ => rfl
theorem registerWrite (addr : Nat) (value : Word) : Statement (.registerWrite addr value) := fun h => absurd h (by simp [Instr.bounded])
theorem modSyncRead : Statement (.modSyncRead) := fun _ => rfl
theorem iclWrite (k : DieIx) : Statement (.iclWrite k) := fun _ => rfl
theorem iclReadRequest (k : DieIx) (port : Fin 2) (addr : Nat) : Statement (.iclReadRequest k port addr) := fun h => absurd h (by simp [Instr.bounded])
theorem iclReadReply (k : DieIx) : Statement (.iclReadReply k) := fun _ => rfl
theorem iclWriteAck (k : DieIx) : Statement (.iclWriteAck k) := fun _ => rfl
theorem iclStatus (k : DieIx) : Statement (.iclStatus k) := fun _ => rfl
theorem iclTrendIncrement (n : ChIx) : Statement (.iclTrendIncrement n) := fun _ => rfl
theorem iclCaptureData (k : DieIx) (raws : List Int) : Statement (.iclCaptureData k raws) := fun _ => rfl
theorem iclSyncMarker (m : Marker) : Statement (.iclSyncMarker m) := fun _ => rfl
theorem iclTraceData (k : DieIx) : Statement (.iclTraceData k) := fun _ => rfl
theorem iclRetransmit (k : DieIx) (again : Bool) : Statement (.iclRetransmit k again) := fun _ => rfl
theorem clockFail (c : ClockId) : Statement (.clockFail c) := fun _ => rfl
theorem hubClockLoss : Statement (.hubClockLoss) := fun _ => rfl
theorem hubRestart (bytes : List Nat) : Statement (.hubRestart bytes) := fun _ => rfl
theorem dozeRequest : Statement (.dozeRequest) := fun _ => rfl
theorem dozeEnter : Statement (.dozeEnter) := fun _ => rfl
theorem dozeScan (k : DieIx) (outs : List Int) : Statement (.dozeScan k outs) := fun h => absurd h (by simp [Instr.bounded])
theorem dozeWake (w : WakeEv) : Statement (.dozeWake w) := fun _ => rfl
theorem seatAssert (n : ChIx) : Statement (.seatAssert n) := fun _ => rfl
theorem seatDrop (n : ChIx) : Statement (.seatDrop n) := fun _ => rfl
theorem seatQual (n : ChIx) : Statement (.seatQual n) := fun _ => rfl
theorem seatLoss (n : ChIx) : Statement (.seatLoss n) := fun _ => rfl
theorem aqExpire (n : ChIx) : Statement (.aqExpire n) := fun _ => rfl
theorem restartOk (n : ChIx) : Statement (.restartOk n) := fun _ => rfl
theorem en0 (n : ChIx) : Statement (.en0 n) := fun _ => rfl
theorem en1 (n : ChIx) : Statement (.en1 n) := fun _ => rfl
theorem requeue (n : ChIx) : Statement (.requeue n) := fun _ => rfl
theorem rampDone (n : ChIx) : Statement (.rampDone n) := fun _ => rfl
theorem limitWin (n : ChIx) : Statement (.limitWin n) := fun _ => rfl
theorem capWin (n : ChIx) : Statement (.capWin n) := fun _ => rfl
theorem noWin (n : ChIx) : Statement (.noWin n) := fun _ => rfl
theorem ilimExpire (n : ChIx) : Statement (.ilimExpire n) := fun _ => rfl
theorem readmit (n : ChIx) : Statement (.readmit n) := fun _ => rfl
theorem retryExpire (n : ChIx) : Statement (.retryExpire n) := fun _ => rfl
theorem loopCycle (n : ChIx) (atPump : Bool) (atSource : Bool) : Statement (.loopCycle n atPump atSource) := fun _ => rfl
theorem thermalModelStep (n : ChIx) : Statement (.thermalModelStep n) := fun _ => rfl
theorem hardtrip (n : ChIx) (uv : Int) : Statement (.hardtrip n uv) := fun _ => rfl
theorem follow (n : ChIx) : Statement (.follow n) := fun _ => rfl
theorem gateStall (n : ChIx) : Statement (.gateStall n) := fun _ => rfl
theorem fetShort (n : ChIx) : Statement (.fetShort n) := fun _ => rfl
theorem modelMismatch (n : ChIx) : Statement (.modelMismatch n) := fun _ => rfl
theorem busWindowQualify (n : ChIx) : Statement (.busWindowQualify n) := fun _ => rfl
theorem currentSample (n : ChIx) (raw : Int) : Statement (.currentSample n raw) := fun _ => rfl
theorem cvbEntrySample (k : DieIx) (j : Fin 64) (raw : Int) : Statement (.cvbEntrySample k j raw) := fun _ => rfl
theorem filterOutput (k : DieIx) (u : Fin 80) : Statement (.filterOutput k u) := fun _ => rfl
theorem sliceVisitEnd (k : DieIx) (cvb : Bool) (v : Visit) : Statement (.sliceVisitEnd k cvb v) := fun _ => rfl
theorem openWireTest (k : DieIx) (l : Fin 16) (ts : Bool) : Statement (.openWireTest k l ts) := fun _ => rfl
theorem trendIntervalBoundary (k : DieIx) : Statement (.trendIntervalBoundary k) := fun _ => rfl
theorem irangeApply (k : DieIx) : Statement (.irangeApply k) := fun _ => rfl
theorem directConvGo (k : DieIx) : Statement (.directConvGo k) := fun _ => rfl
theorem convstEdge (k : DieIx) (rising : Bool) : Statement (.convstEdge k rising) := fun _ => rfl
theorem directConvDone (k : DieIx) (raws : List Int) : Statement (.directConvDone k raws) := fun _ => rfl
theorem convRead (k : DieIx) : Statement (.convRead k) := fun _ => rfl
theorem captureTrigger (k : DieIx) (src unit : Nat) : Statement (.captureTrigger k src unit) := fun _ => rfl
theorem captureForce (k : DieIx) : Statement (.captureForce k) := fun _ => rfl
theorem captureAbort (k : DieIx) : Statement (.captureAbort k) := fun _ => rfl
theorem captureEnd (k : DieIx) : Statement (.captureEnd k) := fun _ => rfl
theorem traceArm (k : DieIx) (div pre : Nat) : Statement (.traceArm k div pre) := fun h => absurd h (by simp [Instr.bounded])
theorem traceForce (k : DieIx) : Statement (.traceForce k) := fun _ => rfl
theorem traceDone (k : DieIx) : Statement (.traceDone k) := fun _ => rfl
theorem budgetCycle : Statement (.budgetCycle) := fun _ => rfl
theorem staggerSlot : Statement (.staggerSlot) := fun _ => rfl
theorem queueLimitExpire (n : ChIx) : Statement (.queueLimitExpire n) := fun _ => rfl
theorem gstartGo : Statement (.gstartGo) := fun _ => rfl
theorem busMinShed : Statement (.busMinShed) := fun _ => rfl
theorem busMinCrossing : Statement (.busMinCrossing) := fun _ => rfl
theorem holdupTrigger (t : HoldTrig) : Statement (.holdupTrigger t) := fun _ => rfl
theorem holdupStageStart : Statement (.holdupStageStart) := fun _ => rfl
theorem holdupStageEnd : Statement (.holdupStageEnd) := fun _ => rfl
theorem holdupReturn : Statement (.holdupReturn) := fun _ => rfl
theorem energyCheckpoint : Statement (.energyCheckpoint) := fun _ => rfl
theorem checkpointReadback (ok : Bool) : Statement (.checkpointReadback ok) := fun _ => rfl
theorem refWatchCheck : Statement (.refWatchCheck) := fun _ => rfl
theorem warmUpComplete : Statement (.warmUpComplete) := fun _ => rfl
theorem heaterFault : Statement (.heaterFault) := fun _ => rfl
theorem calStart (value : Word) : Statement (.calStart value) := fun _ => rfl
theorem calAbort : Statement (.calAbort) := fun _ => rfl
theorem calPhaseEnd (meas : List (Nat × Nat)) : Statement (.calPhaseEnd meas) := fun _ => rfl
theorem calStabilityCheck : Statement (.calStabilityCheck) := fun _ => rfl
theorem calSlot (n : Nat) (kind : CalKind) (m : SlotMeas) : Statement (.calSlot n kind m) := fun _ => rfl
theorem calStore (t1 t2 : StoreTry) : Statement (.calStore t1 t2) := fun _ => rfl
theorem calEpochApply : Statement (.calEpochApply) := fun _ => rfl
theorem calDueExpire : Statement (.calDueExpire) := fun _ => rfl
theorem benchEnter : Statement (.benchEnter) := fun _ => rfl
theorem benchReady : Statement (.benchReady) := fun _ => rfl
theorem benchExit : Statement (.benchExit) := fun _ => rfl
theorem benchTrig : Statement (.benchTrig) := fun _ => rfl
theorem benchZero : Statement (.benchZero) := fun _ => rfl
theorem benchScanCommit (k : DieIx) (raws : List (List Int)) : Statement (.benchScanCommit k raws) := fun _ => rfl
theorem benchRestEnd (k : DieIx) : Statement (.benchRestEnd k) := fun _ => rfl
theorem ppsPulse : Statement (.ppsPulse) := fun _ => rfl
theorem ppsMissing : Statement (.ppsMissing) := fun _ => rfl
theorem rateTimeout : Statement (.rateTimeout) := fun _ => rfl
theorem timebaseStep : Statement (.timebaseStep) := fun _ => rfl
theorem tbArm : Statement (.tbArm) := fun _ => rfl
theorem tbNow : Statement (.tbNow) := fun _ => rfl
theorem tbAlign : Statement (.tbAlign) := fun _ => rfl
theorem tbCancel : Statement (.tbCancel) := fun _ => rfl
theorem clkTbReturn : Statement (.clkTbReturn) := fun _ => rfl
theorem timerTick : Statement (.timerTick) := fun _ => rfl
theorem timerCapture (j : Fin 256) (rising : Bool) (ago : Nat) : Statement (.timerCapture j rising ago) := fun _ => rfl
theorem timerReleaseGo (atTime : Bool) : Statement (.timerReleaseGo atTime) := fun _ => rfl
theorem timerReleaseStart : Statement (.timerReleaseStart) := fun _ => rfl
theorem fanPwmReload (k : Fin 8) : Statement (.fanPwmReload k) := fun _ => rfl
theorem fanStall (k : Fin 8) : Statement (.fanStall k) := fun _ => rfl
theorem trendBlock : Statement (.trendBlock) := fun _ => rfl
theorem ledgerBlockClose : Statement (.ledgerBlockClose) := fun _ => rfl
theorem signedCheckpoint (ok : Bool) : Statement (.signedCheckpoint ok) := fun _ => rfl
theorem trendStripeWrite : Statement (.trendStripeWrite) := fun _ => rfl
theorem ledgerPageWrite : Statement (.ledgerPageWrite) := fun _ => rfl
theorem capdataWrite : Statement (.capdataWrite) := fun _ => rfl
theorem nvmeCommandComplete (d : Fin 2) (ok : Bool) : Statement (.nvmeCommandComplete d ok) := fun _ => rfl
theorem nvmeCommandTimeout (d : Fin 2) (resetOk : Bool) : Statement (.nvmeCommandTimeout d resetOk) := fun _ => rfl
theorem smartPoll (d : Fin 2) (crit pct temp : Nat) : Statement (.smartPoll d crit pct temp) := fun _ => rfl
theorem deviceLinkUp (d : Fin 2) (j : DevInfo) : Statement (.deviceLinkUp d j) := fun _ => rfl
theorem deviceLinkLoss (d : Fin 2) : Statement (.deviceLinkLoss d) := fun _ => rfl
theorem deviceEject (d : Fin 2) : Statement (.deviceEject d) := fun _ => rfl
theorem devicePrepare (d : Fin 2) : Statement (.devicePrepare d) := fun _ => rfl
theorem deviceCancel (d : Fin 2) : Statement (.deviceCancel d) := fun _ => rfl
theorem resilverDone (d : Fin 2) : Statement (.resilverDone d) := fun _ => rfl
theorem recorderFlush : Statement (.recorderFlush) := fun _ => rfl
theorem recorderReadGo (src half : Nat) : Statement (.recorderReadGo src half) := fun h => absurd h (by simp [Instr.bounded])
theorem recorderReadDone (ok : Bool) (data : List Word) : Statement (.recorderReadDone ok data) := fun _ => rfl
theorem basketReinit : Statement (.basketReinit) := fun _ => rfl
theorem recorderStart (found : Option LedgerFound) : Statement (.recorderStart found) := fun _ => rfl
theorem bluliHeartbeat (h : Heartbeat) : Statement (.bluliHeartbeat h) := fun _ => rfl
theorem heartbeatLoss : Statement (.heartbeatLoss) := fun _ => rfl
theorem bluliStateChange (m : MirrorItem) : Statement (.bluliStateChange m) := fun _ => rfl
theorem bluliLoopSnapshot (n : ChIx) (x : Snap) : Statement (.bluliLoopSnapshot n x) := fun _ => rfl
theorem bluliIncrement (n : ChIx) (inc : Int) : Statement (.bluliIncrement n inc) := fun _ => rfl
theorem bluliConfigWrite (kvs : List (Nat × Nat)) : Statement (.bluliConfigWrite kvs) := fun _ => rfl
theorem bluliLedgerRecord (units : List Nat) : Statement (.bluliLedgerRecord units) := fun _ => rfl
theorem bluliSeamControl (m : SeamMsg) : Statement (.bluliSeamControl m) := fun _ => rfl
theorem bluliBulkSync (ms : List MirrorItem) (pct : Nat) : Statement (.bluliBulkSync ms pct) := fun _ => rfl
theorem bluliRetransmit (from_ : Option (Fin 65536)) : Statement (.bluliRetransmit from_) := fun _ => rfl
theorem laneDown (j : Fin 2) : Statement (.laneDown j) := fun _ => rfl
theorem loopSnapshot (k : DieIx) : Statement (.loopSnapshot k) := fun _ => rfl
theorem bulkSyncComplete : Statement (.bulkSyncComplete) := fun _ => rfl
theorem handover : Statement (.handover) := fun _ => rfl
theorem standdown : Statement (.standdown) := fun _ => rfl
theorem seamRequest (cause : Nat) : Statement (.seamRequest cause) := fun _ => rfl
theorem seamTP : Statement (.seamTP) := fun _ => rfl
theorem seamTS : Statement (.seamTS) := fun _ => rfl
theorem seamConfirm : Statement (.seamConfirm) := fun _ => rfl
theorem splitResolve : Statement (.splitResolve) := fun _ => rfl
theorem modSeatQual : Statement (.modSeatQual) := fun _ => rfl
theorem modSeatLoss : Statement (.modSeatLoss) := fun _ => rfl
theorem pairAddrArm : Statement (.pairAddrArm) := fun _ => rfl
theorem dieReset (k : DieIx) : Statement (.dieReset k) := fun _ => rfl
theorem dieRejoin (k : DieIx) : Statement (.dieRejoin k) := fun _ => rfl
theorem dieRejoinTimeout (k : DieIx) : Statement (.dieRejoinTimeout k) := fun _ => rfl
theorem markerLoss (k : DieIx) : Statement (.markerLoss k) := fun _ => rfl
theorem gateKeepEnd (k : DieIx) : Statement (.gateKeepEnd k) := fun _ => rfl
theorem imgEraseB (ok : Bool) : Statement (.imgEraseB ok) := fun _ => rfl
theorem imgProgram (ok : Bool) : Statement (.imgProgram ok) := fun _ => rfl
theorem imgRead (ok : Bool) (bytes : List Nat) : Statement (.imgRead ok bytes) := fun _ => rfl
theorem patch (bytes : List Nat) : Statement (.patch bytes) := fun _ => rfl
theorem patchAccept (partner ok : Bool) : Statement (.patchAccept partner ok) := fun _ => rfl
theorem patchSafePoint (n : ChIx) : Statement (.patchSafePoint n) := fun _ => rfl
theorem patchMeteringApply : Statement (.patchMeteringApply) := fun _ => rfl
theorem patchSlotCopy (ok : Bool) : Statement (.patchSlotCopy ok) := fun _ => rfl
theorem starchBurn (ok : Bool) : Statement (.starchBurn ok) := fun _ => rfl
theorem starchSeal (ok : Bool) : Statement (.starchSeal ok) := fun _ => rfl
theorem starchReload : Statement (.starchReload) := fun _ => rfl
theorem feederDiscovery (f : Fin 12) (r : FpEnd (Nat × Nat × Nat × Nat)) : Statement (.feederDiscovery f r) := fun _ => rfl
theorem fpStatusRead (f : Fin 12) (r : FpEnd (Nat × Nat)) : Statement (.fpStatusRead f r) := fun _ => rfl
theorem fpTelemetryRead (t : FpTele) : Statement (.fpTelemetryRead t) := fun _ => rfl
theorem fpStepWrite (f : Fin 12) (r : FpEnd Unit) : Statement (.fpStepWrite f r) := fun _ => rfl
theorem fpArbLost (f : Fin 12) (k : FpKind) : Statement (.fpArbLost f k) := fun _ => rfl
theorem arbCond (f : Fin 12) (k : FpKind) (back : FpEnd Nat) (again : FpEnd Unit) : Statement (.arbCond f k back again) := fun _ => rfl
theorem fpHangRecovery (r : HangEnd) : Statement (.fpHangRecovery r) := fun _ => rfl
theorem feederCommHoldExpire (f : Fin 12) : Statement (.feederCommHoldExpire f) := fun _ => rfl
theorem balanceUpdate : Statement (.balanceUpdate) := fun _ => rfl
theorem bbuPinMismatch (b : Fin 2) (code : Fin 4) : Statement (.bbuPinMismatch b code) := fun _ => rfl
theorem capability (x : Xfer) : Statement (.capability x) := fun _ => rfl
theorem query (x : Xfer) (code : Nat) : Statement (.query x code) := fun h => absurd h (by simp [Instr.bounded])
theorem statusByte (x : Xfer) : Statement (.statusByte x) := fun _ => rfl
theorem statusWord (x : Xfer) : Statement (.statusWord x) := fun _ => rfl
theorem pmbusRevision (x : Xfer) : Statement (.pmbusRevision x) := fun _ => rfl
theorem mfrId (x : Xfer) : Statement (.mfrId x) := fun _ => rfl
theorem mfrModel (x : Xfer) : Statement (.mfrModel x) := fun _ => rfl
theorem mfrRevision (x : Xfer) : Statement (.mfrRevision x) := fun _ => rfl
theorem mfrSerial (x : Xfer) : Statement (.mfrSerial x) := fun _ => rfl
theorem winAddrWrite (x : Xfer) (value : Word) : Statement (.winAddrWrite x value) := fun _ => rfl
theorem winAddrRead (x : Xfer) : Statement (.winAddrRead x) := fun _ => rfl
theorem winDataWrite (x : Xfer) (value : Word) : Statement (.winDataWrite x value) := fun _ => rfl
theorem winDataRead (x : Xfer) (whole : Bool) : Statement (.winDataRead x whole) := fun _ => rfl
theorem winAutoincWrite (x : Xfer) (values : List Word) : Statement (.winAutoincWrite x values) := fun h => absurd h (by simp [Instr.bounded])
theorem winAutoincRead (x : Xfer) (n : Clocked) (wordNs : Nat) : Statement (.winAutoincRead x n wordNs) := fun h => absurd h (by simp [Instr.bounded])
theorem hostPortTimeout (p : Fin 2) : Statement (.hostPortTimeout p) := fun _ => rfl
theorem attentionPull (p : Fin 2) (collided : Bool) : Statement (.attentionPull p collided) := fun _ => rfl
theorem alertResponse (p : Fin 2) (won : Bool) : Statement (.alertResponse p won) := fun _ => rfl
theorem tempReading (r : SensorRound) : Statement (.tempReading r) := fun h => absurd h (by simp [Instr.bounded])
theorem braceEnter : Statement (.braceEnter) := fun _ => rfl
theorem braceEnd : Statement (.braceEnd) := fun _ => rfl
theorem aux12Reset : Statement (.aux12Reset) := fun _ => rfl
theorem hubWatchdog : Statement (.hubWatchdog) := fun _ => rfl
theorem dieWatchdog (k : DieIx) : Statement (.dieWatchdog k) := fun _ => rfl
theorem operatingHour : Statement (.operatingHour) := fun _ => rfl
theorem laneUp (j : Fin 2) : Statement (.laneUp j) := fun _ => rfl
theorem acfailNClear : Statement (.acfailNClear) := fun _ => rfl
theorem aux12WarnRise : Statement (.aux12WarnRise) := fun _ => rfl
theorem seatDeassert (n : ChIx) : Statement (.seatDeassert n) := fun _ => rfl
theorem modSeatContact (j : Fin 2) (made : Bool) : Statement (.modSeatContact j made) := fun _ => rfl
theorem aux12Measurement (v : Nat) : Statement (.aux12Measurement v) := fun _ => rfl

end Sys2Proof.Laws.Family
end

