-- ==== Sys2Proof/Laws/Settle.lean ====
section
/-!
SUPPORT. What follows every command (`Body.settle`), said once: the alert tree, READY, the conditions of the open block, gain
tables that wait, the yields of a bus pause and the attention of the host ports may change, and nothing else.
-/

namespace Sys2Proof.Safety

open Sys2Proof Sys2Proof.Machine Sys2Proof.Laws

theorem Settled.refl (b : Body) : Settled b b := by constructor <;> intros <;> rfl

theorem Settled.trans {a b c : Body} (h : Settled a b) (k : Settled b c) : Settled a c where
  role := k.role.trans h.role
  eng := k.eng.trans h.eng
  bud := k.bud.trans h.bud
  mtr := k.mtr.trans h.mtr
  disc := k.disc.trans h.disc
  tmr := k.tmr.trans h.tmr
  health := k.health.trans h.health
  fdr := k.fdr.trans h.fdr
  twin := k.twin.trans h.twin
  boot := k.boot.trans h.boot
  dozeReq := k.dozeReq.trans h.dozeReq
  alertHold := k.alertHold.trans h.alertHold
  hubDown := k.hubDown.trans h.hubDown
  doze := k.doze.trans h.doze
  reply := k.reply.trans h.reply
  freeIx := k.freeIx.trans h.freeIx
  trendWords := k.trendWords.trans h.trendWords
  rcd := k.rcd.trans h.rcd
  rd := fun f i e => (k.rd f i e).trans (h.rd f i e)
  ch := fun n => (k.ch n).trans (h.ch n)
  fe := fun j => (k.fe j).trans (h.fe j)

end Sys2Proof.Safety

namespace Sys2Proof.Laws

open Sys2Proof Sys2Proof.Machine Sys2Proof.Safety

/-- A fold of steps that each settle settles. -/
theorem settled_foldl {α : Type} (f : Body → α → Body) (hf : ∀ b a, Settled b (f b a)) (l : List α) (b : Body) :
    Settled b (l.foldl f b) := by
  induction l generalizing b with
  | nil => exact Settled.refl b
  | cons a l ih => exact (hf b a).trans (ih (f b a))

/-- A fold of steps that each settle in a module that is not STANDBY. -/
theorem settled_foldl_role {α : Type} (f : Body → α → Body) (hf : ∀ b a, b.role ≠ .standby → Settled b (f b a)) (l : List α)
    (b : Body) (h : b.role ≠ .standby) : Settled b (l.foldl f b) := by
  induction l generalizing b with
  | nil => exact Settled.refl b
  | cons a l ih => exact (hf b a h).trans (ih (f b a) (by rw [(hf b a h).role]; exact h))

theorem settled_wr (b : Body) (f : Fld) (i v : Nat) (h : isTree f = true) : Settled b (b.wr f i v) := by
  constructor <;> intros <;> try rfl
  rename_i g j hg
  exact rd_wr_fld b f g i j v (by rintro rfl; simp [h] at hg)

theorem settled_raise (l : Leaf) (b : Body) : Settled b (b.raise l) := by
  unfold Body.raise
  split
  · exact Settled.refl b
  · split
    · constructor <;> intros <;> rfl
    · exact settled_wr _ _ _ _ rfl

theorem settled_raiseCh1 (n : Nat) (l : ChLeaf) (b : Body) : Settled b (b.raiseCh1 n l) := by
  unfold Body.raiseCh1
  split
  · exact Settled.refl b
  · split
    · constructor <;> intros <;> rfl
    · exact settled_wr _ _ _ _ rfl

theorem settled_raiseCh (n : Nat) (l : ChLeaf) (b : Body) : Settled b (b.raiseCh n l) :=
  settled_foldl _ (fun b m => settled_raiseCh1 m l b) _ b

theorem settled_emit (r : LRec) (b : Body) : Settled b (b.emit r) := by
  constructor <;> intros <;> try rfl
  unfold Body.emit rcdKept
  dsimp only
  split <;> rfl

/-- An event of a module that writes its own shared records. -/
theorem settled_event (t code ch a0 a1 a2 : Nat) (b : Body) (h : b.role ≠ .standby) : Settled b (b.event t code ch a0 a1 a2) := by
  unfold Body.event Body.shared
  rw [if_neg (by simp [h])]
  exact settled_emit _ b

/-- The conditions of a running bench scan. -/
theorem settled_scanCond (k x : Nat) (b : Body) : Settled b (b.onDie k fun d => { d with scanCond := orBits d.scanCond x }) := by
  constructor <;> intros <;> try rfl
  rename_i j
  rw [fe_onDie]
  split
  · rename_i h
    have : b.fe j = b.fe k := by unfold Body.fe; simp only [h]
    rw [this]
  · rfl

theorem settled_gatherScans (b : Body) : Settled b b.gatherScans := by
  unfold Body.gatherScans
  split
  · refine settled_foldl (fun (b : Body) (k : Nat) =>
      if (b.fe k).urg.run = some .bench then b.onDie k fun d => { d with scanCond := orBits d.scanCond (b.benchCond k) } else b)
      (fun b k => ?_) _ b
    split
    · exact settled_scanCond k _ b
    · exact Settled.refl b
  · exact Settled.refl b

theorem settled_gather (b : Body) : Settled b b.gather := by
  refine (settled_gatherScans b).trans ?_
  constructor <;> intros <;> rfl

theorem settled_formReady (b : Body) : Settled b b.formReady := by
  unfold Body.formReady
  dsimp only
  split
  · exact (settled_wr _ _ _ _ rfl).trans (settled_raise _ _)
  · exact settled_wr _ _ _ _ rfl

theorem settled_sendGain (l : Nat) (b : Body) : Settled b (b.sendGain l) := by
  constructor <;> intros <;> try rfl
  rename_i k
  unfold Body.sendGain Body.sendDown
  rw [fe_onDie]
  split
  · rename_i h
    have : b.fe k = b.fe (dieOf l) := by unfold Body.fe; simp only [h]
    rw [this]; rfl
  · rfl

theorem settled_onCh_pause (n : Nat) (p : Bool) (b : Body) :
    Settled b (b.onCh n fun c => { c with pauseYield := p }) := by
  constructor <;> intros <;> try rfl
  rename_i m
  rw [ch_onCh]
  split
  · rename_i h
    have : b.ch m = b.ch n := by unfold Body.ch; simp only [h]
    rw [this]
  · rfl

theorem settled_yieldTo (e : Env) (n x y : Nat) (st : ChState) (b : Body) (h : b.role ≠ .standby) :
    Settled b (b.yieldTo e n x y st) := by
  have s := (((settled_wr b .chByieldGbroken n x rfl).trans (settled_wr _ .chByieldFavoured n y rfl)).trans
    (settled_raiseCh n .yield _))
  exact s.trans (settled_event _ _ _ _ _ _ _ (by rw [s.role]; exact h))

theorem settled_pauseYields (e : Env) (b : Body) : Settled b (b.pauseYields e) := by
  unfold Body.pauseYields
  split
  · exact Settled.refl b
  · rename_i h
    have r : b.role ≠ .standby := by
      intro h'; apply h; simp [Body.orch, h']
    exact settled_foldl_role _ (fun b n hb => (settled_onCh_pause n true b).trans (settled_yieldTo _ _ _ _ _ _ hb)) _ b r

theorem settled_onHp (p : Nat) (f : HostPort → HostPort) (b : Body) : Settled b (b.onHp p f) := by
  constructor <;> intros <;> rfl

theorem settled_drivePin (low : Bool) (b : Body) : Settled b (b.drivePin low) := by
  have h : ∀ c : Body, Settled c { c with alertLow := low } := fun c => by constructor <;> intros <;> rfl
  unfold Body.drivePin
  dsimp only
  refine Settled.trans ?_ (h _)
  split
  · refine (settled_wr b .modAlcntAsserts 0 _ rfl).trans (settled_foldl _ (fun b p => ?_) _ _)
    split
    · exact (settled_wr _ _ _ _ rfl).trans (settled_onHp _ _ _)
    · exact Settled.refl b
  · split
    · exact settled_foldl _ (fun b p => settled_wr _ _ _ _ rfl) _ _
    · exact Settled.refl b

theorem settled_levels (ls : List (Nat × Nat)) (b : Body) :
    Settled b (ls.foldl (fun b l => if l.2 = 0 then b else b.wr .alertLeaf l.1 (orBits (b.rd .alertLeaf l.1) l.2)) b) := by
  refine settled_foldl (fun (b : Body) (l : Nat × Nat) => if l.2 = 0 then b else b.wr .alertLeaf l.1 (orBits (b.rd .alertLeaf l.1) l.2)) ?_ ls b
  intro b l
  split
  · exact Settled.refl b
  · exact settled_wr _ _ _ _ rfl

theorem settled_clamps (ls : List (Nat × Nat)) (b : Body) :
    Settled b (ls.foldl (fun b l => b.raiseCh1 l.1 .clamp) b) :=
  settled_foldl (fun (b : Body) (l : Nat × Nat) => b.raiseCh1 l.1 .clamp) (fun b l => settled_raiseCh1 l.1 .clamp b) ls b

/-- Settling changes nothing but what `Settled` leaves open. -/
theorem settled_settle (e : Env) (b : Body) : Settled b (b.settle e) := by
  have h0 : Settled b b.gather.formReady.sendGains :=
    ((settled_gather b).trans (settled_formReady _)).trans (settled_foldl _ (fun b l => settled_sendGain l b) _ _)
  unfold Body.settle
  dsimp only
  split
  · exact h0.trans (settled_drivePin _ _)
  · split
    · exact h0
    · exact (((h0.trans (settled_levels _ _)).trans (settled_clamps _ _)).trans (settled_pauseYields _ _)).trans (settled_drivePin _ _)

/-! ### What a command's effect leaves through settling -/

@[simp] theorem onBody_pending (f : Env → Body → Body) (s : State) : (s.onBody f).pending = s.pending := rfl
@[simp] theorem onBody_time (f : Env → Body → Body) (s : State) : (s.onBody f).time = s.time := rfl
@[simp] theorem onBody_starch (f : Env → Body → Body) (s : State) : (s.onBody f).starch = s.starch := rfl
theorem onBody_body (f : Env → Body → Body) (s : State) : (s.onBody f).body = (f s.env s.body).settle s.env := rfl

@[simp] theorem settle_role (e : Env) (b : Body) : (b.settle e).role = b.role := (settled_settle e b).role
@[simp] theorem settle_eng (e : Env) (b : Body) : (b.settle e).eng = b.eng := (settled_settle e b).eng
@[simp] theorem settle_bud (e : Env) (b : Body) : (b.settle e).bud = b.bud := (settled_settle e b).bud
@[simp] theorem settle_mtr (e : Env) (b : Body) : (b.settle e).mtr = b.mtr := (settled_settle e b).mtr
@[simp] theorem settle_disc (e : Env) (b : Body) : (b.settle e).disc = b.disc := (settled_settle e b).disc
@[simp] theorem settle_tmr (e : Env) (b : Body) : (b.settle e).tmr = b.tmr := (settled_settle e b).tmr
@[simp] theorem settle_health (e : Env) (b : Body) : (b.settle e).health = b.health := (settled_settle e b).health
@[simp] theorem settle_fdr (e : Env) (b : Body) : (b.settle e).fdr = b.fdr := (settled_settle e b).fdr
@[simp] theorem settle_twin (e : Env) (b : Body) : (b.settle e).twin = b.twin := (settled_settle e b).twin
@[simp] theorem settle_boot (e : Env) (b : Body) : (b.settle e).boot = b.boot := (settled_settle e b).boot
@[simp] theorem settle_dozeReq (e : Env) (b : Body) : (b.settle e).dozeReq = b.dozeReq := (settled_settle e b).dozeReq
@[simp] theorem settle_alertHold (e : Env) (b : Body) : (b.settle e).alertHold = b.alertHold := (settled_settle e b).alertHold
@[simp] theorem settle_hubDown (e : Env) (b : Body) : (b.settle e).hubDown = b.hubDown := (settled_settle e b).hubDown
@[simp] theorem settle_doze (e : Env) (b : Body) : (b.settle e).doze = b.doze := (settled_settle e b).doze
@[simp] theorem settle_reply (e : Env) (b : Body) : (b.settle e).reply = b.reply := (settled_settle e b).reply
@[simp] theorem settle_freeIx (e : Env) (b : Body) : (b.settle e).freeIx = b.freeIx := (settled_settle e b).freeIx
@[simp] theorem settle_trendWords (e : Env) (b : Body) : (b.settle e).trendWords = b.trendWords := (settled_settle e b).trendWords
@[simp] theorem settle_rd (e : Env) (b : Body) (f : Fld) (i : Nat) (h : isTree f = false) : (b.settle e).rd f i = b.rd f i :=
  (settled_settle e b).rd f i h
@[simp] theorem settle_en (e : Env) (b : Body) (n : Nat) : (b.settle e).en n = b.en n := by unfold Body.en; rw [settle_eng]
theorem settle_flag (e : Env) (b : Body) (f : Fld) (i : Nat) (h : isTree f = false) : (b.settle e).flag f i = b.flag f i := by
  unfold Body.flag; rw [settle_rd e b f i h]

/-- Any part of a channel but the yield mark of a bus pause. -/
theorem settle_ch (e : Env) (b : Body) (n : Nat) {α : Type} (p : Chan → α) (hp : ∀ c y, p { c with pauseYield := y } = p c) :
    p ((b.settle e).ch n) = p (b.ch n) := by
  exact (hp _ false).symm.trans ((congrArg p ((settled_settle e b).ch n)).trans (hp _ false))

@[simp] theorem settle_ch_state (e : Env) (b : Body) (n : Nat) : ((b.settle e).ch n).state = (b.ch n).state :=
  settle_ch e b n Chan.state fun _ _ => rfl
@[simp] theorem settle_ch_reason (e : Env) (b : Body) (n : Nat) : ((b.settle e).ch n).reason = (b.ch n).reason :=
  settle_ch e b n Chan.reason fun _ _ => rfl
@[simp] theorem settle_ch_prior (e : Env) (b : Body) (n : Nat) : ((b.settle e).ch n).prior = (b.ch n).prior :=
  settle_ch e b n Chan.prior fun _ _ => rfl
@[simp] theorem settle_ch_darn (e : Env) (b : Body) (n : Nat) : ((b.settle e).ch n).darn = (b.ch n).darn :=
  settle_ch e b n Chan.darn fun _ _ => rfl
@[simp] theorem settle_ch_seatRaw (e : Env) (b : Body) (n : Nat) : ((b.settle e).ch n).seatRaw = (b.ch n).seatRaw :=
  settle_ch e b n Chan.seatRaw fun _ _ => rfl
@[simp] theorem settle_ch_seated (e : Env) (b : Body) (n : Nat) : ((b.settle e).ch n).seated = (b.ch n).seated :=
  settle_ch e b n Chan.seated fun _ _ => rfl
@[simp] theorem settle_ch_debEnd (e : Env) (b : Body) (n : Nat) : ((b.settle e).ch n).debEnd = (b.ch n).debEnd :=
  settle_ch e b n Chan.debEnd fun _ _ => rfl
@[simp] theorem settle_ch_lossEnd (e : Env) (b : Body) (n : Nat) : ((b.settle e).ch n).lossEnd = (b.ch n).lossEnd :=
  settle_ch e b n Chan.lossEnd fun _ _ => rfl
@[simp] theorem settle_ch_aqEnd (e : Env) (b : Body) (n : Nat) : ((b.settle e).ch n).aqEnd = (b.ch n).aqEnd :=
  settle_ch e b n Chan.aqEnd fun _ _ => rfl
@[simp] theorem settle_ch_retryEnd (e : Env) (b : Body) (n : Nat) : ((b.settle e).ch n).retryEnd = (b.ch n).retryEnd :=
  settle_ch e b n Chan.retryEnd fun _ _ => rfl
@[simp] theorem settle_ch_heldEvs (e : Env) (b : Body) (n : Nat) : ((b.settle e).ch n).heldEvs = (b.ch n).heldEvs :=
  settle_ch e b n Chan.heldEvs fun _ _ => rfl

/-- Any part of a die but the frames that wait for it and the conditions of its bench scan. -/
theorem settle_fe (e : Env) (b : Body) (k : Nat) {α : Type} (p : Die → α)
    (hp : ∀ d l x, p { d with down := l, scanCond := x } = p d) : p ((b.settle e).fe k) = p (b.fe k) := by
  exact (hp _ [] 0).symm.trans ((congrArg p ((settled_settle e b).fe k)).trans (hp _ [] 0))

@[simp] theorem settle_fe_regs (e : Env) (b : Body) (k : Nat) : ((b.settle e).fe k).regs = (b.fe k).regs :=
  settle_fe e b k Die.regs fun _ _ _ => rfl
@[simp] theorem settle_fe_urg (e : Env) (b : Body) (k : Nat) : ((b.settle e).fe k).urg = (b.fe k).urg :=
  settle_fe e b k Die.urg fun _ _ _ => rfl
@[simp] theorem settle_fe_joined (e : Env) (b : Body) (k : Nat) : ((b.settle e).fe k).joined = (b.fe k).joined :=
  settle_fe e b k Die.joined fun _ _ _ => rfl
@[simp] theorem settle_fe_up (e : Env) (b : Body) (k : Nat) : ((b.settle e).fe k).up = (b.fe k).up :=
  settle_fe e b k Die.up fun _ _ _ => rfl
@[simp] theorem settle_drd (e : Env) (b : Body) (k : Nat) (f : Fld) (i : Nat) : (b.settle e).drd k f i = b.drd k f i := by
  unfold Body.drd; rw [settle_fe_regs]
@[simp] theorem settle_cd (e : Env) (b : Body) (f : Fld) (n : Nat) : (b.settle e).cd f n = b.cd f n := settle_drd e b _ f n

/-- Any part of the recorder but the stream and the conditions of the open block. -/
theorem settle_rcd (e : Env) (b : Body) : rcdKept (b.settle e).rcd = rcdKept b.rcd := (settled_settle e b).rcd

end Sys2Proof.Laws
end

