-- ==== Sys2Proof/Tests/Slice0.lean ====
section
/-!
SUPPORT. Tests of the model: ill-formed commands, worked examples of the specification, and for each clause of the statements
a state and operands that meet its hypotheses.
-/

namespace Sys2Proof.Tests

open Sys2Proof Sys2Proof.Machine Sys2Proof.Safety

set_option maxRecDepth 4000
set_option linter.unusedVariables false

/-! ### Ill-formed commands -/

/-- A register address must be a multiple of 4. -/
theorem test_wf_unaligned : (Instr.registerWrite 2 0).wellFormed = false := by decide

/-- A register address has 32 bits. -/
theorem test_wf_beyond : (Instr.registerWrite (2 ^ 32) 0).wellFormed = false := by decide

/-- A read request over a link names a word of the space. -/
theorem test_wf_read_unaligned : (Instr.iclReadRequest 0 0 6).wellFormed = false := by decide

/-- The same, beyond the space. -/
theorem test_wf_read_beyond : (Instr.iclReadRequest 0 0 (2 ^ 32)).wellFormed = false := by decide

/-- DIV of a trace has 8 bits. -/
theorem test_wf_trace_div : (Instr.traceArm 0 256 0).wellFormed = false := by decide

/-- PRE of a trace has 12 bits. -/
theorem test_wf_trace_pre : (Instr.traceArm 0 0 4096).wellFormed = false := by decide

/-- SRC of a recorder read has 2 bits. -/
theorem test_wf_read_src : (Instr.recorderReadGo 4 0).wellFormed = false := by decide

/-- HALF of a recorder read has 1 bit. -/
theorem test_wf_read_half : (Instr.recorderReadGo 0 2).wellFormed = false := by decide

/-- QUERY carries one byte. -/
theorem test_wf_query : (Instr.query ⟨0, 0x40, .good, .ok⟩ 256).wellFormed = false := by decide

/-- A block write carries at most 63 words. -/
theorem test_wf_block_write : (Instr.winAutoincWrite ⟨0, 0x40, .good, .ok⟩ (List.replicate 64 0)).wellFormed = false := by decide

/-- A block read carries at most 63 words. -/
theorem test_wf_block_read : (Instr.winAutoincRead ⟨0, 0x40, .good, .ok⟩ ⟨64, true⟩ 22500).wellFormed = false := by decide

/-- A reading of the sensors gives all eleven. -/
theorem test_wf_temps : (Instr.tempReading ⟨[0], 0⟩).wellFormed = false := by decide

/-- A doze scan gives the sixteen OUT voltages of a die. -/
theorem test_wf_doze : (Instr.dozeScan 0 [0]).wellFormed = false := by decide

/-- The table gives no command bits, so no word spells one. -/
theorem test_decode_none : decodeTableWord 32 0x12345678 = none := by decide

/-! ### States -/

/-- A SOLO module that runs an image: start-up is over, every die has joined, the expert commands are unlocked. -/
def live : Body :=
  (({ Body.reset with
      role := .solo, alertHold := false
      die := Vector.replicate 8 { Die.reset with joined := true }
      boot := { Boot.reset with imaged := true } } : Body).wr .modBootPhase 0 7).wr .modExpertUnlock 0 0xFFFF

/-- The running module with a change, before any command. -/
def at' (f : Body → Body) : State := { State.reset with body := f live }

/-- The state after a step. -/
def after (s : State) : State :=
  match step s with
  | .next t => t
  | _ => s

/-- The plan of stagger slots has a slot at 100 ns. -/
def slot (b : Body) : Body := { b with bud := { b.bud with plan := some ⟨1, 100, 10, 0, 5⟩ } }

/-- A budget of 60000 W is free, and a slot is planned. -/
def fit (b : Body) : Body := slot (b.wr .budgetAvailPAvail 0 60000)

/-- A hold-up sequence runs. -/
def hold (f : HoldUp → HoldUp) (b : Body) : Body :=
  { b.wr .budgetHustatActive 0 1 with bud := { b.bud with hu := f b.bud.hu } }

/-- A session of mode 0 at phase p. -/
def sess (p : Nat) : Sess :=
  { mode := 0, swap := false, slots := 2, together := false, phase := p, phaseT := 0, stage := [], v1 := [], words := [], sums := [],
    waits := [], slotAt := [], relief := [], calTime := 0, untraced := false, seqHigh := 1, target := 1, applyB := none }

/-- The running module with a session. -/
def withSess (x : Sess) : State := at' fun b => { b with mtr := { b.mtr with sess := some x } }

/-- A state at an elapsed instant and a count. -/
def tm (e c : Nat) (s : State) : State := { s with time := ⟨e, c, 0⟩ }

/-- A state with bench mode allowed by the Starch map. -/
def mayBench (s : State) : State := { s with starch := { s.starch with map := [(1, 2)] } }

/-- A command outstanding at a device. -/
def cmd0 : DevCmd := ⟨.flush, 0, [], 0, 0, false, false, false⟩

/-- A device that conforms, with a label. -/
def dev (label : Nat) : DevInfo := ⟨true, 1, 976562500, false, true, 4, 4, label, 0, 0, 671088896, 0, 0, [], false, 0, 0⟩

/-- A heartbeat of a partner in a role. -/
def beat (r : Role) : Heartbeat := ⟨r, true, 1, false, false, 1000, [], 0⟩

/-- A snapshot. -/
def snap0 : Snap := ⟨0, 5, 0, 1, false, true, false, none, none, 0, 0, false, [0, 0, 0, 0, 0], [0, 0, 0, 0], 1⟩

/-- A capture of input 5 of die 2, by FORCE. -/
def cap0 : Cap :=
  { die := 2, input := 5, wide := false, cut := false, src := 0, chan := 33, time := 0, no := 1, samples := 0, period := 100000,
    serve := ⟨[], [], 0, 0⟩, start := 0, sent := 0, lost := 0, data := [], ended := false, dev := none }

/-- A ledger found: block 4 at time 5, 6 pages. -/
def found0 : LedgerFound := ⟨9, 4, 5, [], [], 6, [], [], [], 0, 0⟩

/-- A block that has closed at 1000 ns. -/
def blk0 : BlkEnd :=
  { t0 := 0, startE := 0, tEnd := 1000, endE := 1000, flags := 0, cite := 0, bank := (0, [0, 0]), qual := 0, bufq := 0, frozen := 0,
    chan := [], late := [], due := none }

/-- An image. -/
def img0 : ImgSlot := ⟨7, true, [], []⟩

/-- A Patch. -/
def patch0 : Patch := ⟨img0, ⟨[], [], []⟩, [(33, [])], [], 100, false, 6, false⟩

/-- A transaction at the module's own address, with PEC. -/
def xfer : Xfer := ⟨0, 0x40, .good, .ok⟩

/-- The pointer of the own address on port 0 holds an address. -/
def ptrTo (a : Nat) (b : Body) : Body := (b.wr .hpPtrOwnAddr 0 (a / 4)).wr .hpStatOwnValid 0 1

/-- The state that a command gives. -/
def runs (i : Instr) (s : State) : State :=
  match exec i s with
  | .next t => t
  | _ => s

/-- A state in which the fuses may be worked on: identity w in the map in force and in the fuses, no image yet. -/
def burn (w : Nat) (s : State) : State :=
  let m : Sparse := if w = 0 then [] else [(0, w)]
  { s with starch := ⟨m, m, m⟩, body := s.body.wr .healthAuxV 0 1200 }

/-- Sealed fuses whose checksum does not match. -/
def badFuses : State := { State.reset with starch := ⟨[(1, 0x80000000)], [(1, 0x80000000)], []⟩ }

/-- No gate is a fast sink after reset. -/
theorem reset_gate (n : Nat) : (State.reset.body.en n).gate ≠ .fastSink := by
  have h : State.reset.body.en n = Eng.reset := Vector.getElem_replicate ..
  rw [h]; decide

/-! ### Worked examples of the specification -/

/-- The trend word that follows R18: CH7 in ON, 43 200 and 128 000 LSB, 3 840 037 LSB, 2 087 and 195. -/
theorem test_trend_word :
    (⟨{ IntSum.zero with e := 3840037 * 2 ^ 44, v := 43200 * 5000 * 2 ^ 19, u := 8000 * 75000000000000000, n := 1 }, 0, 1000000, 1000000,
      0, ChState.on.code, 2087⟩ : Closed).word 7 195 = 0x01070400A8C001F400003A98258270C3 := by decide

/-- The demand of the gang CH40 to CH43 (chapter 03): index 15, 472 435 917, 7 209, and the integrator 214 752 297. -/
theorem test_gang_demand :
    gainIndex 6 983 = 15 ∧ gainAcc 0x2000 983 214748365 = 472435917 ∧ round15 (gainAcc 0x2000 983 214748365) = 7209 ∧
      gainStep 0x200 983 214748365 = 214752297 := by decide

/-- The ramp increment of CH38 (chapter 03): 17 180 per cycle at 1.0 V/ms. -/
theorem test_ramp_increment : rampDelta 1000 = 17180 := by decide

/-- CH37 of chapter 08: the shunt with its gain and temperature, and a steady interval of 1 ms. -/
def metered : Body :=
  ((((((live.wr .chRshRshNom 37 100000000).wr .chShgainShGain 37 85000).wr .chShtcShTc1 37 1500).wr .chShcfgTsrc 37 1).wr
    .chShcfgShTref 37 0x500).wr .chShcfgShOfs 37 (2 ^ 16 - 120)).dwr 2 .chAmbcfgTsFitted 37 1 |>.onEng 37 fun g =>
      { g with tsMeas := 1600 }

/-- Its sums: 53.96 V and 22.204 mV. -/
def meteredSum : IntSum := (metered.newSum 37).add (5396 * 10 ^ 7 * 2 ^ 19) 1 (22204000 * 1000000000 * 2 ^ 19) 1000000

/-- E_INC, V_MEAN and I_MEAN of the interval (chapter 08). -/
theorem test_metered_interval :
    meteredSum.eInc = 1255851 ∧ meanUnits meteredSum.v meteredSum.n 200000 1 = 10792000 ∧
      meanUnits meteredSum.u meteredSum.n (2 ^ 23) meteredSum.fsNv = 2483475 := by decide

/-- Three pulses of the discipline's example (chapter 10): +200 ns, +6 ns, an index slip. -/
def disciplined (c : Nat) : State :=
  tm c c <| at' fun b => (((((b.wr .tbPpscfgPpsEn 0 1).wr .tbPpscfgPpsDelay 0 45).wr .tbDiscSlewWindow 0 1000).wr
    .tbDiscLockThr 0 10).wr .tbStatState 0 2)

/-- RATE is -0.200 ppm after the first pulse, and GOOD goes to 0. -/
theorem test_pulse_late :
    toSigned 32 ((runs .ppsPulse (disciplined 7000000245)).body.rd .tbRateRate) = -200 ∧
      (runs .ppsPulse (disciplined 7000000245)).body.rd .tbStatGood = 0 := by decide

/-- A jump of 40 µs is an index slip: nothing is corrected, and the state becomes ACQUIRING. -/
theorem test_pulse_slip :
    (runs .ppsPulse (disciplined 9000040045)).body.rd .tbRateRate = 0 ∧
      (runs .ppsPulse (disciplined 9000040045)).body.rd .tbStatState = 1 ∧
      (runs .ppsPulse (disciplined 9000040045)).body.rd .tbStatIndexSlip = 1 := by decide

/-- Twelve timers over 100 000 µs (chapter 10): TMR43 starts 91 663 µs after the release tick. -/
theorem test_release_spread :
    (((live.wr .tbRselSel 1 0xFFF).wr .tbRperiodPeriod 0 100000).relOffsets).getLast? = some (91663, 43) := by decide

/-- CH90 of chapter 13: 60 A at a slot of 0.480 mΩ holds ILIM to 12 582. -/
def ceiled : State :=
  { (at' fun b => (b.wr .chRshRshNom 90 50000000).wr .chClassFclass 90 1) with
    starch := ⟨[], [], [(20, 6000 * 65536 + 3000), (23, 480 * 65536)]⟩ }

/-- The bound of ILIM. -/
theorem test_ilim_ceiling : (ceiled.body.bounds ceiled.env 90).head?.map (·.2.2.2) = some 12582 := by decide

/-- Feeder 3 of chapter 14, at 54.000 V with SLEW 0.5 V/s. -/
def slewing : State :=
  at' fun b => ((((((b.wr .feederVsetVSet 0 5400).wr .feederVlimVmin 0 3000).wr .feederVlimVmax 0 7500).wr
    .feederSlewSlew 0 500).wr .feederSlewStepMs 0 10).wr .fdrStateState 3 2).wr .fdrStateVoutExp 3 0xF7 |>.onFd 3 fun x =>
      { x with v0 := 5400 * tenMv, tgt := 5200 * tenMv }

/-- 10 ms after the write 27 645 is written, 1 200 ms after it 27 341. -/
theorem test_slew_down :
    slewing.body.stepCode (tm 10000000 0 slewing).env 3 = 27645 ∧ slewing.body.stepCode (tm 1200000000 0 slewing).env 3 = 27341 := by
  decide

/-- 1 210 ms after the write, 7 ms after the turn at 53.398 5 V, 27 342 is written. -/
theorem test_slew_turned :
    let s : State := { slewing with body := slewing.body.onFd 3 fun x => { x with t0 := 1203000000, v0 := 854376000000000, tgt := 5450 * tenMv } }
    s.body.stepCode (tm 1210000000 0 s).env 3 = 27342 := by decide

/-- ENERGY[37] holding 12 345 678 901.25 J: its words 2 and 3 (chapter 08, chapter 15). -/
def billed (a : Nat) : State := at' fun b => (ptrTo a b).wr .energyAcc 37 0x00000002DFDC1C354000000000000000

/-- Words 3 and 2. -/
theorem test_energy_words :
    (runs (.winDataRead xfer true) (billed 0x3025C)).body.reply = [2] ∧
      (runs (.winDataRead xfer true) (billed 0x30258)).body.reply = [0xDFDC1C35] := by decide

/-- GCOEF and ZLA of FET type M80 (chapter 04). -/
def m80 : Body :=
  ((((((((live.wr .chRshRshNom 37 100000000).wr .chSoacfgHorizon 37 100).wr .poleRthRth 148 20).wr .poleTauTau 148 50).wr
    .poleRthRth 149 100).wr .poleTauTau 149 1200).wr .poleRthRth 150 280).wr .poleTauTau 150 25000).wr .poleRthRth 151 4600
    |>.wr .poleTauTau 151 12000000

/-- The steady rises of its four poles. -/
theorem test_m80_gains : (List.range 4).map (m80.gCoef 37) = [76800, 384000, 1075200, 17664000] := by decide

/-- The header of an image staged for shelf type 7 passes: its digest and CRC were computed with other software. -/
def stagedBytes : List Nat :=
  ([0x50595244, 0x00010000, 7, 5, 784, 0, 0xFFFFFFFF, 254337184, 1779325701, 3695594058, 1992483780, 3996628854, 3149075704,
    2877929493, 1461887340, 1041174475] ++ List.replicate 48 0 ++ 0x01000081 :: List.replicate 128 0 ++ [0x7F000001, 0, 0]).flatMap
    (leBytes 4)

set_option maxRecDepth 100000 in
/-- CRC and SHA-256 of the image (R484, R486). -/
theorem test_image_header : imageHeader (burn 7 (at' id)).env (imageBytes stagedBytes) = 0 := by decide +kernel

/-- An empty slot fails the MAGIC check (R486). -/
theorem test_reset_has_no_image : (State.reset.body.imageCheck State.reset.env []).1 = 1 := by decide

/-- A Bluli heartbeat frame of SEQ 0 with an empty payload; its CRC-32 by an independent tool (R454). -/
theorem test_bluli_frame : bluliFrame 1 0 0 = 2 ^ 248 + 0x81C58AF4 := by decide +kernel

/-! ### Witnesses: each clause of the statements has its hypotheses met -/

/-! #### IdleLetsACyclePass -/

theorem witness_IdleLetsACyclePass_c1 :
    ∃ s : State, s.pending = [] ∧ (∀ n, (s.body.en n).gate ≠ .fastSink) ∧ s.body.twin.txT = none :=
  ⟨State.reset, ⟨rfl, fun n => reset_gate n, rfl⟩⟩

theorem witness_IdleLetsACyclePass_c2 :
    ∃ s : State, s.pending = [] :=
  ⟨State.reset, by decide⟩

/-! #### StepKeepsTime -/

theorem witness_StepKeepsTime_c1 :
    ∃ s : State, ∃ t : State, TimeOk s ∧ step s = .next t :=
  ⟨({ State.reset with pending := [.heaterFault] }), (after { State.reset with pending := [.heaterFault] }),
    ⟨by unfold TimeOk; decide, rfl⟩⟩

theorem witness_ElapsedNeverBack_c1 :
    ∃ s : State, ∃ t : State, step s = .next t :=
  ⟨({ State.reset with pending := [.heaterFault] }), (after { State.reset with pending := [.heaterFault] }), rfl⟩

/-! #### StepKeepsStarch -/

theorem witness_StepKeepsStarch_c1 :
    ∃ s : State, ∃ t : State, StarchOk s ∧ step s = .next t :=
  ⟨({ State.reset with pending := [.heaterFault] }), (after { State.reset with pending := [.heaterFault] }),
    ⟨by unfold StarchOk BankOk; decide, rfl⟩⟩

theorem witness_FusesNeverUnblow_c1 :
    ∃ s : State, ∃ t : State, step s = .next t :=
  ⟨({ State.reset with pending := [.heaterFault] }), (after { State.reset with pending := [.heaterFault] }), rfl⟩

theorem witness_FusesNeverUnblow_c2 :
    ∃ s : State, ∃ t : State, step s = .next t :=
  ⟨({ State.reset with pending := [.heaterFault] }), (after { State.reset with pending := [.heaterFault] }), rfl⟩

/-! #### PinFollowsTree -/

theorem witness_PinFollowsTree_c1 :
    ∃ s : State, ∃ t : State, PinOk s ∧ step s = .next t :=
  ⟨({ State.reset with pending := [.heaterFault] }), (after { State.reset with pending := [.heaterFault] }),
    ⟨by unfold PinOk; decide, rfl⟩⟩

/-! #### ModuleFrame -/

theorem witness_TimeAndStarchFrame_c1 :
    ∃ i : Instr, ∃ s : State, ∃ t : State, exec i s = .next t ∧ letsTimePass i = false :=
  ⟨(.laneUp 0), State.reset, (runs (.laneUp 0) State.reset), ⟨rfl, by decide⟩⟩

theorem witness_TimeAndStarchFrame_c2 :
    ∃ i : Instr, ∃ s : State, ∃ t : State, exec i s = .next t ∧ mayWriteStarch i = false :=
  ⟨(.laneUp 0), State.reset, (runs (.laneUp 0) State.reset), ⟨rfl, by decide⟩⟩

theorem witness_RoleFrame_c1 :
    ∃ i : Instr, ∃ s : State, ∃ t : State, exec i s = .next t ∧ mayChangeRole i = false :=
  ⟨(.laneUp 0), State.reset, (runs (.laneUp 0) State.reset), ⟨rfl, by decide⟩⟩

/-! #### UnmappedAddresses -/

theorem witness_UnmappedAddresses_c1 :
    ∃ x : Xfer, ∃ v : Word, ∃ a : Nat, ∃ s : State, s.body.doze = false ∧ s.body.answers x = true ∧ x.fit = .ok ∧ x.pec = .good
      ∧ s.body.ptrValid x.port (s.body.xferPaired x) = true ∧ (s.body.ptr x.port (s.body.xferPaired x)).1 = a ∧ a % 4 = 0 ∧
      inRegion a = false :=
  ⟨xfer, 5, 0xD000, (at' fun b => ptrTo 0xD000 b), by decide⟩

theorem witness_UnmappedAddresses_c2 :
    ∃ x : Xfer, ∃ v : Word, ∃ a : Nat, ∃ s : State, s.body.doze = false ∧ s.body.answers x = true ∧ x.fit = .ok ∧ x.pec = .good
      ∧ s.body.ptrValid x.port (s.body.xferPaired x) = true ∧ (s.body.ptr x.port (s.body.xferPaired x)).1 = a ∧ a % 4 = 0 ∧
      inRegion a = false :=
  ⟨xfer, 5, 0xD000, (at' fun b => ptrTo 0xD000 b), by decide⟩

theorem witness_UnmappedAddresses_c3 :
    ∃ x : Xfer, ∃ v : Word, ∃ a : Nat, ∃ s : State, s.body.doze = false ∧ s.body.answers x = true ∧ x.fit = .ok ∧ x.pec = .good
      ∧ s.body.ptrValid x.port (s.body.xferPaired x) = true ∧ (s.body.ptr x.port (s.body.xferPaired x)).1 = a ∧ a % 4 = 0 ∧
      inRegion a = true ∧ hits a = [] ∧ feHeld a = false ∧ ¬ (0x1000 ≤ a ∧ a < 0x1200) ∧ s.body.passes = false :=
  ⟨xfer, 5, 0xCFF0, (at' fun b => ptrTo 0xCFF0 b), by decide⟩

theorem witness_UnmappedAddresses_c4 :
    ∃ x : Xfer, ∃ v : Word, ∃ a : Nat, ∃ s : State, s.body.doze = false ∧ s.body.answers x = true ∧ x.fit = .ok ∧ x.pec = .good
      ∧ s.body.ptrValid x.port (s.body.xferPaired x) = true ∧ (s.body.ptr x.port (s.body.xferPaired x)).1 = a ∧ a % 4 = 0 ∧
      inRegion a = true ∧ hits a = [] ∧ feHeld a = false ∧ ¬ (0x1000 ≤ a ∧ a < 0x1200) ∧ s.body.passes = false :=
  ⟨xfer, 5, 0xCFF0, (at' fun b => ptrTo 0xCFF0 b), by decide⟩

theorem witness_UnmappedAddresses_c5 :
    ∃ x : Xfer, ∃ v : Word, ∃ a : Nat, ∃ s : State, ∃ b : Body, s.body.doze = false ∧ s.body.answers x = true ∧ x.fit = .ok ∧
      x.pec = .good ∧ s.body.ptrValid x.port (s.body.xferPaired x) = true ∧ (s.body.ptr x.port (s.body.xferPaired x)).1 = a ∧ a
      % 4 = 0 ∧ hits a = [] ∧ feHeld a = true ∧ a < 0x100000 ∧ (s.body.fe (feOf a)).down = [] :=
  ⟨xfer, 5, 139340, (at' fun b => ptrTo 139340 b), live, by decide⟩

theorem witness_UnmappedAddresses_c6 :
    ∃ x : Xfer, ∃ v : Word, ∃ a : Nat, ∃ s : State, s.body.doze = false ∧ s.body.answers x = true ∧ x.fit = .ok ∧ x.pec = .good
      ∧ s.body.ptrValid x.port (s.body.xferPaired x) = true ∧ (s.body.ptr x.port (s.body.xferPaired x)).1 = a ∧ a % 4 = 0 ∧ hits
      a = [] ∧ feHeld a = true ∧ a < 0x100000 ∧ (s.body.fe (feOf a)).down = [] :=
  ⟨xfer, 5, 139340, (at' fun b => ptrTo 139340 b), by decide⟩

/-! #### StarchCheckedAtStart -/

set_option maxRecDepth 100000 in
theorem witness_StarchCheckedAtStart_c1 :
    ∃ ohms : Nat, ∃ s : State, sealed s.starch.fuses = true ∧ starchCrc s.starch.fuses ≠ sparseGet 0 s.starch.fuses 127 :=
  ⟨0, badFuses, by decide +kernel⟩

theorem witness_StarchCheckedAtStart_c2 :
    ∃ ohms : Nat, ∃ s : State, (sealed s.starch.fuses = false ∨ starchCrc s.starch.fuses = sparseGet 0 s.starch.fuses 127) :=
  ⟨0, State.reset, by decide⟩

/-! #### LinkFrames -/

theorem witness_LinkFrames_c1 :
    ∃ k : DieIx, ∃ s : State, ∃ m, ∃ ms : List DownMsg, s.body.linkUp? k = true ∧ (s.body.fe k).down = m :: ms :=
  ⟨2, (at' fun b => b.onDie 2 fun d => { d with down := [.fields false [(fkey .chRampctlRound 33, 3)]] }), (DownMsg.fields false
    [(fkey .chRampctlRound 33, 3)]), ([] : List DownMsg), by decide⟩

theorem witness_LinkFrames_c2 :
    ∃ k : DieIx, ∃ s : State, ∃ h, ∃ kvs, ∃ ms : List DownMsg, s.body.linkUp? k = true ∧ (s.body.fe k).down = .fields h kvs ::
      ms ∧ (∀ kv ∈ kvs, (keyFld kv.1).ofChan = true) :=
  ⟨2, (at' fun b => b.onDie 2 fun d => { d with down := [.fields true [(fkey .chRampctlRound 33, 3)]] }), true, [(fkey
    .chRampctlRound 33, 3)], ([] : List DownMsg), by decide⟩

theorem witness_LinkFrames_c3 :
    ∃ k : DieIx, ∃ s : State, ∃ up : List UpMsg, s.body.linkUp? k = true ∧ (s.body.fe k).up = .ack :: up :=
  ⟨2, (at' fun b => b.onDie 2 fun d => { d with up := [.ack] }), ([] : List UpMsg), by decide⟩

theorem witness_LinkFrames_c4 :
    ∃ k : DieIx, ∃ s : State, ∃ p : Nat, ∃ a : Nat, ∃ v : Nat, ∃ up : List UpMsg, s.body.linkUp? k = true ∧ (s.body.fe k).up =
      .readReply p a v :: up ∧ a < 0x100000 :=
  ⟨2, (at' fun b => b.onDie 2 fun d => { d with up := [.readReply 0 0x5000 7] }), 0, 0x5000, 7, ([] : List UpMsg), by decide⟩

theorem witness_LinkFrames_c5 :
    ∃ k : DieIx, ∃ s : State, ∃ p : Nat, ∃ a : Nat, ∃ v : Nat, ∃ up : List UpMsg, s.body.linkUp? k = true ∧ (s.body.fe k).up =
      .readReply p a v :: up ∧ 0x100000 ≤ a :=
  ⟨2, (at' fun b => b.onDie 2 fun d => { d with up := [.readReply 0 0x100000 7] }), 0, 0x100000, 7, ([] : List UpMsg),
    by decide⟩

theorem witness_LinkFrames_c6 :
    ∃ k : DieIx, ∃ s : State, s.body.linkUp? k = true :=
  ⟨2, (at' fun b => b), by decide⟩

theorem witness_LinkFrames_c7 :
    ∃ k : DieIx, ∃ s : State, s.body.linkUp? k = true :=
  ⟨2, (at' fun b => b), by decide⟩

theorem witness_LinkFrames_c8 :
    ∃ k : DieIx, ∃ s : State, s.body.linkUp? k = true :=
  ⟨2, (at' fun b => b), by decide⟩

theorem witness_LinkDown_c1 :
    ∃ k : DieIx, ∃ s : State, s.body.linkUp? k = false :=
  ⟨2, State.reset, by decide⟩

theorem witness_LinkDown_c2 :
    ∃ k : DieIx, ∃ s : State, s.body.linkUp? k = false :=
  ⟨2, State.reset, by decide⟩

theorem witness_LinkDown_c3 :
    ∃ k : DieIx, ∃ s : State, s.body.linkUp? k = false :=
  ⟨2, State.reset, by decide⟩

theorem witness_LinkDown_c4 :
    ∃ k : DieIx, ∃ s : State, s.body.linkUp? k = false :=
  ⟨2, State.reset, by decide⟩

theorem witness_LinkDown_c5 :
    ∃ k : DieIx, ∃ s : State, s.body.linkUp? k = false :=
  ⟨2, (at' fun b => { b with hubDown := true }), by decide⟩

theorem witness_LinkDown_c6 :
    ∃ k : DieIx, ∃ s : State, s.body.linkUp? k = false :=
  ⟨2, State.reset, by decide⟩

theorem witness_LinkDown_c7 :
    ∃ k : DieIx, ∃ s : State, s.body.linkUp? k = false :=
  ⟨2, State.reset, by decide⟩

theorem witness_StatusFrame_c1 :
    ∃ k : DieIx, ∃ n : Nat, ∃ t : Nat, ∃ ev : Ev, ∃ up : List UpMsg, ∃ s : State, s.body.linkUp? k = true ∧ (s.body.fe k).up =
      .event n ev t :: up :=
  ⟨2, 33, 5, Ev.rampDone, ([] : List UpMsg), (at' fun b => (b.onDie 2 fun d => { d with up := [.event 33 .rampDone 5] }).onCh 33
    fun c => { c with state := .ramp }), by decide⟩

theorem witness_StatusFrame_c2 :
    ∃ k : DieIx, ∃ n : Nat, ∃ t : Nat, ∃ ev : Ev, ∃ up : List UpMsg, ∃ s : State, s.body.linkUp? k = true ∧ (s.body.fe k).up =
      .event n ev t :: up ∧ s.body.orch = true ∧ Led s.body n ∧ ev = .rampDone ∧ (s.body.ch (s.body.leadOf n)).state = .ramp :=
  ⟨2, 33, 5, Ev.rampDone, ([] : List UpMsg), (at' fun b => (b.onDie 2 fun d => { d with up := [.event 33 .rampDone 5] }).onCh 33
    fun c => { c with state := .ramp }), by unfold Led; decide⟩

/-! #### LinkReads -/

theorem witness_ReadRequest_c1 :
    ∃ k : DieIx, ∃ p : Fin 2, ∃ a : Nat, ∃ s : State, s.body.hubDown = false ∧ a % 4 = 0 ∧ feHeld a = true ∧ feOf a = k ∧
      (s.body.fe k).joined = true :=
  ⟨2, 0, 0x22C00, (at' fun b => b), by decide⟩

theorem witness_ReadRequest_c2 :
    ∃ k : DieIx, ∃ p : Fin 2, ∃ a : Nat, ∃ s : State, s.body.hubDown = false ∧ a % 4 = 0 ∧ feHeld a = true ∧ feOf a = k ∧
      (s.body.fe k).joined = false :=
  ⟨2, 0, 0x22C00, State.reset, by decide⟩

theorem witness_ReadRequest_c3 :
    ∃ k : DieIx, ∃ p : Fin 2, ∃ a : Nat, ∃ s : State, s.body.hubDown = false ∧ a % 4 = 0 ∧ feHeld a = true ∧ feOf a = k ∧
      (s.body.fe k).joined = true ∧ (s.body.fe k).down = [] ∧ 0x100000 ≤ a :=
  ⟨2, 0, 0x120000, (at' fun b => b), by decide⟩

theorem witness_SyncReports_c1 :
    ∃ s : State, s.body.hubDown = false :=
  ⟨(at' fun b => b), by decide⟩

/-! #### RegisterWrites -/

theorem witness_RegisterWrites_c1 :
    ∃ v : Word, ∃ s : State, ∃ p : Fin 2, s.body.hubDown = false ∧ s.body.passes = false ∧ s.body.doze = false :=
  ⟨5, (at' fun b => b), 1, by decide⟩

theorem witness_RegisterWrites_c2 :
    ∃ v : Word, ∃ s : State, ∃ a : Nat, ∃ k : Nat, s.body.hubDown = false ∧ s.body.passes = false ∧ s.body.doze = false ∧ a % 4
      = 0 ∧ feHeld a = true ∧ feOf a = k :=
  ⟨5, (at' fun b => b), 0x22C00, 2, by decide⟩

theorem witness_RegisterWrites_c3 :
    ∃ v : Word, ∃ s : State, ∃ a : Nat, s.body.hubDown = false ∧ s.body.passes = false ∧ s.body.doze = false ∧ a < 0x20 :=
  ⟨5, (at' fun b => b), 0x1C, by decide⟩

theorem witness_RegisterWrites_c4 :
    ∃ v : Word, ∃ s : State, ∃ a : Nat, s.body.hubDown = false ∧ s.body.passes = false ∧ s.body.doze = false ∧ inRegion (a / 4 *
      4) = false :=
  ⟨5, (at' fun b => b), 0xD000, by decide⟩

theorem witness_RegisterWrites_c5 :
    ∃ v : Word, ∃ s : State, s.body.hubDown = false ∧ s.body.passes = false ∧ s.body.doze = false ∧ s.body.unlocked 12 = false :=
  ⟨5, (at' fun b => b.wr .modExpertUnlock 0 0), by decide⟩

/-! #### Seats -/

theorem witness_SeatInputs_c1 :
    ∃ n : ChIx, ∃ s : State, s.body.doze = false ∧ Reports s.body n ∧ s.body.dieOff (dieOf n) = false ∧ (s.body.ch n).seatRaw =
      false ∧ (s.body.ch n).seated = false ∧ (s.body.ch n).debEnd = none ∧ (s.body.ch (s.body.leadOf n)).state = .empty ∧ dieOf
      (s.body.leadOf n) = dieOf n :=
  ⟨33, (at' fun b => b.onCh 33 fun c => { c with state := .empty }), by unfold Reports Led; decide⟩

theorem witness_SeatInputs_c2 :
    ∃ n : ChIx, ∃ s : State, s.body.doze = false ∧ Reports s.body n ∧ s.body.dieOff (dieOf n) = false ∧ (s.body.ch
      n).debEnd.isSome = true ∧ (s.body.ch n).seated = false ∧ (s.body.ch (s.body.leadOf n)).state = .seating ∧ n.val ∈
      s.body.membersOf (s.body.leadOf n) ∧ dieOf (s.body.leadOf n) = dieOf n :=
  ⟨33, (at' fun b => b.onCh 33 fun c => { c with state := .seating, seatRaw := true, debEnd := some 9 }),
    by unfold Reports Led; decide⟩

theorem witness_SeatInputs_c3 :
    ∃ n : ChIx, ∃ s : State, s.body.doze = false ∧ Reports s.body n ∧ s.body.dieOff (dieOf n) = false ∧ (s.body.ch n).seatRaw =
      true ∧ (s.body.ch n).debEnd = none :=
  ⟨33, (at' fun b => b.onCh 33 fun c => { c with state := .on, seatRaw := true, seated := true }),
    by unfold Reports Led; decide⟩

theorem witness_SeatFilters_c1 :
    ∃ n : ChIx, ∃ T : Nat, ∃ s : State, Reports s.body n ∧ dieOf (s.body.leadOf n) = dieOf n ∧ (s.body.ch n).debEnd = some T ∧
      (s.body.ch n).seatRaw = true :=
  ⟨33, 9, (at' fun b => b.onCh 33 fun c => { c with state := .seating, seatRaw := true, debEnd := some 9 }),
    by unfold Reports Led; decide⟩

theorem witness_SeatFilters_c2 :
    ∃ n : ChIx, ∃ T : Nat, ∃ s : State, Reports s.body n ∧ dieOf (s.body.leadOf n) = dieOf n ∧ (s.body.ch n).lossEnd = some T ∧
      s.body.seated (s.body.leadOf n) = true ∧ (s.body.ch (s.body.leadOf n)).state = .on ∧ n.val ∈ s.body.membersOf
      (s.body.leadOf n) :=
  ⟨33, 9, (at' fun b => b.onCh 33 fun c => { c with state := .on, seated := true, lossEnd := some 9 }),
    by unfold Reports Led; decide⟩

theorem witness_AbsenceClearsLatch_c1 :
    ∃ n : ChIx, ∃ T : Nat, ∃ s : State, s.body.orch = true ∧ Led s.body n ∧ (s.body.ch (s.body.leadOf n)).aqEnd = some T ∧
      s.body.aqOpen (s.body.leadOf n) T = false ∧ (s.body.ch (s.body.leadOf n)).state = .latched :=
  ⟨33, 9, (at' fun b => b.onCh 33 fun c => { c with state := .latched, aqEnd := some 9 }), by unfold Led; decide⟩

theorem witness_AbsenceOpen_c1 :
    ∃ n : ChIx, ∃ T : Nat, ∃ s : State, (s.body.ch (s.body.leadOf n)).aqEnd = some T ∧ s.body.aqOpen (s.body.leadOf n) T = true :=
  ⟨33, 9, (at' fun b => b.onCh 33 fun c => { c with aqEnd := some 9, seated := true }), by decide⟩

/-! #### EnableEdges -/

theorem witness_EnableEdges_c1 :
    ∃ n : ChIx, ∃ s : State, s.body.orch = true ∧ s.body.isMember n = false ∧ s.body.rd .chCtrlEn n = 1 ∧ (s.body.ch n).state ∈
      [ChState.empty, .seating, .queued, .ramp, .on, .limit, .capped, .cooling, .shed, .refused] :=
  ⟨33, (at' fun b => (b.wr .chCtrlEn 33 1).onCh 33 fun c => { c with state := .on, seated := true }), by decide⟩

theorem witness_EnableEdges_c2 :
    ∃ n : ChIx, ∃ s : State, s.body.orch = true ∧ s.body.isMember n = false ∧ s.body.rd .chCtrlEn n = 0 ∧ (s.body.ch n).state =
      .off ∧ s.body.seated n = false ∧ s.body.debouncing n = false :=
  ⟨33, (at' fun b => b.onCh 33 fun c => { c with state := .off }), by decide⟩

theorem witness_EnableEdges_c3 :
    ∃ n : ChIx, ∃ s : State, s.body.orch = true ∧ s.body.isMember n = false ∧ s.body.rd .chCtrlEn n = 0 :=
  ⟨33, (at' fun b => b.onCh 33 fun c => { c with state := .off }), by decide⟩

theorem witness_EnableEdges_c4 :
    ∃ n : ChIx, ∃ s : State, s.body.orch = true ∧ s.body.isMember n = false ∧ s.body.rd .chCtrlEn n = 1 :=
  ⟨33, (at' fun b => (b.wr .chCtrlEn 33 1).onCh 33 fun c => { c with state := .on, seated := true }), by decide⟩

theorem witness_MemberEnableIgnored_c1 :
    ∃ n : ChIx, ∃ s : State, s.body.isMember n = true :=
  ⟨33, (at' fun b => ((b.wr .chClassGangSize 33 2).wr .chClassGangLead 33 32).wr .chCtrlEn 33 1), by decide⟩

theorem witness_MemberEnableIgnored_c2 :
    ∃ n : ChIx, ∃ s : State, s.body.isMember n = true :=
  ⟨33, (at' fun b => ((b.wr .chClassGangSize 33 2).wr .chClassGangLead 33 32)), by decide⟩

theorem witness_MemberEnableIgnored_c3 :
    ∃ n : ChIx, ∃ s : State, s.body.isMember n = true :=
  ⟨33, (at' fun b => ((b.wr .chClassGangSize 33 2).wr .chClassGangLead 33 32)), by decide⟩

/-! #### EntersQueue -/

theorem witness_EntersQueue_c1 :
    ∃ n : ChIx, ∃ s : State, s.body.orch = true ∧ s.body.leadOf n = n ∧ s.body.seated n = true ∧ s.body.holdup = false ∧
      s.body.refusal n = none ∧ s.body.restartOk s.env n = true ∧ (s.body.ch n).state = .seating ∧ (s.body.ch n).reason = 0x36 :=
  ⟨33, (at' fun b => (fit b).onCh 33 fun c => { c with state := .seating, reason := 0x36, seated := true }), by decide⟩

theorem witness_EntersQueue_c2 :
    ∃ n : ChIx, ∃ s : State, s.body.orch = true ∧ s.body.leadOf n = n ∧ s.body.seated n = true ∧ s.body.holdup = false ∧
      s.body.refusal n = none ∧ (s.body.ch n).state = .refused :=
  ⟨33, (at' fun b => (fit b).onCh 33 fun c => { c with state := .refused, seated := true }), by decide⟩

theorem witness_EntersQueue_c3 :
    ∃ n : ChIx, ∃ s : State, ∃ r : Nat, s.body.orch = true ∧ s.body.leadOf n = n ∧ s.body.seated n = true ∧ s.body.holdup =
      false ∧ s.body.refusal n = some r ∧ (s.body.ch n).state = .refused :=
  ⟨33, (at' fun b => (b.wr .chBallocAlloc 33 600).onCh 33 fun c => { c with state := .refused, seated := true }), 0x23,
    by decide⟩

theorem witness_EntersQueue_c4 :
    ∃ n : ChIx, ∃ s : State, s.body.orch = true ∧ s.body.leadOf n = n ∧ s.body.seated n = true ∧ s.body.holdup = false ∧
      s.body.refusal n = none ∧ s.body.readmitOk s.env n = true ∧ (s.body.ch n).state = .shed :=
  ⟨33, (at' fun b => (fit b).onCh 33 fun c => { c with state := .shed, seated := true, eligible := true }), by decide⟩

theorem witness_EntersQueue_c5 :
    ∃ n : ChIx, ∃ s : State, ∃ T : Nat, s.body.orch = true ∧ s.body.leadOf n = n ∧ s.body.seated n = true ∧ s.body.holdup =
      false ∧ s.body.refusal n = none ∧ (s.body.ch n).retryEnd = some T ∧ (s.body.ch n).state = .cooling ∧ s.body.restartOk
      (s.goTo T).env n = true :=
  ⟨33, (at' fun b => (fit b).onCh 33 fun c => { c with state := .cooling, seated := true, retryEnd := some 9 }), 9, by decide⟩

theorem witness_EntersQueue_c6 :
    ∃ n : ChIx, ∃ s : State, ∃ T : Nat, s.body.orch = true ∧ s.body.leadOf n = n ∧ s.body.seated n = true ∧ s.body.holdup =
      false ∧ s.body.refusal n = none ∧ (s.body.ch n).retryEnd = some T ∧ (s.body.ch n).state = .cooling ∧ s.body.restartOk
      (s.goTo T).env n = false :=
  ⟨33, (at' fun b => (fit b).onCh 33 fun c =>
    { c with state := .cooling, seated := true, retryEnd := some 9, holdoffEnd := 100 }), 9, by decide⟩

/-! #### WinsMoveTheChannel -/

theorem witness_WinsMoveTheChannel_c1 :
    ∃ n : ChIx, ∃ l : Nat, ∃ s : State, ∃ T : Nat, s.body.leadOf n = l ∧ Reports s.body n ∧ (s.body.en l).doneSince = some T ∧
      (s.body.ch l).state = .ramp :=
  ⟨33, 33, (at' fun b => (b.onCh 33 fun c => { c with state := .ramp }).onEng 33 fun e => { e with doneSince := some 5 }), 5,
    by unfold Reports Led; decide⟩

theorem witness_WinsMoveTheChannel_c2 :
    ∃ n : ChIx, ∃ l : Nat, ∃ s : State, ∃ r : Nat, s.body.leadOf n = l ∧ Reports s.body n ∧ runLen (fun w => decide (2 ≤ w))
      (s.body.en l).wins = r ∧ 0 < r ∧ (∃ w ∈ (s.body.en l).wins.take r, w ≤ 4) ∧ ((s.body.ch l).state = .on ∨ (s.body.ch
      l).state = .capped) :=
  ⟨33, 33, (at' fun b => (b.onCh 33 fun c => { c with state := .on }).onEng 33 fun e => { e with wins := [4, 2, 5, 1] }), 3,
    by unfold Reports Led; decide⟩

theorem witness_WinsMoveTheChannel_c3 :
    ∃ n : ChIx, ∃ l : Nat, ∃ s : State, ∃ r : Nat, s.body.leadOf n = l ∧ Reports s.body n ∧ (s.body.en l).wins = List.replicate
      r 5 ∧ 0 < r ∧ ((s.body.ch l).state = .on ∨ (s.body.ch l).state = .limit) :=
  ⟨33, 33, (at' fun b => (b.onCh 33 fun c => { c with state := .on }).onEng 33 fun e => { e with wins := [5, 5] }), 2,
    by unfold Reports Led; decide⟩

theorem witness_WinsMoveTheChannel_c4 :
    ∃ n : ChIx, ∃ l : Nat, ∃ s : State, s.body.leadOf n = l ∧ Reports s.body n ∧ 0 < (s.body.en l).freeWins ∧ ((s.body.ch
      l).state = .limit ∨ (s.body.ch l).state = .capped) :=
  ⟨33, 33, (at' fun b => (b.onCh 33 fun c => { c with state := .limit }).onEng 33 fun e => { e with freeWins := 3 }),
    by unfold Reports Led; decide⟩

/-! #### LoopCycles -/

theorem witness_LoopCycles_c1 :
    ∃ n : ChIx, ∃ p : Bool, ∃ q : Bool, ∃ s : State, s.body.dieOff (dieOf n) = false ∧ (s.body.en n).gate ≠ .driven ∧
      s.body.shadows (s.body.leadOf n) = false :=
  ⟨33, true, false, (at' fun b => b), by decide⟩

theorem witness_LoopCycles_c2 :
    ∃ n : ChIx, ∃ p : Bool, ∃ q : Bool, ∃ s : State, s.body.dieOff (dieOf n) = false ∧ (s.body.en n).gate = .hiZ ∧ s.body.leadOf
      n = n ∧ s.body.shadows n = true :=
  ⟨33, true, false, (at' fun b => ((b.onCh 33 fun c => { c with state := .on }).onTwin fun t =>
    { t with seam := some ⟨1, false, 0, some (10, 20), true, false⟩, snaps := [(33, 15)] })), by decide⟩

theorem witness_LoopCycles_c3 :
    ∃ n : ChIx, ∃ p : Bool, ∃ q : Bool, ∃ s : State, s.body.dieOff (dieOf n) = false ∧ (s.body.en n).gate = .driven ∧
      s.body.leadOf n = n ∧ (s.body.ch n).eff ≠ .ramp ∧ (s.body.ch n).partialRamp = false ∧ ((s.body.en n).epiRun &&
      (s.body.takeSample s.env n p q).overEsoa n n) = false :=
  ⟨33, true, false, (at' fun b => (b.onCh 33 fun c => { c with state := .on }).onEng 33 fun e => { e with gate := .driven }),
    by decide⟩

theorem witness_LoopCycles_c4 :
    ∃ n : ChIx, ∃ p : Bool, ∃ q : Bool, ∃ s : State, s.body.dieOff (dieOf n) = false ∧ (s.body.en n).gate = .driven ∧
      s.body.leadOf n = n ∧ (s.body.ch n).state = .ramp ∧ (s.body.en n).rampEnd = false ∧ ((s.body.en n).epiRun &&
      (s.body.takeSample s.env n p q).overEsoa n n) = false ∧ s.body.targetBelow n = false ∧ s.body.cd .chRampctlRound n = 0 :=
  ⟨33, true, false, (at' fun b => (b.onCh 33 fun c => { c with state := .ramp }).onEng 33 fun e => { e with gate := .driven }),
    by decide⟩

/-! #### ThermalStep -/

theorem witness_ThermalStep_c1 :
    ∃ n : ChIx, ∃ s : State, s.body.modelRuns n = false :=
  ⟨33, (at' fun b => b.onDie 2 fun d => { d with resetT := some 5 }), by decide⟩

theorem witness_ThermalStep_c2 :
    ∃ n : ChIx, ∃ s : State, s.body.modelRuns n = true :=
  ⟨33, (at' fun b => b), by decide⟩

/-! #### DieTrips -/

theorem witness_DieTrips_c1 :
    ∃ n : ChIx, ∃ l : Nat, ∃ s : State, ∃ T : Nat, s.body.leadOf n = l ∧ Reports s.body n ∧ (s.body.en l).tripLatch = false ∧
      s.body.dieOff (dieOf l) = false ∧ (s.body.en n).tripLatch = false ∧ (s.body.en l).limFrom = some T ∧ (s.body.ch l).state =
      .limit ∧ (s.body.membersOf l).any s.body.stallDue = false ∧ ((s.body.membersOf l).any fun m => (s.body.en m).epiRun &&
      s.body.overEsoa m l) = false :=
  ⟨33, 33, (at' fun b => (b.onCh 33 fun c => { c with state := .limit }).onEng 33 fun e => { e with limFrom := some 5 }), 5,
    by unfold Reports Led; decide⟩

theorem witness_DieTrips_c2 :
    ∃ n : ChIx, ∃ l : Nat, ∃ s : State, ∃ T : Nat, s.body.leadOf n = l ∧ Reports s.body n ∧ (s.body.en l).tripLatch = false ∧
      s.body.dieOff (dieOf l) = false ∧ (s.body.en n).tripLatch = false ∧ (s.body.en l).feSince = some T ∧ (s.body.en l).gate =
      .driven ∧ (s.body.ch l).state = .ramp ∧ (s.body.membersOf l).any s.body.stallDue = false ∧ ((s.body.membersOf l).any fun m
      => (s.body.en m).epiRun && s.body.overEsoa m l) = false :=
  ⟨33, 33, (at' fun b => ((b.dwr 2 .chGstallGsTime 33 9).onCh 33 fun c => { c with state := .ramp }).onEng 33 fun e =>
    { e with gate := .driven, feSince := some 5 }), 5, by unfold Reports Led; decide⟩

theorem witness_DieTrips_c3 :
    ∃ n : ChIx, ∃ l : Nat, ∃ s : State, ∃ p, ∃ q, s.body.leadOf n = l ∧ Reports s.body n ∧ (s.body.en l).tripLatch = false ∧
      s.body.dieOff (dieOf l) = false ∧ (s.body.en n).tripLatch = false ∧ n.val = l ∧ (s.body.en l).gate = .driven ∧ (s.body.ch
      l).state = .limit ∧ (s.body.en l).epiRun = true ∧ (s.body.takeSample s.env l p q).overEsoa l l = true ∧ (∀ m ∈
      s.body.membersOf l, (s.body.en m).stallNs + 800 < s.body.cd .chGstallGsTime m * 10000) :=
  ⟨33, 33, (at' fun b => ((b.dwr 2 .chGstallGsTime 33 9).onCh 33 fun c => { c with state := .limit }).onEng 33 fun e =>
    { e with gate := .driven, epiRun := true, episode := 1 }), true, false, by unfold Reports Led; decide⟩

theorem witness_DieTrips_c4 :
    ∃ n : ChIx, ∃ l : Nat, ∃ s : State, s.body.leadOf n = l ∧ Reports s.body n ∧ (s.body.en l).tripLatch = false ∧ s.body.dieOff
      (dieOf l) = false ∧ (s.body.en n).tripLatch = false ∧ 0 < (s.body.en n).stallNs ∧ (s.body.en n).gate = .driven ∧ 0 <
      (s.body.en n).dsel ∧ (s.body.ch l).state.driven = true :=
  ⟨33, 33, (at' fun b => (b.onCh 33 fun c => { c with state := .on }).onEng 33 fun e =>
    { e with gate := .driven, stallNs := 5, dsel := 3 }), by unfold Reports Led; decide⟩

theorem witness_DieTrips_c5 :
    ∃ n : ChIx, ∃ l : Nat, ∃ s : State, ∃ uv : Int, s.body.leadOf n = l ∧ Reports s.body n ∧ (s.body.en l).tripLatch = false ∧
      s.body.dieOff (dieOf l) = false ∧ (s.body.en n).tripLatch = false ∧ (s.body.htThreshold n : Int) < uv ∧ (s.body.en
      n).gate.live = true ∧ (s.body.ch l).state.driven = true :=
  ⟨33, 33, (at' fun b => (b.onCh 33 fun c => { c with state := .on }).onEng 33 fun e => { e with gate := .driven }), 80000,
    by unfold Reports Led; decide⟩

theorem witness_DieTrips_c6 :
    ∃ n : ChIx, ∃ l : Nat, ∃ s : State, ∃ uv : Int, s.body.leadOf n = l ∧ Reports s.body n ∧ (s.body.en l).tripLatch = false ∧
      s.body.dieOff (dieOf l) = false ∧ (s.body.en n).tripLatch = false ∧ (s.body.htThreshold n : Int) < uv ∧ (s.body.en
      n).gate.live = false ∧ s.body.role ≠ .standby ∧ (s.body.ch l).state ≠ .bench :=
  ⟨33, 33, (at' fun b => b.onCh 33 fun c => { c with state := .off }), 80000, by unfold Reports Led; decide⟩

theorem witness_DieTrips_c7 :
    ∃ n : ChIx, ∃ l : Nat, ∃ s : State, ∃ uv : Int, s.body.leadOf n = l ∧ Reports s.body n ∧ (s.body.en l).tripLatch = false ∧
      s.body.dieOff (dieOf l) = false ∧ (s.body.en n).tripLatch = false ∧ (s.body.htThreshold n : Int) < uv ∧ (s.body.ch
      l).state = .bench :=
  ⟨33, 33, (at' fun b => b.onCh 33 fun c => { c with state := .bench }), 80000, by unfold Reports Led; decide⟩

theorem witness_DieTrips_c8 :
    ∃ n : ChIx, ∃ l : Nat, ∃ s : State, ∃ uv : Int, s.body.leadOf n = l ∧ Reports s.body n ∧ (s.body.en l).tripLatch = false ∧
      s.body.dieOff (dieOf l) = false ∧ (s.body.en n).tripLatch = false ∧ uv ≤ s.body.htThreshold n :=
  ⟨33, 33, (at' fun b => b), 2, by unfold Reports Led; decide⟩

/-! #### OtherFaults -/

theorem witness_FetShorts_c1 :
    ∃ n : ChIx, ∃ l : Nat, ∃ T : Nat, ∃ s : State, s.body.leadOf n = l ∧ Reports s.body n ∧ (s.body.en n).shortSince = some T ∧
      (s.body.ch l).state ∉ [ChState.unconfigured, .bench, .fetFault] ∧ ((s.body.ch l).state = .held → (s.body.ch l).heldEvs =
      []) :=
  ⟨33, 33, 5, (at' fun b => (b.onCh 33 fun c => { c with state := .off }).onEng 33 fun e => { e with shortSince := some 5 }),
    by unfold Reports Led; decide⟩

theorem witness_Mismatch_c1 :
    ∃ n : ChIx, ∃ T : Nat, ∃ s : State, (s.body.en n).mmSince = some T ∧ (s.body.en n).mismatch = false ∧ s.body.modelRuns n =
      true ∧ s.body.role ≠ .standby :=
  ⟨33, 5, (at' fun b => b.onEng 33 fun e => { e with mmSince := some 5 }), by decide⟩

theorem witness_Mismatch_c2 :
    ∃ n : ChIx, ∃ T : Nat, ∃ s : State, (s.body.en n).mmSince = some T ∧ (s.body.en n).mismatch = false ∧ s.body.modelRuns n =
      true ∧ s.body.role = .standby ∧ s.body.hubDown = false :=
  ⟨33, 5, (at' fun b => ({ b with role := .standby } : Body).onEng 33 fun e => { e with mmSince := some 5 }), by decide⟩

theorem witness_BusWindow_c1 :
    ∃ n : ChIx, ∃ l : Nat, ∃ T : Nat, ∃ high : Bool, ∃ s : State, s.body.leadOf n = l ∧ s.body.orch = true ∧ Led s.body n ∧
      (s.body.ch l).busOut = some (T, high) ∧ (s.body.ch l).busQual = false ∧ (s.body.ch l).state.driven = true ∧ s.body.policy
      l (if high then 0x1A else 0x1B) ≠ 2 ∧ (s.body.fe (dieOf l)).joined = true ∧ (s.body.fe (dieOf l)).down = [] :=
  ⟨33, 33, 5, true, (at' fun b => b.onCh 33 fun c => { c with state := .on, busOut := some (5, true) }), by unfold Led; decide⟩

theorem witness_BusWindow_c2 :
    ∃ n : ChIx, ∃ l : Nat, ∃ T : Nat, ∃ high : Bool, ∃ s : State, s.body.leadOf n = l ∧ s.body.orch = true ∧ Led s.body n ∧
      (s.body.ch l).busOut = some (T, high) ∧ (s.body.ch l).busQual = false ∧ (s.body.ch l).state.driven = true ∧ s.body.policy
      l (if high then 0x1A else 0x1B) = 2 :=
  ⟨33, 33, 5, true, (at' fun b => (b.wr .chTrippolBusOver 33 2).onCh 33 fun c =>
    { c with state := .on, busOut := some (5, true) }), by unfold Led; decide⟩

/-! #### TraceBuffer -/

theorem witness_TraceBuffer_c1 :
    ∃ k : DieIx, ∃ s : State, s.body.hubDown = false ∧ (s.body.fe k).joined = true :=
  ⟨2, (at' fun b => b), by decide⟩

theorem witness_TraceBuffer_c2 :
    ∃ k : DieIx, ∃ s : State, ∃ c, s.body.hubDown = false ∧ c = s.body.drain s.env k ∧ (s.body.fe k).joined = true ∧ c.drd k
      .feTrctlArmed k = 1 ∧ c.drd k .feTrctlTriggered k = 0 ∧ c.drd k .feTrctlPre k ≤ (c.fe k).trCount ∧ 0 < (c.fe k).trCount :=
  ⟨2, (at' fun b => (b.dwr 2 .feTrctlArmed 2 1).onDie 2 fun d => { d with trCount := 5 }), ((live.dwr 2 .feTrctlArmed 2 1).onDie
    2 fun d => { d with trCount := 5 }), by decide⟩

theorem witness_TraceBuffer_c3 :
    ∃ k : DieIx, ∃ s : State, ∃ c, s.body.hubDown = false ∧ c = s.body.drain s.env k ∧ (s.body.fe k).joined = true ∧ c.drd k
      .feTrctlArmed k = 1 ∧ c.drd k .feTrctlTriggered k = 0 ∧ (c.fe k).trCount < c.drd k .feTrctlPre k :=
  ⟨2, (at' fun b => ((b.dwr 2 .feTrctlArmed 2 1).dwr 2 .feTrctlPre 2 9).onDie 2 fun d => { d with trCount := 5 }), (((live.dwr 2
    .feTrctlArmed 2 1).dwr 2 .feTrctlPre 2 9).onDie 2 fun d => { d with trCount := 5 }), by decide⟩

theorem witness_TraceBuffer_c4 :
    ∃ k : DieIx, ∃ s : State, s.body.hubDown = false ∧ (s.body.fe k).joined = false :=
  ⟨2, (at' fun b => b.onDie 2 fun d => { d with joined := false }), by decide⟩

theorem witness_TraceBuffer_c5 :
    ∃ k : DieIx, ∃ s : State, s.body.hubDown = false ∧ (s.body.fe k).joined = false :=
  ⟨2, (at' fun b => b.onDie 2 fun d => { d with joined := false }), by decide⟩

theorem witness_TraceBuffer_c6 :
    ∃ k : DieIx, ∃ s : State, s.body.hubDown = false ∧ s.body.trFull k = true :=
  ⟨2, (at' fun b => (b.dwr 2 .feTrctlArmed 2 1).dwr 2 .feTrctlTriggered 2 1), by decide⟩

theorem witness_TraceBuffer_c7 :
    ∃ k : DieIx, ∃ s : State, s.body.hubDown = false ∧ s.body.trFull k = false :=
  ⟨2, (at' fun b => b), by decide⟩

/-! #### BudgetCycle -/

theorem witness_BudgetCycle_c1 :
    ∃ s : State, s.body.cycles = true :=
  ⟨(at' fun b => b), by decide⟩

/-! #### Slots -/

theorem witness_Slots_c1 :
    ∃ s : State, ∃ n : Nat, ∃ rest : List Nat, ∃ T : Nat, s.body.orch = true ∧ s.body.froze = false ∧ s.body.bud.openSlot = none
      ∧ s.body.nextSlot = some T ∧ s.body.paused = false ∧ s.body.zq5016 = false ∧ s.body.queue = n :: rest ∧ s.body.leadOf n =
      n ∧ (s.body.ch n).state = .queued ∧ s.body.refusal n = none ∧ s.body.fits n = true :=
  ⟨(at' fun b => (fit b).onCh 33 fun c => { c with state := .queued, seated := true }), 33, ([] : List Nat), 100, by decide⟩

theorem witness_Slots_c2 :
    ∃ s : State, ∃ T : Nat, s.body.orch = true ∧ s.body.froze = false ∧ s.body.bud.openSlot = none ∧ s.body.nextSlot = some T ∧
      s.body.paused = true :=
  ⟨(at' fun b => { slot b with role := .solo, bud := { (slot b).bud with busLow := some 5 } }), 100, by decide⟩

theorem witness_Slots_c3 :
    ∃ s : State, ∃ n : ChIx, s.body.orch = true ∧ Led s.body n ∧ (s.body.ch (s.body.leadOf n)).state = .queued ∧ s.body.flag
      .modBootSoloHeld = false ∧ s.body.bdg .budgetQlimitQueueLimit (s.body.pclass (s.body.leadOf n)) ≠ 0 :=
  ⟨(at' fun b => (b.wr .budgetQlimitQueueLimit 0 9).onCh 33 fun c => { c with state := .queued, seated := true }), 33,
    by unfold Led; decide⟩

theorem witness_Slots_c4 :
    ∃ s : State, ∃ n : Nat, s.body.orch = true ∧ s.body.zq5016 = true ∧ s.body.paused = false ∧ s.body.queue = [n] ∧
      s.body.leadOf n = n ∧ (s.body.ch n).state = .queued ∧ bitAt (s.body.rd .budgetGselSel (n / 32)) (n % 32) = true ∧
      s.body.fits n = true :=
  ⟨(at' fun b => (((fit b).wr .budgetCtrlMode 0 1).wr .budgetGselSel 1 2).onCh 33 fun c =>
    { c with state := .queued, seated := true }), 33, by decide⟩

theorem witness_Slots_c5 :
    ∃ s : State, s.body.orch = true ∧ s.body.zq5016 = false :=
  ⟨(at' fun b => b), by decide⟩

/-! #### BusIntegrity -/

theorem witness_BusIntegrity_c1 :
    ∃ s : State, s.body.orch = true ∧ s.body.busAtLeast (s.body.bdg .budgetBusminBusMin) = false :=
  ⟨(at' fun b => (b.wr .budgetBusminBusMin 0 460).dwr 2 .feLadderLevel 128 22500), by decide⟩

theorem witness_BusIntegrity_c2 :
    ∃ s : State, s.body.orch = true ∧ s.body.busAtLeast (s.body.bdg .budgetBusminBusMin) = true ∧ s.body.busAtLeast (s.body.bdg
      .budgetBusminBusMin + 5) = true :=
  ⟨(at' fun b => ((b.wr .budgetBusminBusMin 0 460).dwr 2 .feLadderLevel 128 22500).dwr 2 .feBusbandBand 2 1), by decide⟩

theorem witness_BusIntegrity_c3 :
    ∃ s : State, s.body.orch = true ∧ s.body.busAtLeast (s.body.bdg .budgetBusminBusMin) = true ∧ s.body.busAtLeast (s.body.bdg
      .budgetBusminBusMin + 5) = false :=
  ⟨(at' fun b => (b.wr .budgetBusminBusMin 0 460).dwr 2 .feLadderLevel 128 23100), by decide⟩

theorem witness_BusIntegrity_c4 :
    ∃ s : State, ∃ n : Nat, ∃ T : Nat, s.body.orch = true ∧ s.body.froze = false ∧ s.body.bud.busShedT = some T ∧
      s.body.lowestClaim = some n ∧ s.body.leadOf n = n ∧ (s.body.ch n).state.driven = true ∧ (s.body.ch n).shedWaits = false :=
  ⟨(at' fun b => (({ b with bud := { b.bud with busShedT := some 5 } } : Body).wr .chClassPclass 33 2).onCh 33 fun c =>
    { c with state := .on }), 33, 5, by decide⟩

/-! #### HoldUp -/

theorem witness_HoldUp_c1 :
    ∃ s : State, s.body.orch = true ∧ s.body.holdup = false :=
  ⟨(at' fun b => b), by decide⟩

theorem witness_HoldUp_c2 :
    ∃ s : State, s.body.orch = true ∧ s.body.feederTrig = true ∧ s.body.holdup = false :=
  ⟨(at' fun b => b.wr .feederStatInfailTrig 0 1), by decide⟩

theorem witness_HoldUp_c3 :
    ∃ s : State, ∃ T : Nat, s.body.orch = true ∧ s.body.bud.hu.warnSince = some T ∧ s.body.holdup = false :=
  ⟨(at' fun b => { b with bud := { b.bud with hu := { b.bud.hu with warnSince := some 5 } } }), 5, by decide⟩

theorem witness_HoldUp_c4 :
    ∃ s : State, s.body.orch = true ∧ s.body.holdup = true ∧ s.body.froze = false ∧ s.body.rd .budgetHustatRunStage = 0 ∧
      s.body.bud.hu.returned = false ∧ s.body.rd .budgetHustatDoneStage = 0 ∧ s.body.bud.hu.reached = [] :=
  ⟨(at' fun b => hold id b), by decide⟩

theorem witness_HoldUp_c5 :
    ∃ s : State, s.body.orch = true ∧ s.body.rd .budgetHustatRunStage = 1 ∧ s.body.bud.hu.returned = false :=
  ⟨(at' fun b => (hold id b).wr .budgetHustatRunStage 0 1), by decide⟩

theorem witness_HoldUp_c6 :
    ∃ s : State, s.body.orch = true ∧ s.body.rd .budgetHustatRunStage = 3 ∧ s.body.bud.hu.returned = false ∧
      s.body.bud.hu.verified = true :=
  ⟨(at' fun b => (hold (fun h => { h with verified := true }) b).wr .budgetHustatRunStage 0 3), by decide⟩

theorem witness_HoldUp_c7 :
    ∃ s : State, s.body.orch = true ∧ s.body.holdup = true ∧ s.body.bud.hu.retEnd = none ∧ s.body.bud.hu.returned = false ∧
      s.body.bud.hu.feeder = false ∧ s.body.bud.hu.bus = false ∧ s.body.busAtLeast (s.body.bdg .budgetHoldupBusWarn + 10) = true :=
  ⟨(at' fun b => hold (fun h => { h with acfail := true }) b), by decide⟩

theorem witness_HoldUp_c8 :
    ∃ s : State, s.body.orch = true ∧ s.body.holdup = true ∧ s.body.bud.hu.returned = false ∧ s.body.busAtLeast (s.body.bdg
      .budgetHoldupBusWarn + 10) = false :=
  ⟨(at' fun b => hold (fun h => { h with acfail := true }) ((b.wr .budgetHoldupBusWarn 0 500).dwr 0 .feLadderLevel 0 20000)),
    by decide⟩

theorem witness_HoldUp_c9 :
    ∃ s : State, ∃ T : Nat, s.body.orch = true ∧ s.body.bud.hu.retEnd = some T ∧ s.body.rd .budgetHustatRunStage = 0 :=
  ⟨(at' fun b => hold (fun h => { h with retEnd := some 50 }) b), 50, by decide⟩

/-! #### Samples -/

theorem witness_Samples_c1 :
    ∃ s : State, ∃ n : ChIx, ∃ raw : Int, s.body.cvaRuns n = true ∧ (s.body.fe (dieOf n)).rotNext = n.val % 16 :=
  ⟨(at' fun b => b.onDie 2 fun d => { d with rotNext := 1 }), 33, 1000, by decide⟩

theorem witness_Samples_c2 :
    ∃ s : State, ∃ n : ChIx, ∃ raw : Int, (s.body.cvaRuns n = false ∨ (s.body.fe (dieOf n)).rotNext ≠ n.val % 16) :=
  ⟨(at' fun b => b), 34, 1000, by decide⟩

theorem witness_Samples_c3 :
    ∃ s : State, ∃ k : DieIx, ∃ j : Fin 64, ∃ raw : Int, ∃ x : Int, ∃ sl : Nat, ∃ input : Nat, s.body.dieRuns k = true ∧
      ((s.body.fe k).urg.run = none ∧ s.body.scanNext k = j.val ∧ sl = s.body.sliceB k 0 ∨ (s.body.fe k).urg.run ≠ none ∧
      s.body.loopNext k = j.val ∧ sl = s.body.loopSlice k) ∧ input = s.body.drd k .feEntryInput (64 * k + j) ∧ x = (if
      s.body.relieved s.env k input then raw else (s.body.slice k sl raw).1) ∧ j.val < 16 ∧ input = 0x10 + j.val :=
  ⟨(at' fun b => (b.dwr 2 .feEntryInput 132 0x14).onDie 2 fun d => { d with scanAt := 4 }), 2, 4, 1000, ((((live.dwr 2
    .feEntryInput 132 0x14).onDie 2 fun d => { d with scanAt := 4 }).slice 2 (live.sliceB 2 0) 1000).1), (live.sliceB 2 0),
    0x14, by decide⟩

theorem witness_Samples_c4 :
    ∃ s : State, ∃ k : DieIx, ∃ j : Fin 64, ∃ raw : Int, ∃ x : Int, ∃ sl : Nat, ∃ input : Nat, s.body.dieRuns k = true ∧
      ((s.body.fe k).urg.run = none ∧ s.body.scanNext k = j.val ∧ sl = s.body.sliceB k 0 ∨ (s.body.fe k).urg.run ≠ none ∧
      s.body.loopNext k = j.val ∧ sl = s.body.loopSlice k) ∧ input = s.body.drd k .feEntryInput (64 * k + j) ∧ x = (if
      s.body.relieved s.env k input then raw else (s.body.slice k sl raw).1) ∧ j.val = 48 ∧ input = 0x40 :=
  ⟨(at' fun b => (b.dwr 2 .feEntryInput 176 0x40).onDie 2 fun d => { d with scanAt := 48 }), 2, 48, 1000, ((((live.dwr 2
    .feEntryInput 176 0x40).onDie 2 fun d => { d with scanAt := 48 }).slice 2 (live.sliceB 2 0) 1000).1), (live.sliceB 2 0),
    0x40, by decide⟩

theorem witness_Samples_c5 :
    ∃ s : State, ∃ k : DieIx, ∃ j : Fin 64, ∃ raw : Int, (s.body.dieRuns k = false ∨ (s.body.fe k).urg.run = none ∧
      (s.body.scanNext k ≠ j.val ∨ s.body.entryOn k j = false) ∨ (s.body.fe k).urg.run ≠ none ∧ s.body.loopNext k ≠ j.val) :=
  ⟨(at' fun b => b), 2, 60, 1000, by decide⟩

theorem witness_FilterOutputs_c1 :
    ∃ k : DieIx, ∃ u : Fin 80, ∃ s : State, ∃ y : Nat, (s.body.fu k u).ready = some y :=
  ⟨2, 7, (at' fun b => b.onDie 2 fun d => { d with fus := d.fus.set 7 ⟨[0, 0, 0, 0], [0, 0, 0, 0], 0, 0, false, some 12⟩ }), 12,
    by decide⟩

theorem witness_FilterOutputs_c2 :
    ∃ k : DieIx, ∃ u : Fin 80, ∃ s : State, (s.body.fu k u).ready = none :=
  ⟨2, 7, (at' fun b => b), by decide⟩

theorem witness_SliceVisits_c1 :
    ∃ k : DieIx, ∃ cvb : Bool, ∃ v : Visit, ∃ T : Nat, ∃ out : Nat, ∃ s : State, (visitOf cvb (s.body.fe k)).since = some T ∧
      out = s.body.drd k (outFld cvb) k ∧ s.body.visitsRun k cvb = true ∧ s.body.visitOk k (s.body.visitSet k cvb) (out + if cvb
      then 5 else 0) v = true :=
  ⟨2, false, ⟨3, 4, 5, 0, 0, 0, 0⟩, 7, 4, (at' fun b => b.onDie 2 fun d => { d with visA := ⟨5, some 7⟩ }), by decide⟩

theorem witness_SliceVisits_c2 :
    ∃ k : DieIx, ∃ cvb : Bool, ∃ v : Visit, ∃ T : Nat, ∃ out : Nat, ∃ s : State, (visitOf cvb (s.body.fe k)).since = some T ∧
      out = s.body.drd k (outFld cvb) k ∧ s.body.visitsRun k cvb = true ∧ s.body.visitOk k (s.body.visitSet k cvb) (out + if cvb
      then 5 else 0) v = false :=
  ⟨2, false, ⟨300, 4, 5, 0, 0, 0, 0⟩, 7, 4, (at' fun b => b.onDie 2 fun d => { d with visA := ⟨5, some 7⟩ }), by decide⟩

theorem witness_SliceVisits_c3 :
    ∃ k : DieIx, ∃ cvb : Bool, ∃ v : Visit, ∃ T : Nat, ∃ out : Nat, ∃ s : State, (visitOf cvb (s.body.fe k)).since = some T ∧
      out = s.body.drd k (outFld cvb) k ∧ s.body.visitsRun k cvb = false :=
  ⟨2, false, ⟨3, 4, 5, 0, 0, 0, 0⟩, 7, 4, (at' fun b =>
    { b.onDie 2 (fun d => { d with visA := ⟨5, some 7⟩ }) with doze := true }), by decide⟩

theorem witness_OpenWires_c1 :
    ∃ k : DieIx, ∃ l : Fin 16, ∃ ts : Bool, ∃ n : Nat, ∃ s : State, ∃ T : Nat, ∃ start : Nat, n = 16 * k.val + l.val ∧
      s.body.owNext k = some (2 * l.val + bit ts, T, start) ∧ s.body.dieOff k = false :=
  ⟨2, 1, false, 33, (at' fun b => (b.dwr 2 .feOwcfgConfirm 2 3).onCh 33 (fun c => { c with state := .on }) |>.onDie 2 fun d =>
    { d with ow := ⟨0, 2, 10, [], []⟩ }), 10, 0, by decide⟩

theorem witness_OpenWires_c2 :
    ∃ k : DieIx, ∃ l : Fin 16, ∃ ts : Bool, ∃ n : Nat, ∃ s : State, n = 16 * k.val + l.val ∧ (∀ T start, s.body.owNext k ≠ some
      (2 * l.val + bit ts, T, start)) :=
  ⟨2, 1, false, 33, (at' fun b => { b with doze := true }),
    ⟨rfl, fun T start h => absurd (congrArg Option.isSome h) (by decide : ¬ ((at' fun b => { b with doze := true }).body.owNext 2).isSome = true)⟩⟩

/-! #### TrendBoundaries -/

theorem witness_TrendBoundaries_c1 :
    ∃ k : DieIx, ∃ s : State, s.body.dieOff k = false ∧ s.body.doze = false :=
  ⟨2, (at' fun b => b), by decide⟩

theorem witness_TrendBoundaries_c2 :
    ∃ k : DieIx, ∃ s : State, s.body.dieOff k = false ∧ s.body.hubDown = false ∧ (s.body.fe k).joined = true ∧ (s.body.fe
      k).lastB = s.time.elapsed :=
  ⟨2, (at' fun b => b), by decide⟩

theorem witness_TrendBoundaries_c3 :
    ∃ k : DieIx, ∃ s : State, s.body.dieOff k = false ∧ s.body.hubDown = false ∧ (s.body.fe k).joined = true ∧ (s.body.fe
      k).lastB ≠ s.time.elapsed ∧ (s.body.fe k).down = [] :=
  ⟨2, (tm 5 5 <| at' fun b => b.dwr 2 .feIrangeFine 2 2), by decide⟩

theorem witness_TrendBoundaries_c4 :
    ∃ k : DieIx, ∃ s : State, s.body.dieOff k = false ∧ s.body.hubDown = false ∧ (s.body.fe k).joined = false ∧ (s.body.fe
      k).lastB = s.time.elapsed :=
  ⟨2, (at' fun b => b.onDie 2 fun d => { d with joined := false }), by decide⟩

theorem witness_DirectConversions_c1 :
    ∃ k : DieIx, ∃ s : State, ∃ i : Instr, ∃ c, (i = Instr.directConvGo k ∧ s.body.hubDown = false ∧ (s.body.fe k).joined = true
      ∧ c = s.body.drain s.env k ∨ (∃ r, i = .convstEdge k r ∧ s.body.role ≠ .bench ∧ edgeActs (s.body.drd k .feConvctlSrc k) r
      = true ∧ c = (if k.val = 0 then s.body.srcEdge 0x89 r s.time.elapsed else s.body))) ∧ c.dieRuns k = true ∧ (c.fe
      k).urg.run = none ∧ (c.fe k).urg.passLeft = 0 ∧ (c.fe k).urg.waitCap = false ∧ (c.fe k).urg.waitBench = false ∧ (c.fe
      k).urg.waitConv = false :=
  ⟨2, (at' fun b => b), (Instr.directConvGo 2), live, by decide⟩

theorem witness_DirectConversions_c2 :
    ∃ k : DieIx, ∃ s : State, ∃ i : Instr, ∃ c, (i = Instr.directConvGo k ∧ s.body.hubDown = false ∧ (s.body.fe k).joined = true
      ∧ c = s.body.drain s.env k ∨ (∃ r, i = .convstEdge k r ∧ s.body.role ≠ .bench ∧ edgeActs (s.body.drd k .feConvctlSrc k) r
      = true ∧ c = (if k.val = 0 then s.body.srcEdge 0x89 r s.time.elapsed else s.body))) ∧ c.dieRuns k = true ∧ ((c.fe
      k).urg.waitConv = true ∨ (c.fe k).urg.run = some .direct) :=
  ⟨2, (at' fun b => b.onUrg 2 fun u => { u with waitConv := true }), (Instr.directConvGo 2), (live.onUrg 2 fun u =>
    { u with waitConv := true }), by decide⟩

theorem witness_DirectConversions_c3 :
    ∃ k : DieIx, ∃ s : State, ∃ r, s.body.role ≠ .bench ∧ edgeActs (s.body.drd k .feConvctlSrc k) r = false :=
  ⟨2, (at' fun b => b), true, by decide⟩

theorem witness_DirectConversions_c4 :
    ∃ k : DieIx, ∃ s : State, s.body.dieRuns k = true ∧ (s.body.fe k).urg.run = some .direct :=
  ⟨2, (at' fun b => b.onUrg 2 fun u => { u with run := some .direct }), by decide⟩

/-! #### FaultCaptures -/

theorem witness_FaultCaptures_c1 :
    ∃ k : DieIx, ∃ s : State, ∃ i : Instr, ∃ src : Nat, ∃ unit : Nat, ∃ c, (i = Instr.captureForce k ∧ src = 0 ∧ unit = 0 ∧
      s.body.hubDown = false ∧ (s.body.fe k).joined = true ∧ c = s.body.drain s.env k ∨ (i = .captureTrigger k src unit ∧
      s.body.capHits k src unit = true ∧ c = s.body)) ∧ c.dieRuns k = true ∧ c.capInput k src unit ≠ 0x7F ∧ (c.fe k).urg.run =
      none ∧ (c.fe k).urg.passLeft = 0 ∧ (c.fe k).urg.waitCap = false :=
  ⟨2, (at' fun b => b.dwr 2 .feCapctlInput 2 5), (Instr.captureForce 2), 0, 0, (live.dwr 2 .feCapctlInput 2 5), by decide⟩

theorem witness_FaultCaptures_c2 :
    ∃ k : DieIx, ∃ s : State, ∃ i : Instr, ∃ src : Nat, ∃ unit : Nat, ∃ c, (i = Instr.captureForce k ∧ src = 0 ∧ unit = 0 ∧
      s.body.hubDown = false ∧ (s.body.fe k).joined = true ∧ c = s.body.drain s.env k ∨ (i = .captureTrigger k src unit ∧
      s.body.capHits k src unit = true ∧ c = s.body)) ∧ c.dieRuns k = true ∧ c.capInput k src unit ≠ 0x7F ∧ ((c.fe
      k).urg.waitCap = true ∨ (c.fe k).urg.run ≠ none ∨ 0 < (c.fe k).urg.passLeft) ∧ c.drd k .feCapctlXout k = 0 :=
  ⟨2, (at' fun b => (b.dwr 2 .feCapctlInput 2 5).onUrg 2 fun u => { u with waitCap := true }), (Instr.captureForce 2), 0, 0,
    ((live.dwr 2 .feCapctlInput 2 5).onUrg 2 fun u => { u with waitCap := true }), by decide⟩

theorem witness_FaultCaptures_c3 :
    ∃ k : DieIx, ∃ s : State, ∃ src : Nat, ∃ unit : Nat, s.body.capHits k src unit = false :=
  ⟨2, (at' fun b => b), 1, 3, by decide⟩

theorem witness_FaultCaptures_c4 :
    ∃ k : DieIx, ∃ s : State, ∃ c, c = s.body.drain s.env k ∧ s.body.hubDown = false ∧ (s.body.fe k).joined = true ∧ (c.fe
      k).urg.run = some .capture :=
  ⟨2, (at' fun b => b.onUrg 2 fun u => { u with run := some .capture }), (live.onUrg 2 fun u =>
    { u with run := some .capture }), by decide⟩

theorem witness_FaultCaptures_c5 :
    ∃ k : DieIx, ∃ s : State, ∃ c, c = s.body.drain s.env k ∧ s.body.hubDown = false ∧ (s.body.fe k).joined = true ∧ (c.fe
      k).urg.run ≠ some .capture :=
  ⟨2, (at' fun b => b), live, by decide⟩

theorem witness_FaultCaptures_c6 :
    ∃ k : DieIx, ∃ s : State, s.body.dieOff k = false ∧ (s.body.fe k).urg.run = some .capture :=
  ⟨2, (at' fun b => b.onUrg 2 fun u => { u with run := some .capture }), by decide⟩

theorem witness_FaultCaptures_c7 :
    ∃ k : DieIx, ∃ s : State, ∃ cs : List Cap, ∃ c, ∃ ds : List Cap, ∃ len : Nat, s.body.linkUp? k = true ∧ (s.body.fe k).up =
      [] ∧ s.body.rcd.caps = cs ++ c :: ds ∧ (∀ x ∈ cs, x.die ≠ k.val) ∧ c.die = k.val ∧ len = s.body.capFrameLen s.env k c ∧ 0
      < len ∧ (∀ x ∈ cs ++ c :: ds, x.dev = none) ∧ s.body.capUnits + 1 ≤ ledgerPart :=
  ⟨2, (tm 1000 1000 <| at' fun b => { b with rcd := { b.rcd with caps := [cap0] } }.dwr 2 .feCaplenLen 2 100), ([] : List Cap),
    cap0, ([] : List Cap), 8, by decide⟩

theorem witness_FaultCaptures_c8 :
    ∃ k : DieIx, ∃ s : State, ((s.body.fe k).up ≠ [] ∨ ∀ c ∈ s.body.rcd.caps, c.die ≠ k.val) :=
  ⟨2, (at' fun b => b), by decide⟩

/-! #### Metering -/

theorem witness_Increments_c1 :
    ∃ n : ChIx, ∃ s : State, ∃ c : Closed, ∃ rest : List Closed, (s.body.en n).m.closed = c :: rest ∧ (s.body.en n).m.ready =
      true ∧ s.body.linkUp? (dieOf n) = true ∧ c.epoch = s.body.rd .twinDieEpoch (dieOf n) :=
  ⟨33, (at' fun b => b.onEng 33 fun g =>
    { g with m := { g.m with closed := [(⟨IntSum.zero, 5, 100, 100, 0, 4, 0⟩ : Closed)] } }), (⟨IntSum.zero, 5, 100, 100, 0, 4,
    0⟩ : Closed), ([] : List Closed), by decide⟩

theorem witness_Increments_c2 :
    ∃ n : ChIx, ∃ s : State, ∃ c : Closed, ∃ rest : List Closed, ∃ w, (s.body.en n).m.closed = c :: rest ∧ (s.body.en n).m.ready
      = true ∧ s.body.linkUp? (dieOf n) = true ∧ c.epoch = s.body.rd .twinDieEpoch (dieOf n) ∧ s.body.rcd.blkWait = [w] ∧
      s.body.rcd.ckptDue = none ∧ (s.body.onPath n fun m => { m with closed := rest }).sumsTo w.endE = true :=
  ⟨33, (at' fun b => ({ b with rcd := { b.rcd with blkWait := [blk0] }, doze := true } : Body).onEng 33 fun g =>
    { g with m := { g.m with closed := [(⟨IntSum.zero, 5, 100, 100, 0, 4, 0⟩ : Closed)] } }), (⟨IntSum.zero, 5, 100, 100, 0, 4,
    0⟩ : Closed), ([] : List Closed), blk0, by decide⟩

theorem witness_Increments_c3 :
    ∃ n : ChIx, ∃ s : State, ∃ c : Closed, ∃ rest : List Closed, ∃ w, (s.body.en n).m.closed = c :: rest ∧ (s.body.en n).m.ready
      = true ∧ s.body.linkUp? (dieOf n) = true ∧ c.epoch = s.body.rd .twinDieEpoch (dieOf n) ∧ s.body.rcd.blkWait = [w] ∧
      s.body.rcd.ckptDue = none ∧ (s.body.onPath n fun m => { m with closed := rest }).sumsTo w.endE = false :=
  ⟨33, (at' fun b => ({ b with rcd := { b.rcd with blkWait := [blk0] } } : Body).onEng 33 fun g =>
    { g with m := { g.m with closed := [(⟨IntSum.zero, 5, 100, 100, 0, 4, 0⟩ : Closed)] } }), (⟨IntSum.zero, 5, 100, 100, 0, 4,
    0⟩ : Closed), ([] : List Closed), blk0, by decide⟩

theorem witness_Increments_c4 :
    ∃ n : ChIx, ∃ s : State, ∃ c : Closed, ∃ rest : List Closed, (s.body.en n).m.closed = c :: rest ∧ (s.body.en n).m.ready =
      true ∧ s.body.linkUp? (dieOf n) = true ∧ c.epoch ≠ s.body.rd .twinDieEpoch (dieOf n) :=
  ⟨33, (at' fun b => b.onEng 33 fun g =>
    { g with m := { g.m with closed := [(⟨IntSum.zero, 5, 100, 100, 1, 4, 0⟩ : Closed)] } }), (⟨IntSum.zero, 5, 100, 100, 1, 4,
    0⟩ : Closed), ([] : List Closed), by decide⟩

theorem witness_Increments_c5 :
    ∃ n : ChIx, ∃ s : State, ((s.body.en n).m.ready = false ∨ s.body.linkUp? (dieOf n) = false) :=
  ⟨33, (at' fun b => b), by decide⟩

theorem witness_Checkpoints_c1 :
    ∃ s : State, s.body.hubDown = false ∧ s.body.mtr.lastSec ≠ some (secondOf s.time.count) ∧ s.body.allSent s.env (secondOf
      s.time.count) = true :=
  ⟨(at' fun b => b), by decide⟩

theorem witness_Checkpoints_c2 :
    ∃ s : State, s.body.hubDown = false ∧ s.body.mtr.lastSec ≠ some (secondOf s.time.count) ∧ s.body.allSent s.env (secondOf
      s.time.count) = false :=
  ⟨(tm 3000000000 3000000000 <| at' fun b => b.onEng 33 fun g =>
    { g with m := { g.m with closed := [⟨IntSum.zero, 5, 100, 100, 0, 4, 0⟩] } }), by decide⟩

theorem witness_Checkpoints_c3 :
    ∃ s : State, ∃ T : Nat, ∃ u, s.body.hubDown = false ∧ s.body.mtr.lastSec = some (secondOf s.time.count) ∧ T = s.time.elapsed
      + (secondOf s.time.count + 1000000000 - s.time.count) ∧ u = s.goTo T ∧ s.body.allSent u.env (secondOf u.time.count) = true :=
  ⟨(at' fun b => { b with die := Body.reset.die, mtr := { b.mtr with lastSec := some 0 } }), 1000000000,
    (({ State.reset with body := { live with die := Body.reset.die, mtr := { live.mtr with lastSec := some 0 } } } : State).goTo
    1000000000), by decide⟩

theorem witness_Checkpoints_c4 :
    ∃ s : State, ∃ i : Nat, s.body.hubDown = false ∧ s.body.mtr.pend = some i :=
  ⟨(at' fun b => { b with mtr := { b.mtr with pend := some 2 } }), 2, by decide⟩

theorem witness_Checkpoints_c5 :
    ∃ s : State, ∃ i : Nat, s.body.hubDown = false ∧ s.body.mtr.pend = some i :=
  ⟨(at' fun b => { b with mtr := { b.mtr with pend := some 2 } }), 2, by decide⟩

theorem witness_Checkpoints_c6 :
    ∃ s : State, s.body.hubDown = false ∧ s.body.mtr.pend = none :=
  ⟨(at' fun b => b), by decide⟩

/-! #### Reference -/

theorem witness_Reference_c1 :
    ∃ s : State, ∃ T : Nat, s.body.hubDown = false ∧ s.body.mtr.cellT = some T ∧ s.body.flag .metaRefstatWarmDone = false :=
  ⟨(at' fun b => { b with mtr := { b.mtr with cellT := some 7 } }), 7, by decide⟩

theorem witness_Reference_c2 :
    ∃ s : State, s.body.hubDown = false ∧ (s.body.mtr.cellT = none ∨ s.body.flag .metaRefstatWarmDone = true) :=
  ⟨(at' fun b => b), by decide⟩

theorem witness_Reference_c3 :
    ∃ s : State, ∃ T : Nat, s.body.hubDown = false ∧ s.body.heaterDue = some T :=
  ⟨(at' fun b => b), 600000000000, by decide⟩

theorem witness_Reference_c4 :
    ∃ s : State, s.body.hubDown = false ∧ s.body.heaterDue = none :=
  ⟨(at' fun b => b.wr .metaRefstatHeaterFault 0 1), by decide⟩

theorem witness_Reference_c5 :
    ∃ s : State, ∃ d : Nat, s.body.hubDown = false ∧ s.body.doze = false ∧ d = (if s.time.count % 10000000000 = 0 ∧
      s.body.mtr.refT ≠ some s.time.elapsed then 0 else 10000000000 - s.time.count % 10000000000) ∧ (s.body.mtr.refT = none ∨
      s.body.flag .metaRefstatValid = true) :=
  ⟨(tm 5 1005 <| at' fun b => b), 9999998995, by decide⟩

theorem witness_Reference_c6 :
    ∃ s : State, ∃ d : Nat, ∃ T : Nat, s.body.hubDown = false ∧ s.body.doze = false ∧ d = (if s.time.count % 10000000000 = 0 ∧
      s.body.mtr.refT ≠ some s.time.elapsed then 0 else 10000000000 - s.time.count % 10000000000) ∧ s.body.mtr.refT = some T ∧
      s.body.flag .metaRefstatValid = false ∧ s.time.elapsed + d < T + 10000000000 :=
  ⟨(tm 5 1005 <| at' fun b => { b with mtr := { b.mtr with refT := some 3 } }), 9999998995, 3, by decide⟩

theorem witness_Reference_c7 :
    ∃ s : State, s.body.hubDown = false ∧ s.body.doze = true :=
  ⟨(at' fun b => { b with doze := true }), by decide⟩

/-! #### CalibrationControl -/

theorem witness_CalibrationControl_c1 :
    ∃ v : Word, ∃ s : State, s.body.hubDown = false ∧ s.body.unlocked 6 = true ∧ s.body.modeOk (min 2 (bits v.toNat 1 0)) = true
      ∧ s.body.calNotReady = false :=
  ⟨0, (at' fun b => (b.wr .metaRefstatWarmDone 0 1).wr .metaStageBytes 8 700000000), by decide⟩

theorem witness_CalibrationControl_c2 :
    ∃ v : Word, ∃ s : State, s.body.hubDown = false ∧ s.body.unlocked 6 = true ∧ s.body.modeOk (min 2 (bits v.toNat 1 0)) =
      false :=
  ⟨1, (at' fun b => b), by decide⟩

theorem witness_CalibrationControl_c3 :
    ∃ v : Word, ∃ s : State, s.body.hubDown = false ∧ s.body.unlocked 6 = true ∧ s.body.modeOk (min 2 (bits v.toNat 1 0)) = true
      ∧ s.body.calNotReady = true :=
  ⟨0, (at' fun b => b), by decide⟩

theorem witness_CalibrationControl_c4 :
    ∃ v : Word, ∃ s : State, ∃ x, s.body.hubDown = false ∧ s.body.unlocked 6 = true ∧ s.body.mtr.sess = some x ∧ x.applyB = none :=
  ⟨0, (withSess (sess 2)), (sess 2), by decide⟩

theorem witness_CalibrationControl_c5 :
    ∃ v : Word, ∃ s : State, ∃ x, ∃ T : Nat, s.body.hubDown = false ∧ s.body.unlocked 6 = true ∧ s.body.mtr.sess = some x ∧
      x.applyB = some T :=
  ⟨0, (withSess { sess 6 with applyB := some 9 }), ({ sess 6 with applyB := some 9 }), 9, by decide⟩

theorem witness_CalibrationDue_c1 :
    ∃ s : State, s.body.hubDown = false :=
  ⟨(at' fun b => b), by decide⟩

/-! #### CalibrationRuns -/

theorem witness_CalibrationRuns_c1 :
    ∃ x : Sess, ∃ s : State, s.body.mtr.sess = some x ∧ s.body.hubDown = false ∧ x.applyB = none ∧ x.v1 = [] :=
  ⟨(sess 1), (withSess (sess 1)), by decide⟩

theorem witness_CalibrationRuns_c2 :
    ∃ x : Sess, ∃ s : State, s.body.mtr.sess = some x ∧ s.body.hubDown = false ∧ x.applyB = none ∧ 2 ≤ x.phase ∧ x.phase < 5 ∧
      x.slotsDone x.phase = true :=
  ⟨(sess 2), (withSess (sess 2)), by decide⟩

theorem witness_CalibrationRuns_c3 :
    ∃ x : Sess, ∃ s : State, ∃ n : Nat, ∃ kind : CalKind, ∃ m : SlotMeas, ∃ T : Nat, ∃ U : Nat, s.body.mtr.sess = some x ∧
      s.body.hubDown = false ∧ x.applyB = none ∧ x.together = false ∧ x.phase = 4 ∧ n < 128 ∧ kind ≠ .bus ∧ x.done (kindCode
      kind) n < x.slots ∧ T = (if sparseGet 0 x.slotAt (dieOf n) = 0 then s.time.elapsed else sparseGet 0 x.slotAt (dieOf n) - 1
      + 100000000) ∧ U = s.time.elapsed + (T - s.time.elapsed) ∧ (s.body.ch (s.body.leadOf n)).state ∉ [ChState.ramp, .limit,
      .held] ∧ m.agree = true :=
  ⟨(sess 4), (withSess (sess 4)), 33, CalKind.a, ⟨true, 5, 6⟩, 0, 0, by decide⟩

theorem witness_CalibrationRuns_c4 :
    ∃ x : Sess, ∃ s : State, ∃ n : Nat, ∃ kind : CalKind, ∃ m : SlotMeas, ∃ T : Nat, ∃ U : Nat, s.body.mtr.sess = some x ∧
      s.body.hubDown = false ∧ x.applyB = none ∧ x.together = false ∧ x.phase = 4 ∧ n < 128 ∧ kind ≠ .bus ∧ x.done (kindCode
      kind) n < x.slots ∧ T = (if sparseGet 0 x.slotAt (dieOf n) = 0 then s.time.elapsed else sparseGet 0 x.slotAt (dieOf n) - 1
      + 100000000) ∧ U = s.time.elapsed + (T - s.time.elapsed) ∧ (s.body.ch (s.body.leadOf n)).state ∉ [ChState.ramp, .limit,
      .held] ∧ m.agree = false ∧ x.relief.contains n = false :=
  ⟨(sess 4), (withSess (sess 4)), 33, CalKind.b, ⟨false, 5, 6⟩, 0, 0, by decide⟩

theorem witness_CalibrationRuns_c5 :
    ∃ x : Sess, ∃ s : State, ∃ n : Nat, ∃ kind : CalKind, ∃ m : SlotMeas, ∃ T : Nat, ∃ U : Nat, s.body.mtr.sess = some x ∧
      s.body.hubDown = false ∧ x.applyB = none ∧ x.together = false ∧ x.phase = 4 ∧ n < 128 ∧ kind ≠ .bus ∧ x.done (kindCode
      kind) n < x.slots ∧ T = (if sparseGet 0 x.slotAt (dieOf n) = 0 then s.time.elapsed else sparseGet 0 x.slotAt (dieOf n) - 1
      + 100000000) ∧ U = s.time.elapsed + (T - s.time.elapsed) ∧ (s.body.ch (s.body.leadOf n)).state ∉ [ChState.ramp, .limit,
      .held] ∧ m.agree = false ∧ x.relief.contains n = true :=
  ⟨({ sess 4 with relief := [33] }), (withSess { sess 4 with relief := [33] }), 33, CalKind.a, ⟨false, 5, 6⟩, 0, 0, by decide⟩

theorem witness_CalibrationRuns_c6 :
    ∃ x : Sess, ∃ s : State, ∃ n : Nat, ∃ kind : CalKind, ∃ m : SlotMeas, ∃ T : Nat, ∃ U : Nat, s.body.mtr.sess = some x ∧
      s.body.hubDown = false ∧ x.applyB = none ∧ x.together = false ∧ x.phase = 4 ∧ n < 128 ∧ kind ≠ .bus ∧ x.done (kindCode
      kind) n < x.slots ∧ T = (if sparseGet 0 x.slotAt (dieOf n) = 0 then s.time.elapsed else sparseGet 0 x.slotAt (dieOf n) - 1
      + 100000000) ∧ U = s.time.elapsed + (T - s.time.elapsed) ∧ (s.body.ch (s.body.leadOf n)).state ∈ [ChState.ramp, .limit,
      .held] ∧ (x.waits.any fun w => w.1 = n) = false :=
  ⟨(sess 4),
    ({ State.reset with body := ({ live with mtr := { live.mtr with sess := some (sess 4) } } : Body).onCh 33 fun c => { c with state := .ramp } }),
    33, CalKind.a, ⟨true, 5, 6⟩, 0, 0, by decide⟩

theorem witness_CalibrationRuns_c7 :
    ∃ x : Sess, ∃ s : State, ∃ k : DieIx, ∃ m : SlotMeas, s.body.mtr.sess = some x ∧ s.body.hubDown = false ∧ x.applyB = none ∧
      x.together = false ∧ x.phase = 3 ∧ x.done 3 k = 0 ∧ m.agree = true ∧ sparseGet 0 x.slotAt k = 0 :=
  ⟨(sess 3), (withSess (sess 3)), 2, ⟨true, 5, 6⟩, by decide⟩

theorem witness_CalibrationRuns_c8 :
    ∃ x : Sess, ∃ s : State, ∃ c : Nat, s.body.mtr.sess = some x ∧ s.body.hubDown = false ∧ x.phase = 5 ∧ s.body.overLimit x =
      some c :=
  ⟨({ sess 5 with words := [(132, 400000)] }), (withSess { sess 5 with words := [(132, 400000)] }), 0, by decide⟩

theorem witness_CalibrationRuns_c9 :
    ∃ x : Sess, ∃ s : State, s.body.mtr.sess = some x ∧ s.body.hubDown = false ∧ x.phase = 5 ∧ s.body.overLimit x = none ∧
      x.mode = 2 :=
  ⟨({ sess 5 with mode := 2 }), (withSess { sess 5 with mode := 2 }), by decide⟩

theorem witness_CalibrationRuns_c10 :
    ∃ x : Sess, ∃ s : State, ∃ t1, ∃ t2, s.body.mtr.sess = some x ∧ s.body.hubDown = false ∧ x.phase = 5 ∧ s.body.overLimit x =
      none ∧ x.mode ≠ 2 ∧ x.seqHigh + 1 ≠ 2 ^ 32 - 1 ∧ lastTry t1 t2 = .good :=
  ⟨(sess 5), (withSess (sess 5)), StoreTry.badCrc, StoreTry.good, by decide⟩

theorem witness_CalibrationRuns_c11 :
    ∃ x : Sess, ∃ s : State, ∃ t1, ∃ t2, s.body.mtr.sess = some x ∧ s.body.hubDown = false ∧ x.phase = 5 ∧ s.body.overLimit x =
      none ∧ x.mode ≠ 2 ∧ x.seqHigh + 1 ≠ 2 ^ 32 - 1 ∧ lastTry t1 t2 ≠ .good :=
  ⟨(sess 5), (withSess (sess 5)), (StoreTry.cut false), StoreTry.good, by decide⟩

theorem witness_CalibrationRuns_c12 :
    ∃ x : Sess, ∃ s : State, ∃ T : Nat, s.body.mtr.sess = some x ∧ s.body.hubDown = false ∧ x.applyB = some T ∧ x.target < 2 :=
  ⟨({ sess 6 with applyB := some 9 }), (withSess { sess 6 with applyB := some 9 }), 9, by decide⟩

/-! #### BenchMode -/

theorem witness_BenchMode_c1 :
    ∃ s : State, s.body.hubDown = false ∧ s.body.unlocked 6 = true ∧ s.body.benchBar s.env = 0 :=
  ⟨(mayBench <| at' fun b => b), by decide⟩

theorem witness_BenchMode_c2 :
    ∃ s : State, s.body.hubDown = false ∧ s.body.unlocked 6 = true ∧ s.body.benchBar s.env ≠ 0 :=
  ⟨(at' fun b => b), by decide⟩

theorem witness_BenchMode_c3 :
    ∃ s : State, s.body.hubDown = false ∧ s.body.unlocked 6 = true ∧ s.body.role = .bench :=
  ⟨(at' fun b => { b with role := .bench }), by decide⟩

theorem witness_BenchMode_c4 :
    ∃ s : State, s.body.hubDown = false ∧ s.body.unlocked 6 = true ∧ s.body.role = .bench :=
  ⟨(at' fun b => { b with role := .bench }), by decide⟩

theorem witness_BenchScans_c1 :
    ∃ k : DieIx, ∃ s : State, s.body.hubDown = false ∧ s.body.role = .bench ∧ s.body.flag .metaBenchstatReady = true ∧
      s.body.dieRuns k = true ∧ (s.body.points k).isEmpty = false ∧ (s.body.fe k).urg.run = none ∧ (s.body.fe k).urg.passLeft =
      0 ∧ (s.body.fe k).urg.waitCap = false ∧ (s.body.fe k).urg.waitBench = false ∧ (s.body.fe k).restEnd = none ∧
      s.body.health.lvl < 4 :=
  ⟨2, (at' fun b => ({ b with role := .bench } : Body).wr .metaBenchstatReady 0 1 |>.dwr 2 .feBpts0En 2 6), by decide⟩

theorem witness_BenchScans_c2 :
    ∃ k : DieIx, ∃ s : State, s.body.hubDown = false ∧ s.body.role = .bench ∧ s.body.flag .metaBenchstatReady = true ∧
      s.body.dieRuns k = true ∧ (s.body.points k).isEmpty = false ∧ (s.body.fe k).urg.run = none ∧ (s.body.fe k).urg.passLeft =
      0 ∧ (s.body.fe k).urg.waitCap = false ∧ (s.body.fe k).urg.waitBench = false ∧ (s.body.fe k).restEnd = none ∧
      s.body.health.lvl < 4 :=
  ⟨2, (at' fun b => ({ b with role := .bench } : Body).wr .metaBenchstatReady 0 1 |>.dwr 2 .feBpts0En 2 6), by decide⟩

theorem witness_BenchScans_c3 :
    ∃ k : DieIx, ∃ s : State, s.body.hubDown = false ∧ (s.body.fe k).urg.run = some .bench ∧ s.body.dieOff k = false :=
  ⟨2, (at' fun b => (({ b with role := .bench } : Body).dwr 2 .feBpts0En 2 6).onUrg 2 fun u => { u with run := some .bench }),
    by decide⟩

theorem witness_BenchScans_c4 :
    ∃ k : DieIx, ∃ s : State, ∃ T : Nat, s.body.hubDown = false ∧ (s.body.fe k).restEnd = some T ∧ (s.body.fe k).scanHeld = none :=
  ⟨2, (at' fun b => ({ b with role := .bench } : Body).onDie 2 fun d => { d with restEnd := some 9 }), 9, by decide⟩

theorem witness_BenchScans_c5 :
    ∃ k : DieIx, ∃ s : State, ∃ T : Nat, ∃ z, s.body.hubDown = false ∧ (s.body.fe k).restEnd = some T ∧ (s.body.fe k).scanHeld =
      some z ∧ (s.body.points k).isEmpty = false ∧ s.body.health.lvl < 4 ∧ (s.body.fe k).urg.run = none ∧ (s.body.fe
      k).urg.passLeft = 0 ∧ (s.body.fe k).urg.waitCap = false :=
  ⟨2, (at' fun b => ({ b with role := .bench } : Body).onDie 2 fun d => { d with restEnd := some 9, scanHeld := some true }), 9,
    true, by decide⟩

/-! #### Pulses -/

theorem witness_Pulses_c1 :
    ∃ e : Int, ∃ s : State, s.body.hubDown = false ∧ s.body.rd .tbPpscfgPpsEn ≠ 0 ∧ phaseErr (s.body.pulseTime (s.body.atEdge
      s.env)) = e ∧ (s.body.disc.lastPulse = none ∨ ∃ t, s.body.disc.lastPulse = some t ∧ t + 500000000 < (s.body.atEdge
      s.env).now) ∧ s.body.role ≠ .standby ∧ s.body.disc.arm = false ∧ (s.body.rd .tbStatState = 1 ∨ s.body.rd .tbStatState = 2
      ∨ s.body.rd .tbStatState = 3) ∧ s.body.slips e = false :=
  ⟨5, (tm 0 1000000005 <| at' fun b => ((b.wr .tbPpscfgPpsEn 0 1).wr .tbStatState 0 1).wr .tbDiscSlewWindow 0 100), by decide⟩

theorem witness_Pulses_c2 :
    ∃ e : Int, ∃ s : State, s.body.hubDown = false ∧ s.body.rd .tbPpscfgPpsEn ≠ 0 ∧ phaseErr (s.body.pulseTime (s.body.atEdge
      s.env)) = e ∧ (s.body.disc.lastPulse = none ∨ ∃ t, s.body.disc.lastPulse = some t ∧ t + 500000000 < (s.body.atEdge
      s.env).now) ∧ s.body.role ≠ .standby ∧ s.body.disc.arm = false ∧ s.body.rd .tbStatState = 0 :=
  ⟨5, (tm 0 1000000005 <| at' fun b => (b.wr .tbPpscfgPpsEn 0 1).wr .tbDiscSlewWindow 0 100), by decide⟩

theorem witness_Pulses_c3 :
    ∃ e : Int, ∃ s : State, s.body.hubDown = false ∧ s.body.rd .tbPpscfgPpsEn ≠ 0 ∧ phaseErr (s.body.pulseTime (s.body.atEdge
      s.env)) = e ∧ (s.body.disc.lastPulse = none ∨ ∃ t, s.body.disc.lastPulse = some t ∧ t + 500000000 < (s.body.atEdge
      s.env).now) ∧ s.body.role ≠ .standby ∧ s.body.disc.arm = false ∧ s.body.rd .tbStatState = 4 :=
  ⟨5, (tm 0 1000000005 <| at' fun b => ((b.wr .tbPpscfgPpsEn 0 1).wr .tbStatState 0 4).wr .tbDiscSlewWindow 0 100), by decide⟩

theorem witness_PulseTimes_c1 :
    ∃ T : Nat, ∃ s : State, s.body.hubDown = false ∧ s.body.role ≠ .standby ∧ s.body.rd .tbPpscfgPpsEn ≠ 0 ∧
      s.body.disc.lastPulse = some T ∧ (s.body.atEdge s.env).now ≤ T + 500000000 :=
  ⟨3, (tm 5 5 <| at' fun b => (b.wr .tbPpscfgPpsEn 0 1).onDisc fun d => { d with lastPulse := some 3 }), by decide⟩

theorem witness_PulseTimes_c2 :
    ∃ T : Nat, ∃ s : State, s.body.hubDown = false ∧ s.body.role ≠ .standby ∧ s.body.disc.lastPulse = some T :=
  ⟨3, (tm 5 5 <| at' fun b => (b.wr .tbPpscfgPpsEn 0 1).onDisc fun d => { d with lastPulse := some 3 }), by decide⟩

theorem witness_PulseTimes_c3 :
    ∃ T : Nat, ∃ s : State, s.body.hubDown = false ∧ s.body.role ≠ .standby ∧ s.body.disc.rateEnd = some T :=
  ⟨3, (at' fun b => b.onDisc fun d => { d with rateEnd := some 3 }), by decide⟩

/-! #### StepsOfTheCount -/

theorem witness_StepsOfTheCount_c1 :
    ∃ T : Nat, ∃ d : Int, ∃ cause : Nat, ∃ s : State, s.body.disc.step = some (T, .delta d, cause) :=
  ⟨50, (-7), 4, (tm 5 5000 <| at' fun b => b.onDisc fun d => { d with step := some (50, .delta (-7), 4) }), by decide⟩

theorem witness_ClockReturns_c1 :
    ∃ s : State, s.body.hubDown = false ∧ s.body.rd .tbStatState = 4 ∧ s.body.disc.fromFree = true :=
  ⟨(at' fun b => (b.wr .tbStatState 0 4).onDisc fun d => { d with fromFree := true }), by decide⟩

theorem witness_ClockReturns_c2 :
    ∃ s : State, s.body.hubDown = false ∧ s.body.rd .tbStatState = 4 ∧ s.body.disc.fromFree = false :=
  ⟨(at' fun b => b.wr .tbStatState 0 4), by decide⟩

/-! #### TimebaseCommands -/

theorem witness_TimebaseCommands_c1 :
    ∃ s : State, s.body.unlocked 7 = true ∧ s.body.hubDown = false ∧ s.body.disc.step = none :=
  ⟨(at' fun b => b), by decide⟩

theorem witness_TimebaseCommands_c2 :
    ∃ s : State, s.body.unlocked 7 = true ∧ s.body.hubDown = false ∧ s.body.disc.step = none :=
  ⟨(at' fun b => b), by decide⟩

theorem witness_TimebaseCommands_c3 :
    ∃ s : State, s.body.unlocked 7 = true ∧ s.body.hubDown = false ∧ s.body.disc.step = none :=
  ⟨(at' fun b => b), by decide⟩

theorem witness_TimebaseCommands_c4 :
    ∃ s : State, s.body.unlocked 7 = true ∧ s.body.hubDown = false :=
  ⟨(at' fun b => b), by decide⟩

theorem witness_TimebaseCommands_c5 :
    ∃ s : State, s.body.unlocked 7 = true ∧ s.body.hubDown = false ∧ s.body.disc.step ≠ none :=
  ⟨(at' fun b => b.onDisc fun d => { d with step := some (50, .delta (-7), 4) }), by decide⟩

theorem witness_TimebaseCommands_c6 :
    ∃ s : State, s.body.unlocked 7 = true ∧ s.body.hubDown = false ∧ s.body.disc.step ≠ none :=
  ⟨(at' fun b => b.onDisc fun d => { d with step := some (50, .delta (-7), 4) }), by decide⟩

theorem witness_TimebaseCommands_c7 :
    ∃ s : State, s.body.unlocked 7 = true ∧ s.body.hubDown = false ∧ s.body.disc.step ≠ none :=
  ⟨(at' fun b => b.onDisc fun d => { d with step := some (50, .delta (-7), 4) }), by decide⟩

/-! #### Timers -/

theorem witness_TimerTicks_c1 :
    ∃ s : State, s.body.hubDown = false ∧ s.body.tmr.resets = [] ∧ s.body.tmr.starts = [] :=
  ⟨(at' fun b => b), by decide⟩

theorem witness_TimerCaptures_c1 :
    ∃ i : Fin 256, ∃ rising : Bool, ∃ ago : Nat, ∃ s : State, ∃ p : Nat × Nat, ∃ T : Nat, s.body.hubDown = false ∧ s.body.flag
      .tmrCapcfgCen i = true ∧ s.body.srcExists i = true ∧ ((s.body.tmr.lint.find? fun q => q.1 = i.val) = none ∧ p = (i.val,
      s.time.elapsed - ago) ∧ s.body.edgeTaken i rising = true ∨ (s.body.tmr.lint.find? fun q => q.1 = i.val) = some p ∧
      s.body.edgeTaken i (decide (s.body.rd .tmrCapcfgEdge i ≠ 1)) = true ∧ p.2 ≤ s.time.elapsed) ∧ T = p.2 + s.body.lintNs i ∧
      s.body.rd .tmrCapcfgPresc i ≤ sparseGet 0 s.body.tmr.edges i :=
  ⟨9, true, 0, (at' fun b => (b.wr .tmrCapcfgSrc 9 0x20).wr .tmrCapcfgCen 9 1), (9, 0), 0, by decide⟩

theorem witness_TimerCaptures_c2 :
    ∃ i : Fin 256, ∃ rising : Bool, ∃ ago : Nat, ∃ s : State, ∃ p : Nat × Nat, ∃ T : Nat, s.body.hubDown = false ∧ s.body.flag
      .tmrCapcfgCen i = true ∧ s.body.srcExists i = true ∧ ((s.body.tmr.lint.find? fun q => q.1 = i.val) = none ∧ p = (i.val,
      s.time.elapsed - ago) ∧ s.body.edgeTaken i rising = true ∨ (s.body.tmr.lint.find? fun q => q.1 = i.val) = some p ∧
      s.body.edgeTaken i (decide (s.body.rd .tmrCapcfgEdge i ≠ 1)) = true ∧ p.2 ≤ s.time.elapsed) ∧ T = p.2 + s.body.lintNs i ∧
      sparseGet 0 s.body.tmr.edges i < s.body.rd .tmrCapcfgPresc i :=
  ⟨9, true, 0, (at' fun b => ((b.wr .tmrCapcfgSrc 9 0x20).wr .tmrCapcfgCen 9 1).wr .tmrCapcfgPresc 9 3), (9, 0), 0, by decide⟩

/-! #### GroupReleaseAndFans -/

theorem witness_GroupRelease_c1 :
    ∃ s : State, s.body.hubDown = false ∧ s.body.rd .tbRelctlBusy = 0 ∧ s.body.relSelected.isEmpty = false :=
  ⟨(at' fun b => b.wr .tbRselSel 1 5), by decide⟩

theorem witness_GroupRelease_c2 :
    ∃ s : State, s.body.hubDown = false ∧ s.body.rd .tbRelctlBusy = 0 ∧ s.body.relSelected.isEmpty = true :=
  ⟨(at' fun b => b), by decide⟩

theorem witness_GroupRelease_c3 :
    ∃ s : State, ∃ j : Nat, ∃ i : Nat, ∃ rest : List (Nat × Nat), s.body.hubDown = false ∧ s.body.tmr.rel = (j, i) :: rest ∧
      s.body.rd .tbRelctlBusy = 1 ∧ s.body.tmr.relWait = false :=
  ⟨(at' fun b => ({ b with tmr := { b.tmr with rel := [(9, 2)] } } : Body).wr .tbRelctlBusy 0 1), 9, 2, ([] : List (Nat × Nat)),
    by decide⟩

theorem witness_Fans_c1 :
    ∃ k : Fin 8, ∃ s : State, s.body.hubDown = false :=
  ⟨3, (at' fun b => b), by decide⟩

theorem witness_Fans_c2 :
    ∃ k : Fin 8, ∃ s : State, s.body.hubDown = false ∧ s.body.flag .fanCfgTachEn k = true ∧ s.body.flag .fanStatStall k = false :=
  ⟨3, (at' fun b => b.wr .fanCfgTachEn 3 1), by decide⟩

/-! #### TrendAndLedger -/

theorem witness_Trend_c1 :
    ∃ s : State, s.body.drives = true ∧ s.body.hubDown = false ∧ s.body.flag .recStatBasketDown = false ∧ s.body.doze = false ∧
      s.body.rcd.dropFrom = none ∧ s.body.trendUnits + (s.body.blockWords.length + 2) + (s.body.ledgerUnits - ledgerPart) ≤
      trendPart :=
  ⟨(at' fun b => b), by decide⟩

theorem witness_Trend_c2 :
    ∃ s : State, ∃ d : Nat, s.body.drives = true ∧ s.body.hubDown = false ∧ s.body.flag .recStatBasketDown = false ∧ stripeUnits
      ≤ s.body.rcd.trend.length ∧ s.body.writesGo = true ∧ s.body.nextDev = some d :=
  ⟨(at' fun b => ({ b with rcd := { b.rcd with trend := List.replicate stripeUnits 0 } } : Body).wr .recDevstatState 0 4), 0,
    ⟨by decide, by decide, by decide, (List.length_replicate (n := stripeUnits) (a := 0)).ge, by decide, by decide⟩⟩

theorem witness_Blocks_c1 :
    ∃ s : State, ∃ T : Nat, s.body.builds = true ∧ s.time.count % 1000000000 ≠ 0 ∧ T = s.time.elapsed + (1000000000 -
      s.time.count % 1000000000) ∧ s.body.rcd.blkWait = [] ∧ s.body.rcd.ckptDue = none ∧ s.body.sumsTo T = true :=
  ⟨(tm 5 1005 <| at' fun b => { b with doze := true }), 999999000, by decide⟩

theorem witness_Blocks_c2 :
    ∃ s : State, ∃ T : Nat, s.body.builds = true ∧ s.time.count % 1000000000 ≠ 0 ∧ T = s.time.elapsed + (1000000000 -
      s.time.count % 1000000000) ∧ s.body.rcd.blkWait = [] ∧ (s.body.sumsTo T = false ∨ s.body.rcd.ckptDue ≠ none) :=
  ⟨(tm 5 1005 <| at' fun b => b), 999999000, by decide⟩

theorem witness_Blocks_c3 :
    ∃ s : State, s.body.builds = false :=
  ⟨(at' fun b => { b with role := .standby }), by decide⟩

theorem witness_Blocks_c4 :
    ∃ s : State, ∃ off, s.body.hubDown = false ∧ s.body.rcd.ckptDue = some off ∧ s.body.rcd.blkWait = [] ∧ s.body.rcd.ahead = [] :=
  ⟨(at' fun b => { b with rcd := { b.rcd with ckptDue := some true } }), true, by decide⟩

theorem witness_Blocks_c5 :
    ∃ s : State, s.body.rcd.ckptDue = none :=
  ⟨(at' fun b => b), by decide⟩

/-! #### DeviceWork -/

theorem witness_DeviceWrites_c1 :
    ∃ s : State, s.body.writesGo = true ∧ s.body.role ≠ .standby ∧ 0 < s.body.streamUnits ∧ s.body.targets.isEmpty = false ∧
      s.body.rcd.ready = true ∧ (∀ d ∈ s.body.targets, (s.body.dev d).room 1 = true) :=
  ⟨(at' fun b => ({ b with rcd := { b.rcd with stream := [⟨[0]⟩], ready := true } } : Body).wr .recDevstatState 0 4), by decide⟩

theorem witness_DeviceWrites_c2 :
    ∃ s : State, ∃ i : Nat, ∃ d : Nat, s.body.writesGo = true ∧ s.body.rcd.caps.findIdx? Cap.whole = some i ∧ s.body.drives =
      true ∧ s.body.flag .recStatBasketDown = false ∧ s.body.poolDev = some d :=
  ⟨(at' fun b => ({ b with rcd := { b.rcd with caps := [{ cap0 with ended := true }] } } : Body).wr .recDevstatState 0 4), 0, 0,
    by decide⟩

theorem witness_DeviceWrites_c3 :
    ∃ s : State, s.body.writesGo = true :=
  ⟨(at' fun b => b), by decide⟩

theorem witness_DeviceCommands_c1 :
    ∃ d : Fin 2, ∃ s : State, s.body.hubDown = false ∧ (s.body.dev d).cmds ≠ [] ∧ (∀ x ∈ (s.body.dev d).cmds, x.parked = false)
      ∧ dropCopies (s.body.dev d).cmds = (s.body.dev d).cmds :=
  ⟨0, (at' fun b => b.onDev 0 fun d => { d with cmds := [cmd0] }), by decide⟩

theorem witness_DeviceCommands_c2 :
    ∃ d : Fin 2, ∃ s : State, ∃ c, s.body.hubDown = false ∧ (s.body.dev d).cmds = [c] ∧ c.parked = false ∧ c.again = false ∧
      (s.body.dev d).errs = [] ∧ s.body.devSt d ≠ 8 :=
  ⟨0, (at' fun b => b.onDev 0 fun d => { d with cmds := [cmd0] }), cmd0, by decide⟩

theorem witness_DeviceCommands_c3 :
    ∃ d : Fin 2, ∃ s : State, ∃ c, ∃ rest : List DevCmd, s.body.hubDown = false ∧ (s.body.dev d).cmds = c :: rest ∧ (∀ x ∈ c ::
      rest, x.parked = false ∧ c.t ≤ x.t) :=
  ⟨0, (at' fun b => b.onDev 0 fun d => { d with cmds := [cmd0] }), cmd0, ([] : List DevCmd), by decide⟩

theorem witness_DeviceCommands_c4 :
    ∃ d : Fin 2, ∃ s : State, ∃ T : Nat, s.body.hubDown = false ∧ s.body.smartReads d = true ∧ T = (s.body.dev d).smartT :=
  ⟨0, (at' fun b => (b.onDev 0 fun d => { d with cmds := [cmd0] }).wr .recDevstatState 0 4), 0, by decide⟩

theorem witness_DeviceCommands_c5 :
    ∃ d : Fin 2, ∃ s : State, s.body.hubDown = false ∧ s.body.smartReads d = false :=
  ⟨0, (at' fun b => b), by decide⟩

/-! #### Devices -/

theorem witness_Devices_c1 :
    ∃ d : Fin 2, ∃ s : State, ∃ j, ∃ T : Nat, s.body.hubDown = false ∧ s.body.devSt d = 0 ∧ T = (if d.val = 0 then
      s.body.rcd.perst.1 else s.body.rcd.perst.2) ∧ devRefuse j ≠ 0 :=
  ⟨0, (at' fun b => b), ({ dev 7 with fmt4k := false }), 100000000, by decide⟩

theorem witness_Devices_c2 :
    ∃ d : Fin 2, ∃ s : State, ∃ j, ∃ T : Nat, s.body.hubDown = false ∧ s.body.devSt d = 0 ∧ T = (if d.val = 0 then
      s.body.rcd.perst.1 else s.body.rcd.perst.2) ∧ devRefuse j = 0 ∧ s.body.rcd.ready = false :=
  ⟨0, (at' fun b => b), (dev 7), 100000000, by decide⟩

theorem witness_Devices_c3 :
    ∃ d : Fin 2, ∃ s : State, ∃ j, ∃ T : Nat, s.body.hubDown = false ∧ s.body.devSt d = 0 ∧ T = (if d.val = 0 then
      s.body.rcd.perst.1 else s.body.rcd.perst.2) ∧ devRefuse j = 0 ∧ s.body.rcd.ready = true ∧ j.label ≠ 0 ∧ j.label ≠
      s.body.rd .recLedgerIdId :=
  ⟨0, (at' fun b => ({ b with rcd := { b.rcd with ready := true } } : Body)), (dev 7), 100000000, by decide⟩

theorem witness_Devices_c4 :
    ∃ d : Fin 2, ∃ s : State, ∃ j, ∃ T : Nat, s.body.hubDown = false ∧ s.body.devSt d = 0 ∧ T = (if d.val = 0 then
      s.body.rcd.perst.1 else s.body.rcd.perst.2) ∧ devRefuse j = 0 ∧ s.body.rcd.ready = true ∧ j.label = 0 ∧ s.body.flag
      .recCtrlAutoPrepare = false :=
  ⟨0, (at' fun b => ({ b with rcd := { b.rcd with ready := true } } : Body)), (dev 0), 100000000, by decide⟩

theorem witness_Devices_c5 :
    ∃ d : Fin 2, ∃ s : State, ∃ j, ∃ T : Nat, s.body.hubDown = false ∧ s.body.devSt d = 0 ∧ T = (if d.val = 0 then
      s.body.rcd.perst.1 else s.body.rcd.perst.2) ∧ devRefuse j = 0 ∧ s.body.rcd.ready = true ∧ j.label ≠ 0 ∧ j.label =
      s.body.rd .recLedgerIdId ∧ s.body.devOn (1 - d) = false :=
  ⟨0, (at' fun b => ({ b with rcd := { b.rcd with ready := true } } : Body).wr .recLedgerIdId 0 7), (dev 7), 100000000,
    by decide⟩

theorem witness_Devices_c6 :
    ∃ d : Fin 2, ∃ s : State, s.body.hubDown = false ∧ s.body.devSt d ≠ 0 :=
  ⟨0, (at' fun b => b.wr .recDevstatState 0 4), by decide⟩

theorem witness_Devices_c7 :
    ∃ d : Fin 2, ∃ s : State, s.body.hubDown = false ∧ (s.body.devSt d = 4 ∨ s.body.devSt d = 5) :=
  ⟨0, (at' fun b => b.wr .recDevstatState 0 5), by decide⟩

theorem witness_Devices_c8 :
    ∃ d : Fin 2, ∃ s : State, s.body.hubDown = false ∧ (s.body.devSt d = 2 ∨ s.body.devSt d = 3) ∧ s.body.unlocked 8 = true ∧
      s.body.writesGo = true :=
  ⟨0, (at' fun b => b.wr .recDevstatState 0 2), by decide⟩

theorem witness_Devices_c9 :
    ∃ d : Fin 2, ∃ s : State, s.body.hubDown = false ∧ (s.body.devSt d = 2 ∨ s.body.devSt d = 3) ∧ s.body.unlocked 8 = true ∧
      s.body.writesGo = false :=
  ⟨0, (at' fun b => (b.wr .recDevstatState 0 2).wr .healthStatBrace 0 1), by decide⟩

theorem witness_Devices_c10 :
    ∃ d : Fin 2, ∃ s : State, s.body.hubDown = false ∧ s.body.devSt d = 5 :=
  ⟨0, (at' fun b => (b.wr .recDevstatState 0 5).wr .recDevstatState 1 4), by decide⟩

theorem witness_Devices_c11 :
    ∃ d : Fin 2, ∃ s : State, s.body.hubDown = false ∧ s.body.resilvers d = true :=
  ⟨0, (at' fun b => (b.wr .recDevstatState 0 5).wr .recDevstatState 1 4), by decide⟩

theorem witness_ReadWindow_c1 :
    ∃ s : State, s.body.hubDown = false ∧ s.body.flag .recRdctlBusy = false :=
  ⟨(at' fun b => b), by decide⟩

theorem witness_ReadWindow_c2 :
    ∃ s : State, s.body.hubDown = false ∧ s.body.flag .recRdctlBusy = true :=
  ⟨(at' fun b => b.wr .recRdctlBusy 0 1), by decide⟩

theorem witness_ReadWindow_c3 :
    ∃ s : State, ∃ data : List Word, s.body.hubDown = false ∧ s.body.flag .recRdctlBusy = false :=
  ⟨(at' fun b => b), [], by decide⟩

theorem witness_ReadWindow_c4 :
    ∃ s : State, ∃ ok, ∃ data : List Word, s.body.hubDown = false ∧ s.body.flag .recRdctlBusy = true ∧ (s.body.readFails = true
      ∨ ok = false) :=
  ⟨(at' fun b => b.wr .recRdctlBusy 0 1), false, [], by decide⟩

theorem witness_ReadWindow_c5 :
    ∃ s : State, ∃ ok, ∃ data : List Word, s.body.hubDown = false ∧ s.body.flag .recRdctlBusy = true ∧ s.body.readFails = false
      ∧ ok = true :=
  ⟨(at' fun b => (b.wr .recRdctlBusy 0 1).wr .recRdctlSrc 0 2), true, [5], by decide⟩

theorem witness_RecorderStarts_c1 :
    ∃ s : State, s.body.hubDown = false ∧ s.body.rcd.ready = false ∧ s.body.role ≠ .starting ∧ s.body.rcd.ahead = [] ∧
      newestCkpt (fun _ => true) s.body.mtr.ckpts = none :=
  ⟨(at' fun b => b), by decide⟩

set_option maxRecDepth 100000 in
theorem witness_RecorderStarts_c2 :
    ∃ s : State, ∃ c : Ckpt, s.body.hubDown = false ∧ s.body.rcd.ready = false ∧ s.body.role ≠ .starting ∧ s.body.rcd.ahead = []
      ∧ newestCkpt (fun _ => true) s.body.mtr.ckpts = some c :=
  ⟨(at' fun b => { b with mtr := { b.mtr with ckpts := [⟨true, 5, [], 9, 4, [], 3, 2772726891⟩] } }), (⟨true, 5, [], 9, 4, [],
    3, 2772726891⟩ : Ckpt), ⟨by decide, by decide, by decide, by decide, by decide +kernel⟩⟩

theorem witness_RecorderStarts_c3 :
    ∃ s : State, ∃ f : LedgerFound, s.body.hubDown = false ∧ s.body.rcd.ready = false ∧ s.body.role ≠ .starting ∧
      s.body.rcd.ahead = [] ∧ newestCkpt (fun c => c.ledger = f.id) s.body.mtr.ckpts = none :=
  ⟨(at' fun b => b), (found0 : LedgerFound), by decide⟩

set_option maxRecDepth 100000 in
theorem witness_RecorderStarts_c4 :
    ∃ s : State, ∃ f : LedgerFound, ∃ c : Ckpt, s.body.hubDown = false ∧ s.body.rcd.ready = false ∧ s.body.role ≠ .starting ∧
      s.body.rcd.ahead = [] ∧ newestCkpt (fun c => c.ledger = f.id) s.body.mtr.ckpts = some c :=
  ⟨(at' fun b => { b with mtr := { b.mtr with ckpts := [⟨true, 5, [], 9, 4, [], 3, 2772726891⟩] } }), (found0 : LedgerFound),
    (⟨true, 5, [], 9, 4, [], 3, 2772726891⟩ : Ckpt), ⟨by decide, by decide, by decide, by decide, by decide +kernel⟩⟩

theorem witness_RecorderStarts_c5 :
    ∃ s : State, s.body.hubDown = false ∧ s.body.rcd.ready = true :=
  ⟨(at' fun b => { b with rcd := { b.rcd with ready := true } }), by decide⟩

theorem witness_RecorderStarts_c6 :
    ∃ s : State, s.body.hubDown = false ∧ s.body.flag .recStatBasketDown = true :=
  ⟨(at' fun b => b.wr .recStatBasketDown 0 1), by decide⟩

/-! #### Health -/

theorem witness_Temperatures_c1 :
    ∃ ts : List Nat, ∃ cell : Int, ∃ s : State, s.body.hubDown = false ∧ s.body.fastRead = false :=
  ⟨(List.replicate 11 1200), 0, (at' fun b => b.wr .healthTcfgWarn 0 2240), by decide⟩

theorem witness_Temperatures_c2 :
    ∃ ts : List Nat, ∃ cell : Int, ∃ s : State, s.body.hubDown = false ∧ cell.natAbs ≤ 100 :=
  ⟨(List.replicate 11 1200), 50, (at' fun b => b.wr .healthTcfgWarn 0 2240), by decide⟩

theorem witness_Temperatures_c3 :
    ∃ ts : List Nat, ∃ cell : Int, ∃ s : State, s.body.hubDown = false ∧ 100 < cell.natAbs :=
  ⟨(List.replicate 11 1200), 200, (at' fun b => b.wr .healthTcfgWarn 0 2240), by decide⟩

theorem witness_Temperatures_c4 :
    ∃ ts : List Nat, ∃ cell : Int, ∃ s : State, s.body.hubDown = false ∧ s.body.fastRead = true :=
  ⟨(List.replicate 11 2900), 0, (at' fun b => (({ b with health := { b.health with lvl := 1 } } : Body).wr .healthTempT 3
    2900).wr .healthTcfgWarn 0 2240), by decide⟩

theorem witness_Aux12_c1 :
    ∃ s : State, s.body.hubDown = false ∧ s.body.flag .healthStatBrace = false :=
  ⟨(at' fun b => b), by decide⟩

theorem witness_Aux12_c2 :
    ∃ s : State, s.body.hubDown = false ∧ s.body.flag .healthStatBrace = false :=
  ⟨(at' fun b => b), by decide⟩

theorem witness_Aux12_c3 :
    ∃ s : State, s.body.hubDown = false ∧ s.body.flag .healthStatBrace = true :=
  ⟨(at' fun b => b.wr .healthStatBrace 0 1), by decide⟩

theorem witness_Aux12_c4 :
    ∃ s : State, ∃ T : Nat, s.body.hubDown = false ∧ s.body.health.riseT = some T :=
  ⟨(at' fun b => (b.wr .healthStatBrace 0 1).onHealth fun h => { h with riseT := some 9 }), 9, by decide⟩

theorem witness_Aux12_c5 :
    ∃ s : State, s.body.hubDown = false :=
  ⟨(at' fun b => b), by decide⟩

theorem witness_Aux12_c6 :
    ∃ s : State, s.body.hubDown = false :=
  ⟨(at' fun b => b), by decide⟩

theorem witness_Watchdogs_c1 :
    ∃ s : State, s.body.hubDown = false ∧ s.body.doze = false ∧ s.body.cycles = true :=
  ⟨(at' fun b => b), by decide⟩

theorem witness_Watchdogs_c2 :
    ∃ s : State, ∃ k : DieIx, s.body.hubDown = false :=
  ⟨(at' fun b => b), 2, by decide⟩

theorem witness_Watchdogs_c3 :
    ∃ s : State, ∃ k : DieIx, s.body.hubDown = true :=
  ⟨(at' fun b => { b with hubDown := true }), 2, by decide⟩

theorem witness_Watchdogs_c4 :
    ∃ s : State, s.body.hubDown = false ∧ s.body.health.auxOff = false :=
  ⟨(at' fun b => b), by decide⟩

/-! #### DieResets -/

theorem witness_DieResets_c1 :
    ∃ k : DieIx, ∃ s : State, ∃ i : Instr, s.body.hubDown = false ∧ (i = Instr.dieReset k ∨ i = .clockFail (.fe k)) :=
  ⟨2, (at' fun b => b), (Instr.dieReset 2), by decide⟩

theorem witness_DieResets_c2 :
    ∃ k : DieIx, ∃ s : State, s.body.hubDown = false ∧ (s.body.fe k).joined = false ∧ s.body.health.auxOff = false :=
  ⟨2, State.reset, by decide⟩

theorem witness_DieResets_c3 :
    ∃ k : DieIx, ∃ s : State, ∃ T : Nat, s.body.hubDown = false ∧ (s.body.fe k).resetT = some T ∧ (s.body.fe k).stuckT = none :=
  ⟨2, (at' fun b => b.onDie 2 fun d => { d with joined := false, resetT := some 9 }), 9, by decide⟩

theorem witness_DieResets_c4 :
    ∃ k : DieIx, ∃ s : State, ∃ T : Nat, ∃ U : Nat, s.body.hubDown = false ∧ (s.body.fe k).resetT = some T ∧ (s.body.fe
      k).stuckT = some U ∧ s.body.drives = true :=
  ⟨2, (at' fun b => b.onDie 2 fun d => { d with joined := false, resetT := some 9, stuckT := some 20 }), 9, 20, by decide⟩

theorem witness_GateKeep_c1 :
    ∃ k : DieIx, ∃ s : State, s.body.paired = true ∧ (s.body.fe k).keep = false :=
  ⟨2, (at' fun b => (({ b with role := .active } : Body).wr .twinStatPartnerReady 0 1).wr .twinStatHbOk 0 1), by decide⟩

theorem witness_GateKeep_c2 :
    ∃ k : DieIx, ∃ s : State, ∃ T : Nat, (s.body.fe k).keepEnd = some T ∧ (s.body.fe k).keep = true :=
  ⟨2, (at' fun b => b.onDie 2 fun d => { d with keep := true, keepEnd := some 9 }), 9, by decide⟩

/-! #### ClocksAndHub -/

theorem witness_ClockFailures_c1 :
    ∃ s : State, s.body.hubDown = false :=
  ⟨(at' fun b => b), by decide⟩

theorem witness_ClockFailures_c2 :
    ∃ s : State, s.body.hubDown = false :=
  ⟨(at' fun b => b), by decide⟩

theorem witness_ClockFailures_c3 :
    ∃ s : State, s.body.hubDown = false :=
  ⟨(at' fun b => b), by decide⟩

theorem witness_HubRestarts_c1 :
    ∃ s : State, s.body.hubDown = false :=
  ⟨(at' fun b => b), by decide⟩

theorem witness_HubRestarts_c2 :
    ∃ s : State, s.body.hubDown = true :=
  ⟨(at' fun b => { b with hubDown := true }), by decide⟩

theorem witness_HubRestarts_c3 :
    ∃ s : State, s.body.hubDown = true ∧ s.body.health.auxOff = false :=
  ⟨(at' fun b => { b with hubDown := true }), by decide⟩

theorem witness_HubRestarts_c4 :
    ∃ s : State, s.body.hubDown = true ∧ s.body.health.auxOff = false ∧ (s.body.role = .active ∨ s.body.role = .standby ∨
      s.body.role = .starting) :=
  ⟨(at' fun b => { b with hubDown := true, role := .active }), by decide⟩

theorem witness_HubRestarts_c5 :
    ∃ s : State, s.body.hubDown = true ∧ s.body.health.auxOff = false ∧ s.body.role = .solo :=
  ⟨(at' fun b => { b with hubDown := true }), by decide⟩

/-! #### Doze -/

theorem witness_Doze_c1 :
    ∃ s : State, s.body.hubDown = false ∧ s.body.doze = false ∧ s.body.dozeOk = true :=
  ⟨(at' fun b => b), by decide⟩

theorem witness_Doze_c2 :
    ∃ s : State, s.body.hubDown = false ∧ s.body.doze = false ∧ s.body.dozeOk = false :=
  ⟨(at' fun b => b.onCh 33 fun c => { c with state := .on }), by decide⟩

theorem witness_Doze_c3 :
    ∃ s : State, s.body.hubDown = false ∧ s.body.dozeReq ≠ none ∧ s.body.dozeOk = true :=
  ⟨(at' fun b => { b with dozeReq := some 5 }), by decide⟩

theorem witness_Doze_c4 :
    ∃ s : State, ∃ k : DieIx, s.body.hubDown = false ∧ s.body.doze = true ∧ s.body.dieOff k = false :=
  ⟨(at' fun b => { b with doze := true }), 2, by decide⟩

theorem witness_Doze_c5 :
    ∃ s : State, ∃ w : WakeEv, s.body.hubDown = false ∧ (∀ n : ChIx, w ≠ .seat n) ∧ s.body.doze = true :=
  ⟨(at' fun b => { b with doze := true }), WakeEv.acfail, by decide⟩

theorem witness_Doze_c6 :
    ∃ s : State, ∃ n : ChIx, s.body.hubDown = false ∧ s.body.doze = true ∧ (s.body.ch n).seatRaw = false :=
  ⟨(at' fun b => { b with doze := true }), 33, by decide⟩

/-! #### FeederReads -/

theorem witness_FeederReads_c1 :
    ∃ f : Fin 12, ∃ s : State, s.body.fpRuns = true ∧ s.body.fdSt f = 1 ∧ (s.body.fd f).known = false ∧ (s.body.fd f).tries < 2 :=
  ⟨4, (at' fun b => b.wr .fdrStateState 4 1), by decide⟩

theorem witness_FeederReads_c2 :
    ∃ f : Fin 12, ∃ s : State, s.body.fpRuns = true ∧ s.body.fdSt f = 1 ∧ (s.body.fd f).known = false ∧ (s.body.fd f).tries = 2 :=
  ⟨4, (at' fun b => (b.wr .fdrStateState 4 1).onFd 4 fun x => { x with tries := 2 }), by decide⟩

theorem witness_FeederReads_c3 :
    ∃ f : Fin 12, ∃ s : State, ∃ mode : Nat, s.body.fpRuns = true ∧ s.body.fdSt f = 1 ∧ (s.body.fd f).known = false ∧ bits mode
      7 5 ≠ 0 :=
  ⟨4, (at' fun b => b.wr .fdrStateState 4 1), 0x40, by decide⟩

theorem witness_FeederReads_c4 :
    ∃ f : Fin 12, ∃ s : State, ∃ mode : Nat, s.body.fpRuns = true ∧ s.body.fdSt f = 1 ∧ (s.body.fd f).known = false ∧ bits mode
      7 5 = 0 :=
  ⟨4, (at' fun b => b.wr .fdrStateState 4 1), 0x17, by decide⟩

theorem witness_FeederReads_c5 :
    ∃ f : Fin 12, ∃ s : State, s.body.fdReads f = true :=
  ⟨4, (at' fun b => (b.wr .fdrStateState 4 2).onFd 4 fun x => { x with known := true }), by decide⟩

theorem witness_FeederReads_c6 :
    ∃ f : Fin 12, ∃ s : State, s.body.fdReads f = true :=
  ⟨4, (at' fun b => (b.wr .fdrStateState 4 2).onFd 4 fun x => { x with known := true }), by decide⟩

theorem witness_FeederReads_c7 :
    ∃ f : Fin 12, ∃ s : State, s.body.fpRuns = true ∧ s.body.doze = false ∧ s.body.fdSt f = 2 :=
  ⟨4, (at' fun b => b.wr .fdrStateState 4 2), by decide⟩

theorem witness_FeederReads_c8 :
    ∃ f : Fin 12, ∃ s : State, ∃ u : Fin 2, s.body.fpRuns = true ∧ s.body.doze = false ∧ s.body.rd .bbuCfgAddr u ≠ 0 :=
  ⟨4, (at' fun b => (b.wr .fdrStateState 4 2).wr .bbuCfgAddr 1 0x30), 1, by decide⟩

theorem witness_FeederReads_c9 :
    ∃ f : Fin 12, ∃ s : State, s.body.fdSt f = 3 ∧ s.body.hubDown = false :=
  ⟨4, (at' fun b => b.wr .fdrStateState 4 3), by decide⟩

/-! #### FeederWrites -/

theorem witness_FeederWrites_c1 :
    ∃ f : Fin 12, ∃ s : State, s.body.fpRuns = true ∧ s.body.doze = false ∧ s.body.fdSt f = 2 :=
  ⟨4, (at' fun b => b.wr .fdrStateState 4 2), by decide⟩

theorem witness_FeederWrites_c2 :
    ∃ f : Fin 12, ∃ s : State, ∃ k : FpKind, s.body.fpRuns = true ∧ s.body.fdr.losses < s.body.rd .feederFpcfgRetries :=
  ⟨4, (at' fun b => b.wr .feederFpcfgRetries 0 3), .status, by decide⟩

theorem witness_FeederWrites_c3 :
    ∃ f : Fin 12, ∃ s : State, s.body.fpRuns = true ∧ s.body.rd .feederFpcfgRetries ≤ s.body.fdr.losses :=
  ⟨4, (at' fun b => b.wr .feederFpcfgRetries 0 0), by decide⟩

theorem witness_FeederWrites_c4 :
    ∃ f : Fin 12, ∃ s : State, ∃ k : FpKind, s.body.fpRuns = true ∧ k ≠ .write ∧ s.body.fdr.losses < s.body.rd
      .feederFpcfgRetries :=
  ⟨4, (at' fun b => b.wr .feederFpcfgRetries 0 3), .read, by decide⟩

theorem witness_FeederWrites_c5 :
    ∃ f : Fin 12, ∃ s : State, ∃ v, s.body.fpRuns = true ∧ v % 2 ^ 16 = s.body.stepCode s.env f :=
  ⟨4, (at' fun b => b.wr .fdrStateState 4 2), ((at' fun b => b.wr .fdrStateState 4 2).body.stepCode State.reset.env 4),
    by decide⟩

theorem witness_FeederWrites_c6 :
    ∃ f : Fin 12, ∃ s : State, s.body.fpRuns = true :=
  ⟨4, (at' fun b => b), by decide⟩

theorem witness_FeederWrites_c7 :
    ∃ f : Fin 12, ∃ s : State, s.body.fpRuns = true :=
  ⟨4, (at' fun b => b), by decide⟩

theorem witness_FeederWrites_c8 :
    ∃ f : Fin 12, ∃ s : State, s.body.fpRuns = true :=
  ⟨4, (at' fun b => b), by decide⟩

theorem witness_FeederWrites_c9 :
    ∃ f : Fin 12, ∃ s : State, s.body.fpRuns = true :=
  ⟨4, (at' fun b => b), by decide⟩

theorem witness_BalancingAndPins_c1 :
    ∃ s : State, s.body.flag .feederBalBalEn = true ∧ s.body.balSusp = false ∧ s.body.fpRuns = true ∧ s.body.doze = false :=
  ⟨(at' fun b => b.wr .feederBalBalEn 0 1), by decide⟩

theorem witness_BalancingAndPins_c2 :
    ∃ s : State, ∃ u : Fin 2, ∃ c : Fin 4, (s.body.bbuDrives = false ∨ s.body.rd .bbuStatDriven u = c) :=
  ⟨(at' fun b => b.wr .bbuStatDriven 1 2), 1, 2, by decide⟩

theorem witness_BalancingAndPins_c3 :
    ∃ s : State, ∃ u : Fin 2, ∃ c : Fin 4, s.body.bbuDrives = true ∧ s.body.rd .bbuStatDriven u ≠ c :=
  ⟨(at' fun b => b.wr .bbuStatDriven 1 3), 1, 2, by decide⟩

/-! #### Partner -/

theorem witness_Heartbeats_c1 :
    ∃ h : Heartbeat, ∃ s : State, s.body.hubDown = false ∧ s.body.twin.heldWrites = [] :=
  ⟨(beat .standby), (at' fun b => b), by decide⟩

theorem witness_Heartbeats_c2 :
    ∃ h : Heartbeat, ∃ s : State, s.body.hubDown = false ∧ s.body.role = .solo ∧ h.role = .standby ∧ h.ready = true ∧
      s.body.twin.heldWrites = [] :=
  ⟨(beat .standby), (at' fun b => b), by decide⟩

theorem witness_Heartbeats_c3 :
    ∃ h : Heartbeat, ∃ s : State, s.body.hubDown = false ∧ s.body.role = .active ∧ h.leaving = true ∧ s.body.twin.heldWrites =
      [] :=
  ⟨({ beat .standby with leaving := true }), (at' fun b => { b with role := .active }), by decide⟩

theorem witness_Heartbeats_c4 :
    ∃ h : Heartbeat, ∃ s : State, s.body.hubDown = false ∧ s.body.role = .starting ∧ s.body.flag .twinStatSeated = true ∧
      s.body.health.lvl ≠ 4 ∧ h.count < 2 ^ 64 ∧ (h.role = .solo ∨ h.role = .active) :=
  ⟨(beat .solo), (at' fun b => ({ b with role := .starting } : Body).wr .twinStatSeated 0 1), by decide⟩

theorem witness_Heartbeats_c5 :
    ∃ h : Heartbeat, ∃ s : State, s.body.hubDown = false ∧ s.body.role = .starting ∧ s.body.flag .twinStatSeated = true ∧
      s.body.health.lvl ≠ 4 ∧ h.role = .starting ∧ s.body.rd .twinStatSlot = 0 ∧ s.body.twin.heldWrites = [] :=
  ⟨(beat .starting), (at' fun b => ({ b with role := .starting } : Body).wr .twinStatSeated 0 1), by decide⟩

theorem witness_Heartbeats_c6 :
    ∃ h : Heartbeat, ∃ s : State, s.body.hubDown = false ∧ s.body.role = .standby ∧ h.role ≠ .bench ∧ h.role ≠ .starting ∧
      h.count < 2 ^ 64 :=
  ⟨(beat .active), (at' fun b => { b with role := .standby }), by decide⟩

theorem witness_PartnerLost_c1 :
    ∃ T : Nat, ∃ s : State, s.body.twin.hbT = some T ∧ s.body.hubDown = false ∧ s.body.flag .twinStatHbOk = true ∧
      s.body.twin.heldWrites = [] :=
  ⟨9, (at' fun b => (b.wr .twinStatHbOk 0 1).onTwin fun t => { t with hbT := some 9 }), by decide⟩

theorem witness_PartnerLost_c2 :
    ∃ T : Nat, ∃ s : State, s.body.twin.hbT = some T ∧ s.body.hubDown = false ∧ s.body.flag .twinStatHbOk = true ∧
      s.body.twin.heldWrites = [] ∧ s.body.role = .active :=
  ⟨9, (at' fun b => (({ b with role := .active } : Body).wr .twinStatHbOk 0 1).onTwin fun t => { t with hbT := some 9 }),
    by decide⟩

theorem witness_PartnerLost_c3 :
    ∃ T : Nat, ∃ s : State, s.body.twin.hbT = some T ∧ s.body.hubDown = false ∧ s.body.flag .twinStatHbOk = true ∧
      s.body.twin.heldWrites = [] ∧ s.body.role = .standby ∧ s.body.flag .twinStatReady = true :=
  ⟨9, (at' fun b => ((({ b with role := .standby } : Body).wr .twinStatReady 0 1).wr .twinStatHbOk 0 1).onTwin fun t =>
    { t with hbT := some 9 }), by decide⟩

theorem witness_PartnerLost_c4 :
    ∃ T : Nat, ∃ s : State, s.body.twin.hbT = some T ∧ s.body.hubDown = false ∧ s.body.flag .twinStatHbOk = true ∧
      s.body.twin.heldWrites = [] ∧ s.body.role = .standby ∧ s.body.flag .twinStatReady = false :=
  ⟨9, (at' fun b => (({ b with role := .standby } : Body).wr .twinStatHbOk 0 1).onTwin fun t => { t with hbT := some 9 }),
    by decide⟩

theorem witness_PartnerLost_c5 :
    ∃ T : Nat, ∃ s : State, s.body.twin.hbT = some T ∧ s.body.hubDown = false ∧ s.body.flag .twinStatHbOk = true :=
  ⟨9, (at' fun b => (b.wr .twinStatHbOk 0 1).onTwin fun t => { t with hbT := some 9, heldWrites := [(4, 5)] }), by decide⟩

theorem witness_PartnerLost_c6 :
    ∃ T : Nat, ∃ s : State, s.body.twin.hbT = some T ∧ s.body.hubDown = false ∧ s.body.flag .twinStatHbOk = false :=
  ⟨9, (at' fun b => b.onTwin fun t => { t with hbT := some 9 }), by decide⟩

/-! #### Mirror -/

theorem witness_TheMirror_c1 :
    ∃ n : ChIx, ∃ x : Snap, ∃ inc : Int, ∃ kvs : List (Nat × Nat), ∃ ms : List MirrorItem, ∃ pct : Nat, ∃ s : State, ∃ c :
      Instr, s.body.mirrors = true ∧ (c = Instr.bluliStateChange (.fields kvs) ∨ c = .bluliConfigWrite kvs ∧ s.body.froze =
      false) :=
  ⟨33, snap0, 5, [(fkey .chClassPclass 33, 2)], ([] : List MirrorItem), 50, (at' fun b => { b with role := .standby }),
    (Instr.bluliStateChange (.fields [(fkey .chClassPclass 33, 2)])), by decide⟩

theorem witness_TheMirror_c2 :
    ∃ n : ChIx, ∃ x : Snap, ∃ inc : Int, ∃ kvs : List (Nat × Nat), ∃ ms : List MirrorItem, ∃ pct : Nat, ∃ s : State, ∃ c :
      Instr, s.body.mirrors = true ∧ (c = Instr.bluliStateChange (.fields kvs) ∨ c = .bluliConfigWrite kvs ∧ s.body.froze =
      false) ∧ kvs.all (fun kv => (keyFld kv.1).carried && decide (keyFld kv.1 ≠ .tbStatState)) = true ∧ kvs.any (fun kv =>
      (keyFld kv.1).onLadder) = false :=
  ⟨33, snap0, 5, [(fkey .chClassPclass 33, 2)], ([] : List MirrorItem), 50, (at' fun b => { b with role := .standby }),
    (Instr.bluliConfigWrite [(fkey .chClassPclass 33, 2)]), by decide⟩

theorem witness_TheMirror_c3 :
    ∃ n : ChIx, ∃ x : Snap, ∃ inc : Int, ∃ kvs : List (Nat × Nat), ∃ ms : List MirrorItem, ∃ pct : Nat, ∃ s : State, ∃ c :
      Instr, s.body.mirrors = true ∧ (c = Instr.bluliStateChange (.fields kvs) ∨ c = .bluliConfigWrite kvs ∧ s.body.froze =
      false) ∧ kvs.all (fun kv => (keyFld kv.1).carried && decide (keyFld kv.1 ≠ .tbStatState)) = true ∧ kvs.any (fun kv =>
      (keyFld kv.1).onLadder) = true :=
  ⟨33, snap0, 5, [(fkey .chBuswinBusUv 33, 2)], ([] : List MirrorItem), 50, (at' fun b => { b with role := .standby }),
    (Instr.bluliStateChange (.fields [(fkey .chBuswinBusUv 33, 2)])), by decide⟩

theorem witness_TheMirror_c4 :
    ∃ n : ChIx, ∃ x : Snap, ∃ inc : Int, ∃ kvs : List (Nat × Nat), ∃ ms : List MirrorItem, ∃ pct : Nat, ∃ s : State, ∃ c :
      Instr, s.body.mirrors = true ∧ (c = Instr.bluliStateChange (.fields kvs) ∨ c = .bluliConfigWrite kvs ∧ s.body.froze =
      false) ∧ kvs.any (fun kv => (keyFld kv.1).carried) = false :=
  ⟨33, snap0, 5, [(fkey .tbFreqSteer 0, 2)], ([] : List MirrorItem), 50, (at' fun b => { b with role := .standby }),
    (Instr.bluliStateChange (.fields [(fkey .tbFreqSteer 0, 2)])), by decide⟩

theorem witness_TheMirror_c5 :
    ∃ n : ChIx, ∃ x : Snap, ∃ inc : Int, ∃ kvs : List (Nat × Nat), ∃ ms : List MirrorItem, ∃ pct : Nat, ∃ s : State,
      s.body.mirrors = true :=
  ⟨33, snap0, 5, [(fkey .chClassPclass 33, 2)], ([] : List MirrorItem), 50, (at' fun b => { b with role := .standby }),
    by decide⟩

theorem witness_TheMirror_c6 :
    ∃ n : ChIx, ∃ x : Snap, ∃ inc : Int, ∃ kvs : List (Nat × Nat), ∃ ms : List MirrorItem, ∃ pct : Nat, ∃ s : State, ∃ m :
      MirrorItem, s.body.mirrors = true ∧ (∀ j t, m ≠ .trip j t) ∧ (∀ ws, m ≠ .serial ws) ∧ (∀ bytes, m ≠ .staged bytes) :=
  ⟨33, snap0, 5, [(fkey .chClassPclass 33, 2)], ([] : List MirrorItem), 50, (at' fun b => { b with role := .standby }),
    (MirrorItem.snap 33 snap0), ⟨by decide, by simp, by simp, by simp⟩⟩

theorem witness_TheMirror_c7 :
    ∃ n : ChIx, ∃ x : Snap, ∃ inc : Int, ∃ kvs : List (Nat × Nat), ∃ ms : List MirrorItem, ∃ pct : Nat, ∃ s : State,
      s.body.mirrors = true :=
  ⟨33, snap0, 5, [(fkey .chClassPclass 33, 2)], ([] : List MirrorItem), 50, (at' fun b => { b with role := .standby }),
    by decide⟩

theorem witness_TheMirror_c8 :
    ∃ n : ChIx, ∃ x : Snap, ∃ inc : Int, ∃ kvs : List (Nat × Nat), ∃ ms : List MirrorItem, ∃ pct : Nat, ∃ s : State,
      s.body.mirrors = true ∧ s.body.froze = true :=
  ⟨33, snap0, 5, [(fkey .chClassPclass 33, 2)], ([] : List MirrorItem), 50, (at' fun b => ({ b with role := .standby } :
    Body).onTwin fun t => { t with seam := some ⟨1, false, 0, some (10, 20), true, false⟩ }), by decide⟩

theorem witness_TheMirror_c9 :
    ∃ n : ChIx, ∃ x : Snap, ∃ inc : Int, ∃ kvs : List (Nat × Nat), ∃ ms : List MirrorItem, ∃ pct : Nat, ∃ s : State,
      s.body.mirrors = true :=
  ⟨33, snap0, 5, [(fkey .chClassPclass 33, 2)], ([] : List MirrorItem), 50, (at' fun b => { b with role := .standby }),
    by decide⟩

theorem witness_TheMirror_c10 :
    ∃ n : ChIx, ∃ x : Snap, ∃ inc : Int, ∃ kvs : List (Nat × Nat), ∃ ms : List MirrorItem, ∃ pct : Nat, ∃ s : State,
      s.body.mirrors = true :=
  ⟨33, snap0, 5, [(fkey .chClassPclass 33, 2)], ([] : List MirrorItem), 50, (at' fun b => { b with role := .standby }),
    by decide⟩

theorem witness_TheMirror_c11 :
    ∃ n : ChIx, ∃ x : Snap, ∃ inc : Int, ∃ kvs : List (Nat × Nat), ∃ ms : List MirrorItem, ∃ pct : Nat, ∃ s : State,
      s.body.mirrors = true :=
  ⟨33, snap0, 5, [(fkey .chClassPclass 33, 2)], ([] : List MirrorItem), 50, (at' fun b => { b with role := .standby }),
    by decide⟩

theorem witness_TheMirror_c12 :
    ∃ n : ChIx, ∃ x : Snap, ∃ inc : Int, ∃ kvs : List (Nat × Nat), ∃ ms : List MirrorItem, ∃ pct : Nat, ∃ s : State, ∃ m :
      MirrorItem, s.body.mirrors = false ∧ (∀ j t, m ≠ .trip j t) ∧ (∀ ws, m ≠ .serial ws) :=
  ⟨33, snap0, 5, [(fkey .chClassPclass 33, 2)], ([] : List MirrorItem), 50, (at' fun b => b), (MirrorItem.snap 33 snap0),
    ⟨by decide, by simp, by simp⟩⟩

theorem witness_TheMirror_c13 :
    ∃ n : ChIx, ∃ x : Snap, ∃ inc : Int, ∃ kvs : List (Nat × Nat), ∃ ms : List MirrorItem, ∃ pct : Nat, ∃ s : State,
      s.body.mirrors = false :=
  ⟨33, snap0, 5, [(fkey .chClassPclass 33, 2)], ([] : List MirrorItem), 50, (at' fun b => b), by decide⟩

theorem witness_TheMirror_c14 :
    ∃ n : ChIx, ∃ x : Snap, ∃ inc : Int, ∃ kvs : List (Nat × Nat), ∃ ms : List MirrorItem, ∃ pct : Nat, ∃ s : State,
      s.body.mirrors = false ∧ (s.body.role ≠ .active ∨ s.body.twin.seamE = none ∨ s.body.twin.seam = none) :=
  ⟨33, snap0, 5, [(fkey .chClassPclass 33, 2)], ([] : List MirrorItem), 50, (at' fun b => b), by decide⟩

theorem witness_TheMirror_c15 :
    ∃ n : ChIx, ∃ x : Snap, ∃ inc : Int, ∃ kvs : List (Nat × Nat), ∃ ms : List MirrorItem, ∃ pct : Nat, ∃ s : State,
      s.body.mirrors = false :=
  ⟨33, snap0, 5, [(fkey .chClassPclass 33, 2)], ([] : List MirrorItem), 50, (at' fun b => b), by decide⟩

theorem witness_TheMirror_c16 :
    ∃ n : ChIx, ∃ x : Snap, ∃ inc : Int, ∃ kvs : List (Nat × Nat), ∃ ms : List MirrorItem, ∃ pct : Nat, ∃ s : State,
      s.body.mirrors = false :=
  ⟨33, snap0, 5, [(fkey .chClassPclass 33, 2)], ([] : List MirrorItem), 50, (at' fun b => b), by decide⟩

theorem witness_TheMirror_c17 :
    ∃ n : ChIx, ∃ x : Snap, ∃ inc : Int, ∃ kvs : List (Nat × Nat), ∃ ms : List MirrorItem, ∃ pct : Nat, ∃ s : State,
      s.body.mirrors = false ∧ (s.body.role ≠ .active ∨ s.body.twin.seamE = none) :=
  ⟨33, snap0, 5, [(fkey .chClassPclass 33, 2)], ([] : List MirrorItem), 50, (at' fun b => b), by decide⟩

theorem witness_TheMirror_c18 :
    ∃ n : ChIx, ∃ x : Snap, ∃ inc : Int, ∃ kvs : List (Nat × Nat), ∃ ms : List MirrorItem, ∃ pct : Nat, ∃ s : State, ∃ ts : Nat,
      ∃ m : Seam, s.body.role = .active ∧ s.body.hubDown = false ∧ s.body.twin.left = false ∧ s.body.twin.seamE = some ts ∧
      s.body.twin.seam = some m ∧ m.out = false :=
  ⟨33, snap0, 5, [(fkey .chClassPclass 33, 2)], ([] : List MirrorItem), 50, (at' fun b => ({ b with role := .active } :
    Body).onTwin fun t => { t with seam := some ⟨1, false, 0, some (10, 20), true, true⟩, seamE := some 20 }), 20, (⟨1, false,
    0, some (10, 20), true, true⟩ : Seam), by decide⟩

theorem witness_TheMirror_c19 :
    ∃ n : ChIx, ∃ x : Snap, ∃ inc : Int, ∃ kvs : List (Nat × Nat), ∃ ms : List MirrorItem, ∃ pct : Nat, ∃ s : State, s.body.role
      = .active ∧ s.body.hubDown = false :=
  ⟨33, snap0, 5, [(fkey .chClassPclass 33, 2)], ([] : List MirrorItem), 50, (at' fun b => ({ b with role := .active } : Body)),
    by decide⟩

theorem witness_TheMirror_c20 :
    ∃ n : ChIx, ∃ x : Snap, ∃ inc : Int, ∃ kvs : List (Nat × Nat), ∃ ms : List MirrorItem, ∃ pct : Nat, ∃ s : State, s.body.role
      ≠ .active :=
  ⟨33, snap0, 5, [(fkey .chClassPclass 33, 2)], ([] : List MirrorItem), 50, (at' fun b => b), by decide⟩

theorem witness_TheMirror_c21 :
    ∃ n : ChIx, ∃ x : Snap, ∃ inc : Int, ∃ kvs : List (Nat × Nat), ∃ ms : List MirrorItem, ∃ pct : Nat, ∃ s : State, s.body.flag
      .twinStatHbOk = true ∧ s.body.hubDown = false :=
  ⟨33, snap0, 5, [(fkey .chClassPclass 33, 2)], ([] : List MirrorItem), 50, (at' fun b => b.wr .twinStatHbOk 0 1), by decide⟩

theorem witness_TheMirror_c22 :
    ∃ n : ChIx, ∃ x : Snap, ∃ inc : Int, ∃ kvs : List (Nat × Nat), ∃ ms : List MirrorItem, ∃ pct : Nat, ∃ s : State,
      s.body.mirrors = true :=
  ⟨33, snap0, 5, [(fkey .chClassPclass 33, 2)], ([] : List MirrorItem), 50, (at' fun b => { b with role := .standby }),
    by decide⟩

theorem witness_BluliFrames_c1 :
    ∃ s : State, ∃ units : List Nat, ∃ r : LRec, ∃ no : Nat, r = ⟨units.map (· % 2 ^ 128)⟩ ∧ no = units.getD 1 0 % 2 ^ 128 / 2 ^
      64 ∧ s.body.hubDown = false ∧ units.headD 0 / 2 ^ 120 % 256 ≠ 0x10 ∧ (s.body.role = .standby ∧ s.body.rcd.follows = true ∨
      s.body.role = .active) ∧ s.body.staged r = false :=
  ⟨(at' fun b => { b with role := .standby, rcd := { b.rcd with follows := true } }), ([5] : List Nat), (⟨[5]⟩ : LRec), 0,
    by decide⟩

theorem witness_BluliFrames_c2 :
    ∃ s : State, ∃ units : List Nat, ∃ r : LRec, ∃ no : Nat, r = ⟨units.map (· % 2 ^ 128)⟩ ∧ no = units.getD 1 0 % 2 ^ 128 / 2 ^
      64 ∧ s.body.hubDown = false ∧ units.headD 0 / 2 ^ 120 % 256 ≠ 0x10 ∧ s.body.role = .standby ∧ s.body.rcd.follows = false :=
  ⟨(at' fun b => { b with role := .standby, rcd := { b.rcd with follows := false } }), ([5] : List Nat), (⟨[5]⟩ : LRec), 0,
    by decide⟩

theorem witness_BluliFrames_c3 :
    ∃ s : State, ∃ units : List Nat, ∃ r : LRec, ∃ no : Nat, r = ⟨units.map (· % 2 ^ 128)⟩ ∧ no = units.getD 1 0 % 2 ^ 128 / 2 ^
      64 ∧ s.body.hubDown = false ∧ units.headD 0 / 2 ^ 120 % 256 = 0x10 ∧ s.body.role = .standby ∧ s.body.rcd.ahead = [] ∧
      units.getD 3 0 % 2 ^ 128 = s.body.rd .recLedgerIdId ∧ no = s.body.rd .recNextblkNo ∧ s.body.rcd.ready = true ∧
      s.body.rcd.ckptDue = none ∧ s.body.rcd.group = [] ∧ s.body.staged r = false :=
  ⟨(at' fun b => { b with role := .standby, rcd := { b.rcd with ready := true } }), ([0x10 * 2 ^ 120] : List Nat), (⟨[0x10 * 2 ^
    120]⟩ : LRec), 0, by decide⟩

theorem witness_BluliFrames_c4 :
    ∃ s : State, ∃ units : List Nat, ∃ r : LRec, ∃ no : Nat, r = ⟨units.map (· % 2 ^ 128)⟩ ∧ no = units.getD 1 0 % 2 ^ 128 / 2 ^
      64 ∧ s.body.hubDown = false ∧ units.headD 0 / 2 ^ 120 % 256 = 0x10 ∧ s.body.role = .standby ∧ s.body.rcd.ahead = [] ∧
      units.getD 3 0 % 2 ^ 128 = s.body.rd .recLedgerIdId ∧ (no ≠ s.body.rd .recNextblkNo ∨ s.body.rcd.ready = false ∨
      s.body.rcd.ckptDue ≠ none) :=
  ⟨(at' fun b => { b with role := .standby }), ([0x10 * 2 ^ 120] : List Nat), (⟨[0x10 * 2 ^ 120]⟩ : LRec), 0, by decide⟩

theorem witness_BluliFrames_c5 :
    ∃ s : State, s.body.role ≠ .standby ∧ s.body.role ≠ .active :=
  ⟨(at' fun b => b), by decide⟩

theorem witness_BluliFrames_c6 :
    ∃ s : State, s.body.hubDown = false :=
  ⟨(at' fun b => b), by decide⟩

theorem witness_BluliFrames_c7 :
    ∃ s : State, ∃ q : Fin 65536, s.body.hubDown = false :=
  ⟨(at' fun b => b), 1, by decide⟩

theorem witness_BluliFrames_c8 :
    ∃ s : State, ∃ q : Fin 65536, s.body.hubDown = false ∧ (∃ f ∈ s.body.twin.sent, f.seq = q) :=
  ⟨(at' fun b => b.onTwin fun t => { t with sent := [⟨9, 1, []⟩] }), 1, ⟨by decide, ⟨9, 1, []⟩, by decide, by decide⟩⟩

theorem witness_BluliFrames_c9 :
    ∃ s : State, s.body.hubDown = true :=
  ⟨(at' fun b => { b with hubDown := true }), by decide⟩

theorem witness_BluliFrames_c12 :
    ∃ s : State, ∃ k : DieIx, ∃ T, ∃ e, T = nextMultiple s.time.elapsed 51200 ∧ e = (s.goTo T).env ∧ s.body.role = .active ∧
      s.body.hubDown = false ∧ (s.body.fe k).joined = true :=
  ⟨(at' fun b => { b with role := .active }), 2, (nextMultiple 0 51200), (((at' fun b => { b with role := .active }).goTo
    (nextMultiple 0 51200)).env), ⟨rfl, rfl, by decide, by decide, by decide⟩⟩

theorem witness_BluliFrames_c13 :
    ∃ s : State, ∃ k : DieIx, ∃ T, ∃ e, T = nextMultiple s.time.elapsed 51200 ∧ e = (s.goTo T).env ∧ s.body.role = .active ∧
      s.body.hubDown = false ∧ (s.body.fe k).joined = true :=
  ⟨(at' fun b => { b with role := .active }), 2, (nextMultiple 0 51200), (((at' fun b => { b with role := .active }).goTo
    (nextMultiple 0 51200)).env), ⟨rfl, rfl, by decide, by decide, by decide⟩⟩

theorem witness_BluliFrames_c14 :
    ∃ s : State, ∃ k : DieIx, s.body.role ≠ .active :=
  ⟨(at' fun b => b), 2, by decide⟩

theorem witness_BluliFrames_c15 :
    ∃ s : State, ∃ n : ChIx, ∃ l : Nat, ∃ uv : Int, s.body.leadOf n = l ∧ Led s.body n ∧ s.body.role = .standby ∧ s.body.hubDown
      = false ∧ (s.body.fe (dieOf l)).joined = true ∧ (s.body.fe (dieOf l)).up = [] ∧ (s.body.en n).gate = .hiZ ∧ (s.body.en
      n).tripLatch = false ∧ (s.body.ch l).eff.driven = true ∧ (s.body.htThreshold n : Int) < uv :=
  ⟨(at' fun b => ({ b with role := .standby } : Body).onCh 33 fun c => { c with state := .on }), 33, 33, 1000000,
    by unfold Led; decide⟩

/-! #### Seams -/

theorem witness_SeamsAsked_c1 :
    ∃ s : State, s.body.twin.seam = none ∧ s.body.hubDown = false ∧ s.body.role = .active ∧ s.body.flag .twinStatHbOk = true ∧
      s.body.unlocked 9 = true ∧ s.body.flag .twinCtrlLock = false :=
  ⟨(at' fun b => ({ b with role := .active } : Body).wr .twinStatHbOk 0 1), by decide⟩

theorem witness_SeamsAsked_c2 :
    ∃ s : State, ∃ cause : Nat, s.body.twin.seam = none ∧ s.body.hubDown = false ∧ s.body.role = .active ∧ s.body.flag
      .twinStatHbOk = true ∧ s.body.causeHolds cause = true :=
  ⟨(at' fun b => (({ b with role := .active } : Body).wr .twinStatHbOk 0 1).wr .twinStatSeated 0 0), 2, by decide⟩

theorem witness_SeamsAsked_c3 :
    ∃ s : State, s.body.twin.seam = none ∧ s.body.hubDown = false ∧ s.body.role = .solo ∧ s.body.unlocked 9 = true ∧
      s.body.partner = true ∧ s.body.flag .twinCtrlLock = false :=
  ⟨(at' fun b => (b.wr .twinStatHbOk 0 1).wr .twinStatPartnerRole 0 2), by decide⟩

theorem witness_SeamsAsked_c4 :
    ∃ s : State, s.body.twin.seam = none ∧ s.body.hubDown = false ∧ s.body.role = .solo ∧ s.body.unlocked 9 = true ∧
      s.body.partner = false :=
  ⟨(at' fun b => b), by decide⟩

theorem witness_SeamsAsked_c5 :
    ∃ s : State, s.body.twin.seam = none ∧ s.body.hubDown = false ∧ s.body.unlocked 9 = false :=
  ⟨(at' fun b => b.wr .modExpertUnlock 0 0), by decide⟩

theorem witness_SeamsAsked_c6 :
    ∃ s : State, s.body.twin.seam = none ∧ s.body.hubDown = false ∧ s.body.unlocked 9 = false :=
  ⟨(at' fun b => b.wr .modExpertUnlock 0 0), by decide⟩

theorem witness_SeamsAsked_c7 :
    ∃ s : State, ∃ cause : Nat, s.body.twin.seam = none ∧ s.body.hubDown = false ∧ s.body.role = .standby ∧ s.body.seamRefusal
      cause = 0 :=
  ⟨(at' fun b => ({ b with role := .standby } : Body).wr .twinStatReady 0 1), 2, by decide⟩

theorem witness_SeamsAsked_c8 :
    ∃ s : State, ∃ cause : Nat, s.body.twin.seam = none ∧ s.body.hubDown = false ∧ s.body.role = .standby ∧ s.body.seamRefusal
      cause ≠ 0 :=
  ⟨(at' fun b => { b with role := .standby }), 2, by decide⟩

theorem witness_SeamsAsked_c9 :
    ∃ s : State, s.body.twin.seam = none ∧ s.body.hubDown = false :=
  ⟨(at' fun b => b), by decide⟩

theorem witness_SeamsMade_c1 :
    ∃ m : Seam, ∃ tp : Nat, ∃ ts : Nat, ∃ s : State, s.body.twin.seam = some m ∧ m.plan = some (tp, ts) ∧ s.body.hubDown = false
      ∧ m.passedP = false :=
  ⟨⟨1, true, 0, some (10, 20), false, false⟩, 10, 20, (at' fun b => ({ b with role := .active } : Body).onTwin fun t =>
    { t with seam := some ⟨1, true, 0, some (10, 20), false, false⟩ }), by decide⟩

theorem witness_SeamsMade_c2 :
    ∃ m : Seam, ∃ tp : Nat, ∃ ts : Nat, ∃ s : State, s.body.twin.seam = some m ∧ m.plan = some (tp, ts) ∧ s.body.hubDown = false
      ∧ m.passedP = true ∧ m.passedS = false ∧ (m.out = true ∨ s.body.twin.heldWrites = []) :=
  ⟨⟨1, true, 0, some (10, 20), true, false⟩, 10, 20, (at' fun b => ({ b with role := .active } : Body).onTwin fun t =>
    { t with seam := some ⟨1, true, 0, some (10, 20), true, false⟩ }), by decide⟩

theorem witness_SeamsMade_c3 :
    ∃ m : Seam, ∃ tp : Nat, ∃ ts : Nat, ∃ s : State, s.body.twin.seam = some m ∧ m.plan = some (tp, ts) ∧ s.body.hubDown = false
      ∧ m.passedP = true ∧ m.passedS = false ∧ m.out = true :=
  ⟨⟨1, true, 0, some (10, 20), true, false⟩, 10, 20, (at' fun b => ({ b with role := .active } : Body).onTwin fun t =>
    { t with seam := some ⟨1, true, 0, some (10, 20), true, false⟩ }), by decide⟩

theorem witness_SeamsMade_c4 :
    ∃ m : Seam, ∃ tp : Nat, ∃ ts : Nat, ∃ s : State, s.body.twin.seam = some m ∧ m.plan = some (tp, ts) ∧ s.body.hubDown = false
      ∧ m.passedP = true ∧ m.passedS = false ∧ m.out = false ∧ s.body.twin.heldWrites = [] :=
  ⟨⟨1, false, 0, some (10, 20), true, false⟩, 10, 20, (at' fun b => ({ b with role := .standby } : Body).onTwin fun t =>
    { t with seam := some ⟨1, false, 0, some (10, 20), true, false⟩ }), by decide⟩

theorem witness_SeamsMade_c5 :
    ∃ m : Seam, ∃ tp : Nat, ∃ ts : Nat, ∃ s : State, s.body.twin.seam = some m ∧ m.plan = some (tp, ts) ∧ s.body.hubDown = false
      ∧ m.passedP = true ∧ m.passedS = false ∧ m.out = false :=
  ⟨⟨1, false, 0, some (10, 20), true, false⟩, 10, 20, (at' fun b => ({ b with role := .standby } : Body).onTwin fun t =>
    { t with seam := some ⟨1, false, 0, some (10, 20), true, false⟩, heldWrites := [(4, 5)] }), by decide⟩

theorem witness_SeamsMade_c6 :
    ∃ m : Seam, ∃ tp : Nat, ∃ ts : Nat, ∃ s : State, s.body.twin.seam = some m ∧ m.plan = some (tp, ts) ∧ s.body.hubDown = false
      ∧ m.passedS = true :=
  ⟨⟨1, true, 0, some (10, 20), true, true⟩, 10, 20, (at' fun b => ({ b with role := .active } : Body).onTwin fun t =>
    { t with seam := some ⟨1, true, 0, some (10, 20), true, true⟩ }), by decide⟩

theorem witness_SeamsMade_c7 :
    ∃ m : Seam, ∃ tp : Nat, ∃ ts : Nat, ∃ s : State, s.body.twin.seam = some m ∧ m.plan = some (tp, ts) ∧ s.body.hubDown = false
      ∧ m.passedS = true ∧ m.out = true :=
  ⟨⟨1, true, 0, some (10, 20), true, true⟩, 10, 20, (at' fun b => (({ b with role := .active } : Body).onBoot fun x =>
    { x with imaged := true }).onTwin fun t => { t with left := true, seam := some ⟨1, true, 0, some (10, 20), true, true⟩ }),
    by decide⟩

theorem witness_SeamsMade_c8 :
    ∃ m : Seam, ∃ tp : Nat, ∃ ts : Nat, ∃ s : State, s.body.twin.seam = some m ∧ m.plan = some (tp, ts) ∧ s.body.hubDown = false
      ∧ m.out = false :=
  ⟨⟨1, false, 0, some (10, 20), false, false⟩, 10, 20, (at' fun b => ({ b with role := .standby } : Body).onTwin fun t =>
    { t with seam := some ⟨1, false, 0, some (10, 20), false, false⟩ }), by decide⟩

/-! #### SplitsAndSeats -/

theorem witness_SplitsAndSeats_c1 :
    ∃ s : State, s.body.hubDown = false ∧ s.body.role = .solo ∧ s.body.flag .twinStatHbOk = true ∧ s.body.rd
      .twinStatPartnerRole = 1 ∧ s.body.givesWay = true :=
  ⟨(at' fun b => (b.wr .twinStatHbOk 0 1).wr .twinStatPartnerRole 0 1 |>.wr .twinStatSlot 0 1), by decide⟩

theorem witness_SplitsAndSeats_c2 :
    ∃ s : State, s.body.hubDown = false ∧ s.body.role = .solo ∧ s.body.flag .twinStatHbOk = true ∧ s.body.rd
      .twinStatPartnerRole = 1 ∧ s.body.givesWay = false :=
  ⟨(at' fun b => (b.wr .twinStatHbOk 0 1).wr .twinStatPartnerRole 0 1), by decide⟩

theorem witness_SplitsAndSeats_c3 :
    ∃ s : State, s.body.hubDown = false :=
  ⟨(at' fun b => b), by decide⟩

theorem witness_SplitsAndSeats_c4 :
    ∃ s : State, s.body.hubDown = false :=
  ⟨(at' fun b => b), by decide⟩

theorem witness_SplitsAndSeats_c5 :
    ∃ s : State, ∃ T : Nat, s.body.hubDown = false ∧ s.body.twin.madeT = some T :=
  ⟨(at' fun b => b.onTwin fun t => { t with openA := none, openB := none, madeT := some 9 }), 9, by decide⟩

theorem witness_SplitsAndSeats_c6 :
    ∃ s : State, ∃ T : Nat, s.body.hubDown = false ∧ s.body.twin.openSince = some T ∧ s.body.flag .twinStatSeated = true :=
  ⟨(at' fun b => b.wr .twinStatSeated 0 1), 0, by decide⟩

theorem witness_SplitsAndSeats_c7 :
    ∃ s : State, s.body.hubDown = false ∧ s.body.role.pairs = true ∧ s.body.twin.left = false ∧ s.body.flag .twinStatTakeover =
      true :=
  ⟨(at' fun b => b.wr .twinStatTakeover 0 1), by decide⟩

theorem witness_SplitsAndSeats_c8 :
    ∃ s : State, s.body.hubDown = false ∧ s.body.flag .twinStatTakeover = false :=
  ⟨(at' fun b => b), by decide⟩

/-! #### ModuleStarts -/

theorem witness_ModuleStarts_c2 :
    ∃ T : Nat, ∃ s : State, s.body.twin.txT = some T ∧ s.body.role = .starting ∧ s.body.twin.heard = false ∧ s.body.flag
      .twinStatSeated = true ∧ s.body.hubDown = false ∧ s.body.health.lvl ≠ 4 :=
  ⟨9, (at' fun b => (({ b with role := .starting } : Body).wr .twinStatSeated 0 1).onTwin fun t => { t with txT := some 9 }),
    by decide⟩

theorem witness_ModuleStarts_c3 :
    ∃ s : State, s.body.hubDown = false ∧ s.body.flag .modBootSoloHeld = true ∧ s.body.unlocked 9 = true :=
  ⟨(at' fun b => b.wr .modBootSoloHeld 0 1), by decide⟩

theorem witness_ModuleStarts_c4 :
    ∃ s : State, s.body.hubDown = false ∧ s.body.flag .modBootSoloHeld = true ∧ s.body.unlocked 9 = false :=
  ⟨(at' fun b => (b.wr .modBootSoloHeld 0 1).wr .modExpertUnlock 0 0), by decide⟩

/-! #### ImagesAndUnlocks -/

theorem witness_ImagesRead_c1 :
    ∃ s : State, s.body.readsFlash = true :=
  ⟨(at' fun b => b), by decide⟩

theorem witness_ImagesRead_c2 :
    ∃ s : State, s.body.readsFlash = true :=
  ⟨(at' fun b => b), by decide⟩

theorem witness_ImagesRead_c3 :
    ∃ s : State, s.body.readsFlash = true ∧ s.body.boot.flash.isSome = true :=
  ⟨(at' fun b => b.onBoot fun x => { x with flash := some ⟨true, false, true, false, 0⟩ }), by decide⟩

theorem witness_ImagesRead_c4 :
    ∃ s : State, s.body.readsFlash = true ∧ s.body.boot.flash.isSome = true :=
  ⟨(at' fun b => b.onBoot fun x => { x with flash := some ⟨true, false, true, false, 0⟩ }), by decide⟩

theorem witness_ImagesRead_c5 :
    ∃ s : State, ∃ k : Nat, ∃ img, s.body.readsFlash = true ∧ s.body.boot.readA = true ∧ s.body.boot.readB = true ∧
      s.body.boot.chosen = some (k, img) :=
  ⟨(at' fun b => b.onBoot fun x => { x with readA := true, readB := true, slotA := some img0 }), 0, img0, by decide⟩

theorem witness_ImagesRead_c6 :
    ∃ s : State, s.body.readsFlash = true ∧ s.body.boot.readA = true ∧ s.body.boot.readB = true ∧ s.body.boot.chosen = none :=
  ⟨(at' fun b => b.onBoot fun x => { x with readA := true, readB := true }), by decide⟩

theorem witness_ImagesRead_c7 :
    ∃ s : State, ∃ T : Nat, s.body.readsFlash = true ∧ s.body.boot.retryT = some T :=
  ⟨(at' fun b => b.onBoot fun x => { x with retryT := some 9 }), 9, by decide⟩

theorem witness_Unlocks_c1 :
    ∃ v : Word, ∃ s : State, s.body.hubDown = false ∧ bits v.toNat 31 16 = 0x7128 :=
  ⟨0x7128000C, (at' fun b => b), by decide⟩

theorem witness_Unlocks_c2 :
    ∃ v : Word, ∃ s : State, s.body.hubDown = false ∧ bits v.toNat 31 16 ≠ 0x7128 :=
  ⟨0x7129000C, (at' fun b => b), by decide⟩

theorem witness_Unlocks_c3 :
    ∃ v : Word, ∃ s : State, ∃ T : Nat, s.body.hubDown = false ∧ s.body.boot.unlockEnd = some T :=
  ⟨0, (at' fun b => b.onBoot fun x => { x with unlockEnd := some 9 }), 9, by decide⟩

/-! #### StagingAndPatch -/

theorem witness_Staging_c1 :
    ∃ ok : Bool, ∃ s : State, ∃ i : Instr, s.body.hubDown = false ∧ s.body.boot.cmd = 0 ∧ s.body.flag .modImgcmdBusy = false ∧
      (i = Instr.imgEraseB ok ∨ i = .imgProgram ok) ∧ s.body.unlocked 13 = true ∧ s.body.patchRuns = false ∧ s.body.flashFree =
      true ∧ s.body.flag .healthStatBrace = false :=
  ⟨true, (at' fun b => b), (Instr.imgEraseB true), by decide⟩

theorem witness_Staging_c2 :
    ∃ ok : Bool, ∃ s : State, ∃ i : Instr, s.body.hubDown = false ∧ s.body.boot.cmd = 0 ∧ s.body.flag .modImgcmdBusy = false ∧
      (i = Instr.imgEraseB ok ∨ i = .imgProgram ok) ∧ s.body.unlocked 13 = true ∧ (s.body.patchRuns = true ∨ s.body.drives =
      false ∨ s.body.flag .healthStatBrace = true) :=
  ⟨true, (at' fun b => b.wr .healthStatBrace 0 1), (Instr.imgProgram true), by decide⟩

theorem witness_Staging_c3 :
    ∃ ok : Bool, ∃ s : State, ∃ i : Instr, s.body.hubDown = false ∧ s.body.boot.cmd = 0 ∧ s.body.flag .modImgcmdBusy = false ∧
      (i = Instr.imgEraseB ok ∨ i = .imgProgram ok) ∧ s.body.unlocked 13 = true ∧ s.body.patchRuns = false ∧ s.body.drives =
      true ∧ s.body.flag .healthStatBrace = false ∧ s.body.flashFree = false :=
  ⟨true, (at' fun b => b.wr .twinStatTakeover 0 1), (Instr.imgProgram true), by decide⟩

theorem witness_Staging_c4 :
    ∃ ok : Bool, ∃ s : State, ∃ i : Instr, s.body.hubDown = false ∧ s.body.boot.cmd = 0 ∧ s.body.flag .modImgcmdBusy = false ∧
      (i = Instr.imgEraseB ok ∨ i = .imgProgram ok) ∧ s.body.unlocked 13 = false :=
  ⟨true, (at' fun b => b.wr .modExpertUnlock 0 0), (Instr.imgProgram true), by decide⟩

theorem witness_Staging_c5 :
    ∃ ok : Bool, ∃ s : State, s.body.hubDown = false ∧ s.body.boot.cmd = 0 ∧ s.body.flag .modImgcmdBusy = false ∧
      s.body.flashFree = false :=
  ⟨true, (at' fun b => b.wr .twinStatTakeover 0 1), by decide⟩

theorem witness_Staging_c6 :
    ∃ ok : Bool, ∃ s : State, s.body.hubDown = false ∧ s.body.boot.cmd = 0 ∧ s.body.flag .modImgcmdBusy = false ∧
      s.body.flashFree = true :=
  ⟨true, (at' fun b => b), by decide⟩

theorem witness_Patches_c1 :
    ∃ s : State, s.body.hubDown = false ∧ s.body.boot.cmd = 0 ∧ s.body.boot.checked = none ∧ s.body.flag .modImgcmdBusy = false
      ∧ s.body.unlocked 13 = true ∧ s.body.patchBars ≠ 0 :=
  ⟨(at' fun b => b.wr .healthStatBrace 0 1), by decide⟩

theorem witness_Patches_c2 :
    ∃ s : State, ∃ bytes : List Nat, s.body.hubDown = false ∧ s.body.boot.cmd = 0 ∧ s.body.boot.checked = none ∧ s.body.flag
      .modImgcmdBusy = false ∧ s.body.unlocked 13 = true ∧ s.body.patchBars = 0 ∧ (bytes = [] ∨ s.body.flashFree = false) :=
  ⟨(at' fun b => b), ([] : List Nat), by decide⟩

theorem witness_Patches_c3 :
    ∃ s : State, ∃ bytes : List Nat, s.body.hubDown = false ∧ s.body.boot.cmd = 0 ∧ s.body.boot.checked = none ∧ s.body.flag
      .modImgcmdBusy = false ∧ s.body.unlocked 13 = true ∧ s.body.patchBars = 0 ∧ bytes ≠ [] ∧ s.body.flashFree = true :=
  ⟨(at' fun b => b), ([1] : List Nat), by decide⟩

theorem witness_Patches_c4 :
    ∃ s : State, ∃ img, ∃ partner, s.body.hubDown = false ∧ s.body.boot.checked = some img ∧ s.body.patchRests = false ∧
      s.body.role = .active ∧ partner = false :=
  ⟨(at' fun b => ({ b with role := .active } : Body).onBoot fun x => { x with checked := some img0 }), img0, false, by decide⟩

theorem witness_Patches_c5 :
    ∃ s : State, ∃ img, ∃ partner, ∃ ok, s.body.hubDown = false ∧ s.body.boot.checked = some img ∧ s.body.patchRests = false ∧
      (s.body.role = .active → partner = true) ∧ (ok = false ∨ s.body.flashFree = false) :=
  ⟨(at' fun b => ({ b with role := .active } : Body).onBoot fun x => { x with checked := some img0 }), img0, true, false,
    by decide⟩

theorem witness_Patches_c6 :
    ∃ s : State, ∃ img, ∃ partner, ∃ ok, s.body.hubDown = false ∧ s.body.boot.checked = some img ∧ s.body.patchRests = false ∧
      (s.body.role = .active → partner = true) ∧ ok = true ∧ s.body.flashFree = true :=
  ⟨(at' fun b => ({ b with role := .active } : Body).onBoot fun x => { x with checked := some img0 }), img0, true, true,
    by decide⟩

theorem witness_Patches_c7 :
    ∃ s : State, s.body.hubDown = false ∧ s.body.patchRests = true :=
  ⟨(at' fun b => b.wr .healthStatFreeze 0 1), by decide⟩

theorem witness_PatchCourse_c1 :
    ∃ p : Patch, ∃ s : State, ∃ n : ChIx, ∃ l : Nat, s.body.boot.patch = some p ∧ s.body.drives = true ∧ s.body.hubDown = false
      ∧ s.body.patchRests = false ∧ s.body.leadOf n = l ∧ (s.body.ch l).state ∉ [ChState.ramp, .limit, .capped] ∧ ((s.body.ch
      l).state = .on → s.body.steadyWin l = true) ∧ ((s.body.ch l).state = .held → (s.body.ch l).holds = [0x32]) :=
  ⟨patch0, (at' fun b => (b.onBoot fun x => { x with patch := some patch0 }).onCh 33 fun c => { c with state := .off }), 33, 33,
    by decide⟩

theorem witness_PatchCourse_c2 :
    ∃ p : Patch, ∃ s : State, ∃ n : ChIx, ∃ l : Nat, s.body.boot.patch = some p ∧ s.body.drives = true ∧ s.body.hubDown = false
      ∧ s.body.patchRests = false ∧ s.body.leadOf n = l ∧ (s.body.ch l).state ∈ [ChState.ramp, .limit, .capped] :=
  ⟨patch0, (at' fun b => (b.onBoot fun x => { x with patch := some patch0 }).onCh 33 fun c => { c with state := .limit }), 33,
    33, by decide⟩

theorem witness_PatchCourse_c3 :
    ∃ p : Patch, ∃ s : State, s.body.boot.patch = some p ∧ s.body.drives = true ∧ s.body.hubDown = false ∧ p.passed = false ∧
      p.reload = false ∧ s.body.patchRests = false :=
  ⟨patch0, (at' fun b => b.onBoot fun x => { x with patch := some patch0 }), by decide⟩

theorem witness_PatchCourse_c4 :
    ∃ p : Patch, ∃ s : State, s.body.boot.patch = some p ∧ s.body.drives = true ∧ s.body.hubDown = false ∧ p.passed = false ∧
      p.reload = true ∧ p.chans = [] ∧ s.body.patchRests = false :=
  ⟨({ patch0 with reload := true, chans := [] }), (at' fun b => b.onBoot fun x =>
    { x with patch := some { patch0 with reload := true, chans := [] } }), by decide⟩

theorem witness_PatchCourse_c5 :
    ∃ p : Patch, ∃ s : State, s.body.boot.patch = some p ∧ s.body.drives = true ∧ s.body.hubDown = false ∧ s.body.copies = true :=
  ⟨({ patch0 with passed := true, chans := [] }), (at' fun b => b.onBoot fun x =>
    { x with patch := some { patch0 with passed := true, chans := [] } }), by decide⟩

theorem witness_PatchCourse_c6 :
    ∃ p : Patch, ∃ s : State, s.body.boot.patch = some p ∧ s.body.drives = true ∧ s.body.hubDown = false ∧ s.body.copies = true :=
  ⟨({ patch0 with passed := true, chans := [] }), (at' fun b => b.onBoot fun x =>
    { x with patch := some { patch0 with passed := true, chans := [] } }), by decide⟩

theorem witness_PatchCourse_c7 :
    ∃ p : Patch, ∃ s : State, s.body.boot.patch = some p ∧ s.body.drives = true ∧ s.body.hubDown = false ∧ s.body.patchRests =
      true :=
  ⟨patch0, (at' fun b => (b.onBoot fun x => { x with patch := some patch0 }).wr .healthStatFreeze 0 1), by decide⟩

theorem witness_PatchCourse_c8 :
    ∃ p : Patch, ∃ s : State, s.body.boot.patch = some p ∧ s.body.drives = true ∧ s.body.hubDown = false ∧ s.body.patchRests =
      true :=
  ⟨patch0, (at' fun b => (b.onBoot fun x => { x with patch := some patch0 }).wr .healthStatFreeze 0 1), by decide⟩

theorem witness_PatchCourse_c9 :
    ∃ p : Patch, ∃ s : State, s.body.boot.patch = some p ∧ s.body.drives = true ∧ s.body.hubDown = false ∧ s.body.patchRests =
      true :=
  ⟨patch0, (at' fun b => (b.onBoot fun x => { x with patch := some patch0 }).wr .healthStatFreeze 0 1), by decide⟩

/-! #### FuseCommands -/

theorem witness_FuseCommands_c1 :
    ∃ s : State, s.body.hubDown = false ∧ s.body.boot.fuseCmd = 0 ∧ fuseBar s.env s.starch s.body 1 = 0 :=
  ⟨(burn 0 <| at' fun b => b), by decide⟩

theorem witness_FuseCommands_c2 :
    ∃ s : State, s.body.hubDown = false ∧ s.body.boot.fuseCmd = 0 ∧ fuseBar s.env s.starch s.body 1 = 0 :=
  ⟨(burn 0 <| at' fun b => b), by decide⟩

theorem witness_FuseCommands_c3 :
    ∃ s : State, s.body.hubDown = false ∧ s.body.boot.fuseCmd = 0 ∧ fuseBar s.env s.starch s.body 2 = 0 :=
  ⟨(burn 7 <| at' fun b => b), by decide⟩

theorem witness_FuseCommands_c4 :
    ∃ s : State, s.body.hubDown = false ∧ s.body.boot.fuseCmd = 0 ∧ fuseBar s.env s.starch s.body 3 = 0 :=
  ⟨(burn 0 <| at' fun b => b), by decide⟩

theorem witness_FuseCommands_c5 :
    ∃ s : State, ∃ c : Nat, ∃ i : Instr, s.body.hubDown = false ∧ s.body.boot.fuseCmd = 0 ∧ (c, i) ∈ [(1, Instr.starchBurn
      true), (2, .starchSeal true), (3, .starchReload)] ∧ fuseBar s.env s.starch s.body c ≠ 0 :=
  ⟨(at' fun b => b), 1, (Instr.starchBurn true), by decide⟩

/-! #### PortCommands -/

theorem witness_ReadCommands_c1 :
    ∃ x : Xfer, ∃ s : State, s.body.answers x = true ∧ x.fit = .ok :=
  ⟨xfer, (at' fun b => b), by decide⟩

theorem witness_ReadCommands_c2 :
    ∃ x : Xfer, ∃ s : State, s.body.answers x = true ∧ x.fit = .ok :=
  ⟨xfer, (at' fun b => b), by decide⟩

theorem witness_ReadCommands_c3 :
    ∃ x : Xfer, ∃ s : State, s.body.answers x = true ∧ x.fit = .ok :=
  ⟨xfer, (at' fun b => b), by decide⟩

theorem witness_ReadCommands_c4 :
    ∃ x : Xfer, ∃ s : State, s.body.answers x = true ∧ x.fit = .ok :=
  ⟨xfer, (at' fun b => b), by decide⟩

theorem witness_ReadCommands_c5 :
    ∃ x : Xfer, ∃ s : State, s.body.answers x = true ∧ x.fit = .ok :=
  ⟨xfer, (at' fun b => b), by decide⟩

theorem witness_ReadCommands_c6 :
    ∃ x : Xfer, ∃ s : State, s.body.answers x = true ∧ x.fit = .ok :=
  ⟨xfer, (at' fun b => b), by decide⟩

theorem witness_ReadCommands_c7 :
    ∃ x : Xfer, ∃ s : State, s.body.answers x = true ∧ x.fit = .ok :=
  ⟨xfer, (at' fun b => b), by decide⟩

theorem witness_ReadCommands_c8 :
    ∃ x : Xfer, ∃ s : State, s.body.answers x = true ∧ x.fit = .ok :=
  ⟨xfer, (at' fun b => b), by decide⟩

theorem witness_ReadCommands_c9 :
    ∃ x : Xfer, ∃ s : State, s.body.answers x = true ∧ x.fit = .ok :=
  ⟨xfer, (at' fun b => b), by decide⟩

theorem witness_ReadCommands_c10 :
    ∃ x : Xfer, ∃ s : State, s.body.answers x = true ∧ x.fit = .ok :=
  ⟨xfer, (at' fun b => b), by decide⟩

theorem witness_ReadCommands_c11 :
    ∃ x : Xfer, ∃ s : State, ∃ code : Nat, ∃ i : Instr, s.body.answers x = true ∧ x.fit = .ok ∧ i ∈ [Instr.capability x, .query
      x code, .statusByte x, .statusWord x, .pmbusRevision x, .mfrId x, .mfrModel x, .mfrRevision x, .mfrSerial x, .winAddrRead
      x] :=
  ⟨xfer, (at' fun b => b), 0x19, (Instr.capability xfer), ⟨by decide, by decide, by simp⟩⟩

theorem witness_ReadCommands_c12 :
    ∃ x : Xfer, ∃ s : State, ∃ code : Nat, ∃ i : Instr, s.body.answers x = true ∧ x.fit = .ok ∧ i ∈ [Instr.capability x, .query
      x code, .statusByte x, .statusWord x, .pmbusRevision x, .mfrId x, .mfrModel x, .mfrRevision x, .mfrSerial x, .winAddrRead
      x] ∧ s.body.doze = false :=
  ⟨xfer, (at' fun b => b), 0x19, (Instr.capability xfer), ⟨by decide, by decide, by simp, by decide⟩⟩

theorem witness_Attention_c1 :
    ∃ p : Fin 2, ∃ s : State, s.body.hubDown = false ∧ s.body.rd .modBootPhase ≠ 0 :=
  ⟨0, (at' fun b => b), by decide⟩

theorem witness_Attention_c2 :
    ∃ p : Fin 2, ∃ s : State, s.body.hubDown = false ∧ s.body.rd .modBootPhase = 0 :=
  ⟨0, State.reset, by decide⟩

theorem witness_Attention_c3 :
    ∃ p : Fin 2, ∃ s : State, s.body.hubDown = false ∧ s.body.pullDue p = true :=
  ⟨0, (at' fun b => b.wr .hpStatAttnPend 0 1), by decide⟩

theorem witness_Attention_c4 :
    ∃ p : Fin 2, ∃ s : State, s.body.hubDown = false ∧ s.body.pullDue p = false :=
  ⟨0, (at' fun b => b), by decide⟩

theorem witness_Attention_c5 :
    ∃ p : Fin 2, ∃ s : State, s.body.hubDown = false ∧ s.body.doze = false ∧ (s.body.alertLow = true ∨ s.body.flag
      .hpStatAttnPend p = true) :=
  ⟨0, (at' fun b => { b with alertLow := true }), by decide⟩

theorem witness_Attention_c6 :
    ∃ p : Fin 2, ∃ s : State, s.body.hubDown = false ∧ (s.body.doze = true ∨ s.body.alertLow = false ∧ s.body.flag
      .hpStatAttnPend p = false) :=
  ⟨0, (at' fun b => b), by decide⟩

theorem witness_Attention_c7 :
    ∃ p : Fin 2, ∃ s : State, s.body.hubDown = false :=
  ⟨0, (at' fun b => b), by decide⟩

/-! #### Windows -/

theorem witness_WindowCommands_c1 :
    ∃ x : Xfer, ∃ a : Nat, ∃ s : State, s.body.answers x = true ∧ x.fit = .ok ∧ (s.body.ptr x.port (s.body.xferPaired x)).1 = a
      ∧ (x.pec = .good ∨ x.pec = .absent ∧ s.body.pecNeeded false = false) :=
  ⟨xfer, 0x2004, (at' fun b => ptrTo 0x2004 b), by decide⟩

theorem witness_WindowCommands_c2 :
    ∃ x : Xfer, ∃ a : Nat, ∃ s : State, s.body.answers x = true ∧ x.fit = .ok ∧ (s.body.ptr x.port (s.body.xferPaired x)).1 = a
      ∧ (x.pec = .good ∨ x.pec = .absent ∧ s.body.pecNeeded false = false) ∧ s.body.doze = false :=
  ⟨xfer, 0x2004, (at' fun b => ptrTo 0x2004 b), by decide⟩

theorem witness_WindowCommands_c3 :
    ∃ x : Xfer, ∃ a : Nat, ∃ s : State, s.body.answers x = true ∧ x.fit = .ok ∧ (s.body.ptr x.port (s.body.xferPaired x)).1 = a
      ∧ s.body.ptrValid x.port (s.body.xferPaired x) = true ∧ (x.pec = .good ∨ x.pec = .absent ∧ s.body.pecNeeded (protectedAddr
      a) = false) :=
  ⟨xfer, 0x2004, (at' fun b => ptrTo 0x2004 b), by decide⟩

theorem witness_WindowCommands_c4 :
    ∃ x : Xfer, ∃ a : Nat, ∃ s : State, s.body.answers x = true ∧ x.fit = .ok ∧ (s.body.ptr x.port (s.body.xferPaired x)).1 = a
      ∧ s.body.ptrValid x.port (s.body.xferPaired x) = true :=
  ⟨xfer, 0x2004, (at' fun b => ptrTo 0x2004 b), by decide⟩

theorem witness_WindowCommands_c5 :
    ∃ x : Xfer, ∃ a : Nat, ∃ s : State, s.body.answers x = true ∧ x.fit = .ok ∧ (s.body.ptr x.port (s.body.xferPaired x)).1 = a
      ∧ s.body.ptrValid x.port (s.body.xferPaired x) = true ∧ hasRc (a / 4 * 4) = true :=
  ⟨xfer, 0x2008, (at' fun b => ptrTo 0x2008 b), by decide⟩

theorem witness_WindowCommands_c6 :
    ∃ x : Xfer, ∃ a : Nat, ∃ s : State, ∃ vs : List Word, s.body.answers x = true ∧ x.fit = .ok ∧ (s.body.ptr x.port
      (s.body.xferPaired x)).1 = a ∧ s.body.ptrValid x.port (s.body.xferPaired x) = true ∧ 1 ≤ vs.length ∧ vs.length ≤ 63 ∧
      (x.pec = .good ∨ x.pec = .absent ∧ s.body.pecNeeded ((ptrAddrs (s.body.ptr x.port (s.body.xferPaired x)) vs.length).any
      protectedAddr) = false) :=
  ⟨xfer, 0x2004, (at' fun b => ptrTo 0x2004 b), [5, 6], by decide⟩

theorem witness_WindowCommands_c7 :
    ∃ x : Xfer, ∃ a : Nat, ∃ s : State, ∃ vs : List Word, s.body.answers x = true ∧ x.fit = .ok ∧ (s.body.ptr x.port
      (s.body.xferPaired x)).1 = a ∧ s.body.ptrValid x.port (s.body.xferPaired x) = true ∧ x.pec = .good ∧ s.body.doze = false ∧
      1 ≤ vs.length ∧ vs.length ≤ 63 ∧ (∀ a ∈ ptrAddrs (s.body.ptr x.port (s.body.xferPaired x)) vs.length, inRegion (a / 4 * 4)
      = false) :=
  ⟨xfer, 0xD000, (at' fun b => ptrTo 0xD000 b), [5, 6], by decide⟩

theorem witness_WindowCommands_c8 :
    ∃ x : Xfer, ∃ a : Nat, ∃ s : State, s.body.answers x = true ∧ x.fit = .ok ∧ (s.body.ptr x.port (s.body.xferPaired x)).1 = a
      ∧ s.body.ptrValid x.port (s.body.xferPaired x) = true :=
  ⟨xfer, 0x2004, (at' fun b => (ptrTo 0x2004 b).wr .hpCfgRdwords 0 4), by decide⟩

theorem witness_Rejections_c1 :
    ∃ x : Xfer, ∃ v : Word, ∃ vs : List Word, ∃ n : Nat, ∃ w : Nat, ∃ p : Bool, ∃ s : State, ∃ i : Instr, s.body.doze = false ∧
      s.body.answers x = false ∧ i ∈ [Instr.capability x, .query x n, .statusByte x, .statusWord x, .pmbusRevision x, .mfrId x,
      .mfrModel x, .mfrRevision x, .mfrSerial x, .winAddrWrite x v, .winAddrRead x, .winDataWrite x v, .winDataRead x p,
      .winAutoincWrite x vs, .winAutoincRead x ⟨n, p⟩ w] :=
  ⟨xfer, 5, [5], 3, 22500, true, State.reset, (Instr.statusByte xfer), ⟨by decide, by decide, by simp⟩⟩

theorem witness_Rejections_c2 :
    ∃ x : Xfer, ∃ v : Word, ∃ vs : List Word, ∃ n : Nat, ∃ w : Nat, ∃ p : Bool, ∃ s : State, ∃ i : Instr, s.body.doze = false ∧
      s.body.answers x = true ∧ x.fit = .badCmd ∧ i ∈ [Instr.query x n, .winAddrWrite x v, .mfrId x] :=
  ⟨({ xfer with fit := .badCmd }), 5, [5], 3, 22500, true, (at' fun b => b), (Instr.mfrId { xfer with fit := .badCmd }),
    ⟨by decide, by decide, by decide, by simp⟩⟩

theorem witness_Rejections_c3 :
    ∃ x : Xfer, ∃ v : Word, ∃ vs : List Word, ∃ n : Nat, ∃ w : Nat, ∃ p : Bool, ∃ s : State, ∃ i : Instr, s.body.doze = false ∧
      s.body.answers x = true ∧ x.fit = .badLen ∧ i ∈ [Instr.query x n, .winAddrWrite x v, .mfrId x] :=
  ⟨({ xfer with fit := .badLen }), 5, [5], 3, 22500, true, (at' fun b => b), (Instr.mfrId { xfer with fit := .badLen }),
    ⟨by decide, by decide, by decide, by simp⟩⟩

theorem witness_Rejections_c4 :
    ∃ x : Xfer, ∃ v : Word, ∃ vs : List Word, ∃ n : Nat, ∃ w : Nat, ∃ p : Bool, ∃ s : State, s.body.doze = false ∧
      s.body.answers x = true ∧ x.fit = .ok ∧ x.pec = .bad :=
  ⟨({ xfer with pec := .bad }), 5, [5], 3, 22500, true, (at' fun b => b), by decide⟩

theorem witness_Rejections_c5 :
    ∃ x : Xfer, ∃ v : Word, ∃ vs : List Word, ∃ n : Nat, ∃ w : Nat, ∃ p : Bool, ∃ s : State, s.body.doze = false ∧
      s.body.answers x = true ∧ x.fit = .ok ∧ x.pec = .absent ∧ 2 ≤ s.body.rd .hostPecReq :=
  ⟨({ xfer with pec := .absent }), 5, [5], 3, 22500, true, (at' fun b => b.wr .hostPecReq 0 2), by decide⟩

theorem witness_Rejections_c6 :
    ∃ x : Xfer, ∃ v : Word, ∃ vs : List Word, ∃ n : Nat, ∃ w : Nat, ∃ p : Bool, ∃ s : State, s.body.doze = false ∧
      s.body.answers x = true ∧ x.fit = .ok ∧ x.pec = .absent ∧ s.body.rd .hostPecReq = 1 ∧ s.body.ptrValid x.port
      (s.body.xferPaired x) = true ∧ protectedAddr (s.body.ptr x.port (s.body.xferPaired x)).1 = true :=
  ⟨({ xfer with pec := .absent }), 5, [5], 3, 22500, true, (at' fun b => (ptrTo 0x2004 b).wr .hostPecReq 0 1), by decide⟩

theorem witness_Rejections_c7 :
    ∃ x : Xfer, ∃ v : Word, ∃ vs : List Word, ∃ n : Nat, ∃ w : Nat, ∃ p : Bool, ∃ s : State, ∃ i : Instr, s.body.doze = false ∧
      s.body.answers x = true ∧ s.body.ptrValid x.port (s.body.xferPaired x) = false ∧ i ∈ [Instr.winDataWrite x v, .winDataRead
      x p, .winAutoincWrite x vs, .winAutoincRead x ⟨n, p⟩ w] :=
  ⟨xfer, 5, [5], 3, 22500, true, (at' fun b => b), (Instr.winDataWrite xfer 5), ⟨by decide, by decide, by decide, by simp⟩⟩

theorem witness_Rejections_c8 :
    ∃ x : Xfer, ∃ v : Word, ∃ vs : List Word, ∃ n : Nat, ∃ w : Nat, ∃ p : Bool, ∃ s : State, s.body.doze = false ∧
      s.body.answers x = true ∧ s.body.ptrValid x.port (s.body.xferPaired x) = true ∧ x.fit = .ok ∧ (vs.length = 0 ∨ 63 <
      vs.length) :=
  ⟨xfer, 5, [], 3, 22500, true, (at' fun b => ptrTo 0x2004 b), by decide⟩

end Sys2Proof.Tests
end

section
/-!
SUPPORT. The role through a module start (R365, R450, R477): the start's reset gives STARTING, and nothing that phases 0 to 3
read, check or select changes it.
-/

namespace Sys2Proof.Proofs

open Sys2Proof Sys2Proof.Machine Sys2Proof.Safety Sys2Proof.Laws

/-! ### The role through the shared operations -/

/-- What leaves the rest of the module leaves the role. -/
theorem role_eq_of_outer_eq {b c : Body} (h : outer c = outer b) : c.role = b.role :=
  show (outer c).role = (outer b).role from congrArg Body.role h

@[simp] theorem event_role (t c n x y z : Nat) (b : Body) : (b.event t c n x y z).role = b.role :=
  role_eq_of_outer_eq (outer_event t c n x y z b)

@[simp] theorem raise_role (l : Leaf) (b : Body) : (b.raise l).role = b.role := role_eq_of_outer_eq (outer_raise l b)

/-- A list of writes, each to a field, index and value of its own. -/
@[simp] theorem foldl_wr_role (l : List Nat) (f : Fld) (i v : Nat → Nat) (b : Body) :
    (l.foldl (fun b n => b.wr f (i n) (v n)) b).role = b.role :=
  role_eq_of_outer_eq (outer_fold (fun b n => b.wr f (i n) (v n)) (fun _ _ => rfl) l b)

@[simp] theorem loadClasses_role (m : Sparse) (b : Body) : (b.loadClasses m).role = b.role :=
  foldl_wr_role _ .chClassFclass id _ b

/-! ### The role through the selection of a bank (R344, R347) -/

@[simp] theorem showDue_role (b : Body) : b.showDue.role = b.role := wr_role b _ _ _

@[simp] theorem takeBank_role (k : Nat) (b : Body) : (b.takeBank k).role = b.role := by
  unfold Body.takeBank
  rw [showDue_role, onMtr_role, foldl_wr_role]
  rfl

/-- The newest bank is taken where it is valid, else the older one as a rollback, else none: each leaves the role. -/
@[simp] theorem selectBank_role (e : Env) (b : Body) : (b.selectBank e).role = b.role := by
  unfold Body.selectBank
  extract_lets banks top noBank
  have hnone : (noBank b).role = b.role := (event_role ..).trans (takeBank_role 3 b)
  cases top with
  | none => exact hnone
  | some xy =>
    obtain ⟨x, y⟩ := xy
    dsimp only
    split
    · exact takeBank_role x.1 b
    · cases y with
      | none => exact hnone
      | some y =>
        dsimp only
        split
        · rw [event_role, raise_role, onMtr_role, wr_role, takeBank_role]
        · exact hnone

/-! ### The role through a module start (R477) -/

@[simp] theorem startReads_role (strap : Nat) (ambig differs : Bool) (e : Env) (b : Body) :
    (b.startReads strap ambig differs e).role = b.role := by
  simp only [Body.startReads, selectBank_role, wr_role, foldl_wr_role, apply_ite Body.role, loadClasses_role, ite_self]

@[simp] theorem restarted_role (now : Nat) (b : Body) : (b.restarted now).role = .starting := rfl

/-- A module start leaves the module STARTING, whatever its role was (R450, R477). -/
theorem moduleStart_role (ohms : Nat) (s : State) : Runs (.moduleStart ohms) s fun t => t.body.role = .starting :=
  ⟨_, rfl, by simp [onBody_body]⟩

/-- Settles O11: after a module start the role is STARTING, so not BENCH. -/
theorem startsOutsideBench : Obligations.StartsOutsideBench := by
  intro ohms s
  obtain ⟨t, hrun, hrole⟩ := moduleStart_role ohms s
  exact ⟨t, hrun, by simp [hrole]⟩

end Sys2Proof.Proofs
end

section
/-!
SUPPORT. What a module start shows of the Starch check (R477, R496): FAULT and CAUSE after its reads, the leaf that settling raises
while FAULT is 1, and what the selection of a bank leaves.
-/

namespace Sys2Proof.Proofs

open Sys2Proof Sys2Proof.Machine Sys2Proof.Safety Sys2Proof.Laws

/-! ### Registers through the shared operations -/

/-- A register through a fold whose steps leave it. -/
theorem rd_foldl {α : Type} (f : Body → α → Body) (g : Fld) (j : Nat) (hf : ∀ b a, (f b a).rd g j = b.rd g j) (l : List α)
    (b : Body) : (l.foldl f b).rd g j = b.rd g j := by
  induction l generalizing b with
  | nil => rfl
  | cons a l ih => exact (ih _).trans (hf b a)

/-- A register through a list of writes to another field. -/
@[simp] theorem rd_foldl_wr (l : List Nat) (f : Fld) (i v : Nat → Nat) (b : Body) (g : Fld) (j : Nat) (h : g ≠ f) :
    (l.foldl (fun b n => b.wr f (i n) (v n)) b).rd g j = b.rd g j :=
  rd_foldl _ g j (fun b n => rd_wr_fld b f g (i n) j (v n) h) l b

/-- A record that goes out is no register write. -/
@[simp] theorem event_rd (t c n x y z : Nat) (b : Body) (g : Fld) (j : Nat) : (b.event t c n x y z).rd g j = b.rd g j := by
  unfold Body.event Body.shared Body.sendBluli
  simp only [apply_ite (fun c : Body => c.rd g j), onTwin_rd, emit_rd, ite_self]

/-- A leaf of the groups is written in ALERT.LEAF alone. -/
theorem raise_rd (l : Leaf) (b : Body) (g : Fld) (j : Nat) (h : g ≠ .alertLeaf) : (b.raise l).rd g j = b.rd g j := by
  unfold Body.raise
  split
  · rfl
  · split
    · rfl
    · exact rd_wr_fld _ _ _ _ _ _ h

/-- A leaf of a channel is written in ALERT.CHLEAF alone. -/
theorem raiseCh1_rd (n : Nat) (l : ChLeaf) (b : Body) (g : Fld) (j : Nat) (h : g ≠ .alertChleaf) :
    (b.raiseCh1 n l).rd g j = b.rd g j := by
  unfold Body.raiseCh1
  split
  · rfl
  · split
    · rfl
    · exact rd_wr_fld _ _ _ _ _ _ h

theorem raiseCh_rd (n : Nat) (l : ChLeaf) (b : Body) (g : Fld) (j : Nat) (h : g ≠ .alertChleaf) :
    (b.raiseCh n l).rd g j = b.rd g j :=
  rd_foldl _ g j (fun b m => raiseCh1_rd m l b g j h) _ b

/-! ### The level leaves in settling (R565, R573) -/

theorem bitAt_eq_testBit (x i : Nat) : bitAt x i = x.testBit i := Nat.testBit_eq_decide_div_mod_eq.symm

/-- A level sets its bits in the leaves of its group. -/
def setLevel (b : Body) (l : Nat × Nat) : Body :=
  if l.2 = 0 then b else b.wr .alertLeaf l.1 (orBits (b.rd .alertLeaf l.1) l.2)

/-- A leaf reads 1 after a level just where it did before or the level sets it. -/
theorem bitAt_setLevel (b : Body) (l : Nat × Nat) (g i : Nat) (hi : i < 32) :
    bitAt ((setLevel b l).rd .alertLeaf g) i = (bitAt (b.rd .alertLeaf g) i || (decide (l.1 = g) && bitAt l.2 i)) := by
  obtain ⟨k, v⟩ := l
  unfold setLevel
  by_cases hv : v = 0
  · simp [hv, bitAt_eq_testBit]
  · by_cases hk : k = g
    · have hw : fieldWidth .alertLeaf = 32 := rfl
      subst hk
      have hor : ∀ x y, orBits x y = x ||| y := fun _ _ => rfl
      simp only [hv, if_false, rd_wr_same, hw, bitAt_eq_testBit, Nat.testBit_mod_two_pow, hi, hor, Nat.testBit_or, decide_true,
        Bool.true_and]
    · simp [hv, hk, rd_wr, Ne.symm hk]

/-- A leaf whose level is listed, or that is set already, is set once the levels are. -/
theorem bitAt_setLevels (g i : Nat) (hi : i < 32) (ls : List (Nat × Nat)) (b : Body)
    (h : bitAt (b.rd .alertLeaf g) i = true ∨ ∃ v, (g, v) ∈ ls ∧ bitAt v i = true) :
    bitAt ((ls.foldl setLevel b).rd .alertLeaf g) i = true := by
  induction ls generalizing b with
  | nil => simpa using h
  | cons l ls ih =>
    refine ih _ ?_
    rw [bitAt_setLevel b l g i hi]
    rcases h with h | ⟨v, hv, hbit⟩
    · simp [h]
    · rcases List.mem_cons.1 hv with rfl | hv
      · simp [hbit]
      · exact .inr ⟨v, hv, hbit⟩

/-- No level depends on what settling may change. -/
theorem levels_of_settled {b c : Body} (h : Settled b c) (e : Env) : c.levels e = b.levels e := by
  unfold Body.levels Body.flag
  rw [h.role, h.health]
  simp only [h.rd _ _ (show isTree .recDevstatCritWarn = false from rfl), h.rd .recStatLedgerNearFull _ rfl,
    h.rd .recStatTrendFill _ rfl, h.rd .healthKeeperLow _ rfl, h.rd .starchStatFault _ rfl, h.rd .starchFusectlResult _ rfl,
    h.rd .modImgstatCause _ rfl, h.rd .metaCalintDueRem _ rfl, h.rd .metaCalstatNone _ rfl, h.rd .metaRefstatHeaterFault _ rfl]

/-- The yields of a bus pause leave the leaves of the groups. -/
theorem pauseYields_leaf (e : Env) (b : Body) (g : Nat) : (b.pauseYields e).rd .alertLeaf g = b.rd .alertLeaf g := by
  unfold Body.pauseYields
  split
  · rfl
  · refine rd_foldl _ _ _ (fun b n => ?_) _ b
    simp [Body.yieldTo, raiseCh_rd]

/-- A level of ALERT_N leaves the leaves of the groups. -/
theorem drivePin_leaf (low : Bool) (b : Body) (g : Nat) : (b.drivePin low).rd .alertLeaf g = b.rd .alertLeaf g := by
  have h : ∀ c : Body, ({ c with alertLow := low } : Body).rd .alertLeaf g = c.rd .alertLeaf g := fun _ => rfl
  unfold Body.drivePin
  rw [h]
  split
  · refine (rd_foldl _ _ _ (fun b p => ?_) _ _).trans (rd_wr_fld _ _ _ _ _ _ (by simp))
    split
    · exact rd_wr_fld b .hpStatAttnPend .alertLeaf p g 1 (by simp)
    · rfl
  · split
    · exact rd_foldl _ _ _ (fun b p => rd_wr_fld _ _ _ _ _ _ (by simp)) _ _
    · rfl

/-- From module start on, settling sets every leaf whose level holds (R565). -/
theorem settle_sets_level (e : Env) (b : Body) (hhub : b.hubDown = false) (hdoze : b.doze = false)
    (hphase : b.rd .modBootPhase ≠ 0) {g v i : Nat} (hi : i < 32) (hv : (g, v) ∈ b.levels e) (hbit : bitAt v i = true) :
    bitAt ((b.settle e).rd .alertLeaf g) i = true := by
  have h0 : Settled b b.gather.formReady.sendGains :=
    ((settled_gather b).trans (settled_formReady _)).trans (settled_foldl _ (fun b l => settled_sendGain l b) _ _)
  unfold Body.settle
  dsimp only
  rw [h0.hubDown, h0.doze, h0.rd .modBootPhase 0 rfl, levels_of_settled h0, hhub, hdoze, if_neg hphase]
  simp only [Bool.false_eq_true, if_false]
  rw [drivePin_leaf, pauseYields_leaf, rd_foldl _ _ _ fun b l => raiseCh1_rd _ _ b _ _ (by simp)]
  exact bitAt_setLevels g i hi (b.levels e) _ (.inr ⟨v, hv, hbit⟩)

/-- What both branches are bounded by bounds the choice. -/
theorem ite_le {p : Prop} [Decidable p] {x y a : Nat} (hx : x ≤ a) (hy : y ≤ a) : (if p then x else y) ≤ a := by
  split <;> assumption

/-- The other levels of group 10 lie below bit 11 and do not carry into it. -/
theorem bitAt_sum_eleven {a b c d f : Nat} (ha : a ≤ 2 ^ 10) (hb : b ≤ 2 ^ 9) (hc : c ≤ 2 ^ 7) (hd : d ≤ 2 ^ 4) (hf : f ≤ 2 ^ 2) :
    bitAt (2 ^ 11 + a + b + c + d + f) 11 = true := by
  rw [bitAt, decide_eq_true_eq]
  omega

/-- While FAULT is 1, STARCH_FAULT is one of the level leaves that hold (R496, R573). -/
theorem starchFault_mem_levels (e : Env) (b : Body) (h : b.rd .starchStatFault = 1) :
    ∃ v, (10, v) ∈ b.levels e ∧ bitAt v 11 = true := by
  refine ⟨_, by unfold Body.levels; simp only [List.mem_cons]; exact .inr (.inr (.inr (.inr (.inl rfl)))), ?_⟩
  have hflag : b.flag .starchStatFault = true := by simp [Body.flag, h]
  rw [if_pos (.inl hflag)]
  refine bitAt_sum_eleven (ite_le ?_ ?_) (ite_le ?_ ?_) (ite_le ?_ ?_) (ite_le ?_ ?_) (ite_le ?_ ?_) <;> decide

/-! ### The selection of a bank (R344, R347) -/

/-- The registers that show the bank in force: META's, and ALERT.LEAF for its fallback (R344, R347, R356). -/
def showsBank (f : Fld) : Bool :=
  match f with
  | .metaCalstatBank | .metaEpochEpoch | .metaCalseqSeq | .metaCalstatNone | .metaCalstatTimeUntraced | .metaDigestD
  | .metaCalintDueRem | .metaCalstatRollback | .alertLeaf => true
  | _ => false

/-- A field that shows no bank is none of those that do. -/
theorem ne_of_showsBank {f g : Fld} (hf : showsBank f = false) (hg : showsBank g = true) : f ≠ g := by
  rintro rfl
  simp [hf] at hg

/-- A start takes the newest bank, the older one as a rollback, or none (R347). -/
theorem selectBank_cases (e : Env) (b : Body) :
    (∃ k, b.selectBank e = b.takeBank k) ∨
    (∃ k x y, b.selectBank e = (((((b.takeBank k).wr .metaCalstatRollback 0 1).onMtr fun m => { m with rolled := true }).raise
      (10, 3)).event e.count 0x0102 0xFF x y 0)) ∨
    b.selectBank e = (b.takeBank 3).event e.count 0x0103 0xFF 0 0 0 := by
  unfold Body.selectBank
  extract_lets banks top noBank
  cases top with
  | none => exact .inr (.inr rfl)
  | some xy =>
    obtain ⟨x, y⟩ := xy
    dsimp only
    split
    · exact .inl ⟨_, rfl⟩
    · cases y with
      | none => exact .inr (.inr rfl)
      | some y =>
        dsimp only
        split
        · exact .inr (.inl ⟨_, _, _, rfl⟩)
        · exact .inr (.inr rfl)

theorem takeBank_rd (k : Nat) (b : Body) (f : Fld) (i : Nat) (h : showsBank f = false) : (b.takeBank k).rd f i = b.rd f i := by
  have hwr : ∀ (c : Body) (g : Fld) (j v : Nat), showsBank g = true → (c.wr g j v).rd f i = c.rd f i :=
    fun c g j v hg => rd_wr_fld c g f j i v (ne_of_showsBank h hg)
  unfold Body.takeBank Body.showDue
  rw [hwr _ _ _ _ rfl, onMtr_rd, rd_foldl _ _ _ fun b i => hwr b _ _ _ rfl]
  simp only [hwr _ _ _ _ (show showsBank .metaCalstatBank = true from rfl), hwr _ .metaEpochEpoch _ _ rfl,
    hwr _ .metaCalseqSeq _ _ rfl, hwr _ .metaCalstatNone _ _ rfl, hwr _ .metaCalstatTimeUntraced _ _ rfl]

/-- The selection of a bank leaves every register that shows none. -/
theorem selectBank_rd (e : Env) (b : Body) (f : Fld) (i : Nat) (h : showsBank f = false) : (b.selectBank e).rd f i = b.rd f i := by
  obtain ⟨k, hk⟩ | ⟨k, x, y, hk⟩ | hk := selectBank_cases e b <;> rw [hk]
  · exact takeBank_rd k b f i h
  · rw [event_rd, raise_rd _ _ _ _ (ne_of_showsBank h rfl), onMtr_rd, rd_wr_fld _ _ _ _ _ _ (ne_of_showsBank h rfl),
      takeBank_rd k b f i h]
  · rw [event_rd, takeBank_rd 3 b f i h]

/-- A list of writes, each to a field, index and value of its own. -/
@[simp] theorem outer_foldl_wr (l : List Nat) (f : Fld) (i v : Nat → Nat) (b : Body) :
    outer (l.foldl (fun b n => b.wr f (i n) (v n)) b) = outer b :=
  outer_fold (fun b n => b.wr f (i n) (v n)) (fun _ _ => rfl) l b

/-- The body with everything taken out that the selection of a bank may change. -/
def besideBank (b : Body) : Body := { outer b with mtr := Meter.reset }

theorem besideBank_of_outer {b c : Body} (h : outer c = outer b) : besideBank c = besideBank b :=
  congrArg (fun b : Body => { b with mtr := Meter.reset }) h

@[simp] theorem besideBank_onMtr (f : Meter → Meter) (b : Body) : besideBank (b.onMtr f) = besideBank b := rfl

@[simp] theorem besideBank_takeBank (k : Nat) (b : Body) : besideBank (b.takeBank k) = besideBank b := by
  unfold Body.takeBank Body.showDue
  rw [besideBank_of_outer (outer_wr ..), besideBank_onMtr]
  refine besideBank_of_outer ?_
  simp only [outer_foldl_wr, outer_wr]

/-- The selection of a bank leaves the rest of the module. -/
theorem besideBank_selectBank (e : Env) (b : Body) : besideBank (b.selectBank e) = besideBank b := by
  obtain ⟨k, hk⟩ | ⟨k, x, y, hk⟩ | hk := selectBank_cases e b <;> rw [hk]
  · exact besideBank_takeBank k b
  · rw [besideBank_of_outer (outer_event ..), besideBank_of_outer (outer_raise ..), besideBank_onMtr,
      besideBank_of_outer (outer_wr ..), besideBank_takeBank]
  · rw [besideBank_of_outer (outer_event ..), besideBank_takeBank]

/-! ### What a start reads (R477, R493, R496) -/

/-- The classes of the map are written in CH.CLASS.FCLASS alone. -/
@[simp] theorem loadClasses_rd (m : Sparse) (b : Body) (g : Fld) (j : Nat) (h : g ≠ .chClassFclass) :
    (b.loadClasses m).rd g j = b.rd g j :=
  rd_foldl_wr _ .chClassFclass id _ b g j h

@[simp] theorem outer_loadClasses (m : Sparse) (b : Body) : outer (b.loadClasses m) = outer b :=
  outer_foldl_wr _ .chClassFclass id _ b

/-- What a start reads and checks shows in registers and in the bank in force alone. -/
theorem besideBank_startReads (strap : Nat) (ambig differs : Bool) (e : Env) (b : Body) :
    besideBank (b.startReads strap ambig differs e) = besideBank b := by
  unfold Body.startReads
  dsimp only
  rw [besideBank_selectBank]
  refine besideBank_of_outer ?_
  rw [outer_wr, outer_wr, outer_foldl_wr, apply_ite outer, outer_wr, outer_wr, ite_self, outer_wr, outer_loadClasses,
    outer_wr, outer_wr, outer_wr]

theorem startReads_hubDown (strap : Nat) (ambig differs : Bool) (e : Env) (b : Body) :
    (b.startReads strap ambig differs e).hubDown = b.hubDown :=
  show (besideBank _).hubDown = (besideBank b).hubDown from congrArg Body.hubDown (besideBank_startReads ..)

theorem startReads_doze (strap : Nat) (ambig differs : Bool) (e : Env) (b : Body) :
    (b.startReads strap ambig differs e).doze = b.doze :=
  show (besideBank _).doze = (besideBank b).doze from congrArg Body.doze (besideBank_startReads ..)

/-- The reads end in phase 3. -/
theorem startReads_bootPhase (strap : Nat) (ambig differs : Bool) (e : Env) (b : Body) :
    (b.startReads strap ambig differs e).rd .modBootPhase = 3 := by
  unfold Body.startReads
  rw [selectBank_rd _ _ _ _ rfl, rd_wr_same]
  rfl

/-- A sealed map with another CRC word fails the check: FAULT is 1 and CAUSE 4 (R496). -/
theorem startReads_of_crc_ne (strap : Nat) (ambig differs : Bool) (e : Env) (b : Body) (hsealed : sealed e.map = true)
    (hcrc : starchCrc e.map ≠ sparseGet 0 e.map 127) :
    (b.startReads strap ambig differs e).rd .starchStatFault = 1 ∧ (b.startReads strap ambig differs e).rd .modImgstatCause = 4 := by
  unfold Body.startReads
  dsimp only
  rw [if_pos ⟨hsealed, hcrc⟩, selectBank_rd _ _ _ _ rfl, selectBank_rd _ _ _ _ rfl]
  simp [show fieldWidth .starchStatFault = 1 from rfl, show fieldWidth .modImgstatCause = 4 from rfl]

/-- A map that is not sealed, or has its CRC word, leaves FAULT and CAUSE (R496). -/
theorem startReads_of_crc_eq (strap : Nat) (ambig differs : Bool) (e : Env) (b : Body)
    (hok : sealed e.map = false ∨ starchCrc e.map = sparseGet 0 e.map 127) :
    (b.startReads strap ambig differs e).rd .starchStatFault = b.rd .starchStatFault ∧
      (b.startReads strap ambig differs e).rd .modImgstatCause = b.rd .modImgstatCause := by
  have hpass : ¬ (sealed e.map = true ∧ starchCrc e.map ≠ sparseGet 0 e.map 127) := by
    rintro ⟨hsealed, hcrc⟩
    rcases hok with h | h
    · simp [h] at hsealed
    · exact hcrc h
  unfold Body.startReads
  dsimp only
  rw [if_neg hpass, selectBank_rd _ _ _ _ rfl, selectBank_rd _ _ _ _ rfl]
  simp

/-! ### The start's reset (R477) -/

/-- A key that a filter drops reads its default. -/
theorem sparseGet_filter_dropped (d : Nat) (p : Nat × Nat → Bool) (q : Nat) (h : ∀ v, p (q, v) = false) (m : Sparse) :
    sparseGet d (m.filter p) q = d := by
  induction m with
  | nil => rfl
  | cons e m ih =>
    obtain ⟨k, v⟩ := e
    rw [List.filter_cons]
    split
    · have hk : k ≠ q := by
        rintro rfl
        simp_all
      simpa [sparseGet, hk] using ih
    · exact ih

/-- A register that neither the ledger store nor manufacture holds reads its reset value (R10, R477). -/
theorem restarted_rd (now : Nat) (b : Body) (f : Fld) (i : Nat) (h : f.keptByStart = false) :
    (b.restarted now).rd f i = fieldReset f i :=
  sparseGet_filter_dropped _ _ _ (fun _ => by simpa using h) b.regs

/-! ### The module start -/

/-- A module start settles what the reads make of the start's reset, with the fuses as the map in force (R477, R493). -/
theorem moduleStart_runs (ohms : Nat) (s : State) (P : State → Prop)
    (h : ∀ (t : State) (now strap : Nat) (ambig differs : Bool) (e : Env), e.map = s.starch.fuses →
      t.body = ((s.body.restarted now).startReads strap ambig differs e).settle e → P t) : Runs (.moduleStart ohms) s P :=
  ⟨_, rfl, h _ _ _ _ _ _ rfl (onBody_body _ _)⟩

/-- Settles O12: the reads write the outcome of the check, settling raises the leaf, and the flash waits for FAULT 0. -/
theorem starchCheckedAtStart : Obligations.StarchCheckedAtStart := by
  intro ohms s
  constructor
  · intro hsealed hcrc
    refine moduleStart_runs ohms s _ fun t now strap ambig differs e hmap hbody => ?_
    rw [← hmap] at hsealed hcrc
    obtain ⟨hfault, hcause⟩ := startReads_of_crc_ne strap ambig differs e (s.body.restarted now) hsealed hcrc
    obtain ⟨v, hv, hbit⟩ := starchFault_mem_levels e _ hfault
    have hleaf := settle_sets_level e _ (startReads_hubDown ..) (startReads_doze ..) (by simp [startReads_bootPhase]) (by decide)
      hv hbit
    have hfault' : t.body.rd .starchStatFault = 1 := by rw [hbody, settle_rd _ _ _ _ rfl, hfault]
    refine ⟨hfault', by rw [hbody]; exact hleaf, by rw [hbody, settle_rd _ _ _ _ rfl, hcause], ?_⟩
    simp [Body.readsFlash, Body.flag, hfault']
  · intro hok
    refine moduleStart_runs ohms s _ fun t now strap ambig differs e hmap hbody => ?_
    rw [← hmap] at hok
    obtain ⟨hfault, hcause⟩ := startReads_of_crc_eq strap ambig differs e (s.body.restarted now) hok
    rw [hbody, settle_rd _ _ _ _ rfl, settle_rd _ _ _ _ rfl, hfault, hcause, restarted_rd _ _ _ _ rfl, restarted_rd _ _ _ _ rfl]
    decide

end Sys2Proof.Proofs
end

section
/-!
SUPPORT. The frames that wait for a die: settling appends whole gain tables alone (R117), and a die that applies frames of fields writes
no register of HUB (R33, R37).
-/

namespace Sys2Proof.Proofs

open Sys2Proof Sys2Proof.Machine Sys2Proof.Safety Sys2Proof.Laws

/-! ### Folds -/

/-- A part of the body through a fold whose steps leave it. -/
theorem part_foldl {α β : Type} (p : Body → β) (f : Body → α → Body) (hf : ∀ b a, p (f b a) = p b) (l : List α) (b : Body) :
    p (l.foldl f b) = p b := by
  induction l generalizing b with
  | nil => rfl
  | cons a l ih => exact (ih _).trans (hf b a)

/-! ### The dies through the alert tree -/

@[simp] theorem event_die (t c n x y z : Nat) (b : Body) : (b.event t c n x y z).die = b.die := by
  unfold Body.event Body.shared Body.sendBluli
  simp only [apply_ite Body.die, onTwin_die, emit_die, ite_self]

@[simp] theorem raise_die (l : Leaf) (b : Body) : (b.raise l).die = b.die := by
  unfold Body.raise
  simp only [apply_ite Body.die, wr_die, ite_self]

@[simp] theorem raiseCh1_die (n : Nat) (l : ChLeaf) (b : Body) : (b.raiseCh1 n l).die = b.die := by
  unfold Body.raiseCh1
  simp only [apply_ite Body.die, wr_die, ite_self]

@[simp] theorem raiseCh_die (n : Nat) (l : ChLeaf) (b : Body) : (b.raiseCh n l).die = b.die :=
  part_foldl Body.die _ (fun b m => raiseCh1_die m l b) _ b

@[simp] theorem formReady_die (b : Body) : b.formReady.die = b.die := by
  unfold Body.formReady
  simp only [apply_ite Body.die, raise_die, wr_die, ite_self]

@[simp] theorem setLevel_die (b : Body) (l : Nat × Nat) : (setLevel b l).die = b.die := by
  unfold setLevel
  simp only [apply_ite Body.die, wr_die, ite_self]

@[simp] theorem pauseYields_die (e : Env) (b : Body) : (b.pauseYields e).die = b.die := by
  unfold Body.pauseYields
  split
  · rfl
  · refine part_foldl Body.die _ (fun b n => ?_) _ b
    simp [Body.yieldTo]

@[simp] theorem drivePin_die (low : Bool) (b : Body) : (b.drivePin low).die = b.die := by
  have h : ∀ c : Body, ({ c with alertLow := low } : Body).die = c.die := fun _ => rfl
  unfold Body.drivePin
  rw [h]
  split
  · refine (part_foldl Body.die _ (fun b p => ?_) _ _).trans (wr_die ..)
    simp only [apply_ite Body.die, onHp_die, wr_die, ite_self]
  · split
    · exact part_foldl Body.die _ (fun b p => wr_die ..) _ _
    · rfl

/-! ### The frames that settling sends -/

/-- The frames that wait for a die are a part of the dies. -/
theorem down_of_die {b c : Body} (h : c.die = b.die) (k : Nat) : (c.fe k).down = (b.fe k).down := by
  unfold Body.fe
  rw [h]

/-- A change of a die that leaves the frames that wait for it. -/
theorem onDie_down (b : Body) (j k : Nat) (f : Die → Die) (hf : ∀ d, (f d).down = d.down) :
    ((b.onDie j f).fe k).down = (b.fe k).down := by
  rw [fe_onDie]
  split
  · rename_i h
    rw [hf, show b.fe j = b.fe k by unfold Body.fe; simp only [h]]
  · rfl

theorem gather_down (b : Body) (k : Nat) : (b.gather.fe k).down = (b.fe k).down := by
  refine (down_of_die (onRcd_die b.gatherScans _) k).trans ?_
  unfold Body.gatherScans
  split
  · refine part_foldl (fun c => (c.fe k).down) _ (fun c j => ?_) _ b
    dsimp only
    split
    · exact onDie_down c j k _ fun _ => rfl
    · rfl
  · rfl

/-- All that a step appends to the frames that wait for die k are host writes of fields (R33, R36). -/
def AddsFields (k : Nat) (b c : Body) : Prop :=
  ∃ gs : List (List (Nat × Nat)), (c.fe k).down = (b.fe k).down ++ gs.map (.fields true)

theorem AddsFields.of_down_eq {k : Nat} {b c : Body} (h : (c.fe k).down = (b.fe k).down) : AddsFields k b c := ⟨[], by simp [h]⟩

theorem AddsFields.trans {k : Nat} {a b c : Body} (h : AddsFields k a b) (h' : AddsFields k b c) : AddsFields k a c := by
  obtain ⟨gs, hgs⟩ := h
  obtain ⟨gs', hgs'⟩ := h'
  exact ⟨gs ++ gs', by rw [hgs', hgs, List.map_append, List.append_assoc]⟩

/-- A gain table goes to the die of its channel as one frame of fields (R117). -/
theorem addsFields_sendGain (l k : Nat) (b : Body) : AddsFields k b (b.sendGain l) := by
  unfold AddsFields Body.sendGain Body.sendDown
  rw [fe_onDie]
  split
  · rename_i h
    rw [show b.fe k = b.fe (dieOf l) by unfold Body.fe; simp only [h]]
    exact ⟨[(List.range 32).flatMap fun i => [(fkey .tablesGainKp (32 * l + i), b.rd .tablesGainKp (32 * l + i)),
      (fkey .tablesGainKi (32 * l + i), b.rd .tablesGainKi (32 * l + i))]], rfl⟩
  · exact ⟨[], by simp [Body.fe]⟩

theorem addsFields_sendGains (k : Nat) (b : Body) : AddsFields k b b.sendGains := by
  unfold Body.sendGains
  exact List.foldlRecOn (motive := AddsFields k b) _ _ (.of_down_eq rfl)
    fun c hc l _ => hc.trans (addsFields_sendGain l k c)

/-- Settling appends gain tables alone (R117). -/
theorem addsFields_settle (e : Env) (b : Body) (k : Nat) : AddsFields k b (b.settle e) := by
  have h : AddsFields k b b.gather.formReady.sendGains :=
    (AddsFields.of_down_eq ((down_of_die (formReady_die _) k).trans (gather_down b k))).trans (addsFields_sendGains k _)
  unfold Body.settle
  dsimp only
  split
  · exact h.trans (.of_down_eq (down_of_die (drivePin_die ..) k))
  · split
    · exact h
    · refine h.trans (.of_down_eq (down_of_die ?_ k))
      rw [drivePin_die, pauseYields_die, part_foldl Body.die _ fun b l => raiseCh1_die _ _ b]
      exact part_foldl Body.die setLevel setLevel_die _ _

/-! ### Frames of fields at a die -/

@[simp] theorem disturb_rd (k u : Nat) (b : Body) (g : Fld) (j : Nat) : (b.disturb k u).rd g j = b.rd g j := rfl

@[simp] theorem filterChange_rd (k key : Nat) (b : Body) (g : Fld) (j : Nat) : (b.filterChange k key).rd g j = b.rd g j := by
  unfold Body.filterChange
  dsimp only
  split <;> rfl

/-- A frame of fields writes the die's registers, none of HUB's (R33). -/
theorem applyDown_fields_rd (e : Env) (k : Nat) (h : Bool) (kvs : List (Nat × Nat)) (b : Body) (g : Fld) (j : Nat) :
    (b.applyDown e k (.fields h kvs)).rd g j = b.rd g j :=
  rd_foldl (fun (b : Body) (kv : Nat × Nat) => b.filterChange k kv.1) g j (fun b kv => filterChange_rd k kv.1 b g j) kvs _

/-- A die for which only frames of fields wait applies them all without a write of HUB's registers (R37). -/
theorem drain_rd (e : Env) (k : Nat) (b : Body) (gs : List (List (Nat × Nat))) (h : (b.fe k).down = gs.map (.fields true))
    (g : Fld) (j : Nat) : (b.drain e k).rd g j = b.rd g j := by
  unfold Body.drain
  rw [h, framed_rd, List.foldl_map, rd_foldl _ g j fun b kvs => applyDown_fields_rd e k true kvs b g j, framed_rd, onDie_rd]

end Sys2Proof.Proofs
end

section
/-!
SUPPORT. A window command that a port takes (R542, R545 to R548), and the addresses of its word that are in no region or hold no register
(R552).
-/

namespace Sys2Proof.Proofs

open Sys2Proof Sys2Proof.Machine Sys2Proof.Safety Sys2Proof.Laws

/-! ### What follows every command, carried through an effect -/

theorem settled_wr_wr {b c : Body} (h : Settled b c) (f : Fld) (i v : Nat) : Settled (b.wr f i v) (c.wr f i v) :=
  { h with rd := fun g j hg => by simp only [rd_wr, h.rd g j hg] }

theorem settled_portCount {b c : Body} (h : Settled b c) (p : Nat) : Settled (b.portCount p) (c.portCount p) := by
  unfold Body.portCount
  rw [h.rd .hpCntAccepted p rfl]
  exact settled_wr_wr h _ _ _

/-- `Body.flagUnmapped` of one address, but for the leaf that it raises (R552). -/
def setUnmapped (p a : Nat) (b : Body) : Body := if inRegion a then b else b.wr .hpStatUnmapped p 1

theorem setUnmapped_rd (p a : Nat) (b : Body) :
    (setUnmapped p a b).rd .hpStatUnmapped p = if inRegion a then b.rd .hpStatUnmapped p else 1 := by
  unfold setUnmapped
  split
  · rfl
  · exact rd_wr_same ..

/-- UNMAPPED is set for an address in no region alone, and its leaf is one of the alert tree (R552, R563). -/
theorem settled_flagUnmapped {b c : Body} (h : Settled b c) (p a : Nat) : Settled (setUnmapped p a b) (c.flagUnmapped p [a]) := by
  unfold setUnmapped Body.flagUnmapped
  cases ha : inRegion a
  · simp only [List.all_cons, ha, Bool.false_and, Bool.false_eq_true, if_false]
    exact (settled_wr_wr h _ _ _).trans (settled_raise _ _)
  · simpa only [List.all_cons, ha, List.all_nil, Bool.and_self, if_true] using h

/-- The module answers a read. -/
def answering (r : List Nat) (b : Body) : Body := { b with reply := r }

theorem settled_answering {b c : Body} (h : Settled b c) (r : List Nat) : Settled (answering r b) (answering r c) :=
  { h with reply := rfl }

/-- No address of the module depends on what settling may change (R537 to R540). -/
theorem xferPaired_of_settled {b c : Body} (h : Settled b c) (x : Xfer) : c.xferPaired x = b.xferPaired x := by
  unfold Body.xferPaired Body.isPair Body.pairAddress Body.baseAddr
  rw [h.rd .hostAddrcfgPair 0 rfl, h.rd .modStrapS 0 rfl]

theorem ptrValid_of_settled {b c : Body} (h : Settled b c) (p : Nat) (pair : Bool) : c.ptrValid p pair = b.ptrValid p pair := by
  have hfld : isTree (if pair then .hpStatPairValid else .hpStatOwnValid) = false := by cases pair <;> rfl
  unfold Body.ptrValid Body.flag
  rw [h.rd _ p hfld]

theorem passes_of_settled {b c : Body} (h : Settled b c) : c.passes = b.passes := by
  unfold Body.passes
  rw [h.twin]

/-- The second state is the first with a new body, but for what follows every command: what `Becomes` says of a command's answer. -/
structure Reaches (s t : State) (b : Body) : Prop where
  pending : t.pending = s.pending
  starch : t.starch = s.starch
  time : t.time = s.time
  body : Settled b t.body

theorem Reaches.refl (s : State) : Reaches s s s.body := ⟨rfl, rfl, rfl, .refl _⟩

theorem Reaches.onBody {s t : State} {b b' : Body} (h : Reaches s t b) (f : Env → Body → Body) (hf : Settled b' (f t.env t.body)) :
    Reaches s (t.onBody f) b' :=
  ⟨h.pending, h.starch, h.time, hf.trans (settled_settle _ _)⟩

theorem Reaches.becomes {s t : State} {b : Body} {i : Instr} (h : Reaches s t b) (hi : exec i s = .next t) : Becomes i s b :=
  ⟨t, hi, h.pending, h.starch, h.time, h.body⟩

/-! ### A transaction that is taken -/

/-- The module, awake, takes a window command over a valid pointer, with its PEC. -/
structure Taken (x : Xfer) (s : State) : Prop where
  awake : s.body.doze = false
  answered : s.body.answers x = true
  fits : x.fit = .ok
  signed : x.pec = .good
  pointed : s.body.ptrValid x.port (s.body.xferPaired x) = true

/-- The state at a taken command's effect: a requested doze is abandoned (R52). -/
def stirred (s : State) : State := s.onBody fun e b => b.stir e

namespace Taken

variable {x : Xfer} {s : State}

theorem hubDown (h : Taken x s) : s.body.hubDown = false := by
  have hans := h.answered
  simp only [Body.answers, Bool.and_eq_true, Bool.not_eq_true'] at hans
  obtain ⟨⟨-, hhub⟩, -⟩ := hans
  exact hhub

theorem stirred_body (h : Taken x s) : (stirred s).body = ({ s.body with dozeReq := none } : Body).settle s.env := by
  have hstir : s.body.stir s.env = { s.body with dozeReq := none } := if_neg (by simp [h.awake])
  rw [← hstir]
  rfl

theorem reaches_stirred (h : Taken x s) : Reaches s (stirred s) { s.body with dozeReq := none } :=
  ⟨rfl, rfl, rfl, h.stirred_body ▸ settled_settle _ _⟩

/-- The frames that a die finds at the effect: those that waited, and gain tables (R117). -/
theorem addsFields_stirred (h : Taken x s) (k : Nat) : AddsFields k s.body (stirred s).body := by
  rw [h.stirred_body]
  exact addsFields_settle s.env { s.body with dozeReq := none } k

/-- No STAT bit bars it (R542, R545 to R547). -/
theorem portBar_stirred (h : Taken x s) (kind : XferKind) : (stirred s).body.portBar x true kind = none := by
  have hs := h.reaches_stirred.body
  have hptr : (stirred s).body.ptrValid x.port ((stirred s).body.xferPaired x) = true := by
    rw [ptrValid_of_settled hs, xferPaired_of_settled hs]
    exact h.pointed
  unfold Body.portBar
  rw [hptr, h.fits, h.signed]
  cases kind <;> rfl

/-- It has its effect and is counted (R542, R563). -/
theorem serve_eq (h : Taken x s) (kind : XferKind) (f : State → State) :
    s.serve x true kind f = (f (stirred s)).onBody fun _ b => b.portCount x.port := by
  have hbar := h.portBar_stirred kind
  unfold stirred at hbar
  unfold State.serve
  simp only [h.answered, Bool.not_true, Bool.false_eq_true, if_false, hbar]
  rfl

end Taken

/-! ### Words without a register -/

/-- A word without a register is none of those that a host access treats apart. -/
theorem ne_of_hits_nil {a c : Nat} (h : hits a = []) (hc : (hits c).isEmpty = false) : a ≠ c := by
  rintro rfl
  simp [h] at hc

/-- A write of a HUB-held word without a register changes nothing (R552). -/
theorem hubWrite_of_hits_nil (e : Env) {a : Nat} (word : Nat) (b : Body) (h : hits a = []) : b.hubWrite e a word = b := by
  simp [Body.hubWrite, h, Body.writeFields, Body.taking, Body.writeClears]

/-- A write at a die of a word without a register changes nothing (R552). -/
theorem feWrite_of_hits_nil (e : Env) (k : Nat) {a : Nat} (word : Nat) (unlocked : Bool) (b : Body) (h : hits a = []) :
    b.feWrite e k a word unlocked = b := by
  simp [Body.feWrite, h]

/-- A write outside every region is ignored (R552). -/
theorem hostWrite_outside {a : Nat} (word : Nat) (s : State) (ha : a % 4 = 0) (h : inRegion a = false) : s.hostWrite a word = s := by
  unfold State.hostWrite
  simp [Nat.div_mul_cancel (Nat.dvd_of_mod_eq_zero ha), h]

/-- A write of a HUB-held word without a register, that is none of the Starch map, is ignored (R552). -/
theorem hostWrite_unmapped {a : Nat} (word : Nat) (s : State) (ha : a % 4 = 0) (hin : inRegion a = true) (hhits : hits a = [])
    (hfe : feHeld a = false) (hstarch : ¬ (0x1000 ≤ a ∧ a < 0x1200)) (hpass : s.body.passes = false) (hhub : s.body.hubDown = false) :
    s.hostWrite a word = s.onBody fun _ b => b := by
  have hfuse : a ≠ 0x1240 := ne_of_hits_nil hhits (by decide)
  unfold State.hostWrite
  simp only [Nat.div_mul_cancel (Nat.dvd_of_mod_eq_zero ha), hin, hhub, hpass, hfe, hstarch, hfuse, hubWrite_of_hits_nil _ _ _ hhits,
    Bool.not_true, Bool.or_self, Bool.false_eq_true, if_false]

/-- A read outside every region returns 0 (R552). -/
theorem readWord_outside (e : Env) (dirty : Bool) {a : Nat} (b : Body) (ha : a % 4 = 0) (h : inRegion a = false) :
    b.readWord e dirty a = (0, b) := by
  unfold Body.readWord
  simp [Nat.div_mul_cancel (Nat.dvd_of_mod_eq_zero ha), h]

/-- A read of a HUB-held word without a register, that is none of the Starch map, returns 0 (R552). -/
theorem readWord_unmapped (e : Env) (dirty : Bool) {a : Nat} (b : Body) (ha : a % 4 = 0) (hin : inRegion a = true)
    (hhits : hits a = []) (hfe : feHeld a = false) (hstarch : ¬ (0x1000 ≤ a ∧ a < 0x1200)) : b.readWord e dirty a = (0, b) := by
  have hsync : a ≠ 0x40 := ne_of_hits_nil hhits (by decide)
  have hstat : a ≠ 0x1200 := ne_of_hits_nil hhits (by decide)
  unfold Body.readWord
  simp [Nat.div_mul_cancel (Nat.dvd_of_mod_eq_zero ha), hin, hfe, hsync, hstarch, hstat, hhits, Body.readHits, Body.clearRc,
    orBits]

/-- A word of a die without a register returns 0, behind the frames that wait there, and of HUB's registers only VOID_READ may change
(R37, R471, R552). -/
theorem feRead_unmapped (e : Env) {a : Nat} (b : Body) (hhits : hits a = []) (htrace : a < 0x100000) (gs : List (List (Nat × Nat)))
    (hdown : (b.fe (feOf a)).down = gs.map (.fields true)) :
    (b.feRead e a).1 = 0 ∧ ∀ g j, g ≠ .twinDieVoidRead → (b.feRead e a).2.rd g j = b.rd g j := by
  have hsample : ∀ c : Body, c.feSample e a = (0, c) := fun c => by
    unfold Body.feSample
    rw [if_neg (by omega), hhits]
    rfl
  unfold Body.feRead
  dsimp only
  split
  · rw [hsample]
    exact ⟨rfl, fun g j _ => drain_rd e _ b gs hdown g j⟩
  · exact ⟨rfl, fun g j hg => rd_wr_fld _ _ _ _ _ _ hg⟩

/-- An FE-held address lies in a region (R560). -/
theorem inRegion_of_feHeld {a : Nat} (h : feHeld a = true) : inRegion a = true := by
  simp only [feHeld, inRegion, Bool.or_eq_true, Bool.and_eq_true, decide_eq_true_eq] at h ⊢
  omega

theorem readWord_feHeld (e : Env) (dirty : Bool) {a : Nat} (b : Body) (ha : a % 4 = 0) (h : feHeld a = true) :
    b.readWord e dirty a = b.feRead e a := by
  unfold Body.readWord
  simp [Nat.div_mul_cancel (Nat.dvd_of_mod_eq_zero ha), h, inRegion_of_feHeld h]

/-! ### The window's data word (R548, R552) -/

/-- What follows the word's own read in a read of WIN_DATA: UNMAPPED, the answer, ACCEPTED (R548, R552, R563). -/
theorem reaches_readEnd (s : State) (p a : Nat) (r : List Nat) :
    Reaches s (((s.onBody fun _ b => b.flagUnmapped p [a]).onBody fun _ b => answering r b).onBody fun _ b => b.portCount p)
      ((answering r (setUnmapped p a s.body)).portCount p) := by
  have hflag := (Reaches.refl s).onBody (fun _ b => b.flagUnmapped p [a]) (settled_flagUnmapped (.refl s.body) p a)
  have hanswer := hflag.onBody (fun _ b => answering r b) (settled_answering hflag.body r)
  exact hanswer.onBody (fun _ b => b.portCount p) (settled_portCount hanswer.body p)

theorem exec_winDataWrite (x : Xfer) (v : Word) (s : State) : exec (.winDataWrite x v) s = execWinDataWrite x v s := rfl

theorem exec_winDataRead (x : Xfer) (whole : Bool) (s : State) : exec (.winDataRead x whole) s = execWinDataRead x whole s := rfl

namespace Taken

variable {x : Xfer} {s : State}

/-- A taken write of WIN_DATA whose word's own write leaves the module: UNMAPPED, and ACCEPTED (R548, R552, R563). -/
theorem winDataWrite_becomes (h : Taken x s) (v : Word) {a : Nat} (ha : (s.body.ptr x.port (s.body.xferPaired x)).1 = a)
    (hw : Reaches s ((stirred s).hostWrite a v.toNat) { s.body with dozeReq := none }) :
    Becomes (.winDataWrite x v) s ((setUnmapped x.port a { s.body with dozeReq := none }).portCount x.port) := by
  have hflag := hw.onBody (fun _ b => b.flagUnmapped x.port [a]) (settled_flagUnmapped hw.body x.port a)
  have hcount := hflag.onBody (fun _ b => b.portCount x.port) (settled_portCount hflag.body x.port)
  refine hcount.becomes ?_
  rw [exec_winDataWrite, execWinDataWrite, h.serve_eq, ha]

/-- A taken read of WIN_DATA in whole returns the word, and sets UNMAPPED for an address in no region alone (R548, R552). -/
theorem winDataRead_runs (h : Taken x s) {a v : Nat} {c : Body} (ha : (s.body.ptr x.port (s.body.xferPaired x)).1 = a)
    (hr : ((stirred s).body.wr .hpStatBusy x.port 1).readWord (stirred s).env (stirred s).dirty a = (v, c)) :
    Runs (.winDataRead x true) s fun t => t.body.reply = [v] ∧
      t.body.rd .hpStatUnmapped x.port = if inRegion a then c.rd .hpStatUnmapped x.port else 1 := by
  obtain ⟨u, hu⟩ : ∃ u : State, u = { stirred s with body := c.wr .hpStatBusy x.port 0 } := ⟨_, rfl⟩
  have hexec : exec (.winDataRead x true) s = .next (((u.onBody fun _ b => b.flagUnmapped x.port [a]).onBody fun _ b =>
      answering [v] b).onBody fun _ b => b.portCount x.port) := by
    rw [exec_winDataRead, execWinDataRead, h.serve_eq, ha, State.portRead, hr, hu]
    rfl
  have hend := (reaches_readEnd u x.port a [v]).body
  refine ⟨_, hexec, hend.reply, (hend.rd .hpStatUnmapped x.port rfl).trans ?_⟩
  rw [hu, ← rd_wr_fld c .hpStatBusy .hpStatUnmapped x.port x.port 0 (by simp)]
  exact (rd_wr_fld _ _ _ _ _ _ (by simp)).trans (setUnmapped_rd ..)

end Taken

/-- Settles O10: a word without a register is none of those that an access treats apart, and of the frames that wait for a die only gain
tables, which write no register of HUB, can have come before the read. -/
theorem unmappedAddresses : Obligations.UnmappedAddresses := by
  intro x v a s hdoze hans hfit hpec hptr ha ha4
  have h : Taken x s := ⟨hdoze, hans, hfit, hpec, hptr⟩
  have hu := h.reaches_stirred
  have hkept : (stirred s).body.rd .hpStatUnmapped x.port = s.body.rd .hpStatUnmapped x.port := hu.body.rd _ _ rfl
  refine ⟨fun hin => ?_, fun hin hhits hfe hstarch hpass => ?_, fun hhits hfe htrace hdown => ?_⟩
  · have hw := h.winDataWrite_becomes v ha (by rwa [hostWrite_outside _ _ ha4 hin])
    have hr := h.winDataRead_runs ha (readWord_outside _ _ _ ha4 hin)
    simp only [setUnmapped, hin, Bool.false_eq_true, if_false] at hw hr
    exact ⟨hw, hr⟩
  · have hword := hostWrite_unmapped v.toNat (stirred s) ha4 hin hhits hfe hstarch ((passes_of_settled hu.body).trans hpass)
      (hu.body.hubDown.trans h.hubDown)
    have hw := h.winDataWrite_becomes v ha (hword ▸ hu.onBody (fun _ b => b) hu.body)
    have hr := h.winDataRead_runs ha (readWord_unmapped _ _ _ ha4 hin hhits hfe hstarch)
    rw [if_pos hin, rd_wr_fld _ _ _ _ _ _ (by simp), hkept] at hr
    simp only [setUnmapped, hin, if_true] at hw
    exact ⟨hw, hr⟩
  · refine ⟨fun k env b => feWrite_of_hits_nil env k _ true b hhits, ?_⟩
    obtain ⟨gs, hgs⟩ := h.addsFields_stirred (feOf a)
    rw [hdown, List.nil_append] at hgs
    obtain ⟨hzero, hrd⟩ := feRead_unmapped (stirred s).env ((stirred s).body.wr .hpStatBusy x.port 1) hhits htrace gs hgs
    have hr := h.winDataRead_runs ha ((readWord_feHeld _ _ _ ha4 hfe).trans (Prod.ext hzero rfl))
    rwa [if_pos (inRegion_of_feHeld hfe), hrd _ _ (by simp), rd_wr_fld _ _ _ _ _ _ (by simp), hkept] at hr

end Sys2Proof.Proofs
end

section
/-!
SUPPORT. What every command does, said once: its effect is a chain of settled bodies, moves in time and changes of the Starch bank
(`Acts`). The invariants of time, of the Starch bank and of the pin are kept along the chain.
-/

namespace Sys2Proof.Proofs

open Sys2Proof Sys2Proof.Machine Sys2Proof.Safety Sys2Proof.Laws

/-! ### The pin through settling (R564 to R568) -/

theorem filterMap_sparseIns {β : Type} (g : Nat × Nat → Option β) (q x : Nat) (hq : ∀ v, g (q, v) = none) (m : Sparse) :
    (sparseIns m q x).filterMap g = m.filterMap g := by
  induction m with
  | nil => simp [sparseIns, hq]
  | cons e m ih =>
    obtain ⟨k, v⟩ := e
    simp only [sparseIns]
    split
    · simp [hq]
    · split
      · subst_vars
        simp [hq]
      · simp only [List.filterMap_cons, ih]

theorem filterMap_filter_ne {β : Type} (g : Nat × Nat → Option β) (q : Nat) (hq : ∀ v, g (q, v) = none) (m : Sparse) :
    (m.filter fun e => e.1 ≠ q).filterMap g = m.filterMap g := by
  induction m with
  | nil => rfl
  | cons e m ih =>
    obtain ⟨k, v⟩ := e
    by_cases hk : k = q
    · subst hk
      simpa [List.filterMap_cons, hq] using ih
    · simp only [List.filter_cons, List.filterMap_cons, ne_eq, hk, not_false_eq_true, decide_true, if_true]
      rw [ih]

/-- A write leaves the listed entries of every other field. -/
theorem regEntries_regSet (m : Sparse) (f g : Fld) (i v : Nat) (h : g ≠ f) : regEntries (regSet m f i v) g = regEntries m g := by
  have hkey : ∀ x, (if (fkey f i, x).1 % 1024 = g.ctorIdx then some ((fkey f i, x).1 / 1024, (fkey f i, x).2) else none) =
      (none : Option (Nat × Nat)) := by
    intro x
    refine if_neg fun he => h ?_
    have hf := ctorIdx_lt f
    refine ctorIdx_inj ?_
    simp only [fkey] at he
    omega
  unfold regEntries regSet sparseSet
  split
  · exact filterMap_filter_ne _ _ hkey m
  · exact filterMap_sparseIns _ _ _ hkey m

/-- The fields that the alert tree reads (R564 to R569). -/
def isAsked (f : Fld) : Bool :=
  match f with
  | .alertLeaf | .alertEn | .alertChleaf | .alertTleafTimer | .alertChmaskMask | .modAlctlAlertEn | .modSumenEn => true
  | _ => false

/-- The tree asks by those fields alone. -/
theorem wantsAlert_congr {b c : Body} (hrd : ∀ f i, isAsked f = true → c.rd f i = b.rd f i)
    (hent : ∀ f, isAsked f = true → regEntries c.regs f = regEntries b.regs f) : c.wantsAlert = b.wantsAlert := by
  have hpend : c.pendList = b.pendList := by
    unfold Body.pendList Body.chPending
    simp only [hent .alertChleaf rfl, hrd .alertEn _ rfl, hrd .alertChmaskMask _ rfl]
  have hstat : ∀ g, c.alertStat g = b.alertStat g := fun g => by
    unfold Body.alertStat Body.leafWord
    simp only [hpend, hent .alertChleaf rfl, hent .alertTleafTimer rfl, hrd .alertEn _ rfl, hrd .alertLeaf _ rfl]
  unfold Body.wantsAlert Body.sumGroup Body.anyShort Body.flag
  simp only [hpend, hstat, hent .alertChleaf rfl, hrd .modAlctlAlertEn _ rfl, hrd .modSumenEn _ rfl]

theorem wantsAlert_wr (b : Body) (f : Fld) (i v : Nat) (h : isAsked f = false) : (b.wr f i v).wantsAlert = b.wantsAlert := by
  have hne : ∀ g, isAsked g = true → g ≠ f := by rintro g hg rfl; simp [h] at hg
  exact wantsAlert_congr (fun g j hg => rd_wr_fld b f g i j v (hne g hg)) fun g hg => regEntries_regSet _ _ _ _ _ (hne g hg)

/-- Driving the pin leaves what the tree asks for. -/
theorem wantsAlert_drivePin (low : Bool) (b : Body) : (b.drivePin low).wantsAlert = b.wantsAlert := by
  have hlow : ∀ c : Body, ({ c with alertLow := low } : Body).wantsAlert = c.wantsAlert := fun _ => rfl
  unfold Body.drivePin
  rw [hlow]
  split
  · refine (part_foldl Body.wantsAlert _ (fun b p => ?_) _ _).trans (wantsAlert_wr _ _ _ _ rfl)
    split
    · exact wantsAlert_wr b .hpStatAttnPend p 1 rfl
    · rfl
  · split
    · exact part_foldl Body.wantsAlert _ (fun b p => wantsAlert_wr _ _ _ _ rfl) _ _
    · rfl

/-- Awake and out of reset, settling ends by driving the pin as the tree asks (R564, R567). -/
theorem settle_ends (e : Env) (b : Body) (hhub : b.hubDown = false) (hdoze : b.doze = false) :
    ∃ c : Body, b.settle e = c.drivePin (c.wantsAlert && !c.alertHold) := by
  have h : Settled b b.gather.formReady.sendGains :=
    ((settled_gather b).trans (settled_formReady _)).trans (settled_foldl _ (fun b l => settled_sendGain l b) _ _)
  unfold Body.settle
  dsimp only
  rw [h.hubDown, hhub, h.doze, hdoze]
  exact ⟨_, rfl⟩

/-- In reset it ends by releasing the pin (R567). -/
theorem settle_hubDown_ends (e : Env) (b : Body) (hhub : b.hubDown = true) : (b.settle e).alertLow = false := by
  have h : Settled b b.gather.formReady.sendGains :=
    ((settled_gather b).trans (settled_formReady _)).trans (settled_foldl _ (fun b l => settled_sendGain l b) _ _)
  unfold Body.settle
  dsimp only
  rw [h.hubDown, if_pos hhub]
  rfl

/-- A settled body has its pin where the tree asks for it. -/
theorem pinOk_settle (e : Env) (b : Body) (s : State) : PinOk { s with body := b.settle e } := by
  unfold PinOk
  simp only [settle_hubDown, settle_doze]
  split
  · rename_i hhub
    exact settle_hubDown_ends e b hhub
  · rename_i hhub
    intro hdoze
    obtain ⟨c, hc⟩ := settle_ends e b (by simpa using hhub) hdoze
    rw [hc, wantsAlert_drivePin, (settled_drivePin _ c).alertHold]
    rfl

/-- The parts of the body that the pin depends on are the same in both. -/
structure SamePin (b c : Body) : Prop where
  regs : c.regs = b.regs
  hubDown : c.hubDown = b.hubDown
  doze : c.doze = b.doze
  alertLow : c.alertLow = b.alertLow
  alertHold : c.alertHold = b.alertHold

theorem SamePin.refl (b : Body) : SamePin b b := ⟨rfl, rfl, rfl, rfl, rfl⟩

theorem SamePin.trans {a b c : Body} (h : SamePin a b) (k : SamePin b c) : SamePin a c :=
  ⟨k.regs.trans h.regs, k.hubDown.trans h.hubDown, k.doze.trans h.doze, k.alertLow.trans h.alertLow, k.alertHold.trans h.alertHold⟩

theorem SamePin.pinOk {s t : State} (h : SamePin s.body t.body) (hs : PinOk s) : PinOk t := by
  have hw : t.body.wantsAlert = s.body.wantsAlert := wantsAlert_congr (fun f i _ => by rw [Body.rd, Body.rd, h.regs]) fun f _ => by rw [h.regs]
  unfold PinOk at *
  rwa [hw, h.hubDown, h.doze, h.alertLow, h.alertHold]

/-! ### The effect of a command -/

/-- The time goes from one value to another that is in range if the first is, and elapsed time does not run back (R377, R378). -/
structure TimeMoves (a b : Time) : Prop where
  elapsed : a.elapsed ≤ b.elapsed
  count : a.count < 2 ^ 64 → b.count < 2 ^ 64
  frac : a.frac < 2 ^ 32 → b.frac < 2 ^ 32

/-- The Starch bank stays well formed, and no fuse is unblown (R493 to R495). -/
structure StarchMoves (a b : Starch) : Prop where
  copyA : BankOk a.copyA → BankOk a.map → BankOk b.copyA
  copyB : BankOk a.copyB → BankOk a.map → BankOk b.copyB
  map : BankOk a.copyA → BankOk a.copyB → BankOk a.map → BankOk b.map
  keepsA : Within a.copyA b.copyA
  keepsB : Within a.copyB b.copyB

/-- The effects that commands are made of. Time moves only under `p`, the Starch bank only under `q`. -/
inductive Acts (p q : Bool) (s : State) : State → Prop
  | refl : Acts p q s s
  | settle {t : State} (h : Acts p q s t) (b : Body) (e : Env) : Acts p q s { t with body := b.settle e }
  | quiet {t : State} (h : Acts p q s t) (b : Body) (hb : SamePin t.body b) : Acts p q s { t with body := b }
  | time {t : State} (h : Acts p q s t) (x : Time) (hp : p = true) (hx : TimeMoves t.time x) : Acts p q s { t with time := x }
  | starch {t : State} (h : Acts p q s t) (x : Starch) (hq : q = true) (hx : StarchMoves t.starch x) : Acts p q s { t with starch := x }

variable {p q : Bool} {s t u : State}

theorem Acts.trans (h : Acts p q s t) (k : Acts p q t u) : Acts p q s u := by
  induction k with
  | refl => exact h
  | settle _ b e ih => exact ih.settle b e
  | quiet _ b hb ih => exact ih.quiet b hb
  | time _ x hp hx ih => exact ih.time x hp hx
  | starch _ x hq hx ih => exact ih.starch x hq hx

theorem Acts.mono (h : Acts p q s t) : Acts true true s t := by
  induction h with
  | refl => exact .refl
  | settle _ b e ih => exact ih.settle b e
  | quiet _ b hb ih => exact ih.quiet b hb
  | time _ x _ hx ih => exact ih.time x rfl hx
  | starch _ x _ hx ih => exact ih.starch x rfl hx

theorem Acts.pending (h : Acts p q s t) : t.pending = s.pending := by
  induction h with
  | refl => rfl
  | settle | quiet | time | starch => assumption

theorem Acts.time_eq (h : Acts false q s t) : t.time = s.time := by
  induction h with
  | refl => rfl
  | settle | quiet | starch => assumption
  | time _ _ hp => cases hp

theorem Acts.starch_eq (h : Acts p false s t) : t.starch = s.starch := by
  induction h with
  | refl => rfl
  | settle | quiet | time => assumption
  | starch _ _ hq => cases hq

theorem Acts.timeOk (h : Acts p q s t) (hs : TimeOk s) : TimeOk t := by
  induction h with
  | refl => exact hs
  | settle | quiet | starch => assumption
  | time _ _ _ hx ih => exact ⟨hx.count ih.1, hx.frac ih.2⟩

theorem Acts.elapsedKept (h : Acts p q s t) : elapsedKept s t := by
  induction h with
  | refl => exact Nat.le_refl _
  | settle | quiet | starch => assumption
  | time _ _ _ hx ih => exact Nat.le_trans ih hx.elapsed

theorem Acts.starchOk (h : Acts p q s t) (hs : StarchOk s) : StarchOk t := by
  induction h with
  | refl => exact hs
  | settle | quiet | time => assumption
  | starch _ _ _ hx ih =>
    obtain ⟨hA, hB, hM⟩ := ih
    exact ⟨hx.copyA hA hM, hx.copyB hB hM, hx.map hA hB hM⟩

theorem within_refl (m : Sparse) : Within m m := fun _ _ h => h

theorem Acts.within (h : Acts p q s t) : Within s.starch.copyA t.starch.copyA ∧ Within s.starch.copyB t.starch.copyB := by
  induction h with
  | refl => exact ⟨within_refl _, within_refl _⟩
  | settle | quiet | time => assumption
  | starch _ _ _ hx ih => exact ⟨fun w i hb => hx.keepsA w i (ih.1 w i hb), fun w i hb => hx.keepsB w i (ih.2 w i hb)⟩

theorem Acts.pinOk (h : Acts p q s t) (hs : PinOk s) : PinOk t := by
  induction h with
  | refl => exact hs
  | settle _ b e => exact pinOk_settle e b _
  | quiet _ b hb ih => exact SamePin.pinOk hb ih
  | time _ _ _ _ ih | starch _ _ _ _ ih => exact ih

end Sys2Proof.Proofs
end

section
/-!
SUPPORT. The Starch bank under the writes that the module makes (R493 to R496): every one stores words of 32 bits at words below 128, and
a burn sets bits alone.
-/

namespace Sys2Proof.Proofs

open Sys2Proof Sys2Proof.Machine Sys2Proof.Safety Sys2Proof.Laws

/-! ### Words of a bank -/

theorem sparseGet_lt (m : Sparse) (w : Nat) (h : BankOk m) : sparseGet 0 m w < 2 ^ 32 := by
  obtain ⟨-, hall⟩ := h
  induction m with
  | nil => simp
  | cons e m ih =>
    obtain ⟨k, v⟩ := e
    simp only [sparseAll, Bool.and_eq_true, decide_eq_true_eq] at hall
    simp only [sparseGet]
    split
    · exact hall.1.2
    · exact ih hall.2

theorem bankOk_set {m : Sparse} (h : BankOk m) {w v : Nat} (hw : w < 128) (hv : v < 2 ^ 32) : BankOk (sparseSet 0 m w v) := by
  refine ⟨sparseSet_wf (fun _ => 0) m w v h.1, ?_⟩
  unfold sparseSet
  split
  · exact sparseAll_filter _ _ m h.2
  · exact sparseAll_ins _ m w v (by simpa [hw] using hv) h.2

/-- A bank that is written word by word is a bank. -/
theorem bankOk_foldl_set (v : Sparse → Nat → Nat) (hv : ∀ m w, BankOk m → v m w < 2 ^ 32) (m : Sparse) (h : BankOk m) :
    BankOk ((List.range 128).foldl (fun m w => sparseSet 0 m w (v m w)) m) :=
  List.foldlRecOn (motive := BankOk) _ _ h fun m hm w hw => bankOk_set hm (List.mem_range.1 hw) (hv m w hm)

theorem bankOk_nil : BankOk [] := ⟨rfl, rfl⟩

theorem orBits_lt {x y : Nat} (hx : x < 2 ^ 32) (hy : y < 2 ^ 32) : orBits x y < 2 ^ 32 := Nat.or_lt_two_pow hx hy

/-- The fuses of two copies form a bank (R493). -/
theorem bankOk_fuses {s : Starch} (hA : BankOk s.copyA) (hB : BankOk s.copyB) : BankOk s.fuses :=
  bankOk_foldl_set (fun _ w => orBits (sparseGet 0 s.copyA w) (sparseGet 0 s.copyB w))
    (fun _ w _ => orBits_lt (sparseGet_lt _ w hA) (sparseGet_lt _ w hB)) [] bankOk_nil

/-! ### A burn (R495) -/

theorem bankOk_blow {copy : Sparse} (map : Sparse) (h : BankOk copy) : BankOk (blow copy map) :=
  bankOk_foldl_set (fun m w => orBits (sparseGet 0 m w) (sparseGet 0 map w % 2 ^ 32))
    (fun _ w hm => orBits_lt (sparseGet_lt _ w hm) (Nat.mod_lt _ (by decide))) copy h

/-- Bits that are added to a word leave those that were set. -/
theorem within_set_or (m : Sparse) (w x : Nat) : Within m (sparseSet 0 m w (orBits (sparseGet 0 m w) x)) := by
  intro v i h
  rw [sparseGet_set]
  split
  · subst_vars
    rw [bitAt_eq_testBit] at h ⊢
    exact (Nat.testBit_or (sparseGet 0 m v) x i).trans (by rw [h, Bool.true_or])
  · exact h

theorem within_blow (copy map : Sparse) : Within copy (blow copy map) :=
  List.foldlRecOn (motive := Within copy) _ _ (within_refl copy)
    fun m hm w _ v i h => within_set_or m w _ v i (hm v i h)

/-! ### A seal (R496) -/

theorem crc32Step_lt (k c : Nat) (h : c < 2 ^ 32) : crc32Step k c < 2 ^ 32 := by
  induction k generalizing c with
  | zero => exact h
  | succ k ih =>
    refine ih _ ?_
    have hhalf : c / 2 < 2 ^ 32 := by omega
    split
    · exact Nat.xor_lt_two_pow hhalf (by decide)
    · exact hhalf

theorem crc32_lt (bs : List Nat) : crc32 bs < 2 ^ 32 :=
  Nat.xor_lt_two_pow (List.foldlRecOn (motive := fun c => c < 2 ^ 32) _ _ (by decide)
    fun c hc x _ => crc32Step_lt 8 _ (Nat.xor_lt_two_pow hc (by omega))) (by decide)

theorem setBit_31_lt {x : Nat} (h : x < 2 ^ 32) : setBit x 31 < 2 ^ 32 := by
  unfold setBit bitAt
  split
  · exact h
  · rename_i hbit
    rw [decide_eq_true_eq] at hbit
    omega

theorem bankOk_sealedMap {m : Sparse} (h : BankOk m) : BankOk (sealedMap m) :=
  bankOk_set (bankOk_set h (by decide) (setBit_31_lt (sparseGet_lt m 1 h))) (by decide) (crc32_lt _)

/-! ### The map's words (R494) -/

theorem mapMask_lt (w : Nat) : mapMask w < 2 ^ 32 := by
  unfold mapMask
  repeat' split
  all_goals decide

theorem andBits_lt (x : Nat) {y : Nat} (h : y < 2 ^ 32) : andBits x y < 2 ^ 32 := Nat.and_lt_two_pow x h

/-! ### What the bank goes through -/

theorem StarchMoves.setMap (s : Starch) (m : Sparse) (h : BankOk s.copyA → BankOk s.copyB → BankOk s.map → BankOk m) :
    StarchMoves s { s with map := m } :=
  ⟨fun hA _ => hA, fun hB _ => hB, h, within_refl _, within_refl _⟩

/-- A burn of both copies. -/
theorem StarchMoves.burn {s : Starch} (a b : Sparse) {m : Sparse} (h : BankOk s.map → BankOk m) :
    StarchMoves s ⟨blow s.copyA a, blow s.copyB b, m⟩ := by
  have hA := bankOk_blow (copy := s.copyA) a
  have hB := bankOk_blow (copy := s.copyB) b
  have hkA := within_blow s.copyA a
  have hkB := within_blow s.copyB b
  generalize blow s.copyA a = x at *
  generalize blow s.copyB b = y at *
  exact ⟨fun h _ => hA h, fun h _ => hB h, fun _ _ => h, hkA, hkB⟩

end Sys2Proof.Proofs
end

section
/-!
SUPPORT. Every command's effect is such a chain, in which time moves only where the command lets it pass and the Starch bank only where the
command may write it.
-/

namespace Sys2Proof.Proofs

open Sys2Proof Sys2Proof.Machine Sys2Proof.Safety Sys2Proof.Laws

variable {p q : Bool} {s t u : State}

/-! ### The shared effects -/

@[simp] theorem acts_refl : Acts p q s s := .refl

@[simp] theorem acts_onBody (f : Env → Body → Body) (h : Acts p q s t) : Acts p q s (t.onBody f) := h.settle _ _

@[simp] theorem acts_onHub (f : Env → Body → Body) (h : Acts p q s t) : Acts p q s (t.onHub f) := acts_onBody _ h

@[simp] theorem acts_onFrame (f : Env → Body → Body) (h : Acts p q s t) : Acts p q s (t.onFrame f) := acts_onBody _ h

theorem timeMoves_advance (x : Time) (n : Nat) : TimeMoves x (x.advance n) :=
  ⟨Nat.le_add_right .., fun _ => Nat.mod_lt _ (by decide), id⟩

@[simp] theorem acts_goTo (T : Nat) (h : Acts true q s t) : Acts true q s (t.goTo T) := h.time _ rfl (timeMoves_advance _ _)

@[simp] theorem acts_afterBurst (h : Acts true q s t) : Acts true q s t.afterBurst := acts_goTo _ h

@[simp] theorem acts_afterStaging (h : Acts true q s t) : Acts true q s t.afterStaging := by
  unfold State.afterStaging
  split
  · exact acts_goTo _ h
  · exact h

/-- A fold of effects. -/
theorem acts_foldl {α : Type} (f : State → α → State) (hf : ∀ t a, Acts p q t (f t a)) (l : List α) (h : Acts p q s t) :
    Acts p q s (l.foldl f t) := by
  induction l generalizing t with
  | nil => exact h
  | cons a l ih => exact ih (h.trans (hf t a))

/-! ### Steps of the count (R378, R386) -/

theorem ofSigned_lt (w : Nat) (x : Int) : ofSigned w x < 2 ^ w := by
  have hpos : (0 : Int) < (2 ^ w : Nat) := by positivity
  have hnn := Int.emod_nonneg x hpos.ne'
  have hlt := Int.emod_lt_of_pos x hpos
  unfold ofSigned
  omega

theorem samePin_stepMarks (d : Int) (b : Body) : SamePin b (b.stepMarks d) :=
  List.foldlRecOn (motive := SamePin b) _ _ (.refl b) fun _ hc _ _ => hc.trans ⟨rfl, rfl, rfl, rfl, rfl⟩

/-- The count is set, and the dies' replicas follow. -/
theorem acts_setCount (c : Nat) (hc : c < 2 ^ 64) (d : Int) (h : Acts true q s t) :
    Acts true q s { t with time := { t.time with count := c }, body := t.body.stepMarks d } :=
  (h.time { t.time with count := c } rfl ⟨Nat.le_refl _, fun _ => hc, id⟩).quiet _ (samePin_stepMarks d t.body)

theorem acts_stepBy (k : StepKind) (cause : Nat) (h : Acts true q s t) : Acts true q s (t.stepBy k cause) :=
  acts_onBody _ (acts_setCount _ (ofSigned_lt _ _) _ (acts_onBody _ h))

theorem acts_follow (entered : Bool) (c : Nat) (h : Acts true q s t) : Acts true q s (t.follow entered c) := by
  unfold State.follow
  dsimp only
  split
  · exact h
  · split
    · exact acts_stepBy _ _ h
    · exact acts_setCount _ (Nat.mod_lt _ (by decide)) _ h

theorem acts_heartbeat (x : Heartbeat) (h : Acts true q s t) : Acts true q s (t.heartbeat x) := by
  unfold State.heartbeat
  dsimp only
  split
  · exact acts_follow _ _ (acts_onFrame _ h)
  · exact acts_onFrame _ h

/-! ### The Starch bank (R494, R495) -/

theorem acts_setMap (m : Sparse) (h : Acts p true s t)
    (hm : BankOk t.starch.copyA → BankOk t.starch.copyB → BankOk t.starch.map → BankOk m) : Acts p true s (t.setMap m) :=
  acts_onBody _ (h.starch _ rfl (.setMap _ m hm))

theorem acts_mapWrite (w word : Nat) (hw : w < 128) (h : Acts p true s t) : Acts p true s (t.mapWrite w word) := by
  unfold State.mapWrite
  split
  · exact acts_setMap _ h fun _ _ hm => bankOk_set hm hw (andBits_lt _ (mapMask_lt w))
  · exact h

theorem acts_fuseStart (c : Nat) (h : Acts p q s t) : Acts p q s (t.fuseStart c) := acts_onBody _ h

theorem acts_fuseWrite (word : Nat) (h : Acts p q s t) : Acts p q s (t.fuseWrite word) := by
  refine acts_foldl _ (fun t x => ?_) _ h
  split
  · exact acts_fuseStart _ .refl
  · exact .refl

theorem acts_blow (a b m : Sparse) (h : Acts p true s t) (hm : BankOk t.starch.map → BankOk m) :
    Acts p true s { t with starch := ⟨blow t.starch.copyA a, blow t.starch.copyB b, m⟩ } :=
  h.starch ⟨blow t.starch.copyA a, blow t.starch.copyB b, m⟩ rfl (.burn a b hm)

/-- A burn blows words into both copies; a seal's words become the map. -/
theorem acts_burn (words : Sparse) (ok : Bool) (arg0 result : Nat) (h : Acts p true s t)
    (hm : BankOk t.starch.map → BankOk words) : Acts p true s (t.burn words ok arg0 result) := by
  unfold State.burn
  split
  · dsimp only
    split
    · exact acts_onBody _ (acts_blow words words words h hm)
    · exact acts_onBody _ (acts_blow words words t.starch.map h id)
  · exact (acts_blow (t.body.someBits words).1 ((t.body.someBits words).2.someBits words).1 t.starch.map h id).settle _ _

/-! ### Host writes (R30 to R36, R464) -/

theorem acts_hostWrite (addr word : Nat) (h : Acts p true s t) : Acts p true s (t.hostWrite addr word) := by
  unfold State.hostWrite
  dsimp only
  split
  · exact h
  · split
    · exact acts_onBody _ h
    · split
      · exact acts_onBody _ h
      · split
        · rename_i hmap
          exact acts_mapWrite _ _ (by omega) h
        · split
          · exact acts_fuseWrite _ h
          · exact acts_onBody _ h

theorem acts_hostWrites (l : List (Nat × Nat)) (h : Acts p true s t) :
    Acts p true s (l.foldl (fun s w => s.hostWrite w.1 w.2) t) := by
  have hf : ∀ (t : State) (w : Nat × Nat), Acts p true t (t.hostWrite w.1 w.2) := fun t w => acts_hostWrite w.1 w.2 .refl
  exact acts_foldl _ hf l h

theorem acts_heldOut (h : Acts p true s t) : Acts p true s t.heldOut := by
  unfold State.heldOut
  split
  · exact h
  · exact acts_hostWrites _ (h.quiet _ ⟨rfl, rfl, rfl, rfl, rfl⟩)

/-! ### Transactions of a host port (R542) -/

theorem acts_serve (x : Xfer) (window : Bool) (kind : XferKind) (f : State → State) (hf : ∀ t, Acts p q t (f t))
    (h : Acts p q s t) : Acts p q s (t.serve x window kind f) := by
  unfold State.serve
  dsimp only
  split
  · exact h
  · split
    · exact acts_onBody _ (acts_onBody _ h)
    · exact acts_onBody _ ((acts_onBody _ h).trans (hf _))

theorem acts_answer (x : Xfer) (f : Body → List Nat) : Acts p q s (s.answer x f) :=
  acts_serve x _ _ _ (fun _ => acts_onBody _ .refl) .refl

theorem acts_portRead (port a : Nat) (h : Acts p q s t) : Acts p q s (t.portRead port a).2 := h.settle _ _

theorem acts_portReads (port ns : Nat) (as : List Nat) : ∀ {t : State}, Acts true q s t → Acts true q s (t.portReads port ns as).2 := by
  induction as with
  | nil => exact id
  | cons a as ih => exact fun h => ih (acts_goTo _ (acts_portRead port a h))

end Sys2Proof.Proofs
end

section
/-!
SUPPORT. The table of the commands: every command answers a next state, by such a chain. With it the invariants of time, of the Starch bank
and of the pin, and the frame of time and bank.
-/

namespace Sys2Proof.Proofs

open Sys2Proof Sys2Proof.Machine Sys2Proof.Safety Sys2Proof.Laws

/-- The command answers a next state by a chain of effects. -/
def Answers (p q : Bool) (s : State) (o : Out) : Prop := ∃ t, o = .next t ∧ Acts p q s t

variable {p q : Bool} {s t : State}

@[simp] theorem answers_next : Answers p q s (.next t) ↔ Acts p q s t :=
  ⟨fun ⟨_, ht, h⟩ => by cases ht; exact h, fun h => ⟨t, rfl, h⟩⟩

@[simp] theorem acts_ite {c : Prop} [Decidable c] {u : State} (ht : Acts p q s t) (hu : Acts p q s u) :
    Acts p q s (if c then t else u) := by
  split <;> assumption

/-! ### Commands with effects of several kinds -/

theorem answers_moduleStart (ohms : Nat) : Answers true true s (execModuleStart ohms s) := by
  have htime : TimeMoves s.time { s.time with count := startCount s.body.mtr.ckpts % 2 ^ 64, frac := 0 } :=
    ⟨Nat.le_refl _, fun _ => Nat.mod_lt _ (by decide), fun _ => Nat.zero_lt_succ _⟩
  have hmap : StarchMoves s.starch { s.starch with map := s.starch.fuses } := .setMap _ _ fun hA hB _ => bankOk_fuses hA hB
  exact answers_next.2 (((Acts.refl.time _ rfl htime).starch _ rfl hmap).settle _ _)

theorem answers_starchBurn (ok : Bool) : Answers p true s (execStarchBurn ok s) := by
  have h : Acts p true s (if s.body.boot.fuseCmd = 1 then s else s.fuseStart 1) := acts_ite .refl (acts_fuseStart _ .refl)
  unfold execStarchBurn
  dsimp only
  generalize (if s.body.boot.fuseCmd = 1 then s else s.fuseStart 1) = u at h ⊢
  exact answers_next.2 (acts_ite (acts_burn _ _ _ _ h id) h)

theorem answers_starchSeal (ok : Bool) : Answers p true s (execStarchSeal ok s) := by
  have h : Acts p true s (if s.body.boot.fuseCmd = 2 then s else s.fuseStart 2) := acts_ite .refl (acts_fuseStart _ .refl)
  unfold execStarchSeal
  dsimp only
  generalize (if s.body.boot.fuseCmd = 2 then s else s.fuseStart 2) = u at h ⊢
  exact answers_next.2 (acts_ite (acts_burn _ _ _ _ h bankOk_sealedMap) h)

theorem answers_starchReload : Answers p true s (execStarchReload s) := by
  have h : Acts p true s (if s.body.boot.fuseCmd = 3 then s else s.fuseStart 3) := acts_ite .refl (acts_fuseStart _ .refl)
  unfold execStarchReload
  dsimp only
  generalize (if s.body.boot.fuseCmd = 3 then s else s.fuseStart 3) = u at h ⊢
  exact answers_next.2 (acts_ite (acts_onBody _ (acts_setMap _ h fun hA hB _ => bankOk_fuses hA hB)) h)

theorem answers_timebaseStep : Answers true q s (execTimebaseStep s) := by
  unfold execTimebaseStep
  split
  · exact answers_next.2 .refl
  · exact answers_next.2 (acts_stepBy _ _ (acts_goTo _ .refl))

theorem answers_calSlot (n : Nat) (kind : CalKind) (m : SlotMeas) : Answers true q s (execCalSlot n kind m s) := by
  unfold execCalSlot
  split
  · split
    · exact answers_next.2 .refl
    · exact answers_next.2 (acts_onBody _ (acts_ite .refl (acts_goTo _ .refl)))
  · exact answers_next.2 .refl

/-- The pair's commands after which held host writes may come out (R464). -/
theorem answers_bluliHeartbeat (h : Heartbeat) : Answers true true s (execBluliHeartbeat h s) := by
  unfold execBluliHeartbeat
  split
  · exact answers_next.2 .refl
  · exact answers_next.2 (acts_heldOut (acts_heartbeat h .refl))

theorem answers_heartbeatLoss : Answers true true s (execHeartbeatLoss s) := by
  unfold execHeartbeatLoss
  split
  · exact answers_next.2 (acts_heldOut (acts_onBody _ (acts_goTo _ .refl)))
  · exact answers_next.2 .refl

theorem answers_seamTS : Answers true true s (execSeamTS s) := by
  unfold execSeamTS
  split
  · split
    · exact answers_next.2 (acts_heldOut (acts_onBody _ (acts_goTo _ .refl)))
    · exact answers_next.2 .refl
  · exact answers_next.2 .refl

theorem answers_bluliConfigWrite (kvs : List (Nat × Nat)) : Answers p true s (execBluliConfigWrite kvs s) := by
  unfold execBluliConfigWrite
  dsimp only
  split
  · exact answers_next.2 (acts_onFrame _ .refl)
  · split
    · exact answers_next.2 (acts_heldOut (acts_onFrame _ .refl))
    · exact answers_next.2 (acts_onFrame _ .refl)

theorem answers_winAutoincRead (x : Xfer) (n : Clocked) (ns : Nat) : Answers true q s (execWinAutoincRead x n ns s) :=
  answers_next.2 (acts_serve x _ _ _ (fun _ => acts_onBody _ (acts_portReads _ _ _ (acts_portReads _ _ _ .refl))) .refl)

theorem answers_winAutoincWrite (x : Xfer) (vs : List Word) : Answers p true s (execWinAutoincWrite x vs s) :=
  answers_next.2 (acts_serve _ _ _ _ (fun _ => acts_onBody _ (acts_hostWrites _ .refl)) .refl)

theorem answers_attentionPull (port : Fin 2) (c : Bool) : Answers true q s (execAttentionPull port c s) := by
  unfold execAttentionPull
  split
  · exact answers_next.2 .refl
  · dsimp only
    refine answers_next.2 (acts_onBody _ ?_)
    split
    · exact acts_goTo _ .refl
    · exact .refl

theorem answers_holdupTrigger (x : HoldTrig) : Answers true q s (execHoldupTrigger x s) := by
  unfold execHoldupTrigger
  split
  · exact answers_next.2 (acts_onBody _ (acts_goTo _ (acts_onBody _ .refl)))
  · exact answers_next.2 (acts_onBody _ .refl)
  · split
    · exact answers_next.2 (acts_onBody _ (acts_goTo _ .refl))
    · exact answers_next.2 .refl

/-! ### Every command -/

/-- Every command answers a next state; time moves only where it lets time pass, the Starch bank only where it may write it. -/
theorem exec_answers (i : Instr) (s : State) : Answers (letsTimePass i) (mayWriteStarch i) s (exec i s) := by
  cases i
  case moduleStart => exact answers_moduleStart _
  case starchBurn => exact answers_starchBurn _
  case starchSeal => exact answers_starchSeal _
  case starchReload => exact answers_starchReload
  case timebaseStep => exact answers_timebaseStep
  case calSlot => exact answers_calSlot _ _ _
  case bluliHeartbeat => exact answers_bluliHeartbeat _
  case heartbeatLoss => exact answers_heartbeatLoss
  case seamTS => exact answers_seamTS
  case bluliConfigWrite => exact answers_bluliConfigWrite _
  case winAutoincRead => exact answers_winAutoincRead _ _ _
  case winAutoincWrite => exact answers_winAutoincWrite _ _
  case attentionPull => exact answers_attentionPull _ _
  case holdupTrigger => exact answers_holdupTrigger _
  case ledgerPageWrite => exact answers_next.2 (acts_onHub _ (acts_afterBurst (acts_afterStaging .refl)))
  case registerWrite => exact answers_next.2 (acts_hostWrite _ _ (acts_onBody _ .refl))
  case winAddrWrite => exact answers_next.2 (acts_serve _ _ _ _ (fun _ => acts_onBody _ .refl) .refl)
  case winDataWrite => exact answers_next.2 (acts_serve _ _ _ _ (fun _ => acts_onBody _ (acts_hostWrite _ _ .refl)) .refl)
  case winDataRead => exact answers_next.2 (acts_serve _ _ _ _ (fun _ => acts_onBody _ (acts_portRead _ _ .refl)) .refl)
  case capability | query | statusByte | statusWord | pmbusRevision | mfrId | mfrModel | mfrRevision | mfrSerial | winAddrRead =>
    exact answers_next.2 (acts_answer _ _)
  case flashDiscovery | imageReadCheck | imageApply | soloAccept | expertUnlock | modSyncRead | iclWrite | iclReadRequest |
      iclReadReply | iclWriteAck | iclStatus | iclTrendIncrement | iclCaptureData | iclSyncMarker | iclTraceData |
      iclRetransmit | clockFail | hubClockLoss | hubRestart | dozeRequest | dozeEnter | dozeWake | seatAssert | seatDrop |
      restartOk | en0 | en1 | requeue | readmit | loopCycle | thermalModelStep | hardtrip | currentSample | cvbEntrySample |
      filterOutput | directConvGo | convstEdge | convRead | captureTrigger | captureForce | captureAbort | traceArm |
      traceForce | traceDone | gstartGo | busMinCrossing | checkpointReadback | calStart | calAbort | calStore | calDueExpire |
      benchEnter | benchReady | benchExit | benchTrig | benchZero | ppsPulse | tbArm | tbNow | tbAlign | tbCancel | clkTbReturn |
      timerReleaseGo | trendBlock | signedCheckpoint | nvmeCommandComplete | deviceLinkLoss | deviceEject | devicePrepare |
      deviceCancel | recorderFlush | recorderReadGo | recorderReadDone | basketReinit | recorderStart | bluliStateChange |
      bluliLoopSnapshot | bluliIncrement | bluliLedgerRecord | bluliSeamControl | bluliBulkSync | bluliRetransmit | laneDown |
      bulkSyncComplete | handover | standdown | splitResolve | pairAddrArm | dieReset | dieRejoin | imgEraseB | imgProgram |
      imgRead | patch | patchAccept | patchSafePoint | patchSlotCopy | feederDiscovery | fpArbLost | arbCond | bbuPinMismatch |
      hostPortTimeout | alertResponse | braceEnter | aux12Reset | dieWatchdog | laneUp | acfailNClear | aux12WarnRise |
      seatDeassert | modSeatContact =>
    exact answers_next.2 (acts_onBody _ .refl)
  case soloDecision | imageRetry | expertUnlockTimeout | dozeScan | seatQual | seatLoss | aqExpire | rampDone | limitWin |
      capWin | noWin | ilimExpire | follow | gateStall | fetShort | modelMismatch | busWindowQualify | sliceVisitEnd |
      openWireTest | trendIntervalBoundary | directConvDone | captureEnd | budgetCycle | queueLimitExpire | busMinShed |
      holdupStageStart | holdupStageEnd | holdupReturn | refWatchCheck | warmUpComplete | heaterFault | calPhaseEnd |
      calStabilityCheck | calEpochApply | benchScanCommit | benchRestEnd | ppsMissing | rateTimeout | timerTick | timerCapture |
      timerReleaseStart | fanPwmReload | fanStall | ledgerBlockClose | nvmeCommandTimeout | smartPoll | deviceLinkUp |
      resilverDone | loopSnapshot | seamRequest | seamTP | seamConfirm | modSeatQual | modSeatLoss | dieRejoinTimeout |
      markerLoss | gateKeepEnd | patchMeteringApply | fpStatusRead | fpTelemetryRead | fpStepWrite | fpHangRecovery |
      feederCommHoldExpire | balanceUpdate | tempReading | braceEnd | hubWatchdog | operatingHour | aux12Measurement |
      retryExpire | irangeApply | staggerSlot | energyCheckpoint | trendStripeWrite | capdataWrite =>
    delta exec
    dsimp only
    delta execSoloDecision execImageRetry execExpertUnlockTimeout execDozeScan execSeatQual execSeatLoss execAqExpire
      execRampDone execLimitWin execCapWin execNoWin execIlimExpire execFollow execGateStall execFetShort
      execModelMismatch execBusWindowQualify execSliceVisitEnd execOpenWireTest execTrendIntervalBoundary
      execDirectConvDone execCaptureEnd execBudgetCycle execQueueLimitExpire execBusMinShed execHoldupStageStart
      execHoldupStageEnd execHoldupReturn execRefWatchCheck execWarmUpComplete execHeaterFault execCalPhaseEnd
      execCalStabilityCheck execCalEpochApply execBenchScanCommit execBenchRestEnd execPpsMissing execRateTimeout
      execTimerTick execTimerCapture execTimerReleaseStart execFanPwmReload execFanStall execLedgerBlockClose
      execNvmeCommandTimeout execSmartPoll execDeviceLinkUp execResilverDone execLoopSnapshot execSeamRequest execSeamTP
      execSeamConfirm execModSeatQual execModSeatLoss execDieRejoinTimeout execMarkerLoss execGateKeepEnd
      execPatchMeteringApply execFpStatusRead execFpTelemetryRead execFpStepWrite execFpHangRecovery
      execFeederCommHoldExpire execBalanceUpdate execTempReading execBraceEnd execHubWatchdog execOperatingHour
      execAux12Measurement execRetryExpire execIrangeApply execStaggerSlot execEnergyCheckpoint execTrendStripeWrite
      execCapdataWrite
    dsimp only [letsTimePass]
    repeat' split
    all_goals simp

/-! ### What it says of a step -/

theorem samePin_endFasts (now : Nat) (b : Body) : SamePin b (b.endFasts now) :=
  List.foldlRecOn (motive := SamePin b) _ _ (.refl b) fun _ hc _ _ => hc.trans ⟨rfl, rfl, rfl, rfl, rfl⟩

theorem samePin_sendBluli (k : Nat) (c : List Nat) (b : Body) : SamePin b (b.sendBluli k c) := by
  unfold Body.sendBluli
  split
  · exact .refl b
  · exact ⟨rfl, rfl, rfl, rfl, rfl⟩

theorem samePin_beat (e : Env) (b : Body) : SamePin b (b.beat e) := by
  unfold Body.beat
  extract_lets due h
  split
  · exact .refl b
  · exact (samePin_sendBluli _ _ b).trans ⟨rfl, rfl, rfl, rfl, rfl⟩

theorem timeMoves_tick (rate : Int) (x : Time) : TimeMoves x (x.tick rate) :=
  ⟨Nat.le_add_right .., fun _ => Nat.mod_lt _ (by decide), fun _ => Nat.mod_lt _ (by decide)⟩

theorem acts_idle (s : State) : Acts true true s (idle s) :=
  ((Acts.refl (s := s)).time _ rfl (timeMoves_tick _ _)).quiet _ ((samePin_endFasts _ _).trans (samePin_beat _ _))

/-- A step gets to its next state by a chain of effects, from a state that differs from the one before in its queue alone. -/
theorem step_acts {s t : State} (h : step s = .next t) : ∃ l, Acts true true { s with pending := l } t := by
  unfold step at h
  split at h
  · rename_i hnil
    cases h
    refine ⟨[], ?_⟩
    rw [← hnil]
    exact acts_idle s
  · rename_i c rest hcons
    obtain ⟨u, hu, hacts⟩ := exec_answers c { s with pending := rest }
    cases hu.symm.trans h
    exact ⟨rest, hacts.mono⟩

/-! ### The obligations -/

/-- Settles O3: the next state is the end of the command's chain, and no effect touches the queue. -/
theorem everyCommandCompletes : Obligations.EveryCommandCompletes := by
  intro c s
  obtain ⟨t, ht, hacts⟩ := exec_answers c s
  exact ⟨t, ht, hacts.pending⟩

/-- Settles O5: each effect keeps the time in range, and none moves elapsed time back. -/
theorem stepKeepsTime : Obligations.StepKeepsTime := by
  constructor
  · intro s t hs h
    obtain ⟨l, hacts⟩ := step_acts h
    exact hacts.timeOk hs
  · intro s t h
    obtain ⟨l, hacts⟩ := step_acts h
    exact hacts.elapsedKept

/-- Settles O6: the map is written with words of 32 bits, and the copies by burns alone, which add bits. -/
theorem stepKeepsStarch : Obligations.StepKeepsStarch := by
  constructor
  · intro s t hs h
    obtain ⟨l, hacts⟩ := step_acts h
    exact hacts.starchOk hs
  · intro s t h
    obtain ⟨l, hacts⟩ := step_acts h
    exact hacts.within

/-- Settles O7: every command ends by settling, which drives the pin as the tree asks, or changes nothing that the pin depends on. -/
theorem pinFollowsTree : Obligations.PinFollowsTree := by
  intro s t hs h
  obtain ⟨l, hacts⟩ := step_acts h
  exact hacts.pinOk hs

end Sys2Proof.Proofs
end

section
/-!
SUPPORT. Folds over channels and dies: what each of them reads after its own change. The state after reset, and a step on an empty queue.
-/

namespace Sys2Proof.Proofs

open Sys2Proof Sys2Proof.Machine Sys2Proof.Safety Sys2Proof.Laws

/-! ### Channels, engines and dies through a fold -/

theorem en_congr (b : Body) {n m : Nat} (h : n % 128 = m % 128) : b.en n = b.en m := by unfold Body.en; simp only [h]
theorem ch_congr (b : Body) {n m : Nat} (h : n % 128 = m % 128) : b.ch n = b.ch m := by unfold Body.ch; simp only [h]
theorem fe_congr (b : Body) {j k : Nat} (h : j % 8 = k % 8) : b.fe j = b.fe k := by unfold Body.fe; simp only [h]

/-- The engines of channel n after a change of each of a list of channels. -/
theorem en_forEach_onEng (f : Nat → Eng → Eng) {l : List Nat} (hl : ∀ m ∈ l, m < 128) (hnd : l.Nodup) (b : Body) {n : Nat} (hn : n < 128) :
    (b.forEach l fun m b => b.onEng m (f m)).en n = if n ∈ l then f n (b.en n) else b.en n := by
  induction l generalizing b with
  | nil => rfl
  | cons m l ih =>
    obtain ⟨hm, hnd⟩ := List.nodup_cons.1 hnd
    have hm' : m % 128 = m := Nat.mod_eq_of_lt (hl m (List.mem_cons_self ..))
    have hn' : n % 128 = n := Nat.mod_eq_of_lt hn
    refine (ih (fun x hx => hl x (List.mem_cons_of_mem _ hx)) hnd (b.onEng m (f m))).trans ?_
    rw [en_onEng, hm', hn']
    by_cases h : n = m
    · subst h
      simp [hm]
    · simp [h]

/-- A change of engines leaves the rest of the body. -/
theorem forEach_onEng_eq (f : Nat → Eng → Eng) (l : List Nat) (b : Body) :
    ∃ g, b.forEach l (fun m b => b.onEng m (f m)) = { b with eng := g } :=
  List.foldlRecOn (motive := fun c : Body => ∃ g, c = { b with eng := g }) _ _ ⟨b.eng, rfl⟩
    fun c ⟨g, hc⟩ m _ => by subst hc; exact ⟨_, rfl⟩

/-! ### The state after reset (R10, R450, R477) -/

@[simp] theorem reset_ch (n : Nat) : Body.reset.ch n = Chan.reset := Vector.getElem_replicate _
@[simp] theorem reset_en (n : Nat) : Body.reset.en n = Eng.reset := Vector.getElem_replicate _
@[simp] theorem reset_fe (k : Nat) : Body.reset.fe k = Die.reset := Vector.getElem_replicate _

/-- Settles O1: a queue that is not empty gives its front to `exec`. -/
theorem stepRunsFront : Obligations.StepRunsFront := fun _ _ _ => rfl

/-- Settles O4: the state after reset, evaluated. -/
theorem resetKeepsTheInvariants : Obligations.ResetKeepsTheInvariants :=
  ⟨⟨by decide, by decide⟩, ⟨bankOk_nil, bankOk_nil, bankOk_nil⟩, fun _ => (Bool.and_false _).symm⟩

/-- Settles O8: the state after reset, channel by channel, die by die and field by field. -/
theorem resetLeaves : Obligations.ResetLeaves := by
  refine ⟨rfl, fun n => congrArg Chan.state (reset_ch n), fun n => congrArg Eng.gate (reset_en n),
    fun k => congrArg Die.joined (reset_fe k), fun _ _ => rfl, fun k f i => ?_, rfl, rfl⟩
  exact congrArg (fun d : Die => regGet d.regs f i) (reset_fe k)

/-! ### A step on an empty queue (R159, R377, R455) -/

/-- A fast sink ends on a die that takes no samples alone (R159). -/
theorem endFasts_en (now : Nat) (b : Body) {n : Nat} (hn : n < 128) :
    (b.endFasts now).en n = if b.dieOff (dieOf n) = true ∧ (b.en n).gate = .fastSink then (b.en n).endFast now else b.en n := by
  unfold Body.endFasts
  rw [en_forEach_onEng (fun _ => Eng.endFast now) (fun m hm => List.mem_range.1 (List.mem_filter.1 hm).1)
    (List.nodup_range.filter _) b hn]
  simp [hn]

theorem endFasts_none (now : Nat) (b : Body) (h : ∀ n, (b.en n).gate ≠ .fastSink) : b.endFasts now = b := by
  unfold Body.endFasts
  rw [List.filter_eq_nil_iff.2 fun n _ => by simp [h n]]
  rfl

theorem endFasts_eq (now : Nat) (b : Body) : ∃ g, b.endFasts now = { b with eng := g } :=
  forEach_onEng_eq (fun _ => Eng.endFast now) _ b

/-- The heartbeat that the module sends (R455). -/
def beatOf (e : Env) (b : Body) : Heartbeat :=
  ⟨b.role, b.flag .twinStatReady, b.rd .twinStatSlot, b.flag .twinStatTakeover, b.twin.leaving, e.count,
    hashUnits (starchDigest e.map), b.twin.rxSeq⟩

/-- A heartbeat changes the twin state alone. -/
theorem beat_cases (e : Env) (b : Body) : ∃ x, b.beat e = { b with twin := x } := by
  unfold Body.beat Body.sendBluli
  extract_lets due h
  split
  · exact ⟨b.twin, rfl⟩
  · split <;> exact ⟨_, rfl⟩

theorem beat_none (e : Env) (b : Body) (h : b.twin.txT = none) : b.beat e = b := by
  unfold Body.beat
  simp [h]

/-- A heartbeat that is due carries the role and the count, and is the last one where the module leaves (R455, R469). -/
theorem beat_due (e : Env) (b : Body) (hhub : b.hubDown = false) (hsilent : b.twin.silent = false) (htx : b.twin.txT.isSome = true)
    (hdue : ∀ p, b.twin.hbOut = some p → p.1 + 10000 ≤ e.now) :
    (b.beat e).twin.hbOut = some (e.now, beatOf e b) ∧ (b.beat e).twin.silent = b.twin.leaving := by
  have htx' : b.twin.txT.isNone = false := by simpa using htx
  unfold Body.beat Body.sendBluli
  extract_lets due h
  have hd : due = true := by
    unfold due
    split
    · rename_i p hp
      simpa using hdue p hp
    · rfl
  simp [hhub, hsilent, htx', hd, h, beatOf]

/-- Settles O2: one cycle passes; a fast sink may end, and a heartbeat may go out. -/
theorem idleLetsACyclePass : Obligations.IdleLetsACyclePass := by
  intro s hs
  have hstep : step s = .next (idle s) := by unfold step; rw [hs]
  set u : State := { s with time := s.time.tick s.body.tickRate } with hu
  obtain ⟨g, hg⟩ := endFasts_eq u.time.elapsed s.body
  obtain ⟨x, hx⟩ := beat_cases u.env { s.body with eng := g }
  have hidle : (idle s).body = ({ s.body with eng := g } : Body).beat u.env := by rw [← hg]; rfl
  have hbody : (idle s).body = { s.body with eng := g, twin := x } := hidle.trans hx
  refine ⟨fun hgate htx => ?_, idle s, hstep, rfl, hs, rfl, ?_, ?_, fun n => ?_, fun k => ?_, fun n hn => ?_,
    fun hhub hsilent htx hdue => ?_⟩
  · rw [endFasts_none _ _ hgate] at hg
    have hb : (idle s).body = s.body := by rw [hidle, ← hg]; exact beat_none _ _ htx
    rw [hstep]
    exact congrArg Host.Outcome.next (congrArg (fun b => { u with body := b }) hb)
  · rw [hbody]
  · rw [hbody]
  · rw [hbody]; rfl
  · rw [hbody]; rfl
  · refine Eq.trans ?_ (endFasts_en u.time.elapsed s.body hn)
    rw [hbody, hg]
    rfl
  · rw [hidle]
    obtain ⟨hout, hsil⟩ := beat_due u.env { s.body with eng := g } hhub hsilent htx hdue
    exact ⟨_, hout, rfl, rfl, rfl, rfl, hsil⟩

end Sys2Proof.Proofs
end

section
/-!
SUPPORT. What the records, the frames to the partner and the leaves leave as it was, part by part; how a command's answer is read off its
meaning.
-/

namespace Sys2Proof.Proofs

open Sys2Proof Sys2Proof.Machine Sys2Proof.Safety Sys2Proof.Laws

/-! ### Records and frames to the partner change the recorder and the twin state alone -/

theorem sendBluli_part {β : Type} (p : Body → β) (hp : ∀ (b : Body) (x : Twin), p { b with twin := x } = p b) (k : Nat) (c : List Nat)
    (b : Body) : p (b.sendBluli k c) = p b := by
  unfold Body.sendBluli
  split
  · rfl
  · exact hp b _

theorem shared_part {β : Type} (p : Body → β) (hp : ∀ (b : Body) (x : Twin) (r : Recorder), p { b with twin := x, rcd := r } = p b)
    (x : LRec) (b : Body) : p (b.shared x) = p b := by
  unfold Body.shared
  split
  · exact (sendBluli_part p (fun c y => hp c y c.rcd) 6 x.units _).trans (hp b _ b.rcd)
  · exact hp b b.twin _

theorem event_part {β : Type} (p : Body → β) (hp : ∀ (b : Body) (x : Twin) (r : Recorder), p { b with twin := x, rcd := r } = p b)
    (t c n x y z : Nat) (b : Body) : p (b.event t c n x y z) = p b := shared_part p hp _ b

/-! ### Leaves change the registers and the leaves that wait for the wake alone -/

theorem raise_part {β : Type} (p : Body → β) (hp : ∀ (b : Body) (m : Sparse) (l : List (Nat × Nat)), p { b with regs := m, dozeLeaves := l } = p b)
    (l : Leaf) (b : Body) : p (b.raise l) = p b := by
  unfold Body.raise
  split
  · rfl
  · split
    · exact hp b b.regs _
    · exact hp b _ b.dozeLeaves

theorem raiseCh1_part {β : Type} (p : Body → β)
    (hp : ∀ (b : Body) (m : Sparse) (l : List (Nat × Nat)), p { b with regs := m, dozeLeaves := l } = p b) (n : Nat) (l : ChLeaf) (b : Body) :
    p (b.raiseCh1 n l) = p b := by
  unfold Body.raiseCh1
  split
  · rfl
  · split
    · exact hp b b.regs _
    · exact hp b _ b.dozeLeaves

theorem raiseCh_part {β : Type} (p : Body → β)
    (hp : ∀ (b : Body) (m : Sparse) (l : List (Nat × Nat)), p { b with regs := m, dozeLeaves := l } = p b) (n : Nat) (l : ChLeaf) (b : Body) :
    p (b.raiseCh n l) = p b :=
  part_foldl p _ (fun c m => raiseCh1_part p hp m l c) _ b

@[simp] theorem sendBluli_chan (k : Nat) (c : List Nat) (b : Body) : (b.sendBluli k c).chan = b.chan := sendBluli_part Body.chan (fun _ _ => rfl) k c b
@[simp] theorem sendBluli_eng (k : Nat) (c : List Nat) (b : Body) : (b.sendBluli k c).eng = b.eng := sendBluli_part Body.eng (fun _ _ => rfl) k c b
@[simp] theorem sendBluli_bud (k : Nat) (c : List Nat) (b : Body) : (b.sendBluli k c).bud = b.bud := sendBluli_part Body.bud (fun _ _ => rfl) k c b
@[simp] theorem sendBluli_rcd (k : Nat) (c : List Nat) (b : Body) : (b.sendBluli k c).rcd = b.rcd := sendBluli_part Body.rcd (fun _ _ => rfl) k c b
@[simp] theorem sendBluli_mtr (k : Nat) (c : List Nat) (b : Body) : (b.sendBluli k c).mtr = b.mtr := sendBluli_part Body.mtr (fun _ _ => rfl) k c b
@[simp] theorem sendBluli_disc (k : Nat) (c : List Nat) (b : Body) : (b.sendBluli k c).disc = b.disc := sendBluli_part Body.disc (fun _ _ => rfl) k c b
@[simp] theorem sendBluli_tmr (k : Nat) (c : List Nat) (b : Body) : (b.sendBluli k c).tmr = b.tmr := sendBluli_part Body.tmr (fun _ _ => rfl) k c b
@[simp] theorem sendBluli_health (k : Nat) (c : List Nat) (b : Body) : (b.sendBluli k c).health = b.health := sendBluli_part Body.health (fun _ _ => rfl) k c b
@[simp] theorem sendBluli_fdr (k : Nat) (c : List Nat) (b : Body) : (b.sendBluli k c).fdr = b.fdr := sendBluli_part Body.fdr (fun _ _ => rfl) k c b
@[simp] theorem sendBluli_boot (k : Nat) (c : List Nat) (b : Body) : (b.sendBluli k c).boot = b.boot := sendBluli_part Body.boot (fun _ _ => rfl) k c b
@[simp] theorem sendBluli_hp (k : Nat) (c : List Nat) (b : Body) : (b.sendBluli k c).hp = b.hp := sendBluli_part Body.hp (fun _ _ => rfl) k c b
@[simp] theorem sendBluli_gainDue (k : Nat) (c : List Nat) (b : Body) : (b.sendBluli k c).gainDue = b.gainDue := sendBluli_part Body.gainDue (fun _ _ => rfl) k c b
@[simp] theorem sendBluli_dozeReq (k : Nat) (c : List Nat) (b : Body) : (b.sendBluli k c).dozeReq = b.dozeReq := sendBluli_part Body.dozeReq (fun _ _ => rfl) k c b
@[simp] theorem sendBluli_trendWords (k : Nat) (c : List Nat) (b : Body) : (b.sendBluli k c).trendWords = b.trendWords := sendBluli_part Body.trendWords (fun _ _ => rfl) k c b
@[simp] theorem sendBluli_alertLow (k : Nat) (c : List Nat) (b : Body) : (b.sendBluli k c).alertLow = b.alertLow := sendBluli_part Body.alertLow (fun _ _ => rfl) k c b
@[simp] theorem sendBluli_alertHold (k : Nat) (c : List Nat) (b : Body) : (b.sendBluli k c).alertHold = b.alertHold := sendBluli_part Body.alertHold (fun _ _ => rfl) k c b
@[simp] theorem sendBluli_hubDown (k : Nat) (c : List Nat) (b : Body) : (b.sendBluli k c).hubDown = b.hubDown := sendBluli_part Body.hubDown (fun _ _ => rfl) k c b
@[simp] theorem sendBluli_doze (k : Nat) (c : List Nat) (b : Body) : (b.sendBluli k c).doze = b.doze := sendBluli_part Body.doze (fun _ _ => rfl) k c b
@[simp] theorem sendBluli_dozeLeaves (k : Nat) (c : List Nat) (b : Body) : (b.sendBluli k c).dozeLeaves = b.dozeLeaves := sendBluli_part Body.dozeLeaves (fun _ _ => rfl) k c b
@[simp] theorem sendBluli_reply (k : Nat) (c : List Nat) (b : Body) : (b.sendBluli k c).reply = b.reply := sendBluli_part Body.reply (fun _ _ => rfl) k c b
@[simp] theorem sendBluli_freeIx (k : Nat) (c : List Nat) (b : Body) : (b.sendBluli k c).freeIx = b.freeIx := sendBluli_part Body.freeIx (fun _ _ => rfl) k c b
@[simp] theorem sendBluli_regs (k : Nat) (c : List Nat) (b : Body) : (b.sendBluli k c).regs = b.regs := sendBluli_part Body.regs (fun _ _ => rfl) k c b
@[simp] theorem sendBluli_ch (k : Nat) (c : List Nat) (b : Body) (n' : Nat) : (b.sendBluli k c).ch n' = b.ch n' := sendBluli_part (fun c => c.ch n') (fun _ _ => rfl) k c b
@[simp] theorem sendBluli_en (k : Nat) (c : List Nat) (b : Body) (n' : Nat) : (b.sendBluli k c).en n' = b.en n' := sendBluli_part (fun c => c.en n') (fun _ _ => rfl) k c b
@[simp] theorem sendBluli_fe (k : Nat) (c : List Nat) (b : Body) (k' : Nat) : (b.sendBluli k c).fe k' = b.fe k' := sendBluli_part (fun c => c.fe k') (fun _ _ => rfl) k c b
@[simp] theorem sendBluli_drd (k : Nat) (c : List Nat) (b : Body) (k' : Nat) (g : Fld) (j : Nat) : (b.sendBluli k c).drd k' g j = b.drd k' g j :=
  sendBluli_part (fun c => c.drd k' g j) (fun _ _ => rfl) k c b

@[simp] theorem sendBluli_role (k : Nat) (c : List Nat) (b : Body) : (b.sendBluli k c).role = b.role := sendBluli_part Body.role (fun _ _ => rfl) k c b
@[simp] theorem sendBluli_die (k : Nat) (c : List Nat) (b : Body) : (b.sendBluli k c).die = b.die := sendBluli_part Body.die (fun _ _ => rfl) k c b
@[simp] theorem sendBluli_rd (k : Nat) (c : List Nat) (b : Body) (g : Fld) (j : Nat) : (b.sendBluli k c).rd g j = b.rd g j :=
  sendBluli_part (fun c => c.rd g j) (fun _ _ => rfl) k c b

@[simp] theorem shared_chan (x : LRec) (b : Body) : (b.shared x).chan = b.chan := shared_part Body.chan (fun _ _ _ => rfl) x b
@[simp] theorem shared_eng (x : LRec) (b : Body) : (b.shared x).eng = b.eng := shared_part Body.eng (fun _ _ _ => rfl) x b
@[simp] theorem shared_bud (x : LRec) (b : Body) : (b.shared x).bud = b.bud := shared_part Body.bud (fun _ _ _ => rfl) x b
@[simp] theorem shared_mtr (x : LRec) (b : Body) : (b.shared x).mtr = b.mtr := shared_part Body.mtr (fun _ _ _ => rfl) x b
@[simp] theorem shared_disc (x : LRec) (b : Body) : (b.shared x).disc = b.disc := shared_part Body.disc (fun _ _ _ => rfl) x b
@[simp] theorem shared_tmr (x : LRec) (b : Body) : (b.shared x).tmr = b.tmr := shared_part Body.tmr (fun _ _ _ => rfl) x b
@[simp] theorem shared_health (x : LRec) (b : Body) : (b.shared x).health = b.health := shared_part Body.health (fun _ _ _ => rfl) x b
@[simp] theorem shared_fdr (x : LRec) (b : Body) : (b.shared x).fdr = b.fdr := shared_part Body.fdr (fun _ _ _ => rfl) x b
@[simp] theorem shared_boot (x : LRec) (b : Body) : (b.shared x).boot = b.boot := shared_part Body.boot (fun _ _ _ => rfl) x b
@[simp] theorem shared_hp (x : LRec) (b : Body) : (b.shared x).hp = b.hp := shared_part Body.hp (fun _ _ _ => rfl) x b
@[simp] theorem shared_gainDue (x : LRec) (b : Body) : (b.shared x).gainDue = b.gainDue := shared_part Body.gainDue (fun _ _ _ => rfl) x b
@[simp] theorem shared_dozeReq (x : LRec) (b : Body) : (b.shared x).dozeReq = b.dozeReq := shared_part Body.dozeReq (fun _ _ _ => rfl) x b
@[simp] theorem shared_trendWords (x : LRec) (b : Body) : (b.shared x).trendWords = b.trendWords := shared_part Body.trendWords (fun _ _ _ => rfl) x b
@[simp] theorem shared_alertLow (x : LRec) (b : Body) : (b.shared x).alertLow = b.alertLow := shared_part Body.alertLow (fun _ _ _ => rfl) x b
@[simp] theorem shared_alertHold (x : LRec) (b : Body) : (b.shared x).alertHold = b.alertHold := shared_part Body.alertHold (fun _ _ _ => rfl) x b
@[simp] theorem shared_hubDown (x : LRec) (b : Body) : (b.shared x).hubDown = b.hubDown := shared_part Body.hubDown (fun _ _ _ => rfl) x b
@[simp] theorem shared_doze (x : LRec) (b : Body) : (b.shared x).doze = b.doze := shared_part Body.doze (fun _ _ _ => rfl) x b
@[simp] theorem shared_dozeLeaves (x : LRec) (b : Body) : (b.shared x).dozeLeaves = b.dozeLeaves := shared_part Body.dozeLeaves (fun _ _ _ => rfl) x b
@[simp] theorem shared_reply (x : LRec) (b : Body) : (b.shared x).reply = b.reply := shared_part Body.reply (fun _ _ _ => rfl) x b
@[simp] theorem shared_freeIx (x : LRec) (b : Body) : (b.shared x).freeIx = b.freeIx := shared_part Body.freeIx (fun _ _ _ => rfl) x b
@[simp] theorem shared_regs (x : LRec) (b : Body) : (b.shared x).regs = b.regs := shared_part Body.regs (fun _ _ _ => rfl) x b
@[simp] theorem shared_ch (x : LRec) (b : Body) (n' : Nat) : (b.shared x).ch n' = b.ch n' := shared_part (fun c => c.ch n') (fun _ _ _ => rfl) x b
@[simp] theorem shared_en (x : LRec) (b : Body) (n' : Nat) : (b.shared x).en n' = b.en n' := shared_part (fun c => c.en n') (fun _ _ _ => rfl) x b
@[simp] theorem shared_fe (x : LRec) (b : Body) (k' : Nat) : (b.shared x).fe k' = b.fe k' := shared_part (fun c => c.fe k') (fun _ _ _ => rfl) x b
@[simp] theorem shared_drd (x : LRec) (b : Body) (k' : Nat) (g : Fld) (j : Nat) : (b.shared x).drd k' g j = b.drd k' g j :=
  shared_part (fun c => c.drd k' g j) (fun _ _ _ => rfl) x b

@[simp] theorem shared_role (x : LRec) (b : Body) : (b.shared x).role = b.role := shared_part Body.role (fun _ _ _ => rfl) x b
@[simp] theorem shared_die (x : LRec) (b : Body) : (b.shared x).die = b.die := shared_part Body.die (fun _ _ _ => rfl) x b
@[simp] theorem shared_rd (x : LRec) (b : Body) (g : Fld) (j : Nat) : (b.shared x).rd g j = b.rd g j :=
  shared_part (fun c => c.rd g j) (fun _ _ _ => rfl) x b

@[simp] theorem event_chan (t c n x y z : Nat) (b : Body) : (b.event t c n x y z).chan = b.chan := event_part Body.chan (fun _ _ _ => rfl) t c n x y z b
@[simp] theorem event_eng (t c n x y z : Nat) (b : Body) : (b.event t c n x y z).eng = b.eng := event_part Body.eng (fun _ _ _ => rfl) t c n x y z b
@[simp] theorem event_bud (t c n x y z : Nat) (b : Body) : (b.event t c n x y z).bud = b.bud := event_part Body.bud (fun _ _ _ => rfl) t c n x y z b
@[simp] theorem event_mtr (t c n x y z : Nat) (b : Body) : (b.event t c n x y z).mtr = b.mtr := event_part Body.mtr (fun _ _ _ => rfl) t c n x y z b
@[simp] theorem event_disc (t c n x y z : Nat) (b : Body) : (b.event t c n x y z).disc = b.disc := event_part Body.disc (fun _ _ _ => rfl) t c n x y z b
@[simp] theorem event_tmr (t c n x y z : Nat) (b : Body) : (b.event t c n x y z).tmr = b.tmr := event_part Body.tmr (fun _ _ _ => rfl) t c n x y z b
@[simp] theorem event_health (t c n x y z : Nat) (b : Body) : (b.event t c n x y z).health = b.health := event_part Body.health (fun _ _ _ => rfl) t c n x y z b
@[simp] theorem event_fdr (t c n x y z : Nat) (b : Body) : (b.event t c n x y z).fdr = b.fdr := event_part Body.fdr (fun _ _ _ => rfl) t c n x y z b
@[simp] theorem event_boot (t c n x y z : Nat) (b : Body) : (b.event t c n x y z).boot = b.boot := event_part Body.boot (fun _ _ _ => rfl) t c n x y z b
@[simp] theorem event_hp (t c n x y z : Nat) (b : Body) : (b.event t c n x y z).hp = b.hp := event_part Body.hp (fun _ _ _ => rfl) t c n x y z b
@[simp] theorem event_gainDue (t c n x y z : Nat) (b : Body) : (b.event t c n x y z).gainDue = b.gainDue := event_part Body.gainDue (fun _ _ _ => rfl) t c n x y z b
@[simp] theorem event_dozeReq (t c n x y z : Nat) (b : Body) : (b.event t c n x y z).dozeReq = b.dozeReq := event_part Body.dozeReq (fun _ _ _ => rfl) t c n x y z b
@[simp] theorem event_trendWords (t c n x y z : Nat) (b : Body) : (b.event t c n x y z).trendWords = b.trendWords := event_part Body.trendWords (fun _ _ _ => rfl) t c n x y z b
@[simp] theorem event_alertLow (t c n x y z : Nat) (b : Body) : (b.event t c n x y z).alertLow = b.alertLow := event_part Body.alertLow (fun _ _ _ => rfl) t c n x y z b
@[simp] theorem event_alertHold (t c n x y z : Nat) (b : Body) : (b.event t c n x y z).alertHold = b.alertHold := event_part Body.alertHold (fun _ _ _ => rfl) t c n x y z b
@[simp] theorem event_hubDown (t c n x y z : Nat) (b : Body) : (b.event t c n x y z).hubDown = b.hubDown := event_part Body.hubDown (fun _ _ _ => rfl) t c n x y z b
@[simp] theorem event_doze (t c n x y z : Nat) (b : Body) : (b.event t c n x y z).doze = b.doze := event_part Body.doze (fun _ _ _ => rfl) t c n x y z b
@[simp] theorem event_dozeLeaves (t c n x y z : Nat) (b : Body) : (b.event t c n x y z).dozeLeaves = b.dozeLeaves := event_part Body.dozeLeaves (fun _ _ _ => rfl) t c n x y z b
@[simp] theorem event_reply (t c n x y z : Nat) (b : Body) : (b.event t c n x y z).reply = b.reply := event_part Body.reply (fun _ _ _ => rfl) t c n x y z b
@[simp] theorem event_freeIx (t c n x y z : Nat) (b : Body) : (b.event t c n x y z).freeIx = b.freeIx := event_part Body.freeIx (fun _ _ _ => rfl) t c n x y z b
@[simp] theorem event_regs (t c n x y z : Nat) (b : Body) : (b.event t c n x y z).regs = b.regs := event_part Body.regs (fun _ _ _ => rfl) t c n x y z b
@[simp] theorem event_ch (t c n x y z : Nat) (b : Body) (n' : Nat) : (b.event t c n x y z).ch n' = b.ch n' := event_part (fun c => c.ch n') (fun _ _ _ => rfl) t c n x y z b
@[simp] theorem event_en (t c n x y z : Nat) (b : Body) (n' : Nat) : (b.event t c n x y z).en n' = b.en n' := event_part (fun c => c.en n') (fun _ _ _ => rfl) t c n x y z b
@[simp] theorem event_fe (t c n x y z : Nat) (b : Body) (k' : Nat) : (b.event t c n x y z).fe k' = b.fe k' := event_part (fun c => c.fe k') (fun _ _ _ => rfl) t c n x y z b
@[simp] theorem event_drd (t c n x y z : Nat) (b : Body) (k' : Nat) (g : Fld) (j : Nat) : (b.event t c n x y z).drd k' g j = b.drd k' g j :=
  event_part (fun c => c.drd k' g j) (fun _ _ _ => rfl) t c n x y z b

@[simp] theorem raise_chan (l : Leaf) (b : Body) : (b.raise l).chan = b.chan := raise_part Body.chan (fun _ _ _ => rfl) l b
@[simp] theorem raise_eng (l : Leaf) (b : Body) : (b.raise l).eng = b.eng := raise_part Body.eng (fun _ _ _ => rfl) l b
@[simp] theorem raise_bud (l : Leaf) (b : Body) : (b.raise l).bud = b.bud := raise_part Body.bud (fun _ _ _ => rfl) l b
@[simp] theorem raise_rcd (l : Leaf) (b : Body) : (b.raise l).rcd = b.rcd := raise_part Body.rcd (fun _ _ _ => rfl) l b
@[simp] theorem raise_mtr (l : Leaf) (b : Body) : (b.raise l).mtr = b.mtr := raise_part Body.mtr (fun _ _ _ => rfl) l b
@[simp] theorem raise_disc (l : Leaf) (b : Body) : (b.raise l).disc = b.disc := raise_part Body.disc (fun _ _ _ => rfl) l b
@[simp] theorem raise_tmr (l : Leaf) (b : Body) : (b.raise l).tmr = b.tmr := raise_part Body.tmr (fun _ _ _ => rfl) l b
@[simp] theorem raise_health (l : Leaf) (b : Body) : (b.raise l).health = b.health := raise_part Body.health (fun _ _ _ => rfl) l b
@[simp] theorem raise_fdr (l : Leaf) (b : Body) : (b.raise l).fdr = b.fdr := raise_part Body.fdr (fun _ _ _ => rfl) l b
@[simp] theorem raise_twin (l : Leaf) (b : Body) : (b.raise l).twin = b.twin := raise_part Body.twin (fun _ _ _ => rfl) l b
@[simp] theorem raise_boot (l : Leaf) (b : Body) : (b.raise l).boot = b.boot := raise_part Body.boot (fun _ _ _ => rfl) l b
@[simp] theorem raise_hp (l : Leaf) (b : Body) : (b.raise l).hp = b.hp := raise_part Body.hp (fun _ _ _ => rfl) l b
@[simp] theorem raise_gainDue (l : Leaf) (b : Body) : (b.raise l).gainDue = b.gainDue := raise_part Body.gainDue (fun _ _ _ => rfl) l b
@[simp] theorem raise_dozeReq (l : Leaf) (b : Body) : (b.raise l).dozeReq = b.dozeReq := raise_part Body.dozeReq (fun _ _ _ => rfl) l b
@[simp] theorem raise_trendWords (l : Leaf) (b : Body) : (b.raise l).trendWords = b.trendWords := raise_part Body.trendWords (fun _ _ _ => rfl) l b
@[simp] theorem raise_alertLow (l : Leaf) (b : Body) : (b.raise l).alertLow = b.alertLow := raise_part Body.alertLow (fun _ _ _ => rfl) l b
@[simp] theorem raise_alertHold (l : Leaf) (b : Body) : (b.raise l).alertHold = b.alertHold := raise_part Body.alertHold (fun _ _ _ => rfl) l b
@[simp] theorem raise_hubDown (l : Leaf) (b : Body) : (b.raise l).hubDown = b.hubDown := raise_part Body.hubDown (fun _ _ _ => rfl) l b
@[simp] theorem raise_doze (l : Leaf) (b : Body) : (b.raise l).doze = b.doze := raise_part Body.doze (fun _ _ _ => rfl) l b
@[simp] theorem raise_reply (l : Leaf) (b : Body) : (b.raise l).reply = b.reply := raise_part Body.reply (fun _ _ _ => rfl) l b
@[simp] theorem raise_freeIx (l : Leaf) (b : Body) : (b.raise l).freeIx = b.freeIx := raise_part Body.freeIx (fun _ _ _ => rfl) l b
@[simp] theorem raise_ch (l : Leaf) (b : Body) (n' : Nat) : (b.raise l).ch n' = b.ch n' := raise_part (fun c => c.ch n') (fun _ _ _ => rfl) l b
@[simp] theorem raise_en (l : Leaf) (b : Body) (n' : Nat) : (b.raise l).en n' = b.en n' := raise_part (fun c => c.en n') (fun _ _ _ => rfl) l b
@[simp] theorem raise_fe (l : Leaf) (b : Body) (k' : Nat) : (b.raise l).fe k' = b.fe k' := raise_part (fun c => c.fe k') (fun _ _ _ => rfl) l b
@[simp] theorem raise_drd (l : Leaf) (b : Body) (k' : Nat) (g : Fld) (j : Nat) : (b.raise l).drd k' g j = b.drd k' g j :=
  raise_part (fun c => c.drd k' g j) (fun _ _ _ => rfl) l b

@[simp] theorem raiseCh1_chan (n : Nat) (l : ChLeaf) (b : Body) : (b.raiseCh1 n l).chan = b.chan := raiseCh1_part Body.chan (fun _ _ _ => rfl) n l b
@[simp] theorem raiseCh1_eng (n : Nat) (l : ChLeaf) (b : Body) : (b.raiseCh1 n l).eng = b.eng := raiseCh1_part Body.eng (fun _ _ _ => rfl) n l b
@[simp] theorem raiseCh1_bud (n : Nat) (l : ChLeaf) (b : Body) : (b.raiseCh1 n l).bud = b.bud := raiseCh1_part Body.bud (fun _ _ _ => rfl) n l b
@[simp] theorem raiseCh1_rcd (n : Nat) (l : ChLeaf) (b : Body) : (b.raiseCh1 n l).rcd = b.rcd := raiseCh1_part Body.rcd (fun _ _ _ => rfl) n l b
@[simp] theorem raiseCh1_mtr (n : Nat) (l : ChLeaf) (b : Body) : (b.raiseCh1 n l).mtr = b.mtr := raiseCh1_part Body.mtr (fun _ _ _ => rfl) n l b
@[simp] theorem raiseCh1_disc (n : Nat) (l : ChLeaf) (b : Body) : (b.raiseCh1 n l).disc = b.disc := raiseCh1_part Body.disc (fun _ _ _ => rfl) n l b
@[simp] theorem raiseCh1_tmr (n : Nat) (l : ChLeaf) (b : Body) : (b.raiseCh1 n l).tmr = b.tmr := raiseCh1_part Body.tmr (fun _ _ _ => rfl) n l b
@[simp] theorem raiseCh1_health (n : Nat) (l : ChLeaf) (b : Body) : (b.raiseCh1 n l).health = b.health := raiseCh1_part Body.health (fun _ _ _ => rfl) n l b
@[simp] theorem raiseCh1_fdr (n : Nat) (l : ChLeaf) (b : Body) : (b.raiseCh1 n l).fdr = b.fdr := raiseCh1_part Body.fdr (fun _ _ _ => rfl) n l b
@[simp] theorem raiseCh1_twin (n : Nat) (l : ChLeaf) (b : Body) : (b.raiseCh1 n l).twin = b.twin := raiseCh1_part Body.twin (fun _ _ _ => rfl) n l b
@[simp] theorem raiseCh1_boot (n : Nat) (l : ChLeaf) (b : Body) : (b.raiseCh1 n l).boot = b.boot := raiseCh1_part Body.boot (fun _ _ _ => rfl) n l b
@[simp] theorem raiseCh1_hp (n : Nat) (l : ChLeaf) (b : Body) : (b.raiseCh1 n l).hp = b.hp := raiseCh1_part Body.hp (fun _ _ _ => rfl) n l b
@[simp] theorem raiseCh1_gainDue (n : Nat) (l : ChLeaf) (b : Body) : (b.raiseCh1 n l).gainDue = b.gainDue := raiseCh1_part Body.gainDue (fun _ _ _ => rfl) n l b
@[simp] theorem raiseCh1_dozeReq (n : Nat) (l : ChLeaf) (b : Body) : (b.raiseCh1 n l).dozeReq = b.dozeReq := raiseCh1_part Body.dozeReq (fun _ _ _ => rfl) n l b
@[simp] theorem raiseCh1_trendWords (n : Nat) (l : ChLeaf) (b : Body) : (b.raiseCh1 n l).trendWords = b.trendWords := raiseCh1_part Body.trendWords (fun _ _ _ => rfl) n l b
@[simp] theorem raiseCh1_alertLow (n : Nat) (l : ChLeaf) (b : Body) : (b.raiseCh1 n l).alertLow = b.alertLow := raiseCh1_part Body.alertLow (fun _ _ _ => rfl) n l b
@[simp] theorem raiseCh1_alertHold (n : Nat) (l : ChLeaf) (b : Body) : (b.raiseCh1 n l).alertHold = b.alertHold := raiseCh1_part Body.alertHold (fun _ _ _ => rfl) n l b
@[simp] theorem raiseCh1_hubDown (n : Nat) (l : ChLeaf) (b : Body) : (b.raiseCh1 n l).hubDown = b.hubDown := raiseCh1_part Body.hubDown (fun _ _ _ => rfl) n l b
@[simp] theorem raiseCh1_doze (n : Nat) (l : ChLeaf) (b : Body) : (b.raiseCh1 n l).doze = b.doze := raiseCh1_part Body.doze (fun _ _ _ => rfl) n l b
@[simp] theorem raiseCh1_reply (n : Nat) (l : ChLeaf) (b : Body) : (b.raiseCh1 n l).reply = b.reply := raiseCh1_part Body.reply (fun _ _ _ => rfl) n l b
@[simp] theorem raiseCh1_freeIx (n : Nat) (l : ChLeaf) (b : Body) : (b.raiseCh1 n l).freeIx = b.freeIx := raiseCh1_part Body.freeIx (fun _ _ _ => rfl) n l b
@[simp] theorem raiseCh1_ch (n : Nat) (l : ChLeaf) (b : Body) (n' : Nat) : (b.raiseCh1 n l).ch n' = b.ch n' := raiseCh1_part (fun c => c.ch n') (fun _ _ _ => rfl) n l b
@[simp] theorem raiseCh1_en (n : Nat) (l : ChLeaf) (b : Body) (n' : Nat) : (b.raiseCh1 n l).en n' = b.en n' := raiseCh1_part (fun c => c.en n') (fun _ _ _ => rfl) n l b
@[simp] theorem raiseCh1_fe (n : Nat) (l : ChLeaf) (b : Body) (k' : Nat) : (b.raiseCh1 n l).fe k' = b.fe k' := raiseCh1_part (fun c => c.fe k') (fun _ _ _ => rfl) n l b
@[simp] theorem raiseCh1_drd (n : Nat) (l : ChLeaf) (b : Body) (k' : Nat) (g : Fld) (j : Nat) : (b.raiseCh1 n l).drd k' g j = b.drd k' g j :=
  raiseCh1_part (fun c => c.drd k' g j) (fun _ _ _ => rfl) n l b

@[simp] theorem raiseCh_chan (n : Nat) (l : ChLeaf) (b : Body) : (b.raiseCh n l).chan = b.chan := raiseCh_part Body.chan (fun _ _ _ => rfl) n l b
@[simp] theorem raiseCh_eng (n : Nat) (l : ChLeaf) (b : Body) : (b.raiseCh n l).eng = b.eng := raiseCh_part Body.eng (fun _ _ _ => rfl) n l b
@[simp] theorem raiseCh_bud (n : Nat) (l : ChLeaf) (b : Body) : (b.raiseCh n l).bud = b.bud := raiseCh_part Body.bud (fun _ _ _ => rfl) n l b
@[simp] theorem raiseCh_rcd (n : Nat) (l : ChLeaf) (b : Body) : (b.raiseCh n l).rcd = b.rcd := raiseCh_part Body.rcd (fun _ _ _ => rfl) n l b
@[simp] theorem raiseCh_mtr (n : Nat) (l : ChLeaf) (b : Body) : (b.raiseCh n l).mtr = b.mtr := raiseCh_part Body.mtr (fun _ _ _ => rfl) n l b
@[simp] theorem raiseCh_disc (n : Nat) (l : ChLeaf) (b : Body) : (b.raiseCh n l).disc = b.disc := raiseCh_part Body.disc (fun _ _ _ => rfl) n l b
@[simp] theorem raiseCh_tmr (n : Nat) (l : ChLeaf) (b : Body) : (b.raiseCh n l).tmr = b.tmr := raiseCh_part Body.tmr (fun _ _ _ => rfl) n l b
@[simp] theorem raiseCh_health (n : Nat) (l : ChLeaf) (b : Body) : (b.raiseCh n l).health = b.health := raiseCh_part Body.health (fun _ _ _ => rfl) n l b
@[simp] theorem raiseCh_fdr (n : Nat) (l : ChLeaf) (b : Body) : (b.raiseCh n l).fdr = b.fdr := raiseCh_part Body.fdr (fun _ _ _ => rfl) n l b
@[simp] theorem raiseCh_twin (n : Nat) (l : ChLeaf) (b : Body) : (b.raiseCh n l).twin = b.twin := raiseCh_part Body.twin (fun _ _ _ => rfl) n l b
@[simp] theorem raiseCh_boot (n : Nat) (l : ChLeaf) (b : Body) : (b.raiseCh n l).boot = b.boot := raiseCh_part Body.boot (fun _ _ _ => rfl) n l b
@[simp] theorem raiseCh_hp (n : Nat) (l : ChLeaf) (b : Body) : (b.raiseCh n l).hp = b.hp := raiseCh_part Body.hp (fun _ _ _ => rfl) n l b
@[simp] theorem raiseCh_gainDue (n : Nat) (l : ChLeaf) (b : Body) : (b.raiseCh n l).gainDue = b.gainDue := raiseCh_part Body.gainDue (fun _ _ _ => rfl) n l b
@[simp] theorem raiseCh_dozeReq (n : Nat) (l : ChLeaf) (b : Body) : (b.raiseCh n l).dozeReq = b.dozeReq := raiseCh_part Body.dozeReq (fun _ _ _ => rfl) n l b
@[simp] theorem raiseCh_trendWords (n : Nat) (l : ChLeaf) (b : Body) : (b.raiseCh n l).trendWords = b.trendWords := raiseCh_part Body.trendWords (fun _ _ _ => rfl) n l b
@[simp] theorem raiseCh_alertLow (n : Nat) (l : ChLeaf) (b : Body) : (b.raiseCh n l).alertLow = b.alertLow := raiseCh_part Body.alertLow (fun _ _ _ => rfl) n l b
@[simp] theorem raiseCh_alertHold (n : Nat) (l : ChLeaf) (b : Body) : (b.raiseCh n l).alertHold = b.alertHold := raiseCh_part Body.alertHold (fun _ _ _ => rfl) n l b
@[simp] theorem raiseCh_hubDown (n : Nat) (l : ChLeaf) (b : Body) : (b.raiseCh n l).hubDown = b.hubDown := raiseCh_part Body.hubDown (fun _ _ _ => rfl) n l b
@[simp] theorem raiseCh_doze (n : Nat) (l : ChLeaf) (b : Body) : (b.raiseCh n l).doze = b.doze := raiseCh_part Body.doze (fun _ _ _ => rfl) n l b
@[simp] theorem raiseCh_reply (n : Nat) (l : ChLeaf) (b : Body) : (b.raiseCh n l).reply = b.reply := raiseCh_part Body.reply (fun _ _ _ => rfl) n l b
@[simp] theorem raiseCh_freeIx (n : Nat) (l : ChLeaf) (b : Body) : (b.raiseCh n l).freeIx = b.freeIx := raiseCh_part Body.freeIx (fun _ _ _ => rfl) n l b
@[simp] theorem raiseCh_ch (n : Nat) (l : ChLeaf) (b : Body) (n' : Nat) : (b.raiseCh n l).ch n' = b.ch n' := raiseCh_part (fun c => c.ch n') (fun _ _ _ => rfl) n l b
@[simp] theorem raiseCh_en (n : Nat) (l : ChLeaf) (b : Body) (n' : Nat) : (b.raiseCh n l).en n' = b.en n' := raiseCh_part (fun c => c.en n') (fun _ _ _ => rfl) n l b
@[simp] theorem raiseCh_fe (n : Nat) (l : ChLeaf) (b : Body) (k' : Nat) : (b.raiseCh n l).fe k' = b.fe k' := raiseCh_part (fun c => c.fe k') (fun _ _ _ => rfl) n l b
@[simp] theorem raiseCh_drd (n : Nat) (l : ChLeaf) (b : Body) (k' : Nat) (g : Fld) (j : Nat) : (b.raiseCh n l).drd k' g j = b.drd k' g j :=
  raiseCh_part (fun c => c.drd k' g j) (fun _ _ _ => rfl) n l b

/-! ### The answers of a command, read off its meaning -/

section
variable {i : Instr} {s : State} {T : Nat} {b : Body} {P : State → Prop} {f : Env → Body → Body}

theorem becomes_onBody (hi : exec i s = .next (s.onBody f)) (hb : f s.env s.body = b) : Becomes i s b :=
  ⟨_, hi, rfl, rfl, rfl, hb ▸ settled_settle _ _⟩

theorem becomes_stay (hi : exec i s = .next s) : Becomes i s s.body := ⟨s, hi, rfl, rfl, rfl, .refl _⟩

/-- Leaves and other parts of the tree may follow the body named. -/
theorem becomes_of_settled (hi : exec i s = .next (s.onBody f)) (hb : Settled b (f s.env s.body)) : Becomes i s b :=
  ⟨_, hi, rfl, rfl, rfl, hb.trans (settled_settle _ _)⟩

theorem becomesAt_onBody (hi : exec i s = .next ((s.goTo T).onBody f)) (hb : f (s.goTo T).env s.body = b) : BecomesAt i s T b :=
  ⟨_, hi, rfl, rfl, rfl, hb ▸ settled_settle _ _⟩

theorem becomesAt_of_settled (hi : exec i s = .next ((s.goTo T).onBody f)) (hb : Settled b (f (s.goTo T).env s.body)) : BecomesAt i s T b :=
  ⟨_, hi, rfl, rfl, rfl, hb.trans (settled_settle _ _)⟩

theorem runs_onBody (hi : exec i s = .next (s.onBody f)) (hP : P (s.onBody f)) : Runs i s P := ⟨_, hi, hP⟩

theorem runsAt_onBody (hi : exec i s = .next ((s.goTo T).onBody f)) (hP : P ((s.goTo T).onBody f)) : RunsAt i s T P :=
  ⟨_, hi, rfl, rfl, rfl, hP⟩

/-- While HUB runs, a command of HUB's is a change of the body. -/
theorem onHub_eq (h : s.body.hubDown = false) : s.onHub f = s.onBody f := by
  unfold State.onHub State.onBody
  simp [h]

theorem onHub_down (h : s.body.hubDown = true) : s.onHub f = s.onBody fun _ b => b := by
  unfold State.onHub State.onBody
  simp [h]

theorem becomes_onHub (hi : exec i s = .next (s.onHub f)) (hhub : s.body.hubDown = false) (hb : f s.env s.body = b) : Becomes i s b :=
  becomes_onBody (hi.trans (congrArg _ (onHub_eq hhub))) hb

theorem becomesAt_onHub (hi : exec i s = .next ((s.goTo T).onHub f)) (hhub : s.body.hubDown = false) (hb : f (s.goTo T).env s.body = b) :
    BecomesAt i s T b :=
  becomesAt_onBody (hi.trans (congrArg _ (onHub_eq hhub))) hb

theorem runs_onHub (hi : exec i s = .next (s.onHub f)) (hhub : s.body.hubDown = false) (hP : P (s.onBody f)) : Runs i s P :=
  runs_onBody (hi.trans (congrArg _ (onHub_eq hhub))) hP

theorem runsAt_onHub (hi : exec i s = .next ((s.goTo T).onHub f)) (hhub : s.body.hubDown = false) (hP : P ((s.goTo T).onBody f)) :
    RunsAt i s T P :=
  runsAt_onBody (hi.trans (congrArg _ (onHub_eq hhub))) hP

end

/-- Time after a move. -/
@[simp] theorem goTo_elapsed (s : State) (T : Nat) : (s.goTo T).time.elapsed = s.time.elapsed + (T - s.time.elapsed) := rfl
@[simp] theorem goTo_env_now (s : State) (T : Nat) : (s.goTo T).env.now = s.time.elapsed + (T - s.time.elapsed) := rfl
@[simp] theorem env_now (s : State) : s.env.now = s.time.elapsed := rfl
@[simp] theorem env_count (s : State) : s.env.count = s.time.count := rfl
@[simp] theorem env_map (s : State) : s.env.map = s.starch.map := rfl

theorem flag_eq (b : Body) (f : Fld) (i : Nat) : b.flag f i = decide (b.rd f i = 1) := rfl

end Sys2Proof.Proofs
end

section
/-!
SUPPORT. The timebase (chapter 10): the host's commands on the count, pulses and their absence, steps and the return of the clock.
-/

namespace Sys2Proof.Proofs

open Sys2Proof Sys2Proof.Machine Sys2Proof.Safety Sys2Proof.Laws

/-! ### Host commands (R385) -/

/-- Settles O39: each command is taken under the unlock, and ARM, NOW and ALIGN while no step is scheduled. -/
theorem timebaseCommands : Obligations.TimebaseCommands := by
  intro s hunlock hhub
  refine ⟨fun hstep => ?_, becomes_onHub rfl hhub (if_pos hunlock), fun hstep => ?_⟩
  · have hfree : s.body.tbFree = true := by simp [Body.tbFree, Body.tbUnlocked, hunlock, hstep]
    exact ⟨becomes_onHub rfl hhub (if_pos hfree), becomes_onHub rfl hhub (if_pos hfree), becomes_onHub rfl hhub (if_pos hfree)⟩
  · have hfree : ¬ s.body.tbFree = true := by simp [Body.tbFree, hstep]
    exact ⟨becomes_onHub rfl hhub (if_neg hfree), becomes_onHub rfl hhub (if_neg hfree), becomes_onHub rfl hhub (if_neg hfree)⟩

/-! ### The timebase state (R387) -/

/-- A change of the timebase state writes TB.STAT.STATE and HOLDSEC alone. -/
theorem tbState_rd (e : Env) (st : Nat) (b : Body) (f : Fld) (i : Nat) (hs : f ≠ .tbStatState) (hh : f ≠ .tbHoldsecSec) :
    (b.tbState e st).rd f i = b.rd f i := by
  unfold Body.tbState
  split
  · rfl
  · simp [hs, hh]

/-- The state is the one entered. -/
theorem tbState_enters (e : Env) {st : Nat} (hst : st < 8) (b : Body) : (b.tbState e st).rd .tbStatState = st := by
  unfold Body.tbState
  split
  · assumption
  · simp [show fieldWidth .tbStatState = 3 from rfl, Nat.mod_eq_of_lt hst]

/-- It starts the counts anew, and leaves the rest of the discipline. -/
theorem tbState_disc (e : Env) (st : Nat) (b : Body) :
    (b.tbState e st).disc = if b.rd .tbStatState = st then b.disc else { b.disc with badRun := 0, lockRun := 0 } := by
  unfold Body.tbState
  split
  · rfl
  · simp

theorem tbState_disc_part {β : Type} (p : Disc → β) (hp : ∀ d x y, p { d with badRun := x, lockRun := y } = p d) (e : Env) (st : Nat) (b : Body) :
    p (b.tbState e st).disc = p b.disc := by
  rw [tbState_disc]
  split
  · rfl
  · exact hp _ _ _

@[simp] theorem tbState_fe (e : Env) (st : Nat) (b : Body) (k : Nat) : (b.tbState e st).fe k = b.fe k := by
  unfold Body.tbState
  split
  · rfl
  · simp

/-- Holdover is entered with RATE 0 and HOLDOVER_SEEN (R387). -/
theorem tbHoldover_leaves (e : Env) (b : Body) :
    (b.tbHoldover e).rd .tbStatState = 3 ∧ (b.tbHoldover e).rd .tbStatHoldoverSeen = 1 ∧ (b.tbHoldover e).rd .tbRateRate = 0 := by
  unfold Body.tbHoldover
  simp [raise_rd, tbState_enters e (show 3 < 8 by decide), show fieldWidth .tbStatHoldoverSeen = 1 from rfl]

theorem tbHoldover_rd (e : Env) (b : Body) (f : Fld) (hs : f ≠ .tbStatState) (hh : f ≠ .tbHoldsecSec) (hr : f ≠ .tbRateRate)
    (hv : f ≠ .tbStatHoldoverSeen) (hl : f ≠ .alertLeaf) : (b.tbHoldover e).rd f = b.rd f := by
  unfold Body.tbHoldover
  simp [raise_rd, tbState_rd, *]

/-! ### What an accepted pulse does (R380 to R387) -/

/-- A slip is flagged. -/
theorem markSlip_rd (err : Int) (b : Body) (f : Fld) (i : Nat) (hf : f ≠ .tbStatIndexSlip) (hl : f ≠ .alertLeaf) :
    (b.markSlip err).rd f i = b.rd f i := by
  unfold Body.markSlip
  split
  · simp [raise_rd, hf, hl]
  · rfl

theorem markSlip_sets (err : Int) (b : Body) (h : b.slips err = true) : (b.markSlip err).rd .tbStatIndexSlip = 1 := by
  simp [Body.markSlip, h, raise_rd, show fieldWidth .tbStatIndexSlip = 1 from rfl]

@[simp] theorem markSlip_disc (err : Int) (b : Body) : (b.markSlip err).disc = b.disc := by
  unfold Body.markSlip
  split
  · simp
  · rfl

theorem rd_wr_of_lt (b : Body) {f : Fld} {v : Nat} (i : Nat) (h : v < 2 ^ fieldWidth f) : (b.wr f i v).rd f i = v :=
  (rd_wr_same b f i v).trans (Nat.mod_eq_of_lt h)

theorem rd_wr_ofSigned (b : Body) {f : Fld} (w : Nat) (x : Int) (i : Nat) (h : fieldWidth f = w) : (b.wr f i (ofSigned w x)).rd f i = ofSigned w x :=
  rd_wr_of_lt b i (h ▸ ofSigned_lt w x)

/-- Steering takes at most a free bit. -/
theorem steer_part {β : Type} (p : Body → β) (hp : ∀ b x, p { b with freeIx := x } = p b) (y : Int) (b : Body) : p (b.steer y).2 = p b := by
  unfold Body.steer
  split
  · rfl
  · exact hp b _

/-- A slew writes RATE and FREQ.STEER. -/
theorem slew_part {β : Type} (p : Body → β) (e : Env) (err : Int) (hf : ∀ b x, p { b with freeIx := x } = p b)
    (hs : ∀ b v, p (b.wr .tbFreqSteer 0 v) = p b) (hr : ∀ b v, p (b.wr .tbRateRate 0 v) = p b)
    (hd : ∀ b x y, p (b.onDisc fun d => { d with rateEnd := x, prevE := y }) = p b) (b : Body) : p (b.slew e err) = p b := by
  unfold Body.slew
  extract_lets r b1
  have h1 : p b1 = p b := by
    unfold b1
    split
    · exact (hs _ _).trans (steer_part p hf _ b)
    · rfl
  rw [hd, hr, h1]

theorem slew_rd (e : Env) (err : Int) (b : Body) (f : Fld) (i : Nat) (hr : f ≠ .tbRateRate) (hs : f ≠ .tbFreqSteer) :
    (b.slew e err).rd f i = b.rd f i :=
  slew_part (fun b => b.rd f i) e err (fun _ _ => rfl) (fun b v => rd_wr_fld b _ f 0 i v hs) (fun b v => rd_wr_fld b _ f 0 i v hr)
    (fun _ _ _ => rfl) b

theorem slew_sets (e : Env) (err : Int) (b : Body) :
    (b.slew e err).rd .tbRateRate = ofSigned 32 (clampInt (-100000) 100000 (-err)) := by
  unfold Body.slew
  extract_lets r b1
  rw [onDisc_rd, rd_wr_ofSigned _ 32 _ 0 rfl]

/-- The judgement writes GOOD, changes the state and counts the pulses: what none of these changes stays. -/
theorem judge_part {β : Type} (p : Body → β) (e : Env) (err : Int) (hg : ∀ b v, p (b.wr .tbStatGood 0 v) = p b)
    (hs : ∀ b st, p (b.tbState e st) = p b) (hd : ∀ b (x y : Disc → Nat), p (b.onDisc fun d => { d with badRun := x d, lockRun := y d }) = p b) (b : Body) :
    p (b.judge e err) = p b := by
  unfold Body.judge Body.countGood
  extract_lets good b1 b2 b3
  have h1 : p b1 = p b := hg b _
  have h2 : p b2 = p b1 := by
    unfold b2
    split
    · exact hs b1 1
    · exact hs b1 1
    · rw [apply_ite p, hs, ite_self]
    · rfl
  have h3 : p b3 = p b := (hd b2 _ _).trans (h2.trans h1)
  rw [apply_ite p, apply_ite p, hs, hs, h3, ite_self, ite_self]

theorem judge_rd (e : Env) (err : Int) (b : Body) (f : Fld) (i : Nat) (hg : f ≠ .tbStatGood) (hs : f ≠ .tbStatState) (hh : f ≠ .tbHoldsecSec) :
    (b.judge e err).rd f i = b.rd f i :=
  judge_part (fun b => b.rd f i) e err (fun b v => rd_wr_fld b _ f 0 i v hg) (fun b st => tbState_rd e st b f i hs hh) (fun _ _ _ => rfl) b

theorem judge_disc_part {β : Type} (p : Disc → β) (hp : ∀ d x y, p { d with badRun := x, lockRun := y } = p d) (e : Env) (err : Int) (b : Body) :
    p (b.judge e err).disc = p b.disc :=
  judge_part (fun b => p b.disc) e err (fun _ _ => rfl) (fun b st => tbState_disc_part p hp e st b) (fun b _ _ => hp b.disc _ _) b

/-- The first pulse of FREE enters ACQUIRING (R387). -/
theorem judge_free (e : Env) (err : Int) (b : Body) (h : b.rd .tbStatState = 0) : (b.judge e err).rd .tbStatState = 1 := by
  unfold Body.judge Body.countGood
  extract_lets good b1 b2 b3
  have h1 : b1.rd .tbStatState = 0 := (rd_wr_fld b _ _ 0 0 _ (by decide)).trans h
  have h2 : b2 = b1.tbState e 1 := by unfold b2; simp only [h1]
  have h3 : b3.rd .tbStatState = 1 := by
    rw [show b3.rd .tbStatState = b2.rd .tbStatState from rfl, h2, tbState_enters e (by decide)]
  have hrun : ¬ 10 ≤ b3.disc.lockRun := by
    have hstarts : b2.disc.lockRun = 0 := by rw [h2, tbState_disc, if_neg (by rw [h1]; decide)]
    have hcounts : b3.disc.lockRun = if good then b2.disc.lockRun + 1 else 0 := rfl
    rw [hcounts, hstarts]
    split <;> decide
  rw [if_neg (fun h => absurd (h3.symm.trans h.1) (by decide)), if_neg (fun h => hrun h.2), h3]

/-- What every correction does first: the slip is flagged, RATE ends and no ARM or ALIGN is left. -/
def corrected (err : Int) (b : Body) : Body :=
  let c := (b.markSlip err).endRate
  let c := if b.slips err then c.onDisc fun d => { d with prevE := none } else c
  (c.onDisc fun d => { d with arm := false, align := false }).wr .tbSetctlArmed 0 0

theorem corrected_rd (err : Int) (b : Body) (f : Fld) (i : Nat) (hs : f ≠ .tbStatIndexSlip) (hl : f ≠ .alertLeaf) (hr : f ≠ .tbRateRate)
    (ha : f ≠ .tbSetctlArmed) : (corrected err b).rd f i = b.rd f i := by
  unfold corrected
  rw [rd_wr_fld _ _ _ _ _ _ ha, onDisc_rd, apply_ite (fun c => Body.rd c f i)]
  simp [Body.endRate, hr, markSlip_rd err b f i hs hl]

theorem corrected_lastPulse (err : Int) (b : Body) : (corrected err b).disc.lastPulse = b.disc.lastPulse := by
  unfold corrected
  simp [Body.endRate, apply_ite Body.disc, apply_ite Disc.lastPulse]

/-- A correction slews where the error is in window and the timebase is not FREE, and plans the alignment where it is FREE. -/
theorem correct_slews (e : Env) (err : Int) (b : Body) (harm : b.disc.arm = false) (hst : b.rd .tbStatState ≠ 0) (hs : b.slips err = false) :
    b.correct e err = (corrected err b).slew e err := by
  unfold Body.correct corrected
  simp [hs, hst, harm, Body.endRate]

theorem correct_aligns (e : Env) (err : Int) (b : Body) (harm : b.disc.arm = false) (hst : b.rd .tbStatState = 0) :
    b.correct e err = (corrected err b).planStep e (.delta (-err)) 1 := by
  have harm' : (if b.slips err then (b.markSlip err).endRate.onDisc fun d => { d with prevE := none }
      else (b.markSlip err).endRate).disc.arm = false := by
    split <;> simpa [Body.endRate] using harm
  unfold Body.correct corrected
  dsimp only
  rw [harm', if_neg (by decide), if_pos hst]

/-! ### An accepted pulse shows its time and its error -/

/-- What a pulse of a module that has the timebase shows before it corrects: its time, the error, and that none is missing. -/
def shownPulse (e : Env) (err : Int) (b : Body) : Body :=
  (((b.wr .tbLastppsTime 0 e.count).wr .tbPhaseE 0 (ofSigned 32 err)).onDisc fun d => { d with lastPulse := some e.now }).wr .tbStatMiss 0 0

theorem shownPulse_rd (e : Env) (err : Int) (b : Body) (f : Fld) (i : Nat) (hl : f ≠ .tbLastppsTime) (hp : f ≠ .tbPhaseE) (hm : f ≠ .tbStatMiss) :
    (shownPulse e err b).rd f i = b.rd f i := by
  simp [shownPulse, *]

/-- The pulse is shown. -/
def Shown (e : Env) (err : Int) (b : Body) : Prop :=
  b.rd .tbPhaseE = ofSigned 32 err ∧ b.rd .tbLastppsTime = e.count % 2 ^ 64 ∧ b.rd .tbStatMiss = 0 ∧ b.disc.lastPulse = some e.now

theorem shown_shownPulse (e : Env) (err : Int) (b : Body) : Shown e err (shownPulse e err b) := by
  unfold Shown shownPulse
  refine ⟨?_, ?_, ?_, rfl⟩
  · rw [rd_wr_fld _ _ _ _ _ _ (by decide), onDisc_rd, rd_wr_ofSigned _ 32 _ 0 rfl]
  · simp [show fieldWidth .tbLastppsTime = 64 from rfl]
  · simp

theorem pulseAt_shows (e : Env) (b : Body) (hen : b.rd .tbPpscfgPpsEn ≠ 0) (hhub : b.hubDown = false) (hrole : b.role ≠ .standby)
    (hlast : b.disc.lastPulse = none ∨ ∃ t, b.disc.lastPulse = some t ∧ t + 500000000 < e.now) :
    b.pulseAt e = if b.rd .tbStatState = 4 then (shownPulse e (phaseErr (b.pulseTime e)) b).pulseFail e (phaseErr (b.pulseTime e))
      else ((shownPulse e (phaseErr (b.pulseTime e)) b).correct e (phaseErr (b.pulseTime e))).judge e (phaseErr (b.pulseTime e)) := by
  unfold Body.pulseAt shownPulse
  obtain h | ⟨t, h, hlt⟩ := hlast
  · simp [hen, hhub, hrole, h]
  · simp [hen, hhub, hrole, h, Nat.not_le.mpr hlt]

/-- One second and a half after the last, and after each second more, a pulse is missing (R387). -/
theorem missing_leaves (e : Env) (b : Body) :
    (b.missing e).rd .tbStatMiss = min 255 (b.rd .tbStatMiss + 1) ∧
    (b.rd .tbStatMiss = 2 → (b.rd .tbStatState = 1 ∨ b.rd .tbStatState = 2) →
      (b.missing e).rd .tbStatState = 3 ∧ (b.missing e).rd .tbStatHoldoverSeen = 1 ∧ (b.missing e).rd .tbRateRate = 0) := by
  have hlt : min 255 (b.rd .tbStatMiss + 1) < 2 ^ fieldWidth .tbStatMiss := by
    rw [show fieldWidth .tbStatMiss = 8 from rfl]
    omega
  unfold Body.missing
  extract_lets c
  have hc : c.rd .tbStatMiss = min 255 (b.rd .tbStatMiss + 1) := rd_wr_of_lt b 0 hlt
  have hst : c.rd .tbStatState = b.rd .tbStatState := by simp [c]
  refine ⟨?_, fun hmiss hstate => ?_⟩
  · rw [apply_ite (fun d => Body.rd d .tbStatMiss),
      tbHoldover_rd e c .tbStatMiss (by decide) (by decide) (by decide) (by decide) (by decide), ite_self, hc]
  · rw [if_pos ⟨by omega, by omega⟩]
    exact tbHoldover_leaves e c

/-- An edge at a source goes to the filters of the Cadence timers. -/
theorem srcEdge_onTmr (src : Nat) (rising : Bool) (t : Nat) (b : Body) : ∃ x, b.srcEdge src rising t = { b with tmr := x } := by
  unfold Body.srcEdge
  split
  · exact ⟨b.tmr, rfl⟩
  · exact ⟨_, rfl⟩

/-- A pulse that comes too soon is extra. -/
theorem pulseAt_extra (e : Env) (b : Body) {T : Nat} (hen : b.rd .tbPpscfgPpsEn ≠ 0) (hhub : b.hubDown = false) (hrole : b.role ≠ .standby)
    (hlast : b.disc.lastPulse = some T) (hT : e.now ≤ T + 500000000) : b.pulseAt e = b.wr .tbStatPpsExtra 0 1 := by
  unfold Body.pulseAt
  simp [hen, hhub, hlast, hT, hrole]

theorem exec_ppsMissing (s : State) : exec .ppsMissing s = execPpsMissing s := rfl
theorem exec_rateTimeout (s : State) : exec .rateTimeout s = execRateTimeout s := rfl
theorem exec_ppsPulse (s : State) : exec .ppsPulse s = execPpsPulse s := rfl

/-- The edge of a pulse, as the pulse sees it: the filters of the timers aside, the body is the one before. -/
theorem pulse_sees (s : State) : ∃ x, Runs .ppsPulse s fun t =>
    t.body = (Body.pulseAt (s.body.atEdge s.env) { s.body with tmr := x }).settle s.env := by
  obtain ⟨x, hx⟩ := srcEdge_onTmr 0x80 (!s.body.flag .tbPpscfgEdge) (s.body.atEdge s.env).now s.body
  refine ⟨x, runs_onBody (exec_ppsPulse s) ?_⟩
  rw [onBody_body, hx]
  rfl

/-- What writes neither LASTPPS, PHASE nor MISS keeps the pulse shown. -/
theorem shown_of {e : Env} {err : Int} {b c : Body} (h : Shown e err b)
    (hrd : ∀ f, f = .tbPhaseE ∨ f = .tbLastppsTime ∨ f = .tbStatMiss → c.rd f = b.rd f) (hd : c.disc.lastPulse = b.disc.lastPulse) :
    Shown e err c := by
  obtain ⟨hphase, htime, hmiss, hlast⟩ := h
  exact ⟨(hrd _ (.inl rfl)).trans hphase, (hrd _ (.inr (.inl rfl))).trans htime, (hrd _ (.inr (.inr rfl))).trans hmiss, hd.trans hlast⟩

theorem shown_settle {e e' : Env} {err : Int} {b : Body} (h : Shown e err b) : Shown e err (b.settle e') := by
  refine shown_of h (fun f hf => settle_rd _ _ _ _ ?_) (by rw [settle_disc])
  rcases hf with rfl | rfl | rfl <;> rfl

section
variable (e : Env) (err : Int) (b : Body)

theorem shownPulse_slips : (shownPulse e err b).slips err = b.slips err := by
  unfold Body.slips
  rw [shownPulse_rd e err b _ 0 (by decide) (by decide) (by decide)]

theorem shownPulse_state : (shownPulse e err b).rd .tbStatState = b.rd .tbStatState :=
  shownPulse_rd e err b _ 0 (by decide) (by decide) (by decide)

/-- In window the pulse slews (R382). -/
theorem pulse_slews (harm : b.disc.arm = false) (hst : b.rd .tbStatState ≠ 0) (hs : b.slips err = false) :
    (((shownPulse e err b).correct e err).judge e err).rd .tbRateRate = ofSigned 32 (clampInt (-100000) 100000 (-err)) ∧
    Shown e err (((shownPulse e err b).correct e err).judge e err) := by
  rw [correct_slews e err (shownPulse e err b) harm ((shownPulse_state e err b).trans_ne hst) ((shownPulse_slips e err b).trans hs)]
  refine ⟨(judge_rd e err _ _ 0 (by decide) (by decide) (by decide)).trans (slew_sets e err _), shown_of (shown_shownPulse e err b) ?_ ?_⟩
  · intro f hf
    rw [judge_rd, slew_rd, corrected_rd] <;> rcases hf with rfl | rfl | rfl <;> decide
  · rw [judge_disc_part Disc.lastPulse (fun _ _ _ => rfl), slew_part (fun b => b.disc.lastPulse) e err (fun _ _ => rfl) (fun _ _ => rfl) (fun _ _ => rfl) (fun _ _ _ => rfl),
      corrected_lastPulse]

/-- The first pulse of FREE plans the alignment at the step instant (R384). -/
theorem pulse_aligns (harm : b.disc.arm = false) (hst : b.rd .tbStatState = 0) :
    (((shownPulse e err b).correct e err).judge e err).disc.step = some (e.now + 100000, .delta (-err), 1) ∧
    (((shownPulse e err b).correct e err).judge e err).rd .tbStatState = 1 := by
  have hst' := (shownPulse_state e err b).trans hst
  rw [correct_aligns e err (shownPulse e err b) harm hst']
  refine ⟨judge_disc_part Disc.step (fun _ _ _ => rfl) e err _, judge_free e err _ ?_⟩
  exact (corrected_rd err _ _ 0 (by decide) (by decide) (by decide) (by decide)).trans hst'

/-- In CLOCK_FAIL a pulse counts GOOD, marks its slip and corrects nothing (R389). -/
theorem pulseFail_part {β : Type} (p : Body → β) (hg : ∀ b v, p (b.wr .tbStatGood 0 v) = p b)
    (hev : ∀ b t c n x y z, p (b.event t c n x y z) = p b) : p (b.pulseFail e err) = p (b.markSlip err) := by
  unfold Body.pulseFail Body.slipFlag Body.countGood
  rw [apply_ite p, hev, ite_self, hg]

theorem pulseFail_rd (f : Fld) (hs : f ≠ .tbStatIndexSlip) (hl : f ≠ .alertLeaf) (hg : f ≠ .tbStatGood) :
    (b.pulseFail e err).rd f = b.rd f :=
  (pulseFail_part e err b (fun b => b.rd f) (fun b v => rd_wr_fld b _ f 0 0 v hg) (fun b t c n x y z => event_rd t c n x y z b f 0)).trans
    (markSlip_rd err b f 0 hs hl)

theorem pulseFail_disc : (b.pulseFail e err).disc = b.disc :=
  (pulseFail_part e err b Body.disc (fun _ _ => rfl) fun b t c n x y z => event_disc t c n x y z b).trans (markSlip_disc err b)

theorem pulseFail_slips (h : b.slips err = true) : (b.pulseFail e err).rd .tbStatIndexSlip = 1 :=
  (pulseFail_part e err b (fun b => b.rd .tbStatIndexSlip) (fun b v => rd_wr_fld b _ _ 0 0 v (by decide))
    (fun b t c n x y z => event_rd t c n x y z b _ 0)).trans (markSlip_sets err b h)

end

/-- Settles O37. -/
theorem pulses : Obligations.Pulses := by
  refine ⟨fun err s hhub hen herr hlast hrole harm => ?_, fun T s hhub hrole => ⟨fun hen hlast hT => ?_, fun hlast => ?_, fun hend => ?_⟩⟩
  · obtain ⟨x, t, hexec, ht⟩ := pulse_sees s
    subst herr
    set c : Body := { s.body with tmr := x }
    rw [pulseAt_shows (s.body.atEdge s.env) c hen hhub hrole hlast] at ht
    refine ⟨fun hst hslip => ⟨t, hexec, ?_⟩, fun hst => ⟨t, hexec, ?_⟩, fun hst => ⟨t, hexec, ?_⟩⟩
    · have hne : c.rd .tbStatState ≠ 0 ∧ c.rd .tbStatState ≠ 4 := by
        change c.rd .tbStatState = 1 ∨ c.rd .tbStatState = 2 ∨ c.rd .tbStatState = 3 at hst
        omega
      rw [if_neg hne.2] at ht
      have ⟨hrate, hshown⟩ := pulse_slews (s.body.atEdge s.env) (phaseErr (c.pulseTime (s.body.atEdge s.env))) c harm hne.1 hslip
      beta_reduce
      rw [ht]
      exact ⟨(settle_rd _ _ _ _ rfl).trans hrate, shown_settle hshown⟩
    · rw [if_neg (by rw [show c.rd .tbStatState = 0 from hst]; decide)] at ht
      have ⟨hstep, hstate⟩ := pulse_aligns (s.body.atEdge s.env) (phaseErr (c.pulseTime (s.body.atEdge s.env))) c harm hst
      rw [ht, settle_disc, settle_rd _ _ _ _ rfl]
      exact ⟨hstep, hstate⟩
    · rw [if_pos (show c.rd .tbStatState = 4 from hst)] at ht
      set err := phaseErr (c.pulseTime (s.body.atEdge s.env))
      have hshown : Shown (s.body.atEdge s.env) err ((shownPulse (s.body.atEdge s.env) err c).pulseFail (s.body.atEdge s.env) err) := by
        refine shown_of (shown_shownPulse _ err c) ?_ (by rw [pulseFail_disc])
        intro f hf
        rw [pulseFail_rd] <;> rcases hf with rfl | rfl | rfl <;> decide
      obtain ⟨hphase, -, hmiss, -⟩ := shown_settle (e' := s.env) hshown
      rw [ht]
      refine ⟨hphase, hmiss, ?_, ?_, ?_, fun hslip => ?_⟩
      · rw [settle_rd _ _ _ _ rfl, pulseFail_rd _ _ _ _ (by decide) (by decide) (by decide),
          shownPulse_rd _ _ _ _ _ (by decide) (by decide) (by decide)]
        rfl
      · rw [settle_rd _ _ _ _ rfl, pulseFail_rd _ _ _ _ (by decide) (by decide) (by decide), shownPulse_state]
        exact hst
      · rw [settle_disc, pulseFail_disc]
        rfl
      · exact (settle_rd _ _ _ _ rfl).trans (pulseFail_slips _ _ _ ((shownPulse_slips _ err c).trans hslip))
  · have hpulse : (s.body.srcEdge 0x80 (!s.body.flag .tbPpscfgEdge) (s.body.atEdge s.env).now).pulse s.env =
        (s.body.srcEdge 0x80 (!s.body.flag .tbPpscfgEdge) (s.body.atEdge s.env).now).wr .tbStatPpsExtra 0 1 := by
      obtain ⟨x, hx⟩ := srcEdge_onTmr 0x80 (!s.body.flag .tbPpscfgEdge) (s.body.atEdge s.env).now s.body
      rw [hx]
      exact pulseAt_extra (s.body.atEdge s.env) { s.body with tmr := x } hen hhub hrole hlast hT
    exact becomes_onBody (exec_ppsPulse s) hpulse
  · have hexec : exec .ppsMissing s = .next ((s.goTo (T + 1500000000 + s.body.rd .tbStatMiss * 1000000000)).onBody fun e b =>
        if b.hubDown || b.role = .standby then b else b.missing e) := by
      rw [exec_ppsMissing, execPpsMissing, hlast]
    generalize T + 1500000000 + s.body.rd .tbStatMiss * 1000000000 = W at hexec ⊢
    refine runsAt_onBody hexec ?_
    have hrun : ¬ (s.body.hubDown || s.body.role = .standby) = true := by simp [hhub, hrole]
    rw [onBody_body, goTo_body, if_neg hrun, settle_rd _ _ .tbStatMiss 0 rfl, settle_rd _ _ .tbStatState 0 rfl,
      settle_rd _ _ .tbStatHoldoverSeen 0 rfl, settle_rd _ _ .tbRateRate 0 rfl]
    exact missing_leaves _ s.body
  · have hexec : exec .rateTimeout s = .next ((s.goTo T).onBody fun _ b => (b.wr .tbRateRate 0 0).onDisc fun d => { d with rateEnd := none }) := by
      rw [exec_rateTimeout, execRateTimeout, hend]
    exact becomesAt_onBody hexec rfl
end Sys2Proof.Proofs
end

section
/-!
SUPPORT. The steps of the count (R384, R386) and the return of CLK_TB (R389): what closing the intervals before a step leaves, what the step
writes, and how the replicas of the dies follow.
-/

namespace Sys2Proof.Proofs

open Sys2Proof Sys2Proof.Machine Sys2Proof.Safety Sys2Proof.Laws

/-! ### Closing ledger blocks and intervals -/

section
variable {β : Type} (p : Body → β) (hr : ∀ b r, p { b with rcd := r } = p b) (hn : ∀ b v, p (b.wr .recNextblkNo 0 v) = p b)
include hr hn

/-- A block that enters the stream changes the recorder and NEXTBLK alone. -/
theorem writeBlock_part (w : BlkEnd) (b : Body) : p (b.writeBlock w) = p b := by
  unfold Body.writeBlock
  extract_lets us no lost
  exact (hr _ _).trans ((hn _ _).trans (hr b _))

theorem writeBlocks_part (k : Nat) (b : Body) : p (Body.writeBlocks k b) = p b := by
  induction k generalizing b with
  | zero => rfl
  | succ k ih =>
    unfold Body.writeBlocks
    split
    · rfl
    · split
      · exact (ih _).trans ((writeBlock_part p hr hn _ _).trans (hr b _))
      · rfl

theorem settleBlocks_part (b : Body) : p b.settleBlocks = p b := writeBlocks_part p hr hn _ b

theorem closeBlock_part (e : Env) (step : Bool) (b : Body) : p (b.closeBlock e step) = p b :=
  (settleBlocks_part p hr hn _).trans (hr b _)

variable (ht : ∀ b v, p (b.wr .recTrendcfgInterval 0 v) = p b) (he : ∀ b n f, p (b.onEng n f) = p b)
  (hd : ∀ b k (x : Nat) (y : Die → Int × Nat) (z : Nat), p (b.onDie k fun d => { d with lastB := x, busDone := y d, busSum := 0, busN := 0, tempDone := z }) = p b)

omit hn in
include ht in
theorem trendTurn_part (e : Env) (b : Body) : p (b.trendTurn e) = p b := by
  unfold Body.trendTurn
  split
  · rw [apply_ite p, show ∀ c : Body, ∀ f, p (c.onRcd f) = p c from fun c f => hr c _, ht, ite_self]
  · rfl

omit hr hn in
include he in
theorem closeInterval_part (e : Env) (n : Nat) (b : Body) : p (b.closeInterval e n) = p b := by
  unfold Body.closeInterval Body.onPath
  extract_lets c s
  exact (he _ n _).trans (he b n _)

omit hn in
include ht he hd in
/-- The intervals of a die close in the engines of its channels, the die's own sums and the trend interval. -/
theorem closeDie_part (e : Env) (k : Nat) (b : Body) : p (b.closeDie e k) = p b := by
  have hone : ∀ (c : Body) (n : Nat), p (if c.meters n then c.closeInterval e n else c) = p c := by
    intro c n
    rw [apply_ite p, closeInterval_part p he, ite_self]
  unfold Body.closeDie Body.forEach
  generalize dieChannels k = l
  extract_lets b1 b2
  exact (hd b2 k _ _ _).trans ((part_foldl p _ hone l b1).trans (trendTurn_part p hr ht e b))

include ht he hd in
/-- Before a step every interval and the block close. -/
theorem stepClose_part (e : Env) (b : Body) : p (b.stepClose e) = p b := by
  have hdies : ∀ (c : Body) (k : Nat), p (if (c.fe k).joined then c.closeDie e k else c) = p c := by
    intro c k
    rw [apply_ite p, closeDie_part p hr ht he hd, ite_self]
  unfold Body.stepClose Body.forEach
  extract_lets b1 b2
  have h1 : p b1 = p b := by
    unfold b1
    rw [apply_ite p, part_foldl p _ hdies, ite_self]
  have h2 : p b2 = p b := (hr _ _).trans h1
  rw [apply_ite p, closeBlock_part p hr hn, ite_self, h2]

end

/-! ### What a step writes -/

/-- A step shows the difference, its instant and its cause before it records them. -/
def stepShown (d : Int) (cause : Nat) (e : Env) (b : Body) : Body :=
  (((((((b.wr .tbRateRate 0 0).wr .tbStatStepped 0 1).wr .tbLaststepDelta 0 (ofSigned 64 d)).wr .tbSteptimeTime 0 e.count).wr
    .tbSetctlCause 0 cause).wr .tbStatGood 0 0).raise (3, 1))

theorem stepShown_shows (d : Int) (cause : Nat) (e : Env) (b : Body) : (stepShown d cause e b).rd .tbStatStepped = 1 ∧
    (stepShown d cause e b).rd .tbSetctlCause = cause % 16 ∧ (stepShown d cause e b).rd .tbSteptimeTime = e.count % 2 ^ 64 ∧
    (stepShown d cause e b).rd .tbStatState = b.rd .tbStatState := by
  unfold stepShown
  simp [raise_rd, show fieldWidth .tbStatStepped = 1 from rfl, show fieldWidth .tbSetctlCause = 4 from rfl,
    show fieldWidth .tbSteptimeTime = 64 from rfl]

/-- What follows writes TIME_SET and the state, and records the step. -/
theorem stepOpen_part {β : Type} (p : Body → β) (old : Nat) (d : Int) (cause : Nat) (e : Env) (hset : ∀ b, p (b.wr .tbStatTimeSet 0 1) = p b)
    (hrec : ∀ b x, p (b.shared x) = p b) (hdisc : ∀ b x, p { b with disc := x } = p b) (hrcd : ∀ b r, p { b with rcd := r } = p b)
    (hst : ∀ b, p (b.wr .tbStatState 0 1) = p b) (htb : ∀ b, p (b.tbState e 1) = p b) (b : Body) :
    p (b.stepOpen old d cause e) = p (stepShown d cause e b) := by
  unfold Body.stepOpen stepShown
  extract_lets b1 b2 b3 b4 b5
  have h3 : p b3 = p b2 := by unfold b3; rw [apply_ite p, hset, ite_self]
  have h4 : p b4 = p b3 := by unfold b4; rw [apply_ite p, hrec, ite_self]
  have h5 : p b5 = p b4 := (hrcd _ _).trans (hdisc b4 _)
  rw [apply_ite p, apply_ite p, hst, htb, ite_self, ite_self, h5, h4, h3]

theorem stepOpen_rd (old : Nat) (d : Int) (cause : Nat) (e : Env) (b : Body) (f : Fld) (ht : f ≠ .tbStatTimeSet) (hs : f ≠ .tbStatState)
    (hh : f ≠ .tbHoldsecSec) : (b.stepOpen old d cause e).rd f = (stepShown d cause e b).rd f :=
  stepOpen_part (fun b => b.rd f) old d cause e (fun b => rd_wr_fld b _ _ 0 0 1 ht) (fun b x => shared_rd x b f 0) (fun _ _ => rfl) (fun _ _ => rfl)
    (fun b => rd_wr_fld b _ _ 0 0 1 hs) (fun b => tbState_rd e 1 b f 0 hs hh) b

theorem stepOpen_fe (old : Nat) (d : Int) (cause : Nat) (e : Env) (b : Body) (k : Nat) : (b.stepOpen old d cause e).fe k = b.fe k :=
  (stepOpen_part (fun b => b.fe k) old d cause e (fun _ => rfl) (fun b x => shared_fe x b k) (fun _ _ => rfl) (fun _ _ => rfl)
    (fun _ => rfl) (fun b => tbState_fe e 1 b k) b).trans (by unfold stepShown; simp)

/-- A timebase that has not failed is ACQUIRING after the step, and no step is scheduled. -/
theorem stepOpen_state (old : Nat) (d : Int) (cause : Nat) (e : Env) (b : Body) (h : b.rd .tbStatState ≠ 4) :
    (b.stepOpen old d cause e).rd .tbStatState = 1 := by
  have hshown := (stepShown_shows d cause e b).2.2.2
  unfold Body.stepOpen
  extract_lets b1 b2 b3 b4 b5
  have h3 : b3.rd .tbStatState = b.rd .tbStatState := by
    rw [← hshown]
    unfold b3
    rw [apply_ite (fun c => Body.rd c .tbStatState), rd_wr_fld _ _ _ _ _ _ (by decide), ite_self]
    rfl
  have h5 : b5.rd .tbStatState = b.rd .tbStatState := by
    rw [← h3]
    unfold b5
    rw [onRcd_rd, onDisc_rd]
    unfold b4
    rw [apply_ite (fun c => Body.rd c .tbStatState), shared_rd, ite_self]
  rw [if_neg (h5.trans_ne h)]
  split
  · exact rd_wr_of_lt b5 0 (by decide)
  · exact tbState_enters e (by decide) b5

theorem stepOpen_step (old : Nat) (d : Int) (cause : Nat) (e : Env) (b : Body) : (b.stepOpen old d cause e).disc.step = none := by
  unfold Body.stepOpen
  extract_lets b1 b2 b3 b4 b5
  have h5 : b5.disc.step = none := rfl
  split
  · exact h5
  · split
    · exact h5
    · exact (tbState_disc_part Disc.step (fun _ _ _ => rfl) e 1 b5).trans h5

/-! ### The replicas follow (R25) -/

theorem fe_foldl_onDie (f : Nat → Die → Die) {l : List Nat} (hl : ∀ j ∈ l, j < 8) (hnd : l.Nodup) (b : Body) {k : Nat} (hk : k < 8) :
    (l.foldl (fun b j => b.onDie j (f j)) b).fe k = if k ∈ l then f k (b.fe k) else b.fe k := by
  induction l generalizing b with
  | nil => rfl
  | cons j l ih =>
    obtain ⟨hj, hnd⟩ := List.nodup_cons.1 hnd
    rw [List.foldl_cons, ih (fun x hx => hl x (List.mem_cons_of_mem _ hx)) hnd, fe_onDie, Nat.mod_eq_of_lt hk,
      Nat.mod_eq_of_lt (hl j (List.mem_cons_self ..))]
    by_cases h : k = j
    · subst h
      simp [hj]
    · simp [h]

theorem stepMarks_phase (d : Int) (b : Body) (k : Nat) (hk : k < 8) (hj : (b.fe k).joined = true) :
    ((b.stepMarks d).fe k).phase = ofSigned 64 ((b.fe k).phase + d) := by
  unfold Body.stepMarks
  rw [fe_foldl_onDie (fun _ x => if x.joined then { x with phase := ofSigned 64 ((x.phase : Int) + d) } else x)
    (fun k => List.mem_range.mp) List.nodup_range b hk, if_pos (List.mem_range.mpr hk), if_pos hj]

theorem stepMarks_rd (d : Int) (b : Body) (f : Fld) : (b.stepMarks d).rd f = b.rd f := by
  have hone : ∀ (b : Body) (k : Nat), (b.onDie k fun x =>
      if x.joined then { x with phase := ofSigned 64 ((x.phase : Int) + d) } else x).rd f = b.rd f := fun _ _ => rfl
  exact part_foldl (fun b => b.rd f) _ hone _ b

theorem exec_timebaseStep (s : State) {T cause : Nat} {k : StepKind} (h : s.body.disc.step = some (T, k, cause)) :
    exec .timebaseStep s = .next ((s.goTo T).stepBy k cause) := by
  have hexec : exec .timebaseStep s = execTimebaseStep s := rfl
  rw [hexec, execTimebaseStep, h]

/-- The state of a step between its close and its opening. -/
def stepMoved (d : Int) (s : State) : State :=
  { s with time := { s.time with count := ofSigned 64 ((s.time.count : Int) + d) }
           body := ((s.body.stepClose s.env).settle s.env).stepMarks d }

/-- A step closes, moves the count and the replicas, and opens again. -/
theorem stepBy_delta (s : State) (d : Int) (cause : Nat) :
    s.stepBy (.delta d) cause = (stepMoved d s).onBody fun e b => b.stepOpen s.time.count d cause e := by
  unfold State.stepBy stepMoved
  simp only [StepKind.delta?, onBody_body, onBody_time, onBody_starch]
  rfl

theorem stepClose_state (e : Env) (b : Body) : (b.stepClose e).rd .tbStatState = b.rd .tbStatState :=
  stepClose_part (fun b => b.rd .tbStatState) (fun _ _ => rfl) (fun b v => rd_wr_fld b _ _ 0 0 v (by decide))
    (fun b v => rd_wr_fld b _ _ 0 0 v (by decide)) (fun _ _ _ => rfl) (fun _ _ _ _ _ => rfl) e b

theorem fe_onDie_part {β : Type} (q : Die → β) {f : Die → Die} (hf : ∀ x, q (f x) = q x) (b : Body) (k j : Nat) :
    q ((b.onDie k f).fe j) = q (b.fe j) := by
  rw [fe_onDie]
  split
  · rename_i h
    rw [hf]
    exact congrArg q (fe_congr b h).symm
  · rfl

theorem stepClose_joined_phase (e : Env) (b : Body) (k : Nat) :
    (((b.stepClose e).fe k).joined, ((b.stepClose e).fe k).phase) = ((b.fe k).joined, (b.fe k).phase) :=
  stepClose_part (fun b => ((b.fe k).joined, (b.fe k).phase)) (fun _ _ => rfl) (fun _ _ => rfl) (fun _ _ => rfl) (fun _ _ _ => rfl)
    (fun b j x y z => fe_onDie_part (f := fun d => { d with lastB := x, busDone := y d, busSum := 0, busN := 0, tempDone := z })
      (fun d : Die => (d.joined, d.phase)) (fun _ => rfl) b j k) e b

/-- What stands before the opening: the state of the timebase, and the replicas moved. -/
theorem stepMoved_state (d : Int) (s : State) : (stepMoved d s).body.rd .tbStatState = s.body.rd .tbStatState :=
  (stepMarks_rd d _ _).trans ((settle_rd _ _ _ _ rfl).trans (stepClose_state _ _))

theorem stepMoved_phase (d : Int) (s : State) (k : Nat) (hk : k < 8) (hj : (s.body.fe k).joined = true) :
    ((stepMoved d s).body.fe k).phase = ofSigned 64 ((s.body.fe k).phase + d) := by
  obtain ⟨hjoined, hphase⟩ := Prod.ext_iff.1 (stepClose_joined_phase s.env s.body k)
  dsimp only at hjoined hphase
  refine (stepMarks_phase d _ k hk ?_).trans ?_
  · rw [settle_fe_joined, hjoined, hj]
  · rw [settle_fe _ _ _ Die.phase (fun _ _ _ => rfl), hphase]

theorem exec_clkTbReturn (s : State) : exec .clkTbReturn s = execClkTbReturn s := rfl

section
variable (s : State) (d : Int) (cause : Nat)

theorem stepBy_time : (s.stepBy (.delta d) cause).time = { s.time with count := ofSigned 64 ((s.time.count : Int) + d) } := by
  rw [stepBy_delta, onBody_time]
  rfl

theorem stepBy_body : (s.stepBy (.delta d) cause).body =
    ((stepMoved d s).body.stepOpen s.time.count d cause (stepMoved d s).env).settle (stepMoved d s).env := by
  rw [stepBy_delta, onBody_body]

theorem stepBy_rd (f : Fld) (hf : isTree f = false) (ht : f ≠ .tbStatTimeSet) (hs : f ≠ .tbStatState) (hh : f ≠ .tbHoldsecSec) :
    (s.stepBy (.delta d) cause).body.rd f = (stepShown d cause (stepMoved d s).env (stepMoved d s).body).rd f := by
  rw [stepBy_body, settle_rd _ _ f 0 hf, stepOpen_rd _ d cause _ _ f ht hs hh]

/-- What a step shows: its instant, its cause and that the count was stepped. -/
theorem stepBy_shows : (s.stepBy (.delta d) cause).body.rd .tbStatStepped = 1 ∧
    (s.stepBy (.delta d) cause).body.rd .tbSetctlCause = cause % 16 ∧
    (s.stepBy (.delta d) cause).body.rd .tbSteptimeTime = (s.stepBy (.delta d) cause).time.count := by
  obtain ⟨hstepped, hcause, htime, -⟩ := stepShown_shows d cause (stepMoved d s).env (stepMoved d s).body
  refine ⟨(stepBy_rd s d cause _ rfl (by decide) (by decide) (by decide)).trans hstepped,
    (stepBy_rd s d cause _ rfl (by decide) (by decide) (by decide)).trans hcause, ?_⟩
  have hcount : (stepMoved d s).env.count = ofSigned 64 ((s.time.count : Int) + d) := rfl
  rw [stepBy_rd s d cause _ rfl (by decide) (by decide) (by decide), htime, hcount, stepBy_time, Nat.mod_eq_of_lt (ofSigned_lt 64 _)]

theorem stepBy_state (h : s.body.rd .tbStatState ≠ 4) : (s.stepBy (.delta d) cause).body.rd .tbStatState = 1 := by
  rw [stepBy_body, settle_rd _ _ _ 0 rfl]
  exact stepOpen_state _ d cause _ _ ((stepMoved_state d s).trans_ne h)

theorem stepBy_step : (s.stepBy (.delta d) cause).body.disc.step = none := by
  rw [stepBy_body, settle_disc, stepOpen_step]

theorem stepBy_phase {k : Nat} (hk : k < 8) (hj : (s.body.fe k).joined = true) :
    ((s.stepBy (.delta d) cause).body.fe k).phase = ofSigned 64 ((s.body.fe k).phase + d) := by
  rw [stepBy_body, settle_fe _ _ _ Die.phase (fun _ _ _ => rfl), stepOpen_fe, stepMoved_phase d _ k hk hj]

end

/-- Settles O38. -/
theorem stepsOfTheCount : Obligations.StepsOfTheCount := by
  refine ⟨fun T d cause s hstep => ⟨_, exec_timebaseStep s hstep, ?_⟩, fun s hhub hfail => ⟨fun hfree => ?_, fun hfree => ?_⟩⟩
  · obtain ⟨hstepped, hcause, hinstant⟩ := stepBy_shows (s.goTo T) d cause
    exact ⟨by rw [stepBy_time, goTo_elapsed], by rw [stepBy_time]; rfl, hstepped, hcause, hinstant,
      stepBy_state (s.goTo T) d cause, stepBy_step (s.goTo T) d cause, fun k => stepBy_phase (s.goTo T) d cause⟩
  · refine runs_onBody (exec_clkTbReturn s) ?_
    rw [onBody_body, settle_rd _ _ _ _ rfl]
    simp [hfail, hhub, hfree, tbState_enters]
  · refine runs_onBody (exec_clkTbReturn s) ?_
    rw [onBody_body, settle_rd _ _ _ _ rfl, settle_rd _ _ _ _ rfl]
    obtain ⟨hstate, -, hrate⟩ := tbHoldover_leaves s.env s.body
    simp [hfail, hhub, hfree, hstate, hrate]

end Sys2Proof.Proofs
end

section
/-!
SUPPORT. Ticks and captures of the Cadence timers (R391 to R399): what the tick of one timer leaves of another, and what it does to its own.
-/

namespace Sys2Proof.Proofs

open Sys2Proof Sys2Proof.Machine Sys2Proof.Safety Sys2Proof.Laws

/-! ### One of a list -/

/-- What every turn of a fold keeps the fold keeps. -/
theorem forEach_keeps {R : Body → Body → Prop} (hrefl : ∀ b, R b b) (htrans : ∀ {a b c}, R a b → R b c → R a c) {f : Nat → Body → Body}
    {l : List Nat} (hf : ∀ j ∈ l, ∀ b, R b (f j b)) (b : Body) : R b (b.forEach l f) := by
  induction l generalizing b with
  | nil => exact hrefl b
  | cons j l ih => exact htrans (hf j (List.mem_cons_self ..) b) (ih (fun k hk => hf k (List.mem_cons_of_mem _ hk)) _)

/-- In a fold over distinct indices, what the others keep stands before and after the turn of one. -/
theorem forEach_turn {R : Body → Body → Prop} (hrefl : ∀ b, R b b) (htrans : ∀ {a b c}, R a b → R b c → R a c) {f : Nat → Body → Body} {i : Nat}
    (hf : ∀ j, j ≠ i → ∀ b, R b (f j b)) {l : List Nat} (hnd : l.Nodup) (hi : i ∈ l) (b : Body) :
    ∃ c, R b c ∧ R (f i c) (b.forEach l f) := by
  have hothers : ∀ (l : List Nat), i ∉ l → ∀ b : Body, R b (b.forEach l f) :=
    fun l hl => forEach_keeps hrefl htrans fun j hj => hf j (ne_of_mem_of_not_mem hj hl)
  obtain ⟨l₁, l₂, rfl⟩ := List.append_of_mem hi
  have hnot := (List.nodup_cons.1 (List.nodup_middle.1 hnd)).1
  refine ⟨b.forEach l₁ f, hothers l₁ (fun h => hnot (List.mem_append_left _ h)) b, ?_⟩
  unfold Body.forEach
  rw [List.foldl_append, List.foldl_cons]
  exact hothers l₂ (fun h => hnot (List.mem_append_right _ h)) _

/-! ### The tick of another timer -/

/-- What the ticks of the other timers leave of timer i. -/
structure OtherTicks (i : Nat) (b c : Body) : Prop where
  rd : ∀ f k, f ≠ .alertTleafTimer → (k = i ∨ f ≠ .tmrCntCount ∧ f ≠ .tmrCtrlHit ∧ f ≠ .tmrCtrlMatch) → c.rd f k = b.rd f k
  role : c.role = b.role
  tmr : ∃ rs ss, c.tmr = { b.tmr with resets := rs, starts := ss }

theorem OtherTicks.refl (i : Nat) (b : Body) : OtherTicks i b b := ⟨fun _ _ _ _ => rfl, rfl, _, _, rfl⟩

theorem OtherTicks.trans {i : Nat} {a b c : Body} (h : OtherTicks i a b) (h' : OtherTicks i b c) : OtherTicks i a c := by
  obtain ⟨rs, ss, ht⟩ := h.tmr
  obtain ⟨rs', ss', ht'⟩ := h'.tmr
  exact ⟨fun f k hf hk => (h'.rd f k hf hk).trans (h.rd f k hf hk), h'.role.trans h.role, rs', ss', by rw [ht', ht]⟩

theorem otherTicks_raiseTmr (i j : Nat) (b : Body) : OtherTicks i b (b.raiseTmr j) := by
  unfold Body.raiseTmr
  split
  · exact ⟨fun _ _ _ _ => rfl, rfl, _, _, rfl⟩
  · exact ⟨fun f k hf _ => rd_wr_fld _ _ _ _ _ _ hf, rfl, _, _, rfl⟩

/-- A write of COUNT, HIT or MATCH of timer j. -/
theorem otherTicks_wr {i j : Nat} (hj : j ≠ i) {g : Fld} (hg : g = .tmrCntCount ∨ g = .tmrCtrlHit ∨ g = .tmrCtrlMatch) (v : Nat) (b : Body) :
    OtherTicks i b (b.wr g j v) := by
  refine ⟨fun f k _ hk => ?_, rfl, _, _, rfl⟩
  obtain rfl | ⟨hc, hh, hm⟩ := hk
  · rw [rd_wr, if_neg fun h => hj h.2.symm]
  · refine rd_wr_fld _ _ _ _ _ _ ?_
    rcases hg with rfl | rfl | rfl <;> assumption

theorem otherTicks_matchFires {i j : Nat} (hj : j ≠ i) (b : Body) : OtherTicks i b (b.matchFires j) := by
  unfold Body.matchFires
  extract_lets b1 act tgt b2
  have h1 : OtherTicks i b b1 := (otherTicks_wr hj (.inr (.inr rfl)) 1 b).trans (otherTicks_wr hj (.inr (.inl rfl)) 1 _)
  have h2 : OtherTicks i b1 b2 := ⟨fun _ _ _ _ => rfl, rfl, _, _, rfl⟩
  split
  · exact (h1.trans h2).trans (otherTicks_raiseTmr i j b2)
  · exact h1.trans h2

/-- The tick of timer j without an action that waits for it. -/
theorem otherTicks_tickTimer {i j : Nat} (hj : j ≠ i) (e : Env) (t : Nat) (b : Body) : OtherTicks i b (b.tickTimer e t false false j) := by
  unfold Body.tickTimer
  extract_lets b1 runs c b2 b3 b4
  have h2 : OtherTicks i b b2 := otherTicks_wr hj (.inl rfl) _ b
  have h4 : OtherTicks i b2 b4 := by
    unfold b4
    split
    · exact otherTicks_wr hj (.inr (.inl rfl)) 0 b3
    · exact .refl i b2
  split
  · exact .refl i b
  · split
    · exact .refl i b
    · split
      · exact (h2.trans h4).trans (otherTicks_matchFires hj b4)
      · exact h2.trans h4

/-! ### The tick of a timer -/

theorem ticksAt_of_other {i : Nat} {b c : Body} (h : OtherTicks i b c) (t : Nat) : c.ticksAt i t = b.ticksAt i t := by
  obtain ⟨rs, ss, ht⟩ := h.tmr
  unfold Body.ticksAt Body.flag
  rw [ht, h.rd _ _ (by decide) (.inl rfl)]

theorem cmpSeen_of_other {i : Nat} {b c : Body} (h : OtherTicks i b c) : c.cmpSeen i = b.cmpSeen i := by
  obtain ⟨rs, ss, ht⟩ := h.tmr
  unfold Body.cmpSeen
  rw [ht, h.rd _ _ (by decide) (.inl rfl)]

theorem lapSafe_of_other {i : Nat} {b c : Body} (h : OtherTicks i b c) (e : Env) : c.lapSafe e i = b.lapSafe e i := by
  obtain ⟨rs, ss, ht⟩ := h.tmr
  unfold Body.lapSafe Body.recovery Body.flag
  rw [ht, h.role, h.rd _ _ (by decide) (.inl rfl), h.rd .tbTmrctlForce _ (by decide) (.inr (by decide)),
    h.rd .tbTmrctlStart _ (by decide) (.inr (by decide)), h.rd .healthStatBrace _ (by decide) (.inr (by decide))]

theorem raiseTmr_rd (i : Nat) (b : Body) (f : Fld) (k : Nat) (hf : f ≠ .alertTleafTimer) : (b.raiseTmr i).rd f k = b.rd f k := by
  unfold Body.raiseTmr
  split
  · rfl
  · exact rd_wr_fld _ _ _ _ _ _ hf

theorem matchFires_rd (i : Nat) (b : Body) (f : Fld) (k : Nat) (hf : f ≠ .alertTleafTimer) :
    (b.matchFires i).rd f k = ((b.wr .tmrCtrlMatch i 1).wr .tmrCtrlHit i 1).rd f k := by
  unfold Body.matchFires
  extract_lets b1 act tgt b2
  rw [apply_ite (fun c => Body.rd c f k), raiseTmr_rd i b2 f k hf, ite_self]
  rfl

section
variable (e : Env) (t i : Nat) (b : Body)

/-- A timer that does not count takes no tick, where no action waits for it. -/
theorem tickTimer_idle (h : b.ticksAt i t = false) : b.tickTimer e t false false i = b := by
  unfold Body.tickTimer
  simp [h]

/-- A timer that counts counts up by 1. -/
theorem tickTimer_count (hload : sparseGet 0 b.tmr.loadT i < t) (h : b.ticksAt i t = true) :
    (b.tickTimer e t false false i).rd .tmrCntCount i = (b.rd .tmrCntCount i + 1) % 2 ^ 32 := by
  have hwidth : (b.rd .tmrCntCount i + 1) % 2 ^ 32 < 2 ^ fieldWidth .tmrCntCount := Nat.mod_lt _ (by decide)
  unfold Body.tickTimer
  extract_lets b1 runs c b2 b3 b4
  have h4 : b4.rd .tmrCntCount i = (b.rd .tmrCntCount i + 1) % 2 ^ 32 := by
    unfold b4
    rw [apply_ite (fun c => Body.rd c .tmrCntCount i), rd_wr_fld _ _ _ _ _ _ (by decide), ite_self]
    exact rd_wr_of_lt b i hwidth
  rw [if_neg (Nat.not_le.2 (show sparseGet 0 b1.tmr.loadT i < t from hload)), if_neg (by simp [runs, b1, h]), apply_ite (fun c => Body.rd c .tmrCntCount i),
    matchFires_rd i b4 _ i (by decide), rd_wr_fld _ _ _ _ _ _ (by decide), rd_wr_fld _ _ _ _ _ _ (by decide), ite_self, h4]

/-- A count at the compare value sets MATCH where the lap-safe rule does not hold. -/
theorem tickTimer_match (hload : sparseGet 0 b.tmr.loadT i < t) (h : b.ticksAt i t = true)
    (hcmp : (b.rd .tmrCntCount i + 1) % 2 ^ 32 = b.cmpSeen i) (hlap : b.lapSafe e i = false) :
    (b.tickTimer e t false false i).rd .tmrCtrlMatch i = 1 := by
  unfold Body.tickTimer
  extract_lets b1 runs c b2 b3 b4
  have h4 : b4 = b2 ∨ b4 = b2.wr .tmrCtrlHit i 0 := by
    unfold b4
    split
    · exact .inr rfl
    · exact .inl rfl
  have hseen : b4.cmpSeen i = b.cmpSeen i := by
    unfold Body.cmpSeen
    rcases h4 with h4 | h4 <;> simp [h4, b2, b1]
  have hlap4 : b4.lapSafe e i = false := by
    rw [← hlap]
    unfold Body.lapSafe Body.recovery Body.flag
    rcases h4 with h4 | h4 <;> simp [h4, b2, b1]
  have hfires : (runs && decide (c = b4.cmpSeen i) && !(b4.lapSafe e i && b4.flag .tmrCtrlHit i)) = true := by
    have hc : c = b4.cmpSeen i := hcmp.trans hseen.symm
    have hruns : runs = true := h
    simp [hruns, hc, hlap4]
  rw [if_neg (Nat.not_le.2 (show sparseGet 0 b1.tmr.loadT i < t from hload)), if_neg (by simp [runs, b1, h]), if_pos hfires, matchFires_rd i b4 _ i (by decide),
    rd_wr_fld _ _ _ _ _ _ (by decide), rd_wr_of_lt _ _ (by decide)]

end

/-- What the tick of all timers does to timer i, where no action of the tick before waits. -/
theorem tick_timer (e : Env) (b : Body) (hrs : b.tmr.resets = []) (hss : b.tmr.starts = []) {i : Nat} (hi : i < 256) :
    ∃ c, OtherTicks i (b.onTmr fun x => { x with tick := x.tick + 1 }) c ∧
      ∀ f, f ≠ .alertTleafTimer → (b.tick e).rd f i = (c.tickTimer e ((b.tmr.tick + 1) * 1000) false false i).rd f i := by
  have hi' := List.mem_range.2 hi
  have hnd := List.nodup_range (n := 256)
  unfold Body.tick
  rw [hrs, hss]
  simp only [List.contains_nil]
  generalize List.range 256 = l at hi' hnd ⊢
  obtain ⟨c, hc, hend⟩ := forEach_turn (R := OtherTicks i) (OtherTicks.refl i) OtherTicks.trans
    (f := fun j c => c.tickTimer e ((b.tmr.tick + 1) * 1000) false false j) (fun j hj c => otherTicks_tickTimer hj e _ c)
    hnd hi' (b.onTmr fun x => { x with tick := x.tick + 1, resets := [], starts := [] })
  have hstart : OtherTicks i (b.onTmr fun x => { x with tick := x.tick + 1 })
      (b.onTmr fun x => { x with tick := x.tick + 1, resets := [], starts := [] }) := ⟨fun _ _ _ _ => rfl, rfl, [], [], rfl⟩
  exact ⟨c, hstart.trans hc, fun f hf => hend.rd f i hf (.inl rfl)⟩

/-! ### Captures (R397, R398) -/

@[simp] theorem onTach_rd (k : Nat) (g : Tach → Tach) (b : Body) (f : Fld) (i : Nat) : (b.onTach k g).rd f i = b.rd f i := rfl
@[simp] theorem onTach_lint (k : Nat) (g : Tach → Tach) (b : Body) : (b.onTach k g).tmr.lint = b.tmr.lint := rfl

theorem tachRead_rd (e : Env) (k : Nat) (b : Body) (f : Fld) (i : Nat) (hs : f ≠ .fanSpeedRpm) (ht : f ≠ .fanStatStall) :
    (b.tachRead e k).rd f i = b.rd f i := by
  unfold Body.tachRead
  extract_lets v b1
  have h1 : b1.rd f i = b.rd f i := by
    unfold b1
    split
    · exact rd_wr_fld _ _ _ _ _ _ hs
    · rfl
  rw [onTach_rd, rd_wr_fld _ _ _ _ _ _ ht, h1]

theorem tachRead_lint (e : Env) (k : Nat) (b : Body) : (b.tachRead e k).tmr.lint = b.tmr.lint := by
  unfold Body.tachRead
  extract_lets v b1
  have h1 : b1.tmr = b.tmr := by
    unfold b1
    split
    · exact wr_tmr ..
    · rfl
  rw [onTach_lint, wr_tmr, h1]

theorem raiseTmr_tmr (i : Nat) (b : Body) : (b.raiseTmr i).tmr = b.tmr := by
  unfold Body.raiseTmr
  split <;> rfl

section
variable (e : Env) (i : Nat) (rising : Bool) (ago : Nat) (b : Body)

/-- The edge counts: it is of the selection of a timer that captures. -/
structure Counts : Prop where
  hub : b.hubDown = false
  en : b.flag .tmrCapcfgCen i = true
  src : b.srcExists i = true
  edge : b.edgeTaken i rising = true

/-- An edge that does not complete the prescaler is counted. -/
theorem timerEdge_counts (h : Counts i rising b) (hn : sparseGet 0 b.tmr.edges i < b.rd .tmrCapcfgPresc i) :
    b.timerEdge e i rising ago = b.onTmr fun t => { t with edges := sparseSet 0 t.edges i (sparseGet 0 b.tmr.edges i + 1) } := by
  unfold Body.timerEdge
  rw [if_neg (by simp [h.hub, h.en, h.src, h.edge])]
  exact if_pos (Nat.succ_lt_succ hn)

/-- One that does captures the count, with CAPF, or COVR over a capture not yet cleared. -/
theorem timerEdge_captures (h : Counts i rising b) (hn : b.rd .tmrCapcfgPresc i ≤ sparseGet 0 b.tmr.edges i) :
    (b.timerEdge e i rising ago).rd .tmrCapvValue i = b.countAtEdge i (e.now - ago) % 2 ^ 32 ∧
    (b.timerEdge e i rising ago).rd .tmrCtrlCapf i = 1 ∧
    (b.rd .tmrCtrlCapf i = 1 → (b.timerEdge e i rising ago).rd .tmrCtrlCovr i = 1) ∧
    (b.timerEdge e i rising ago).tmr.lint = b.tmr.lint := by
  unfold Body.timerEdge
  rw [if_neg (by simp [h.hub, h.en, h.src, h.edge])]
  extract_lets n b1 b2 b3 b4
  rw [if_neg (show ¬ n < b.rd .tmrCapcfgPresc i + 1 by omega)]
  have hend : ∀ f, f ≠ .alertTleafTimer → f ≠ .fanSpeedRpm → f ≠ .fanStatStall →
      (if b4.flag .tmrCapcfgCie i then b4.raiseTmr i else b4).rd f i = b3.rd f i := by
    intro f ha hs ht
    rw [apply_ite (fun c => Body.rd c f i), raiseTmr_rd i b4 f i ha, ite_self]
    unfold b4
    rw [apply_ite (fun c => Body.rd c f i), tachRead_rd e _ b3 f i hs ht, ite_self]
  have hcap : b2.rd .tmrCtrlCapf i = b.rd .tmrCtrlCapf i := rd_wr_fld _ _ _ _ _ _ (by decide)
  refine ⟨?_, ?_, fun hcapf => ?_, ?_⟩
  · rw [hend _ (by decide) (by decide) (by decide)]
    unfold b3
    rw [apply_ite (fun c => Body.rd c .tmrCapvValue i), rd_wr_fld b2 .tmrCtrlCovr _ _ _ _ (by decide),
      rd_wr_fld b2 .tmrCtrlCapf _ _ _ _ (by decide), ite_self]
    exact rd_wr_same _ _ _ _
  · rw [hend _ (by decide) (by decide) (by decide)]
    unfold b3
    split
    · rename_i hflag
      exact (rd_wr_fld _ _ _ _ _ _ (by decide)).trans (of_decide_eq_true hflag)
    · exact rd_wr_of_lt _ _ (by decide)
  · rw [hend _ (by decide) (by decide) (by decide)]
    unfold b3
    rw [if_pos (show b2.flag .tmrCtrlCapf i = true from decide_eq_true (hcap.trans hcapf))]
    exact rd_wr_of_lt _ _ (by decide)
  · have h4 : b4.tmr.lint = b.tmr.lint := by
      unfold b4
      rw [apply_ite (fun c : Body => c.tmr.lint), tachRead_lint, ite_self]
      unfold b3
      split <;> rfl
    rw [apply_ite (fun c : Body => c.tmr.lint), raiseTmr_tmr, ite_self, h4]

end

theorem exec_timerTick (s : State) : exec .timerTick s = execTimerTick s := rfl
theorem exec_timerCapture (i : Fin 256) (rising : Bool) (ago : Nat) (s : State) :
    exec (.timerCapture i rising ago) s = execTimerCapture i rising ago s := rfl

theorem tick_number (e : Env) (b : Body) (hrs : b.tmr.resets = []) (hss : b.tmr.starts = []) : (b.tick e).tmr.tick = b.tmr.tick + 1 := by
  have hlt : ∀ j ∈ List.range 256, j ≠ 256 := fun j hj => (List.mem_range.1 hj).ne
  unfold Body.tick
  rw [hrs, hss]
  simp only [List.contains_nil]
  generalize List.range 256 = l at hlt ⊢
  obtain ⟨rs, ss, ht⟩ := (forEach_keeps (OtherTicks.refl 256) OtherTicks.trans
    (f := fun j c => c.tickTimer e ((b.tmr.tick + 1) * 1000) false false j) (fun j hj c => otherTicks_tickTimer (hlt j hj) e _ c)
    (b.onTmr fun x => { x with tick := x.tick + 1, resets := [], starts := [] })).tmr
  rw [onTmr_tmr, ht]
  rfl

/-- The edge that waits for its filter, or the one given, passes to its timer; it leaves the filter. -/
theorem timerCapture_passes (i : Fin 256) (rising : Bool) (ago : Nat) (s : State) (p : Nat × Nat)
    (hp : (s.body.tmr.lint.find? fun q => q.1 = i.val) = none ∧ p = (i.val, s.time.elapsed - ago) ∧ s.body.edgeTaken i rising = true ∨
      (s.body.tmr.lint.find? fun q => q.1 = i.val) = some p ∧
        s.body.edgeTaken i (decide (s.body.rd .tmrCapcfgEdge i ≠ 1)) = true ∧ p.2 ≤ s.time.elapsed) :
    ∃ up f, exec (.timerCapture i rising ago) s = .next ((s.goTo (p.2 + s.body.lintNs i)).onBody f) ∧ s.body.edgeTaken i up = true ∧
      p.2 ≤ s.time.elapsed ∧ ∀ e : Env, f e s.body =
        (s.body.onTmr fun x => { x with lint := x.lint.erase p }).timerEdge e i up (e.now - p.2) := by
  obtain ⟨hnone, rfl, hedge⟩ | ⟨hsome, hedge, hle⟩ := hp
  · have hnot : (i.val, s.time.elapsed - ago) ∉ s.body.tmr.lint := fun h => by
      simpa using List.find?_eq_none.1 hnone _ h
    refine ⟨rising, fun e b => b.timerEdge e i rising (e.now - (s.time.elapsed - ago)), ?_, hedge, Nat.sub_le _ _, fun e => ?_⟩
    · rw [exec_timerCapture, execTimerCapture, hnone]
    · unfold Body.onTmr
      dsimp only
      rw [List.erase_of_not_mem hnot]
  · refine ⟨_, fun e b => (b.onTmr fun x => { x with lint := x.lint.erase p }).timerEdge e i (decide (b.rd .tmrCapcfgEdge i ≠ 1)) (e.now - p.2), ?_,
      hedge, hle, fun e => rfl⟩
    rw [exec_timerCapture, execTimerCapture, hsome]

/-- Settles O40. -/
theorem timers : Obligations.Timers := by
  refine ⟨fun s hhub hrs hss => ?_, fun i rising ago s hhub hcen hsrc p T hp hT => ?_⟩
  · refine runsAt_onBody (exec_timerTick s) ?_
    rw [onBody_body, goTo_body, if_neg (by simp [hhub]), settle_tmr]
    refine ⟨tick_number _ _ hrs hss, fun i hi hload => ?_⟩
    obtain ⟨c, hc, hrd⟩ := tick_timer (s.goTo ((s.body.tmr.tick + 1) * 1000)).env s.body hrs hss hi
    generalize (s.body.tmr.tick + 1) * 1000 = W at hrd hload ⊢
    obtain ⟨rs, ss, htmr⟩ := hc.tmr
    have hload' : sparseGet 0 c.tmr.loadT i < W := by rw [htmr]; exact hload
    have hruns : c.ticksAt i W = s.body.ticksAt i W := ticksAt_of_other hc W
    have hcount : c.rd .tmrCntCount i = s.body.rd .tmrCntCount i := hc.rd _ _ (by decide) (.inl rfl)
    rw [settle_rd _ _ .tmrCntCount i rfl, settle_rd _ _ .tmrCtrlMatch i rfl, hrd _ (by decide), hrd _ (by decide)]
    refine ⟨fun hidle => ?_, fun hticks => ?_⟩
    · rw [tickTimer_idle _ _ _ _ (hruns.trans hidle), hcount]
    · have hup := tickTimer_count (s.goTo W).env W i c hload' (hruns.trans hticks)
      rw [hup, hcount]
      refine ⟨rfl, fun hcmp hlap => tickTimer_match _ W i c hload' (hruns.trans hticks) ?_ ?_⟩
      · rw [hcount, hcmp]
        exact (cmpSeen_of_other hc).symm
      · exact (lapSafe_of_other hc _).trans hlap
  · obtain ⟨up, f, hexec, hedge, hle, hf⟩ := timerCapture_passes i rising ago s p hp
    subst hT
    generalize hW : p.2 + s.body.lintNs i = W at hexec
    have hcounts : Counts i up (s.body.onTmr fun x => { x with lint := x.lint.erase p }) := ⟨hhub, hcen, hsrc, hedge⟩
    have hago : (s.goTo W).env.now - ((s.goTo W).env.now - p.2) = p.2 := by
      rw [goTo_env_now]
      omega
    refine ⟨fun hpresc => ?_, fun hpresc => ?_⟩
    · obtain ⟨hval, hcapf, hcovr, hlint⟩ := timerEdge_captures (s.goTo W).env i up ((s.goTo W).env.now - p.2) _ hcounts hpresc
      refine runsAt_onBody hexec ?_
      rw [onBody_body, goTo_body, hf, settle_rd _ _ .tmrCapvValue i rfl, settle_rd _ _ .tmrCtrlCapf i rfl, settle_rd _ _ .tmrCtrlCovr i rfl,
        settle_tmr, hval, hago]
      exact ⟨rfl, hcapf, hcovr, hlint⟩
    · refine becomesAt_onBody hexec ((hf _).trans ?_)
      rw [timerEdge_counts _ _ _ _ _ hcounts hpresc]
      rfl

end Sys2Proof.Proofs
end

section
/-!
SUPPORT. The reference (R339 to R343): warm-up, the heater and the watch.
-/

namespace Sys2Proof.Proofs

open Sys2Proof Sys2Proof.Machine Sys2Proof.Safety Sys2Proof.Laws

/-! ### A session that fails -/

/-- The end of a session changes CALSTAT and CALPROG, the leaves and the records. -/
theorem calFail_rd (e : Env) (code ch : Nat) (b : Body) (f : Fld) (i : Nat) (hs : f ≠ .metaCalstatFailed) (hp : f ≠ .metaCalprogPhase)
    (hc : f ≠ .metaCalprogFailCode) (hh : f ≠ .metaCalprogFailCh) (hl : f ≠ .alertLeaf) : (b.calFail e code ch).rd f i = b.rd f i := by
  unfold Body.calFail
  split
  · rfl
  · simp [raise_rd, hs, hp, hc, hh, hl]

theorem calInterrupt_rd (e : Env) (b : Body) (f : Fld) (i : Nat) (hs : f ≠ .metaCalstatFailed) (hp : f ≠ .metaCalprogPhase)
    (hc : f ≠ .metaCalprogFailCode) (hh : f ≠ .metaCalprogFailCh) (hl : f ≠ .alertLeaf) : (b.calInterrupt e).rd f i = b.rd f i := by
  unfold Body.calInterrupt
  split
  · rw [apply_ite (fun c => Body.rd c f i), calFail_rd e 7 0xFF b f i hs hp hc hh hl, ite_self]
  · rfl

/-! ### The watch -/

/-- The deviations take free bits at most. -/
theorem devs_part {β : Type} (p : Body → β) (hp : ∀ b x, p { b with freeIx := x } = p b) (ks : List Nat) (b : Body) :
    p (Body.devs ks b).2 = p b := by
  induction ks generalizing b with
  | nil => rfl
  | cons k ks ih =>
    refine (ih _).trans ?_
    unfold Body.devOf
    extract_lets d den
    split
    · exact hp b _
    · rfl

section
variable {β : Type} (p : Body → β) (hbuf : ∀ b v, p (b.wr .metaRefstatBuf 0 v) = p b) (hwatch : ∀ b v, p (b.wr .metaRefstatWatch 0 v) = p b)
  (hm : ∀ b (f : Meter → Meter), (f b.mtr).refT = b.mtr.refT → p (Body.onMtr f b) = p b) (hr : ∀ b l, p (Body.raise l b) = p b)
  (hev : ∀ b t c n x y z, p (Body.event t c n x y z b) = p b)

include hbuf hm hr hev in
/-- BUF follows with its counts, its leaf and its record. -/
theorem bufFollow_part (e : Env) (k : Nat) (dev x : Int) (b : Body) : p (b.bufFollow e k dev x) = p b := by
  unfold Body.bufFollow
  extract_lets was r v b1 b2
  have h1 : p b1 = p b := by unfold b1; rw [hm _ _ rfl, hbuf]
  have h2 : p b2 = p b1 := by unfold b2; rw [apply_ite p, hr, ite_self]
  rw [apply_ite p, hev, ite_self, h2, h1]

include hwatch hm hr hev in
theorem watchFollow_part (e : Env) (dev : Int) (b : Body) : p (b.watchFollow e dev) = p b := by
  unfold Body.watchFollow
  extract_lets was r b1 b2
  have h1 : p b1 = p b := by unfold b1; rw [hm _ _ rfl, hwatch]
  have h2 : p b2 = p b1 := by unfold b2; rw [apply_ite p, hr, ite_self]
  rw [apply_ite p, hev, ite_self, h2, h1]

end
/-- What a check has done when it comes to the flags that follow: the sums start anew, DEV is published and VALID marked. -/
def refPublished (e : Env) (b : Body) : Body :=
  let r := Body.devs (List.range 8) b
  let c := r.2.forEach (List.range 8) fun k c =>
    (c.wr .metaRefdieDev k (satS 32 (r.1.getD k 0))).onDie k fun d => { d with refSum := 0, refN := 0 }
  ((c.wr .metaRefdevDev 0 (satS 32 (middleTwo r.1))).wr .metaRefstatValid 0 1).onMtr fun m => { m with refT := some e.now }

theorem refPublished_dev (e : Env) (b : Body) :
    (refPublished e b).rd .metaRefdevDev = satS 32 (middleTwo (Body.devs (List.range 8) b).1) := by
  unfold refPublished
  rw [onMtr_rd, rd_wr_fld _ _ _ _ _ _ (by decide)]
  exact rd_wr_ofSigned _ 32 _ 0 rfl

theorem refPublished_valid (e : Env) (b : Body) : (refPublished e b).rd .metaRefstatValid = 1 := by
  unfold refPublished
  rw [onMtr_rd, rd_wr_of_lt _ _ (by decide)]

/-- The sums of every die start anew. -/
theorem sums_restart (xs : List Int) {l : List Nat} (hnd : l.Nodup) (b : Body) {k : Nat} (hk : k ∈ l) :
    ((b.forEach l fun k c => (c.wr .metaRefdieDev k (satS 32 (xs.getD k 0))).onDie k fun d => { d with refSum := 0, refN := 0 }).fe k).refN = 0 := by
  obtain ⟨c, -, hend⟩ := forEach_turn (R := fun b c : Body => (b.fe k).refN = 0 → (c.fe k).refN = 0) (fun _ h => h) (fun h h' hb => h' (h hb))
    (f := fun k c => (c.wr .metaRefdieDev k (satS 32 (xs.getD k 0))).onDie k fun d => { d with refSum := 0, refN := 0 })
    (i := k) (fun j _ c hc => by
      rw [fe_onDie]
      split
      · rfl
      · exact hc) hnd hk b
  exact hend (by rw [fe_onDie_same])

theorem refPublished_sums (e : Env) (b : Body) {k : Nat} (hk : k < 8) : ((refPublished e b).fe k).refN = 0 := by
  unfold refPublished
  rw [onMtr_fe, wr_fe, wr_fe]
  exact sums_restart _ List.nodup_range _ (List.mem_range.2 hk)

theorem refCheck_eq (e : Env) (b : Body) : b.refCheck e = ((refPublished e b).forEach (List.range 8) fun k c =>
    c.bufFollow e k (middleTwo (Body.devs (List.range 8) b).1) ((Body.devs (List.range 8) b).1.getD k 0)).watchFollow e
      (middleTwo (Body.devs (List.range 8) b).1) := rfl

/-- The flags that follow leave what is published. -/
theorem refCheck_part {β : Type} (p : Body → β) (hbuf : ∀ b v, p (b.wr .metaRefstatBuf 0 v) = p b)
    (hwatch : ∀ b v, p (b.wr .metaRefstatWatch 0 v) = p b) (hm : ∀ b (f : Meter → Meter), (f b.mtr).refT = b.mtr.refT → p (Body.onMtr f b) = p b)
    (hr : ∀ b l, p (Body.raise l b) = p b) (hev : ∀ b t c n x y z, p (Body.event t c n x y z b) = p b) (e : Env) (b : Body) :
    p (b.refCheck e) = p (refPublished e b) := by
  rw [refCheck_eq, watchFollow_part p hwatch hm hr hev]
  generalize middleTwo (Body.devs (List.range 8) b).1 = dev
  generalize (Body.devs (List.range 8) b).1 = xs
  have hone : ∀ (c : Body) (k : Nat), p (c.bufFollow e k dev (xs.getD k 0)) = p c := fun c k => bufFollow_part p hbuf hm hr hev e k dev _ c
  generalize List.range 8 = l
  exact part_foldl p _ hone l _

theorem refCheck_leaves (e : Env) (b : Body) : (b.refCheck e).rd .metaRefstatValid = 1 ∧ (b.refCheck e).mtr.refT = some e.now ∧
    (b.refCheck e).rd .metaRefdevDev = satS 32 (middleTwo (Body.devs (List.range 8) b).1) ∧
    ∀ k, k < 8 → ((b.refCheck e).fe k).refN = 0 := by
  have hrd : ∀ f, f ≠ .metaRefstatBuf → f ≠ .metaRefstatWatch → f ≠ .alertLeaf → (b.refCheck e).rd f = (refPublished e b).rd f :=
    fun f hb hw hl => refCheck_part (fun b => b.rd f) (fun b v => rd_wr_fld b _ _ _ _ v hb) (fun b v => rd_wr_fld b _ _ _ _ v hw)
      (fun _ _ _ => rfl) (fun b l => raise_rd l b f 0 hl) (fun b t c n x y z => event_rd t c n x y z b f 0) e b
  refine ⟨(hrd _ (by decide) (by decide) (by decide)).trans (refPublished_valid e b), ?_,
    (hrd _ (by decide) (by decide) (by decide)).trans (refPublished_dev e b), fun k hk => ?_⟩
  · exact refCheck_part (fun b => b.mtr.refT) (fun _ _ => rfl) (fun _ _ => rfl) (fun _ _ h => h)
      (fun b l => congrArg Meter.refT (raise_mtr l b)) (fun b t c n x y z => congrArg Meter.refT (event_mtr t c n x y z b)) e b
  · have h := refCheck_part (fun b => b.fe k) (fun _ _ => rfl) (fun _ _ => rfl) (fun _ _ _ => rfl)
      (fun b l => raise_fe l b k) (fun b t c n x y z => event_fe t c n x y z b k) e b
    exact (congrArg Die.refN h).trans (refPublished_sums e b hk)

/-! ### The commands -/

theorem exec_warmUpComplete (s : State) : exec .warmUpComplete s = execWarmUpComplete s := rfl
theorem exec_heaterFault (s : State) : exec .heaterFault s = execHeaterFault s := rfl
theorem exec_refWatchCheck (s : State) : exec .refWatchCheck s = execRefWatchCheck s := rfl

/-- The next check after the present: the multiple of 10 s reached, where it has not had its check, or the next one. -/
def refDelay (s : State) : Nat :=
  if s.time.count % 10000000000 = 0 ∧ s.body.mtr.refT ≠ some s.time.elapsed then 0 else 10000000000 - s.time.count % 10000000000

theorem refWatchCheck_runs (s : State) (hhub : s.body.hubDown = false) (hdoze : s.body.doze = false) (d : Nat)
    (hd : d = refDelay s ∧ (s.body.mtr.refT = none ∨ s.body.flag .metaRefstatValid = true) ∨
      d = refDelay s + 10000000000 ∧ ∃ T, s.body.mtr.refT = some T ∧ s.body.flag .metaRefstatValid = false ∧
        s.time.elapsed + refDelay s < T + 10000000000) :
    exec .refWatchCheck s = .next ((s.goTo (s.time.elapsed + d)).onBody fun e b => b.refCheck e) := by
  have hdelay : (if (decide (s.time.count % 10000000000 = 0) && decide (s.body.mtr.refT ≠ some s.time.elapsed)) = true then 0
      else 10000000000 - s.time.count % 10000000000) = refDelay s := by
    unfold refDelay
    simp only [Bool.and_eq_true, decide_eq_true_eq]
  rw [exec_refWatchCheck, execRefWatchCheck, if_neg (by simp [hhub, hdoze])]
  dsimp only
  rw [hdelay]
  obtain ⟨rfl, hnone | hvalid⟩ | ⟨rfl, T, hT, hvalid, hlt⟩ := hd
  · rw [hnone]
  · cases hrefT : s.body.mtr.refT <;> simp [hvalid]
  · simp [hT, hvalid, hlt]

/-- Settles O33. -/
theorem reference : Obligations.Reference := by
  intro s hhub
  refine ⟨fun T hcell hwarm => ?_, fun hnot => ?_, fun T hdue => ?_, fun hdue => ?_, fun d hdoze hd => ?_, fun hdoze => ?_⟩
  · exact becomesAt_onHub (f := fun _ b => b.wr .metaRefstatWarmDone 0 1)
      ((exec_warmUpComplete s).trans (by rw [execWarmUpComplete, hcell, hwarm])) hhub rfl
  · refine becomes_stay ((exec_warmUpComplete s).trans ?_)
    unfold execWarmUpComplete
    rcases hnot with h | h <;> rw [h]
    cases s.body.mtr.cellT <;> rfl
  · refine runsAt_onHub (f := fun e b => ((b.wr .metaRefstatWarmDone 0 0).wr .metaRefstatHeaterFault 0 1).calInterrupt e)
      ((exec_heaterFault s).trans (by rw [execHeaterFault, hdue])) hhub ?_
    rw [onBody_body, settle_rd _ _ _ _ rfl, settle_rd _ _ _ _ rfl, calInterrupt_rd _ _ _ _ (by decide) (by decide) (by decide) (by decide) (by decide),
      calInterrupt_rd _ _ _ _ (by decide) (by decide) (by decide) (by decide) (by decide), rd_wr_fld _ _ _ _ _ _ (by decide),
      rd_wr_of_lt _ _ (by decide), rd_wr_of_lt _ _ (by decide)]
    exact ⟨rfl, rfl⟩
  · exact becomes_stay ((exec_heaterFault s).trans (by rw [execHeaterFault, hdue]))
  · change d = refDelay s at hd
    subst hd
    refine ⟨fun hfirst => ?_, fun T hT hvalid hlt => ?_⟩
    · have hexec := refWatchCheck_runs s hhub hdoze _ (.inl ⟨rfl, hfirst⟩)
      generalize s.time.elapsed + refDelay s = W at hexec ⊢
      obtain ⟨hvalid, hrefT, hdev, hsums⟩ := refCheck_leaves (s.goTo W).env s.body
      refine runsAt_onBody hexec ?_
      rw [onBody_body, goTo_body, settle_rd _ _ .metaRefstatValid 0 rfl, settle_rd _ _ .metaRefdevDev 0 rfl, settle_mtr]
      exact ⟨hvalid, hrefT, hdev, fun k hk => (settle_fe _ _ k Die.refN (fun _ _ _ => rfl)).trans (hsums k hk)⟩
    · have hexec := refWatchCheck_runs s hhub hdoze _ (.inr ⟨rfl, T, hT, hvalid, hlt⟩)
      generalize s.time.elapsed + (refDelay s + 10000000000) = W at hexec ⊢
      refine runsAt_onBody hexec ?_
      rw [onBody_body, goTo_body, settle_rd _ _ .metaRefstatValid 0 rfl]
      exact (refCheck_leaves _ s.body).1
  · refine becomes_stay ((exec_refWatchCheck s).trans ?_)
    rw [execRefWatchCheck, if_pos (by simp [hdoze])]

end Sys2Proof.Proofs
end

section
/-!
SUPPORT. The host's commands on a calibration session (R348, R353) and the calibration interval (R356).
-/

namespace Sys2Proof.Proofs

open Sys2Proof Sys2Proof.Machine Sys2Proof.Safety Sys2Proof.Laws

theorem bitAt_setBit_same (x i : Nat) : bitAt (setBit x i) i = true := by
  unfold setBit
  split
  · assumption
  · rename_i h
    unfold bitAt at h ⊢
    rw [Nat.add_div_right _ (Nat.two_pow_pos i)]
    simp only [decide_eq_true_eq] at h ⊢
    omega

/-- The bits below the one set stay. -/
theorem bits_setBit_31 (x : Nat) : bits (setBit x 31) 1 0 = bits x 1 0 := by
  unfold setBit bits
  split
  · rfl
  · omega

/-- The fields that CALCTL takes before it starts. -/
def calTaken (w : Nat) (b : Body) : Body :=
  ((b.wr .metaCalctlSwap 0 (bits w 25 25)).wr .metaCalctlSlots 0 (bits w 23 20)).wr .metaCalctlMode 0 (bits w 1 0)

theorem calTaken_modeOk (w mode : Nat) (b : Body) : (calTaken w b).modeOk mode = b.modeOk mode := rfl

theorem calTaken_rd (w : Nat) (b : Body) (f : Fld) (i : Nat) (hs : f ≠ .metaCalctlSwap) (hl : f ≠ .metaCalctlSlots) (hm : f ≠ .metaCalctlMode) :
    (calTaken w b).rd f i = b.rd f i := by
  simp [calTaken, hs, hl, hm]

theorem calTaken_calNotReady (w : Nat) (b : Body) : (calTaken w b).calNotReady = b.calNotReady := by
  have hrd := fun f i => calTaken_rd w b f i
  unfold Body.calNotReady Body.holdup Body.patchRuns Body.flag
  rw [hrd .metaStageBytes 8 (by decide) (by decide) (by decide), hrd .metaRefstatWarmDone 0 (by decide) (by decide) (by decide),
    hrd .budgetHustatActive 0 (by decide) (by decide) (by decide), hrd .modPatchstatState 0 (by decide) (by decide) (by decide)]
  rfl

/-- A start that is taken begins a session where the role and the module allow it, and is refused otherwise. -/
theorem calStart_eq (e : Env) (w : Nat) (b : Body) (hhub : b.hubDown = false) (hun : b.unlocked 6 = true) (hw : bitAt w 31 = true) :
    b.calStart e w =
      if b.modeOk (min 2 (bits w 1 0)) = false then (calTaken w b).calRefuse 9
      else if b.calNotReady then (calTaken w b).calRefuse 2
      else (calTaken w b).calBegin e (min 2 (bits w 1 0)) := by
  have hready := calTaken_calNotReady w b
  have hmode := calTaken_modeOk w (min 2 (bits w 1 0)) b
  unfold Body.calStart
  unfold calTaken at hready hmode ⊢
  rw [if_neg (by simp [hhub, hun])]
  simp only [hw, hmode, hready, Bool.not_true, Bool.false_eq_true, if_false, Bool.not_eq_true']

theorem calStart_write (e : Env) (v : Word) (b : Body) (hhub : b.hubDown = false) (hun : b.unlocked 6 = true) :
    b.calStart e (setBit v.toNat 31) =
      if b.modeOk (min 2 (bits v.toNat 1 0)) = false then (calTaken (setBit v.toNat 31) b).calRefuse 9
      else if b.calNotReady then (calTaken (setBit v.toNat 31) b).calRefuse 2
      else (calTaken (setBit v.toNat 31) b).calBegin e (min 2 (bits v.toNat 1 0)) := by
  rw [calStart_eq e _ b hhub hun (bitAt_setBit_same _ 31), bits_setBit_31]

/-- A refusal shows its code and leaves the session. -/
theorem calRefuse_leaves {code : Nat} (hcode : code < 256) (b : Body) : (b.calRefuse code).rd .metaCalstatFailed = 1 ∧
    (b.calRefuse code).rd .metaCalprogFailCode = code ∧ (b.calRefuse code).mtr = b.mtr := by
  have hwidth : code < 2 ^ fieldWidth .metaCalprogFailCode := hcode
  unfold Body.calRefuse
  extract_lets b1
  have hfailed : b1.rd .metaCalstatFailed = 1 := by
    unfold b1
    rw [rd_wr_fld _ _ _ _ _ _ (by decide), rd_wr_of_lt _ _ (by decide)]
  have hshown : b1.rd .metaCalprogFailCode = code := rd_wr_of_lt _ _ hwidth
  split
  · exact ⟨hfailed, hshown, rfl⟩
  · refine ⟨?_, ?_, rfl⟩
    · rw [rd_wr_fld _ _ _ _ _ _ (by decide), rd_wr_fld _ _ _ _ _ _ (by decide), hfailed]
    · rw [rd_wr_fld _ _ _ _ _ _ (by decide), rd_wr_fld _ _ _ _ _ _ (by decide), hshown]

/-- A session begins in phase 1 (R348). -/
theorem calBegin_leaves (e : Env) (mode : Nat) (b : Body) : (b.calBegin e mode).rd .metaCalprogPhase = 1 ∧
    ∃ x, (b.calBegin e mode).mtr.sess = some x ∧ x.phase = 1 ∧ x.phaseT = e.now ∧ x.mode = mode := by
  unfold Body.calBegin
  refine ⟨?_, _, rfl, rfl, rfl, rfl⟩
  rw [rd_wr_fld _ _ _ _ _ _ (by decide), rd_wr_fld _ _ _ _ _ _ (by decide), rd_wr_fld _ _ _ _ _ _ (by decide), rd_wr_of_lt _ _ (by decide)]

/-- A session that fails ends with its code. -/
theorem calFail_leaves (e : Env) {code : Nat} (hcode : code < 256) (ch : Nat) (b : Body) (h : b.mtr.sess.isSome = true) :
    (b.calFail e code ch).mtr.sess = none ∧ (b.calFail e code ch).rd .metaCalprogFailCode = code ∧
      (b.calFail e code ch).rd .metaCalstatFailed = 1 := by
  have hwidth : code % 2 ^ fieldWidth .metaCalprogFailCode = code := Nat.mod_eq_of_lt hcode
  unfold Body.calFail
  rw [if_neg (by simpa [Option.isSome_iff_ne_none] using h)]
  simp [raise_rd, hwidth, show fieldWidth .metaCalstatFailed = 1 from rfl]

theorem exec_calStart (v : Word) (s : State) : exec (.calStart v) s = execCalStart v s := rfl
theorem exec_calAbort (s : State) : exec .calAbort s = execCalAbort s := rfl
theorem exec_calDueExpire (s : State) : exec .calDueExpire s = execCalDueExpire s := rfl

/-- Settles O34. -/
theorem calibrationControl : Obligations.CalibrationControl := by
  refine ⟨fun v s hhub hun => ⟨fun hmode hready => ?_, fun hmode => ?_, fun hmode hready => ?_, fun x hx hB => ?_, fun x T hx hB => ?_⟩,
    fun s hhub => becomes_onBody (exec_calDueExpire s) (by rw [if_neg (by simp [hhub])]; rfl)⟩
  · refine runs_onBody (exec_calStart v s) ?_
    obtain ⟨hphase, x, hx, hp, ht, hm⟩ := calBegin_leaves s.env (min 2 (bits v.toNat 1 0)) (calTaken (setBit v.toNat 31) s.body)
    rw [onBody_body, calStart_write _ _ _ hhub hun, if_neg (by simp [hmode]), if_neg (by simp [hready]), settle_rd _ _ _ _ rfl, settle_mtr]
    exact ⟨hphase, x, hx, hp, ht, hm⟩
  · refine runs_onBody (exec_calStart v s) ?_
    rw [onBody_body, calStart_write _ _ _ hhub hun, if_pos hmode, settle_rd _ _ .metaCalstatFailed 0 rfl,
      settle_rd _ _ .metaCalprogFailCode 0 rfl, settle_mtr]
    obtain ⟨hfailed, hcode, hmtr⟩ := calRefuse_leaves (show 9 < 256 by decide) (calTaken (setBit v.toNat 31) s.body)
    exact ⟨hfailed, hcode, congrArg Meter.sess hmtr⟩
  · refine runs_onBody (exec_calStart v s) ?_
    rw [onBody_body, calStart_write _ _ _ hhub hun, if_neg (by simp [hmode]), if_pos hready, settle_rd _ _ .metaCalstatFailed 0 rfl,
      settle_rd _ _ .metaCalprogFailCode 0 rfl, settle_mtr]
    obtain ⟨hfailed, hcode, hmtr⟩ := calRefuse_leaves (show 2 < 256 by decide) (calTaken (setBit v.toNat 31) s.body)
    exact ⟨hfailed, hcode, congrArg Meter.sess hmtr⟩
  · have habort : s.body.calAbort s.env = s.body.calFail s.env 1 0xFF := by simp [Body.calAbort, hx, hB, hhub]
    refine runs_onBody (exec_calAbort s) ?_
    rw [onBody_body, habort, settle_rd _ _ .metaCalstatFailed 0 rfl, settle_rd _ _ .metaCalprogFailCode 0 rfl, settle_mtr]
    exact calFail_leaves s.env (by decide) 0xFF s.body (by rw [hx]; rfl)
  · exact becomes_onBody (exec_calAbort s) (by simp [Body.calAbort, hx, hB])

end Sys2Proof.Proofs
end

section
/-!
SUPPORT. The role (R450) through every operation of the body but a change of role.
-/

namespace Sys2Proof.Proofs

open Sys2Proof Sys2Proof.Machine Sys2Proof.Safety Sys2Proof.Laws

/-- The role, as a function of its own: the lemmas below rewrite it step by step, so that the kernel never has to run a body to find it. -/
def roleOf (b : Body) : Role := b.role

/-- Each turn of a fold leaves the role. -/
def RoleKept {α : Type} (f : Body → α → Body) : Prop := ∀ b a, roleOf (f b a) = roleOf b

@[simp] theorem roleKept_iff {α : Type} (f : Body → α → Body) : RoleKept f ↔ ∀ b a, roleOf (f b a) = roleOf b := .rfl

@[simp] theorem roleOf_foldl {α : Type} (f : Body → α → Body) (l : List α) (b : Body) (hf : RoleKept f) : roleOf (l.foldl f b) = roleOf b :=
  part_foldl roleOf f hf l b

@[simp] theorem roleOf_forEach (b : Body) (l : List Nat) (f : Nat → Body → Body) (hf : RoleKept fun b n => f n b) :
    roleOf (b.forEach l f) = roleOf b :=
  part_foldl roleOf _ hf l b

@[simp] theorem roleOf_set_regs (b : Body) (x : Sparse) : roleOf { b with regs := x } = roleOf b := (rfl)
@[simp] theorem roleOf_set_chan (b : Body) (x : Vector Chan 128) : roleOf { b with chan := x } = roleOf b := (rfl)
@[simp] theorem roleOf_set_eng (b : Body) (x : Vector Eng 128) : roleOf { b with eng := x } = roleOf b := (rfl)
@[simp] theorem roleOf_set_die (b : Body) (x : Vector Die 8) : roleOf { b with die := x } = roleOf b := (rfl)
@[simp] theorem roleOf_set_bud (b : Body) (x : Budget) : roleOf { b with bud := x } = roleOf b := (rfl)
@[simp] theorem roleOf_set_rcd (b : Body) (x : Recorder) : roleOf { b with rcd := x } = roleOf b := (rfl)
@[simp] theorem roleOf_set_mtr (b : Body) (x : Meter) : roleOf { b with mtr := x } = roleOf b := (rfl)
@[simp] theorem roleOf_set_disc (b : Body) (x : Disc) : roleOf { b with disc := x } = roleOf b := (rfl)
@[simp] theorem roleOf_set_tmr (b : Body) (x : Timers) : roleOf { b with tmr := x } = roleOf b := (rfl)
@[simp] theorem roleOf_set_health (b : Body) (x : Health) : roleOf { b with health := x } = roleOf b := (rfl)
@[simp] theorem roleOf_set_fdr (b : Body) (x : FeederPort) : roleOf { b with fdr := x } = roleOf b := (rfl)
@[simp] theorem roleOf_set_twin (b : Body) (x : Twin) : roleOf { b with twin := x } = roleOf b := (rfl)
@[simp] theorem roleOf_set_boot (b : Body) (x : Boot) : roleOf { b with boot := x } = roleOf b := (rfl)
@[simp] theorem roleOf_set_hp (b : Body) (x : Vector HostPort 2) : roleOf { b with hp := x } = roleOf b := (rfl)
@[simp] theorem roleOf_set_gainDue (b : Body) (x : List Nat) : roleOf { b with gainDue := x } = roleOf b := (rfl)
@[simp] theorem roleOf_set_dozeReq (b : Body) (x : Option Nat) : roleOf { b with dozeReq := x } = roleOf b := (rfl)
@[simp] theorem roleOf_set_trendWords (b : Body) (x : List (Nat × Nat)) : roleOf { b with trendWords := x } = roleOf b := (rfl)
@[simp] theorem roleOf_set_alertLow (b : Body) (x : Bool) : roleOf { b with alertLow := x } = roleOf b := (rfl)
@[simp] theorem roleOf_set_alertHold (b : Body) (x : Bool) : roleOf { b with alertHold := x } = roleOf b := (rfl)
@[simp] theorem roleOf_set_hubDown (b : Body) (x : Bool) : roleOf { b with hubDown := x } = roleOf b := (rfl)
@[simp] theorem roleOf_set_doze (b : Body) (x : Bool) : roleOf { b with doze := x } = roleOf b := (rfl)
@[simp] theorem roleOf_set_dozeLeaves (b : Body) (x : List (Nat × Nat)) : roleOf { b with dozeLeaves := x } = roleOf b := (rfl)
@[simp] theorem roleOf_set_reply (b : Body) (x : List Nat) : roleOf { b with reply := x } = roleOf b := (rfl)
@[simp] theorem roleOf_set_freeIx (b : Body) (x : Nat) : roleOf { b with freeIx := x } = roleOf b := (rfl)
@[simp] theorem roleOf_wr (b : Body) (f : Fld) (i v : Nat) : roleOf (b.wr f i v) = roleOf b := wr_role ..
@[simp] theorem roleOf_bump (b : Body) (f : Fld) (i : Nat) : roleOf (b.bump f i) = roleOf b := roleOf_wr ..
@[simp] theorem roleOf_onCh (b : Body) (n : Nat) (f : Chan → Chan) : roleOf (b.onCh n f) = roleOf b := onCh_role ..
@[simp] theorem roleOf_onEng (b : Body) (n : Nat) (f : Eng → Eng) : roleOf (b.onEng n f) = roleOf b := onEng_role ..
@[simp] theorem roleOf_onDie (b : Body) (k : Nat) (f : Die → Die) : roleOf (b.onDie k f) = roleOf b := onDie_role ..
@[simp] theorem roleOf_dwr (b : Body) (k : Nat) (f : Fld) (i v : Nat) : roleOf (b.dwr k f i v) = roleOf b := dwr_role ..
@[simp] theorem roleOf_raise (l : Leaf) (b : Body) : roleOf (b.raise l) = roleOf b := raise_role ..
@[simp] theorem roleOf_raiseCh1 (n : Nat) (l : ChLeaf) (b : Body) : roleOf (b.raiseCh1 n l) = roleOf b := by
  simp [Body.raiseCh1, apply_ite roleOf]
@[simp] theorem roleOf_raiseCh (n : Nat) (l : ChLeaf) (b : Body) : roleOf (b.raiseCh n l) = roleOf b := by
  simp [Body.raiseCh]
@[simp] theorem roleOf_free (b : Body) : roleOf (b.free).2 = roleOf b := by
  simp [Body.free]
@[simp] theorem roleOf_emit (r : LRec) (b : Body) : roleOf (b.emit r) = roleOf b := emit_role ..
@[simp] theorem roleOf_onTwin (f : Twin → Twin) (b : Body) : roleOf (b.onTwin f) = roleOf b := onTwin_role ..
@[simp] theorem roleOf_sendBluli (kind : Nat) (content : List Nat) (b : Body) :
    roleOf (b.sendBluli kind content) = roleOf b := sendBluli_role ..
@[simp] theorem roleOf_shared (r : LRec) (b : Body) : roleOf (b.shared r) = roleOf b := shared_role ..
@[simp] theorem roleOf_event (time code chan arg0 arg1 arg2 : Nat) (b : Body) :
    roleOf (b.event time code chan arg0 arg1 arg2) = roleOf b := event_role ..
@[simp] theorem roleOf_showClock (now k : Nat) (b : Body) : roleOf (b.showClock now k) = roleOf b := by
  simp [Body.showClock]
@[simp] theorem roleOf_spoilClock (k : Nat) (b : Body) : roleOf (b.spoilClock k) = roleOf b := by
  simp [Body.spoilClock]
@[simp] theorem roleOf_mark (now c cycles k : Nat) (b : Body) : roleOf (b.mark now c cycles k) = roleOf b := by
  simp [Body.mark, apply_ite roleOf]
@[simp] theorem roleOf_stepMarks (d : Int) (b : Body) : roleOf (b.stepMarks d) = roleOf b := by
  simp [Body.stepMarks]
@[simp] theorem roleOf_framed (k : Nat) (up : Bool) (fs : List (Nat × List Nat)) (b : Body) :
    roleOf (b.framed k up fs) = roleOf b := framed_role ..
@[simp] theorem roleOf_sendDown (k : Nat) (m : DownMsg) (b : Body) : roleOf (b.sendDown k m) = roleOf b := sendDown_role ..
@[simp] theorem roleOf_fwd (n : Nat) (fs : List (Fld × Nat)) (b : Body) : roleOf (b.fwd n fs) = roleOf b := by
  simp [Body.fwd]
@[simp] theorem roleOf_formPlan (e : Env) (b : Body) : roleOf (b.formPlan e) = roleOf b := by
  simp [Body.formPlan, apply_ite roleOf]
@[simp] theorem roleOf_loadLadder (k : Nat) (b : Body) : roleOf (b.loadLadder k) = roleOf b := by
  simp [Body.loadLadder]
@[simp] theorem roleOf_loadLadders (b : Body) : roleOf (b.loadLadders) = roleOf b := by
  simp [Body.loadLadders]
@[simp] theorem roleOf_writeCkpt (time : Nat) (b : Body) : roleOf (b.writeCkpt time) = roleOf b := by
  simp [Body.writeCkpt]
@[simp] theorem roleOf_holdupRec (e : Env) (kind : Nat) (b : Body) : roleOf (b.holdupRec e kind) = roleOf b := by
  simp [Body.holdupRec]
@[simp] theorem roleOf_span (time kind edge mask : Nat) (b : Body) : roleOf (b.span time kind edge mask) = roleOf b := by
  simp [Body.span]
@[simp] theorem roleOf_noteGap (b : Body) : roleOf (b.noteGap) = roleOf b := by
  simp [Body.noteGap]
@[simp] theorem roleOf_gap (stream cause t0 t1 len first last mask : Nat) (b : Body) :
    roleOf (b.gap stream cause t0 t1 len first last mask) = roleOf b := by
  simp [Body.gap, apply_ite roleOf]
@[simp] theorem roleOf_onMtr (f : Meter → Meter) (b : Body) : roleOf (b.onMtr f) = roleOf b := onMtr_role ..
@[simp] theorem roleOf_calFail (e : Env) (code ch : Nat) (b : Body) : roleOf (b.calFail e code ch) = roleOf b := by
  simp [Body.calFail, apply_ite roleOf]
@[simp] theorem roleOf_calInterrupt (e : Env) (b : Body) : roleOf (b.calInterrupt e) = roleOf b := by
  unfold Body.calInterrupt
  split <;> simp [apply_ite roleOf]
@[simp] theorem roleOf_onRcd (f : Recorder → Recorder) (b : Body) : roleOf (b.onRcd f) = roleOf b := onRcd_role ..
@[simp] theorem roleOf_onDev (d : Nat) (f : Dev → Dev) (b : Body) : roleOf (b.onDev d f) = roleOf b := by
  simp [Body.onDev]
@[simp] theorem roleOf_setDev (d st : Nat) (b : Body) : roleOf (b.setDev d st) = roleOf b := by
  simp [Body.setDev]
@[simp] theorem roleOf_devRec (e : Env) (d kind : Nat) (b : Body) : roleOf (b.devRec e d kind) = roleOf b := by
  simp [Body.devRec]
@[simp] theorem roleOf_submitF (e : Env) (d : Nat) (fua : Bool) (w : DevWork) (lba : Nat) (us : List Nat) (b : Body) :
    roleOf (b.submitF e d fua w lba us) = roleOf b := by
  simp [Body.submitF]
@[simp] theorem roleOf_submit (e : Env) (d : Nat) (w : DevWork) (lba : Nat) (us : List Nat) (b : Body) :
    roleOf (b.submit e d w lba us) = roleOf b := by
  simp [Body.submit]
@[simp] theorem roleOf_showOldest (b : Body) : roleOf (b.showOldest) = roleOf b := by
  simp [Body.showOldest]
@[simp] theorem roleOf_showLedger (b : Body) : roleOf (b.showLedger) = roleOf b := by
  simp [Body.showLedger, apply_ite roleOf]
@[simp] theorem roleOf_ledgerPage (e : Env) (b : Body) : roleOf (b.ledgerPage e) = roleOf b := by
  simp [Body.ledgerPage, apply_ite roleOf]
@[simp] theorem roleOf_ledgerAll (e : Env) (k : Nat) (b : Body) : roleOf (Body.ledgerAll e k b) = roleOf b := by
  induction k generalizing b with
  | zero => rfl
  | succ k ih =>
    unfold Body.ledgerAll
    simp [apply_ite roleOf, ih]
@[simp] theorem roleOf_ledgerOut (e : Env) (b : Body) : roleOf (b.ledgerOut e) = roleOf b := by
  simp [Body.ledgerOut]
@[simp] theorem roleOf_sendStripe (e : Env) (d : Nat) (fua : Bool) (x : StripeSpan) (pages : List Nat) (b : Body) :
    roleOf (b.sendStripe e d fua x pages) = roleOf b := by
  simp [Body.sendStripe]
@[simp] theorem roleOf_writeStripe (e : Env) (early fua : Bool) (b : Body) : roleOf (b.writeStripe e early fua) = roleOf b := by
  unfold Body.writeStripe
  dsimp only
  split <;> (try split) <;> simp
@[simp] theorem roleOf_stripesOut (e : Env) (fua : Bool) (dst : Option Nat) (k : Nat) (b : Body) :
    roleOf (Body.stripesOut e fua dst k b) = roleOf b := by
  induction k generalizing b with
  | zero => rfl
  | succ k ih =>
    unfold Body.stripesOut
    simp [apply_ite roleOf, ih]
@[simp] theorem roleOf_trendOut (e : Env) (fua : Bool) (dst : Option Nat) (b : Body) : roleOf (b.trendOut e fua dst) = roleOf b := by
  simp [Body.trendOut]
@[simp] theorem roleOf_flushDevs (e : Env) (b : Body) : roleOf (b.flushDevs e) = roleOf b := by
  simp [Body.flushDevs, apply_ite roleOf]
@[simp] theorem roleOf_stageOut (e : Env) (b : Body) : roleOf (b.stageOut e) = roleOf b := by
  simp [Body.stageOut]
@[simp] theorem roleOf_poolWrite (e : Env) (d pseq : Nat) (c : Cap) (b : Body) : roleOf (b.poolWrite e d pseq c) = roleOf b := by
  have hparts : ∀ (lba : Nat) (l : List (Nat × Nat)) (x : Body × List Nat), roleOf (l.foldl (fun x p =>
      (x.1.submit e d (.pool c lba pseq) p.1 (x.2.take (256 * p.2)), x.2.drop (256 * p.2))) x).1 = roleOf x.1 := by
    intro lba l
    induction l with
    | nil => exact fun _ => rfl
    | cons p l ih => intro x; rw [List.foldl_cons, ih, roleOf_submit]
  unfold Body.poolWrite
  extract_lets lba pages m b1
  simp [b1, hparts]
@[simp] theorem roleOf_capLost (cause : Nat) (c : Cap) (b : Body) : roleOf (b.capLost cause c) = roleOf b := by
  simp [Body.capLost]
@[simp] theorem roleOf_capsGone (b : Body) : roleOf (b.capsGone) = roleOf b := by
  simp [Body.capsGone]
@[simp] theorem roleOf_reissue (e : Env) (o : Nat) (c : DevCmd) (b : Body) : roleOf (b.reissue e o c) = roleOf b := by
  unfold Body.reissue
  dsimp only
  split <;> (try split) <;> simp [apply_ite roleOf]
@[simp] theorem roleOf_dropCmds (e : Env) (d : Nat) (b : Body) : roleOf (b.dropCmds e d) = roleOf b := by
  simp [Body.dropCmds]
@[simp] theorem roleOf_takeHeld (e : Env) (d : Nat) (b : Body) : roleOf (b.takeHeld e d) = roleOf b := by
  have hone : ∀ (b : Body) (c : DevCmd), roleOf (match c.work with
      | .ledger p n => b.submit e d (.ledger p n) (b.ledgerLba d p) c.units
      | _ => b.reissue e d c) = roleOf b := by
    intro b c
    split <;> simp
  exact part_foldl roleOf _ hone _ _
@[simp] theorem roleOf_copyNext (e : Env) (d : Nat) (b : Body) : roleOf (b.copyNext e d) = roleOf b := by
  simp [Body.copyNext, apply_ite roleOf]
@[simp] theorem roleOf_showCopy (d : Nat) (b : Body) : roleOf (b.showCopy d) = roleOf b := by
  simp [Body.showCopy]
@[simp] theorem roleOf_copyEnds (e : Env) (d : Nat) (b : Body) : roleOf (b.copyEnds e d) = roleOf b := by
  simp [Body.copyEnds, apply_ite roleOf]
@[simp] theorem roleOf_failDev (e : Env) (d : Nat) (b : Body) : roleOf (b.failDev e d) = roleOf b := by
  simp [Body.failDev]
@[simp] theorem roleOf_ejected (e : Env) (d : Nat) (b : Body) : roleOf (b.ejected e d) = roleOf b := by
  simp [Body.ejected, apply_ite roleOf]
@[simp] theorem roleOf_ejectWrites (e : Env) (d : Nat) (b : Body) : roleOf (b.ejectWrites e d) = roleOf b := by
  simp [Body.ejectWrites]
@[simp] theorem roleOf_eject (e : Env) (d : Nat) (b : Body) : roleOf (b.eject e d) = roleOf b := by
  simp [Body.eject, apply_ite roleOf]
@[simp] theorem roleOf_showFill (b : Body) : roleOf (b.showFill) = roleOf b := by
  simp [Body.showFill]
@[simp] theorem roleOf_displace (e : Env) (k : Nat) (b : Body) : roleOf (Body.displace e k b) = roleOf b := by
  induction k generalizing b with
  | zero => rfl
  | succ k ih =>
    unfold Body.displace
    split
    · rfl
    · split
      · rfl
      · simp [ih]
@[simp] theorem roleOf_capWrite (e : Env) (b : Body) : roleOf (b.capWrite e) = roleOf b := by
  unfold Body.capWrite
  split
  · rfl
  · split
    · rfl
    · dsimp only
      split
      · rfl
      · split <;> simp
@[simp] theorem roleOf_capsOut (e : Env) (k : Nat) (b : Body) : roleOf (Body.capsOut e k b) = roleOf b := by
  induction k generalizing b with
  | zero => rfl
  | succ k ih =>
    unfold Body.capsOut
    simp [ih]
@[simp] theorem roleOf_flushAll (e : Env) (b : Body) : roleOf (b.flushAll e) = roleOf b := by
  simp [Body.flushAll]
@[simp] theorem roleOf_markQual (n pos : Nat) (b : Body) : roleOf (b.markQual n pos) = roleOf b := by
  simp [Body.markQual]
@[simp] theorem roleOf_markQualAt (t n pos : Nat) (b : Body) : roleOf (b.markQualAt t n pos) = roleOf b := by
  unfold Body.markQualAt
  split <;> simp
@[simp] theorem roleOf_markBlk (pos : Nat) (b : Body) : roleOf (b.markBlk pos) = roleOf b := by
  simp [Body.markBlk]
@[simp] theorem roleOf_gatherScans (b : Body) : roleOf (b.gatherScans) = roleOf b := by
  simp [Body.gatherScans, apply_ite roleOf]
@[simp] theorem roleOf_gather (b : Body) : roleOf (b.gather) = roleOf b := by
  simp [Body.gather]
@[simp] theorem roleOf_endUnmetered (count now : Nat) (u : Unmet) (b : Body) : roleOf (b.endUnmetered count now u) = roleOf b := by
  simp [Body.endUnmetered, apply_ite roleOf]
@[simp] theorem roleOf_openUnmetered (e : Env) (die : Option Nat) (cause t0 : Nat) (b : Body) :
    roleOf (b.openUnmetered e die cause t0) = roleOf b := by
  unfold Body.openUnmetered
  dsimp only
  split <;> simp
@[simp] theorem roleOf_closeUnmetered (e : Env) (k : Nat) (b : Body) : roleOf (b.closeUnmetered e k) = roleOf b := by
  simp [Body.closeUnmetered]
@[simp] theorem roleOf_onPath (n : Nat) (f : MPath → MPath) (b : Body) : roleOf (b.onPath n f) = roleOf b := onPath_role ..
@[simp] theorem roleOf_onUrg (k : Nat) (f : Urgent → Urgent) (b : Body) : roleOf (b.onUrg k f) = roleOf b := onUrg_role ..
@[simp] theorem roleOf_startCap (e : Env) (k : Nat) (b : Body) : roleOf (b.startCap e k) = roleOf b := by
  simp [Body.startCap, apply_ite roleOf]
@[simp] theorem roleOf_onVisit (k : Nat) (cvb : Bool) (f : VisitRun → VisitRun) (b : Body) :
    roleOf (b.onVisit k cvb f) = roleOf b := onVisit_role ..
@[simp] theorem roleOf_visitsPause (e : Env) (k : Nat) (b : Body) : roleOf (b.visitsPause e k) = roleOf b := by
  simp [Body.visitsPause]
@[simp] theorem roleOf_visitsFollow (e : Env) (k : Nat) (b : Body) : roleOf (b.visitsFollow e k) = roleOf b := by
  simp [Body.visitsFollow]
@[simp] theorem roleOf_setLp (e : Env) (k : Nat) (x : Bool) (b : Body) : roleOf (b.setLp e k x) = roleOf b := by
  simp [Body.setLp]
@[simp] theorem roleOf_lowPower (e : Env) (x : Bool) (b : Body) : roleOf (b.lowPower e x) = roleOf b := by
  simp [Body.lowPower, apply_ite roleOf]
@[simp] theorem roleOf_rotBoundary (e : Env) (k : Nat) (b : Body) : roleOf (b.rotBoundary e k) = roleOf b := by
  unfold Body.rotBoundary
  split <;> simp
@[simp] theorem roleOf_emptyScan (e : Env) (k : Nat) (b : Body) : roleOf (b.emptyScan e k) = roleOf b := by
  simp [Body.emptyScan, apply_ite roleOf]
@[simp] theorem roleOf_urgentStart (e : Env) (k : Nat) (b : Body) : roleOf (b.urgentStart e k) = roleOf b := by
  simp [Body.urgentStart, apply_ite roleOf]
@[simp] theorem roleOf_capture (e : Env) (k src unit : Nat) (b : Body) : roleOf (b.capture e k src unit) = roleOf b := by
  simp [Body.capture, apply_ite roleOf]
@[simp] theorem roleOf_capTrigger (e : Env) (k src unit : Nat) (b : Body) : roleOf (b.capTrigger e k src unit) = roleOf b := by
  simp [Body.capTrigger, apply_ite roleOf]
@[simp] theorem roleOf_capTriggerAll (e : Env) (k src unit : Nat) (b : Body) : roleOf (b.capTriggerAll e k src unit) = roleOf b := by
  simp [Body.capTriggerAll, apply_ite roleOf]
@[simp] theorem roleOf_put (f : Fld) (i v : Nat) (b : Body) : roleOf (b.put f i v) = roleOf b := by
  simp [Body.put, apply_ite roleOf]
@[simp] theorem roleOf_putKeys (kvs : List (Nat × Nat)) (b : Body) : roleOf (b.putKeys kvs) = roleOf b := by
  simp [Body.putKeys]
@[simp] theorem roleOf_dropMeas (n : Nat) (b : Body) : roleOf (b.dropMeas n) = roleOf b := by
  simp [Body.dropMeas, apply_ite roleOf]
@[simp] theorem roleOf_endCap (n : Nat) (b : Body) : roleOf (b.endCap n) = roleOf b := by
  simp [Body.endCap, apply_ite roleOf]
@[simp] theorem roleOf_cutWide (k : Nat) (b : Body) : roleOf (b.cutWide k) = roleOf b := by
  simp [Body.cutWide, apply_ite roleOf]
@[simp] theorem roleOf_latchGang (e : Env) (n : Nat) (b : Body) : roleOf (b.latchGang e n) = roleOf b := by
  simp [Body.latchGang]
@[simp] theorem roleOf_latchDie (e : Env) (n : Nat) (b : Body) : roleOf (b.latchDie e n) = roleOf b := by
  simp [Body.latchDie, apply_ite roleOf]
@[simp] theorem roleOf_landFields (k : Nat) (b : Body) : roleOf (b.landFields k) = roleOf b := by
  simp [Body.landFields]
@[simp] theorem roleOf_grantDie (e : Env) (n : Nat) (b : Body) : roleOf (b.grantDie e n) = roleOf b := by
  simp [Body.grantDie, apply_ite roleOf]
@[simp] theorem roleOf_stateDie (e : Env) (n : Nat) (old new : ChState) (b : Body) : roleOf (b.stateDie e n old new) = roleOf b := by
  simp [Body.stateDie, apply_ite roleOf]
@[simp] theorem roleOf_releaseDie (n : Nat) (prior : ChState) (b : Body) : roleOf (b.releaseDie n prior) = roleOf b := by
  simp [Body.releaseDie]
@[simp] theorem roleOf_actDie (e : Env) (m : DownMsg) (b : Body) : roleOf (b.actDie e m) = roleOf b := by
  unfold Body.actDie
  split <;> simp
@[simp] theorem roleOf_tell (e : Env) (k : Nat) (m : DownMsg) (b : Body) : roleOf (b.tell e k m) = roleOf b := by
  simp [Body.tell, apply_ite roleOf]
@[simp] theorem roleOf_enter (e : Env) (n : Nat) (st : ChState) (reason : Nat) (b : Body) : roleOf (b.enter e n st reason) = roleOf b := by
  simp [Body.enter, apply_ite roleOf]
@[simp] theorem roleOf_setReason (n reason : Nat) (b : Body) : roleOf (b.setReason n reason) = roleOf b := by
  simp [Body.setReason]
@[simp] theorem roleOf_writeTrip (e : Env) (n reason t : Nat) (b : Body) : roleOf (b.writeTrip e n reason t) = roleOf b := by
  simp [Body.writeTrip]
@[simp] theorem roleOf_applyTrip (e : Env) (n reason t : Nat) (b : Body) : roleOf (b.applyTrip e n reason t) = roleOf b := by
  simp [Body.applyTrip, apply_ite roleOf]
@[simp] theorem roleOf_applyShort (e : Env) (n t : Nat) (b : Body) : roleOf (b.applyShort e n t) = roleOf b := by
  unfold Body.applyShort
  dsimp only
  split <;> simp
@[simp] theorem roleOf_yieldTo (e : Env) (n broken favoured : Nat) (new : ChState) (b : Body) :
    roleOf (b.yieldTo e n broken favoured new) = roleOf b := by
  simp [Body.yieldTo]
@[simp] theorem roleOf_refuse (e : Env) (n reason : Nat) (b : Body) : roleOf (b.refuse e n reason) = roleOf b := by
  simp [Body.refuse, apply_ite roleOf]
@[simp] theorem roleOf_shed (e : Env) (n reason : Nat) (b : Body) : roleOf (b.shed e n reason) = roleOf b := by
  simp [Body.shed]
@[simp] theorem roleOf_enqueue (e : Env) (n : Nat) (b : Body) : roleOf (b.enqueue e n) = roleOf b := by
  unfold Body.enqueue
  dsimp only
  split <;> (try split) <;> simp
@[simp] theorem roleOf_trySeat (e : Env) (n : Nat) (b : Body) : roleOf (b.trySeat e n) = roleOf b := by
  simp [Body.trySeat, apply_ite roleOf]
@[simp] theorem roleOf_stampSeat (e : Env) (n t : Nat) (b : Body) : roleOf (b.stampSeat e n t) = roleOf b := by
  simp [Body.stampSeat]
@[simp] theorem roleOf_startDue (n : Nat) (w : RampWait) (b : Body) : roleOf (b.startDue n w) = roleOf b := by
  simp [Body.startDue, apply_ite roleOf]
@[simp] theorem roleOf_grant (e : Env) (n : Nat) (b : Body) : roleOf (b.grant e n) = roleOf b := by
  unfold Body.grant
  extract_lets b1 b2 b3 b4 b5
  have h5 : roleOf b5 = roleOf b := by simp [b5, b4, b3, b2, b1]
  exact h5
@[simp] theorem roleOf_enOn (e : Env) (n : Nat) (b : Body) : roleOf (b.enOn e n) = roleOf b := by
  simp [Body.enOn, apply_ite roleOf]
@[simp] theorem roleOf_cleared (e : Env) (n cause : Nat) (b : Body) : roleOf (b.cleared e n cause) = roleOf b := by
  simp [Body.cleared]
@[simp] theorem roleOf_aqQualified (e : Env) (n : Nat) (b : Body) : roleOf (b.aqQualified e n) = roleOf b := by
  unfold Body.aqQualified
  dsimp only
  split <;> simp
@[simp] theorem roleOf_aqAtQual (e : Env) (n : Nat) (b : Body) : roleOf (b.aqAtQual e n) = roleOf b := by
  unfold Body.aqAtQual
  dsimp only
  split <;> (try split) <;> simp
@[simp] theorem roleOf_startAq (n t : Nat) (b : Body) : roleOf (b.startAq n t) = roleOf b := by
  simp [Body.startAq]
@[simp] theorem roleOf_stopSeat (n : Nat) (b : Body) : roleOf (b.stopSeat n) = roleOf b := by
  simp [Body.stopSeat]
@[simp] theorem roleOf_benchIn (e : Env) (n : Nat) (b : Body) : roleOf (b.benchIn e n) = roleOf b := by
  simp [Body.benchIn]
@[simp] theorem roleOf_restored (e : Env) (n : Nat) (st : ChState) (b : Body) : roleOf (b.restored e n st) = roleOf b := by
  simp [Body.restored, apply_ite roleOf]
@[simp] theorem roleOf_imageOk (e : Env) (n : Nat) (b : Body) : roleOf (b.imageOk e n) = roleOf b := by
  unfold Body.imageOk
  dsimp only
  split <;> (try split) <;> simp [apply_ite roleOf]
@[simp] theorem roleOf_applyEv (e : Env) (n : Nat) (ev : Ev) (t : Nat) (b : Body) : roleOf (b.applyEv e n ev t) = roleOf b := by
  unfold Body.applyEv
  dsimp only
  split <;> (try split) <;> simp [apply_ite roleOf]
@[simp] theorem roleOf_releaseHold (e : Env) (n : Nat) (b : Body) : roleOf (b.releaseHold e n) = roleOf b := by
  simp [Body.releaseHold, apply_ite roleOf]
@[simp] theorem roleOf_releaseOne (e : Env) (n r : Nat) (b : Body) : roleOf (b.releaseOne e n r) = roleOf b := by
  unfold Body.releaseOne
  dsimp only
  split <;> simp
@[simp] theorem roleOf_breakHold (e : Env) (n : Nat) (ev : Ev) (t : Nat) (b : Body) : roleOf (b.breakHold e n ev t) = roleOf b := by
  simp [Body.breakHold]
@[simp] theorem roleOf_deliver (e : Env) (n : Nat) (ev : Ev) (t : Nat) (b : Body) : roleOf (b.deliver e n ev t) = roleOf b := by
  unfold Body.deliver
  dsimp only
  split <;> (try split) <;> (try split) <;> simp
@[simp] theorem roleOf_report (e : Env) (n : Nat) (ev : Ev) (t : Nat) (b : Body) : roleOf (b.report e n ev t) = roleOf b := report_role ..
@[simp] theorem roleOf_pauseYields (e : Env) (b : Body) : roleOf (b.pauseYields e) = roleOf b := by
  simp [Body.pauseYields, apply_ite roleOf]
@[simp] theorem roleOf_formReady (b : Body) : roleOf (b.formReady) = roleOf b := by
  simp [Body.formReady, apply_ite roleOf]
@[simp] theorem roleOf_sendGain (l : Nat) (b : Body) : roleOf (b.sendGain l) = roleOf b := by
  simp [Body.sendGain]
@[simp] theorem roleOf_sendGains (b : Body) : roleOf (b.sendGains) = roleOf b := by
  simp [Body.sendGains]
@[simp] theorem roleOf_onHp (p : Nat) (f : HostPort → HostPort) (b : Body) : roleOf (b.onHp p f) = roleOf b := onHp_role ..
@[simp] theorem roleOf_drivePin (low : Bool) (b : Body) : roleOf (b.drivePin low) = roleOf b := by
  simp [Body.drivePin, apply_ite roleOf]
@[simp] theorem roleOf_settle (e : Env) (b : Body) : roleOf (b.settle e) = roleOf b := settle_role ..
@[simp] theorem roleOf_dieTrip (e : Env) (n reason : Nat) (b : Body) : roleOf (b.dieTrip e n reason) = roleOf b := by
  simp [Body.dieTrip, apply_ite roleOf]
@[simp] theorem roleOf_freshOutMin (n : Nat) (b : Body) : roleOf (b.freshOutMin n) = roleOf b := by
  simp [Body.freshOutMin]
@[simp] theorem roleOf_seatAssert (e : Env) (n : Nat) (b : Body) : roleOf (b.seatAssert e n) = roleOf b := by
  simp [Body.seatAssert, apply_ite roleOf]
@[simp] theorem roleOf_seatDrop (e : Env) (n : Nat) (b : Body) : roleOf (b.seatDrop e n) = roleOf b := by
  unfold Body.seatDrop
  dsimp only
  split <;> (try split) <;> simp [apply_ite roleOf]
@[simp] theorem roleOf_seatQual (e : Env) (n : Nat) (b : Body) : roleOf (b.seatQual e n) = roleOf b := by
  simp [Body.seatQual, apply_ite roleOf]
@[simp] theorem roleOf_seatDeassert (e : Env) (n : Nat) (b : Body) : roleOf (b.seatDeassert e n) = roleOf b := by
  simp [Body.seatDeassert, apply_ite roleOf]
@[simp] theorem roleOf_seatLost (e : Env) (n : Nat) (b : Body) : roleOf (b.seatLost e n) = roleOf b := by
  simp [Body.seatLost, apply_ite roleOf]
@[simp] theorem roleOf_restart (e : Env) (n : Nat) (b : Body) : roleOf (b.restart e n) = roleOf b := by
  simp [Body.restart, apply_ite roleOf]
@[simp] theorem roleOf_enOff (e : Env) (n : Nat) (b : Body) : roleOf (b.enOff e n) = roleOf b := by
  simp [Body.enOff, apply_ite roleOf]
@[simp] theorem roleOf_enGo (e : Env) (n : Nat) (b : Body) : roleOf (b.enGo e n) = roleOf b := by
  simp [Body.enGo, apply_ite roleOf]
@[simp] theorem roleOf_requeue (e : Env) (n : Nat) (b : Body) : roleOf (b.requeue e n) = roleOf b := by
  simp [Body.requeue, apply_ite roleOf]
@[simp] theorem roleOf_shortEval (e : Env) (n : Nat) (b : Body) : roleOf (b.shortEval e n) = roleOf b := by
  simp [Body.shortEval, apply_ite roleOf]
@[simp] theorem roleOf_gateAtSource (e : Env) (n : Nat) (b : Body) : roleOf (b.gateAtSource e n) = roleOf b := by
  simp [Body.gateAtSource, apply_ite roleOf]
@[simp] theorem roleOf_trFire (e : Env) (k idx : Nat) (b : Body) : roleOf (b.trFire e k idx) = roleOf b := by
  simp [Body.trFire, apply_ite roleOf]
@[simp] theorem roleOf_trDone (k : Nat) (b : Body) : roleOf (b.trDone k) = roleOf b := by
  simp [Body.trDone]
@[simp] theorem roleOf_trWrite (e : Env) (k : Nat) (hit : Bool) (b : Body) : roleOf (b.trWrite e k hit) = roleOf b := by
  simp [Body.trWrite, apply_ite roleOf]
@[simp] theorem roleOf_trStep (e : Env) (n : Nat) (b : Body) : roleOf (b.trStep e n) = roleOf b := by
  simp [Body.trStep, apply_ite roleOf]
@[simp] theorem roleOf_trArm (k : Nat) (b : Body) : roleOf (b.trArm k) = roleOf b := by
  simp [Body.trArm]
@[simp] theorem roleOf_trFields (k div pre : Nat) (b : Body) : roleOf (b.trFields k div pre) = roleOf b := by
  simp [Body.trFields, apply_ite roleOf]
@[simp] theorem roleOf_trForceNow (e : Env) (k : Nat) (b : Body) : roleOf (b.trForceNow e k) = roleOf b := by
  simp [Body.trForceNow, apply_ite roleOf]
@[simp] theorem roleOf_takeSample (e : Env) (n : Nat) (atPump atSource : Bool) (b : Body) :
    roleOf (b.takeSample e n atPump atSource) = roleOf b := by
  simp [Body.takeSample]
@[simp] theorem roleOf_idleNodes (n : Nat) (b : Body) : roleOf (b.idleNodes n) = roleOf b := by
  simp [Body.idleNodes]
@[simp] theorem roleOf_control (l : Nat) (b : Body) : roleOf (b.control l) = roleOf b := by
  simp [Body.control]
@[simp] theorem roleOf_rampStep (e : Env) (l : Nat) (b : Body) : roleOf (b.rampStep e l) = roleOf b := by
  simp [Body.rampStep, apply_ite roleOf]
@[simp] theorem roleOf_advance (e : Env) (l : Nat) (b : Body) : roleOf (b.advance e l) = roleOf b := by
  unfold Body.advance
  dsimp only
  split <;> (try split) <;> simp
@[simp] theorem roleOf_shadowCycle (e : Env) (l : Nat) (b : Body) : roleOf (b.shadowCycle e l) = roleOf b := by
  simp [Body.shadowCycle, apply_ite roleOf]
@[simp] theorem roleOf_delayMax (k : Nat) (b : Body) : roleOf (b.delayMax k) = roleOf b := by
  simp [Body.delayMax]
@[simp] theorem roleOf_loopCycle (e : Env) (n : Nat) (atPump atSource : Bool) (b : Body) :
    roleOf (b.loopCycle e n atPump atSource) = roleOf b := by
  simp [Body.loopCycle, apply_ite roleOf]
@[simp] theorem roleOf_mmTrack (e : Env) (n : Nat) (b : Body) : roleOf (b.mmTrack e n) = roleOf b := by
  simp [Body.mmTrack, apply_ite roleOf]
@[simp] theorem roleOf_thermalStep (e : Env) (n : Nat) (b : Body) : roleOf (b.thermalStep e n) = roleOf b := by
  simp [Body.thermalStep, apply_ite roleOf]
@[simp] theorem roleOf_hardTrip (e : Env) (n : Nat) (above : Bool) (b : Body) : roleOf (b.hardTrip e n above) = roleOf b := by
  simp [Body.hardTrip, apply_ite roleOf]
@[simp] theorem roleOf_busFollow (e : Env) (l : Nat) (b : Body) : roleOf (b.busFollow e l) = roleOf b := by
  simp [Body.busFollow]
@[simp] theorem roleOf_busQualify (e : Env) (l : Nat) (high : Bool) (b : Body) : roleOf (b.busQualify e l high) = roleOf b := by
  simp [Body.busQualify, apply_ite roleOf]
@[simp] theorem roleOf_availability (b : Body) : roleOf (b.availability) = roleOf b := by
  simp [Body.availability, apply_ite roleOf]
@[simp] theorem roleOf_showRes (b : Body) : roleOf (b.showRes) = roleOf b := by
  simp [Body.showRes]
@[simp] theorem roleOf_setCap (n w : Nat) (guaranteed : Bool) (b : Body) : roleOf (b.setCap n w guaranteed) = roleOf b := by
  simp [Body.setCap, apply_ite roleOf]
@[simp] theorem roleOf_shedCmd (e : Env) (n reason : Nat) (b : Body) : roleOf (b.shedCmd e n reason) = roleOf b := by
  simp [Body.shedCmd, apply_ite roleOf]
@[simp] theorem roleOf_cutPool (e : Env) (c target : Nat) (b : Body) : roleOf (b.cutPool e c target) = roleOf b := by
  simp [Body.cutPool, apply_ite roleOf]
@[simp] theorem roleOf_cutGuar (e : Env) (c target : Nat) (b : Body) : roleOf (b.cutGuar e c target) = roleOf b := by
  simp [Body.cutGuar, apply_ite roleOf]
@[simp] theorem roleOf_inStep (f : Body → Body) (b : Body) : roleOf (Body.inStep f b) = roleOf (f b) := (rfl)
@[simp] theorem roleOf_cutTo (e : Env) (rank target : Nat) (b : Body) : roleOf (b.cutTo e rank target) = roleOf b := by
  simp [Body.cutTo, apply_ite roleOf]
@[simp] theorem roleOf_uncap (b : Body) : roleOf (b.uncap) = roleOf b := by
  simp [Body.uncap, apply_ite roleOf]
@[simp] theorem roleOf_relax (e : Env) (b : Body) : roleOf (b.relax e) = roleOf b := by
  simp [Body.relax, apply_ite roleOf]
@[simp] theorem roleOf_closeSlot (b : Body) : roleOf (b.closeSlot) = roleOf b := by
  simp [Body.closeSlot]
@[simp] theorem roleOf_grantSlot (e : Env) (n : Nat) (b : Body) : roleOf (b.grantSlot e n) = roleOf b := by
  simp [Body.grantSlot]
@[simp] theorem roleOf_overtake (e : Env) (rest : List Nat) (b : Body) : roleOf (b.overtake e rest) = roleOf b := by
  unfold Body.overtake
  split
  · rfl
  · split
    · simp
    · rfl
@[simp] theorem roleOf_offer (e : Env) (l : List Nat) (b : Body) : roleOf (Body.offer e l b) = roleOf b := by
  induction l generalizing b with
  | nil => simp [Body.offer]
  | cons n l ih =>
    unfold Body.offer
    split
    · simp [ih]
    · simp [apply_ite roleOf]
@[simp] theorem roleOf_offerSlot (e : Env) (b : Body) : roleOf (b.offerSlot e) = roleOf b := by
  simp [Body.offerSlot, apply_ite roleOf]
@[simp] theorem roleOf_takeWritten (b : Body) : roleOf (b.takeWritten) = roleOf b := by
  simp [Body.takeWritten, apply_ite roleOf]
@[simp] theorem roleOf_budgetCycle (e : Env) (b : Body) : roleOf (b.budgetCycle e) = roleOf b := by
  simp [Body.budgetCycle, apply_ite roleOf]
@[simp] theorem roleOf_gstart (e : Env) (b : Body) : roleOf (b.gstart e) = roleOf b := by
  simp [Body.gstart, apply_ite roleOf]
@[simp] theorem roleOf_busMinFollow (e : Env) (b : Body) : roleOf (b.busMinFollow e) = roleOf b := by
  simp [Body.busMinFollow, apply_ite roleOf]
@[simp] theorem roleOf_onHu (f : HoldUp → HoldUp) (b : Body) : roleOf (b.onHu f) = roleOf b := onHu_role ..
@[simp] theorem roleOf_bbuSet (e : Env) (cause : Nat) (b : Body) : roleOf (b.bbuSet e cause) = roleOf b := by
  simp [Body.bbuSet, apply_ite roleOf]
@[simp] theorem roleOf_bbuRelease (e : Env) (b : Body) : roleOf (b.bbuRelease e) = roleOf b := by
  simp [Body.bbuRelease]
@[simp] theorem roleOf_stageLevels (b : Body) : roleOf (b.stageLevels) = roleOf b := by
  simp [Body.stageLevels, apply_ite roleOf]
@[simp] theorem roleOf_startHoldup (e : Env) (t : HoldTrig) (b : Body) : roleOf (b.startHoldup e t) = roleOf b := by
  simp [Body.startHoldup]
@[simp] theorem roleOf_holdTrigger (e : Env) (t : HoldTrig) (b : Body) : roleOf (b.holdTrigger e t) = roleOf b := by
  simp [Body.holdTrigger, apply_ite roleOf]
@[simp] theorem roleOf_returnFollow (e : Env) (b : Body) : roleOf (b.returnFollow e) = roleOf b := by
  simp [Body.returnFollow, apply_ite roleOf]
@[simp] theorem roleOf_holdClear (e : Env) (t : HoldTrig) (b : Body) : roleOf (b.holdClear e t) = roleOf b := by
  simp [Body.holdClear, apply_ite roleOf]
@[simp] theorem roleOf_startStage (e : Env) (st : Nat) (b : Body) : roleOf (b.startStage e st) = roleOf b := by
  unfold Body.startStage
  dsimp only
  split <;> simp
@[simp] theorem roleOf_endHoldup (e : Env) (b : Body) : roleOf (b.endHoldup e) = roleOf b := by
  unfold Body.endHoldup
  extract_lets b1 b2 port b3 b4
  have h2 : roleOf b2 = roleOf b := by simp [b2, b1]
  have h3 : roleOf b3 = roleOf b := by
    unfold b3
    clear_value b2
    exact h2
  have h4 : roleOf b4 = roleOf b := by simp [b4, h3]
  rw [roleOf_forEach _ _ _ (fun _ _ => by simp), h4]
@[simp] theorem roleOf_finishHoldup (e : Env) (b : Body) : roleOf (b.finishHoldup e) = roleOf b := by
  simp [Body.finishHoldup, apply_ite roleOf]
@[simp] theorem roleOf_endStage (e : Env) (st : Nat) (b : Body) : roleOf (b.endStage e st) = roleOf b := by
  simp [Body.endStage, apply_ite roleOf]
@[simp] theorem roleOf_warnFollow (e : Env) (b : Body) : roleOf (b.warnFollow e) = roleOf b := by
  simp [Body.warnFollow]
@[simp] theorem roleOf_busSample (e : Env) (k : Nat) (b : Body) : roleOf (b.busSample e k) = roleOf b := by
  simp [Body.busSample, apply_ite roleOf]
@[simp] theorem roleOf_markClamp (n : Nat) (f : Fld) (i : Nat) (held : Bool) (b : Body) : roleOf (b.markClamp n f i held) = roleOf b := by
  simp [Body.markClamp]
@[simp] theorem roleOf_holdField (n : Nat) (asked : Bool) (c : Fld × Nat × Nat × Nat) (b : Body) :
    roleOf (b.holdField n asked c) = roleOf b := by
  simp [Body.holdField, apply_ite roleOf]
@[simp] theorem roleOf_holdHardTrip (e : Env) (n : Nat) (asked : Bool) (b : Body) : roleOf (b.holdHardTrip e n asked) = roleOf b := by
  simp [Body.holdHardTrip, apply_ite roleOf]
@[simp] theorem roleOf_holdAll (e : Env) (n : Nat) (asked : List Nat) (b : Body) : roleOf (b.holdAll e n asked) = roleOf b := by
  simp [Body.holdAll]
@[simp] theorem roleOf_rangeFields (e : Env) (n : Nat) (up : Bool) (b : Body) : roleOf (b.rangeFields e n up) = roleOf b := by
  simp [Body.rangeFields]
@[simp] theorem roleOf_slotRec (kind chan count : Nat) (eInt eRel : Int) (b : Body) :
    roleOf (b.slotRec kind chan count eInt eRel) = roleOf b := by
  simp [Body.slotRec]
@[simp] theorem roleOf_slotEnds (e : Env) (n : Nat) (b : Body) : roleOf (b.slotEnds e n) = roleOf b := by
  unfold Body.slotEnds
  dsimp only
  split <;> (try split) <;> simp
@[simp] theorem roleOf_busSlotEnds (e : Env) (k : Nat) (b : Body) : roleOf (b.busSlotEnds e k) = roleOf b := by
  unfold Body.busSlotEnds
  split <;> simp [apply_ite roleOf]
@[simp] theorem roleOf_closeInterval (e : Env) (n : Nat) (b : Body) : roleOf (b.closeInterval e n) = roleOf b := by
  simp [Body.closeInterval]
@[simp] theorem roleOf_trendTurn (e : Env) (b : Body) : roleOf (b.trendTurn e) = roleOf b := by
  unfold Body.trendTurn
  split <;> simp [apply_ite roleOf]
@[simp] theorem roleOf_closeDie (e : Env) (k : Nat) (b : Body) : roleOf (b.closeDie e k) = roleOf b := by
  simp [Body.closeDie, apply_ite roleOf]
@[simp] theorem roleOf_metersStop (e : Env) (b : Body) : roleOf (b.metersStop e) = roleOf b := by
  simp [Body.metersStop, apply_ite roleOf]
@[simp] theorem roleOf_metersStart (e : Env) (b : Body) : roleOf (b.metersStart e) = roleOf b := by
  simp [Body.metersStart]
@[simp] theorem roleOf_slice (k sl : Nat) (raw : Int) (b : Body) : roleOf (b.slice k sl raw).2 = roleOf b := by
  simp [Body.slice]
@[simp] theorem roleOf_samples (k input : Nat) (s : Serve) (wide : Bool) (start per j : Nat) (xs : List Int) (b : Body) :
    roleOf (Body.samples k input s wide start per j xs b).2 = roleOf b := by
  induction xs generalizing j b with
  | nil => rfl
  | cons x xs ih => simp [Body.samples, ih]
@[simp] theorem roleOf_onFu (k u : Nat) (f : FuState → FuState) (b : Body) : roleOf (b.onFu k u f) = roleOf b := by
  simp [Body.onFu]
@[simp] theorem roleOf_feed (k u : Nat) (x : Int) (b : Body) : roleOf (b.feed k u x) = roleOf b := by
  simp [Body.feed]
@[simp] theorem roleOf_disturb (k u : Nat) (b : Body) : roleOf (b.disturb k u) = roleOf b := by
  simp [Body.disturb]
@[simp] theorem roleOf_disturbAll (k : Nat) (b : Body) : roleOf (b.disturbAll k) = roleOf b := by
  simp [Body.disturbAll]
@[simp] theorem roleOf_slotGap (k input : Nat) (rel : Bool) (b : Body) : roleOf (b.slotGap k input rel) = roleOf b := by
  simp [Body.slotGap, apply_ite roleOf]
@[simp] theorem roleOf_owSample (e : Env) (k p : Nat) (x : Int) (b : Body) : roleOf (b.owSample e k p x) = roleOf b := by
  unfold Body.owSample
  dsimp only
  split <;> (try split) <;> simp
@[simp] theorem roleOf_loadPoles (n : Nat) (b : Body) : roleOf (b.loadPoles n) = roleOf b := by
  simp [Body.loadPoles, apply_ite roleOf]
@[simp] theorem roleOf_refreshTs (e : Env) (n : Nat) (y : Int) (b : Body) : roleOf (b.refreshTs e n y) = roleOf b := by
  simp [Body.refreshTs, apply_ite roleOf]
@[simp] theorem roleOf_window (e : Env) (k u : Nat) (y : Int) (b : Body) : roleOf (b.window e k u y) = roleOf b := by
  simp [Body.window, apply_ite roleOf]
@[simp] theorem roleOf_filterOutput (e : Env) (k u : Nat) (b : Body) : roleOf (b.filterOutput e k u) = roleOf b := by
  unfold Body.filterOutput
  dsimp only
  split <;> (try split) <;> simp [apply_ite roleOf]
@[simp] theorem roleOf_currentSample (e : Env) (n : Nat) (raw : Int) (b : Body) : roleOf (b.currentSample e n raw) = roleOf b := by
  unfold Body.currentSample
  dsimp only
  split <;> (try split) <;> (try split) <;> simp
@[simp] theorem roleOf_followBand (e : Env) (k : Nat) (b : Body) : roleOf (b.followBand e k) = roleOf b := by
  simp [Body.followBand, apply_ite roleOf]
@[simp] theorem roleOf_busTake (e : Env) (k : Nat) (x : Int) (b : Body) : roleOf (b.busTake e k x) = roleOf b := by
  simp [Body.busTake]
@[simp] theorem roleOf_wireState (e : Env) (n : Nat) (ts opened : Bool) (b : Body) : roleOf (b.wireState e n ts opened) = roleOf b := by
  simp [Body.wireState, apply_ite roleOf]
@[simp] theorem roleOf_wireTest (e : Env) (n : Nat) (ts failing : Bool) (b : Body) : roleOf (b.wireTest e n ts failing) = roleOf b := by
  simp [Body.wireTest, apply_ite roleOf]
@[simp] theorem roleOf_openWire (e : Env) (n : Nat) (ts : Bool) (start : Nat) (b : Body) : roleOf (b.openWire e n ts start) = roleOf b := by
  simp [Body.openWire]
@[simp] theorem roleOf_keeperTake (e : Env) (k : Nat) (x : Int) (b : Body) : roleOf (b.keeperTake e k x) = roleOf b := by
  simp [Body.keeperTake, apply_ite roleOf]
@[simp] theorem roleOf_inputTake (e : Env) (k input : Nat) (x : Int) (b : Body) : roleOf (b.inputTake e k input x) = roleOf b := by
  simp [Body.inputTake, apply_ite roleOf]
@[simp] theorem roleOf_urgentEnd (e : Env) (k : Nat) (wide : Bool) (b : Body) : roleOf (b.urgentEnd e k wide) = roleOf b := by
  simp [Body.urgentEnd]
@[simp] theorem roleOf_loopSample (e : Env) (k i : Nat) (raw : Int) (b : Body) : roleOf (b.loopSample e k i raw) = roleOf b := by
  unfold Body.loopSample
  dsimp only
  split <;> simp
@[simp] theorem roleOf_scanSample (e : Env) (k i : Nat) (raw : Int) (b : Body) : roleOf (b.scanSample e k i raw) = roleOf b := by
  unfold Body.scanSample
  dsimp only
  split <;> (try split) <;> simp
@[simp] theorem roleOf_entrySample (e : Env) (k i : Nat) (raw : Int) (b : Body) : roleOf (b.entrySample e k i raw) = roleOf b := by
  simp [Body.entrySample, apply_ite roleOf]
@[simp] theorem roleOf_visitTake (k st sl : Nat) (v : Visit) (b : Body) : roleOf (b.visitTake k st sl v) = roleOf b := by
  simp [Body.visitTake, apply_ite roleOf]
@[simp] theorem roleOf_swap (e : Env) (k : Nat) (cvb : Bool) (b : Body) : roleOf (b.swap e k cvb) = roleOf b := by
  simp [Body.swap]
@[simp] theorem roleOf_visitEnd (e : Env) (k : Nat) (cvb : Bool) (v : Visit) (b : Body) : roleOf (b.visitEnd e k cvb v) = roleOf b := by
  simp [Body.visitEnd, apply_ite roleOf]
@[simp] theorem roleOf_convRequest (e : Env) (k : Nat) (b : Body) : roleOf (b.convRequest e k) = roleOf b := by
  simp [Body.convRequest, apply_ite roleOf]
@[simp] theorem roleOf_convResult (k : Nat) (raws : List Int) (b : Body) : roleOf (b.convResult k raws).2 = roleOf b := by
  unfold Body.convResult
  extract_lets m input
  split
  · exact roleOf_free ..
  · exact roleOf_samples ..
@[simp] theorem roleOf_convDone (e : Env) (k : Nat) (raws : List Int) (b : Body) : roleOf (b.convDone e k raws) = roleOf b := by
  simp [Body.convDone]
@[simp] theorem roleOf_convRead (k : Nat) (b : Body) : roleOf (b.convRead k) = roleOf b := by
  simp [Body.convRead]
@[simp] theorem roleOf_capAbort (k : Nat) (b : Body) : roleOf (b.capAbort k) = roleOf b := by
  simp [Body.capAbort, apply_ite roleOf]
@[simp] theorem roleOf_onCap (k : Nat) (f : Cap → Cap) (b : Body) : roleOf (b.onCap k f) = roleOf b := by
  unfold Body.onCap
  dsimp only
  split <;> simp
@[simp] theorem roleOf_endHold (e : Env) (k : Nat) (b : Body) : roleOf (b.endHold e k) = roleOf b := by
  simp [Body.endHold]
@[simp] theorem roleOf_capEnd (e : Env) (k : Nat) (b : Body) : roleOf (b.capEnd e k) = roleOf b := by
  simp [Body.capEnd, apply_ite roleOf]
@[simp] theorem roleOf_capFrame (e : Env) (k : Nat) (raws : List Int) (b : Body) : roleOf (b.capFrame e k raws) = roleOf b := by
  unfold Body.capFrame
  dsimp only
  split <;> (try split) <;> simp
@[simp] theorem roleOf_benchTrigger (e : Env) (zero : Bool) (k : Nat) (b : Body) : roleOf (b.benchTrigger e zero k) = roleOf b := by
  simp [Body.benchTrigger, apply_ite roleOf]
@[simp] theorem roleOf_convst (e : Env) (k : Nat) (rising : Bool) (b : Body) : roleOf (b.convst e k rising) = roleOf b := by
  simp [Body.convst, apply_ite roleOf]
@[simp] theorem roleOf_writePoint (k p sq value : Nat) (zeroed ratio sat : Bool) (b : Body) :
    roleOf (b.writePoint k p sq value zeroed ratio sat) = roleOf b := by
  simp [Body.writePoint]
@[simp] theorem roleOf_ratioOrFree (p q : Int) (b : Body) : roleOf (b.ratioOrFree p q).2 = roleOf b := by
  unfold Body.ratioOrFree
  split <;> simp
@[simp] theorem roleOf_conversions (k : Nat) (raws : List (List Int)) (b : Body) : roleOf (b.conversions k raws).2 = roleOf b := by
  unfold Body.conversions
  extract_lets order span f
  have hfold : ∀ (l : List Nat) (a : List (Int × Bool) × Body), roleOf (l.foldl f a).2 = roleOf a.2 := by
    intro l
    induction l with
    | nil => exact fun _ => rfl
    | cons i l ih => intro a; rw [List.foldl_cons, ih]; exact roleOf_samples ..
  exact hfold _ _
@[simp] theorem roleOf_commitPoint (k sq p : Nat) (c : Int × Bool) (br : Option Int) (sat : Bool) (b : Body) :
    roleOf (b.commitPoint k sq p c br sat) = roleOf b := by
  unfold Body.commitPoint
  dsimp only
  split <;> (try split) <;> simp [apply_ite roleOf]
@[simp] theorem roleOf_scanCommit (e : Env) (k : Nat) (raws : List (List Int)) (b : Body) : roleOf (b.scanCommit e k raws) = roleOf b := by
  simp [Body.scanCommit, apply_ite roleOf]
@[simp] theorem roleOf_restEnds (e : Env) (k : Nat) (b : Body) : roleOf (b.restEnds e k) = roleOf b := by
  unfold Body.restEnds
  dsimp only
  split <;> simp
@[simp] theorem roleOf_addEnergy (n : Nat) (x : Int) (b : Body) : roleOf (b.addEnergy n x) = roleOf b := by
  simp [Body.addEnergy]
@[simp] theorem roleOf_accept (n : Nat) (x : Int) (count t : Nat) (b : Body) : roleOf (b.accept n x count t) = roleOf b := by
  simp [Body.accept]
@[simp] theorem roleOf_noteFirst (e : Env) (n : Nat) (b : Body) : roleOf (b.noteFirst e n) = roleOf b := by
  simp [Body.noteFirst, apply_ite roleOf]
@[simp] theorem roleOf_showInterval (n : Nat) (c : Closed) (b : Body) : roleOf (b.showInterval n c) = roleOf b := by
  simp [Body.showInterval, apply_ite roleOf]
@[simp] theorem roleOf_writeBlock (w : BlkEnd) (b : Body) : roleOf (b.writeBlock w) = roleOf b := by
  simp [Body.writeBlock]
@[simp] theorem roleOf_writeBlocks  (k : Nat) (b : Body) : roleOf (Body.writeBlocks k b) = roleOf b := by
  induction k generalizing b with
  | zero => rfl
  | succ k ih =>
    unfold Body.writeBlocks
    split
    · rfl
    · simp [apply_ite roleOf, ih]
@[simp] theorem roleOf_settleBlocks (b : Body) : roleOf (b.settleBlocks) = roleOf b := by
  simp [Body.settleBlocks]
@[simp] theorem roleOf_closeBlock (e : Env) (step : Bool) (b : Body) : roleOf (b.closeBlock e step) = roleOf b := by
  simp [Body.closeBlock]
@[simp] theorem roleOf_increment (e : Env) (n : Nat) (b : Body) : roleOf (b.increment e n) = roleOf b := by
  unfold Body.increment
  extract_lets k m
  split
  · rfl
  · split
    · rfl
    · extract_lets b0 b1 w b3 b4 b5 b6 b7
      have h1 : roleOf b1 = roleOf b := by simp [b1, b0]
      have h3 : roleOf b3 = roleOf b := by simp [b3, h1]
      have h7 : roleOf b7 = roleOf b := by simp [b7, b6, b5, b4, apply_ite roleOf, h3]
      split
      · simp [h1]
      · rw [roleOf_settleBlocks]
        clear_value b7
        exact h7
@[simp] theorem roleOf_calinSecond (b : Body) : roleOf (b.calinSecond) = roleOf b := by
  simp [Body.calinSecond]
@[simp] theorem roleOf_readback (ok : Bool) (b : Body) : roleOf (b.readback ok) = roleOf b := by
  unfold Body.readback
  dsimp only
  split <;> (try split) <;> simp [apply_ite roleOf]
@[simp] theorem roleOf_cellTake (e : Env) (x : Int) (b : Body) : roleOf (b.cellTake e x) = roleOf b := by
  simp [Body.cellTake, apply_ite roleOf]
@[simp] theorem roleOf_devOf (k : Nat) (b : Body) : roleOf (b.devOf k).2 = roleOf b := by
  unfold Body.devOf
  dsimp only
  split <;> simp
@[simp] theorem roleOf_devs (ks : List Nat) (b : Body) : roleOf (Body.devs ks b).2 = roleOf b := by
  induction ks generalizing b with
  | nil => rfl
  | cons k ks ih => simp [Body.devs, ih]
@[simp] theorem roleOf_watchFollow (e : Env) (dev : Int) (b : Body) : roleOf (b.watchFollow e dev) = roleOf b := by
  simp [Body.watchFollow, apply_ite roleOf]
@[simp] theorem roleOf_bufFollow (e : Env) (k : Nat) (dev x : Int) (b : Body) : roleOf (b.bufFollow e k dev x) = roleOf b := by
  simp [Body.bufFollow, apply_ite roleOf]
@[simp] theorem roleOf_refCheck (e : Env) (b : Body) : roleOf (b.refCheck e) = roleOf b := by
  simp [Body.refCheck]
@[simp] theorem roleOf_endDrop (t1 e1 : Nat) (b : Body) : roleOf (b.endDrop t1 e1) = roleOf b := by
  unfold Body.endDrop
  split <;> simp
@[simp] theorem roleOf_trendBlock (e : Env) (b : Body) : roleOf (b.trendBlock e) = roleOf b := by
  unfold Body.trendBlock
  split
  · rfl
  · extract_lets b1 ws m us b2 b3 e0 b4
    have h2 : roleOf b2 = roleOf b := by simp [b2, b1]
    have h3 : roleOf b3 = roleOf b := by simp [b3, apply_ite roleOf, h2]
    split
    · exact h3
    · split
      · split <;> simp [h3]
      · simp [b4, h3]
@[simp] theorem roleOf_burst (e : Env) (b : Body) : roleOf (b.burst e) = roleOf b := by
  simp [Body.burst, apply_ite roleOf]
@[simp] theorem roleOf_checkpoint (e : Env) (ok : Bool) (b : Body) : roleOf (b.checkpoint e ok) = roleOf b := by
  unfold Body.checkpoint
  dsimp only
  split <;> (try split) <;> simp
@[simp] theorem roleOf_takeBlock (e : Env) (units : List Nat) (b : Body) : roleOf (b.takeBlock e units) = roleOf b := by
  simp [Body.takeBlock]
@[simp] theorem roleOf_joinLedger (e : Env) (units : List Nat) (b : Body) : roleOf (b.joinLedger e units) = roleOf b := by
  simp [Body.joinLedger, apply_ite roleOf]
@[simp] theorem roleOf_takeUnits (r : LRec) (b : Body) : roleOf (b.takeUnits r) = roleOf b := by
  simp [Body.takeUnits, apply_ite roleOf]
@[simp] theorem roleOf_takeAhead (e : Env) (k : Nat) (b : Body) : roleOf (Body.takeAhead e k b) = roleOf b := by
  induction k generalizing b with
  | zero => rfl
  | succ k ih =>
    unfold Body.takeAhead
    split
    · rfl
    · extract_lets c next
      have hc : roleOf c = roleOf b := by
        unfold c
        split <;> simp
      clear_value c
      split <;> simp [ih, hc]
@[simp] theorem roleOf_settleAhead (e : Env) (b : Body) : roleOf (b.settleAhead e) = roleOf b := by
  simp [Body.settleAhead, apply_ite roleOf]
@[simp] theorem roleOf_takeRecord (e : Env) (units : List Nat) (b : Body) : roleOf (b.takeRecord e units) = roleOf b := by
  simp [Body.takeRecord, apply_ite roleOf]
@[simp] theorem roleOf_pageWrite (e : Env) (b : Body) : roleOf (b.pageWrite e) = roleOf b := by
  simp [Body.pageWrite, apply_ite roleOf]
@[simp] theorem roleOf_devError (e : Env) (d : Nat) (b : Body) : roleOf (b.devError e d) = roleOf b := by
  simp [Body.devError, apply_ite roleOf]
@[simp] theorem roleOf_writeLost (e : Env) (d : Nat) (c : DevCmd) (b : Body) : roleOf (b.writeLost e d c) = roleOf b := by
  unfold Body.writeLost
  split <;> simp [apply_ite roleOf]
@[simp] theorem roleOf_acked (e : Env) (d : Nat) (c : DevCmd) (b : Body) : roleOf (b.acked e d c) = roleOf b := by
  unfold Body.acked
  split <;> simp [apply_ite roleOf]
@[simp] theorem roleOf_pick (is : List Nat) (b : Body) : roleOf (b.pick is).2 = roleOf b := by
  unfold Body.pick
  dsimp only
  split <;> simp
@[simp] theorem roleOf_complete (e : Env) (d : Nat) (ok : Bool) (b : Body) : roleOf (b.complete e d ok) = roleOf b := by
  unfold Body.complete
  dsimp only
  split <;> (try split) <;> simp [apply_ite roleOf]
@[simp] theorem roleOf_holdPerst (d t : Nat) (b : Body) : roleOf (b.holdPerst d t) = roleOf b := by
  simp [Body.holdPerst]
@[simp] theorem roleOf_resetCtl (e : Env) (d : Nat) (b : Body) : roleOf (b.resetCtl e d) = roleOf b := by
  simp [Body.resetCtl]
@[simp] theorem roleOf_timedOut (e : Env) (d : Nat) (resetOk : Bool) (b : Body) : roleOf (b.timedOut e d resetOk) = roleOf b := by
  simp [Body.timedOut, apply_ite roleOf]
@[simp] theorem roleOf_smart (e : Env) (d crit pct temp : Nat) (b : Body) : roleOf (b.smart e d crit pct temp) = roleOf b := by
  simp [Body.smart]
@[simp] theorem roleOf_devJoin (e : Env) (d : Nat) (b : Body) : roleOf (b.devJoin e d) = roleOf b := by
  simp [Body.devJoin, apply_ite roleOf]
@[simp] theorem roleOf_prepare (e : Env) (d : Nat) (b : Body) : roleOf (b.prepare e d) = roleOf b := by
  simp [Body.prepare, apply_ite roleOf]
@[simp] theorem roleOf_resumeWrites (e : Env) (b : Body) : roleOf (b.resumeWrites e) = roleOf b := by
  simp [Body.resumeWrites, apply_ite roleOf]
@[simp] theorem roleOf_rejoin (e : Env) (d : Nat) (b : Body) : roleOf (b.rejoin e d) = roleOf b := by
  simp [Body.rejoin]
@[simp] theorem roleOf_classify (e : Env) (d : Nat) (b : Body) : roleOf (b.classify e d) = roleOf b := by
  simp [Body.classify, apply_ite roleOf]
@[simp] theorem roleOf_showDue (b : Body) : roleOf (b.showDue) = roleOf b := showDue_role ..
@[simp] theorem roleOf_recHook (e : Env) (f : Fld) (b : Body) : roleOf (b.recHook e f) = roleOf b := by
  simp [Body.recHook, apply_ite roleOf]
@[simp] theorem roleOf_linkUp (e : Env) (d : Nat) (i : DevInfo) (b : Body) : roleOf (b.linkUp e d i) = roleOf b := by
  simp [Body.linkUp, apply_ite roleOf]
@[simp] theorem roleOf_noDevice (d : Nat) (b : Body) : roleOf (b.noDevice d) = roleOf b := by
  simp [Body.noDevice]
@[simp] theorem roleOf_linkLoss (e : Env) (d : Nat) (b : Body) : roleOf (b.linkLoss e d) = roleOf b := by
  simp [Body.linkLoss, apply_ite roleOf]
@[simp] theorem roleOf_devPrepare (e : Env) (d : Nat) (b : Body) : roleOf (b.devPrepare e d) = roleOf b := by
  simp [Body.devPrepare, apply_ite roleOf]
@[simp] theorem roleOf_devCancel (d : Nat) (b : Body) : roleOf (b.devCancel d) = roleOf b := by
  simp [Body.devCancel, apply_ite roleOf]
@[simp] theorem roleOf_resilvered (e : Env) (d : Nat) (b : Body) : roleOf (b.resilvered e d) = roleOf b := by
  simp [Body.resilvered]
@[simp] theorem roleOf_readGo (src half : Nat) (b : Body) : roleOf (b.readGo src half) = roleOf b := by
  simp [Body.readGo, apply_ite roleOf]
@[simp] theorem roleOf_basketFail (e : Env) (b : Body) : roleOf (b.basketFail e) = roleOf b := by
  simp [Body.basketFail, apply_ite roleOf]
@[simp] theorem roleOf_basketReinit (e : Env) (b : Body) : roleOf (b.basketReinit e) = roleOf b := by
  simp [Body.basketReinit, apply_ite roleOf]
@[simp] theorem roleOf_loadAcc (f : Nat → Nat) (b : Body) : roleOf (b.loadAcc f) = roleOf b := by
  simp [Body.loadAcc]
@[simp] theorem roleOf_startAcc (f : Nat → Nat) (b : Body) : roleOf (b.startAcc f) = roleOf b := by
  simp [Body.startAcc]
@[simp] theorem roleOf_startSpan (e : Env) (t0 : Nat) (b : Body) : roleOf (b.startSpan e t0) = roleOf b := by
  simp [Body.startSpan, apply_ite roleOf]
@[simp] theorem roleOf_originRec (e : Env) (kind unv blk : Nat) (hash : List Nat) (b : Body) :
    roleOf (b.originRec e kind unv blk hash) = roleOf b := by
  simp [Body.originRec, apply_ite roleOf]
@[simp] theorem roleOf_adoptLedger (id next : Nat) (hash : List Nat) (b : Body) : roleOf (b.adoptLedger id next hash) = roleOf b := by
  simp [Body.adoptLedger]
@[simp] theorem roleOf_foundEnd (f : LedgerFound) (b : Body) : roleOf (b.foundEnd f) = roleOf b := by
  simp [Body.foundEnd]
@[simp] theorem roleOf_newLedger (b : Body) : roleOf (b.newLedger) = roleOf b := by
  simp [Body.newLedger]
@[simp] theorem roleOf_recStart (e : Env) (found : Option LedgerFound) (b : Body) : roleOf (b.recStart e found) = roleOf b := by
  unfold Body.recStart
  dsimp only
  split <;> (try split) <;> simp [apply_ite roleOf]
@[simp] theorem roleOf_onDisc (f : Disc → Disc) (b : Body) : roleOf (b.onDisc f) = roleOf b := onDisc_role ..
@[simp] theorem roleOf_tbState (e : Env) (st : Nat) (b : Body) : roleOf (b.tbState e st) = roleOf b := by
  simp [Body.tbState, apply_ite roleOf]
@[simp] theorem roleOf_tbHoldover (e : Env) (b : Body) : roleOf (b.tbHoldover e) = roleOf b := by
  simp [Body.tbHoldover]
@[simp] theorem roleOf_planStep (e : Env) (k : StepKind) (cause : Nat) (b : Body) : roleOf (b.planStep e k cause) = roleOf b := by
  simp [Body.planStep]
@[simp] theorem roleOf_steer (y : Int) (b : Body) : roleOf (b.steer y).2 = roleOf b := by
  unfold Body.steer
  split <;> simp
@[simp] theorem roleOf_slew (e : Env) (err : Int) (b : Body) : roleOf (b.slew e err) = roleOf b := by
  unfold Body.slew
  dsimp only
  split <;> simp
@[simp] theorem roleOf_slipFlag (e : Env) (err : Int) (b : Body) : roleOf (b.slipFlag e err) = roleOf b := by
  simp [Body.slipFlag]
@[simp] theorem roleOf_markSlip (err : Int) (b : Body) : roleOf (b.markSlip err) = roleOf b := by
  simp [Body.markSlip, apply_ite roleOf]
@[simp] theorem roleOf_endRate (b : Body) : roleOf (b.endRate) = roleOf b := by
  simp [Body.endRate]
@[simp] theorem roleOf_correct (e : Env) (err : Int) (b : Body) : roleOf (b.correct e err) = roleOf b := by
  simp [Body.correct, apply_ite roleOf]
@[simp] theorem roleOf_countGood (err : Int) (b : Body) : roleOf (b.countGood err) = roleOf b := by
  simp [Body.countGood]
@[simp] theorem roleOf_judge (e : Env) (err : Int) (b : Body) : roleOf (b.judge e err) = roleOf b := by
  unfold Body.judge
  dsimp only
  split <;> (try split) <;> simp [apply_ite roleOf]
@[simp] theorem roleOf_pulseFail (e : Env) (err : Int) (b : Body) : roleOf (b.pulseFail e err) = roleOf b := by
  simp [Body.pulseFail, apply_ite roleOf]
@[simp] theorem roleOf_pulseAt (e : Env) (b : Body) : roleOf (b.pulseAt e) = roleOf b := by
  simp [Body.pulseAt, apply_ite roleOf]
@[simp] theorem roleOf_pulse (e : Env) (b : Body) : roleOf (b.pulse e) = roleOf b := by
  simp [Body.pulse]
@[simp] theorem roleOf_missing (e : Env) (b : Body) : roleOf (b.missing e) = roleOf b := by
  simp [Body.missing, apply_ite roleOf]
@[simp] theorem roleOf_stepClose (e : Env) (b : Body) : roleOf (b.stepClose e) = roleOf b := by
  simp [Body.stepClose, apply_ite roleOf]
@[simp] theorem roleOf_stepOpen (old : Nat) (d : Int) (cause : Nat) (e : Env) (b : Body) :
    roleOf (b.stepOpen old d cause e) = roleOf b := by
  simp [Body.stepOpen, apply_ite roleOf]
@[simp] theorem roleOf_tbArm (b : Body) : roleOf (b.tbArm) = roleOf b := by
  simp [Body.tbArm, apply_ite roleOf]
@[simp] theorem roleOf_tbNow (e : Env) (b : Body) : roleOf (b.tbNow e) = roleOf b := by
  simp [Body.tbNow, apply_ite roleOf]
@[simp] theorem roleOf_tbAlign (b : Body) : roleOf (b.tbAlign) = roleOf b := by
  simp [Body.tbAlign, apply_ite roleOf]
@[simp] theorem roleOf_tbCancel (b : Body) : roleOf (b.tbCancel) = roleOf b := by
  simp [Body.tbCancel, apply_ite roleOf]
@[simp] theorem roleOf_tbFails (e : Env) (b : Body) : roleOf (b.tbFails e) = roleOf b := by
  simp [Body.tbFails, apply_ite roleOf]
@[simp] theorem roleOf_onTmr (f : Timers → Timers) (b : Body) : roleOf (b.onTmr f) = roleOf b := onTmr_role ..
@[simp] theorem roleOf_raiseTmr (i : Nat) (b : Body) : roleOf (b.raiseTmr i) = roleOf b := by
  simp [Body.raiseTmr, apply_ite roleOf]
@[simp] theorem roleOf_matchFires (i : Nat) (b : Body) : roleOf (b.matchFires i) = roleOf b := by
  simp [Body.matchFires, apply_ite roleOf]
@[simp] theorem roleOf_tickStart (t i : Nat) (b : Body) : roleOf (b.tickStart t i) = roleOf b := by
  simp [Body.tickStart, apply_ite roleOf]
@[simp] theorem roleOf_tickTimer (e : Env) (t : Nat) (reset start : Bool) (i : Nat) (b : Body) :
    roleOf (b.tickTimer e t reset start i) = roleOf b := by
  simp [Body.tickTimer, apply_ite roleOf]
@[simp] theorem roleOf_tick (e : Env) (b : Body) : roleOf (b.tick e) = roleOf b := by
  simp [Body.tick]
@[simp] theorem roleOf_onTach (k : Nat) (f : Tach → Tach) (b : Body) : roleOf (b.onTach k f) = roleOf b := by
  simp [Body.onTach]
@[simp] theorem roleOf_tachRead (e : Env) (k : Nat) (b : Body) : roleOf (b.tachRead e k) = roleOf b := by
  unfold Body.tachRead
  dsimp only
  split <;> (try split) <;> simp
@[simp] theorem roleOf_timerEdge (e : Env) (i : Nat) (rising : Bool) (ago : Nat) (b : Body) :
    roleOf (b.timerEdge e i rising ago) = roleOf b := by
  simp [Body.timerEdge, apply_ite roleOf]
@[simp] theorem roleOf_srcEdge (src : Nat) (rising : Bool) (t : Nat) (b : Body) : roleOf (b.srcEdge src rising t) = roleOf b := by
  simp [Body.srcEdge, apply_ite roleOf]
@[simp] theorem roleOf_releaseGo (e : Env) (atTime : Bool) (b : Body) : roleOf (b.releaseGo e atTime) = roleOf b := by
  simp [Body.releaseGo, apply_ite roleOf]
@[simp] theorem roleOf_relDone (b : Body) : roleOf (b.relDone) = roleOf b := by
  simp [Body.relDone, apply_ite roleOf]
@[simp] theorem roleOf_relStart (t i : Nat) (b : Body) : roleOf (b.relStart t i) = roleOf b := by
  simp [Body.relStart]
@[simp] theorem roleOf_relCancel (i : Nat) (b : Body) : roleOf (b.relCancel i) = roleOf b := by
  simp [Body.relCancel, apply_ite roleOf]
@[simp] theorem roleOf_tachServe (e : Env) (k : Nat) (b : Body) : roleOf (b.tachServe e k) = roleOf b := by
  simp [Body.tachServe, apply_ite roleOf]
@[simp] theorem roleOf_tmrHook (e : Env) (f : Fld) (i old : Nat) (b : Body) : roleOf (b.tmrHook e f i old) = roleOf b := by
  unfold Body.tmrHook
  dsimp only
  split <;> (try split) <;> simp [apply_ite roleOf]
@[simp] theorem roleOf_onHealth (f : Health → Health) (b : Body) : roleOf (b.onHealth f) = roleOf b := onHealth_role ..
@[simp] theorem roleOf_visitsAll (e : Env) (b : Body) : roleOf (b.visitsAll e) = roleOf b := by
  simp [Body.visitsAll]
@[simp] theorem roleOf_freezeCh (e : Env) (n : Nat) (b : Body) : roleOf (b.freezeCh e n) = roleOf b := by
  simp [Body.freezeCh]
@[simp] theorem roleOf_freeze (e : Env) (b : Body) : roleOf (b.freeze e) = roleOf b := by
  simp [Body.freeze]
@[simp] theorem roleOf_eligibleAfter (reason : Nat) (b : Body) : roleOf (b.eligibleAfter reason) = roleOf b := by
  simp [Body.eligibleAfter]
@[simp] theorem roleOf_thawCh (e : Env) (n : Nat) (b : Body) : roleOf (b.thawCh e n) = roleOf b := by
  simp [Body.thawCh]
@[simp] theorem roleOf_thaw (e : Env) (b : Body) : roleOf (b.thaw e) = roleOf b := by
  simp [Body.thaw]
@[simp] theorem roleOf_setLevel (e : Env) (l sensor : Nat) (b : Body) : roleOf (b.setLevel e l sensor) = roleOf b := by
  simp [Body.setLevel, apply_ite roleOf]
@[simp] theorem roleOf_shutAct (e : Env) (b : Body) : roleOf (b.shutAct e) = roleOf b := by
  simp [Body.shutAct, apply_ite roleOf]
@[simp] theorem roleOf_tempRound (e : Env) (ts : List Nat) (b : Body) : roleOf (b.tempRound e ts) = roleOf b := by
  simp [Body.tempRound]
@[simp] theorem roleOf_braceEnter (e : Env) (b : Body) : roleOf (b.braceEnter e) = roleOf b := by
  unfold Body.braceEnter
  dsimp only
  split <;> simp
@[simp] theorem roleOf_braceEnd (e : Env) (b : Body) : roleOf (b.braceEnd e) = roleOf b := by
  simp [Body.braceEnd]
@[simp] theorem roleOf_onFp (f : FeederPort → FeederPort) (b : Body) : roleOf (b.onFp f) = roleOf b := onFp_role ..
@[simp] theorem roleOf_onFd (f : Nat) (g : Feeder → Feeder) (b : Body) : roleOf (b.onFd f g) = roleOf b := onFd_role ..
@[simp] theorem roleOf_fdAnchor (e : Env) (f : Nat) (b : Body) : roleOf (b.fdAnchor e f) = roleOf b := by
  simp [Body.fdAnchor]
@[simp] theorem roleOf_fdRetarget (e : Env) (f : Nat) (b : Body) : roleOf (b.fdRetarget e f) = roleOf b := by
  simp [Body.fdRetarget]
@[simp] theorem roleOf_fdRetargetAll (e : Env) (b : Body) : roleOf (b.fdRetargetAll e) = roleOf b := by
  simp [Body.fdRetargetAll, apply_ite roleOf]
@[simp] theorem roleOf_fdSum (e : Env) (b : Body) : roleOf (b.fdSum e) = roleOf b := by
  simp [Body.fdSum, apply_ite roleOf]
@[simp] theorem roleOf_fdState (e : Env) (f st : Nat) (b : Body) : roleOf (b.fdState e f st) = roleOf b := by
  simp [Body.fdState, apply_ite roleOf]
@[simp] theorem roleOf_fdStart (e : Env) (f : Nat) (b : Body) : roleOf (b.fdStart e f) = roleOf b := by
  simp [Body.fdStart]
@[simp] theorem roleOf_fpOver (b : Body) : roleOf (b.fpOver) = roleOf b := by
  simp [Body.fpOver]
@[simp] theorem roleOf_fpDone (b : Body) : roleOf (b.fpDone) = roleOf b := by
  simp [Body.fpDone]
@[simp] theorem roleOf_fdFail (f : Nat) (nack : Bool) (b : Body) : roleOf (b.fdFail f nack) = roleOf b := by
  simp [Body.fdFail, apply_ite roleOf]
@[simp] theorem roleOf_fdStatus (e : Env) (f word input : Nat) (b : Body) : roleOf (b.fdStatus e f word input) = roleOf b := by
  unfold Body.fdStatus
  dsimp only
  split <;> (try split) <;> simp
@[simp] theorem roleOf_fdStatusFail (e : Env) (f : Nat) (nack : Bool) (b : Body) : roleOf (b.fdStatusFail e f nack) = roleOf b := by
  simp [Body.fdStatusFail, apply_ite roleOf]
@[simp] theorem roleOf_discover (e : Env) (f : Nat) (r : FpEnd (Nat × Nat × Nat × Nat)) (b : Body) :
    roleOf (b.discover e f r) = roleOf b := by
  unfold Body.discover
  dsimp only
  split <;> (try split) <;> simp [apply_ite roleOf]
@[simp] theorem roleOf_statusRead (e : Env) (f : Nat) (r : FpEnd (Nat × Nat)) (b : Body) : roleOf (b.statusRead e f r) = roleOf b := by
  unfold Body.statusRead
  dsimp only
  split <;> (try split) <;> simp
@[simp] theorem roleOf_telemetry (e : Env) (f v i t p : Nat) (b : Body) : roleOf (b.telemetry e f v i t p) = roleOf b := by
  simp [Body.telemetry]
@[simp] theorem roleOf_bbuRead (u : Nat) (r : Option Nat) (b : Body) : roleOf (b.bbuRead u r) = roleOf b := by
  unfold Body.bbuRead
  dsimp only
  split <;> (try split) <;> simp
@[simp] theorem roleOf_stepWrite (e : Env) (f : Nat) (r : FpEnd Unit) (b : Body) : roleOf (b.stepWrite e f r) = roleOf b := by
  unfold Body.stepWrite
  dsimp only
  split <;> (try split) <;> simp
@[simp] theorem roleOf_arbRetry (e : Env) (f : Nat) (k : FpKind) (b : Body) : roleOf (b.arbRetry e f k) = roleOf b := by
  unfold Body.arbRetry
  dsimp only
  split <;> (try split) <;> simp
@[simp] theorem roleOf_arbWrite (e : Env) (f : Nat) (back : FpEnd Nat) (again : FpEnd Unit) (b : Body) :
    roleOf (b.arbWrite e f back again) = roleOf b := by
  unfold Body.arbWrite
  dsimp only
  split <;> (try split) <;> (try split) <;> simp
@[simp] theorem roleOf_hang (e : Env) (r : HangEnd) (b : Body) : roleOf (b.hang e r) = roleOf b := by
  unfold Body.hang
  dsimp only
  split <;> (try split) <;> simp
@[simp] theorem roleOf_setTrim (f : Nat) (x : Int) (b : Body) : roleOf (b.setTrim f x) = roleOf b := by
  simp [Body.setTrim]
@[simp] theorem roleOf_balance (e : Env) (b : Body) : roleOf (b.balance e) = roleOf b := by
  simp [Body.balance, apply_ite roleOf]
@[simp] theorem roleOf_balOff (e : Env) (b : Body) : roleOf (b.balOff e) = roleOf b := by
  simp [Body.balOff]
@[simp] theorem roleOf_rxBluli (b : Body) : roleOf (b.rxBluli) = roleOf b := by
  simp [Body.rxBluli, apply_ite roleOf]
@[simp] theorem roleOf_endSoloHold (e : Env) (b : Body) : roleOf (b.endSoloHold e) = roleOf b := by
  simp [Body.endSoloHold, apply_ite roleOf]
@[simp] theorem roleOf_startEnds (e : Env) (b : Body) : roleOf (b.startEnds e) = roleOf b := by
  simp [Body.startEnds]
@[simp] theorem roleOf_emitPassed (b : Body) : roleOf (b.emitPassed) = roleOf b := by
  simp [Body.emitPassed, apply_ite roleOf]
@[simp] theorem roleOf_splitFrom (e : Env) (b : Body) : roleOf (b.splitFrom e) = roleOf b := by
  simp [Body.splitFrom]
@[simp] theorem roleOf_toHiZ (b : Body) : roleOf (b.toHiZ) = roleOf b := by
  simp [Body.toHiZ]
@[simp] theorem roleOf_compareStarch (e : Env) (b : Body) : roleOf (b.compareStarch e) = roleOf b := by
  simp [Body.compareStarch, apply_ite roleOf]
@[simp] theorem roleOf_dropChecked (b : Body) : roleOf (b.dropChecked) = roleOf b := by
  simp [Body.dropChecked, apply_ite roleOf]
@[simp] theorem roleOf_loadSnap (e : Env) (n : Nat) (x : Snap) (b : Body) : roleOf (b.loadSnap e n x) = roleOf b := by
  simp [Body.loadSnap]
@[simp] theorem roleOf_loadChan (e : Env) (n : Nat) (c : Chan) (latch : Bool) (b : Body) : roleOf (b.loadChan e n c latch) = roleOf b := by
  simp [Body.loadChan, apply_ite roleOf]
@[simp] theorem roleOf_partnerSn (ws : List Nat) (b : Body) : roleOf (b.partnerSn ws) = roleOf b := by
  simp [Body.partnerSn]
@[simp] theorem roleOf_mirrorKeys (e : Env) (kvs : List (Nat × Nat)) (b : Body) : roleOf (b.mirrorKeys e kvs) = roleOf b := by
  simp [Body.mirrorKeys, apply_ite roleOf]
@[simp] theorem roleOf_ownPresets (v : ImgVals) (b : Body) : roleOf (b.ownPresets v) = roleOf b := by
  simp [Body.ownPresets]
@[simp] theorem roleOf_mirrorImage (i : ImgSlot) (v : ImgVals) (b : Body) : roleOf (b.mirrorImage i v) = roleOf b := by
  simp [Body.mirrorImage]
@[simp] theorem roleOf_mirrorDisc (d : Disc) (b : Body) : roleOf (b.mirrorDisc d) = roleOf b := by
  simp [Body.mirrorDisc]
@[simp] theorem roleOf_hasOrigin (n : Nat) (b : Body) : roleOf (b.hasOrigin n) = roleOf b := by
  simp [Body.hasOrigin]
@[simp] theorem roleOf_mirrorAcc (n v : Nat) (b : Body) : roleOf (b.mirrorAcc n v) = roleOf b := by
  simp [Body.mirrorAcc]
@[simp] theorem roleOf_mirrorPatch (e : Env) (p : Option Patch) (b : Body) : roleOf (b.mirrorPatch e p) = roleOf b := by
  simp [Body.mirrorPatch, apply_ite roleOf]
@[simp] theorem roleOf_mirror (e : Env) (m : MirrorItem) (b : Body) : roleOf (b.mirror e m) = roleOf b := by
  unfold Body.mirror
  split <;> simp
@[simp] theorem roleOf_partnerTrip (e : Env) (n t : Nat) (b : Body) : roleOf (b.partnerTrip e n t) = roleOf b := by
  simp [Body.partnerTrip, apply_ite roleOf]
@[simp] theorem roleOf_seamPart (e : Env) (n ts : Nat) (x : Int) (b : Body) : roleOf (b.seamPart e n ts x) = roleOf b := by
  simp [Body.seamPart, apply_ite roleOf]
@[simp] theorem roleOf_loadDies (b : Body) : roleOf (b.loadDies) = roleOf b := by
  simp [Body.loadDies]
@[simp] theorem roleOf_repeatFrom (q : Nat) (b : Body) : roleOf (b.repeatFrom q) = roleOf b := by
  simp [Body.repeatFrom]
@[simp] theorem roleOf_sendSnaps (e : Env) (ns : List Nat) (b : Body) : roleOf (b.sendSnaps e ns) = roleOf b := by
  simp [Body.sendSnaps]
@[simp] theorem roleOf_seamMark (e : Env) (cause : Nat) (planned : Bool) (b : Body) : roleOf (b.seamMark e cause planned) = roleOf b := by
  unfold Body.seamMark
  extract_lets b1 boot b2 b3
  have h1 : roleOf b1 = roleOf b := by simp [b1]
  have h2 : roleOf b2 = roleOf b := h1
  simp [b3, h2]
@[simp] theorem roleOf_replay (e : Env) (l : Nat) (b : Body) : roleOf (b.replay e l) = roleOf b := by
  simp [Body.replay]
@[simp] theorem roleOf_takeGate (start n : Nat) (b : Body) : roleOf (b.takeGate start n) = roleOf b := by
  simp [Body.takeGate]
@[simp] theorem roleOf_ticks (e : Env) (k : Nat) (b : Body) : roleOf (Body.ticks e k b) = roleOf b := by
  induction k generalizing b with
  | zero => rfl
  | succ k ih =>
    unfold Body.ticks
    simp [ih]
@[simp] theorem roleOf_catchUp (e : Env) (b : Body) : roleOf (b.catchUp e) = roleOf b := by
  simp [Body.catchUp, apply_ite roleOf]
@[simp] theorem roleOf_takeGates (e : Env) (planned : Bool) (b : Body) : roleOf (b.takeGates e planned) = roleOf b := by
  unfold Body.takeGates
  extract_lets start b1 freed b2 b3 b4 b5 b6 b7 tripped b8 b9 b10 b11
  have h1 : roleOf b1 = roleOf b := by unfold b1; rw [roleOf_loadLadders, roleOf_lowPower]
  have h2 : roleOf b2 = roleOf b := by unfold b2; rw [roleOf_forEach _ _ _ (fun _ _ => roleOf_onCh ..), h1]
  have h3 : roleOf b3 = roleOf b := by unfold b3; rw [roleOf_forEach _ _ _ (fun _ _ => roleOf_advance ..), h2]
  have h4 : roleOf b4 = roleOf b := by unfold b4; rw [roleOf_onTwin, roleOf_forEach _ _ _ (fun _ _ => roleOf_takeGate ..), h3]
  have h5 : roleOf b5 = roleOf b := by unfold b5; rw [roleOf_forEach _ _ _ (fun _ _ => roleOf_onEng ..), h4]
  have h6 : roleOf b6 = roleOf b := by unfold b6; rw [roleOf_forEach _ _ _ (fun _ _ => roleOf_onCh ..), h5]
  have h7 : roleOf b7 = roleOf b := by unfold b7; rw [roleOf_forEach _ _ _ (fun _ _ => roleOf_replay ..), h6]
  have h8 : roleOf b8 = roleOf b := by unfold b8; rw [roleOf_forEach _ _ _ (fun _ _ => roleOf_deliver ..), h7]
  have h9 : roleOf b9 = roleOf b := by unfold b9; rw [roleOf_forEach _ _ _ (fun _ _ => roleOf_deliver ..), h8]
  have h10 : roleOf b10 = roleOf b := by unfold b10; rw [roleOf_forEach _ _ _ (fun _ _ => roleOf_deliver ..), h9]
  have h11 : roleOf b11 = roleOf b := by unfold b11; rw [roleOf_markBlk, roleOf_catchUp, roleOf_onTmr, h10]
  rw [roleOf_onRcd, h11]
@[simp] theorem roleOf_endHandover (e : Env) (b : Body) : roleOf (b.endHandover e) = roleOf b := by
  simp [Body.endHandover]
@[simp] theorem roleOf_seamRecord (e : Env) (m : Seam) (b : Body) : roleOf (b.seamRecord e m) = roleOf b := by
  simp [Body.seamRecord]
@[simp] theorem roleOf_noPartner (b : Body) : roleOf (b.noPartner) = roleOf b := by
  simp [Body.noPartner]
@[simp] theorem roleOf_beat (e : Env) (b : Body) : roleOf (b.beat e) = roleOf b := by
  simp [Body.beat, apply_ite roleOf]
@[simp] theorem roleOf_seamStart (e : Env) (cause : Nat) (b : Body) : roleOf (b.seamStart e cause) = roleOf b := by
  simp [Body.seamStart, apply_ite roleOf]
@[simp] theorem roleOf_seamRequest (e : Env) (cause : Nat) (b : Body) : roleOf (b.seamRequest e cause) = roleOf b := by
  simp [Body.seamRequest, apply_ite roleOf]
@[simp] theorem roleOf_seamRefused (e : Env) (cause code : Nat) (b : Body) : roleOf (b.seamRefused e cause code) = roleOf b := by
  simp [Body.seamRefused, apply_ite roleOf]
@[simp] theorem roleOf_seamAccepted (e : Env) (tp ts : Nat) (b : Body) : roleOf (b.seamAccepted e tp ts) = roleOf b := by
  unfold Body.seamAccepted
  dsimp only
  split <;> (try split) <;> simp
@[simp] theorem roleOf_seamAsked (e : Env) (cause : Nat) (b : Body) : roleOf (b.seamAsked e cause) = roleOf b := by
  simp [Body.seamAsked, apply_ite roleOf]
@[simp] theorem roleOf_pairPtr (p w : Nat) (valid : Bool) (b : Body) : roleOf (b.pairPtr p w valid) = roleOf b := by
  simp [Body.pairPtr]
@[simp] theorem roleOf_leaveGates (e : Env) (b : Body) : roleOf (b.leaveGates e) = roleOf b := by
  simp [Body.leaveGates]
@[simp] theorem roleOf_handover (e : Env) (b : Body) : roleOf (b.handover e) = roleOf b := by
  simp [Body.handover, apply_ite roleOf]
@[simp] theorem roleOf_seatContact (e : Env) (i : Nat) (made : Bool) (b : Body) : roleOf (b.seatContact e i made) = roleOf b := by
  simp [Body.seatContact]
@[simp] theorem roleOf_feField (k : Nat) (unlocked : Bool) (word : Nat) (h : Fld × Nat × Nat) (b : Body) :
    roleOf (b.feField k unlocked word h) = roleOf b := by
  unfold Body.feField
  dsimp only
  split <;> (try split) <;> simp [apply_ite roleOf]
@[simp] theorem roleOf_feAct (e : Env) (k : Nat) (word : Nat) (h : Fld × Nat × Nat) (b : Body) :
    roleOf (b.feAct e k word h) = roleOf b := by
  unfold Body.feAct
  split
  · rfl
  · split <;> simp [apply_ite roleOf]
@[simp] theorem roleOf_feWrite (e : Env) (k a word : Nat) (unlocked : Bool) (b : Body) :
    roleOf (b.feWrite e k a word unlocked) = roleOf b := by
  simp [Body.feWrite]
@[simp] theorem roleOf_filterChange (k key : Nat) (b : Body) : roleOf (b.filterChange k key) = roleOf b := by
  unfold Body.filterChange
  dsimp only
  split <;> simp
@[simp] theorem roleOf_applyDown (e : Env) (k : Nat) (m : DownMsg) (b : Body) : roleOf (b.applyDown e k m) = roleOf b := by
  unfold Body.applyDown
  split <;> simp
@[simp] theorem roleOf_drain (e : Env) (k : Nat) (b : Body) : roleOf (b.drain e k) = roleOf b := by
  simp [Body.drain]
@[simp] theorem roleOf_enterKeep (k : Nat) (till : Option Nat) (b : Body) : roleOf (b.enterKeep k till) = roleOf b := by
  simp [Body.enterKeep]
@[simp] theorem roleOf_dieStops (k : Nat) (b : Body) : roleOf (b.dieStops k) = roleOf b := by
  simp [Body.dieStops]
@[simp] theorem roleOf_dieFalls (e : Env) (k : Nat) (again : Bool) (b : Body) : roleOf (b.dieFalls e k again) = roleOf b := by
  simp [Body.dieFalls]
@[simp] theorem roleOf_dieVoid (e : Env) (k : Nat) (fresh : Bool) (b : Body) : roleOf (b.dieVoid e k fresh) = roleOf b := by
  simp [Body.dieVoid, apply_ite roleOf]
@[simp] theorem roleOf_dieReset (e : Env) (k : Nat) (again : Bool) (b : Body) : roleOf (b.dieReset e k again) = roleOf b := by
  unfold Body.dieReset
  extract_lets fresh bv b1 b2
  have hv : roleOf bv = roleOf b := roleOf_wr ..
  have h1 : roleOf b1 = roleOf b := by
    unfold b1
    split
    · exact hv
    · rfl
  have h2 : roleOf b2 = roleOf b := (roleOf_dieFalls ..).trans h1
  simp [apply_ite roleOf, h2]
@[simp] theorem roleOf_dieFound (e : Env) (k : Nat) (b : Body) : roleOf (b.dieFound e k) = roleOf b := by
  simp [Body.dieFound, apply_ite roleOf]
@[simp] theorem roleOf_rejoinPoles (e : Env) (n : Nat) (b : Body) : roleOf (b.rejoinPoles e n) = roleOf b := by
  simp [Body.rejoinPoles]
@[simp] theorem roleOf_rejoinGate (e : Env) (n : Nat) (b : Body) : roleOf (b.rejoinGate e n) = roleOf b := by
  simp [Body.rejoinGate, apply_ite roleOf]
@[simp] theorem roleOf_rejoinPath (e : Env) (n : Nat) (b : Body) : roleOf (b.rejoinPath e n) = roleOf b := by
  simp [Body.rejoinPath, apply_ite roleOf]
@[simp] theorem roleOf_rejoinSeat (e : Env) (n : Nat) (b : Body) : roleOf (b.rejoinSeat e n) = roleOf b := by
  simp [Body.rejoinSeat, apply_ite roleOf]
@[simp] theorem roleOf_deliverUp (e : Env) (k : Nat) (b : Body) : roleOf (b.deliverUp e k) = roleOf b := by
  unfold Body.deliverUp
  refine (part_foldl roleOf _ (fun b m => ?_) _ _).trans (by simp)
  cases m <;> simp
@[simp] theorem roleOf_rejoinTrip (e : Env) (n : Nat) (b : Body) : roleOf (b.rejoinTrip e n) = roleOf b := by
  simp [Body.rejoinTrip, apply_ite roleOf]
theorem roleOf_atDie (e : Env) (k a word : Nat) {f : Body → Body} (hf : ∀ b, roleOf (f b) = roleOf b) (b : Body) :
    roleOf (b.atDie e k a word f) = roleOf b := by
  simp [Body.atDie, apply_ite roleOf, hf]
@[simp] theorem roleOf_dieRejoin (e : Env) (k : Nat) (b : Body) : roleOf (b.dieRejoin e k) = roleOf b := by
  unfold Body.dieRejoin
  dsimp only
  split <;> (try split) <;> (try split) <;> simp
@[simp] theorem roleOf_dieStuck (e : Env) (k : Nat) (b : Body) : roleOf (b.dieStuck e k) = roleOf b := by
  simp [Body.dieStuck, apply_ite roleOf]
@[simp] theorem roleOf_endKeep (k : Nat) (b : Body) : roleOf (b.endKeep k) = roleOf b := by
  simp [Body.endKeep]
@[simp] theorem roleOf_takeUp (k : Nat) (p : UpMsg → Bool) (b : Body) : roleOf (b.takeUp k p).2 = roleOf b := by
  unfold Body.takeUp
  split
  · split <;> simp
  · rfl
@[simp] theorem roleOf_takeReply (k : Nat) (p : Nat → Bool) (b : Body) : roleOf (b.takeReply k p) = roleOf b := by
  unfold Body.takeReply
  dsimp only
  split <;> (try split) <;> simp
@[simp] theorem roleOf_putOwn (kvs : List (Nat × Nat)) (b : Body) : roleOf (b.putOwn kvs) = roleOf b := by
  simp [Body.putOwn, apply_ite roleOf]
@[simp] theorem roleOf_derive (n : Nat) (b : Body) : roleOf (b.derive n) = roleOf b := by
  simp [Body.derive]
@[simp] theorem roleOf_imgUnused (e : Env) (v : ImgVals) (n : Nat) (b : Body) : roleOf (b.imgUnused e v n) = roleOf b := by
  simp [Body.imgUnused, apply_ite roleOf]
@[simp] theorem roleOf_askTrend (x : Nat) (b : Body) : roleOf (b.askTrend x) = roleOf b := by
  simp [Body.askTrend]
@[simp] theorem roleOf_imgFields (e : Env) (v : ImgVals) (b : Body) : roleOf (b.imgFields e v) = roleOf b := by
  simp [Body.imgFields, apply_ite roleOf]
@[simp] theorem roleOf_startPath (e : Env) (n : Nat) (b : Body) : roleOf (b.startPath e n) = roleOf b := by
  simp [Body.startPath, apply_ite roleOf]
@[simp] theorem roleOf_imgEvents (e : Env) (v : ImgVals) (b : Body) : roleOf (b.imgEvents e v) = roleOf b := by
  simp [Body.imgEvents, apply_ite roleOf]
@[simp] theorem roleOf_imageRec (time kind : Nat) (s : ImgSlot) (b : Body) : roleOf (b.imageRec time kind s) = roleOf b := by
  simp [Body.imageRec, apply_ite roleOf]
@[simp] theorem roleOf_showImage (s : ImgSlot) (b : Body) : roleOf (b.showImage s) = roleOf b := by
  simp [Body.showImage]
@[simp] theorem roleOf_applyImage (e : Env) (s : ImgSlot) (b : Body) : roleOf (b.applyImage e s) = roleOf b := by
  simp [Body.applyImage]
@[simp] theorem roleOf_keepOld (ks : List Nat) (b : Body) : roleOf (b.keepOld ks) = roleOf b := by
  simp [Body.keepOld]
@[simp] theorem roleOf_setChan (e : Env) (host : Bool) (n : Nat) (kvs : List (Nat × Nat)) (b : Body) :
    roleOf (b.setChan e host n kvs) = roleOf b := by
  simp [Body.setChan, apply_ite roleOf]
@[simp] theorem roleOf_fpHook (e : Env) (f : Fld) (i old : Nat) (b : Body) : roleOf (b.fpHook e f i old) = roleOf b := by
  unfold Body.fpHook
  split <;> simp [apply_ite roleOf]
@[simp] theorem roleOf_setHub (e : Env) (kv : Nat × Nat) (b : Body) : roleOf (b.setHub e kv) = roleOf b := by
  simp [Body.setHub, apply_ite roleOf]
@[simp] theorem roleOf_config (e : Env) (host : Bool) (kvs : List (Nat × Nat)) (b : Body) : roleOf (b.config e host kvs) = roleOf b := by
  simp [Body.config, apply_ite roleOf]
theorem roleOf_atBoundary (e : Env) {f : Body → Body} (hf : ∀ b, roleOf (f b) = roleOf b) (b : Body) :
    roleOf (b.atBoundary e f) = roleOf b := by
  simp [Body.atBoundary, apply_ite roleOf, hf]
@[simp] theorem roleOf_endBlock (e : Env) (b : Body) : roleOf (b.endBlock e) = roleOf b := by
  simp [Body.endBlock, apply_ite roleOf]
@[simp] theorem roleOf_onBoot (f : Boot → Boot) (b : Body) : roleOf (b.onBoot f) = roleOf b := onBoot_role ..
@[simp] theorem roleOf_imgStart (c : Nat) (b : Body) : roleOf (b.imgStart c) = roleOf b := by
  simp [Body.imgStart, apply_ite roleOf]
@[simp] theorem roleOf_imgEnd (ok : Bool) (b : Body) : roleOf (b.imgEnd ok) = roleOf b := by
  simp [Body.imgEnd, apply_ite roleOf]
theorem roleOf_imgRun (c : Nat) {f : Body → Body} (hf : ∀ b, roleOf (f b) = roleOf b) (b : Body) : roleOf (b.imgRun c f) = roleOf b := by
  simp [Body.imgRun, apply_ite roleOf, hf]
@[simp] theorem roleOf_asImaged (e : Env) (b : Body) (kvs : List (Nat × Nat)) (v : ImgVals) : roleOf (b.asImaged e kvs v) = roleOf b := by
  simp [Body.asImaged]
@[simp] theorem roleOf_patchTake (e : Env) (v : ImgVals) (ms ks : List Nat) (b : Body) : roleOf (b.patchTake e v ms ks) = roleOf b := by
  simp [Body.patchTake, apply_ite roleOf]
@[simp] theorem roleOf_patchShow (b : Body) : roleOf (b.patchShow) = roleOf b := by
  unfold Body.patchShow
  dsimp only
  split <;> (try split) <;> simp [apply_ite roleOf]
@[simp] theorem roleOf_patchDrop (l : Nat) (b : Body) : roleOf (b.patchDrop l) = roleOf b := by
  simp [Body.patchDrop]
@[simp] theorem roleOf_patchChan (e : Env) (l : Nat) (b : Body) : roleOf (b.patchChan e l) = roleOf b := by
  unfold Body.patchChan
  dsimp only
  split <;> (try split) <;> (try split) <;> simp [apply_ite roleOf]
@[simp] theorem roleOf_patchFirst (e : Env) (l : Nat) (b : Body) : roleOf (b.patchFirst e l) = roleOf b := by
  simp [Body.patchFirst, apply_ite roleOf]
@[simp] theorem roleOf_patchStart (e : Env) (img : ImgSlot) (oldSeq : Nat) (reload : Bool) (b : Body) :
    roleOf (b.patchStart e img oldSeq reload) = roleOf b := by
  simp [Body.patchStart]
@[simp] theorem roleOf_patchMeter (e : Env) (p : Patch) (b : Body) : roleOf (b.patchMeter e p) = roleOf b := by
  unfold Body.patchMeter
  extract_lets b1 b2 b3
  have h2 : roleOf b2 = roleOf b := (roleOf_atBoundary _ (fun _ => roleOf_config ..) _).trans (roleOf_endBlock ..)
  simp [b3, apply_ite roleOf, h2]
@[simp] theorem roleOf_patchRefuse (e : Env) (code seq : Nat) (b : Body) : roleOf (b.patchRefuse e code seq) = roleOf b := by
  simp [Body.patchRefuse]
@[simp] theorem roleOf_slotReject (e : Env) (slot code : Nat) (b : Body) : roleOf (b.slotReject e slot code) = roleOf b := by
  simp [Body.slotReject]
@[simp] theorem roleOf_patchCheck (e : Env) (bytes : List Nat) (b : Body) : roleOf (b.patchCheck e bytes) = roleOf b := by
  unfold Body.patchCheck
  extract_lets seq bar b1 b2
  have h1 : roleOf b1 = roleOf b := by simp [b1]
  have h2 : roleOf b2 = roleOf b := by simp [b2, h1]
  split
  · simp
  · split
    · simp [h1]
    · split
      · simp [h1]
      · split
        · simp [h2]
        · split
          · simp [h2]
          · simp [apply_ite roleOf, h2]
@[simp] theorem roleOf_patchAccept (e : Env) (img : ImgSlot) (b : Body) : roleOf (b.patchAccept e img) = roleOf b := by
  simp [Body.patchAccept]
@[simp] theorem roleOf_copied (e : Env) (ok : Bool) (b : Body) : roleOf (b.copied e ok) = roleOf b := by
  unfold Body.copied
  dsimp only
  split <;> (try split) <;> simp
@[simp] theorem roleOf_loadClasses (m : Sparse) (b : Body) : roleOf (b.loadClasses m) = roleOf b := loadClasses_role ..
@[simp] theorem roleOf_fuseEnd (r : Nat) (b : Body) : roleOf (b.fuseEnd r) = roleOf b := by
  simp [Body.fuseEnd]
@[simp] theorem roleOf_burned (e : Env) (arg0 : Nat) (b : Body) : roleOf (b.burned e arg0) = roleOf b := by
  simp [Body.burned]
@[simp] theorem roleOf_someBits (map : Sparse) (b : Body) : roleOf (b.someBits map).2 = roleOf b := by
  unfold Body.someBits
  have hfold : ∀ (l : List Nat) (p : Sparse × Body), roleOf (l.foldl (fun p w =>
      let r := p.2.free
      (sparseSet 0 p.1 w (andBits (sparseGet 0 map w) r.1), r.2)) p).2 = roleOf p.2 := by
    intro l
    induction l with
    | nil => exact fun _ => rfl
    | cons i l ih => intro a; rw [List.foldl_cons, ih]; exact roleOf_free ..
  exact hfold _ _
@[simp] theorem roleOf_takeBank (k : Nat) (b : Body) : roleOf (b.takeBank k) = roleOf b := takeBank_role ..
@[simp] theorem roleOf_selectBank (e : Env) (b : Body) : roleOf (b.selectBank e) = roleOf b := selectBank_role ..

@[simp] theorem roleOf_startReads (strap : Nat) (ambig differs : Bool) (e : Env) (b : Body) :
    roleOf (b.startReads strap ambig differs e) = roleOf b := startReads_role ..
@[simp] theorem roleOf_noImage (e : Env) (cause : Nat) (b : Body) : roleOf (b.noImage e cause) = roleOf b := by
  simp [Body.noImage]
@[simp] theorem roleOf_discovered (e : Env) (f : Option FlashInfo) (b : Body) : roleOf (b.discovered e f) = roleOf b := by
  unfold Body.discovered
  dsimp only
  split <;> (try split) <;> simp
@[simp] theorem roleOf_slotsRead (e : Env) (b : Body) : roleOf (b.slotsRead e) = roleOf b := by
  unfold Body.slotsRead
  split <;> simp [apply_ite roleOf]
@[simp] theorem roleOf_slotRead (e : Env) (slot : Nat) (bytes : List Nat) (b : Body) : roleOf (b.slotRead e slot bytes) = roleOf b := by
  unfold Body.slotRead
  dsimp only
  split <;> (try split) <;> simp [apply_ite roleOf]
@[simp] theorem roleOf_startPoles (n : Nat) (b : Body) : roleOf (b.startPoles n) = roleOf b := by
  simp [Body.startPoles, apply_ite roleOf]
@[simp] theorem roleOf_startImage (e : Env) (slot : Nat) (img : ImgSlot) (b : Body) : roleOf (b.startImage e slot img) = roleOf b := by
  unfold Body.startImage
  dsimp only
  split <;> (try split) <;> simp
@[simp] theorem roleOf_soloAccept (e : Env) (b : Body) : roleOf (b.soloAccept e) = roleOf b := by
  simp [Body.soloAccept, apply_ite roleOf]
@[simp] theorem roleOf_expert (e : Env) (w : Nat) (b : Body) : roleOf (b.expert e w) = roleOf b := by
  simp [Body.expert, apply_ite roleOf]
@[simp] theorem roleOf_lockAll (b : Body) : roleOf (b.lockAll) = roleOf b := by
  simp [Body.lockAll]
@[simp] theorem roleOf_clockFails (e : Env) (c : ClockId) (b : Body) : roleOf (b.clockFails e c) = roleOf b := by
  unfold Body.clockFails
  dsimp only
  split <;> simp
@[simp] theorem roleOf_hubReset (e : Env) (b : Body) : roleOf (b.hubReset e) = roleOf b := by
  unfold Body.hubReset
  split
  · rfl
  · extract_lets b1 b2
    have h1 : roleOf b1 = roleOf b := by simp [b1, apply_ite roleOf]
    have h2 : roleOf b2 = roleOf b := by
      unfold b2
      rw [roleOf_foldl _ _ _ (fun _ _ => roleOf_wr ..), h1]
    clear_value b2
    exact h2
@[simp] theorem roleOf_foldDie (k : Nat) (b : Body) : roleOf (b.foldDie k) = roleOf b := by
  simp [Body.foldDie, apply_ite roleOf]
@[simp] theorem roleOf_rebuild (e : Env) (b : Body) : roleOf (b.rebuild e) = roleOf b := by
  unfold Body.rebuild
  extract_lets b1 c t lacks b2 late b3 b4
  have h1 : roleOf b1 = roleOf b := by
    unfold b1
    rw [roleOf_forEach _ _ _ (fun _ _ => roleOf_foldDie ..)]
  have h4 : roleOf b4 = roleOf b := by
    unfold b4
    rw [roleOf_settleBlocks]
    unfold b3
    rw [roleOf_onRcd, roleOf_onMtr]
    unfold b2
    rw [roleOf_markBlk, roleOf_loadAcc, h1]
  split
  · simp [h4]
  · rw [roleOf_forEach _ _ _ (fun _ _ => by simp), h4]
@[simp] theorem roleOf_reloadImage (e : Env) (bytes : List Nat) (b : Body) : roleOf (b.reloadImage e bytes) = roleOf b := by
  unfold Body.reloadImage
  dsimp only
  split <;> (try split) <;> simp
@[simp] theorem roleOf_treeReset (b : Body) : roleOf (b.treeReset) = roleOf b := by
  rfl
@[simp] theorem roleOf_dropCommands (e : Env) (b : Body) : roleOf (b.dropCommands e) = roleOf b := by
  simp [Body.dropCommands, apply_ite roleOf]
@[simp] theorem roleOf_onSess (f : Sess → Sess) (b : Body) : roleOf (b.onSess f) = roleOf b := onSess_role ..
@[simp] theorem roleOf_calRefuse (code : Nat) (b : Body) : roleOf (b.calRefuse code) = roleOf b := by
  unfold Body.calRefuse
  dsimp only
  split <;> simp
@[simp] theorem roleOf_calBegin (e : Env) (mode : Nat) (b : Body) : roleOf (b.calBegin e mode) = roleOf b := by
  simp [Body.calBegin]
@[simp] theorem roleOf_calStart (e : Env) (w : Nat) (b : Body) : roleOf (b.calStart e w) = roleOf b := by
  unfold Body.calStart
  dsimp only
  split <;> (try split) <;> simp [apply_ite roleOf]
@[simp] theorem roleOf_calAbort (e : Env) (b : Body) : roleOf (b.calAbort e) = roleOf b := by
  unfold Body.calAbort
  split <;> simp [apply_ite roleOf]
@[simp] theorem roleOf_calCheck (e : Env) (s : Sess) (b : Body) : roleOf (b.calCheck e s) = roleOf b := by
  unfold Body.calCheck
  split
  · simp
  · split <;> simp
@[simp] theorem roleOf_phaseEnd (e : Env) (s : Sess) (meas : List (Nat × Nat)) (b : Body) : roleOf (b.phaseEnd e s meas) = roleOf b := by
  unfold Body.phaseEnd
  dsimp only
  split <;> (try split) <;> simp
@[simp] theorem roleOf_slotWaits (e : Env) (s : Sess) (n : Nat) (b : Body) : roleOf (b.slotWaits e s n) = roleOf b := by
  unfold Body.slotWaits
  split <;> simp [apply_ite roleOf]
@[simp] theorem roleOf_calSlot (e : Env) (s : Sess) (n k : Nat) (m : SlotMeas) (b : Body) : roleOf (b.calSlot e s n k m) = roleOf b := by
  unfold Body.calSlot
  extract_lets st who b1 b2 b3
  have h3 : roleOf b3 = roleOf b := by simp [b3, b2, b1, apply_ite roleOf]
  by_cases h : (s.together || s.phase ≠ (if k = 3 then 3 else 4) || (if k = 3 then 8 else 128) ≤ n ||
      (if k = 3 then 1 else s.slots) ≤ s.done k n) = true
  · rw [if_pos h]
  · rw [if_neg h]
    split
    · simp
    · split
      · split <;> simp
      · split <;> simp [h3]
@[simp] theorem roleOf_calRec (time kind : Nat) (head : Nat → Nat) (af : Nat → Nat) (b : Body) :
    roleOf (b.calRec time kind head af) = roleOf b := by
  simp [Body.calRec]
@[simp] theorem roleOf_calDone (b : Body) : roleOf (b.calDone) = roleOf b := by
  simp [Body.calDone]
@[simp] theorem roleOf_verified (e : Env) (s : Sess) (b : Body) : roleOf (b.verified e s) = roleOf b := by
  simp [Body.verified]
@[simp] theorem roleOf_calCommit (e : Env) (s : Sess) (t1 t2 : StoreTry) (b : Body) : roleOf (b.calCommit e s t1 t2) = roleOf b := by
  unfold Body.calCommit
  dsimp only
  split <;> (try split) <;> simp
@[simp] theorem roleOf_calStore (e : Env) (s : Sess) (t1 t2 : StoreTry) (b : Body) : roleOf (b.calStore e s t1 t2) = roleOf b := by
  unfold Body.calStore
  split <;> simp [apply_ite roleOf]
@[simp] theorem roleOf_calApply (e : Env) (s : Sess) (b : Body) : roleOf (b.calApply e s) = roleOf b := by
  unfold Body.calApply
  extract_lets b1 m b2
  have h1 : roleOf b1 = roleOf b := by
    unfold b1
    rw [roleOf_markBlk, roleOf_atBoundary _ (fun _ => roleOf_takeBank ..), roleOf_endBlock]
  simp [b2, apply_ite roleOf, h1]
@[simp] theorem roleOf_benchClear (b : Body) : roleOf (b.benchClear) = roleOf b := by
  simp [Body.benchClear]
@[simp] theorem roleOf_scansEnd (e : Env) (k : Nat) (b : Body) : roleOf (b.scansEnd e k) = roleOf b := by
  unfold Body.scansEnd
  dsimp only
  split <;> simp
@[simp] theorem roleOf_dozeRequest (e : Env) (b : Body) : roleOf (b.dozeRequest e) = roleOf b := by
  simp [Body.dozeRequest, apply_ite roleOf]
@[simp] theorem roleOf_dozeBegin (e : Env) (b : Body) : roleOf (b.dozeBegin e) = roleOf b := by
  simp [Body.dozeBegin]
@[simp] theorem roleOf_lateLeaf (l : Leaf) (b : Body) : roleOf (b.lateLeaf l) = roleOf b := by
  simp [Body.lateLeaf, apply_ite roleOf]
@[simp] theorem roleOf_wakeCh (e : Env) (n : Nat) (b : Body) : roleOf (b.wakeCh e n) = roleOf b := by
  simp [Body.wakeCh]
@[simp] theorem roleOf_wakeDie (e : Env) (k : Nat) (b : Body) : roleOf (b.wakeDie e k) = roleOf b := by
  simp [Body.wakeDie]
@[simp] theorem roleOf_wake (e : Env) (b : Body) : roleOf (b.wake e) = roleOf b := by
  unfold Body.wake
  extract_lets ls b1 b2 b3 b4 bm bud
  have h1 : roleOf b1 = roleOf b := by
    unfold b1
    rw [roleOf_foldl _ _ _ (fun _ _ => roleOf_lateLeaf ..)]
    rfl
  have h2 : roleOf b2 = roleOf b := by
    unfold b2
    rw [roleOf_forEach _ _ _ (fun _ _ => roleOf_wakeDie ..), h1]
  have h4 : roleOf b4 = roleOf b := by simp [b4, b3, h2]
  have hm : roleOf bm = roleOf b := by simp [bm, h4]
  rw [roleOf_fdRetargetAll]
  clear_value bm
  exact hm
@[simp] theorem roleOf_stir (e : Env) (b : Body) : roleOf (b.stir e) = roleOf b := by
  simp [Body.stir, apply_ite roleOf]
@[simp] theorem roleOf_dozeScan (e : Env) (k : Nat) (raws : List Int) (b : Body) : roleOf (b.dozeScan e k raws) = roleOf b := by
  unfold Body.dozeScan
  dsimp only
  split <;> simp
@[simp] theorem roleOf_seatPin (e : Env) (n : Nat) (seat : Bool) (b : Body) : roleOf (b.seatPin e n seat) = roleOf b := by
  simp [Body.seatPin, apply_ite roleOf]
@[simp] theorem roleOf_readField (e : Env) (f : Fld) (i : Nat) (b : Body) : roleOf (b.readField e f i).2 = roleOf b := by
  unfold Body.readField
  split
  · exact roleOf_free ..
  · split <;> rfl
@[simp] theorem roleOf_readHits (e : Env) (hs : List (Fld × Nat × Nat)) (b : Body) : roleOf (b.readHits e hs).2 = roleOf b := by
  unfold Body.readHits
  have hfold : ∀ (l : List (Fld × Nat × Nat)) (p : Nat × Body), roleOf (l.foldl (fun p h =>
      if h.1.row.acc = .wo then p
      else
        let r := p.2.readField e h.1 h.2.1
        (orBits p.1 (h.1.part h.2.2 r.1), r.2)) p).2 = roleOf p.2 := by
    intro l
    induction l with
    | nil => exact fun _ => rfl
    | cons h l ih =>
      intro p
      rw [List.foldl_cons, ih]
      dsimp only
      split
      · rfl
      · exact roleOf_readField ..
  exact hfold _ _
@[simp] theorem roleOf_clearRc (hs : List (Fld × Nat × Nat)) (b : Body) : roleOf (b.clearRc hs) = roleOf b := by
  simp [Body.clearRc, apply_ite roleOf]
@[simp] theorem roleOf_feSample (e : Env) (a : Nat) (b : Body) : roleOf (b.feSample e a).2 = roleOf b := by
  unfold Body.feSample
  dsimp only
  split <;> simp
@[simp] theorem roleOf_feRead (e : Env) (a : Nat) (b : Body) : roleOf (b.feRead e a).2 = roleOf b := by
  unfold Body.feRead
  dsimp only
  split <;> simp
@[simp] theorem roleOf_sync (e : Env) (b : Body) : roleOf (b.sync e).2 = roleOf b := by
  simp [Body.sync]
@[simp] theorem roleOf_applyRanges (e : Env) (k : Nat) (b : Body) : roleOf (b.applyRanges e k) = roleOf b := by
  unfold Body.applyRanges
  dsimp only
  split <;> simp [apply_ite roleOf]
@[simp] theorem roleOf_writeFields (e : Env) (hs : List (Fld × Nat × Nat)) (word : Nat) (b : Body) :
    roleOf (b.writeFields e hs word) = roleOf b := by
  unfold Body.writeFields
  dsimp only
  split <;> (try split) <;> simp
@[simp] theorem roleOf_writeClears (hs : List (Fld × Nat × Nat)) (word : Nat) (b : Body) : roleOf (b.writeClears hs word) = roleOf b := by
  simp [Body.writeClears, apply_ite roleOf]
@[simp] theorem roleOf_writeEn (e : Env) (n v : Nat) (b : Body) : roleOf (b.writeEn e n v) = roleOf b := by
  unfold Body.writeEn
  dsimp only
  split <;> (try split) <;> simp
@[simp] theorem roleOf_benchAll (e : Env) (zero : Bool) (b : Body) : roleOf (b.benchAll e zero) = roleOf b := by
  simp [Body.benchAll]
@[simp] theorem roleOf_actMirrored (e : Env) (f : Fld) (i word : Nat) (b : Body) : roleOf (b.actMirrored e f i word) = roleOf b := by
  unfold Body.actMirrored
  split <;> simp
@[simp] theorem roleOf_readWord (e : Env) (dirty : Bool) (addr : Nat) (b : Body) : roleOf (b.readWord e dirty addr).2 = roleOf b := by
  unfold Body.readWord
  extract_lets a hs r
  split
  · rfl
  · split
    · simp
    · split
      · simp
      · split
        · rfl
        · simp [r]
@[simp] theorem roleOf_portFlag (p : Nat) (f : Fld) (b : Body) : roleOf (b.portFlag p f) = roleOf b := by
  unfold Body.portFlag
  dsimp only
  split <;> simp
@[simp] theorem roleOf_setPtr (p : Nat) (pair : Bool) (a : Nat) (b : Body) : roleOf (b.setPtr p pair a) = roleOf b := by
  simp [Body.setPtr]
@[simp] theorem roleOf_portReject (p : Nat) (f : Fld) (b : Body) : roleOf (b.portReject p f) = roleOf b := by
  simp [Body.portReject, apply_ite roleOf]
@[simp] theorem roleOf_portCount (p : Nat) (b : Body) : roleOf (b.portCount p) = roleOf b := by
  simp [Body.portCount]
@[simp] theorem roleOf_flagUnmapped (p : Nat) (as : List Nat) (b : Body) : roleOf (b.flagUnmapped p as) = roleOf b := by
  simp [Body.flagUnmapped, apply_ite roleOf]
@[simp] theorem roleOf_loadPtr (x : Xfer) (v : Nat) (b : Body) : roleOf (b.loadPtr x v) = roleOf b := by
  simp [Body.loadPtr]
@[simp] theorem roleOf_loseRc (p a : Nat) (b : Body) : roleOf (b.loseRc p a) = roleOf b := by
  simp [Body.loseRc, apply_ite roleOf]
@[simp] theorem roleOf_movePtr (p : Nat) (pair : Bool) (n : Nat) (b : Body) : roleOf (b.movePtr p pair n) = roleOf b := by
  simp [Body.movePtr]
@[simp] theorem roleOf_pull (e : Env) (p : Nat) (collided : Bool) (b : Body) : roleOf (b.pull e p collided) = roleOf b := by
  simp [Body.pull, apply_ite roleOf]
end Sys2Proof.Proofs
end

section
/-!
SUPPORT. The role through every command but those that change it (R450).
-/

namespace Sys2Proof.Proofs

open Sys2Proof Sys2Proof.Machine Sys2Proof.Safety Sys2Proof.Laws

/-- A body effect leaves the role. -/
def EffectKeepsRole (f : Env → Body → Body) : Prop := ∀ e b, roleOf (f e b) = roleOf b

@[simp] theorem effectKeepsRole_iff (f : Env → Body → Body) : EffectKeepsRole f ↔ ∀ e b, roleOf (f e b) = roleOf b := .rfl

/-- The role of the module. -/
def moduleRole (s : State) : Role := roleOf s.body

@[simp] theorem moduleRole_goTo (s : State) (t : Nat) : moduleRole (s.goTo t) = moduleRole s := by
  rw [moduleRole, goTo_body, moduleRole]

@[simp] theorem moduleRole_onBody (f : Env → Body → Body) (s : State) (hf : EffectKeepsRole f) : moduleRole (s.onBody f) = moduleRole s := by
  rw [moduleRole, onBody_body, roleOf_settle, hf, moduleRole]

@[simp] theorem moduleRole_onHub (f : Env → Body → Body) (s : State) (hf : EffectKeepsRole f) : moduleRole (s.onHub f) = moduleRole s :=
  moduleRole_onBody _ _ fun e b => by
    split
    · rfl
    · exact hf e b

@[simp] theorem moduleRole_onFrame (f : Env → Body → Body) (s : State) (hf : EffectKeepsRole f) : moduleRole (s.onFrame f) = moduleRole s :=
  moduleRole_onBody _ _ fun e b => by
    split
    · rfl
    · rw [hf, roleOf_rxBluli]

@[simp] theorem moduleRole_afterBurst (s : State) : moduleRole s.afterBurst = moduleRole s := moduleRole_goTo ..

@[simp] theorem moduleRole_afterStaging (s : State) : moduleRole s.afterStaging = moduleRole s := by
  unfold State.afterStaging
  split
  · exact moduleRole_goTo ..
  · rfl

@[simp] theorem moduleRole_setTime (s : State) (x : Time) : moduleRole { s with time := x } = moduleRole s := (rfl)
@[simp] theorem moduleRole_setStarch (s : State) (x : Starch) : moduleRole { s with starch := x } = moduleRole s := (rfl)

@[simp] theorem moduleRole_stepBy (k : StepKind) (cause : Nat) (s : State) : moduleRole (s.stepBy k cause) = moduleRole s := by
  unfold State.stepBy
  extract_lets s1 old d time s2
  have h1 : moduleRole s1 = moduleRole s := moduleRole_onBody _ _ (by simp)
  have h2 : moduleRole s2 = moduleRole s := by
    unfold s2
    rw [moduleRole, roleOf_stepMarks]
    exact h1
  rw [moduleRole_onBody _ _ (by simp), h2]

@[simp] theorem moduleRole_fuseStart (c : Nat) (s : State) : moduleRole (s.fuseStart c) = moduleRole s :=
  moduleRole_onBody _ _ fun e b => by
    dsimp only
    split
    · rfl
    · split <;> simp

@[simp] theorem moduleRole_burn (words : Sparse) (ok : Bool) (arg0 result : Nat) (s : State) :
    moduleRole (s.burn words ok arg0 result) = moduleRole s := by
  unfold State.burn
  split
  · rw [moduleRole_onBody _ _ (by simp)]
    dsimp only
    split <;> rfl
  · extract_lets pa pb bank u
    have hu : moduleRole u = moduleRole s := by
      unfold u pb pa
      rw [moduleRole, roleOf_someBits, roleOf_someBits, moduleRole]
    rw [moduleRole_onBody _ _ (by simp), hu]

@[simp] theorem moduleRole_setMap (m : Sparse) (s : State) : moduleRole (s.setMap m) = moduleRole s := by
  rw [State.setMap, moduleRole_onBody _ _ (by simp), moduleRole_setStarch]

/-- A window command keeps the role where what it does at the register keeps it. -/
theorem moduleRole_serve (x : Xfer) (window : Bool) (kind : XferKind) {f : State → State} (hf : ∀ s, moduleRole (f s) = moduleRole s) (s : State) :
    moduleRole (s.serve x window kind f) = moduleRole s := by
  unfold State.serve
  split
  · rfl
  · extract_lets u
    have hu : moduleRole u = moduleRole s := moduleRole_onBody _ _ (by simp)
    split
    · rw [moduleRole_onBody _ _ (by simp), hu]
    · rw [moduleRole_onBody _ _ (by simp), hf, hu]

theorem moduleRole_answer (x : Xfer) (f : Body → List Nat) (s : State) : moduleRole (s.answer x f) = moduleRole s :=
  moduleRole_serve _ _ _ (fun _ => moduleRole_onBody _ _ (by simp)) s

theorem moduleRole_portRead (p a : Nat) (s : State) : moduleRole (s.portRead p a).2 = moduleRole s := by
  unfold State.portRead
  extract_lets r
  rw [moduleRole_onBody _ _ (by simp), moduleRole, roleOf_wr, roleOf_readWord, roleOf_wr, moduleRole]

theorem moduleRole_portReads (p wordNs : Nat) (l : List Nat) (s : State) : moduleRole (s.portReads p wordNs l).2 = moduleRole s := by
  induction l generalizing s with
  | nil => rfl
  | cons a as ih => rw [State.portReads]; dsimp only; rw [ih, moduleRole_goTo, moduleRole_portRead]

theorem moduleRole_goToUnless (c : Prop) [Decidable c] (s : State) (t : Nat) : moduleRole (if c then s else s.goTo t) = moduleRole s := by
  split
  · rfl
  · exact moduleRole_goTo ..

/-- What the end of a bulk synchronisation notes (R456). -/
theorem roleOf_imaged (f : Twin → Twin) (b : Body) :
    roleOf (({ b with boot := { b.boot with imaged := true } } : Body).onTwin f) = roleOf b :=
  roleOf_onTwin ..

/-- The command leaves the role. -/
def KeepsRole (s : State) (o : Out) : Prop := ∀ t, o = .next t → moduleRole t = moduleRole s

@[simp] theorem keepsRole_next (s t : State) : KeepsRole s (.next t) ↔ moduleRole t = moduleRole s :=
  ⟨fun h => h t rfl, fun h u hu => by cases hu; exact h⟩

end Sys2Proof.Proofs
end

section
/-!
SUPPORT. The role through each command that may not change it, and the frame of the module: only named commands change the time,
the Starch bank or the role.
-/

namespace Sys2Proof.Proofs

open Sys2Proof Sys2Proof.Machine Sys2Proof.Safety Sys2Proof.Laws

theorem keepsRole_flashDiscovery (f : Option FlashInfo) (s : State) : KeepsRole s (execFlashDiscovery f s) := by
  simp [execFlashDiscovery, apply_ite roleOf]

theorem keepsRole_imageReadCheck (slotB : Bool) (bytes : List Nat) (s : State) : KeepsRole s (execImageReadCheck slotB bytes s) := by
  simp [execImageReadCheck, apply_ite roleOf]

theorem keepsRole_imageApply (s : State) : KeepsRole s (execImageApply s) := by
  refine (keepsRole_next ..).2 (moduleRole_onBody _ _ fun e b => ?_)
  split <;> (try split) <;> simp

theorem keepsRole_imageRetry (s : State) : KeepsRole s (execImageRetry s) := by
  unfold execImageRetry
  split <;> simp [apply_ite roleOf]

theorem keepsRole_soloAccept (s : State) : KeepsRole s (execSoloAccept s) := by
  simp [execSoloAccept]

theorem keepsRole_expertUnlock (value : Word) (s : State) : KeepsRole s (execExpertUnlock value s) := by
  simp [execExpertUnlock]

theorem keepsRole_expertUnlockTimeout (s : State) : KeepsRole s (execExpertUnlockTimeout s) := by
  unfold execExpertUnlockTimeout
  split <;> simp

theorem keepsRole_modSyncRead (s : State) : KeepsRole s (execModSyncRead s) := by
  simp [execModSyncRead, apply_ite roleOf]

theorem keepsRole_iclWrite (k : DieIx) (s : State) : KeepsRole s (execIclWrite k s) := by
  refine (keepsRole_next ..).2 (moduleRole_onBody _ _ fun e b => ?_)
  split <;> (try split) <;> simp

theorem keepsRole_iclReadRequest (k : DieIx) (port : Fin 2) (addr : Nat) (s : State) : KeepsRole s (execIclReadRequest k port addr s) := by
  simp [execIclReadRequest, apply_ite roleOf]

theorem keepsRole_iclReadReply (k : DieIx) (s : State) : KeepsRole s (execIclReadReply k s) := by
  simp [execIclReadReply]

theorem keepsRole_iclWriteAck (k : DieIx) (s : State) : KeepsRole s (execIclWriteAck k s) := by
  simp [execIclWriteAck, apply_ite roleOf]

theorem keepsRole_iclStatus (k : DieIx) (s : State) : KeepsRole s (execIclStatus k s) := by
  refine (keepsRole_next ..).2 (moduleRole_onBody _ _ fun e b => ?_)
  dsimp only
  split <;> (try split) <;> simp

theorem keepsRole_iclTrendIncrement (n : ChIx) (s : State) : KeepsRole s (execIclTrendIncrement n s) := by
  simp [execIclTrendIncrement]

theorem keepsRole_iclCaptureData (k : DieIx) (raws : List Int) (s : State) : KeepsRole s (execIclCaptureData k raws s) := by
  simp [execIclCaptureData, apply_ite roleOf]

theorem keepsRole_iclSyncMarker (m : Marker) (s : State) : KeepsRole s (execIclSyncMarker m s) := by
  simp [execIclSyncMarker, apply_ite roleOf]

theorem keepsRole_iclTraceData (k : DieIx) (s : State) : KeepsRole s (execIclTraceData k s) := by
  simp [execIclTraceData]

theorem keepsRole_iclRetransmit (k : DieIx) (again : Bool) (s : State) : KeepsRole s (execIclRetransmit k again s) := by
  simp [execIclRetransmit, apply_ite roleOf]

theorem keepsRole_clockFail (c : ClockId) (s : State) : KeepsRole s (execClockFail c s) := by
  simp [execClockFail, apply_ite roleOf]

theorem keepsRole_hubClockLoss (s : State) : KeepsRole s (execHubClockLoss s) := by
  simp [execHubClockLoss]

theorem keepsRole_dozeRequest (s : State) : KeepsRole s (execDozeRequest s) := by
  simp [execDozeRequest]

theorem keepsRole_dozeEnter (s : State) : KeepsRole s (execDozeEnter s) := by
  simp [execDozeEnter, apply_ite roleOf]

theorem keepsRole_dozeScan (k : DieIx) (raws : List Int) (s : State) : KeepsRole s (execDozeScan k raws s) := by
  unfold execDozeScan
  split <;> simp

theorem keepsRole_dozeWake (w : WakeEv) (s : State) : KeepsRole s (execDozeWake w s) := by
  unfold execDozeWake
  dsimp only
  split <;> simp [apply_ite roleOf]

theorem keepsRole_seatAssert (n : ChIx) (s : State) : KeepsRole s (execSeatAssert n s) := by
  simp [execSeatAssert]

theorem keepsRole_seatDrop (n : ChIx) (s : State) : KeepsRole s (execSeatDrop n s) := by
  simp [execSeatDrop]

theorem keepsRole_seatQual (n : ChIx) (s : State) : KeepsRole s (execSeatQual n s) := by
  unfold execSeatQual
  split <;> (try split) <;> simp

theorem keepsRole_seatLoss (n : ChIx) (s : State) : KeepsRole s (execSeatLoss n s) := by
  unfold execSeatLoss
  split <;> simp

theorem keepsRole_aqExpire (n : ChIx) (s : State) : KeepsRole s (execAqExpire n s) := by
  unfold execAqExpire
  dsimp only
  split <;> simp [apply_ite roleOf]

theorem keepsRole_restartOk (n : ChIx) (s : State) : KeepsRole s (execRestartOk n s) := by
  simp [execRestartOk]

theorem keepsRole_en0 (n : ChIx) (s : State) : KeepsRole s (execEn0 n s) := by
  simp [execEn0]

theorem keepsRole_en1 (n : ChIx) (s : State) : KeepsRole s (execEn1 n s) := by
  simp [execEn1]

theorem keepsRole_requeue (n : ChIx) (s : State) : KeepsRole s (execRequeue n s) := by
  simp [execRequeue]

theorem keepsRole_rampDone (n : ChIx) (s : State) : KeepsRole s (execRampDone n s) := by
  unfold execRampDone
  dsimp only
  split <;> simp

theorem keepsRole_limitWin (n : ChIx) (s : State) : KeepsRole s (execLimitWin n s) := by
  unfold execLimitWin
  dsimp only
  split <;> simp

theorem keepsRole_capWin (n : ChIx) (s : State) : KeepsRole s (execCapWin n s) := by
  unfold execCapWin
  dsimp only
  split <;> simp

theorem keepsRole_noWin (n : ChIx) (s : State) : KeepsRole s (execNoWin n s) := by
  unfold execNoWin
  dsimp only
  split <;> simp

theorem keepsRole_ilimExpire (n : ChIx) (s : State) : KeepsRole s (execIlimExpire n s) := by
  unfold execIlimExpire
  dsimp only
  split <;> (try split) <;> simp

theorem keepsRole_readmit (n : ChIx) (s : State) : KeepsRole s (execReadmit n s) := by
  simp [execReadmit, apply_ite roleOf]

theorem keepsRole_retryExpire (n : ChIx) (s : State) : KeepsRole s (execRetryExpire n s) := by
  unfold execRetryExpire
  dsimp only
  split <;> simp [apply_ite roleOf]

theorem keepsRole_loopCycle (n : ChIx) (atPump atSource : Bool) (s : State) : KeepsRole s (execLoopCycle n atPump atSource s) := by
  simp [execLoopCycle, apply_ite roleOf]

theorem keepsRole_thermalModelStep (n : ChIx) (s : State) : KeepsRole s (execThermalModelStep n s) := by
  simp [execThermalModelStep, apply_ite roleOf]

theorem keepsRole_hardtrip (n : ChIx) (uv : Int) (s : State) : KeepsRole s (execHardtrip n uv s) := by
  simp [execHardtrip]

theorem keepsRole_follow (n : ChIx) (s : State) : KeepsRole s (execFollow n s) := by
  unfold execFollow
  dsimp only
  split <;> (try split) <;> simp

theorem keepsRole_gateStall (n : ChIx) (s : State) : KeepsRole s (execGateStall n s) := by
  unfold execGateStall
  dsimp only
  split <;> simp

theorem keepsRole_fetShort (n : ChIx) (s : State) : KeepsRole s (execFetShort n s) := by
  unfold execFetShort
  dsimp only
  split <;> simp [apply_ite roleOf]

theorem keepsRole_modelMismatch (n : ChIx) (s : State) : KeepsRole s (execModelMismatch n s) := by
  unfold execModelMismatch
  split <;> (try split) <;> simp

theorem keepsRole_busWindowQualify (n : ChIx) (s : State) : KeepsRole s (execBusWindowQualify n s) := by
  unfold execBusWindowQualify
  dsimp only
  split <;> (try split) <;> simp [apply_ite roleOf]

theorem keepsRole_currentSample (n : ChIx) (raw : Int) (s : State) : KeepsRole s (execCurrentSample n raw s) := by
  simp [execCurrentSample]

theorem keepsRole_cvbEntrySample (k : DieIx) (i : Fin 64) (raw : Int) (s : State) : KeepsRole s (execCvbEntrySample k i raw s) := by
  simp [execCvbEntrySample]

theorem keepsRole_filterOutput (k : DieIx) (u : Fin 80) (s : State) : KeepsRole s (execFilterOutput k u s) := by
  simp [execFilterOutput]

theorem keepsRole_sliceVisitEnd (k : DieIx) (cvb : Bool) (v : Visit) (s : State) : KeepsRole s (execSliceVisitEnd k cvb v s) := by
  unfold execSliceVisitEnd
  dsimp only
  split <;> simp

theorem keepsRole_openWireTest (k : DieIx) (l : Fin 16) (ts : Bool) (s : State) : KeepsRole s (execOpenWireTest k l ts s) := by
  unfold execOpenWireTest
  dsimp only
  split <;> (try split) <;> simp

theorem keepsRole_trendIntervalBoundary (k : DieIx) (s : State) : KeepsRole s (execTrendIntervalBoundary k s) := by
  unfold execTrendIntervalBoundary
  split <;> simp

theorem keepsRole_irangeApply (k : DieIx) (s : State) : KeepsRole s (execIrangeApply k s) := by
  unfold execIrangeApply
  split <;> (try split) <;> simp

theorem keepsRole_directConvGo (k : DieIx) (s : State) : KeepsRole s (execDirectConvGo k s) := by
  refine (keepsRole_next ..).2 (moduleRole_onHub _ _ fun e b => ?_)
  dsimp only
  split <;> simp

theorem keepsRole_convstEdge (k : DieIx) (rising : Bool) (s : State) : KeepsRole s (execConvstEdge k rising s) := by
  simp [execConvstEdge, apply_ite roleOf]

theorem keepsRole_directConvDone (k : DieIx) (raws : List Int) (s : State) : KeepsRole s (execDirectConvDone k raws s) := by
  unfold execDirectConvDone
  dsimp only
  split <;> simp

theorem keepsRole_convRead (k : DieIx) (s : State) : KeepsRole s (execConvRead k s) := by
  simp [execConvRead]

theorem keepsRole_captureTrigger (k : DieIx) (src unit : Nat) (s : State) : KeepsRole s (execCaptureTrigger k src unit s) := by
  simp [execCaptureTrigger]

theorem keepsRole_captureForce (k : DieIx) (s : State) : KeepsRole s (execCaptureForce k s) := by
  refine (keepsRole_next ..).2 (moduleRole_onHub _ _ fun e b => ?_)
  dsimp only
  split <;> simp

theorem keepsRole_captureAbort (k : DieIx) (s : State) : KeepsRole s (execCaptureAbort k s) := by
  refine (keepsRole_next ..).2 (moduleRole_onHub _ _ fun e b => ?_)
  dsimp only
  split <;> simp

theorem keepsRole_captureEnd (k : DieIx) (s : State) : KeepsRole s (execCaptureEnd k s) := by
  unfold execCaptureEnd
  dsimp only
  split <;> simp

theorem keepsRole_traceArm (k : DieIx) (div pre : Nat) (s : State) : KeepsRole s (execTraceArm k div pre s) := by
  refine (keepsRole_next ..).2 (moduleRole_onHub _ _ fun e b => ?_)
  dsimp only
  split <;> simp

theorem keepsRole_traceForce (k : DieIx) (s : State) : KeepsRole s (execTraceForce k s) := by
  refine (keepsRole_next ..).2 (moduleRole_onHub _ _ fun e b => ?_)
  dsimp only
  split <;> simp

theorem keepsRole_traceDone (k : DieIx) (s : State) : KeepsRole s (execTraceDone k s) := by
  simp [execTraceDone, apply_ite roleOf]

theorem keepsRole_budgetCycle (s : State) : KeepsRole s (execBudgetCycle s) := by
  unfold execBudgetCycle
  split <;> simp

theorem keepsRole_staggerSlot (s : State) : KeepsRole s (execStaggerSlot s) := by
  unfold execStaggerSlot
  dsimp only
  split <;> simp

theorem keepsRole_queueLimitExpire (n : ChIx) (s : State) : KeepsRole s (execQueueLimitExpire n s) := by
  unfold execQueueLimitExpire
  dsimp only
  split <;> simp

theorem keepsRole_gstartGo (s : State) : KeepsRole s (execGstartGo s) := by
  simp [execGstartGo]

theorem keepsRole_busMinShed (s : State) : KeepsRole s (execBusMinShed s) := by
  unfold execBusMinShed
  split
  · rw [keepsRole_next, moduleRole_onBody, moduleRole_goTo]
    intro e b
    dsimp only
    split
    · rfl
    · split <;> simp
  · simp

theorem keepsRole_busMinCrossing (s : State) : KeepsRole s (execBusMinCrossing s) := by
  simp [execBusMinCrossing, apply_ite roleOf]

theorem keepsRole_holdupTrigger (t : HoldTrig) (s : State) : KeepsRole s (execHoldupTrigger t s) := by
  unfold execHoldupTrigger
  split <;> (try split) <;> simp [apply_ite roleOf]

theorem keepsRole_holdupStageStart (s : State) : KeepsRole s (execHoldupStageStart s) := by
  unfold execHoldupStageStart
  dsimp only
  split <;> simp

theorem keepsRole_holdupStageEnd (s : State) : KeepsRole s (execHoldupStageEnd s) := by
  unfold execHoldupStageEnd
  dsimp only
  split
  · simp
  · split
    · split <;> simp
    · simp

theorem keepsRole_holdupReturn (s : State) : KeepsRole s (execHoldupReturn s) := by
  unfold execHoldupReturn
  dsimp only
  split <;> (try split) <;> simp [apply_ite roleOf]

theorem keepsRole_energyCheckpoint (s : State) : KeepsRole s (execEnergyCheckpoint s) := by
  unfold execEnergyCheckpoint
  dsimp only
  split <;> simp [apply_ite roleOf]

theorem keepsRole_checkpointReadback (ok : Bool) (s : State) : KeepsRole s (execCheckpointReadback ok s) := by
  simp [execCheckpointReadback]

theorem keepsRole_refWatchCheck (s : State) : KeepsRole s (execRefWatchCheck s) := by
  unfold execRefWatchCheck
  dsimp only
  split <;> simp

theorem keepsRole_warmUpComplete (s : State) : KeepsRole s (execWarmUpComplete s) := by
  unfold execWarmUpComplete
  split <;> simp

theorem keepsRole_heaterFault (s : State) : KeepsRole s (execHeaterFault s) := by
  unfold execHeaterFault
  split <;> simp

theorem keepsRole_calStart (value : Word) (s : State) : KeepsRole s (execCalStart value s) := by
  simp [execCalStart]

theorem keepsRole_calAbort (s : State) : KeepsRole s (execCalAbort s) := by
  simp [execCalAbort]

theorem keepsRole_calPhaseEnd (meas : List (Nat × Nat)) (s : State) : KeepsRole s (execCalPhaseEnd meas s) := by
  unfold execCalPhaseEnd
  split
  · simp
  · split
    · simp
    · rw [keepsRole_next, moduleRole_onBody _ _ fun _ _ => roleOf_phaseEnd .., moduleRole_goTo]

theorem keepsRole_calStabilityCheck (s : State) : KeepsRole s (execCalStabilityCheck s) := by
  unfold execCalStabilityCheck
  split <;> (try split) <;> simp

theorem keepsRole_calSlot (n : Nat) (kind : CalKind) (m : SlotMeas) (s : State) : KeepsRole s (execCalSlot n kind m s) := by
  unfold execCalSlot
  split
  · split
    · simp
    · dsimp only
      rw [keepsRole_next, moduleRole_onBody _ _ fun _ _ => roleOf_calSlot .., moduleRole_goToUnless]
  · simp

theorem keepsRole_calStore (t1 t2 : StoreTry) (s : State) : KeepsRole s (execCalStore t1 t2 s) := by
  refine (keepsRole_next ..).2 (moduleRole_onBody _ _ fun e b => ?_)
  split <;> (try split) <;> simp

theorem keepsRole_calEpochApply (s : State) : KeepsRole s (execCalEpochApply s) := by
  unfold execCalEpochApply
  split
  · simp
  · split
    · simp
    · split
      · simp
      · rw [keepsRole_next, moduleRole_onBody _ _ fun _ _ => roleOf_calApply .., moduleRole_goTo]

theorem keepsRole_calDueExpire (s : State) : KeepsRole s (execCalDueExpire s) := by
  simp [execCalDueExpire, apply_ite roleOf]

theorem keepsRole_benchReady (s : State) : KeepsRole s (execBenchReady s) := by
  simp [execBenchReady, apply_ite roleOf]

theorem keepsRole_benchTrig (s : State) : KeepsRole s (execBenchTrig s) := by
  simp [execBenchTrig]

theorem keepsRole_benchZero (s : State) : KeepsRole s (execBenchZero s) := by
  simp [execBenchZero]

theorem keepsRole_benchScanCommit (k : DieIx) (raws : List (List Int)) (s : State) : KeepsRole s (execBenchScanCommit k raws s) := by
  unfold execBenchScanCommit
  split
  · simp
  · rw [keepsRole_next, moduleRole_onBody _ _ fun _ _ => roleOf_scanCommit .., moduleRole_goTo]

theorem keepsRole_benchRestEnd (k : DieIx) (s : State) : KeepsRole s (execBenchRestEnd k s) := by
  unfold execBenchRestEnd
  split <;> simp

theorem keepsRole_ppsPulse (s : State) : KeepsRole s (execPpsPulse s) := by
  simp [execPpsPulse]

theorem keepsRole_ppsMissing (s : State) : KeepsRole s (execPpsMissing s) := by
  unfold execPpsMissing
  split <;> simp [apply_ite roleOf]

theorem keepsRole_rateTimeout (s : State) : KeepsRole s (execRateTimeout s) := by
  unfold execRateTimeout
  split <;> simp

theorem keepsRole_timebaseStep (s : State) : KeepsRole s (execTimebaseStep s) := by
  unfold execTimebaseStep
  split <;> simp

theorem keepsRole_tbArm (s : State) : KeepsRole s (execTbArm s) := by
  simp [execTbArm]

theorem keepsRole_tbNow (s : State) : KeepsRole s (execTbNow s) := by
  simp [execTbNow]

theorem keepsRole_tbAlign (s : State) : KeepsRole s (execTbAlign s) := by
  simp [execTbAlign]

theorem keepsRole_tbCancel (s : State) : KeepsRole s (execTbCancel s) := by
  simp [execTbCancel]

theorem keepsRole_clkTbReturn (s : State) : KeepsRole s (execClkTbReturn s) := by
  simp [execClkTbReturn, apply_ite roleOf]

theorem keepsRole_timerTick (s : State) : KeepsRole s (execTimerTick s) := by
  simp [execTimerTick, apply_ite roleOf]

theorem keepsRole_timerCapture (i : Fin 256) (rising : Bool) (ago : Nat) (s : State) : KeepsRole s (execTimerCapture i rising ago s) := by
  unfold execTimerCapture
  dsimp only
  split <;> simp

theorem keepsRole_timerReleaseGo (atTime : Bool) (s : State) : KeepsRole s (execTimerReleaseGo atTime s) := by
  simp [execTimerReleaseGo, apply_ite roleOf]

theorem keepsRole_timerReleaseStart (s : State) : KeepsRole s (execTimerReleaseStart s) := by
  unfold execTimerReleaseStart
  dsimp only
  split <;> simp

theorem keepsRole_fanPwmReload (k : Fin 8) (s : State) : KeepsRole s (execFanPwmReload k s) := by
  simp [execFanPwmReload]

theorem keepsRole_fanStall (k : Fin 8) (s : State) : KeepsRole s (execFanStall k s) := by
  unfold execFanStall
  split <;> simp

theorem keepsRole_trendBlock (s : State) : KeepsRole s (execTrendBlock s) := by
  simp [execTrendBlock]

theorem keepsRole_ledgerBlockClose (s : State) : KeepsRole s (execLedgerBlockClose s) := by
  unfold execLedgerBlockClose
  dsimp only
  split <;> simp

theorem keepsRole_signedCheckpoint (ok : Bool) (s : State) : KeepsRole s (execSignedCheckpoint ok s) := by
  simp [execSignedCheckpoint, apply_ite roleOf]

theorem keepsRole_trendStripeWrite (s : State) : KeepsRole s (execTrendStripeWrite s) := by
  simp [execTrendStripeWrite]

theorem keepsRole_ledgerPageWrite (s : State) : KeepsRole s (execLedgerPageWrite s) := by
  simp [execLedgerPageWrite]

theorem keepsRole_capdataWrite (s : State) : KeepsRole s (execCapdataWrite s) := by
  simp [execCapdataWrite]

theorem keepsRole_nvmeCommandComplete (d : Fin 2) (ok : Bool) (s : State) : KeepsRole s (execNvmeCommandComplete d ok s) := by
  simp [execNvmeCommandComplete]

theorem keepsRole_nvmeCommandTimeout (d : Fin 2) (resetOk : Bool) (s : State) : KeepsRole s (execNvmeCommandTimeout d resetOk s) := by
  unfold execNvmeCommandTimeout
  split <;> simp

theorem keepsRole_smartPoll (d : Fin 2) (crit pct temp : Nat) (s : State) : KeepsRole s (execSmartPoll d crit pct temp s) := by
  unfold execSmartPoll
  split <;> simp

theorem keepsRole_deviceLinkUp (d : Fin 2) (i : DevInfo) (s : State) : KeepsRole s (execDeviceLinkUp d i s) := by
  simp [execDeviceLinkUp]

theorem keepsRole_deviceLinkLoss (d : Fin 2) (s : State) : KeepsRole s (execDeviceLinkLoss d s) := by
  simp [execDeviceLinkLoss]

theorem keepsRole_deviceEject (d : Fin 2) (s : State) : KeepsRole s (execDeviceEject d s) := by
  simp [execDeviceEject]

theorem keepsRole_devicePrepare (d : Fin 2) (s : State) : KeepsRole s (execDevicePrepare d s) := by
  simp [execDevicePrepare]

theorem keepsRole_deviceCancel (d : Fin 2) (s : State) : KeepsRole s (execDeviceCancel d s) := by
  simp [execDeviceCancel]

theorem keepsRole_resilverDone (d : Fin 2) (s : State) : KeepsRole s (execResilverDone d s) := by
  unfold execResilverDone
  split <;> simp

theorem keepsRole_recorderFlush (s : State) : KeepsRole s (execRecorderFlush s) := by
  simp [execRecorderFlush]

theorem keepsRole_recorderReadGo (src half : Nat) (s : State) : KeepsRole s (execRecorderReadGo src half s) := by
  simp [execRecorderReadGo]

theorem keepsRole_recorderReadDone (ok : Bool) (data : List Word) (s : State) : KeepsRole s (execRecorderReadDone ok data s) := by
  simp [execRecorderReadDone, apply_ite roleOf]

theorem keepsRole_basketReinit (s : State) : KeepsRole s (execBasketReinit s) := by
  simp [execBasketReinit, apply_ite roleOf]

theorem keepsRole_recorderStart (found : Option LedgerFound) (s : State) : KeepsRole s (execRecorderStart found s) := by
  simp [execRecorderStart]

theorem keepsRole_bluliStateChange (m : MirrorItem) (s : State) : KeepsRole s (execBluliStateChange m s) := by
  unfold execBluliStateChange
  split <;> simp [apply_ite roleOf]

theorem keepsRole_bluliLoopSnapshot (n : ChIx) (x : Snap) (s : State) : KeepsRole s (execBluliLoopSnapshot n x s) := by
  simp [execBluliLoopSnapshot, apply_ite roleOf]

theorem keepsRole_bluliIncrement (n : ChIx) (inc : Int) (s : State) : KeepsRole s (execBluliIncrement n inc s) := by
  refine (keepsRole_next ..).2 (moduleRole_onHub _ _ fun e b => ?_)
  dsimp only
  split <;> (try split) <;> simp [apply_ite roleOf]

theorem keepsRole_bluliLedgerRecord (units : List Nat) (s : State) : KeepsRole s (execBluliLedgerRecord units s) := by
  simp [execBluliLedgerRecord, apply_ite roleOf]

theorem keepsRole_bluliSeamControl (m : SeamMsg) (s : State) : KeepsRole s (execBluliSeamControl m s) := by
  refine (keepsRole_next ..).2 (moduleRole_onHub _ _ fun e b => ?_)
  dsimp only
  split <;> (try split) <;> simp [apply_ite roleOf]

theorem keepsRole_bluliBulkSync (ms : List MirrorItem) (pct : Nat) (s : State) : KeepsRole s (execBluliBulkSync ms pct s) := by
  simp [execBluliBulkSync, apply_ite roleOf]

theorem keepsRole_bluliRetransmit (q : Option (Fin 65536)) (s : State) : KeepsRole s (execBluliRetransmit q s) := by
  refine (keepsRole_next ..).2 (moduleRole_onBody _ _ fun e b => ?_)
  split
  · rfl
  · split <;> simp

theorem keepsRole_laneDown (i : Fin 2) (s : State) : KeepsRole s (execLaneDown i s) := by
  simp [execLaneDown]

theorem keepsRole_loopSnapshot (k : DieIx) (s : State) : KeepsRole s (execLoopSnapshot k s) := by
  unfold execLoopSnapshot
  split <;> simp [apply_ite roleOf]

theorem keepsRole_bulkSyncComplete (s : State) : KeepsRole s (execBulkSyncComplete s) := by
  refine (keepsRole_next ..).2 (moduleRole_onBody _ _ fun e b => ?_)
  split
  · exact (roleOf_imaged ..).trans (by simp)
  · rfl

theorem keepsRole_handover (s : State) : KeepsRole s (execHandover s) := by
  simp [execHandover]

theorem keepsRole_seamRequest (cause : Nat) (s : State) : KeepsRole s (execSeamRequest cause s) := by
  unfold execSeamRequest
  dsimp only
  split <;> simp

theorem keepsRole_seamTP (s : State) : KeepsRole s (execSeamTP s) := by
  unfold execSeamTP
  dsimp only
  split <;> (try split) <;> simp [apply_ite roleOf]

theorem keepsRole_modSeatLoss (s : State) : KeepsRole s (execModSeatLoss s) := by
  unfold execModSeatLoss
  split
  · rw [keepsRole_next, moduleRole_onHub, moduleRole_goTo]
    intro e b
    dsimp only
    split <;> simp
  · simp

theorem keepsRole_pairAddrArm (s : State) : KeepsRole s (execPairAddrArm s) := by
  simp [execPairAddrArm, apply_ite roleOf]

theorem keepsRole_dieReset (k : DieIx) (s : State) : KeepsRole s (execDieReset k s) := by
  simp [execDieReset]

theorem keepsRole_dieRejoin (k : DieIx) (s : State) : KeepsRole s (execDieRejoin k s) := by
  simp [execDieRejoin]

theorem keepsRole_dieRejoinTimeout (k : DieIx) (s : State) : KeepsRole s (execDieRejoinTimeout k s) := by
  unfold execDieRejoinTimeout
  split <;> simp [apply_ite roleOf]

theorem keepsRole_markerLoss (k : DieIx) (s : State) : KeepsRole s (execMarkerLoss k s) := by
  unfold execMarkerLoss
  split <;> simp

theorem keepsRole_gateKeepEnd (k : DieIx) (s : State) : KeepsRole s (execGateKeepEnd k s) := by
  unfold execGateKeepEnd
  split <;> simp [apply_ite roleOf]

theorem keepsRole_imgEraseB (ok : Bool) (s : State) :
    KeepsRole s (execImgEraseB ok s) := (keepsRole_next ..).2 (moduleRole_onBody _ _ fun e b => roleOf_imgRun _ (by simp) b)

theorem keepsRole_imgProgram (ok : Bool) (s : State) :
    KeepsRole s (execImgProgram ok s) := (keepsRole_next ..).2 (moduleRole_onBody _ _ fun e b => roleOf_imgRun _ (by simp) b)

theorem keepsRole_imgRead (ok : Bool) (bytes : List Nat) (s : State) :
    KeepsRole s (execImgRead ok bytes s) := (keepsRole_next ..).2 (moduleRole_onBody _ _ fun e b => roleOf_imgRun _ (by simp [apply_ite roleOf]) b)

theorem keepsRole_patch (bytes : List Nat) (s : State) :
    KeepsRole s (execPatch bytes s) := (keepsRole_next ..).2 (moduleRole_onBody _ _ fun e b => roleOf_imgRun _ (by simp [apply_ite roleOf]) b)

theorem keepsRole_patchAccept (partner ok : Bool) (s : State) : KeepsRole s (execPatchAccept partner ok s) := by
  refine (keepsRole_next ..).2 (moduleRole_onBody _ _ fun e b => ?_)
  split <;> (try split) <;> simp [apply_ite roleOf]

theorem keepsRole_patchSafePoint (n : ChIx) (s : State) : KeepsRole s (execPatchSafePoint n s) := by
  simp [execPatchSafePoint, apply_ite roleOf]

theorem keepsRole_patchMeteringApply (s : State) : KeepsRole s (execPatchMeteringApply s) := by
  unfold execPatchMeteringApply
  split <;> (try split) <;> simp

theorem keepsRole_patchSlotCopy (ok : Bool) (s : State) : KeepsRole s (execPatchSlotCopy ok s) := by
  simp [execPatchSlotCopy, apply_ite roleOf]

theorem keepsRole_starchBurn (ok : Bool) (s : State) : KeepsRole s (execStarchBurn ok s) := by
  unfold execStarchBurn
  dsimp only
  split <;> (try split) <;> simp

theorem keepsRole_starchSeal (ok : Bool) (s : State) : KeepsRole s (execStarchSeal ok s) := by
  unfold execStarchSeal
  dsimp only
  split <;> (try split) <;> simp

theorem keepsRole_starchReload (s : State) : KeepsRole s (execStarchReload s) := by
  unfold execStarchReload
  dsimp only
  split <;> (try split) <;> simp

theorem keepsRole_feederDiscovery (f : Fin 12) (r : FpEnd (Nat × Nat × Nat × Nat)) (s : State) :
    KeepsRole s (execFeederDiscovery f r s) := (keepsRole_next ..).2 (moduleRole_onHub _ _ fun _ _ => roleOf_discover ..)

theorem keepsRole_fpStatusRead (f : Fin 12) (r : FpEnd (Nat × Nat)) (s : State) : KeepsRole s (execFpStatusRead f r s) := by
  unfold execFpStatusRead
  split
  · rw [keepsRole_next, moduleRole_onHub _ _ fun _ _ => roleOf_statusRead .., moduleRole_goTo]
  · simp

theorem keepsRole_fpTelemetryRead (t : FpTele) (s : State) : KeepsRole s (execFpTelemetryRead t s) := by
  unfold execFpTelemetryRead
  split
  · split
    · simp
    · rw [keepsRole_next, moduleRole_onBody, moduleRole_goTo]
      intro e b
      dsimp only
      split <;> simp
  · split
    · simp
    · rw [keepsRole_next, moduleRole_onBody _ _ fun _ b => (roleOf_bbuRead ..).trans (roleOf_onFp ..), moduleRole_goTo]

theorem keepsRole_fpStepWrite (f : Fin 12) (r : FpEnd Unit) (s : State) : KeepsRole s (execFpStepWrite f r s) := by
  unfold execFpStepWrite
  split <;> simp

theorem keepsRole_fpArbLost (f : Fin 12) (k : FpKind) (s : State) : KeepsRole s (execFpArbLost f k s) := by
  simp [execFpArbLost, apply_ite roleOf]

theorem keepsRole_arbCond (f : Fin 12) (k : FpKind) (back : FpEnd Nat) (again : FpEnd Unit) (s : State) :
    KeepsRole s (execArbCond f k back again s) := by
  simp [execArbCond, apply_ite roleOf]

theorem keepsRole_fpHangRecovery (r : HangEnd) (s : State) : KeepsRole s (execFpHangRecovery r s) := by
  unfold execFpHangRecovery
  dsimp only
  split <;> simp

theorem keepsRole_feederCommHoldExpire (f : Fin 12) (s : State) : KeepsRole s (execFeederCommHoldExpire f s) := by
  unfold execFeederCommHoldExpire
  split <;> simp

theorem keepsRole_balanceUpdate (s : State) : KeepsRole s (execBalanceUpdate s) := by
  unfold execBalanceUpdate
  split <;> simp

theorem keepsRole_bbuPinMismatch (u : Fin 2) (code : Fin 4) (s : State) : KeepsRole s (execBbuPinMismatch u code s) := by
  simp [execBbuPinMismatch, apply_ite roleOf]

theorem keepsRole_capability (x : Xfer) (s : State) : KeepsRole s (execCapability x s) := (keepsRole_next ..).2 (moduleRole_answer ..)

theorem keepsRole_query (x : Xfer) (code : Nat) (s : State) :
    KeepsRole s (execQuery x code s) := (keepsRole_next ..).2 (moduleRole_answer ..)

theorem keepsRole_statusByte (x : Xfer) (s : State) : KeepsRole s (execStatusByte x s) := (keepsRole_next ..).2 (moduleRole_answer ..)

theorem keepsRole_statusWord (x : Xfer) (s : State) : KeepsRole s (execStatusWord x s) := (keepsRole_next ..).2 (moduleRole_answer ..)

theorem keepsRole_pmbusRevision (x : Xfer) (s : State) : KeepsRole s (execPmbusRevision x s) := (keepsRole_next ..).2 (moduleRole_answer ..)

theorem keepsRole_mfrId (x : Xfer) (s : State) : KeepsRole s (execMfrId x s) := (keepsRole_next ..).2 (moduleRole_answer ..)

theorem keepsRole_mfrModel (x : Xfer) (s : State) : KeepsRole s (execMfrModel x s) := (keepsRole_next ..).2 (moduleRole_answer ..)

theorem keepsRole_mfrRevision (x : Xfer) (s : State) : KeepsRole s (execMfrRevision x s) := (keepsRole_next ..).2 (moduleRole_answer ..)

theorem keepsRole_mfrSerial (x : Xfer) (s : State) : KeepsRole s (execMfrSerial x s) := (keepsRole_next ..).2 (moduleRole_answer ..)

theorem keepsRole_winAddrWrite (x : Xfer) (value : Word) (s : State) :
    KeepsRole s (execWinAddrWrite x value s) := (keepsRole_next ..).2 (moduleRole_serve _ _ _ (fun _ => moduleRole_onBody _ _ (by simp)) s)

theorem keepsRole_winAddrRead (x : Xfer) (s : State) : KeepsRole s (execWinAddrRead x s) := (keepsRole_next ..).2 (moduleRole_answer ..)

theorem keepsRole_winDataRead (x : Xfer) (whole : Bool) (s : State) : KeepsRole s (execWinDataRead x whole s) := by
  refine (keepsRole_next ..).2 (moduleRole_serve _ _ _ (fun s => ?_) s)
  dsimp only
  rw [moduleRole_onBody _ _ fun _ b => ?_, moduleRole_portRead]
  split
  · rfl
  · exact roleOf_loseRc ..

theorem keepsRole_winAutoincRead (x : Xfer) (c : Clocked) (wordNs : Nat) (s : State) : KeepsRole s (execWinAutoincRead x c wordNs s) := by
  refine (keepsRole_next ..).2 (moduleRole_serve _ _ _ (fun s => ?_) s)
  dsimp only
  rw [moduleRole_onBody, moduleRole_portReads, moduleRole_portReads]
  intro e b
  simp [apply_ite roleOf]

theorem keepsRole_hostPortTimeout (p : Fin 2) (s : State) : KeepsRole s (execHostPortTimeout p s) := by
  simp [execHostPortTimeout, apply_ite roleOf]

theorem keepsRole_attentionPull (p : Fin 2) (collided : Bool) (s : State) : KeepsRole s (execAttentionPull p collided s) := by
  unfold execAttentionPull
  dsimp only
  split <;> (try split) <;> simp

theorem keepsRole_alertResponse (p : Fin 2) (won : Bool) (s : State) : KeepsRole s (execAlertResponse p won s) := by
  refine (keepsRole_next ..).2 (moduleRole_onBody _ _ fun e b => ?_)
  split
  · rfl
  · exact (roleOf_set_reply ..).trans (by simp)

theorem keepsRole_tempReading (r : SensorRound) (s : State) : KeepsRole s (execTempReading r s) := by
  simp [execTempReading, apply_ite roleOf]

theorem keepsRole_braceEnter (s : State) : KeepsRole s (execBraceEnter s) := by
  simp [execBraceEnter, apply_ite roleOf]

theorem keepsRole_braceEnd (s : State) : KeepsRole s (execBraceEnd s) := by
  unfold execBraceEnd
  split <;> simp

theorem keepsRole_aux12Reset (s : State) : KeepsRole s (execAux12Reset s) := by
  simp [execAux12Reset]

theorem keepsRole_hubWatchdog (s : State) : KeepsRole s (execHubWatchdog s) := by
  unfold execHubWatchdog
  split <;> simp

theorem keepsRole_dieWatchdog (k : DieIx) (s : State) : KeepsRole s (execDieWatchdog k s) := by
  simp [execDieWatchdog, apply_ite roleOf]

theorem keepsRole_operatingHour (s : State) : KeepsRole s (execOperatingHour s) := by
  simp [execOperatingHour, apply_ite roleOf]

theorem keepsRole_laneUp (i : Fin 2) (s : State) : KeepsRole s (execLaneUp i s) := by
  simp [execLaneUp]

theorem keepsRole_acfailNClear (s : State) : KeepsRole s (execAcfailNClear s) := by
  simp [execAcfailNClear]

theorem keepsRole_aux12WarnRise (s : State) : KeepsRole s (execAux12WarnRise s) := by
  simp [execAux12WarnRise, apply_ite roleOf]

theorem keepsRole_seatDeassert (n : ChIx) (s : State) : KeepsRole s (execSeatDeassert n s) := by
  simp [execSeatDeassert]

theorem keepsRole_modSeatContact (i : Fin 2) (made : Bool) (s : State) : KeepsRole s (execModSeatContact i made s) := by
  simp [execModSeatContact]

theorem keepsRole_aux12Measurement (v : Nat) (s : State) : KeepsRole s (execAux12Measurement v s) := by
  simp [execAux12Measurement, apply_ite roleOf]

/-- A command outside `mayChangeRole` leaves the role. -/
theorem keepsRole_exec (s : State) : ∀ i : Instr, mayChangeRole i = false → KeepsRole s (exec i s)
  | .flashDiscovery _, _ => keepsRole_flashDiscovery _ _
  | .imageReadCheck _ _, _ => keepsRole_imageReadCheck _ _ _
  | .imageApply, _ => keepsRole_imageApply _
  | .imageRetry, _ => keepsRole_imageRetry _
  | .soloAccept, _ => keepsRole_soloAccept _
  | .expertUnlock _, _ => keepsRole_expertUnlock _ _
  | .expertUnlockTimeout, _ => keepsRole_expertUnlockTimeout _
  | .modSyncRead, _ => keepsRole_modSyncRead _
  | .iclWrite _, _ => keepsRole_iclWrite _ _
  | .iclReadRequest _ _ _, _ => keepsRole_iclReadRequest _ _ _ _
  | .iclReadReply _, _ => keepsRole_iclReadReply _ _
  | .iclWriteAck _, _ => keepsRole_iclWriteAck _ _
  | .iclStatus _, _ => keepsRole_iclStatus _ _
  | .iclTrendIncrement _, _ => keepsRole_iclTrendIncrement _ _
  | .iclCaptureData _ _, _ => keepsRole_iclCaptureData _ _ _
  | .iclSyncMarker _, _ => keepsRole_iclSyncMarker _ _
  | .iclTraceData _, _ => keepsRole_iclTraceData _ _
  | .iclRetransmit _ _, _ => keepsRole_iclRetransmit _ _ _
  | .clockFail _, _ => keepsRole_clockFail _ _
  | .hubClockLoss, _ => keepsRole_hubClockLoss _
  | .dozeRequest, _ => keepsRole_dozeRequest _
  | .dozeEnter, _ => keepsRole_dozeEnter _
  | .dozeScan _ _, _ => keepsRole_dozeScan _ _ _
  | .dozeWake _, _ => keepsRole_dozeWake _ _
  | .seatAssert _, _ => keepsRole_seatAssert _ _
  | .seatDrop _, _ => keepsRole_seatDrop _ _
  | .seatQual _, _ => keepsRole_seatQual _ _
  | .seatLoss _, _ => keepsRole_seatLoss _ _
  | .aqExpire _, _ => keepsRole_aqExpire _ _
  | .restartOk _, _ => keepsRole_restartOk _ _
  | .en0 _, _ => keepsRole_en0 _ _
  | .en1 _, _ => keepsRole_en1 _ _
  | .requeue _, _ => keepsRole_requeue _ _
  | .rampDone _, _ => keepsRole_rampDone _ _
  | .limitWin _, _ => keepsRole_limitWin _ _
  | .capWin _, _ => keepsRole_capWin _ _
  | .noWin _, _ => keepsRole_noWin _ _
  | .ilimExpire _, _ => keepsRole_ilimExpire _ _
  | .readmit _, _ => keepsRole_readmit _ _
  | .retryExpire _, _ => keepsRole_retryExpire _ _
  | .loopCycle _ _ _, _ => keepsRole_loopCycle _ _ _ _
  | .thermalModelStep _, _ => keepsRole_thermalModelStep _ _
  | .hardtrip _ _, _ => keepsRole_hardtrip _ _ _
  | .follow _, _ => keepsRole_follow _ _
  | .gateStall _, _ => keepsRole_gateStall _ _
  | .fetShort _, _ => keepsRole_fetShort _ _
  | .modelMismatch _, _ => keepsRole_modelMismatch _ _
  | .busWindowQualify _, _ => keepsRole_busWindowQualify _ _
  | .currentSample _ _, _ => keepsRole_currentSample _ _ _
  | .cvbEntrySample _ _ _, _ => keepsRole_cvbEntrySample _ _ _ _
  | .filterOutput _ _, _ => keepsRole_filterOutput _ _ _
  | .sliceVisitEnd _ _ _, _ => keepsRole_sliceVisitEnd _ _ _ _
  | .openWireTest _ _ _, _ => keepsRole_openWireTest _ _ _ _
  | .trendIntervalBoundary _, _ => keepsRole_trendIntervalBoundary _ _
  | .irangeApply _, _ => keepsRole_irangeApply _ _
  | .directConvGo _, _ => keepsRole_directConvGo _ _
  | .convstEdge _ _, _ => keepsRole_convstEdge _ _ _
  | .directConvDone _ _, _ => keepsRole_directConvDone _ _ _
  | .convRead _, _ => keepsRole_convRead _ _
  | .captureTrigger _ _ _, _ => keepsRole_captureTrigger _ _ _ _
  | .captureForce _, _ => keepsRole_captureForce _ _
  | .captureAbort _, _ => keepsRole_captureAbort _ _
  | .captureEnd _, _ => keepsRole_captureEnd _ _
  | .traceArm _ _ _, _ => keepsRole_traceArm _ _ _ _
  | .traceForce _, _ => keepsRole_traceForce _ _
  | .traceDone _, _ => keepsRole_traceDone _ _
  | .budgetCycle, _ => keepsRole_budgetCycle _
  | .staggerSlot, _ => keepsRole_staggerSlot _
  | .queueLimitExpire _, _ => keepsRole_queueLimitExpire _ _
  | .gstartGo, _ => keepsRole_gstartGo _
  | .busMinShed, _ => keepsRole_busMinShed _
  | .busMinCrossing, _ => keepsRole_busMinCrossing _
  | .holdupTrigger _, _ => keepsRole_holdupTrigger _ _
  | .holdupStageStart, _ => keepsRole_holdupStageStart _
  | .holdupStageEnd, _ => keepsRole_holdupStageEnd _
  | .holdupReturn, _ => keepsRole_holdupReturn _
  | .energyCheckpoint, _ => keepsRole_energyCheckpoint _
  | .checkpointReadback _, _ => keepsRole_checkpointReadback _ _
  | .refWatchCheck, _ => keepsRole_refWatchCheck _
  | .warmUpComplete, _ => keepsRole_warmUpComplete _
  | .heaterFault, _ => keepsRole_heaterFault _
  | .calStart _, _ => keepsRole_calStart _ _
  | .calAbort, _ => keepsRole_calAbort _
  | .calPhaseEnd _, _ => keepsRole_calPhaseEnd _ _
  | .calStabilityCheck, _ => keepsRole_calStabilityCheck _
  | .calSlot _ _ _, _ => keepsRole_calSlot _ _ _ _
  | .calStore _ _, _ => keepsRole_calStore _ _ _
  | .calEpochApply, _ => keepsRole_calEpochApply _
  | .calDueExpire, _ => keepsRole_calDueExpire _
  | .benchReady, _ => keepsRole_benchReady _
  | .benchTrig, _ => keepsRole_benchTrig _
  | .benchZero, _ => keepsRole_benchZero _
  | .benchScanCommit _ _, _ => keepsRole_benchScanCommit _ _ _
  | .benchRestEnd _, _ => keepsRole_benchRestEnd _ _
  | .ppsPulse, _ => keepsRole_ppsPulse _
  | .ppsMissing, _ => keepsRole_ppsMissing _
  | .rateTimeout, _ => keepsRole_rateTimeout _
  | .timebaseStep, _ => keepsRole_timebaseStep _
  | .tbArm, _ => keepsRole_tbArm _
  | .tbNow, _ => keepsRole_tbNow _
  | .tbAlign, _ => keepsRole_tbAlign _
  | .tbCancel, _ => keepsRole_tbCancel _
  | .clkTbReturn, _ => keepsRole_clkTbReturn _
  | .timerTick, _ => keepsRole_timerTick _
  | .timerCapture _ _ _, _ => keepsRole_timerCapture _ _ _ _
  | .timerReleaseGo _, _ => keepsRole_timerReleaseGo _ _
  | .timerReleaseStart, _ => keepsRole_timerReleaseStart _
  | .fanPwmReload _, _ => keepsRole_fanPwmReload _ _
  | .fanStall _, _ => keepsRole_fanStall _ _
  | .trendBlock, _ => keepsRole_trendBlock _
  | .ledgerBlockClose, _ => keepsRole_ledgerBlockClose _
  | .signedCheckpoint _, _ => keepsRole_signedCheckpoint _ _
  | .trendStripeWrite, _ => keepsRole_trendStripeWrite _
  | .ledgerPageWrite, _ => keepsRole_ledgerPageWrite _
  | .capdataWrite, _ => keepsRole_capdataWrite _
  | .nvmeCommandComplete _ _, _ => keepsRole_nvmeCommandComplete _ _ _
  | .nvmeCommandTimeout _ _, _ => keepsRole_nvmeCommandTimeout _ _ _
  | .smartPoll _ _ _ _, _ => keepsRole_smartPoll _ _ _ _ _
  | .deviceLinkUp _ _, _ => keepsRole_deviceLinkUp _ _ _
  | .deviceLinkLoss _, _ => keepsRole_deviceLinkLoss _ _
  | .deviceEject _, _ => keepsRole_deviceEject _ _
  | .devicePrepare _, _ => keepsRole_devicePrepare _ _
  | .deviceCancel _, _ => keepsRole_deviceCancel _ _
  | .resilverDone _, _ => keepsRole_resilverDone _ _
  | .recorderFlush, _ => keepsRole_recorderFlush _
  | .recorderReadGo _ _, _ => keepsRole_recorderReadGo _ _ _
  | .recorderReadDone _ _, _ => keepsRole_recorderReadDone _ _ _
  | .basketReinit, _ => keepsRole_basketReinit _
  | .recorderStart _, _ => keepsRole_recorderStart _ _
  | .bluliStateChange _, _ => keepsRole_bluliStateChange _ _
  | .bluliLoopSnapshot _ _, _ => keepsRole_bluliLoopSnapshot _ _ _
  | .bluliIncrement _ _, _ => keepsRole_bluliIncrement _ _ _
  | .bluliLedgerRecord _, _ => keepsRole_bluliLedgerRecord _ _
  | .bluliSeamControl _, _ => keepsRole_bluliSeamControl _ _
  | .bluliBulkSync _ _, _ => keepsRole_bluliBulkSync _ _ _
  | .bluliRetransmit _, _ => keepsRole_bluliRetransmit _ _
  | .laneDown _, _ => keepsRole_laneDown _ _
  | .loopSnapshot _, _ => keepsRole_loopSnapshot _ _
  | .bulkSyncComplete, _ => keepsRole_bulkSyncComplete _
  | .handover, _ => keepsRole_handover _
  | .seamRequest _, _ => keepsRole_seamRequest _ _
  | .seamTP, _ => keepsRole_seamTP _
  | .modSeatLoss, _ => keepsRole_modSeatLoss _
  | .pairAddrArm, _ => keepsRole_pairAddrArm _
  | .dieReset _, _ => keepsRole_dieReset _ _
  | .dieRejoin _, _ => keepsRole_dieRejoin _ _
  | .dieRejoinTimeout _, _ => keepsRole_dieRejoinTimeout _ _
  | .markerLoss _, _ => keepsRole_markerLoss _ _
  | .gateKeepEnd _, _ => keepsRole_gateKeepEnd _ _
  | .imgEraseB _, _ => keepsRole_imgEraseB _ _
  | .imgProgram _, _ => keepsRole_imgProgram _ _
  | .imgRead _ _, _ => keepsRole_imgRead _ _ _
  | .patch _, _ => keepsRole_patch _ _
  | .patchAccept _ _, _ => keepsRole_patchAccept _ _ _
  | .patchSafePoint _, _ => keepsRole_patchSafePoint _ _
  | .patchMeteringApply, _ => keepsRole_patchMeteringApply _
  | .patchSlotCopy _, _ => keepsRole_patchSlotCopy _ _
  | .starchBurn _, _ => keepsRole_starchBurn _ _
  | .starchSeal _, _ => keepsRole_starchSeal _ _
  | .starchReload, _ => keepsRole_starchReload _
  | .feederDiscovery _ _, _ => keepsRole_feederDiscovery _ _ _
  | .fpStatusRead _ _, _ => keepsRole_fpStatusRead _ _ _
  | .fpTelemetryRead _, _ => keepsRole_fpTelemetryRead _ _
  | .fpStepWrite _ _, _ => keepsRole_fpStepWrite _ _ _
  | .fpArbLost _ _, _ => keepsRole_fpArbLost _ _ _
  | .arbCond _ _ _ _, _ => keepsRole_arbCond _ _ _ _ _
  | .fpHangRecovery _, _ => keepsRole_fpHangRecovery _ _
  | .feederCommHoldExpire _, _ => keepsRole_feederCommHoldExpire _ _
  | .balanceUpdate, _ => keepsRole_balanceUpdate _
  | .bbuPinMismatch _ _, _ => keepsRole_bbuPinMismatch _ _ _
  | .capability _, _ => keepsRole_capability _ _
  | .query _ _, _ => keepsRole_query _ _ _
  | .statusByte _, _ => keepsRole_statusByte _ _
  | .statusWord _, _ => keepsRole_statusWord _ _
  | .pmbusRevision _, _ => keepsRole_pmbusRevision _ _
  | .mfrId _, _ => keepsRole_mfrId _ _
  | .mfrModel _, _ => keepsRole_mfrModel _ _
  | .mfrRevision _, _ => keepsRole_mfrRevision _ _
  | .mfrSerial _, _ => keepsRole_mfrSerial _ _
  | .winAddrWrite _ _, _ => keepsRole_winAddrWrite _ _ _
  | .winAddrRead _, _ => keepsRole_winAddrRead _ _
  | .winDataRead _ _, _ => keepsRole_winDataRead _ _ _
  | .winAutoincRead _ _ _, _ => keepsRole_winAutoincRead _ _ _ _
  | .hostPortTimeout _, _ => keepsRole_hostPortTimeout _ _
  | .attentionPull _ _, _ => keepsRole_attentionPull _ _ _
  | .alertResponse _ _, _ => keepsRole_alertResponse _ _ _
  | .tempReading _, _ => keepsRole_tempReading _ _
  | .braceEnter, _ => keepsRole_braceEnter _
  | .braceEnd, _ => keepsRole_braceEnd _
  | .aux12Reset, _ => keepsRole_aux12Reset _
  | .hubWatchdog, _ => keepsRole_hubWatchdog _
  | .dieWatchdog _, _ => keepsRole_dieWatchdog _ _
  | .operatingHour, _ => keepsRole_operatingHour _
  | .laneUp _, _ => keepsRole_laneUp _ _
  | .acfailNClear, _ => keepsRole_acfailNClear _
  | .aux12WarnRise, _ => keepsRole_aux12WarnRise _
  | .seatDeassert _, _ => keepsRole_seatDeassert _ _
  | .modSeatContact _ _, _ => keepsRole_modSeatContact _ _ _
  | .aux12Measurement _, _ => keepsRole_aux12Measurement _ _
  | .moduleStart _, h | .soloDecision, h | .registerWrite _ _, h | .hubRestart _, h | .benchEnter, h | .benchExit, h |
    .bluliHeartbeat _, h | .heartbeatLoss, h | .bluliConfigWrite _, h | .standdown, h | .seamTS, h | .seamConfirm, h |
    .splitResolve, h | .modSeatQual, h | .winDataWrite _ _, h | .winAutoincWrite _ _, h => nomatch h

/-- Settles O9: no effect of another command touches the time or the bank, and no command but those named sets the role. -/
theorem moduleFrame : Obligations.ModuleFrame := by
  constructor
  · intro i s t h
    obtain ⟨u, hu, hacts⟩ := exec_answers i s
    cases hu.symm.trans h
    exact ⟨fun hp => (hp ▸ hacts).time_eq, fun hq => (hq ▸ hacts).starch_eq⟩
  · intro i s t h hi
    exact keepsRole_exec s i hi t h

end Sys2Proof.Proofs
end

section
/-!
SUPPORT. What an event of a channel leaves inside the engines, the dies, the channels, the budget, the recorder and the registers: `still`
takes out what such an event may change there, as `outer` does for the body, and every operation of an event leaves it as it was.
-/

namespace Sys2Proof.Proofs

open Sys2Proof Sys2Proof.Machine Sys2Proof.Safety Sys2Proof.Laws

/-- The registers of HUB that an event of a channel may write. -/
def ofEvent (f : Fld) : Bool :=
  match f with
  | .alertChleaf | .recCapnoNo | .metaBenchdieBusy | .chFfstatCMeas | .chFfstatFfI | .chCapPCap | .chLastTripTripReason |
    .chLastTripStateAtTrip | .chTriptimeTime | .chTripcntLatches | .chTripcntTrips | .chByieldFavoured | .chByieldGbroken |
    .budgetLastrelTime => true
  | _ => false

@[simp] theorem ofEvent_named : ofEvent .alertChleaf = true ∧ ofEvent .recCapnoNo = true ∧ ofEvent .metaBenchdieBusy = true ∧
    ofEvent .chFfstatCMeas = true ∧ ofEvent .chFfstatFfI = true ∧ ofEvent .chCapPCap = true ∧ ofEvent .chLastTripTripReason = true ∧
    ofEvent .chLastTripStateAtTrip = true ∧ ofEvent .chTriptimeTime = true ∧ ofEvent .chTripcntLatches = true ∧
    ofEvent .chTripcntTrips = true ∧ ofEvent .chByieldFavoured = true ∧ ofEvent .chByieldGbroken = true ∧
    ofEvent .budgetLastrelTime = true := ⟨rfl, rfl, rfl, rfl, rfl, rfl, rfl, rfl, rfl, rfl, rfl, rfl, rfl, rfl⟩

/-- An engine with everything taken out that an event of a channel may change. -/
def stillEng (g : Eng) : Eng :=
  { g with
    gate := .sink, fastFrom := 0, hiZAfter := false, tripLatch := false, dsel := 0, win := 0, sat := false, frozen := false, due := .no
    ref := 0, rNum := 0, rDen := 0, rFall := false, rampEnd := false, refStart := 0, outStart := 0, qSum := 0, measuring := false, x := []
    wins := [], freeWins := 0, doneSince := none, limFrom := none, feSince := none, stallNs := 0, episode := 0, epiRun := false
    fsFrom := none, outMin := 0, shortSince := none, tripPulse := false, m := { g.m with cur := { g.m.cur with hold := false } } }

/-- A die with everything taken out that an event of a channel may change. -/
def stillDie (d : Die) : Die :=
  { d with regs := [], down := [], seqDn := 0, seqUp := 0, lastDn := none, lastUp := none, urg := Die.reset.urg
           visA := Die.reset.visA, visB := Die.reset.visB, scanZero := false, scanCond := 0 }

/-- A channel with everything taken out that an event may change: its raw seat, its use and what it has measured stay. -/
def stillCh (c : Chan) : Chan := { Chan.reset with used := c.used, seatRaw := c.seatRaw, pMeas := c.pMeas }

/-- The budget with everything taken out that an event of a channel may change. -/
def stillBud (x : Budget) : Budget := { x with plan := none, tLast := none, cutsFor := none }

/-- The recorder with everything taken out that an event of a channel may change. -/
def stillRcd (x : Recorder) : Recorder := { x with stream := [], sharedSince := [], localSince := [], caps := [] }

/-- What an event of a channel leaves. -/
structure Still where
  eng : Nat → Eng
  die : Nat → Die
  ch : Nat → Chan
  bud : Budget
  rcd : Recorder
  rd : Fld → Nat → Nat

/-- What an event of a channel leaves of a body. -/
def still (b : Body) : Still :=
  { eng := fun n => stillEng (b.en n), die := fun k => stillDie (b.fe k), ch := fun n => stillCh (b.ch n), bud := stillBud b.bud
    rcd := stillRcd b.rcd, rd := fun f i => if ofEvent f then 0 else b.rd f i }

/-- The change of an engine is one that an event may make. -/
def EngStill (f : Eng → Eng) : Prop := ∀ g, stillEng (f g) = stillEng g

/-- The change of a die is one that an event may make. -/
def DieStill (f : Die → Die) : Prop := ∀ d, stillDie (f d) = stillDie d

/-- The change of a channel is one that an event may make. -/
def ChStill (f : Chan → Chan) : Prop := ∀ c, stillCh (f c) = stillCh c

@[simp] theorem engStill_iff (f : Eng → Eng) : EngStill f ↔ ∀ g, stillEng (f g) = stillEng g := .rfl
@[simp] theorem dieStill_iff (f : Die → Die) : DieStill f ↔ ∀ d, stillDie (f d) = stillDie d := .rfl
@[simp] theorem chStill_iff (f : Chan → Chan) : ChStill f ↔ ∀ c, stillCh (f c) = stillCh c := .rfl

/-- Each turn of a fold leaves it. -/
def TurnStill {α : Type} (f : Body → α → Body) : Prop := ∀ b a, still (f b a) = still b

@[simp] theorem turnStill_iff {α : Type} (f : Body → α → Body) : TurnStill f ↔ ∀ b a, still (f b a) = still b := .rfl

@[simp] theorem still_foldl {α : Type} (f : Body → α → Body) (l : List α) (b : Body) (hf : TurnStill f) : still (l.foldl f b) = still b :=
  part_foldl still f hf l b

@[simp] theorem still_forEach (b : Body) (l : List Nat) (f : Nat → Body → Body) (hf : TurnStill fun b n => f n b) :
    still (b.forEach l f) = still b :=
  part_foldl still _ hf l b

@[simp] theorem still_wr (b : Body) (f : Fld) (i v : Nat) (hf : ofEvent f = true) : still (b.wr f i v) = still b := by
  unfold still
  congr 1
  funext g j
  split
  · rfl
  · exact rd_wr_fld _ _ _ _ _ _ (by rintro rfl; contradiction)

@[simp] theorem still_bump (b : Body) (f : Fld) (i : Nat) (hf : ofEvent f = true) : still (b.bump f i) = still b := still_wr _ _ _ _ hf

@[simp] theorem still_onEng (n : Nat) (f : Eng → Eng) (b : Body) (hf : EngStill f) : still (b.onEng n f) = still b := by
  unfold still
  congr 1
  funext m
  rw [en_onEng]
  split
  next h => rw [hf, en_congr b h]
  · rfl

@[simp] theorem still_onDie (k : Nat) (f : Die → Die) (b : Body) (hf : DieStill f) : still (b.onDie k f) = still b := by
  unfold still
  congr 1
  funext m
  rw [fe_onDie]
  split
  next h => rw [hf, fe_congr b h]
  · rfl

@[simp] theorem still_onCh (n : Nat) (f : Chan → Chan) (b : Body) (hf : ChStill f) : still (b.onCh n f) = still b := by
  unfold still
  congr 1
  funext m
  rw [ch_onCh]
  split
  next h => rw [hf, ch_congr b h]
  · rfl

theorem still_twin (b : Body) (x : Twin) : still { b with twin := x } = still b := (rfl)
@[simp] theorem still_dozeLeaves (b : Body) (x : List (Nat × Nat)) : still { b with dozeLeaves := x } = still b := (rfl)
theorem still_bud (b : Body) (x : Budget) (h : stillBud x = stillBud b.bud) : still { b with bud := x } = still b := by
  unfold still
  congr 1
theorem still_rcd (b : Body) (x : Recorder) (h : stillRcd x = stillRcd b.rcd) : still { b with rcd := x } = still b := by
  unfold still
  congr 1

@[simp] theorem still_dwr (k : Nat) (f : Fld) (i v : Nat) (b : Body) : still (b.dwr k f i v) = still b :=
  still_onDie _ _ _ fun _ => rfl

@[simp] theorem stillEng_startRamp (g : Eng) : stillEng g.startRamp = stillEng g := rfl
@[simp] theorem stillEng_stop (g : Eng) : stillEng g.stop = stillEng g := rfl
@[simp] theorem stillEng_awaitRamp (w : RampWait) (g : Eng) : stillEng (g.awaitRamp w) = stillEng g := rfl
@[simp] theorem stillEng_resumeRamp (g : Eng) : stillEng g.resumeRamp = stillEng g := rfl
@[simp] theorem stillEng_endRamp (g : Eng) : stillEng g.endRamp = stillEng g := rfl
@[simp] theorem stillEng_endLimit (g : Eng) : stillEng g.endLimit = stillEng g := rfl
@[simp] theorem stillEng_startLimit (now : Nat) (g : Eng) : stillEng (g.startLimit now) = stillEng g := rfl

@[simp] theorem stillEng_latch (now : Nat) (g : Eng) : stillEng (g.latch now) = stillEng g := by
  unfold Eng.latch
  split
  · rfl
  · split <;> rfl

@[simp] theorem stillEng_latchEng (now : Nat) (b : Body) (g : Eng) : stillEng (b.latchEng now g) = stillEng g := by
  unfold Body.latchEng
  dsimp only
  split
  · exact stillEng_latch now g
  · exact stillEng_latch now g

/-- What a die does with the engines of a channel at a change of its state. -/
@[simp] theorem stillEng_onState (now : Nat) (old new : ChState) (g : Eng) : stillEng (g.onState now old new) = stillEng g := by
  unfold Eng.onState
  by_cases hheld : new = .held
  · rw [if_pos hheld]
  · rw [if_neg hheld]
    split
    · split <;> rfl
    · split
      · rfl
      · split
        · split <;> rfl
        · extract_lets g1 g2 g3
          have h1 : stillEng g1 = stillEng g := by unfold g1; split <;> rfl
          have h2 : stillEng g2 = stillEng g := by unfold g2; split <;> [exact h1; exact h1]
          have h3 : stillEng g3 = stillEng g := by unfold g3; split <;> [exact h2; exact h2]
          exact h3

/-- What a die does with the engines of a channel that goes on after a hold. -/
theorem stillEng_release (prior : ChState) (g : Eng) :
    stillEng (if g.tripLatch then { g with gate := g.offGate }
      else if prior = .ramp then g.resumeRamp
      else if prior.driven then { g with gate := .driven, stallNs := 0 }
      else { g with gate := g.offGate }) = stillEng g := by
  split
  · rfl
  · split
    · rfl
    · split <;> rfl

@[simp] theorem stillDie_frame (epoch : Nat) (up : Bool) (d : Die) (f : Nat × List Nat) : stillDie (d.frame epoch up f) = stillDie d := by
  unfold Die.frame
  split <;> rfl
@[simp] theorem still_raiseCh1 (n : Nat) (l : ChLeaf) (b : Body) : still (b.raiseCh1 n l) = still b := by
  unfold Body.raiseCh1
  split
  · rfl
  · split
    · rfl
    · exact still_wr _ _ _ _ rfl
@[simp] theorem still_raiseCh (n : Nat) (l : ChLeaf) (b : Body) : still (b.raiseCh n l) = still b := by
  simp [Body.raiseCh]
@[simp] theorem still_emit (r : LRec) (b : Body) : still (b.emit r) = still b := by
  refine still_rcd _ _ ?_
  split <;> rfl
@[simp] theorem still_onTwin (f : Twin → Twin) (b : Body) : still (b.onTwin f) = still b := still_twin ..
@[simp] theorem still_sendBluli (kind : Nat) (content : List Nat) (b : Body) : still (b.sendBluli kind content) = still b := by
  simp [Body.sendBluli, apply_ite still]
@[simp] theorem still_shared (r : LRec) (b : Body) : still (b.shared r) = still b := by
  simp [Body.shared, apply_ite still]
@[simp] theorem still_event (time code chan arg0 arg1 arg2 : Nat) (b : Body) : still (b.event time code chan arg0 arg1 arg2) = still b := by
  simp [Body.event]
@[simp] theorem still_framed (k : Nat) (up : Bool) (fs : List (Nat × List Nat)) (b : Body) : still (b.framed k up fs) = still b := by
  refine still_onDie _ _ _ fun d => ?_
  induction fs generalizing d with
  | nil => rfl
  | cons f fs ih => rw [List.foldl_cons, ih, stillDie_frame]
@[simp] theorem still_sendDown (k : Nat) (m : DownMsg) (b : Body) : still (b.sendDown k m) = still b := still_onDie _ _ _ fun _ => rfl
@[simp] theorem still_fwd (n : Nat) (fs : List (Fld × Nat)) (b : Body) (hf : ∀ f ∈ fs, ofEvent f.1 = true) : still (b.fwd n fs) = still b := by
  unfold Body.fwd
  rw [still_sendDown]
  induction fs generalizing b with
  | nil => rfl
  | cons f fs ih =>
    rw [List.foldl_cons, ih _ fun g hg => hf g (List.mem_cons_of_mem _ hg), still_wr _ _ _ _ (hf f List.mem_cons_self)]
@[simp] theorem still_formPlan (e : Env) (b : Body) : still (b.formPlan e) = still b := by
  unfold Body.formPlan
  split
  · rfl
  · exact still_bud _ _ rfl
@[simp] theorem still_span (time kind edge mask : Nat) (b : Body) : still (b.span time kind edge mask) = still b := by
  simp [Body.span]
@[simp] theorem still_onPath (n : Nat) (f : MPath → MPath) (b : Body)
    (hf : ∀ m, ({ f m with cur := { (f m).cur with hold := false } } : MPath) = { m with cur := { m.cur with hold := false } }) :
    still (b.onPath n f) = still b :=
  still_onEng _ _ _ fun g => congrArg (fun m : MPath => ({ stillEng g with m := m } : Eng)) (hf g.m)
@[simp] theorem still_onUrg (k : Nat) (f : Urgent → Urgent) (b : Body) : still (b.onUrg k f) = still b := still_onDie _ _ _ fun _ => rfl
@[simp] theorem still_startCap (e : Env) (k : Nat) (b : Body) : still (b.startCap e k) = still b := by
  unfold Body.startCap
  split
  · rfl
  · exact (still_wr _ _ _ _ rfl).trans (still_rcd _ _ rfl)
@[simp] theorem still_onVisit (k : Nat) (cvb : Bool) (f : VisitRun → VisitRun) (b : Body) : still (b.onVisit k cvb f) = still b := by
  refine still_onDie _ _ _ fun d => ?_
  split <;> rfl
@[simp] theorem still_visitsPause (e : Env) (k : Nat) (b : Body) : still (b.visitsPause e k) = still b := by
  simp [Body.visitsPause]
@[simp] theorem still_emptyScan (e : Env) (k : Nat) (b : Body) : still (b.emptyScan e k) = still b := by
  simp [Body.emptyScan, apply_ite still, stillDie]
@[simp] theorem still_urgentStart (e : Env) (k : Nat) (b : Body) : still (b.urgentStart e k) = still b := by
  unfold Body.urgentStart
  extract_lets b1 u go b2 b3
  have hgo : ∀ r c, still (go r c) = still c := by
    intro r c
    unfold go
    rw [still_dwr, still_onUrg, still_visitsPause]
  have h1 : still b1 = still b := still_emptyScan ..
  have h3 : still b3 = still b := by
    unfold b3 b2
    rw [still_startCap, still_dwr, still_dwr, hgo, still_onUrg, h1]
  clear_value go
  split
  · exact h1
  · split
    · split
      · rw [still_span, still_forEach _ _ _ (by exact fun _ _ => still_onPath _ _ _ fun _ => rfl), h3]
      · exact h3
    · split
      · rw [still_wr _ _ _ _ rfl, hgo, still_onDie _ _ _ (by exact fun _ => rfl), h1]
      · split
        · rw [hgo, still_onUrg, h1]
        · exact h1
@[simp] theorem still_capture (e : Env) (k src unit : Nat) (b : Body) : still (b.capture e k src unit) = still b := by
  simp [Body.capture, apply_ite still]
@[simp] theorem still_capTrigger (e : Env) (k src unit : Nat) (b : Body) : still (b.capTrigger e k src unit) = still b := by
  simp [Body.capTrigger, apply_ite still]
@[simp] theorem still_capTriggerAll (e : Env) (k src unit : Nat) (b : Body) : still (b.capTriggerAll e k src unit) = still b := by
  simp [Body.capTriggerAll, apply_ite still]
@[simp] theorem still_dropMeas (n : Nat) (b : Body) : still (b.dropMeas n) = still b := by
  unfold Body.dropMeas
  split
  · exact (still_wr _ _ _ _ rfl).trans (still_onEng _ _ _ (by exact fun _ => rfl))
  · rfl
@[simp] theorem still_endCap (n : Nat) (b : Body) : still (b.endCap n) = still b := by
  unfold Body.endCap
  split
  · exact (still_fwd _ _ _ (by simp)).trans (still_onCh _ _ _ (by exact fun _ => rfl))
  · rfl
@[simp] theorem still_cutWide (k : Nat) (b : Body) : still (b.cutWide k) = still b := by
  simp [Body.cutWide, apply_ite still]
@[simp] theorem still_latchDie (e : Env) (n : Nat) (b : Body) : still (b.latchDie e n) = still b := by
  refine still_forEach _ _ _ fun b m => ?_
  dsimp only
  split
  · rfl
  · rw [still_capTriggerAll]
    exact still_onEng _ _ _ fun g => stillEng_latchEng e.now b g
@[simp] theorem still_landFields (k : Nat) (b : Body) : still (b.landFields k) = still b := by
  unfold Body.landFields
  rw [still_framed, still_framed]
  exact still_onDie _ _ _ fun _ => rfl
@[simp] theorem still_grantDie (e : Env) (n : Nat) (b : Body) : still (b.grantDie e n) = still b := by
  unfold Body.grantDie
  extract_lets w b1
  have h1 : still b1 = still b := by
    unfold b1
    split
    · exact still_onUrg ..
    · rfl
  rw [still_forEach, h1]
  refine fun b m => still_onEng _ _ _ fun g => ?_
  dsimp only
  split <;> rfl
@[simp] theorem still_stateDie (e : Env) (n : Nat) (old new : ChState) (b : Body) : still (b.stateDie e n old new) = still b := by
  unfold Body.stateDie
  extract_lets b1
  have h1 : still b1 = still b := still_forEach _ _ _ fun c m => still_onEng _ _ _ fun g => stillEng_onState e.now old new g
  split
  · rw [still_cutWide, h1]
  · exact h1
@[simp] theorem still_releaseDie (n : Nat) (prior : ChState) (b : Body) : still (b.releaseDie n prior) = still b := still_forEach _ _ _ fun _ _ => still_onEng _ _ _ fun g => stillEng_release prior g
@[simp] theorem still_actDie (e : Env) (m : DownMsg) (b : Body) : still (b.actDie e m) = still b := by
  unfold Body.actDie
  split <;> simp
@[simp] theorem still_tell (e : Env) (k : Nat) (m : DownMsg) (b : Body) : still (b.tell e k m) = still b := by
  simp [Body.tell, apply_ite still]
@[simp] theorem still_enter (e : Env) (n : Nat) (st : ChState) (reason : Nat) (b : Body) : still (b.enter e n st reason) = still b := by
  simp [Body.enter, apply_ite still, stillCh]
@[simp] theorem still_setReason (n reason : Nat) (b : Body) : still (b.setReason n reason) = still b := by
  simp [Body.setReason, stillCh]
@[simp] theorem still_writeTrip (e : Env) (n reason t : Nat) (b : Body) : still (b.writeTrip e n reason t) = still b := by
  unfold Body.writeTrip
  rw [still_wr _ _ _ _ rfl, still_wr _ _ _ _ rfl, still_wr _ _ _ _ rfl, still_onCh _ _ _ (by exact fun _ => rfl)]
@[simp] theorem still_applyTrip (e : Env) (n reason t : Nat) (b : Body) : still (b.applyTrip e n reason t) = still b := by
  unfold Body.applyTrip
  extract_lets st pol dmax latching shown new b1 b2 b3 tr bus paused b4 b5
  have h2 : still b2 = still b := by
    unfold b2 b1
    rw [still_raiseCh, still_bump _ _ _ rfl, still_tell, still_writeTrip]
  have h3 : still b3 = still b := by
    unfold b3
    split
    · rw [still_raiseCh, still_bump _ _ _ rfl, h2]
    · exact h2
  have h5 : still b5 = still b := by
    unfold b5 b4
    rw [still_onCh _ _ _ (by exact fun _ => rfl), still_enter, h3]
  split
  · rfl
  · rw [still_event, h5]
@[simp] theorem still_applyShort (e : Env) (n t : Nat) (b : Body) : still (b.applyShort e n t) = still b := by
  unfold Body.applyShort
  split
  · rfl
  · rfl
  · rfl
  · dsimp only
    rw [still_event, still_forEach, still_onCh _ _ _ (by exact fun _ => rfl), still_enter, still_raiseCh, still_writeTrip]
    intro b m
    dsimp only
    rw [still_capTriggerAll]
    exact still_onEng _ _ _ fun _ => rfl
@[simp] theorem still_yieldTo (e : Env) (n broken favoured : Nat) (new : ChState) (b : Body) : still (b.yieldTo e n broken favoured new) = still b := by
  unfold Body.yieldTo
  rw [still_event, still_raiseCh, still_wr _ _ _ _ rfl, still_wr _ _ _ _ rfl]
@[simp] theorem still_refuse (e : Env) (n reason : Nat) (b : Body) : still (b.refuse e n reason) = still b := by
  simp [Body.refuse, apply_ite still]
@[simp] theorem still_shed (e : Env) (n reason : Nat) (b : Body) : still (b.shed e n reason) = still b := by
  simp [Body.shed, stillCh]
@[simp] theorem still_enqueue (e : Env) (n : Nat) (b : Body) : still (b.enqueue e n) = still b := by
  unfold Body.enqueue
  dsimp only
  split
  · rw [still_shed, still_enter]
  · split
    · rw [still_refuse, still_enter]
    · rw [still_formPlan, still_enter]
@[simp] theorem still_trySeat (e : Env) (n : Nat) (b : Body) : still (b.trySeat e n) = still b := by
  simp [Body.trySeat, apply_ite still]
@[simp] theorem still_stampSeat (e : Env) (n t : Nat) (b : Body) : still (b.stampSeat e n t) = still b := by
  simp [Body.stampSeat, stillCh]
@[simp] theorem still_grant (e : Env) (n : Nat) (b : Body) : still (b.grant e n) = still b := by
  unfold Body.grant
  extract_lets b1 b2 b3 b4 b5
  have h1 : still b1 = still b := by
    unfold b1
    rw [still_onCh _ _ _ (by exact fun _ => rfl), still_endCap]
  have h5 : still b5 = still b := by
    unfold b5 b4 b3 b2
    rw [still_wr _ _ _ _ rfl, still_onCh _ _ _ (by exact fun _ => rfl), still_tell, still_enter, still_fwd _ _ _ (by simp), h1]
  exact (still_bud _ _ rfl).trans h5
@[simp] theorem still_enOn (e : Env) (n : Nat) (b : Body) : still (b.enOn e n) = still b := by
  simp [Body.enOn, apply_ite still]
@[simp] theorem still_cleared (e : Env) (n cause : Nat) (b : Body) : still (b.cleared e n cause) = still b := by
  simp [Body.cleared]
@[simp] theorem still_aqQualified (e : Env) (n : Nat) (b : Body) : still (b.aqQualified e n) = still b := by
  unfold Body.aqQualified
  extract_lets b1
  have h1 : still b1 = still b := still_onCh _ _ _ (by exact fun _ => rfl)
  split
  case h_4 => rw [still_onCh _ _ _ (by exact fun _ => rfl), still_enter, h1]
  case h_5 => rw [still_cleared, still_onCh _ _ _ (by exact fun _ => rfl), still_enter, h1]
  case h_6 => rw [still_setReason, h1]
  case h_7 => exact h1
  all_goals exact (still_onCh _ _ _ (by exact fun _ => rfl)).trans h1
@[simp] theorem still_aqAtQual (e : Env) (n : Nat) (b : Body) : still (b.aqAtQual e n) = still b := by
  unfold Body.aqAtQual
  split
  · rfl
  · dsimp only
    split
    · exact still_onCh _ _ _ (by exact fun _ => rfl)
    · exact still_aqQualified ..
@[simp] theorem still_startAq (n t : Nat) (b : Body) : still (b.startAq n t) = still b := by
  simp [Body.startAq, stillCh]
@[simp] theorem still_stopSeat (n : Nat) (b : Body) : still (b.stopSeat n) = still b := by
  simp [Body.stopSeat, stillEng, stillCh]
@[simp] theorem still_benchIn (e : Env) (n : Nat) (b : Body) : still (b.benchIn e n) = still b := by
  simp [Body.benchIn, stillCh]
@[simp] theorem still_restored (e : Env) (n : Nat) (st : ChState) (b : Body) : still (b.restored e n st) = still b := by
  simp [Body.restored, apply_ite still, stillEng, stillCh]
@[simp] theorem still_imageOk (e : Env) (n : Nat) (b : Body) : still (b.imageOk e n) = still b := by
  unfold Body.imageOk
  extract_lets raw b1 b2 b3 b4
  have h1 : still b1 = still b := by
    unfold b1
    split
    · exact still_cleared ..
    · rfl
  have h2 : still b2 = still b := (still_onCh _ _ _ (by exact fun _ => rfl)).trans h1
  have h3 : still b3 = still b := by
    unfold b3
    split
    · exact (still_onCh _ _ _ (by exact fun _ => rfl)).trans h2
    · exact h2
  have h4 : still b4 = still b := by
    unfold b4
    rw [still_forEach, h3]
    exact fun _ _ => (still_onCh _ _ _ (by exact fun _ => rfl)).trans (still_stopSeat ..)
  split
  · rfl
  · split
    · rw [still_onCh _ _ _ (by exact fun _ => rfl), still_restored, still_enter, still_wr _ _ _ _ rfl, still_wr _ _ _ _ rfl, h4]
    · refine Eq.trans ?_ h4
      split
      · exact (still_enter ..).trans (still_onCh _ _ _ (by exact fun _ => rfl))
      · split <;> exact (still_enter ..).trans (still_onCh _ _ _ (by exact fun _ => rfl))
@[simp] theorem still_applyEv (e : Env) (n : Nat) (ev : Ev) (t : Nat) (b : Body) : still (b.applyEv e n ev t) = still b := by
  cases ev
  case seatQual | seatLoss | en0 | en1 | hold =>
    unfold Body.applyEv
    dsimp only
    split <;> simp [apply_ite still, stillCh]
  all_goals simp [Body.applyEv, apply_ite still, stillCh]
@[simp] theorem still_releaseHold (e : Env) (n : Nat) (b : Body) : still (b.releaseHold e n) = still b := by
  simp [Body.releaseHold, apply_ite still, stillCh]
@[simp] theorem still_releaseOne (e : Env) (n r : Nat) (b : Body) : still (b.releaseOne e n r) = still b := by
  unfold Body.releaseOne
  dsimp only
  split
  · exact still_releaseHold ..
  · exact (still_setReason ..).trans (still_onCh _ _ _ (by exact fun _ => rfl))
@[simp] theorem still_breakHold (e : Env) (n : Nat) (ev : Ev) (t : Nat) (b : Body) : still (b.breakHold e n ev t) = still b := by
  simp [Body.breakHold, stillCh]
@[simp] theorem still_deliver (e : Env) (n : Nat) (ev : Ev) (t : Nat) (b : Body) : still (b.deliver e n ev t) = still b := by
  unfold Body.deliver
  dsimp only
  split
  · split
    · exact still_sendBluli ..
    · rfl
  · split
    · split
      · exact still_releaseOne ..
      · exact (still_setReason ..).trans (still_onCh _ _ _ (by exact fun _ => rfl))
      · exact still_breakHold ..
      · exact still_applyEv ..
      · exact still_onCh _ _ _ (by exact fun _ => rfl)
    · exact still_applyEv ..
/-- What an event of a channel leaves, the frames to HUB apart. -/
def stillBut (b : Body) : Still :=
  ⟨(still b).eng, fun k => { stillDie (b.fe k) with up := [] }, (still b).ch, (still b).bud, (still b).rcd, (still b).rd⟩

theorem stillBut_of_still {b c : Body} (h : still c = still b) : stillBut c = stillBut b := by
  have hdie : ∀ k, stillDie (c.fe k) = stillDie (b.fe k) := fun k => congrArg (fun x : Still => x.die k) h
  unfold stillBut
  simp only [h, hdie]

/-- A report reaches HUB at once or waits at the die. -/
theorem stillBut_report (e : Env) (n : Nat) (ev : Ev) (t : Nat) (b : Body) : stillBut (b.report e n ev t) = stillBut b := by
  unfold Body.report
  dsimp only
  split
  · exact stillBut_of_still ((still_deliver ..).trans (still_framed ..))
  · refine congrArg (fun d => (⟨(still b).eng, d, (still b).ch, (still b).bud, (still b).rcd, (still b).rd⟩ : Still)) (funext fun k => ?_)
    rw [fe_onDie]
    split
    next h => rw [fe_congr b h]; rfl
    · rfl

end Sys2Proof.Proofs
end

section
/-!
SUPPORT. A step of the thermal model (R144 to R155).
-/

namespace Sys2Proof.Proofs

open Sys2Proof Sys2Proof.Machine Sys2Proof.Safety Sys2Proof.Laws

theorem stillBut_dieTrip (e : Env) (n reason : Nat) (b : Body) : stillBut (b.dieTrip e n reason) = stillBut b := by
  unfold Body.dieTrip
  dsimp only
  split
  · rfl
  · rw [stillBut_report, stillBut_of_still (still_latchDie ..)]

/-- Equal stills hold equal engines, but for what an event may change. -/
theorem stillEng_eq {b c : Body} (h : stillBut c = stillBut b) (n : Nat) : stillEng (c.en n) = stillEng (b.en n) :=
  congrArg (fun x : Still => x.eng n) h

/-- What the thermal model holds of a channel: poles, samples, temperature and power limit. -/
def modelOf (g : Eng) : List Int × List Int × Nat × Nat := (g.poles, g.ps, g.tjEst, g.plim)

theorem modelOf_eq_of_stillBut {b c : Body} (h : stillBut c = stillBut b) (n : Nat) : modelOf (c.en n) = modelOf (b.en n) := by
  have hm := congrArg modelOf (stillEng_eq h n)
  exact hm

theorem modelOf_onEng (f : Eng → Eng) (n : Nat) (b : Body) (hf : ∀ g, modelOf (f g) = modelOf g) (m : Nat) :
    modelOf ((b.onEng n f).en m) = modelOf (b.en m) := by
  rw [en_onEng]
  split
  next h => rw [hf, en_congr b h]
  · rfl

theorem modelOf_mmTrack (e : Env) (n : Nat) (b : Body) (m : Nat) : modelOf ((b.mmTrack e n).en m) = modelOf (b.en m) := by
  unfold Body.mmTrack
  split
  · exact modelOf_onEng _ _ _ (by exact fun _ => rfl) m
  · split
    · exact modelOf_onEng _ _ _ (by exact fun _ => rfl) m
    · dsimp only
      split
      · exact (congrArg modelOf (event_en ..)).trans (modelOf_onEng _ _ _ (by exact fun _ => rfl) m)
      · exact modelOf_onEng _ _ _ (by exact fun _ => rfl) m

/-- The poles after a step (R145). -/
def stepPoles (b : Body) (n : Nat) : List Int :=
  (List.range 4).map fun i =>
    poleStep (b.drd (dieOf n) .kcoefMant (4 * n + i)) (b.drd (dieOf n) .kcoefExp (4 * n + i)) (b.drd (dieOf n) .gcoefValue (4 * n + i))
      (meanP (b.en n).ps) ((b.en n).poles.getD i 0)

/-- TJ_EST after a step (R149). -/
def stepTj (b : Body) (n : Nat) : Nat := satTemp ((b.amb n : Int) + polesTo12 ((stepPoles b n).foldl (· + ·) 0))

theorem plimOf_fst (a b c : Nat) : (plimOf a b c).1 = min a (min b c) := by
  unfold plimOf
  split
  · simp_all
  · split <;> simp_all <;> omega

theorem modelOf_thermalStep (e : Env) (n : Nat) (b : Body) :
    modelOf ((b.thermalStep e n).en n) = (stepPoles b n, [], stepTj b n,
      min (b.pTh n (stepPoles b n) (stepTj b n)) (min (b.pSoa n (b.vds n)) (b.pCeil e n))) := by
  unfold Body.thermalStep
  extract_lets k g p poles tj mask est pl tjOver tsState tsOver b1 b2
  have h1 : modelOf (b1.en n) = (poles, [], tj, pl.1) := congrArg modelOf (en_onEng_same ..)
  have h2 : modelOf (b2.en n) = modelOf (b1.en n) := by
    unfold b2
    split
    · exact modelOf_eq_of_stillBut (stillBut_dieTrip ..) n
    · split
      · exact modelOf_eq_of_stillBut (stillBut_dieTrip ..) n
      · rfl
  rw [modelOf_mmTrack, h2, h1, ← plimOf_fst]
  rfl

theorem stepPoles_getD (b : Body) (n : Nat) {i : Nat} (hi : i < 4) :
    (stepPoles b n).getD i 0 = poleStep (b.drd (dieOf n) .kcoefMant (4 * n + i)) (b.drd (dieOf n) .kcoefExp (4 * n + i))
      (b.drd (dieOf n) .gcoefValue (4 * n + i)) (meanP (b.en n).ps) ((b.en n).poles.getD i 0) := by
  rw [stepPoles, List.getD_eq_getElem _ _ (by simpa using hi), List.getElem_map, List.getElem_range]

/-- Settles O21: the step writes the four parts, and a trip at its end leaves them. -/
theorem thermalStep : Obligations.ThermalStep := by
  intro n s
  constructor
  · intro h
    exact becomes_onBody rfl (if_neg (by simp [h]))
  · intro h
    refine runs_onBody rfl ?_
    have hen : ((s.onBody fun e b => if b.modelRuns n then b.thermalStep e n else b).body.en n) = (s.body.thermalStep s.env n).en n := by
      rw [onBody_body, settle_en, if_pos h]
    obtain ⟨hpoles, hps, htj, hlim⟩ : _ ∧ _ ∧ _ ∧ _ := by simpa only [modelOf, Prod.mk.injEq] using modelOf_thermalStep s.env n s.body
    rw [hen, hpoles, hps, htj, hlim]
    exact ⟨fun i hi => stepPoles_getD _ _ hi, rfl, rfl, rfl⟩

end Sys2Proof.Proofs
end

section
/-!
SUPPORT. What the work of a die leaves of HUB: `hubSide` takes out the registers, the engines, the dies, the recorder and the frames to the
partner, and the operations of a die leave it.
-/

namespace Sys2Proof.Proofs

open Sys2Proof Sys2Proof.Machine Sys2Proof.Safety Sys2Proof.Laws

/-- The body with everything taken out that the work of a die may change. -/
def hubSide (b : Body) : Body :=
  { b with twin := { b.twin with pass := [], sent := [], txSeq := 0 }, regs := [], eng := Body.reset.eng, die := Body.reset.die
           rcd := Recorder.reset }

@[simp] theorem hubSide_foldl {α : Type} (f : Body → α → Body) (l : List α) (b : Body) (hf : ∀ b a, hubSide (f b a) = hubSide b) :
    hubSide (l.foldl f b) = hubSide b :=
  part_foldl hubSide f hf l b

@[simp] theorem hubSide_forEach (b : Body) (l : List Nat) (f : Nat → Body → Body) (hf : ∀ n b, hubSide (f n b) = hubSide b) :
    hubSide (b.forEach l f) = hubSide b :=
  part_foldl hubSide _ (fun b n => hf n b) l b

@[simp] theorem hubSide_wr (b : Body) (f : Fld) (i v : Nat) : hubSide (b.wr f i v) = hubSide b := (rfl)
@[simp] theorem hubSide_onEng (n : Nat) (f : Eng → Eng) (b : Body) : hubSide (b.onEng n f) = hubSide b := (rfl)
@[simp] theorem hubSide_onDie (k : Nat) (f : Die → Die) (b : Body) : hubSide (b.onDie k f) = hubSide b := (rfl)
@[simp] theorem hubSide_dwr (k : Nat) (f : Fld) (i v : Nat) (b : Body) : hubSide (b.dwr k f i v) = hubSide b := (rfl)
@[simp] theorem hubSide_rcd (b : Body) (x : Recorder) : hubSide { b with rcd := x } = hubSide b := (rfl)

@[simp] theorem hubSide_emit (r : LRec) (b : Body) : hubSide (b.emit r) = hubSide b := by
  simp [Body.emit]
theorem hubSide_onTwin (f : Twin → Twin) (b : Body) (hf : ({ f b.twin with pass := [], sent := [], txSeq := 0 } : Twin) =
    { b.twin with pass := [], sent := [], txSeq := 0 }) : hubSide (b.onTwin f) = hubSide b :=
  congrArg (fun x : Twin => ({ hubSide b with twin := x } : Body)) hf
@[simp] theorem hubSide_sendBluli (kind : Nat) (content : List Nat) (b : Body) : hubSide (b.sendBluli kind content) = hubSide b := by
  unfold Body.sendBluli
  split
  · rfl
  · exact hubSide_onTwin _ _ rfl
@[simp] theorem hubSide_shared (r : LRec) (b : Body) : hubSide (b.shared r) = hubSide b := by
  unfold Body.shared
  split
  · exact (hubSide_sendBluli ..).trans (hubSide_onTwin _ _ rfl)
  · rfl
@[simp] theorem hubSide_framed (k : Nat) (up : Bool) (fs : List (Nat × List Nat)) (b : Body) : hubSide (b.framed k up fs) = hubSide b := by
  simp [Body.framed]
@[simp] theorem hubSide_sendDown (k : Nat) (m : DownMsg) (b : Body) : hubSide (b.sendDown k m) = hubSide b := by
  simp [Body.sendDown]
@[simp] theorem hubSide_fwd (n : Nat) (fs : List (Fld × Nat)) (b : Body) : hubSide (b.fwd n fs) = hubSide b := by
  simp [Body.fwd]
@[simp] theorem hubSide_span (time kind edge mask : Nat) (b : Body) : hubSide (b.span time kind edge mask) = hubSide b := by
  simp [Body.span]
@[simp] theorem hubSide_onPath (n : Nat) (f : MPath → MPath) (b : Body) : hubSide (b.onPath n f) = hubSide b := by
  simp [Body.onPath]
@[simp] theorem hubSide_onUrg (k : Nat) (f : Urgent → Urgent) (b : Body) : hubSide (b.onUrg k f) = hubSide b := by
  simp [Body.onUrg]
@[simp] theorem hubSide_startCap (e : Env) (k : Nat) (b : Body) : hubSide (b.startCap e k) = hubSide b := by
  simp [Body.startCap, apply_ite hubSide]
@[simp] theorem hubSide_onVisit (k : Nat) (cvb : Bool) (f : VisitRun → VisitRun) (b : Body) : hubSide (b.onVisit k cvb f) = hubSide b := by
  simp [Body.onVisit]
@[simp] theorem hubSide_visitsPause (e : Env) (k : Nat) (b : Body) : hubSide (b.visitsPause e k) = hubSide b := by
  simp [Body.visitsPause]
@[simp] theorem hubSide_emptyScan (e : Env) (k : Nat) (b : Body) : hubSide (b.emptyScan e k) = hubSide b := by
  simp [Body.emptyScan, apply_ite hubSide]
@[simp] theorem hubSide_urgentStart (e : Env) (k : Nat) (b : Body) : hubSide (b.urgentStart e k) = hubSide b := by
  simp [Body.urgentStart, apply_ite hubSide]
@[simp] theorem hubSide_capture (e : Env) (k src unit : Nat) (b : Body) : hubSide (b.capture e k src unit) = hubSide b := by
  simp [Body.capture, apply_ite hubSide]
@[simp] theorem hubSide_capTrigger (e : Env) (k src unit : Nat) (b : Body) : hubSide (b.capTrigger e k src unit) = hubSide b := by
  simp [Body.capTrigger, apply_ite hubSide]
@[simp] theorem hubSide_capTriggerAll (e : Env) (k src unit : Nat) (b : Body) : hubSide (b.capTriggerAll e k src unit) = hubSide b := by
  simp [Body.capTriggerAll, apply_ite hubSide]
@[simp] theorem hubSide_cutWide (k : Nat) (b : Body) : hubSide (b.cutWide k) = hubSide b := by
  simp [Body.cutWide, apply_ite hubSide]
@[simp] theorem hubSide_latchDie (e : Env) (n : Nat) (b : Body) : hubSide (b.latchDie e n) = hubSide b := by
  simp [Body.latchDie, apply_ite hubSide]
@[simp] theorem hubSide_landFields (k : Nat) (b : Body) : hubSide (b.landFields k) = hubSide b := by
  simp [Body.landFields]
@[simp] theorem hubSide_grantDie (e : Env) (n : Nat) (b : Body) : hubSide (b.grantDie e n) = hubSide b := by
  simp [Body.grantDie, apply_ite hubSide]
@[simp] theorem hubSide_stateDie (e : Env) (n : Nat) (old new : ChState) (b : Body) : hubSide (b.stateDie e n old new) = hubSide b := by
  simp [Body.stateDie, apply_ite hubSide]
@[simp] theorem hubSide_releaseDie (n : Nat) (prior : ChState) (b : Body) : hubSide (b.releaseDie n prior) = hubSide b := by
  simp [Body.releaseDie]
@[simp] theorem hubSide_actDie (e : Env) (m : DownMsg) (b : Body) : hubSide (b.actDie e m) = hubSide b := by
  unfold Body.actDie
  split <;> simp
@[simp] theorem hubSide_tell (e : Env) (k : Nat) (m : DownMsg) (b : Body) : hubSide (b.tell e k m) = hubSide b := by
  simp [Body.tell, apply_ite hubSide]
@[simp] theorem hubSide_trFire (e : Env) (k idx : Nat) (b : Body) : hubSide (b.trFire e k idx) = hubSide b := by
  simp [Body.trFire, apply_ite hubSide]
@[simp] theorem hubSide_trArm (k : Nat) (b : Body) : hubSide (b.trArm k) = hubSide b := by
  simp [Body.trArm]
@[simp] theorem hubSide_trForceNow (e : Env) (k : Nat) (b : Body) : hubSide (b.trForceNow e k) = hubSide b := by
  simp [Body.trForceNow, apply_ite hubSide]
@[simp] theorem hubSide_onFu (k u : Nat) (f : FuState → FuState) (b : Body) : hubSide (b.onFu k u f) = hubSide b := by
  simp [Body.onFu]
@[simp] theorem hubSide_disturb (k u : Nat) (b : Body) : hubSide (b.disturb k u) = hubSide b := by
  simp [Body.disturb]
@[simp] theorem hubSide_convRequest (e : Env) (k : Nat) (b : Body) : hubSide (b.convRequest e k) = hubSide b := by
  simp [Body.convRequest, apply_ite hubSide]
@[simp] theorem hubSide_capAbort (k : Nat) (b : Body) : hubSide (b.capAbort k) = hubSide b := by
  simp [Body.capAbort, apply_ite hubSide]
@[simp] theorem hubSide_feField (k : Nat) (unlocked : Bool) (word : Nat) (h : Fld × Nat × Nat) (b : Body) : hubSide (b.feField k unlocked word h) = hubSide b := by
  unfold Body.feField
  dsimp only
  split <;> (try split) <;> simp [apply_ite hubSide]
@[simp] theorem hubSide_feAct (e : Env) (k : Nat) (word : Nat) (h : Fld × Nat × Nat) (b : Body) : hubSide (b.feAct e k word h) = hubSide b := by
  unfold Body.feAct
  split
  · rfl
  · split <;> simp [apply_ite hubSide]
@[simp] theorem hubSide_feWrite (e : Env) (k a word : Nat) (unlocked : Bool) (b : Body) : hubSide (b.feWrite e k a word unlocked) = hubSide b := by
  simp [Body.feWrite]
@[simp] theorem hubSide_filterChange (k key : Nat) (b : Body) : hubSide (b.filterChange k key) = hubSide b := by
  unfold Body.filterChange
  dsimp only
  split <;> simp
@[simp] theorem hubSide_applyDown (e : Env) (k : Nat) (m : DownMsg) (b : Body) : hubSide (b.applyDown e k m) = hubSide b := by
  unfold Body.applyDown
  split <;> simp
@[simp] theorem hubSide_drain (e : Env) (k : Nat) (b : Body) : hubSide (b.drain e k) = hubSide b := by
  simp [Body.drain]

end Sys2Proof.Proofs
end

section
/-!
SUPPORT. What a frame that a die applies leaves: its link and its instants, and HUB's registers but three (`linkSide`).
-/

namespace Sys2Proof.Proofs

open Sys2Proof Sys2Proof.Machine Sys2Proof.Safety Sys2Proof.Laws

/-- The registers of HUB that the work of a die may write: the number of the last capture, the scan that runs, the mark of an override. -/
def ofDie (f : Fld) : Bool :=
  match f with
  | .recCapnoNo | .metaBenchdieBusy | .modImgstatOverridden => true
  | _ => false

/-- A die with everything taken out that its own work on a frame may change. -/
def linkDie (d : Die) : Die :=
  { d with regs := [], urg := Die.reset.urg, visA := Die.reset.visA, visB := Die.reset.visB, scanZero := false, scanCond := 0
           trNext := 0, trCount := 0, trSkip := 0, trLeft := 0, trForce := false, trCross := false, trPrev := none, trPrevWin := none
           trHit := false, trTime := 0, fus := Die.reset.fus }

/-- What the work of a die on a frame leaves: of the dies, and of HUB's registers. -/
def linkSide (b : Body) : (Nat → Die) × (Fld → Nat → Nat) := (fun k => linkDie (b.fe k), fun f i => if ofDie f then 0 else b.rd f i)

/-- The change of a die leaves its link. -/
def LinkKept (f : Die → Die) : Prop := ∀ d, linkDie (f d) = linkDie d

@[simp] theorem linkKept_iff (f : Die → Die) : LinkKept f ↔ ∀ d, linkDie (f d) = linkDie d := .rfl

/-- Each turn of a fold leaves it. -/
def TurnLinkKept {α : Type} (f : Body → α → Body) : Prop := ∀ b a, linkSide (f b a) = linkSide b

@[simp] theorem turnLinkKept_iff {α : Type} (f : Body → α → Body) : TurnLinkKept f ↔ ∀ b a, linkSide (f b a) = linkSide b := .rfl

@[simp] theorem linkSide_foldl {α : Type} (f : Body → α → Body) (l : List α) (b : Body) (hf : TurnLinkKept f) :
    linkSide (l.foldl f b) = linkSide b :=
  part_foldl linkSide f hf l b

@[simp] theorem linkSide_forEach (b : Body) (l : List Nat) (f : Nat → Body → Body) (hf : TurnLinkKept fun b n => f n b) :
    linkSide (b.forEach l f) = linkSide b :=
  part_foldl linkSide _ hf l b

theorem linkSide_wr (b : Body) (f : Fld) (i v : Nat) (hf : ofDie f = true) : linkSide (b.wr f i v) = linkSide b := by
  refine Prod.ext rfl (funext fun g => funext fun j => ?_)
  dsimp only [linkSide]
  split
  · rfl
  · exact rd_wr_fld _ _ _ _ _ _ (by rintro rfl; contradiction)

@[simp] theorem linkSide_onEng (n : Nat) (f : Eng → Eng) (b : Body) : linkSide (b.onEng n f) = linkSide b := (rfl)

theorem linkSide_onDie (k : Nat) (f : Die → Die) (b : Body) (hf : LinkKept f) : linkSide (b.onDie k f) = linkSide b := by
  refine Prod.ext (funext fun j => ?_) rfl
  dsimp only [linkSide]
  rw [fe_onDie]
  split
  next h => rw [hf, fe_congr b h]
  · rfl

@[simp] theorem linkSide_dwr (k : Nat) (f : Fld) (i v : Nat) (b : Body) : linkSide (b.dwr k f i v) = linkSide b :=
  linkSide_onDie _ _ _ fun _ => rfl

@[simp] theorem linkSide_rcd (b : Body) (x : Recorder) : linkSide { b with rcd := x } = linkSide b := (rfl)

@[simp] theorem linkSide_emit (r : LRec) (b : Body) : linkSide (b.emit r) = linkSide b := (rfl)
@[simp] theorem linkSide_onTwin (f : Twin → Twin) (b : Body) : linkSide (b.onTwin f) = linkSide b := (rfl)
@[simp] theorem linkSide_sendBluli (kind : Nat) (content : List Nat) (b : Body) : linkSide (b.sendBluli kind content) = linkSide b := by
  simp [Body.sendBluli, apply_ite linkSide]
@[simp] theorem linkSide_shared (r : LRec) (b : Body) : linkSide (b.shared r) = linkSide b := by
  simp [Body.shared, apply_ite linkSide]
@[simp] theorem linkSide_span (time kind edge mask : Nat) (b : Body) : linkSide (b.span time kind edge mask) = linkSide b := by
  simp [Body.span]
@[simp] theorem linkSide_onPath (n : Nat) (f : MPath → MPath) (b : Body) : linkSide (b.onPath n f) = linkSide b := by
  simp [Body.onPath]
@[simp] theorem linkSide_onUrg (k : Nat) (f : Urgent → Urgent) (b : Body) : linkSide (b.onUrg k f) = linkSide b := linkSide_onDie _ _ _ fun _ => rfl
@[simp] theorem linkSide_startCap (e : Env) (k : Nat) (b : Body) : linkSide (b.startCap e k) = linkSide b := by
  unfold Body.startCap
  split
  · rfl
  · exact linkSide_wr _ _ _ _ rfl
@[simp] theorem linkSide_onVisit (k : Nat) (cvb : Bool) (f : VisitRun → VisitRun) (b : Body) : linkSide (b.onVisit k cvb f) = linkSide b := by
  refine linkSide_onDie _ _ _ fun d => ?_
  split <;> rfl
@[simp] theorem linkSide_visitsPause (e : Env) (k : Nat) (b : Body) : linkSide (b.visitsPause e k) = linkSide b := by
  simp [Body.visitsPause]
@[simp] theorem linkSide_emptyScan (e : Env) (k : Nat) (b : Body) : linkSide (b.emptyScan e k) = linkSide b := by
  unfold Body.emptyScan
  dsimp only
  split
  · exact linkSide_onDie _ _ _ fun _ => rfl
  · rfl
@[simp] theorem linkSide_urgentStart (e : Env) (k : Nat) (b : Body) : linkSide (b.urgentStart e k) = linkSide b := by
  unfold Body.urgentStart
  extract_lets b1 u go b2 b3
  have hgo : ∀ r c, linkSide (go r c) = linkSide c := by
    intro r c
    unfold go
    rw [linkSide_dwr, linkSide_onUrg, linkSide_visitsPause]
  have h1 : linkSide b1 = linkSide b := linkSide_emptyScan ..
  have h3 : linkSide b3 = linkSide b := by
    unfold b3 b2
    rw [linkSide_startCap, linkSide_dwr, linkSide_dwr, hgo, linkSide_onUrg, h1]
  clear_value go
  split
  · exact h1
  · split
    · split
      · rw [linkSide_span, linkSide_forEach _ _ _ (by exact fun _ _ => linkSide_onPath ..), h3]
      · exact h3
    · split
      · rw [linkSide_wr _ _ _ _ rfl, hgo, linkSide_onDie _ _ _ (by exact fun _ => rfl), h1]
      · split
        · rw [hgo, linkSide_onUrg, h1]
        · exact h1
@[simp] theorem linkSide_capture (e : Env) (k src unit : Nat) (b : Body) : linkSide (b.capture e k src unit) = linkSide b := by
  simp [Body.capture, apply_ite linkSide]
@[simp] theorem linkSide_capTrigger (e : Env) (k src unit : Nat) (b : Body) : linkSide (b.capTrigger e k src unit) = linkSide b := by
  simp [Body.capTrigger, apply_ite linkSide]
@[simp] theorem linkSide_capTriggerAll (e : Env) (k src unit : Nat) (b : Body) : linkSide (b.capTriggerAll e k src unit) = linkSide b := by
  simp [Body.capTriggerAll, apply_ite linkSide]
@[simp] theorem linkSide_cutWide (k : Nat) (b : Body) : linkSide (b.cutWide k) = linkSide b := by
  simp [Body.cutWide, apply_ite linkSide]
@[simp] theorem linkSide_latchDie (e : Env) (n : Nat) (b : Body) : linkSide (b.latchDie e n) = linkSide b := by
  simp [Body.latchDie, apply_ite linkSide]
@[simp] theorem linkSide_grantDie (e : Env) (n : Nat) (b : Body) : linkSide (b.grantDie e n) = linkSide b := by
  simp [Body.grantDie, apply_ite linkSide]
@[simp] theorem linkSide_stateDie (e : Env) (n : Nat) (old new : ChState) (b : Body) : linkSide (b.stateDie e n old new) = linkSide b := by
  simp [Body.stateDie, apply_ite linkSide]
@[simp] theorem linkSide_releaseDie (n : Nat) (prior : ChState) (b : Body) : linkSide (b.releaseDie n prior) = linkSide b := by
  simp [Body.releaseDie]
@[simp] theorem linkSide_actDie (e : Env) (m : DownMsg) (b : Body) : linkSide (b.actDie e m) = linkSide b := by
  unfold Body.actDie
  split <;> simp
@[simp] theorem linkSide_trFire (e : Env) (k idx : Nat) (b : Body) : linkSide (b.trFire e k idx) = linkSide b := by
  unfold Body.trFire
  extract_lets b1 b2
  have h2 : linkSide b2 = linkSide b := by
    unfold b2 b1
    rw [linkSide_capTriggerAll, linkSide_onDie _ _ _ (by exact fun _ => rfl), linkSide_dwr, linkSide_dwr, linkSide_dwr]
  split
  · rw [linkSide_foldl, h2]
    intro c j
    dsimp only
    split
    · rfl
    · exact linkSide_onDie _ _ _ fun _ => rfl
  · exact h2
@[simp] theorem linkSide_trArm (k : Nat) (b : Body) : linkSide (b.trArm k) = linkSide b := by
  unfold Body.trArm
  extract_lets b1 b2
  have h2 : linkSide b2 = linkSide b := by
    unfold b2 b1
    rw [linkSide_forEach _ _ _ (by exact fun _ _ => linkSide_onEng ..), linkSide_dwr, linkSide_dwr, linkSide_dwr]
  exact (linkSide_onDie _ _ _ (by exact fun _ => rfl)).trans h2
@[simp] theorem linkSide_trForceNow (e : Env) (k : Nat) (b : Body) : linkSide (b.trForceNow e k) = linkSide b := by
  unfold Body.trForceNow
  dsimp only
  split
  · rfl
  · split
    · exact linkSide_trFire ..
    · exact linkSide_onDie _ _ _ (by exact fun _ => rfl)
@[simp] theorem linkSide_onFu (k u : Nat) (f : FuState → FuState) (b : Body) : linkSide (b.onFu k u f) = linkSide b := linkSide_onDie _ _ _ fun _ => rfl
@[simp] theorem linkSide_disturb (k u : Nat) (b : Body) : linkSide (b.disturb k u) = linkSide b := by
  simp [Body.disturb]
@[simp] theorem linkSide_convRequest (e : Env) (k : Nat) (b : Body) : linkSide (b.convRequest e k) = linkSide b := by
  simp [Body.convRequest, apply_ite linkSide]
@[simp] theorem linkSide_capAbort (k : Nat) (b : Body) : linkSide (b.capAbort k) = linkSide b := by
  simp [Body.capAbort, apply_ite linkSide]
@[simp] theorem linkSide_feField (k : Nat) (unlocked : Bool) (word : Nat) (h : Fld × Nat × Nat) (b : Body) : linkSide (b.feField k unlocked word h) = linkSide b := by
  unfold Body.feField
  dsimp only
  split
  · split
    · rfl
    · have h : ∀ c, linkSide c = linkSide b →
          linkSide (if h.1 = .fuFcfgWen && h.1.clampTo (h.1.taken h.2.2 (b.drd k h.1 h.2.1) word) = 0 then c.dwr k .fuFresOutside h.2.1 0
            else c) = linkSide b := by
        intro c hc
        split
        · rw [linkSide_dwr, hc]
        · exact hc
      refine h _ ?_
      rw [linkSide_dwr]
      split
      · rfl
      · exact linkSide_wr _ _ _ _ rfl
  · exact linkSide_dwr ..
  · rfl
@[simp] theorem linkSide_feAct (e : Env) (k : Nat) (word : Nat) (h : Fld × Nat × Nat) (b : Body) : linkSide (b.feAct e k word h) = linkSide b := by
  unfold Body.feAct
  split
  · rfl
  · split <;> simp [apply_ite linkSide]
@[simp] theorem linkSide_feWrite (e : Env) (k a word : Nat) (unlocked : Bool) (b : Body) : linkSide (b.feWrite e k a word unlocked) = linkSide b := by
  simp [Body.feWrite]
@[simp] theorem linkSide_filterChange (k key : Nat) (b : Body) : linkSide (b.filterChange k key) = linkSide b := by
  unfold Body.filterChange
  split <;> simp
@[simp] theorem linkSide_applyDown (e : Env) (k : Nat) (m : DownMsg) (b : Body) : linkSide (b.applyDown e k m) = linkSide b := by
  unfold Body.applyDown
  split
  · rw [linkSide_foldl _ _ _ (by exact fun _ _ => linkSide_filterChange ..), linkSide_onDie _ _ _ (by exact fun _ => rfl)]
  · exact linkSide_feWrite ..
  all_goals exact linkSide_actDie ..

end Sys2Proof.Proofs
end

section
/-!
SUPPORT. What a wake from doze leaves: the links of the dies and the machines of the channels (`asleep`).
-/

namespace Sys2Proof.Proofs

open Sys2Proof Sys2Proof.Machine Sys2Proof.Safety Sys2Proof.Laws

/-- The link of a die: whether it has joined, and the frames of both directions. -/
def linkOf (d : Die) : Bool × List DownMsg × List UpMsg × List DownMsg := (d.joined, d.down, d.up, d.unacked)

/-- What a wake leaves: the links of the dies, and of the body all but what a wake writes. -/
def asleep (b : Body) : (Nat → Bool × List DownMsg × List UpMsg × List DownMsg) × Body :=
  (fun k => linkOf (b.fe k),
    { hubSide b with mtr := Meter.reset, bud := { b.bud with lastCycle := 0 }, fdr := FeederPort.reset, doze := false, dozeLeaves := [],
                     dozeReq := none })

/-- The change of a die leaves its link. -/
def LinkSame (f : Die → Die) : Prop := ∀ d, linkOf (f d) = linkOf d

@[simp] theorem linkSame_iff (f : Die → Die) : LinkSame f ↔ ∀ d, linkOf (f d) = linkOf d := .rfl

/-- Each turn of a fold leaves it. -/
def TurnAsleep {α : Type} (f : Body → α → Body) : Prop := ∀ b a, asleep (f b a) = asleep b

@[simp] theorem turnAsleep_iff {α : Type} (f : Body → α → Body) : TurnAsleep f ↔ ∀ b a, asleep (f b a) = asleep b := .rfl

@[simp] theorem asleep_foldl {α : Type} (f : Body → α → Body) (l : List α) (b : Body) (hf : TurnAsleep f) : asleep (l.foldl f b) = asleep b :=
  part_foldl asleep f hf l b

@[simp] theorem asleep_forEach (b : Body) (l : List Nat) (f : Nat → Body → Body) (hf : TurnAsleep fun b n => f n b) :
    asleep (b.forEach l f) = asleep b :=
  part_foldl asleep _ hf l b

@[simp] theorem asleep_wr (b : Body) (f : Fld) (i v : Nat) : asleep (b.wr f i v) = asleep b := (rfl)
@[simp] theorem asleep_onEng (n : Nat) (f : Eng → Eng) (b : Body) : asleep (b.onEng n f) = asleep b := (rfl)

theorem asleep_onDie (k : Nat) (f : Die → Die) (b : Body) (hf : LinkSame f) : asleep (b.onDie k f) = asleep b := by
  refine Prod.ext (funext fun j => ?_) rfl
  dsimp only [asleep]
  rw [fe_onDie]
  split
  next h => rw [hf, fe_congr b h]
  · rfl

@[simp] theorem asleep_dwr (k : Nat) (f : Fld) (i v : Nat) (b : Body) : asleep (b.dwr k f i v) = asleep b :=
  asleep_onDie _ _ _ fun _ => rfl

@[simp] theorem asleep_raise (l : Leaf) (b : Body) : asleep (b.raise l) = asleep b := by
  unfold Body.raise
  split
  · rfl
  · split <;> rfl
@[simp] theorem asleep_emit (r : LRec) (b : Body) : asleep (b.emit r) = asleep b := (rfl)
theorem asleep_onTwin (f : Twin → Twin) (b : Body) (hf : ({ f b.twin with pass := [], sent := [], txSeq := 0 } : Twin) =
    { b.twin with pass := [], sent := [], txSeq := 0 }) : asleep (b.onTwin f) = asleep b :=
  Prod.ext rfl (congrArg (fun x : Twin => ({ (asleep b).2 with twin := x } : Body)) hf)
@[simp] theorem asleep_sendBluli (kind : Nat) (content : List Nat) (b : Body) : asleep (b.sendBluli kind content) = asleep b := by
  unfold Body.sendBluli
  split
  · rfl
  · exact asleep_onTwin _ _ rfl
@[simp] theorem asleep_shared (r : LRec) (b : Body) : asleep (b.shared r) = asleep b := by
  unfold Body.shared
  split
  · exact (asleep_sendBluli ..).trans (asleep_onTwin _ _ rfl)
  · rfl
@[simp] theorem asleep_span (time kind edge mask : Nat) (b : Body) : asleep (b.span time kind edge mask) = asleep b := by
  simp [Body.span]
@[simp] theorem asleep_onMtr (f : Meter → Meter) (b : Body) : asleep (b.onMtr f) = asleep b := (rfl)
@[simp] theorem asleep_onVisit (k : Nat) (cvb : Bool) (f : VisitRun → VisitRun) (b : Body) : asleep (b.onVisit k cvb f) = asleep b := by
  refine asleep_onDie _ _ _ fun d => ?_
  split <;> rfl
@[simp] theorem asleep_visitsPause (e : Env) (k : Nat) (b : Body) : asleep (b.visitsPause e k) = asleep b := by
  simp [Body.visitsPause]
@[simp] theorem asleep_visitsFollow (e : Env) (k : Nat) (b : Body) : asleep (b.visitsFollow e k) = asleep b := by
  simp [Body.visitsFollow]
@[simp] theorem asleep_setLp (e : Env) (k : Nat) (x : Bool) (b : Body) : asleep (b.setLp e k x) = asleep b := by
  unfold Body.setLp
  rw [asleep_visitsFollow, asleep_onDie _ _ _ (by exact fun _ => rfl), asleep_dwr, asleep_visitsPause]
@[simp] theorem asleep_lowPower (e : Env) (x : Bool) (b : Body) : asleep (b.lowPower e x) = asleep b := by
  refine asleep_forEach _ _ _ fun c k => ?_
  dsimp only
  split
  · exact asleep_setLp ..
  · exact asleep_onDie _ _ _ fun _ => rfl
@[simp] theorem asleep_onFp (f : FeederPort → FeederPort) (b : Body) : asleep (b.onFp f) = asleep b := (rfl)
@[simp] theorem asleep_onFd (f : Nat) (g : Feeder → Feeder) (b : Body) : asleep (b.onFd f g) = asleep b := by
  simp [Body.onFd]
@[simp] theorem asleep_fdAnchor (e : Env) (f : Nat) (b : Body) : asleep (b.fdAnchor e f) = asleep b := by
  simp [Body.fdAnchor]
@[simp] theorem asleep_fdRetarget (e : Env) (f : Nat) (b : Body) : asleep (b.fdRetarget e f) = asleep b := by
  simp [Body.fdRetarget]
@[simp] theorem asleep_fdRetargetAll (e : Env) (b : Body) : asleep (b.fdRetargetAll e) = asleep b := by
  simp [Body.fdRetargetAll, apply_ite asleep]
@[simp] theorem asleep_lateLeaf (l : Leaf) (b : Body) : asleep (b.lateLeaf l) = asleep b := by
  simp [Body.lateLeaf, apply_ite asleep]
@[simp] theorem asleep_wakeCh (e : Env) (n : Nat) (b : Body) : asleep (b.wakeCh e n) = asleep b := by
  simp [Body.wakeCh]
@[simp] theorem asleep_wakeDie (e : Env) (k : Nat) (b : Body) : asleep (b.wakeDie e k) = asleep b := by
  unfold Body.wakeDie
  dsimp only
  rw [asleep_forEach _ _ _ (by exact fun _ _ => asleep_wakeCh ..)]
  exact asleep_onDie _ _ _ fun _ => rfl
@[simp] theorem asleep_wake (e : Env) (b : Body) : asleep (b.wake e) = asleep b := by
  unfold Body.wake
  extract_lets ls b1 b2 b3 b4 bm bud
  have h1 : asleep b1 = asleep b := by
    unfold b1
    rw [asleep_foldl _ _ _ (by exact fun _ _ => asleep_lateLeaf ..)]
    rfl
  have h2 : asleep b2 = asleep b := by
    unfold b2
    rw [asleep_forEach _ _ _ (by exact fun _ _ => asleep_wakeDie ..), h1]
  have h4 : asleep b4 = asleep b := by
    unfold b4 b3
    rw [asleep_forEach _ _ _ (by exact fun _ _ => asleep_wr ..), asleep_wr, asleep_lowPower, asleep_span, h2]
  have hm : asleep bm = asleep b := by
    unfold bm
    rw [asleep_onMtr, asleep_wr, h4]
  rw [asleep_fdRetargetAll]
  unfold bud
  clear_value bm
  exact hm
@[simp] theorem asleep_stir (e : Env) (b : Body) : asleep (b.stir e) = asleep b := by
  unfold Body.stir
  split
  · exact asleep_wake ..
  · rfl

end Sys2Proof.Proofs
end

section
/-!
SUPPORT. Reads of words that a die holds, and of MOD.SYNC (R36, R37, R125, R471).
-/

namespace Sys2Proof.Proofs

open Sys2Proof Sys2Proof.Machine Sys2Proof.Safety Sys2Proof.Laws

/-- A change of a die that changes nothing. -/
theorem onDie_self (k : Nat) (f : Die → Die) (b : Body) (hf : f (b.fe k) = b.fe k) : b.onDie k f = b := by
  have hset : b.die.set (k % 8) (f (b.fe k)) (Nat.mod_lt _ (by decide)) = b.die := by
    rw [hf]
    exact Vector.set_getElem_self ..
  unfold Body.onDie
  rw [hset]

theorem framed_nil (k : Nat) (up : Bool) (b : Body) : b.framed k up [] = b := onDie_self _ _ _ rfl

/-- With no frame waiting, nothing is drained. -/
theorem drain_idle (e : Env) (k : Nat) (b : Body) (h : (b.fe k).down = []) : b.drain e k = b := by
  have hdown : (b.onDie k fun d => { d with down := [] }) = b := onDie_self _ _ _ (by rw [← h])
  simp [Body.drain, h, hdown, framed_nil]

/-- Frames counted on a link change its SEQ and its last frame alone. -/
theorem fe_framed (k : Nat) (up : Bool) (fs : List (Nat × List Nat)) (b : Body) {α : Type} (p : Die → α)
    (hp : ∀ d e f, p (Die.frame e up d f) = p d) (j : Nat) : p ((b.framed k up fs).fe j) = p (b.fe j) := by
  have hfold : ∀ e d, p (fs.foldl (Die.frame e up) d) = p d := by
    intro e
    induction fs with
    | nil => exact fun _ => rfl
    | cons f fs ih => exact fun d => (ih _).trans (hp d e f)
  unfold Body.framed
  rw [fe_onDie]
  split
  next h => rw [hfold, fe_congr b h]
  · rfl

theorem linkOf_frame (e : Nat) (up : Bool) (d : Die) (f : Nat × List Nat) : linkOf (d.frame e up f) = linkOf d := by
  unfold Die.frame
  split <;> rfl

theorem linkOf_framed (k : Nat) (up : Bool) (fs : List (Nat × List Nat)) (b : Body) (j : Nat) :
    linkOf ((b.framed k up fs).fe j) = linkOf (b.fe j) :=
  fe_framed k up fs b linkOf (fun d e f => linkOf_frame e up d f) j

theorem linkOf_of_linkSide {b c : Body} (h : linkSide c = linkSide b) (j : Nat) : linkOf (c.fe j) = linkOf (b.fe j) := by
  have hd : linkDie (c.fe j) = linkDie (b.fe j) := congrFun (congrArg Prod.fst h) j
  have hl := congrArg linkOf hd
  exact hl

/-- A drain leaves the links but for the frames that it applies. -/
theorem linkOf_drain (e : Env) (k : Nat) (b : Body) (j : Nat) :
    linkOf ((b.drain e k).fe j) = linkOf (if j % 8 = k % 8 then { b.fe j with down := [] } else b.fe j) := by
  unfold Body.drain
  dsimp only
  rw [linkOf_framed, linkOf_of_linkSide (linkSide_foldl _ _ _ (by exact fun _ _ => linkSide_applyDown ..)), linkOf_framed, fe_onDie]
  split
  next h => rw [fe_congr b h]
  · rfl

theorem linkUp_eq (b : Body) (k : Nat) : b.linkUp? k = ((linkOf (b.fe k)).1 && !b.hubDown) := rfl

theorem hubDown_of_hubSide {b c : Body} (h : hubSide c = hubSide b) : c.hubDown = b.hubDown := by
  have hh := congrArg Body.hubDown h
  exact hh

theorem exec_iclReadRequest (k : DieIx) (p : Fin 2) (a : Nat) (s : State) : exec (.iclReadRequest k p a) s = execIclReadRequest k p a s := rfl

/-- What a read request leaves, by the link. -/
def readAsked (e : Env) (k p a : Nat) (b : Body) : Body :=
  if b.linkUp? k then
    let c := (b.drain e k).framed k false [(2, [a])]
    (c.feSample e a).2.onDie k fun d => { d with up := d.up ++ [.readReply p a (c.feSample e a).1] }
  else { b.wr .twinDieVoidRead k 1 with reply := [0] }

/-- A drained link is as up as before, and has no frame left. -/
theorem link_drained (e : Env) (k a : Nat) (b : Body) :
    let c := (b.drain e k).framed k false [(2, [a])]
    c.linkUp? k = b.linkUp? k ∧ (c.fe k).down = [] := by
  intro c
  have hlink : linkOf (c.fe k) = linkOf { b.fe k with down := [] } := by
    unfold c
    rw [linkOf_framed, linkOf_drain, if_pos rfl]
  have hhub : c.hubDown = b.hubDown := hubDown_of_hubSide (by unfold c; rw [hubSide_framed, hubSide_drain])
  constructor
  · rw [linkUp_eq, hlink, hhub]
    rfl
  · have h := congrArg (fun x => x.2.1) hlink
    exact h

/-- The command with HUB running, at a word of the die. -/
theorem runs_iclReadRequest {k : DieIx} {p : Fin 2} {a : Nat} {s : State} {P : State → Prop} (hhub : s.body.hubDown = false)
    (ha : a % 4 = 0) (hheld : feHeld a = true) (hk : feOf a = k)
    (hP : ∀ t : State, t.body = (readAsked s.env k p a s.body).settle s.env → P t) : Runs (.iclReadRequest k p a) s P := by
  have haddr : a / 4 * 4 = a := by omega
  refine runs_onBody (exec_iclReadRequest ..) (hP _ ?_)
  rw [onBody_body, haddr]
  dsimp only
  rw [hhub, hheld, if_neg (by simp [hk])]
  congr 1
  unfold readAsked
  by_cases hup : s.body.linkUp? k = true
  · obtain ⟨hlink, hdown⟩ := link_drained s.env k a s.body
    rw [if_pos hup, if_pos hup, Body.feRead, hk]
    dsimp only
    rw [hlink, if_pos hup, drain_idle _ _ _ hdown, if_pos hup]
  · rw [if_neg hup, if_neg hup, Body.feRead, hk]
    dsimp only
    rw [if_neg hup, if_neg hup]

theorem traceWord_eq (b : Body) {a k : Nat} (ha : 0x100000 ≤ a) (hk : feOf a = k) :
    b.traceWord a = sparseGet 0 (b.fe k).trace ((a - 0x100000) % 0x10000 / 0x4000 * 4096 + a % 0x4000 / 4) := by
  have hmod : (a - 0x100000) % 0x10000 % 0x4000 = a % 0x4000 := by omega
  rw [Body.traceWord, hk, hmod]

/-- Bits gathered one by one: each is its own, and none lies beyond the last. -/
theorem bitsOf_succ (n : Nat) (p : Nat → Bool) : bitsOf (n + 1) 0 p = if p n then bitsOf n 0 p + 2 ^ n else bitsOf n 0 p := by
  unfold bitsOf
  rw [List.range_succ, List.foldl_append]
  simp

theorem bitsOf_lt (n : Nat) (p : Nat → Bool) : bitsOf n 0 p < 2 ^ n := by
  induction n with
  | zero => exact Nat.one_pos
  | succ n ih =>
    rw [bitsOf_succ, Nat.pow_succ]
    split <;> omega

theorem bitAt_bitsOf (n : Nat) (p : Nat → Bool) {k : Nat} (hk : k < n) : bitAt (bitsOf n 0 p) k = p k := by
  induction n with
  | zero => omega
  | succ n ih =>
    rw [bitAt_eq_testBit] at ih ⊢
    have hlt := bitsOf_lt n p
    rw [bitsOf_succ]
    rcases Nat.lt_succ_iff_lt_or_eq.mp hk with h | rfl
    · split
      · rw [Nat.add_comm, Nat.testBit_two_pow_add_gt h, ih h]
      · exact ih h
    · split
      next hp => rw [Nat.add_comm, Nat.testBit_two_pow_add_eq, Nat.testBit_lt_two_pow hlt, hp]; rfl
      next hp => rw [Nat.testBit_lt_two_pow hlt]; simpa using hp

theorem exec_modSyncRead (s : State) : exec .modSyncRead s = execModSyncRead s := rfl

/-- Settles O14: a drained link answers for the word as it then stands, and a wake leaves the links that MOD.SYNC shows. -/
theorem linkReads : Obligations.LinkReads := by
  constructor
  · intro k p a s hhub ha hheld hk
    refine ⟨fun hj => ?_, fun hj => ?_, fun hj hdown htrace => ?_⟩
    · have hup : s.body.linkUp? k = true := by simp [Body.linkUp?, hj, hhub]
      refine runs_iclReadRequest hhub ha hheld hk fun t ht =>
        ⟨((((s.body.drain s.env k).framed k false [(2, [a])]).feSample s.env a).2.fe k).up, ?_⟩
      rw [ht, settle_fe_up, readAsked, if_pos hup]
      dsimp only
      rw [fe_onDie_same]
    · have hup : s.body.linkUp? k ≠ true := by simp [Body.linkUp?, hj]
      refine runs_iclReadRequest hhub ha hheld hk fun t ht => ?_
      rw [ht, settle_reply, settle_rd _ _ _ _ rfl, readAsked, if_neg hup]
      have hvoid := rd_wr_same s.body .twinDieVoidRead k 1
      exact ⟨rfl, hvoid⟩
    · have hup : s.body.linkUp? k = true := by simp [Body.linkUp?, hj, hhub]
      refine runs_iclReadRequest hhub ha hheld hk fun t ht => ?_
      rw [ht, settle_fe_up, readAsked, if_pos hup, drain_idle _ _ _ hdown]
      dsimp only
      have hup' : ((s.body.framed k false [(2, [a])]).fe k).up = (s.body.fe k).up :=
        congrArg (fun x => x.2.2.1) (linkOf_framed k false [(2, [a])] s.body k)
      rw [fe_onDie_same, Body.feSample, if_pos htrace, traceWord_eq _ htrace hk]
      dsimp only
      rw [hup', fe_framed k false _ _ Die.trace (fun d e f => rfl)]
  · intro s hhub
    refine runs_onBody (exec_modSyncRead s) ⟨bitsOf 8 0 fun k => !((s.body.stir s.env).fe k).joined && ((s.body.stir s.env).fe k).owes, ?_, fun k hk => ?_⟩
    · rw [onBody_body, settle_reply, if_neg (by simp [hhub])]
      rfl
    · have hlink : linkOf ((s.body.stir s.env).fe k) = linkOf (s.body.fe k) := congrFun (congrArg Prod.fst (asleep_stir s.env s.body)) k
      have hj : ((s.body.stir s.env).fe k).joined = (s.body.fe k).joined := congrArg Prod.fst hlink
      have hd : ((s.body.stir s.env).fe k).down = (s.body.fe k).down := congrArg (fun x => x.2.1) hlink
      rw [bitAt_bitsOf _ _ hk, Die.owes, hj, hd]
      simp [Die.owes]

end Sys2Proof.Proofs
end

section
/-!
SUPPORT. Frames on the link of a die (R25, R28, R30, R33, R37, R125).
-/

namespace Sys2Proof.Proofs

open Sys2Proof Sys2Proof.Machine Sys2Proof.Safety Sys2Proof.Laws

/-- Two changes of a die in a row are one. -/
theorem onDie_onDie (k : Nat) (f g : Die → Die) (b : Body) : (b.onDie k f).onDie k g = b.onDie k fun d => g (f d) := by
  have hset : (b.die.set (k % 8) (f (b.fe k)) (Nat.mod_lt _ (by decide))).set (k % 8) (g ((b.onDie k f).fe k)) (Nat.mod_lt _ (by decide)) =
      b.die.set (k % 8) (g (f (b.fe k))) (Nat.mod_lt _ (by decide)) := by
    rw [fe_onDie_same, Vector.set_set]
  exact congrArg (fun d => ({ b with die := d } : Body)) hset

theorem framed_one (k : Nat) (up : Bool) (f : Nat × List Nat) (b : Body) :
    b.framed k up [f] = b.onDie k fun d => d.frame (b.rd .twinDieEpoch k) up f := rfl

/-- A field of a channel is none on which a filter or an entry of the scan depends. -/
theorem filterChange_ofChan (k key : Nat) (b : Body) (h : (keyFld key).ofChan = true) : b.filterChange k key = b := by
  unfold Body.filterChange
  dsimp only
  split
  case h_7 => rfl
  all_goals rename_i hkey; rw [hkey] at h; cases h

theorem applyDown_fields (e : Env) (k : Nat) (host : Bool) (kvs : List (Nat × Nat)) (b : Body)
    (h : ∀ kv ∈ kvs, (keyFld kv.1).ofChan = true) : b.applyDown e k (.fields host kvs) =
      b.onDie k fun d => { d with regs := kvs.foldl (fun r kv => regSetKey r kv.1 kv.2) d.regs } := by
  unfold Body.applyDown
  dsimp only
  generalize (b.onDie k fun d => { d with regs := kvs.foldl (fun r kv => regSetKey r kv.1 kv.2) d.regs }) = c
  induction kvs with
  | nil => rfl
  | cons kv kvs ih =>
    rw [List.foldl_cons, filterChange_ofChan _ _ _ (h kv List.mem_cons_self)]
    exact ih fun kv' hkv => h kv' (List.mem_cons_of_mem _ hkv)

theorem takeUp_front {k : Nat} {p : UpMsg → Bool} {m : UpMsg} {ms : List UpMsg} {b : Body} (hup : (b.fe k).up = m :: ms) (hp : p m = true) :
    b.takeUp k p = (some m, (b.onDie k fun d => { d with up := ms }).framed k true [m.frame]) := by
  unfold Body.takeUp
  rw [hup]
  dsimp only
  rw [if_pos hp]

/-! ### The commands of a link that is up -/

theorem iclWrite_applies {k : DieIx} {s : State} {m : DownMsg} {ms : List DownMsg} (hup : s.body.linkUp? k = true)
    (hdown : (s.body.fe k).down = m :: ms) : Becomes (.iclWrite k) s ((((s.body.onDie k fun d =>
      { d with down := ms, unacked := d.unacked ++ [m] }).framed k false [m.frame]).applyDown s.env k m).onDie k fun d =>
        { d with up := d.up ++ [.ack] }) := by
  refine becomes_onBody rfl ?_
  rw [hdown]
  exact if_pos hup

theorem iclWriteAck_takes {k : DieIx} {s : State} {up : List UpMsg} (hlink : s.body.linkUp? k = true) (hup : (s.body.fe k).up = .ack :: up) :
    Becomes (.iclWriteAck k) s (s.body.onDie k fun d =>
      { d with up := up, unacked := d.unacked.drop 1, seqUp := (d.seqUp + 1) % 256
               lastUp := some ⟨4, s.body.rd .twinDieEpoch k, d.seqUp, []⟩ }) := by
  refine becomes_onBody rfl ?_
  rw [if_neg (by simp [hlink]), takeUp_front hup rfl]
  refine (if_pos rfl).trans ?_
  dsimp only
  rw [framed_one, onDie_onDie, onDie_onDie]
  rfl

/-- A reply in its turn is the host's answer (R37, R125). -/
theorem takeReply_front {k : Nat} {q : Nat → Bool} {p a v : Nat} {up : List UpMsg} {b : Body} (hlink : b.linkUp? k = true)
    (hup : (b.fe k).up = .readReply p a v :: up) (hq : q a = true) : b.takeReply k q =
      ({ b with reply := [v] } : Body).onDie k fun d =>
        { d with up := up, seqUp := (d.seqUp + 1) % 256
                 lastUp := some ⟨if a < 0x100000 then 3 else 9, b.rd .twinDieEpoch k, d.seqUp, [a, v]⟩ } := by
  unfold Body.takeReply
  rw [if_neg (by simp [hlink]), takeUp_front hup hq, framed_one, onDie_onDie]
  rfl

/-- A marker that has come (R25). -/
theorem fe_mark (now c cycles k : Nat) (b : Body) :
    ((b.mark now c cycles k).fe k).markT = now ∧ ((b.mark now c cycles k).fe k).phase = c ∧
    ((b.mark now c cycles k).fe k).seqDn = (b.fe k).seqDn ∧
    ((b.mark now c cycles k).fe k).rate =
      if cycles = 0 then (b.fe k).rate else ((c + 2 ^ 64 - (b.fe k).phase) % 2 ^ 64 * 2 ^ 32 + cycles / 2) / cycles := by
  unfold Body.mark
  extract_lets d b1
  have h1 : b1.fe k = _ := fe_onDie_same b k _
  split
  · rw [h1]
    exact ⟨rfl, rfl, rfl, rfl⟩
  · have hshow : (b1.showClock now k).fe k = b1.fe k := rfl
    rw [fe_onDie_same, hshow, h1]
    exact ⟨rfl, rfl, rfl, rfl⟩

theorem fe_mark_other {j k : Nat} (h : j % 8 ≠ k % 8) (now c cycles : Nat) (b : Body) : (b.mark now c cycles k).fe j = b.fe j := by
  unfold Body.mark
  extract_lets d b1
  have h1 : b1.fe j = b.fe j := (fe_onDie ..).trans (if_neg h)
  split
  · exact h1
  · exact ((fe_onDie ..).trans (if_neg h)).trans h1

theorem mark_leaves (now c cycles k : Nat) (b : Body) : (b.mark now c cycles k).eng = b.eng ∧ (b.mark now c cycles k).twin = b.twin ∧
    ∀ f i, f ≠ .modFeclkDev → (b.mark now c cycles k).rd f i = b.rd f i := by
  unfold Body.mark
  extract_lets d b1
  split
  · exact ⟨rfl, rfl, fun _ _ _ => rfl⟩
  · refine ⟨rfl, rfl, fun f i hf => ?_⟩
    rw [onDie_rd]
    exact rd_wr_fld _ _ _ _ _ _ hf

theorem iclSyncMarker_corrects (k : DieIx) (c : Nat) (s : State) (hup : s.body.linkUp? k = true) :
    Runs (.iclSyncMarker ⟨k, c⟩) s fun t =>
      let d := s.body.fe k
      let u := t.body.fe k
      u.markT = s.time.elapsed ∧ u.phase = s.time.count ∧ u.seqDn = (d.seqDn + 1) % 256 ∧
      u.lastDn = some ⟨8, s.body.rd .twinDieEpoch k, d.seqDn, s.time.count :: s.body.stepNews s.env⟩ ∧
      u.rate = (if c = 0 then d.rate else ((s.time.count + 2 ^ 64 - d.phase) % 2 ^ 64 * 2 ^ 32 + c / 2) / c) ∧
      (∀ j, j < 8 → j ≠ k.val → { t.body.fe j with down := [], scanCond := 0 } = { s.body.fe j with down := [], scanCond := 0 }) ∧
      t.body.eng = s.body.eng ∧ t.body.twin = s.body.twin ∧
      ∀ f i, f ≠ .modFeclkDev → isTree f = false → t.body.rd f i = s.body.rd f i := by
  refine runs_onBody (rfl : exec (.iclSyncMarker ⟨k, c⟩) s = execIclSyncMarker ⟨k, c⟩ s) ?_
  obtain ⟨hmark, hphase, hseq, hrate⟩ := fe_mark s.time.elapsed s.time.count c k s.body
  obtain ⟨heng, htwin, hrd⟩ := mark_leaves s.time.elapsed s.time.count c k s.body
  have hother : ∀ j : Nat, j < 8 → j ≠ k.val → (s.body.mark s.time.elapsed s.time.count c k).fe j = s.body.fe j := fun j hj hne =>
    fe_mark_other (by have := k.isLt; omega) _ _ _ _
  have hepoch := hrd .twinDieEpoch k (by decide)
  rw [onBody_body, if_pos hup]
  dsimp only [env_now, env_count]
  generalize s.body.mark s.time.elapsed s.time.count c k = b at *
  have hfe : ∀ {α : Type} (p : Die → α), (∀ (d : Die) (x : List DownMsg) (y : Nat), p { d with down := x, scanCond := y } = p d) →
      p (((b.framed k false [(8, s.time.count :: s.body.stepNews s.env)]).settle s.env).fe k) =
        p ((b.fe k).frame (b.rd .twinDieEpoch k) false (8, s.time.count :: s.body.stepNews s.env)) := by
    intro α p hp
    rw [settle_fe _ _ _ p hp, framed_one, fe_onDie_same]
  refine ⟨?_, ?_, ?_, ?_, ?_, fun j hj hne => ?_, ?_, ?_, fun f i hf htree => ?_⟩
  · rw [hfe Die.markT (fun _ _ _ => rfl)]
    exact hmark
  · rw [hfe Die.phase (fun _ _ _ => rfl)]
    exact hphase
  · rw [hfe Die.seqDn (fun _ _ _ => rfl), ← hseq]
    rfl
  · rw [hfe Die.lastDn (fun _ _ _ => rfl), ← hepoch, ← hseq]
    rfl
  · rw [hfe Die.rate (fun _ _ _ => rfl)]
    exact hrate
  · have hj' : j % 8 ≠ k.val % 8 := by have := k.isLt; omega
    rw [settle_fe _ _ _ (fun d : Die => ({ d with down := [], scanCond := 0 } : Die)) (fun _ _ _ => rfl), framed_one, fe_onDie, if_neg hj', hother j hj hne]
  · rw [settle_eng]
    exact heng
  · rw [settle_twin]
    exact htwin
  · rw [settle_rd _ _ _ _ htree]
    exact hrd f i hf

/-! ### Status frames -/

/-- An event of a machine that is not held acts on its leader at once. -/
theorem deliver_live {e : Env} {n : Nat} {ev : Ev} {t : Nat} {b : Body} (horch : b.orch = true)
    (hheld : (b.ch (b.leadOf n)).state ≠ .held) : b.deliver e n ev t = b.applyEv e (b.leadOf n) ev t := by
  unfold Body.deliver
  dsimp only
  rw [if_neg (by simp [horch]), if_neg hheld]

/-- What the next status frame of a die does (R30, R38). -/
def statusTaken (e : Env) (k : Nat) (b : Body) : Body :=
  if !b.linkUp? k then b
  else
    let r := b.takeUp k UpMsg.isEvent
    match r.1 with
    | some (.event n ev t) => r.2.deliver e n ev (decidedAt ev t e.now)
    | _ => b

theorem exec_iclStatus (k : DieIx) (s : State) : exec (.iclStatus k) s = .next (s.onBody fun e b => statusTaken e k b) := rfl

theorem statusTaken_front {e : Env} {k : Nat} {n t : Nat} {ev : Ev} {up : List UpMsg} {b : Body} (hlink : b.linkUp? k = true)
    (hup : (b.fe k).up = .event n ev t :: up) : statusTaken e k b =
      ((b.onDie k fun d => { d with up := up }).framed k true [(5, [n, t])]).deliver e n ev (decidedAt ev t e.now) := by
  unfold statusTaken
  rw [if_neg (by simp [hlink]), takeUp_front hup rfl]
  rfl

/-- The end of a ramp moves the channel to ON (R65). -/
theorem rampDone_arrives {k : Nat} {n t : Nat} {up : List UpMsg} {e : Env} {b : Body} (horch : b.orch = true)
    (hst : (b.ch (b.leadOf n)).state = .ramp) :
    let c := ((b.onDie k fun d => { d with up := up }).framed k true [(5, [n, t])]).deliver e n .rampDone t
    (c.ch (b.leadOf n)).state = .on ∧ (c.ch (b.leadOf n)).reason = 0 ∧ (c.fe k).up = up := by
  intro c
  have hc : c = Body.enter e (b.leadOf n) .on 0 ((b.onDie k fun d => { d with up := up }).framed k true [(5, [n, t])]) := by
    refine (deliver_live (b := (b.onDie k fun d => { d with up := up }).framed k true [(5, [n, t])]) horch ?_).trans (if_pos hst)
    exact fun h => by cases hst.symm.trans h
  obtain ⟨hstate, hreason⟩ := enter_state e (b.leadOf n) .on 0 ((b.onDie k fun d => { d with up := up }).framed k true [(5, [n, t])])
  rw [hc]
  refine ⟨hstate, hreason, ?_⟩
  have hstill := still_enter e (b.leadOf n) .on 0 ((b.onDie k fun d => { d with up := up }).framed k true [(5, [n, t])])
  have hup := congrArg (fun x : Still => (x.die k).up) hstill
  refine hup.trans ?_
  have hf := fe_framed k true [(5, [n, t])] (b.onDie k fun d => { d with up := up }) Die.up (fun d e f => rfl) k
  refine hf.trans ?_
  rw [fe_onDie_same]

/-- Settles O13: every command of the link is the change of the die that it names, and with the link down none. -/
theorem linkFrames : Obligations.LinkFrames := by
  refine ⟨fun k s hlink => ⟨fun m ms hdown => iclWrite_applies hlink hdown, fun h kvs ms hdown hkvs => ?_,
    fun up hup => iclWriteAck_takes hlink hup, fun p a v up hup ha => ?_, fun p a v up hup ha => ?_,
    fun c => iclSyncMarker_corrects k c s hlink, ?_, ?_⟩, fun k s hlink => ?_, fun k n t ev up s hlink hup => ⟨?_, ?_⟩⟩
  · have happly := iclWrite_applies hlink hdown
    rw [framed_one, applyDown_fields _ _ _ _ _ hkvs, onDie_onDie, onDie_onDie, onDie_onDie] at happly
    exact happly
  · refine becomes_onBody rfl ((takeReply_front hlink hup (by simpa using ha)).trans ?_)
    rw [if_pos ha]
  · refine becomes_onBody rfl ((takeReply_front hlink hup (by simpa using ha)).trans ?_)
    rw [if_neg (by omega)]
  · refine becomes_of_settled rfl ?_
    rw [if_neg (by simp [hlink])]
    exact settled_raise ..
  · refine becomes_onBody rfl ?_
    rw [if_neg (by simp [hlink])]
    rfl
  · have hnot : (!s.body.linkUp? k) = true := by simp [hlink]
    refine ⟨becomes_onBody rfl ?_, becomes_onBody rfl (if_pos hnot), becomes_onBody rfl (if_pos hnot), becomes_onBody rfl (if_pos hnot),
      becomes_onBody rfl (if_pos hnot), fun c => becomes_onBody rfl (if_neg (by simp [hlink])), fun again => becomes_onBody rfl (if_pos hnot)⟩
    split
    · exact if_neg (by simp [hlink])
    · rfl
  · exact becomes_onBody (exec_iclStatus k s) (statusTaken_front hlink hup)
  · intro horch hled hev hst
    subst hev
    obtain ⟨hstate, hreason, hkept⟩ := rampDone_arrives (k := k) (n := n) (t := t) (up := up) (e := s.env) horch hst
    refine runs_onBody (exec_iclStatus k s) ?_
    rw [onBody_body, settle_ch_state, settle_ch_reason, settle_fe_up, statusTaken_front hlink hup]
    exact ⟨hstate, hreason, hkept⟩

end Sys2Proof.Proofs
end

section
/-!
SUPPORT. Bench mode and its scans (R361 to R373).
-/

namespace Sys2Proof.Proofs

open Sys2Proof Sys2Proof.Machine Sys2Proof.Safety Sys2Proof.Laws

/-! ### A change of role -/

theorem roleOf_setRole (e : Env) (r : Role) (b : Body) : roleOf (b.setRole e r) = r := by
  unfold Body.setRole
  split
  next h => exact h
  · extract_lets drove b1 b2 b3 b4
    have h2 : roleOf b2 = r := by
      unfold b2
      rw [roleOf_emitPassed]
      rfl
    have h3 : roleOf b3 = r := by
      unfold b3
      rw [roleOf_event, roleOf_wr, h2]
    have h4 : roleOf b4 = r := by
      unfold b4
      split
      · rw [roleOf_bbuRelease, h3]
      · exact h3
    split
    · rw [roleOf_endSoloHold, h4]
    · exact h4

theorem role_settle_eq {e : Env} {b : Body} {r : Role} (h : roleOf b = r) : (b.settle e).role = r := (settle_role e b).trans h

/-! ### Entry and exit -/

theorem benchClear_eng (b : Body) : b.benchClear.eng = b.eng := by
  unfold Body.benchClear
  generalize List.range 8 = l
  exact part_foldl Body.eng _ (by exact fun _ _ => rfl) l b

theorem metersStart_rd (e : Env) (b : Body) (f : Fld) (i : Nat) : (b.metersStart e).rd f i = b.rd f i := by
  unfold Body.metersStart
  generalize List.range 8 = l
  generalize List.range 128 = l'
  refine (part_foldl (fun c : Body => c.rd f i) _ ?_ l' _).trans (part_foldl (fun c : Body => c.rd f i) _ ?_ l b)
  · exact fun _ _ => rfl
  · exact fun _ _ => rfl

theorem benchBegin_leaves (e : Env) (b : Body) : roleOf (b.benchBegin e) = .bench ∧ (b.benchBegin e).rd .metaBenchstatActive = 1 ∧
    (b.benchBegin e).rd .metaBenchstatReady = 0 ∧ ∀ n, n < 128 → ((b.benchBegin e).en n).gate = .sink := by
  unfold Body.benchBegin
  extract_lets b1 b2 b3 b4
  have h2 : roleOf b2 = .bench := by
    unfold b2
    rw [roleOf_forEach _ _ _ (fun _ _ => roleOf_deliver ..)]
    exact roleOf_setRole ..
  have h3 : roleOf b3 = .bench := by
    unfold b3
    rw [roleOf_forEach _ _ _ (fun _ _ => roleOf_onEng ..), h2]
  have hsink : ∀ n, n < 128 → (b3.en n).gate = .sink := by
    intro n hn
    unfold b3
    generalize hl : List.range 128 = l
    have hmem : n ∈ l := hl ▸ List.mem_range.2 hn
    rw [en_forEach_onEng (fun _ g => { g with gate := .sink, htCmp := false }) (fun m hm => List.mem_range.1 (hl ▸ hm)) (hl ▸ List.nodup_range) b2 hn,
      if_pos hmem]
  clear_value b3
  have hen : ∀ n, b4.en n = b3.en n := by
    intro n
    unfold b4
    rw [wr_en, wr_en]
    unfold Body.en
    rw [benchClear_eng]
  have h4 : roleOf b4 = .bench := by
    unfold b4
    rw [roleOf_wr, roleOf_wr, roleOf_benchClear, h3]
  refine ⟨(roleOf_span ..).trans h4, ?_, ?_, fun n hn => ?_⟩
  · rw [Body.span, shared_rd]
    unfold b4
    rw [rd_wr_fld _ _ _ _ _ _ (by decide), rd_wr_of_lt _ _ (by decide)]
  · rw [Body.span, shared_rd]
    unfold b4
    rw [rd_wr_of_lt _ _ (by decide)]
  · rw [Body.span, shared_en, hen, hsink n hn]

theorem benchEnd_leaves (e : Env) (b : Body) : roleOf (b.benchEnd e) = .solo ∧ (b.benchEnd e).rd .metaBenchstatActive = 0 ∧
    (b.benchEnd e).rd .metaBenchstatExiting = 1 := by
  unfold Body.benchEnd
  extract_lets b1 b2 b3 b4 b5
  have h5 : roleOf b5 = .solo := by
    unfold b5 b4 b3
    rw [roleOf_wr, roleOf_wr, roleOf_wr, roleOf_forEach _ _ _ (fun _ _ => roleOf_onEng ..), roleOf_forEach _ _ _ (fun _ _ => roleOf_deliver ..)]
    exact roleOf_setRole ..
  have hrd : ∀ f i, ((b5.metersStart e).onBoot fun x => { x with readA := false, readB := false }).rd f i = b5.rd f i := by
    intro f i
    rw [onBoot_rd, metersStart_rd]
  refine ⟨by rw [roleOf_span, roleOf_onBoot, roleOf_metersStart, h5], ?_, ?_⟩
  · rw [Body.span, shared_rd, hrd]
    unfold b5
    rw [rd_wr_fld _ _ _ _ _ _ (by decide), rd_wr_fld _ _ _ _ _ _ (by decide), rd_wr_of_lt _ _ (by decide)]
  · rw [Body.span, shared_rd, hrd]
    unfold b5
    rw [rd_wr_of_lt _ _ (by decide)]

/-! ### The urgent requests of a die -/

theorem emptyScan_of_points {e : Env} {k : Nat} {b : Body} (h : (b.points k).isEmpty = false) : b.emptyScan e k = b := by
  unfold Body.emptyScan
  dsimp only
  rw [if_neg (by simp [h])]

/-- A fold of changes of one die, each of which keeps a part of it. -/
theorem visitsPause_fe (e : Env) (k : Nat) (b : Body) {α : Type} (p : Die → α) (hp : ∀ (d : Die) (x y : VisitRun), p { d with visA := x, visB := y } = p d)
    (j : Nat) : p ((b.visitsPause e k).fe j) = p (b.fe j) := by
  unfold Body.visitsPause
  refine part_foldl (fun c : Body => p (c.fe j)) _ (fun c a => ?_) [0, 1] b
  dsimp only [Body.onVisit]
  rw [fe_onDie]
  split
  next h =>
    rw [fe_congr c h]
    split
    · exact hp _ (c.fe k).visA _
    · exact hp _ _ (c.fe k).visB
  · rfl

/-- A bench scan that may go starts (R370). -/
theorem urgentStart_bench {e : Env} {k : Nat} {b : Body} (hrun : (b.fe k).urg.run = none) (hpass : (b.fe k).urg.passLeft = 0)
    (hcap : (b.fe k).urg.waitCap = false) (hgo : b.benchGo e k = true) (hpts : (b.points k).isEmpty = false) :
    ((b.urgentStart e k).fe k).urg.run = some .bench ∧ ((b.urgentStart e k).fe k).scanZero = (b.fe k).scanZero ∧
    (b.urgentStart e k).rd .metaBenchdieBusy k = 1 := by
  have hstart : b.urgentStart e k = ((((b.onDie k fun d => { d with scanCond := 0, urg := { d.urg with waitBench := false } }).visitsPause e k).onUrg k fun u =>
      { u with run := some .bench, startT := e.now, loopAt := 0, loopOdd := true, loopB := false, ahead := [] }).dwr k .feCvstatUrgent k 1).wr .metaBenchdieBusy k 1 := by
    unfold Body.urgentStart
    rw [emptyScan_of_points hpts]
    dsimp only
    rw [if_neg (by simp [hrun, hpass]), if_neg (by simp [hcap]), if_pos hgo]
  rw [hstart]
  refine ⟨?_, ?_, ?_⟩
  · rw [wr_fe, Body.dwr, fe_onDie_same, onUrg_fe_same]
  · rw [wr_fe, Body.dwr, fe_onDie_same, onUrg_fe_same]
    dsimp only
    rw [visitsPause_fe e k _ Die.scanZero (fun _ _ _ => rfl), fe_onDie_same]
  · exact rd_wr_of_lt _ _ (by decide)

/-- What the work of another die leaves of die k: the die itself and the mark of its scan. -/
def ofOthers (k : Nat) (b : Body) : Die × Nat := (b.fe k, b.rd .metaBenchdieBusy k)

section
variable {j k : Nat} (h : k % 8 ≠ j % 8)
include h

theorem ofOthers_onDie (f : Die → Die) (b : Body) : ofOthers k (b.onDie j f) = ofOthers k b :=
  Prod.ext ((fe_onDie ..).trans (if_neg h)) rfl

theorem ofOthers_onUrg (f : Urgent → Urgent) (b : Body) : ofOthers k (b.onUrg j f) = ofOthers k b := ofOthers_onDie h _ b

theorem ofOthers_dwr (f : Fld) (i v : Nat) (b : Body) : ofOthers k (b.dwr j f i v) = ofOthers k b := ofOthers_onDie h _ b

theorem ofOthers_visitsPause (e : Env) (b : Body) : ofOthers k (b.visitsPause e j) = ofOthers k b :=
  part_foldl (ofOthers k) _ (fun c _ => ofOthers_onDie h _ c) _ b

theorem ofOthers_emptyScan (e : Env) (b : Body) : ofOthers k (b.emptyScan e j) = ofOthers k b := by
  unfold Body.emptyScan
  dsimp only
  split
  · exact ofOthers_onDie h _ b
  · rfl

omit h in
theorem ofOthers_wr (f : Fld) (i v : Nat) (b : Body) (hf : f ≠ .metaBenchdieBusy ∨ i ≠ k) : ofOthers k (b.wr f i v) = ofOthers k b := by
  refine Prod.ext rfl ?_
  show (b.wr f i v).rd .metaBenchdieBusy k = b.rd .metaBenchdieBusy k
  rw [rd_wr, if_neg]
  rintro ⟨hfld, hix⟩
  exact hf.elim (fun hne => hne hfld.symm) fun hne => hne hix.symm

omit h in
theorem ofOthers_startCap (e : Env) (b : Body) : ofOthers k (b.startCap e j) = ofOthers k b := by
  unfold Body.startCap
  split
  · rfl
  · exact ofOthers_wr _ _ _ _ (.inl (by decide))

omit h in
theorem ofOthers_span (time kind edge mask : Nat) (b : Body) : ofOthers k (b.span time kind edge mask) = ofOthers k b :=
  shared_part (ofOthers k) (fun _ _ _ => rfl) _ b

omit h in
theorem ofOthers_paths (f : MPath → MPath) (l : List Nat) (b : Body) :
    ofOthers k (b.forEach l fun n b => b.onPath n f) = ofOthers k b :=
  part_foldl (ofOthers k) _ (by exact fun _ _ => rfl) l b

theorem ofOthers_urgentStart (e : Env) (b : Body) : ofOthers k (b.urgentStart e j) = ofOthers k b := by
  have hjk : j ≠ k := fun hjk => h (by rw [hjk])
  unfold Body.urgentStart
  extract_lets b1 u go b2 b3
  have hgo : ∀ r c, ofOthers k (go r c) = ofOthers k c := by
    intro r c
    unfold go
    rw [ofOthers_dwr h, ofOthers_onUrg h, ofOthers_visitsPause h]
  have h1 : ofOthers k b1 = ofOthers k b := ofOthers_emptyScan h ..
  have h3 : ofOthers k b3 = ofOthers k b := by
    unfold b3 b2
    rw [ofOthers_startCap, ofOthers_dwr h, ofOthers_dwr h, hgo, ofOthers_onUrg h, h1]
  clear_value go
  split
  · exact h1
  · split
    · split
      · rw [ofOthers_span, ofOthers_paths, h3]
      · exact h3
    · split
      · rw [ofOthers_wr _ _ _ _ (.inr hjk), hgo, ofOthers_onDie h, h1]
      · split
        · rw [hgo, ofOthers_onUrg h, h1]
        · exact h1

theorem ofOthers_benchTrigger (e : Env) (zero : Bool) (b : Body) : ofOthers k (b.benchTrigger e zero j) = ofOthers k b := by
  unfold Body.benchTrigger
  dsimp only
  split
  · rfl
  · split
    · split
      · exact ofOthers_onDie h _ b
      · exact ofOthers_wr _ _ _ _ (.inl (by decide))
    · split
      · exact ofOthers_wr _ _ _ _ (.inl (by decide))
      · rw [ofOthers_urgentStart h, ofOthers_onUrg h, ofOthers_onDie h]

end

/-- A register of HUB that the work of a die does not write. -/
theorem rd_of_linkSide {b c : Body} (h : linkSide c = linkSide b) {f : Fld} (hf : ofDie f = false) (i : Nat) : c.rd f i = b.rd f i := by
  have hrd := congrFun (congrFun (congrArg Prod.snd h) f) i
  simpa [linkSide, hf] using hrd

theorem hubSide_benchTrigger (e : Env) (zero : Bool) (j : Nat) (b : Body) : hubSide (b.benchTrigger e zero j) = hubSide b := by
  unfold Body.benchTrigger
  dsimp only
  split
  · rfl
  · split
    · split <;> rfl
    · split
      · rfl
      · rw [hubSide_urgentStart, hubSide_onUrg, hubSide_onDie]

theorem ready_benchTrigger (e : Env) (zero : Bool) (j : Nat) (b : Body) :
    (b.benchTrigger e zero j).rd .metaBenchstatReady 0 = b.rd .metaBenchstatReady 0 := by
  unfold Body.benchTrigger
  dsimp only
  split
  · rfl
  · split
    · split
      · rfl
      · exact rd_wr_fld _ _ _ _ _ _ (by decide)
    · split
      · exact rd_wr_fld _ _ _ _ _ _ (by decide)
      · exact rd_of_linkSide (linkSide_urgentStart ..) rfl 0

/-- What a trigger of another die leaves: die k, HUB's side and READY. -/
def Untriggered (k : Nat) (b c : Body) : Prop :=
  ofOthers k c = ofOthers k b ∧ hubSide c = hubSide b ∧ c.rd .metaBenchstatReady 0 = b.rd .metaBenchstatReady 0

theorem untriggered_benchTrigger {j k : Nat} (h : k % 8 ≠ j % 8) (e : Env) (zero : Bool) (b : Body) :
    Untriggered k b (b.benchTrigger e zero j) :=
  ⟨ofOthers_benchTrigger h e zero b, hubSide_benchTrigger .., ready_benchTrigger ..⟩

/-- A die with an enabled point that is idle, with no rest running. -/
structure ScanIdle (k : Nat) (b : Body) : Prop where
  runs : b.dieRuns k = true
  points : (b.points k).isEmpty = false
  run : (b.fe k).urg.run = none
  pass : (b.fe k).urg.passLeft = 0
  cap : (b.fe k).urg.waitCap = false
  bench : (b.fe k).urg.waitBench = false
  rest : (b.fe k).restEnd = none
  cool : b.health.lvl < 4

theorem benchTrigger_starts {e : Env} {zero : Bool} {k : Nat} {b : Body} (hrole : b.role = .bench) (hready : b.rd .metaBenchstatReady 0 = 1)
    (hidle : ScanIdle k b) : ((b.benchTrigger e zero k).fe k).urg.run = some .bench ∧
      ((b.benchTrigger e zero k).fe k).scanZero = zero ∧ (b.benchTrigger e zero k).rd .metaBenchdieBusy k = 1 := by
  obtain ⟨hruns, hpts, hrun, hpass, hcap, hbench, hrest, hcool⟩ := hidle
  have hover : b.restOver e k = true := by simp [Body.restOver, hrest]
  have htrig : b.benchTrigger e zero k =
      ((b.onDie k fun d => { d with scanZero := zero }).onUrg k fun u => { u with waitBench := true }).urgentStart e k := by
    unfold Body.benchTrigger
    dsimp only
    rw [if_neg (by simp [hrole, hruns, flag_eq, hready]), if_neg (by simp [hrun, hover, hrest]), if_neg (by simp [hbench])]
  generalize hc : ((b.onDie k fun d => { d with scanZero := zero }).onUrg k fun u => { u with waitBench := true }) = c at htrig
  have hfe : c.fe k = { b.fe k with scanZero := zero, urg := { (b.fe k).urg with waitBench := true } } := by
    rw [← hc, onUrg_fe_same, fe_onDie_same]
  have hpoints : c.points k = b.points k := by
    unfold Body.points Body.drd
    rw [hfe]
  have hgo : c.benchGo e k = true := by
    have hlvl : c.health.lvl = b.health.lvl := by rw [← hc]; rfl
    simp [Body.benchGo, Body.restOver, hfe, hrest, hlvl, hcool]
  obtain ⟨h1, h2, h3⟩ := urgentStart_bench (e := e) (k := k) (b := c) (by rw [hfe]; exact hrun) (by rw [hfe]; exact hpass)
    (by rw [hfe]; exact hcap) hgo (by rw [hpoints]; exact hpts)
  rw [htrig]
  exact ⟨h1, h2.trans (by rw [hfe]), h3⟩

/-- In a fold over distinct indices, what the others of the list keep stands before and after the turn of one. -/
theorem forEach_turn_mem {R : Body → Body → Prop} (hrefl : ∀ b, R b b) (htrans : ∀ {a b c}, R a b → R b c → R a c)
    {f : Nat → Body → Body} {i : Nat} {l : List Nat} (hf : ∀ j ∈ l, j ≠ i → ∀ b, R b (f j b)) (hnd : l.Nodup) (hi : i ∈ l) (b : Body) :
    ∃ c, R b c ∧ R (f i c) (b.forEach l f) := by
  obtain ⟨l₁, l₂, rfl⟩ := List.append_of_mem hi
  have hnot := (List.nodup_cons.1 (List.nodup_middle.1 hnd)).1
  have hbefore : ∀ j ∈ l₁, ∀ b, R b (f j b) := fun j hj =>
    hf j (List.mem_append_left _ hj) (ne_of_mem_of_not_mem (List.mem_append_left _ hj) hnot)
  have hafter : ∀ j ∈ l₂, ∀ b, R b (f j b) := fun j hj =>
    hf j (List.mem_append_right _ (List.mem_cons_of_mem _ hj)) (ne_of_mem_of_not_mem (List.mem_append_right _ hj) hnot)
  refine ⟨b.forEach l₁ f, forEach_keeps hrefl htrans hbefore b, ?_⟩
  unfold Body.forEach
  rw [List.foldl_append, List.foldl_cons]
  exact forEach_keeps hrefl htrans hafter _

theorem scanIdle_of_untriggered {k : Nat} {b c : Body} (h : Untriggered k b c) (hidle : ScanIdle k b) : ScanIdle k c := by
  obtain ⟨hothers, hhub, -⟩ := h
  have hfe : c.fe k = b.fe k := congrArg Prod.fst hothers
  have hhealth : c.health = b.health := by
    have hh := congrArg Body.health hhub
    exact hh
  have hdoze : c.doze = b.doze := by
    have hh := congrArg Body.doze hhub
    exact hh
  obtain ⟨hruns, hpts, hrun, hpass, hcap, hbench, hrest, hcool⟩ := hidle
  refine ⟨?_, ?_, ?_, ?_, ?_, ?_, ?_, ?_⟩
  · rw [← hruns, Body.dieRuns, Body.dieRuns, Body.dieOff, Body.dieOff, hfe, hhealth, hdoze]
  · rw [← hpts, Body.points, Body.points]
    unfold Body.drd
    rw [hfe]
  case refine_8 => rw [hhealth]; exact hcool
  all_goals rw [hfe]; assumption

/-- A trigger starts a scan on an idle die, whatever it does on the others (R369). -/
theorem benchTriggers_start {e : Env} {zero : Bool} {k : Nat} {l : List Nat} (hl : ∀ j ∈ l, j < 8) (hnd : l.Nodup) (hk : k ∈ l) {b : Body}
    (hrole : b.role = .bench) (hready : b.rd .metaBenchstatReady 0 = 1) (hidle : ScanIdle k b) :
    let c := b.forEach l fun j b => b.benchTrigger e zero j
    (c.fe k).urg.run = some .bench ∧ c.rd .metaBenchdieBusy k = 1 ∧ (c.fe k).scanZero = zero := by
  intro c
  have hothers : ∀ j ∈ l, j ≠ k → ∀ b, Untriggered k b (b.benchTrigger e zero j) := fun j hj hne b =>
    untriggered_benchTrigger (by have := hl j hj; have := hl k hk; omega) e zero b
  obtain ⟨d, hbefore, hafter⟩ := forEach_turn_mem (R := Untriggered k) (fun _ => ⟨rfl, rfl, rfl⟩)
    (fun ⟨a₁, a₂, a₃⟩ ⟨b₁, b₂, b₃⟩ => ⟨b₁.trans a₁, b₂.trans a₂, b₃.trans a₃⟩) hothers hnd hk b
  have hrole' : d.role = .bench := by
    have hh := congrArg Body.role hbefore.2.1
    exact hh.trans hrole
  obtain ⟨h1, h2, h3⟩ := benchTrigger_starts (e := e) (zero := zero) hrole' (hbefore.2.2.trans hready) (scanIdle_of_untriggered hbefore hidle)
  have hfe : c.fe k = (d.benchTrigger e zero k).fe k := congrArg Prod.fst hafter.1
  have hbusy : c.rd .metaBenchdieBusy k = (d.benchTrigger e zero k).rd .metaBenchdieBusy k := congrArg Prod.snd hafter.1
  rw [hfe, hbusy]
  exact ⟨h1, h3, h2⟩

/-! ### The end of a scan -/

theorem entries_pos (b : Body) (k : Nat) : 0 < b.entries k :=
  List.length_pos_of_mem (a := 0) (List.mem_filter.2 ⟨List.mem_range.2 (by decide), by simp [Body.entryOn]⟩)

/-- While a pass is owed no request starts. -/
theorem urgentStart_passing {e : Env} {k : Nat} {b : Body} (h : 0 < (b.fe k).urg.passLeft) : b.urgentStart e k = b := by
  have hempty : b.emptyScan e k = b := by
    unfold Body.emptyScan
    dsimp only
    rw [if_neg]
    simp only [Bool.and_eq_true, decide_eq_true_eq, not_and]
    omega
  unfold Body.urgentStart
  rw [hempty]
  dsimp only
  rw [if_pos (by simp [h])]

theorem visitsFollow_fe (e : Env) (k : Nat) (b : Body) {α : Type} (p : Die → α) (hp : ∀ (d : Die) (x y : VisitRun), p { d with visA := x, visB := y } = p d)
    (j : Nat) : p ((b.visitsFollow e k).fe j) = p (b.fe j) := by
  unfold Body.visitsFollow
  refine part_foldl (fun c : Body => p (c.fe j)) _ (fun c a => ?_) [0, 1] b
  dsimp only [Body.onVisit]
  rw [fe_onDie]
  split
  next h =>
    rw [fe_congr c h]
    split
    · exact hp _ (c.fe k).visA _
    · exact hp _ _ (c.fe k).visB
  · rfl

theorem onFu_fe (k u : Nat) (f : FuState → FuState) (b : Body) {α : Type} (p : Die → α) (hp : ∀ (d : Die) (x : Vector FuState 80), p { d with fus := x } = p d)
    (j : Nat) : p ((b.onFu k u f).fe j) = p (b.fe j) := by
  unfold Body.onFu
  rw [fe_onDie]
  split
  next h => rw [hp, fe_congr b h]
  · rfl

/-- The end of an urgent request: none runs, a pass is owed, and the rest of the die is as it was. -/
theorem urgentEnd_fe (e : Env) (k : Nat) (wide : Bool) (b : Body) :
    ((b.urgentEnd e k wide).fe k).urg.run = none ∧ 0 < ((b.urgentEnd e k wide).fe k).urg.passLeft ∧
    ((b.urgentEnd e k wide).fe k).restEnd = (b.fe k).restEnd := by
  unfold Body.urgentEnd
  extract_lets slots us b1 b2 b3
  have h3 : b3.fe k = { b2.fe k with slotPos := ((b2.fe k).slotPos + slots) % 4 } := fe_onDie_same ..
  have h2 : (b2.fe k).urg = { (b1.fe k).urg with run := none, passLeft := b1.entries k, ahead := [] } := by
    unfold b2
    rw [Body.dwr, fe_onDie_same, onUrg_fe_same]
  have h2r : (b2.fe k).restEnd = (b.fe k).restEnd := by
    unfold b2 b1
    rw [Body.dwr, fe_onDie_same, onUrg_fe_same, Body.dwr, fe_onDie_same]
  have hrest : ∀ {α : Type} (p : Die → α), (∀ (d : Die) (x y : VisitRun), p { d with visA := x, visB := y } = p d) →
      (∀ (d : Die) (x : Vector FuState 80), p { d with fus := x } = p d) → ∀ l : List Nat,
      p (((b3.forEach l fun u b => b.onFu k u fun f => { f with gap := true }).visitsFollow e k).fe k) = p (b3.fe k) := by
    intro α p hv hf l
    rw [visitsFollow_fe e k _ p hv]
    exact part_foldl (fun c : Body => p (c.fe k)) _ (fun c u => onFu_fe k u _ c p hf k) l b3
  refine ⟨?_, ?_, ?_⟩
  · rw [hrest (fun d => d.urg.run) (fun _ _ _ => rfl) (fun _ _ => rfl), h3, h2]
  · rw [hrest (fun d => d.urg.passLeft) (fun _ _ _ => rfl) (fun _ _ => rfl), h3, h2]
    exact entries_pos ..
  · rw [hrest Die.restEnd (fun _ _ _ => rfl) (fun _ _ => rfl), h3, ← h2r]

theorem urgentEnd_rd (e : Env) (k : Nat) (wide : Bool) (b : Body) (f : Fld) (i : Nat) : (b.urgentEnd e k wide).rd f i = b.rd f i := by
  unfold Body.urgentEnd
  extract_lets slots us b1 b2 b3
  have h3 : b3.rd f i = b.rd f i := rfl
  clear_value b3
  unfold Body.visitsFollow
  exact (part_foldl (fun c : Body => c.rd f i) _ (by exact fun _ _ => rfl) _ _).trans
    ((part_foldl (fun c : Body => c.rd f i) _ (by exact fun _ _ => rfl) _ _).trans h3)

theorem samples_rd (k input : Nat) (sv : Serve) (wide : Bool) (start per j : Nat) (xs : List Int) (b : Body) (f : Fld) (i : Nat) :
    (Body.samples k input sv wide start per j xs b).2.rd f i = b.rd f i := by
  induction xs generalizing j b with
  | nil => rfl
  | cons x xs ih => exact (ih _ _).trans rfl

theorem conversions_rd (k : Nat) (raws : List (List Int)) (b : Body) (f : Fld) (i : Nat) : (b.conversions k raws).2.rd f i = b.rd f i := by
  have hfold : ∀ (g : List (Int × Bool) × Body → Nat → List (Int × Bool) × Body), (∀ a n, (g a n).2.rd f i = a.2.rd f i) →
      ∀ (l : List Nat) (a : List (Int × Bool) × Body), (l.foldl g a).2.rd f i = a.2.rd f i := by
    intro g hg l
    induction l with
    | nil => exact fun _ => rfl
    | cons n l ih => exact fun a => (ih _).trans (hg a n)
  unfold Body.conversions
  exact hfold _ (fun a n => samples_rd ..) _ ([], b)

theorem scanCommit_leaves (e : Env) (k : Nat) (raws : List (List Int)) (b : Body) :
    (b.scanCommit e k raws).rd .metaBenchdieSeq k = (b.rd .metaBenchdieSeq k + 1) % 65536 ∧
    (b.scanCommit e k raws).rd .metaBenchdieBusy k = 0 ∧ (b.scanCommit e k raws).rd .metaBenchdieRest k = 1 ∧
    ((b.scanCommit e k raws).fe k).restEnd = some (e.now + b.scanNs k) ∧ ((b.scanCommit e k raws).fe k).urg.run = none := by
  unfold Body.scanCommit
  extract_lets len r b1 order ratio conv v1 v2 br sq b2 b3 b4 b5 b6
  have hseq : b1.rd .metaBenchdieSeq k = b.rd .metaBenchdieSeq k := conversions_rd ..
  obtain ⟨hrun, hpass, hrest⟩ := urgentEnd_fe e k false b6
  have hrd := urgentEnd_rd e k false b6
  rw [urgentStart_passing hpass, hrd, hrd, hrd, hrun, hrest]
  have hwidth : sq < 2 ^ fieldWidth .metaBenchdieSeq := Nat.mod_lt _ (by decide)
  refine ⟨?_, ?_, ?_, ?_, rfl⟩
  · unfold b6 b5 b4
    rw [onDie_rd, rd_wr_fld _ _ _ _ _ _ (by decide), rd_wr_fld _ _ _ _ _ _ (by decide), rd_wr_of_lt _ _ hwidth]
    unfold sq
    rw [hseq]
  · unfold b6 b5
    rw [onDie_rd, rd_wr_fld _ _ _ _ _ _ (by decide), rd_wr_of_lt _ _ (by decide)]
  · unfold b6 b5
    rw [onDie_rd, rd_wr_of_lt _ _ (by decide)]
  · unfold b6
    rw [fe_onDie_same]

/-- The end of a rest starts the trigger that was held (R370, R373). -/
theorem restEnds_held {e : Env} {k : Nat} {z : Bool} {b : Body} (hheld : (b.fe k).scanHeld = some z) (hpts : (b.points k).isEmpty = false)
    (hcool : b.health.lvl < 4) (hrun : (b.fe k).urg.run = none) (hpass : (b.fe k).urg.passLeft = 0) (hcap : (b.fe k).urg.waitCap = false) :
    ((b.restEnds e k).fe k).urg.run = some .bench ∧ ((b.restEnds e k).fe k).scanZero = z ∧ (b.restEnds e k).rd .metaBenchdieRest k = 0 := by
  unfold Body.restEnds
  extract_lets b1 held b2
  have hh : held = some z := hheld
  have h2 : b2.fe k = { b.fe k with restEnd := none, scanHeld := none } := fe_onDie_same ..
  have h2r : b2.rd .metaBenchdieRest k = 0 := by
    unfold b2 b1
    rw [onDie_rd, rd_wr_of_lt _ _ (by decide)]
  have h2l : b2.health.lvl = b.health.lvl := rfl
  rw [hh]
  dsimp only
  generalize hc : ((b2.onDie k fun d => { d with scanZero := z }).onUrg k fun u => { u with waitBench := true }) = c
  have hfe : c.fe k = { b2.fe k with scanZero := z, urg := { (b2.fe k).urg with waitBench := true } } := by
    rw [← hc, onUrg_fe_same, fe_onDie_same]
  have hpoints : c.points k = b.points k := by
    unfold Body.points Body.drd
    rw [hfe, h2]
  have hgo : c.benchGo e k = true := by
    have hlvl : c.health.lvl = b.health.lvl := by rw [← hc]; rfl
    simp [Body.benchGo, Body.restOver, hfe, h2, hlvl, hcool]
  obtain ⟨h1, hz, -⟩ := urgentStart_bench (e := e) (k := k) (b := c) (by rw [hfe, h2]; exact hrun) (by rw [hfe, h2]; exact hpass)
    (by rw [hfe, h2]; exact hcap) hgo (by rw [hpoints]; exact hpts)
  refine ⟨h1, hz.trans (by rw [hfe]), ?_⟩
  rw [rd_of_linkSide (linkSide_urgentStart ..) rfl, ← hc, onUrg_rd, onDie_rd, h2r]

theorem onDie_congr (k : Nat) {f g : Die → Die} (b : Body) (h : f (b.fe k) = g (b.fe k)) : b.onDie k f = b.onDie k g := by
  unfold Body.onDie
  simp only [h]

theorem restEnds_idle {e : Env} {k : Nat} {b : Body} (hheld : (b.fe k).scanHeld = none) :
    b.restEnds e k = (b.wr .metaBenchdieRest k 0).onDie k fun d => { d with restEnd := none } := by
  unfold Body.restEnds
  dsimp only
  rw [wr_fe, hheld]
  exact onDie_congr _ _ (by rw [wr_fe, ← hheld])

/-! ### The obligation -/

theorem exec_benchEnter (s : State) : exec .benchEnter s = .next (s.onBody fun e b => b.benchEnter e) := rfl
theorem exec_benchExit (s : State) : exec .benchExit s = .next (s.onBody fun e b => b.benchExit e) := rfl
theorem exec_benchTrig (s : State) :
    exec .benchTrig s = .next (s.onHub fun e b => b.forEach (List.range 8) fun k b => b.benchTrigger e false k) := rfl
theorem exec_benchZero (s : State) :
    exec .benchZero s = .next (s.onHub fun e b => b.forEach (List.range 8) fun k b => b.benchTrigger e true k) := rfl
theorem exec_benchScanCommit (k : DieIx) (raws : List (List Int)) (s : State) :
    exec (.benchScanCommit k raws) s = execBenchScanCommit k raws s := rfl
theorem exec_benchRestEnd (k : DieIx) (s : State) : exec (.benchRestEnd k) s = execBenchRestEnd k s := rfl

theorem mem_range_eight (k : DieIx) : ∀ l, List.range 8 = l → (∀ j ∈ l, j < 8) ∧ l.Nodup ∧ k.val ∈ l := by
  rintro l rfl
  exact ⟨fun j => List.mem_range.1, List.nodup_range, List.mem_range.2 k.isLt⟩

/-- Settles O36: entry and exit by the role they set, the scans by the urgent request that they start or end. -/
theorem benchMode : Obligations.BenchMode := by
  constructor
  · intro s hhub hun
    have hgate : (!s.body.unlocked 6 || s.body.hubDown) = false := by simp [hun, hhub]
    refine ⟨fun hbar => ?_, fun hbar => ?_, fun hrole => ?_, fun hrole => ?_⟩
    · have hbody : s.body.benchEnter s.env = s.body.benchBegin s.env := by
        unfold Body.benchEnter
        rw [if_neg (by simp [hgate])]
        exact if_pos hbar
      obtain ⟨hrole, hactive, hready, hsink⟩ := benchBegin_leaves s.env s.body
      refine runs_onBody (exec_benchEnter s) ?_
      rw [onBody_body, hbody]
      refine ⟨role_settle_eq hrole, ?_, ?_, fun n hn => ?_⟩
      · rw [settle_rd _ _ _ _ rfl, hactive]
      · rw [settle_rd _ _ _ _ rfl, hready]
      · rw [settle_en, hsink n hn]
    · refine becomes_onBody (exec_benchEnter s) ?_
      unfold Body.benchEnter
      rw [if_neg (by simp [hgate])]
      exact if_neg hbar
    · exact becomes_onBody rfl (if_pos (by simp [hrole, hhub]))
    · have hbody : s.body.benchExit s.env = s.body.benchEnd s.env := if_pos (by simp [hun, hrole, hhub])
      obtain ⟨hsolo, hactive, hexit⟩ := benchEnd_leaves s.env s.body
      refine runs_onBody (exec_benchExit s) ?_
      rw [onBody_body, hbody]
      refine ⟨role_settle_eq hsolo, ?_, ?_⟩
      · rw [settle_rd _ _ _ _ rfl, hactive]
      · rw [settle_rd _ _ _ _ rfl, hexit]
  · intro k s hhub
    refine ⟨fun hrole hready hruns hpts hrun hpass hcap hbench hrest hcool => ?_, fun raws hrun hoff => ?_, fun T hT => ⟨fun hheld => ?_,
      fun z hheld hpts hcool hrun hpass hcap => ?_⟩⟩
    · have hready' : s.body.rd .metaBenchstatReady 0 = 1 := by simpa [flag_eq] using hready
      have hidle : ScanIdle k s.body := ⟨hruns, hpts, hrun, hpass, hcap, hbench, hrest, hcool⟩
      have hstart : ∀ zero l, List.range 8 = l → _ := fun zero l hl =>
        benchTriggers_start (e := s.env) (zero := zero) (mem_range_eight k l hl).1 (mem_range_eight k l hl).2.1 (mem_range_eight k l hl).2.2
          hrole hready' hidle
      constructor
      · obtain ⟨h1, h2, h3⟩ := hstart false _ rfl
        refine runs_onHub (exec_benchTrig s) hhub ?_
        rw [onBody_body, settle_fe_urg, settle_rd _ _ _ _ rfl, settle_fe _ _ _ Die.scanZero (fun _ _ _ => rfl)]
        exact ⟨h1, h2, h3⟩
      · obtain ⟨h1, h2, h3⟩ := hstart true _ rfl
        refine runs_onHub (exec_benchZero s) hhub ?_
        rw [onBody_body, settle_fe_urg, settle_rd _ _ _ _ rfl, settle_fe _ _ _ Die.scanZero (fun _ _ _ => rfl)]
        exact ⟨h1, h2, h3⟩
    · have hexec : exec (.benchScanCommit k raws) s = .next ((s.goTo ((s.body.fe k).urg.startT + s.body.scanNs k)).onBody fun e b =>
          b.scanCommit e k raws) := by
        rw [exec_benchScanCommit, execBenchScanCommit, if_neg (by simp [hrun, hoff])]
      refine runsAt_onBody hexec ?_
      generalize (s.body.fe k).urg.startT + s.body.scanNs k = T
      obtain ⟨h1, h2, h3, h4, h5⟩ := scanCommit_leaves (s.goTo T).env k raws s.body
      rw [onBody_body, goTo_body, settle_rd _ _ _ _ rfl, settle_rd _ _ _ _ rfl, settle_rd _ _ _ _ rfl,
        settle_fe _ _ _ Die.restEnd (fun _ _ _ => rfl), settle_fe_urg, h1, h2, h3, h4, h5]
      exact ⟨rfl, rfl, rfl, rfl, rfl⟩
    · have hexec : exec (.benchRestEnd k) s = .next ((s.goTo T).onBody fun e b => b.restEnds e k) := by
        rw [exec_benchRestEnd, execBenchRestEnd, hT]
      exact becomesAt_onBody hexec (restEnds_idle hheld)
    · have hexec : exec (.benchRestEnd k) s = .next ((s.goTo T).onBody fun e b => b.restEnds e k) := by
        rw [exec_benchRestEnd, execBenchRestEnd, hT]
      obtain ⟨h1, h2, h3⟩ := restEnds_held (e := (s.goTo T).env) hheld hpts hcool hrun hpass hcap
      refine runsAt_onBody hexec ?_
      rw [onBody_body, goTo_body, settle_fe_urg, settle_fe _ _ _ Die.scanZero (fun _ _ _ => rfl), settle_rd _ _ _ _ rfl]
      exact ⟨h1, h2, h3⟩

end Sys2Proof.Proofs
end

section
/-!
SUPPORT. Doze (R51, R52, R299, R343).
-/

namespace Sys2Proof.Proofs

open Sys2Proof Sys2Proof.Machine Sys2Proof.Safety Sys2Proof.Laws

/-! ### A scan in doze -/

/-- The turn of a channel in a scan (R268, R299). -/
def dozeTurn (e : Env) (k : Nat) (raws : List Int) (n : Nat) (b : Body) : Body :=
  let r := b.slice k (b.sliceB k (n % 16)) (raws.getD (n % 16) 0)
  r.2.onEng n fun g => { g with out := loopResult (satExt r.1), outAt := e.now }

/-- What a scan finds of a channel: the word of the dither generator has moved once for each channel before it. -/
def dozeOut (k : Nat) (raws : List Int) (n : Nat) (b : Body) : Int :=
  loopResult (satExt ((b.onDie k fun d => { d with lfsr := Nat.repeat lfsrNext (n % 16) d.lfsr }).slice k (b.sliceB k (n % 16))
    (raws.getD (n % 16) 0)).1)

theorem slice_fst_congr {b c : Body} {k : Nat} (h : b.fe k = c.fe k) (sl : Nat) (raw : Int) : (b.slice k sl raw).1 = (c.slice k sl raw).1 := by
  unfold Body.slice Body.trim Body.drd
  rw [h]

theorem dozeTurn_fe (e : Env) (k : Nat) (raws : List Int) (n : Nat) (b : Body) :
    (dozeTurn e k raws n b).fe k = { b.fe k with lfsr := lfsrNext (b.fe k).lfsr } := by
  unfold dozeTurn Body.slice
  dsimp only
  rw [onEng_fe, fe_onDie_same]

theorem dozeTurn_en (e : Env) (k : Nat) (raws : List Int) (n m : Nat) (b : Body) : ((dozeTurn e k raws n b).en m).out =
    if m % 128 = n % 128 then loopResult (satExt (b.slice k (b.sliceB k (n % 16)) (raws.getD (n % 16) 0)).1) else (b.en m).out := by
  unfold dozeTurn
  dsimp only
  rw [en_onEng]
  split <;> rfl

/-- The first channels of a die in a scan. -/
theorem dozeTurns (e : Env) (k : Nat) (raws : List Int) (b : Body) (m : Nat) (hm : m ≤ 16) :
    let c := b.forEach ((List.range m).map (16 * k + ·)) (dozeTurn e k raws)
    c.fe k = { b.fe k with lfsr := Nat.repeat lfsrNext m (b.fe k).lfsr } ∧
      ∀ j, j < m → (c.en (16 * k + j)).out = dozeOut k raws (16 * k + j) b := by
  induction m with
  | zero => exact ⟨rfl, fun j hj => absurd hj (Nat.not_lt_zero j)⟩
  | succ m ih =>
    intro c
    obtain ⟨hfe, hout⟩ := ih (by omega)
    have hc : c = dozeTurn e k raws (16 * k + m) (b.forEach ((List.range m).map (16 * k + ·)) (dozeTurn e k raws)) := by
      unfold c Body.forEach
      rw [List.range_succ, List.map_append, List.foldl_append]
      rfl
    generalize b.forEach ((List.range m).map (16 * k + ·)) (dozeTurn e k raws) = d at hc hfe hout
    have hmod : (16 * k + m) % 16 = m := by omega
    constructor
    · rw [hc, dozeTurn_fe, hfe]
      rfl
    · intro j hj
      rw [hc, dozeTurn_en]
      by_cases hjm : j = m
      · subst hjm
        have hpos : d.sliceB k j = b.sliceB k j := by
          unfold Body.sliceB
          rw [hfe]
        rw [if_pos rfl, dozeOut, hmod, hpos]
        congr 2
        exact slice_fst_congr (by rw [fe_onDie_same]; exact hfe) _ _
      · rw [if_neg (by omega)]
        exact hout j (by omega)

/-! ### The end of doze -/

/-- A part of an engine that a wake does not set. -/
def WakeKeeps {α : Type} (p : Eng → α) : Prop :=
  ∀ (g : Eng) (x : Option Nat) (y : Int) (z : Option Nat) (m : MPath), p { g with fsFrom := x, outMin := y, shortSince := z, m := m } = p g

theorem wakeDie_en (e : Env) (k : Nat) (b : Body) {α : Type} {p : Eng → α} (hp : WakeKeeps p) (n : Nat) :
    p ((b.wakeDie e k).en n) = p (b.en n) := by
  unfold Body.wakeDie
  refine (part_foldl (fun c : Body => p (c.en n)) _ (fun c m => ?_) _ _).trans rfl
  dsimp only [Body.wakeCh]
  rw [en_onEng]
  split
  next h => rw [hp, en_congr c h]
  · rfl

theorem lateLeaf_eng (l : Leaf) (b : Body) : (b.lateLeaf l).eng = b.eng := by
  unfold Body.lateLeaf
  split
  · rfl
  · split
    · rfl
    · exact raise_eng ..

section
variable {β : Type} (p : Body → β) (hp : ∀ (b : Body) (x : Vector Die 8), p { b with die := x } = p b)
include hp

theorem visitsPause_part (e : Env) (k : Nat) (b : Body) : p (b.visitsPause e k) = p b :=
  part_foldl p _ (fun c _ => hp c _) _ b

theorem visitsFollow_part (e : Env) (k : Nat) (b : Body) : p (b.visitsFollow e k) = p b :=
  part_foldl p _ (fun c _ => hp c _) _ b

theorem setLp_part (e : Env) (k : Nat) (x : Bool) (b : Body) : p (b.setLp e k x) = p b := by
  unfold Body.setLp
  rw [visitsFollow_part p hp]
  exact (hp _ _).trans ((hp _ _).trans (visitsPause_part p hp e k b))

theorem lowPower_part (e : Env) (x : Bool) (b : Body) : p (b.lowPower e x) = p b := by
  unfold Body.lowPower
  generalize List.range 8 = l
  refine part_foldl p _ (fun c k => ?_) l b
  dsimp only
  split
  · exact setLp_part p hp e k x c
  · exact hp c _

end

theorem fdRetargetAll_part {β : Type} (p : Body → β) (hp : ∀ (b : Body) (x : FeederPort) (m : Sparse), p { b with fdr := x, regs := m } = p b)
    (e : Env) (b : Body) : p (b.fdRetargetAll e) = p b := by
  unfold Body.fdRetargetAll
  split
  · rfl
  · generalize List.range 12 = l
    refine part_foldl p _ (fun c f => ?_) l b
    exact hp c _ _

theorem fdRetargetAll_rd (e : Env) (b : Body) (f : Fld) (i : Nat) (hf : f ≠ .fdrVcmdTarget) : (b.fdRetargetAll e).rd f i = b.rd f i := by
  unfold Body.fdRetargetAll
  split
  · rfl
  · generalize List.range 12 = l
    refine part_foldl (fun c : Body => c.rd f i) _ (fun c j => ?_) l b
    unfold Body.fdRetarget
    exact rd_wr_fld _ _ _ _ _ _ hf

/-- The registers of a list of dies after a write of each. -/
theorem rd_forEach_wr (f : Fld) (v : Nat) (hv : v < 2 ^ fieldWidth f) {l : List Nat} {k : Nat} (hk : k ∈ l) (b : Body) :
    (b.forEach l fun j b => b.wr f j v).rd f k = v := by
  have hother : ∀ (l : List Nat) (b : Body), b.rd f k = v → (b.forEach l fun j b => b.wr f j v).rd f k = v := by
    intro l
    induction l with
    | nil => exact fun _ h => h
    | cons j l ih =>
      intro b h
      refine ih (b.wr f j v) ?_
      rw [rd_wr]
      split
      · exact Nat.mod_eq_of_lt hv
      · exact h
  induction l generalizing b with
  | nil => cases hk
  | cons j l ih =>
    by_cases hj : k ∈ l
    · exact ih hj _
    · have hkj : k = j := (List.mem_cons.1 hk).resolve_right hj
      subst hkj
      exact hother l _ (rd_wr_of_lt _ _ hv)

theorem rd_setBud (b : Body) (x : Budget) (f : Fld) (i : Nat) : ({ b with bud := x } : Body).rd f i = b.rd f i := rfl

theorem en_setBud (b : Body) (x : Budget) (n : Nat) : ({ b with bud := x } : Body).en n = b.en n := rfl

theorem wake_out (e : Env) (b : Body) {α : Type} {p : Eng → α} (hp : WakeKeeps p) (n : Nat) : p ((b.wake e).en n) = p (b.en n) := by
  have hen : ∀ c d : Body, c.eng = d.eng → p (c.en n) = p (d.en n) := fun c d h => by rw [Body.en, Body.en, h]
  unfold Body.wake
  extract_lets ls b1 b2 b3 b4 bm bud
  have h1 : p (b1.en n) = p (b.en n) := by
    refine hen _ _ ?_
    unfold b1
    exact part_foldl Body.eng _ (fun c l => lateLeaf_eng l c) ls _
  have h2 : p (b2.en n) = p (b1.en n) := by
    unfold b2
    generalize List.range 8 = l
    exact part_foldl (fun c : Body => p (c.en n)) _ (fun c k => wakeDie_en e k c hp n) l b1
  have hm : p (bm.en n) = p (b2.en n) := by
    refine hen _ _ ?_
    unfold bm b4 b3
    rw [onMtr_eng, wr_eng]
    generalize List.range 8 = l
    refine (part_foldl Body.eng _ (by exact fun _ _ => rfl) l _).trans ?_
    rw [wr_eng, lowPower_part Body.eng (fun _ _ => rfl), Body.span, shared_eng]
  rw [fdRetargetAll_part (fun c => p (c.en n)) (fun _ _ _ => rfl), en_setBud]
  exact hm.trans (h2.trans h1)

/-- A wake ends doze, and the reference is not valid until it has settled again (R52, R343). -/
theorem wake_leaves (e : Env) (b : Body) : (b.wake e).rd .metaRefstatValid 0 = 0 ∧ (b.wake e).rd .metaRefdevDev 0 = 0x80000000 ∧
    ∀ k, k < 8 → (b.wake e).rd .metaRefdieDev k = 0x80000000 := by
  unfold Body.wake
  extract_lets ls b1 b2 b3 b4 bm bud
  refine ⟨?_, ?_, fun k hk => ?_⟩
  · rw [fdRetargetAll_rd _ _ _ _ (by decide), rd_setBud]
    unfold bm b4 b3
    rw [onMtr_rd, rd_wr_fld _ _ _ _ _ _ (by decide)]
    generalize List.range 8 = l
    refine (part_foldl (fun c : Body => c.rd .metaRefstatValid 0) _ (fun c j => rd_wr_fld _ _ _ _ _ _ (by decide)) l _).trans ?_
    exact rd_wr_of_lt _ _ (by decide)
  · rw [fdRetargetAll_rd _ _ _ _ (by decide), rd_setBud]
    unfold bm
    rw [onMtr_rd]
    exact rd_wr_of_lt _ _ (by decide)
  · rw [fdRetargetAll_rd _ _ _ _ (by decide), rd_setBud]
    unfold bm b4
    rw [onMtr_rd, rd_wr_fld _ _ _ _ _ _ (by decide)]
    exact rd_forEach_wr _ _ (by decide) (List.mem_range.2 hk) _

theorem lateLeaf_doze (l : Leaf) (b : Body) : (b.lateLeaf l).doze = b.doze := by
  unfold Body.lateLeaf
  split
  · rfl
  · split
    · rfl
    · exact raise_doze ..

theorem wakeDie_doze (e : Env) (k : Nat) (b : Body) : (b.wakeDie e k).doze = b.doze := by
  unfold Body.wakeDie
  exact (part_foldl Body.doze _ (by exact fun _ _ => rfl) _ _).trans rfl

theorem doze_setBud (b : Body) (x : Budget) : ({ b with bud := x } : Body).doze = b.doze := rfl

theorem wake_doze (e : Env) (b : Body) : (b.wake e).doze = false := by
  unfold Body.wake
  extract_lets ls b1 b2 b3 b4 bm bud
  have h1 : b1.doze = false := by
    unfold b1
    exact part_foldl Body.doze _ (fun c l => lateLeaf_doze l c) ls _
  have h2 : b2.doze = false := by
    unfold b2
    generalize List.range 8 = l
    exact (part_foldl Body.doze _ (fun c k => wakeDie_doze e k c) l b1).trans h1
  rw [fdRetargetAll_part Body.doze (fun _ _ _ => rfl), doze_setBud]
  unfold bm b4 b3
  rw [onMtr_doze, wr_doze]
  generalize List.range 8 = l
  refine (part_foldl Body.doze _ (by exact fun _ _ => rfl) l _).trans ?_
  rw [wr_doze, lowPower_part Body.doze (fun _ _ => rfl), Body.span, shared_doze, h2]

/-! ### Entry -/

theorem drd_eq_of_regs {b c : Body} {k : Nat} (h : (c.fe k).regs = (b.fe k).regs) (f : Fld) (i : Nat) : c.drd k f i = b.drd k f i := by
  unfold Body.drd
  rw [h]

theorem setLp_fe_other {j k : Nat} (h : k % 8 ≠ j % 8) (e : Env) (x : Bool) (b : Body) : (b.setLp e j x).fe k = b.fe k := by
  have hone : ∀ f (c : Body), (c.onDie j f).fe k = c.fe k := fun f c => (fe_onDie ..).trans (if_neg h)
  unfold Body.setLp Body.visitsFollow Body.visitsPause
  refine (part_foldl (fun c : Body => c.fe k) _ (fun c a => hone _ c) _ _).trans ((hone ..).trans ((hone ..).trans ?_))
  exact part_foldl (fun c : Body => c.fe k) _ (fun c a => hone _ c) _ _

theorem drd_dwr_same (k : Nat) (f : Fld) (i v : Nat) (b : Body) : (b.dwr k f i v).drd k f i = v % 2 ^ fieldWidth f := by
  unfold Body.drd Body.dwr
  rw [fe_onDie_same]
  simp [regGet_set]

theorem setLp_drd (e : Env) (k : Nat) (x : Bool) (b : Body) : (b.setLp e k x).drd k .feCvstatLp k = bit x := by
  unfold Body.setLp
  have hregs : ∀ c : Body, ((c.visitsFollow e k).fe k).regs = (c.fe k).regs := fun c =>
    visitsFollow_fe e k c Die.regs (fun _ _ _ => rfl) k
  have hnext : ∀ c : Body, ((c.onDie k fun d => { d with lpNext := none }).fe k).regs = (c.fe k).regs := fun c => by rw [fe_onDie_same]
  rw [drd_eq_of_regs (hregs _), drd_eq_of_regs (hnext _), drd_dwr_same]
  cases x <;> rfl

/-- What the die of another turn keeps of die k while the module goes to doze. -/
def LpElsewhere (k : Nat) (b c : Body) : Prop := c.fe k = b.fe k ∧ c.doze = b.doze

/-- In doze no die runs, and the low-power mode begins at once on each (R298). -/
theorem lowPower_doze (e : Env) (b : Body) (hdoze : b.doze = true) {k : Nat} (hk : k < 8) : (b.lowPower e true).drd k .feCvstatLp k = 1 := by
  have hstep : ∀ j (c : Body), c.doze = true →
      (if (c.fe j).rotNext = 0 && !c.wideRuns j || !c.dieRuns j then c.setLp e j true else c.onDie j fun d => { d with lpNext := some true }) =
        c.setLp e j true := fun j c hc => if_pos (by simp [Body.dieRuns, hc])
  have hall : ∀ (l : List Nat) (c : Body), c.doze = true → c.forEach l (fun k b =>
      if (b.fe k).rotNext = 0 && !b.wideRuns k || !b.dieRuns k then b.setLp e k true else b.onDie k fun d => { d with lpNext := some true }) =
        c.forEach l fun k b => b.setLp e k true := by
    intro l
    induction l with
    | nil => exact fun _ _ => rfl
    | cons j l ih =>
      intro c hc
      show Body.forEach (if (c.fe j).rotNext = 0 && !c.wideRuns j || !c.dieRuns j then c.setLp e j true else _) l _ = _
      rw [hstep j c hc]
      exact ih _ ((setLp_part Body.doze (fun _ _ => rfl) ..).trans hc)
  unfold Body.lowPower
  rw [hall _ _ hdoze]
  generalize hl : List.range 8 = l
  have hlt : ∀ j ∈ l, j < 8 := fun j hj => List.mem_range.1 (hl ▸ hj)
  obtain ⟨c, -, hafter⟩ := forEach_turn_mem (R := LpElsewhere k) (fun _ => ⟨rfl, rfl⟩) (fun ⟨a₁, a₂⟩ ⟨b₁, b₂⟩ => ⟨b₁.trans a₁, b₂.trans a₂⟩)
    (f := fun j b => b.setLp e j true) (i := k) (l := l)
    (fun j hj hne b => ⟨setLp_fe_other (by have := hlt j hj; omega) e true b, setLp_part Body.doze (fun _ _ => rfl) ..⟩)
    (hl ▸ List.nodup_range) (hl ▸ List.mem_range.2 hk) b
  rw [drd_eq_of_regs (congrArg Die.regs hafter.1), setLp_drd]
  rfl

/-! ### The obligation -/

theorem exec_dozeRequest (s : State) : exec .dozeRequest s = .next (s.onBody fun e b => b.dozeRequest e) := rfl
theorem exec_dozeEnter (s : State) : exec .dozeEnter s = execDozeEnter s := rfl
theorem exec_dozeScan (k : DieIx) (outs : List Int) (s : State) : exec (.dozeScan k outs) s = execDozeScan k outs s := rfl
theorem exec_dozeWake (w : WakeEv) (s : State) : exec (.dozeWake w) s = execDozeWake w s := rfl

theorem closeDie_dozeReq (e : Env) (k : Nat) (b : Body) : (b.closeDie e k).dozeReq = b.dozeReq :=
  closeDie_part Body.dozeReq (fun _ _ => rfl) (fun _ _ => rfl) (fun _ _ _ => rfl) (fun _ _ _ _ _ => rfl) e k b

theorem metersStop_dozeReq (e : Env) (b : Body) : (b.metersStop e).dozeReq = b.dozeReq := by
  unfold Body.metersStop
  generalize List.range 8 = l
  generalize List.range 128 = m
  refine (part_foldl Body.dozeReq _ (by exact fun _ _ => rfl) m _).trans (part_foldl Body.dozeReq _ (fun c k => ?_) l b)
  dsimp only
  split
  · rfl
  · exact closeDie_dozeReq e k c

theorem dozeBegin_leaves (e : Env) (b : Body) : (b.dozeBegin e).doze = true ∧ (b.dozeBegin e).dozeReq = b.dozeReq ∧
    ∀ k, k < 8 → (b.dozeBegin e).drd k .feCvstatLp k = 1 := by
  have hreq := metersStop_dozeReq e b
  unfold Body.dozeBegin Body.span
  dsimp only
  generalize b.metersStop e = c at hreq
  rw [← hreq]
  generalize hd : ({ c.shared _ with doze := true } : Body) = d
  have hdoze : d.doze = true := by rw [← hd]
  have hdreq : d.dozeReq = c.dozeReq := by rw [← hd]; exact shared_dozeReq ..
  clear hd
  refine ⟨?_, ?_, fun k hk => lowPower_doze _ _ hdoze hk⟩
  · rw [lowPower_part Body.doze (fun _ _ => rfl), hdoze]
  · rw [lowPower_part Body.dozeReq (fun _ _ => rfl), hdreq]

theorem dozeScan_out (e : Env) {k n : Nat} (hd : dieOf n = k) (raws : List Int) (b : Body) :
    ((b.dozeScan e k raws).en n).out = dozeOut k raws n b := by
  have hturns := (dozeTurns e k raws b 16 (Nat.le_refl _)).2 (n % 16) (Nat.mod_lt _ (by decide))
  have hn' : 16 * k + n % 16 = n := by
    unfold dieOf at hd
    omega
  rw [hn'] at hturns
  unfold Body.dozeScan
  extract_lets b1 b2
  have hb1 : b1 = b.forEach ((List.range 16).map (16 * k + ·)) (dozeTurn e k raws) := rfl
  have hb2 : b2.en n = b1.en n := by rw [Body.en, Body.en, show b2.eng = b1.eng from onDie_eng ..]
  clear_value b2 b1
  rw [← hb1] at hturns
  split
  · rw [wake_out e b2 (p := Eng.out) (fun _ _ _ _ _ => rfl) n, hb2, hturns]
  · rw [hb2, hturns]

theorem stir_of_doze {e : Env} {b : Body} (h : b.doze = true) : b.stir e = b.wake e := if_pos h

/-! ### The wake by a seat -/

theorem exec_dozeWake_of_not_seat {w : WakeEv} (hw : ∀ n : ChIx, w ≠ .seat n) (s : State) :
    exec (.dozeWake w) s = .next (s.onBody fun e b => b.stir e) := by
  cases w with
  | seat n => exact absurd rfl (hw n)
  | _ => rfl

theorem srcEdge_doze (src : Nat) (rising : Bool) (t : Nat) (b : Body) : (b.srcEdge src rising t).doze = b.doze := by
  unfold Body.srcEdge
  split <;> rfl

theorem srcEdge_ch (src : Nat) (rising : Bool) (t : Nat) (b : Body) (n : Nat) : (b.srcEdge src rising t).ch n = b.ch n := by
  unfold Body.srcEdge
  split <;> rfl

theorem report_doze (e : Env) (n : Nat) (ev : Ev) (t : Nat) (b : Body) : (b.report e n ev t).doze = b.doze := by
  show (outer (b.report e n ev t)).doze = (outer b).doze
  rw [outer_report]

theorem report_seatRaw (e : Env) (n : Nat) (ev : Ev) (t : Nat) (b : Body) (m : Nat) : ((b.report e n ev t).ch m).seatRaw = (b.ch m).seatRaw :=
  congrArg (fun x : Still => (x.ch m).seatRaw) (stillBut_report e n ev t b)

theorem seatAssert_doze (e : Env) (n : Nat) (b : Body) : (b.seatAssert e n).doze = b.doze := by
  unfold Body.seatAssert
  dsimp only
  split
  · rfl
  · rw [report_doze]
    rfl

theorem seatRaw_onCh (b : Body) (n : Nat) (f : Chan → Chan) (hf : ∀ c, (f c).seatRaw = c.seatRaw) (m : Nat) :
    ((b.onCh n f).ch m).seatRaw = (b.ch m).seatRaw := by
  rw [ch_onCh]
  split
  next h => rw [hf, ch_congr b h]
  · rfl

theorem seatAssert_seatRaw (e : Env) (n : Nat) (b : Body) : ((b.seatAssert e n).ch n).seatRaw = true := by
  unfold Body.seatAssert
  dsimp only
  split
  · rw [ch_onCh_same]
  · rw [report_seatRaw, seatRaw_onCh _ _ _ (by exact fun _ => rfl)]
    unfold Body.freshOutMin
    rw [onEng_ch, ch_onCh_same]

theorem ch_of_asleep {b c : Body} (h : asleep c = asleep b) (n : Nat) : c.ch n = b.ch n :=
  congrArg (fun x => x.2.ch n) h

/-- Settles O48. -/
theorem doze : Obligations.Doze := by
  intro s hhub
  refine ⟨fun hd hok => ?_, fun hd hok => ?_, fun hreq hok => ?_, fun k outs hd hoff => ?_, fun w hw hd => ?_, fun n hd hraw => ?_⟩
  · refine becomes_onBody (exec_dozeRequest s) ?_
    rw [Body.dozeRequest, if_neg (by simp [hhub, hd]), if_pos hok]
    rfl
  · refine becomes_onBody (exec_dozeRequest s) ?_
    rw [Body.dozeRequest, if_neg (by simp [hhub, hd]), if_neg (by simp [hok])]
  · refine runs_onBody ((exec_dozeEnter s).trans rfl) ?_
    have hsome : ¬ (s.body.dozeReq.isNone || s.body.hubDown) = true := by simpa [hhub, Option.isNone_iff_eq_none] using hreq
    obtain ⟨hdoze, hnone, hlp⟩ := dozeBegin_leaves s.env { s.body with dozeReq := none }
    rw [onBody_body, if_neg hsome]
    dsimp only
    rw [if_pos (show ({ s.body with dozeReq := none } : Body).dozeOk = true from hok)]
    refine ⟨(settle_doze ..).trans hdoze, (settle_dozeReq ..).trans hnone, fun k hk => ?_⟩
    rw [← hlp k hk]
    exact drd_eq_of_regs (settle_fe_regs ..) _ _
  · refine runsAt_onBody ((exec_dozeScan k outs s).trans (if_neg (by simp [hd, hoff]))) fun n _ hdn => ?_
    rw [onBody_body, goTo_body, settle_en]
    exact dozeScan_out _ hdn outs s.body
  · refine runs_onBody (exec_dozeWake_of_not_seat hw s) ?_
    obtain ⟨hvalid, hdev, hdies⟩ := wake_leaves s.env s.body
    rw [onBody_body, stir_of_doze hd]
    have hd' : ∀ f i, isTree f = false → ((s.body.wake s.env).settle s.env).rd f i = (s.body.wake s.env).rd f i := fun f i hf =>
      settle_rd _ _ f i hf
    refine ⟨(settle_doze ..).trans (wake_doze s.env s.body), ?_, ?_, fun k hk => ?_⟩
    · rw [hd' _ _ rfl, hvalid]
    · rw [hd' _ _ rfl, hdev]
    · rw [hd' _ _ rfl, hdies k hk]
  · refine runs_onBody (exec_dozeWake (.seat n) s) ?_
    have hkeep : ((s.body.stir s.env).ch n).seatRaw = false := by
      rw [ch_of_asleep (asleep_stir s.env s.body), hraw]
    have hawake : (s.body.stir s.env).doze = false := by
      rw [stir_of_doze hd, wake_doze]
    rw [onBody_body]
    dsimp only
    generalize s.body.stir s.env = c at hkeep hawake
    rw [srcEdge_ch, hkeep, if_pos (by rfl)]
    exact ⟨by rw [settle_doze, seatAssert_doze, srcEdge_doze, hawake], by rw [settle_ch_seatRaw, seatAssert_seatRaw]⟩

end Sys2Proof.Proofs
end

section
/-!
SUPPORT. The machines of the channels through a change of state (R64, R65): what each operation of HUB leaves of them, what a change sets,
and what the refusal test (R222) reads.
-/

namespace Sys2Proof.Proofs

open Sys2Proof Sys2Proof.Machine Sys2Proof.Safety Sys2Proof.Laws

/-! ### Operations that leave every machine -/

theorem chan_of_hubSide {b c : Body} (h : hubSide c = hubSide b) : c.chan = b.chan := by
  show (hubSide c).chan = (hubSide b).chan
  rw [h]

theorem ch_of_chan {b c : Body} (h : c.chan = b.chan) (n : Nat) : c.ch n = b.ch n := by
  unfold Body.ch
  rw [h]

theorem tell_chan (e : Env) (k : Nat) (m : DownMsg) (b : Body) : (b.tell e k m).chan = b.chan := chan_of_hubSide (hubSide_tell ..)

@[simp] theorem tell_ch (e : Env) (k : Nat) (m : DownMsg) (b : Body) (n : Nat) : (b.tell e k m).ch n = b.ch n := ch_of_chan (tell_chan ..) n

@[simp] theorem fwd_ch (k : Nat) (fs : List (Fld × Nat)) (b : Body) (n : Nat) : (b.fwd k fs).ch n = b.ch n :=
  ch_of_chan (chan_of_hubSide (hubSide_fwd ..)) n

@[simp] theorem dropMeas_ch (n : Nat) (b : Body) (m : Nat) : (b.dropMeas n).ch m = b.ch m := by
  unfold Body.dropMeas
  split <;> rfl

@[simp] theorem yieldTo_ch (e : Env) (n x y : Nat) (st : ChState) (b : Body) (m : Nat) : (b.yieldTo e n x y st).ch m = b.ch m := by
  unfold Body.yieldTo
  rw [event_ch, raiseCh_ch]
  rfl

@[simp] theorem formPlan_ch (e : Env) (b : Body) (m : Nat) : (b.formPlan e).ch m = b.ch m := by
  unfold Body.formPlan
  split <;> rfl

/-! ### A change of state -/

/-- A machine but for its cap and its bus window. -/
def machine (c : Chan) : Chan := { c with busOut := none, busQual := false, capOn := false, capW := 0, capGuar := false }

/-- What a change of state sets of a machine, besides its cap and its bus window. -/
def entered (now : Nat) (st : ChState) (reason : Nat) (c : Chan) : Chan :=
  { c with
    state := st, reason := reason
    qageHeld := if st = .refused then (now - c.queuedT) / 1000000 else if st = .held then c.qageHeld else 0
    queuedT := if st = .queued && c.state ≠ .queued then now else c.queuedT
    eligible := if st = .shed || st = .held then c.eligible else false
    partialRamp := if st.running || st = .held then c.partialRamp else false
    prior := if st = .held then c.prior else .empty }

theorem machine_onCh (b : Body) (n : Nat) (f : Chan → Chan) (hf : ∀ c, machine (f c) = machine c) (m : Nat) :
    machine ((b.onCh n f).ch m) = machine (b.ch m) := by
  rw [ch_onCh]
  split
  next h => rw [hf, ch_congr b h]
  · rfl

@[simp] theorem endCap_machine (n : Nat) (b : Body) (m : Nat) : machine ((b.endCap n).ch m) = machine (b.ch m) := by
  unfold Body.endCap
  split
  · rw [fwd_ch, machine_onCh _ _ _ (by exact fun _ => rfl)]
  · rfl

theorem machine_entered {c d : Chan} (h : machine c = machine d) (now : Nat) (st : ChState) (r : Nat) :
    machine (entered now st r c) = machine (entered now st r d) := by
  have hfields : ∀ c : Chan, machine (entered now st r c) = machine (entered now st r (machine c)) := fun _ => rfl
  rw [hfields, h, ← hfields]

/-- A change of state: what it sets, and no other machine. -/
theorem enter_machine (e : Env) (n : Nat) (st : ChState) (r : Nat) (b : Body) (m : Nat) :
    machine ((b.enter e n st r).ch m) = if m % 128 = n % 128 then machine (entered e.now st r (b.ch n)) else machine (b.ch m) := by
  unfold Body.enter
  extract_lets old oldEff b1 b2 b3 b4 b5
  have h1 : ∀ m, b1.ch m = b.ch m := fun m => by
    unfold b1
    rw [apply_ite (fun c : Body => c.ch m), raiseCh_ch, ite_self]
  have h2 : ∀ m, b2.ch m = b.ch m := fun m => by
    unfold b2
    rw [apply_ite (fun c : Body => c.ch m), dropMeas_ch, ite_self, h1]
  have h3 : ∀ m, machine (b3.ch m) = machine (b.ch m) := fun m => by
    unfold b3
    rw [apply_ite (fun c : Body => machine (c.ch m)), endCap_machine, ite_self, h2]
  have h4 : machine (b4.ch m) = if m % 128 = n % 128 then machine (entered e.now st r (b.ch n)) else machine (b.ch m) := by
    have hset : b4.ch m = if m % 128 = n % 128 then { entered e.now st r (b3.ch n) with
        queuedT := if st = .queued && old ≠ .queued then e.now else (b3.ch n).queuedT } else b3.ch m := by
      unfold b4
      rw [ch_onCh]
      rfl
    have hold : (b3.ch n).state = old := by
      show (machine (b3.ch n)).state = (machine (b.ch n)).state
      rw [h3]
    rw [hset, ← hold]
    split
    · exact machine_entered (h3 n) ..
    · exact h3 m
  have h5 : machine (b5.ch m) = machine (b4.ch m) := by
    unfold b5
    rw [tell_ch]
  rw [apply_ite (fun c : Body => machine (c.ch m)), machine_onCh _ _ _ (by exact fun _ => rfl), ite_self, h5, h4]

theorem endCap_ch_other {n m : Nat} (h : m % 128 ≠ n % 128) (b : Body) : (b.endCap n).ch m = b.ch m := by
  unfold Body.endCap
  split
  · rw [fwd_ch, ch_onCh, if_neg h]
  · rfl

/-- A change of state leaves every other machine. -/
theorem enter_ch_other {n m : Nat} (h : m % 128 ≠ n % 128) (e : Env) (st : ChState) (r : Nat) (b : Body) :
    (b.enter e n st r).ch m = b.ch m := by
  have hon : ∀ (c : Body) f, (c.onCh n f).ch m = c.ch m := fun c f => (ch_onCh c n m f).trans (if_neg h)
  unfold Body.enter
  dsimp only
  simp only [apply_ite (fun c : Body => c.ch m), hon, tell_ch, endCap_ch_other h, dropMeas_ch, raiseCh_ch, ite_self]

/-- What the changed machine shows, for a part of it that neither its cap nor its bus window is of. -/
theorem enter_part (e : Env) (n : Nat) (st : ChState) (r : Nat) (b : Body) {α : Type} (p : Chan → α)
    (hp : ∀ c, p (machine c) = p c) : p ((b.enter e n st r).ch n) = p (entered e.now st r (b.ch n)) := by
  have h := enter_machine e n st r b n
  rw [if_pos rfl] at h
  rw [← hp, h, hp]

/-- A channel that is shed takes its reason. -/
theorem shed_state (e : Env) (n r : Nat) (b : Body) : ((b.shed e n r).ch n).state = .shed ∧ ((b.shed e n r).ch n).reason = r := by
  unfold Body.shed
  dsimp only
  rw [raiseCh_ch, ch_onCh_same]
  exact enter_state e n .shed r _

/-- A refused channel takes the reason of the test. -/
theorem refuse_state (e : Env) (n r : Nat) (b : Body) :
    ((b.refuse e n r).ch n).state = .refused ∧ ((b.refuse e n r).ch n).reason = r := by
  unfold Body.refuse
  extract_lets age b1 b2
  have h2 : b2.ch n = b1.ch n := by
    unfold b2
    rw [apply_ite (fun c : Body => c.ch n), yieldTo_ch, ite_self]
  have h1 : b1.ch n = (b.enter e n .refused r).ch n := raiseCh_ch ..
  rw [event_ch, h2, h1]
  exact enter_state e n .refused r b

theorem refuse_part (e : Env) (n r : Nat) (b : Body) {α : Type} (p : Chan → α) (hp : ∀ c, p (machine c) = p c) :
    p ((b.refuse e n r).ch n) = p (entered e.now .refused r (b.ch n)) := by
  unfold Body.refuse
  extract_lets age b1 b2
  have h2 : b2.ch n = b1.ch n := by
    unfold b2
    rw [apply_ite (fun c : Body => c.ch n), yieldTo_ch, ite_self]
  have h1 : b1.ch n = (b.enter e n .refused r).ch n := raiseCh_ch ..
  rw [event_ch, h2, h1, enter_part e n .refused r b p hp]

/-! ### Registers through a change of state -/

theorem cutWide_regs (k : Nat) (b : Body) : (b.cutWide k).regs = b.regs := by
  unfold Body.cutWide
  split <;> rfl

theorem stateDie_regs (e : Env) (n : Nat) (old new : ChState) (b : Body) : (b.stateDie e n old new).regs = b.regs := by
  unfold Body.stateDie
  rw [apply_ite Body.regs, cutWide_regs, ite_self]
  exact part_foldl Body.regs _ (by exact fun _ _ => rfl) _ _

/-- A die that is told of a change of state leaves HUB's registers. -/
theorem tell_state_regs (e : Env) (k n : Nat) (old new : ChState) (b : Body) : (b.tell e k (.state n old new)).regs = b.regs := by
  unfold Body.tell
  split
  · rfl
  · split
    · exact stateDie_regs e n old new _
    · rfl

/-- The registers that a change of state may write. -/
def enterWrites : Fld → Bool
  | .alertChleaf | .chFfstatCMeas | .chCapPCap => true
  | _ => false

theorem endCap_rd (n : Nat) (b : Body) (f : Fld) (i : Nat) (hf : f ≠ .chCapPCap) : (b.endCap n).rd f i = b.rd f i := by
  unfold Body.endCap Body.fwd
  split
  · show Body.rd (Body.wr _ .chCapPCap n 0x7FFF) f i = b.rd f i
    rw [rd_wr_fld _ _ _ _ _ _ hf]
    rfl
  · rfl

theorem dropMeas_rd (n : Nat) (b : Body) (f : Fld) (i : Nat) (hf : f ≠ .chFfstatCMeas) : (b.dropMeas n).rd f i = b.rd f i := by
  unfold Body.dropMeas
  split
  · exact rd_wr_fld _ _ _ _ _ _ hf
  · rfl

theorem rd_of_regs {b c : Body} (h : c.regs = b.regs) (f : Fld) (i : Nat) : c.rd f i = b.rd f i := by
  unfold Body.rd
  rw [h]

theorem enter_rd (e : Env) (n : Nat) (st : ChState) (r : Nat) (b : Body) (f : Fld) (i : Nat) (hf : enterWrites f = false) :
    (b.enter e n st r).rd f i = b.rd f i := by
  have hleaf : f ≠ .alertChleaf := fun h => by rw [h] at hf; cases hf
  have hmeas : f ≠ .chFfstatCMeas := fun h => by rw [h] at hf; cases hf
  have hcap : f ≠ .chCapPCap := fun h => by rw [h] at hf; cases hf
  unfold Body.enter
  extract_lets old oldEff b1 b2 b3 b4 b5
  have h1 : b1.rd f i = b.rd f i := by
    unfold b1
    rw [apply_ite (fun c : Body => c.rd f i), raiseCh_rd _ _ _ _ _ hleaf, ite_self]
  have h2 : b2.rd f i = b.rd f i := by
    unfold b2
    rw [apply_ite (fun c : Body => c.rd f i), dropMeas_rd _ _ _ _ hmeas, ite_self, h1]
  have h3 : b3.rd f i = b.rd f i := by
    unfold b3
    rw [apply_ite (fun c : Body => c.rd f i), endCap_rd _ _ _ _ hcap, ite_self, h2]
  have h5 : b5.rd f i = b4.rd f i := rd_of_regs (tell_state_regs ..) f i
  have h4 : b4.rd f i = b3.rd f i := rfl
  rw [apply_ite (fun c : Body => c.rd f i)]
  rw [show ∀ g, (b5.onCh n g).rd f i = b5.rd f i from fun _ => rfl, ite_self, h5, h4, h3]

/-! ### Words of a die through a change of state -/

/-- A store after writes of channel fields: any other field stands. -/
theorem regGet_chanFields (kvs : List (Nat × Nat)) (hk : ∀ kv ∈ kvs, (keyFld kv.1).ofChan = true) (m : Sparse) (f : Fld) (i : Nat)
    (hf : f.ofChan = false) : regGet (kvs.foldl (fun r kv => regSetKey r kv.1 kv.2) m) f i = regGet m f i := by
  induction kvs generalizing m with
  | nil => rfl
  | cons kv kvs ih =>
    rw [List.foldl_cons, ih (fun x hx => hk x (List.mem_cons_of_mem _ hx))]
    unfold regSetKey
    rw [regGet_set, if_neg]
    rintro ⟨rfl, -⟩
    exact absurd (hk kv (List.mem_cons_self ..)) (by simp [hf])

theorem chanFields_ofChan {m : DownMsg} {kvs : List (Nat × Nat)} (h : m.chanFields = some kvs) :
    ∀ kv ∈ kvs, (keyFld kv.1).ofChan = true := by
  unfold DownMsg.chanFields at h
  split at h
  · split at h
    next hall =>
      obtain rfl := Option.some.inj h
      exact fun kv hkv => List.all_eq_true.1 hall kv hkv
    · cases h
  all_goals cases h

theorem regGet_landed (ms : List DownMsg) (m : Sparse) (f : Fld) (i : Nat) (hf : f.ofChan = false) :
    regGet ((ms.filterMap DownMsg.chanFields).foldl (fun r kvs => kvs.foldl (fun r kv => regSetKey r kv.1 kv.2) r) m) f i = regGet m f i := by
  induction ms generalizing m with
  | nil => rfl
  | cons x ms ih =>
    cases hx : x.chanFields with
    | none => rw [List.filterMap_cons_none hx, ih]
    | some kvs => rw [List.filterMap_cons_some hx, List.foldl_cons, ih, regGet_chanFields kvs (chanFields_ofChan hx) _ _ _ hf]

theorem sendDown_drd (j : Nat) (m : DownMsg) (b : Body) (k : Nat) (f : Fld) (i : Nat) : (b.sendDown j m).drd k f i = b.drd k f i :=
  drd_eq_of_regs (fe_onDie_part Die.regs (by exact fun _ => rfl) _ _ _) f i

theorem framed_drd (j : Nat) (up : Bool) (fs : List (Nat × List Nat)) (b : Body) (k : Nat) (f : Fld) (i : Nat) :
    (b.framed j up fs).drd k f i = b.drd k f i :=
  drd_eq_of_regs (fe_framed j up fs b Die.regs (fun d e f => by unfold Die.frame; split <;> rfl) k) f i

theorem landFields_drd (j : Nat) (b : Body) (k : Nat) (f : Fld) (i : Nat) (hf : f.ofChan = false) :
    (b.landFields j).drd k f i = b.drd k f i := by
  unfold Body.landFields
  dsimp only
  rw [framed_drd, framed_drd]
  unfold Body.drd
  rw [fe_onDie]
  split
  next h =>
    rw [fe_congr b h]
    exact regGet_landed _ _ f i hf
  · rfl

theorem stateDie_drd (e : Env) (n : Nat) (old new : ChState) (b : Body) (k : Nat) (f : Fld) (i : Nat) :
    (b.stateDie e n old new).drd k f i = b.drd k f i := by
  unfold Body.stateDie
  dsimp only
  have hcut : ∀ (c : Body) j, (c.cutWide j).drd k f i = c.drd k f i := by
    intro c j
    unfold Body.cutWide Body.onUrg
    split
    · exact drd_eq_of_regs (fe_onDie_part Die.regs (by exact fun _ => rfl) _ _ _) f i
    · rfl
  rw [apply_ite (fun c : Body => c.drd k f i), hcut, ite_self]
  exact part_foldl (fun c : Body => c.drd k f i) _ (by exact fun _ _ => rfl) _ _

theorem tell_state_drd (e : Env) (j n : Nat) (old new : ChState) (b : Body) (k : Nat) (f : Fld) (i : Nat) (hf : f.ofChan = false) :
    (b.tell e j (.state n old new)).drd k f i = b.drd k f i := by
  unfold Body.tell
  split
  · rfl
  · split
    · rw [framed_drd]
      exact (stateDie_drd ..).trans ((framed_drd ..).trans (landFields_drd _ _ _ _ _ hf))
    · exact sendDown_drd ..

/-- A word of a die that no channel field is, through a change of state. -/
theorem enter_drd (e : Env) (n : Nat) (st : ChState) (r : Nat) (b : Body) (k : Nat) (f : Fld) (i : Nat) (hf : f.ofChan = false) :
    (b.enter e n st r).drd k f i = b.drd k f i := by
  unfold Body.enter
  extract_lets old oldEff b1 b2 b3 b4 b5
  have hfe : ∀ c d : Body, c.die = d.die → c.drd k f i = d.drd k f i := fun c d h => by rw [Body.drd, Body.drd, Body.fe, Body.fe, h]
  have h1 : b1.drd k f i = b.drd k f i := hfe _ _ (by unfold b1; rw [apply_ite Body.die, raiseCh_die, ite_self])
  have hdrop : (b1.dropMeas n).die = b1.die := by
    unfold Body.dropMeas
    split <;> rfl
  have h2 : b2.drd k f i = b.drd k f i := by
    unfold b2
    rw [apply_ite (fun c : Body => c.drd k f i), hfe _ _ hdrop, ite_self, h1]
  have hcap : (b2.endCap n).drd k f i = b2.drd k f i := by
    unfold Body.endCap Body.fwd
    split
    · exact (sendDown_drd ..).trans rfl
    · rfl
  have h3 : b3.drd k f i = b.drd k f i := by
    unfold b3
    rw [apply_ite (fun c : Body => c.drd k f i), hcap, ite_self, h2]
  have h5 : b5.drd k f i = b.drd k f i := (tell_state_drd _ _ _ _ _ _ _ _ _ hf).trans h3
  rw [apply_ite (fun c : Body => c.drd k f i)]
  rw [show ∀ g, (b5.onCh n g).drd k f i = b5.drd k f i from fun _ => rfl, ite_self, h5]

/-! ### What the refusal test reads -/

/-- What a channel's claim depends on of its machine: a state that drives the gate, and what the cap and the measured power are then. -/
def claimOf (c : Chan) : Option (ChState × Bool × Nat × List Nat) :=
  if c.eff.driven then some (c.eff, c.capOn, c.capW, c.pMeas) else none

/-- Two bodies that agree on what the refusal test reads. -/
structure SameClaims (b c : Body) : Prop where
  rd : ∀ f i, enterWrites f = false → c.rd f i = b.rd f i
  drd : ∀ k f i, f.ofChan = false → c.drd k f i = b.drd k f i
  bus : ∀ k, (c.fe k).bus = (b.fe k).bus
  old : c.bud.old = b.bud.old
  claim : ∀ n, claimOf (c.ch n) = claimOf (b.ch n)

section
variable {b c : Body} (h : SameClaims b c)
include h

theorem SameClaims.leadOf (n : Nat) : c.leadOf n = b.leadOf n := by
  unfold Body.leadOf
  rw [h.rd _ _ rfl, h.rd _ _ rfl]

theorem SameClaims.isMember (n : Nat) : c.isMember n = b.isMember n := by
  unfold Body.isMember
  rw [h.leadOf]

theorem SameClaims.pclass (n : Nat) : c.pclass n = b.pclass n := by
  unfold Body.pclass
  rw [h.leadOf, h.rd _ _ rfl]

theorem SameClaims.bdg (f : Fld) (i : Nat) (hf : enterWrites f = false) : c.bdg f i = b.bdg f i := by
  unfold Body.bdg
  rw [h.old, h.rd _ _ hf]

theorem SameClaims.ifs (n : Nat) : c.ifs n = b.ifs n := by
  unfold Body.ifs Body.vfsNv Body.rsh
  rw [h.drd _ _ _ (by decide), h.rd _ _ rfl]

theorem SameClaims.startMw (n : Nat) : c.startMw n = b.startMw n := by
  unfold Body.startMw Body.rampMw
  rw [h.bdg _ _ rfl, h.bus, h.rd _ _ rfl, h.ifs]

theorem SameClaims.driven (n : Nat) : (c.ch n).eff.driven = (b.ch n).eff.driven := by
  have hsome : ∀ c : Chan, (claimOf c).isSome = c.eff.driven := fun c => by
    unfold claimOf
    split
    next hd => exact hd.symm
    next hd => exact (Bool.eq_false_iff.2 hd).symm
  rw [← hsome, h.claim, hsome]

theorem SameClaims.resMw {n : Nat} (hn : (b.ch n).eff.driven = true) : c.resMw n = b.resMw n := by
  have hcl := h.claim n
  have hc := (h.driven n).trans hn
  unfold claimOf at hcl
  rw [if_pos hn, if_pos hc, Option.some.injEq, Prod.mk.injEq, Prod.mk.injEq, Prod.mk.injEq] at hcl
  obtain ⟨heff, hon, hw, hp⟩ := hcl
  unfold Body.resMw Body.openMw Body.pMeasMw
  rw [h.isMember, heff, hon, hw, hp, h.startMw, h.bdg _ _ rfl]

theorem SameClaims.leadersIn : c.leadersIn ChState.driven = b.leadersIn ChState.driven := by
  unfold Body.leadersIn
  simp only [h.driven, h.isMember]

theorem SameClaims.classMw (k : Nat) : c.classMw k = b.classMw k := by
  unfold Body.classMw
  rw [h.leadersIn]
  refine List.foldl_ext _ _ 0 fun a n hn => ?_
  have hdriven : (b.ch n).eff.driven = true := (List.mem_filter.1 (List.mem_filter.1 hn).1).2
  rw [h.pclass, h.resMw hdriven]

/-- The refusal test reads claims alone. -/
theorem SameClaims.refusal (n : Nat) : c.refusal n = b.refusal n := by
  unfold Body.refusal Body.zq5016 Body.geffMw Body.poolMw Body.availMw
  simp only [h.pclass, h.startMw, h.classMw, h.bdg _ _ (show enterWrites .budgetCtrlMode = false from rfl),
    h.bdg _ _ (show enterWrites .budgetGuarValue = false from rfl), h.rd _ _ (show enterWrites .budgetGeffValue = false from rfl),
    h.rd _ _ (show enterWrites .budgetPoolValue = false from rfl), h.rd _ _ (show enterWrites .budgetAvailPAvail = false from rfl)]

end

/-- A channel that does not drive its gate and enters a state that does not either changes no claim. -/
theorem enter_sameClaims (e : Env) (n : Nat) (st : ChState) (r : Nat) (b : Body) (hold : (b.ch n).eff.driven = false)
    (hst : st.driven = false) (hheld : st ≠ .held) : SameClaims b (b.enter e n st r) := by
  have hstill := still_enter e n st r b
  refine ⟨fun f i hf => enter_rd e n st r b f i hf, fun k f i hf => enter_drd e n st r b k f i hf, fun k => ?_, ?_, fun m => ?_⟩
  · exact congrArg (fun x : Still => (x.die k).bus) hstill
  · exact congrArg (fun x : Still => x.bud.old) hstill
  · by_cases hm : m % 128 = n % 128
    · have heff : ((b.enter e n st r).ch n).eff = st := by
        rw [enter_part e n st r b Chan.eff (fun _ => rfl)]
        exact if_neg hheld
      unfold claimOf
      rw [ch_congr _ hm, ch_congr b hm, heff, hst, hold]
      rfl
    · rw [enter_ch_other hm]

/-! ### The queue -/

theorem holdup_of_rd {b c : Body} (h : c.rd .budgetHustatActive 0 = b.rd .budgetHustatActive 0) : c.holdup = b.holdup := by
  unfold Body.holdup Body.flag
  rw [h]

/-- A channel that comes to the queue from a state that does not drive, with no hold-up sequence: it waits there where the test passes. -/
theorem enqueue_passes (e : Env) (n : Nat) (b : Body) (hold : (b.ch n).eff.driven = false) (hhu : b.holdup = false)
    (hpass : b.refusal n = none) {α : Type} (p : Chan → α) (hp : ∀ c, p (machine c) = p c) :
    p ((b.enqueue e n).ch n) = p (entered e.now .queued 0x20 (b.ch n)) := by
  have hclaims := enter_sameClaims e n .queued 0x20 b hold rfl (by decide)
  have hhu' : (b.enter e n .queued 0x20).holdup = false := (holdup_of_rd (enter_rd _ _ _ _ _ _ _ rfl)).trans hhu
  unfold Body.enqueue
  dsimp only
  rw [hhu', Bool.false_and, if_neg Bool.false_ne_true, hclaims.refusal, hpass]
  dsimp only
  rw [formPlan_ch, enter_part e n .queued 0x20 b p hp]

/-- Where the test fails the channel ends refused, with the reason of the test. -/
theorem enqueue_fails (e : Env) (n r : Nat) (b : Body) (hold : (b.ch n).eff.driven = false) (hhu : b.holdup = false)
    (hfail : b.refusal n = some r) :
    ((b.enqueue e n).ch n).state = .refused ∧ ((b.enqueue e n).ch n).reason = r := by
  have hclaims := enter_sameClaims e n .queued 0x20 b hold rfl (by decide)
  have hhu' : (b.enter e n .queued 0x20).holdup = false := (holdup_of_rd (enter_rd _ _ _ _ _ _ _ rfl)).trans hhu
  unfold Body.enqueue
  dsimp only
  rw [hhu', Bool.false_and, if_neg Bool.false_ne_true, hclaims.refusal, hfail]
  exact refuse_state ..

end Sys2Proof.Proofs
end

section
/-!
SUPPORT. Commands that move a channel's machine: the enable edges (R62), the ways to the queue (R65, R71, R198, R220, R235), the wins of
the loops (R74 to R79) and bus integrity (R229).
-/

namespace Sys2Proof.Proofs

open Sys2Proof Sys2Proof.Machine Sys2Proof.Safety Sys2Proof.Laws

/-! ### Edges of CTRL.EN -/

theorem exec_en0 (n : ChIx) (s : State) : exec (.en0 n) s = .next (s.onHub fun e b => b.enOff e n) := rfl
theorem exec_en1 (n : ChIx) (s : State) : exec (.en1 n) s = .next (s.onHub fun e b => b.enGo e n) := rfl
theorem exec_requeue (n : ChIx) (s : State) : exec (.requeue n) s = .next (s.onHub fun e b => b.requeue e n) := rfl

theorem becomes_onHub_same {i : Instr} {s : State} {f : Env → Body → Body} (hi : exec i s = .next (s.onHub f)) (hf : f s.env s.body = s.body) :
    Becomes i s s.body := by
  by_cases hhub : s.body.hubDown = true
  · exact becomes_onBody (hi.trans (congrArg _ (onHub_down hhub))) rfl
  · exact becomes_onHub hi (Bool.eq_false_iff.2 hhub) hf

theorem hubDown_of_orch {b : Body} (h : b.orch = true) : b.hubDown = false := by
  unfold Body.orch at h
  simp only [Bool.and_eq_true, Bool.not_eq_true'] at h
  exact h.1.1

theorem leadOf_of_not_member {b : Body} {n : Nat} (h : b.isMember n = false) : b.leadOf n = n := by
  unfold Body.isMember at h
  simpa using h

theorem leadOf_of_rd {b c : Body} {n : Nat} (hs : c.rd .chClassGangSize n = b.rd .chClassGangSize n)
    (hl : c.rd .chClassGangLead n = b.rd .chClassGangLead n) : c.leadOf n = b.leadOf n := by
  unfold Body.leadOf
  rw [hs, hl]

/-- The seats of a channel's members stand through a change of a machine that leaves each its own. -/
theorem seated_onCh (b : Body) (m : Nat) (f : Chan → Chan) (hf : ∀ c, (f c).seated = c.seated) (n : Nat) : (b.onCh m f).seated n = b.seated n := by
  have hone : ∀ j, ((b.onCh m f).ch j).seated = (b.ch j).seated := fun j => by
    rw [ch_onCh]
    split
    next h => rw [hf, ch_congr b h]
    · rfl
  unfold Body.seated
  simp only [hone]
  rfl

theorem debouncing_onCh (b : Body) (m : Nat) (f : Chan → Chan) (hf : ∀ c, (f c).debEnd = c.debEnd) (n : Nat) :
    (b.onCh m f).debouncing n = b.debouncing n := by
  have hone : ∀ j, ((b.onCh m f).ch j).debEnd = (b.ch j).debEnd := fun j => by
    rw [ch_onCh]
    split
    next h => rw [hf, ch_congr b h]
    · rfl
  unfold Body.debouncing
  simp only [hone]
  rfl

/-- The states that CTRL.EN = 0 ends (R65). -/
theorem applyEv_en0 {st : ChState} (hst : st ∈ [ChState.empty, .seating, .queued, .ramp, .on, .limit, .capped, .cooling, .shed, .refused])
    (e : Env) (n t : Nat) (b : Body) (hb : (b.ch n).state = st) : b.applyEv e n .en0 t =
      (b.enter e n .off 0x30).onCh n fun c => { c with retryEnd := none, retryLeft := none, retryReady := false } := by
  unfold Body.applyEv
  simp only [List.mem_cons, List.not_mem_nil, or_false] at hst
  rcases hst with rfl | rfl | rfl | rfl | rfl | rfl | rfl | rfl | rfl | rfl <;> simp only [hb]

/-- EN_0 of a channel with a machine leads to OFF (R65). -/
theorem enOff_leaves (e : Env) (n : Nat) (b : Body) (horch : b.orch = true) (hmem : b.isMember n = false) (hen : b.rd .chCtrlEn n = 1)
    (hst : (b.ch n).state ∈ [ChState.empty, .seating, .queued, .ramp, .on, .limit, .capped, .cooling, .shed, .refused]) :
    ((b.enOff e n).ch n).state = .off ∧ ((b.enOff e n).ch n).reason = 0x30 ∧ (b.enOff e n).rd .chCtrlEn n = 0 ∧
      ((b.enOff e n).ch n).enZeroT = e.now := by
  unfold Body.enOff
  rw [if_neg (by simp [hen, hmem])]
  generalize hc : ((b.wr .chCtrlEn n 0).onCh n fun c => { c with enZeroT := e.now }) = c
  have hch : c.ch n = { b.ch n with enZeroT := e.now } := by rw [← hc, ch_onCh_same]; rfl
  have hrd : ∀ f i, f ≠ .chCtrlEn → c.rd f i = b.rd f i := fun f i hf => by
    rw [← hc, onCh_rd, rd_wr_fld _ _ _ _ _ _ hf]
  have hlead : c.leadOf n = n := (leadOf_of_rd (hrd _ _ (by decide)) (hrd _ _ (by decide))).trans (leadOf_of_not_member hmem)
  have hen0 : c.rd .chCtrlEn n = 0 := by rw [← hc, onCh_rd]; exact rd_wr_same _ _ _ _
  have horch' : c.orch = true := by rw [← hc]; exact horch
  have hst' : (c.ch n).state = (b.ch n).state := by rw [hch]
  have hheld : (c.ch n).state ≠ .held := by
    rw [hst']
    intro h
    rw [h] at hst
    exact absurd hst (by decide)
  clear hc
  rw [deliver_live horch' (by rw [hlead]; exact hheld), hlead, applyEv_en0 hst _ _ _ _ hst', ch_onCh_same]
  obtain ⟨hstate, hreason⟩ := enter_state e n .off 0x30 c
  refine ⟨hstate, hreason, ?_, ?_⟩
  · rw [← hen0]
    exact enter_rd e n .off 0x30 c _ _ rfl
  · show ((c.enter e n .off 0x30).ch n).enZeroT = e.now
    rw [enter_part e n .off 0x30 c Chan.enZeroT (fun _ => rfl), hch]
    rfl

/-- EN_1 of an OFF channel with no seat leads to EMPTY, and a toggle clears its Darn count (R65). -/
theorem enGo_leaves (e : Env) (n : Nat) (b : Body) (horch : b.orch = true) (hmem : b.isMember n = false) (hen : b.rd .chCtrlEn n = 0)
    (hst : (b.ch n).state = .off) (hseat : b.seated n = false) (hdeb : b.debouncing n = false) :
    ((b.enGo e n).ch n).state = .empty ∧ (b.enGo e n).rd .chCtrlEn n = 1 ∧
      ((b.enGo e n).ch n).darn = if 1000000 ≤ e.now - (b.ch n).enZeroT then 0 else (b.ch n).darn := by
  unfold Body.enGo
  rw [if_neg (by simp [hen, hmem])]
  have hch : (b.wr .chCtrlEn n 1).ch n = b.ch n := rfl
  have hrd : ∀ f i, f ≠ .chCtrlEn → (b.wr .chCtrlEn n 1).rd f i = b.rd f i := fun f i hf => rd_wr_fld _ _ _ _ _ _ hf
  have hen1 : (b.wr .chCtrlEn n 1).rd .chCtrlEn n = 1 := rd_wr_same _ _ _ _
  have hseat' : (b.wr .chCtrlEn n 1).seated n = false := by
    rw [← hseat]
    unfold Body.seated Body.membersOf
    rw [hrd _ _ (by decide)]
    rfl
  have hdeb' : (b.wr .chCtrlEn n 1).debouncing n = false := by
    rw [← hdeb]
    unfold Body.debouncing Body.membersOf
    rw [hrd _ _ (by decide)]
    rfl
  have hlead : (b.wr .chCtrlEn n 1).leadOf n = n :=
    (leadOf_of_rd (hrd _ _ (by decide)) (hrd _ _ (by decide))).trans (leadOf_of_not_member hmem)
  have horch' : (b.wr .chCtrlEn n 1).orch = true := horch
  generalize b.wr .chCtrlEn n 1 = c at *
  rw [deliver_live horch' (by rw [hlead, hch, hst]; decide), hlead]
  unfold Body.applyEv
  simp only [hch, hst]
  generalize ht : decide (1000000 ≤ e.now - (b.ch n).enZeroT) = toggle
  generalize hd : (if toggle = true then c.onCh n fun c => { c with darn := 0 } else c) = d
  have hdarn : (d.ch n).darn = if toggle = true then 0 else (b.ch n).darn := by
    rw [← hd]
    split
    · rw [ch_onCh_same]
    · rw [hch]
  have hen' : d.rd .chCtrlEn n = 1 := by
    rw [← hd, ← hen1]
    split <;> rfl
  have hseatd : d.seated n = false := by
    rw [← hd, ← hseat']
    split
    · exact seated_onCh _ _ _ (by exact fun _ => rfl) _
    · rfl
  have hdebd : d.debouncing n = false := by
    rw [← hd, ← hdeb']
    split
    · exact debouncing_onCh _ _ _ (by exact fun _ => rfl) _
    · rfl
  clear hd
  unfold Body.enOn
  rw [hseatd, hdebd, if_neg Bool.false_ne_true, if_neg Bool.false_ne_true]
  refine ⟨(enter_state ..).1, (enter_rd _ _ _ _ _ _ _ rfl).trans hen', ?_⟩
  rw [enter_part e n .empty 0 d Chan.darn (fun _ => rfl)]
  refine hdarn.trans ?_
  rw [← ht]
  simp only [decide_eq_true_eq]

/-- Settles O17. -/
theorem enableEdges : Obligations.EnableEdges := by
  refine ⟨fun n s horch hmem => ?_, fun n s hmem => ?_⟩
  · have hhub := hubDown_of_orch horch
    refine ⟨fun hen hst => ?_, fun hen hst hseat hdeb => ?_, fun hen => ?_, fun hen => ?_⟩
    · obtain ⟨hstate, hreason, hctrl, hzero⟩ := enOff_leaves s.env n s.body horch hmem hen hst
      refine runs_onHub (exec_en0 n s) hhub ?_
      rw [onBody_body, settle_ch_state, settle_ch_reason, settle_rd _ _ .chCtrlEn _ rfl,
        settle_ch s.env (s.body.enOff s.env n) n Chan.enZeroT (fun _ _ => rfl)]
      exact ⟨hstate, hreason, hctrl, hzero⟩
    · obtain ⟨hstate, hctrl, hdarn⟩ := enGo_leaves s.env n s.body horch hmem hen hst hseat hdeb
      refine runs_onHub (exec_en1 n s) hhub ?_
      rw [onBody_body, settle_ch_state, settle_rd _ _ .chCtrlEn _ rfl, settle_ch_darn]
      exact ⟨hstate, hctrl, hdarn⟩
    · exact becomes_onHub_same (exec_en0 n s) (if_pos (by simp [hen]))
    · exact becomes_onHub_same (exec_en1 n s) (if_pos (by simp [hen]))
  · exact ⟨becomes_onHub_same (exec_en0 n s) (if_pos (by simp [hmem])), becomes_onHub_same (exec_en1 n s) (if_pos (by simp [hmem])),
      becomes_onHub_same (exec_requeue n s) (if_pos hmem)⟩

/-! ### The ways to the queue -/

theorem exec_restartOk (n : ChIx) (s : State) : exec (.restartOk n) s = .next (s.onBody fun e b => b.restart e n) := rfl
theorem exec_readmit (n : ChIx) (s : State) : exec (.readmit n) s = execReadmit n s := rfl
theorem exec_retryExpire (n : ChIx) (s : State) : exec (.retryExpire n) s = execRetryExpire n s := rfl

theorem onCh_sameClaims (b : Body) (n : Nat) (f : Chan → Chan) (hf : ∀ c, claimOf (f c) = claimOf c) : SameClaims b (b.onCh n f) := by
  refine ⟨fun _ _ _ => rfl, fun _ _ _ _ => rfl, fun _ => rfl, rfl, fun m => ?_⟩
  rw [ch_onCh]
  split
  next h => rw [hf, ch_congr b h]
  · rfl

theorem restartOk_onCh (e : Env) (b : Body) (n : Nat) (f : Chan → Chan) (hf : ∀ c, (f c).holdoffEnd = c.holdoffEnd) :
    (b.onCh n f).restartOk e n = b.restartOk e n := by
  unfold Body.restartOk
  rw [ch_onCh_same, hf]
  rfl

theorem eff_of_state {c : Chan} {st : ChState} (h : c.state = st) (hst : st ≠ .held) : c.eff = st := by
  unfold Chan.eff
  rw [h, if_neg hst]

/-- What brings a waiting channel to the queue, and what it shows there. -/
theorem applyEv_restartOk (e : Env) (n t : Nat) (b : Body) (hst : (b.ch n).state = .seating) (hwait : (b.ch n).reason = 0x36) :
    b.applyEv e n .restartOk t = b.enqueue e n := by
  unfold Body.applyEv
  dsimp only
  rw [if_pos (by simp [hst, hwait])]

theorem applyEv_requeue (e : Env) (n t : Nat) (b : Body) (hst : (b.ch n).state = .refused) (hseat : b.seated n = true) :
    b.applyEv e n .requeue t = (b.stampSeat e n t).enqueue e n := by
  unfold Body.applyEv
  dsimp only
  rw [if_pos (by simp [hst, hseat])]

theorem applyEv_readmit (e : Env) (n t : Nat) (b : Body) (hst : (b.ch n).state = .shed) (hseat : b.seated n = true) :
    b.applyEv e n .readmit t = b.enqueue e n := by
  unfold Body.applyEv
  dsimp only
  rw [if_pos (by simp [hst, hseat])]

/-- The end of a retry time counts, and brings a channel that may restart to the queue. -/
theorem applyEv_retryExpire (e : Env) (n t : Nat) (b : Body) (hst : (b.ch n).state = .cooling) (hseat : b.seated n = true) :
    b.applyEv e n .retryExpire t =
      let b' := b.onCh n fun c => { c with darn := min 15 (c.darn + 1), retryEnd := none, retryLeft := none }
      if b.restartOk e n then b'.enqueue e n else b'.onCh n fun c => { c with retryReady := true } := by
  unfold Body.applyEv
  dsimp only
  rw [if_pos hst, seated_onCh _ _ _ (by exact fun _ => rfl), restartOk_onCh _ _ _ _ (by exact fun _ => rfl), hseat, Bool.true_and]

theorem stampSeat_sameClaims (e : Env) (n t : Nat) (b : Body) : SameClaims b (b.stampSeat e n t) :=
  onCh_sameClaims _ _ _ (fun _ => rfl)

theorem countAt_now (e : Env) : e.countAt e.now = e.count := Nat.add_sub_cancel ..

theorem stampSeat_state (e : Env) (n t : Nat) (b : Body) : ((b.stampSeat e n t).ch n).state = (b.ch n).state := by
  unfold Body.stampSeat
  rw [ch_onCh_same]

theorem stampSeat_seatTime (e : Env) (n : Nat) (b : Body) : ((b.stampSeat e n e.now).ch n).seatTime = e.count := by
  unfold Body.stampSeat
  rw [ch_onCh_same, countAt_now]

/-- REQUEUE of a refused leader stamps its seat and asks the refusal test. -/
theorem requeue_eq {e : Env} {n : Nat} {b : Body} (horch : b.orch = true) (hlead : b.leadOf n = n) (hseat : b.seated n = true)
    (hst : (b.ch n).state = .refused) : b.requeue e n = (b.stampSeat e n e.now).enqueue e n := by
  unfold Body.requeue Body.isMember
  rw [if_neg (by simp [hlead]), deliver_live horch (by rw [hlead, hst]; decide), hlead, applyEv_requeue _ _ _ _ hst hseat]

/-- The end of a retry time at its instant (R198). -/
theorem retryExpire_eq {e : Env} {n : Nat} {b : Body} (horch : b.orch = true) (hlead : b.leadOf n = n) (hseat : b.seated n = true)
    (hst : (b.ch n).state = .cooling) : (b.onCh n fun c => { c with retryEnd := none }).deliver e n .retryExpire e.now =
      let b' := (b.onCh n fun c => { c with retryEnd := none }).onCh n
        fun c => { c with darn := min 15 (c.darn + 1), retryEnd := none, retryLeft := none }
      if b.restartOk e n then b'.enqueue e n else b'.onCh n fun c => { c with retryReady := true } := by
  have hst' : ((b.onCh n fun c => { c with retryEnd := none }).ch n).state = .cooling := by rw [ch_onCh_same]; exact hst
  have hseat' : (b.onCh n fun c => { c with retryEnd := none }).seated n = true := (seated_onCh _ _ _ (by exact fun _ => rfl) _).trans hseat
  have hlead' : (b.onCh n fun c => { c with retryEnd := none }).leadOf n = n := hlead
  rw [deliver_live (show (b.onCh n fun c => { c with retryEnd := none }).orch = true from horch) (by rw [hlead', hst']; decide), hlead',
    applyEv_retryExpire _ _ _ _ hst' hseat',
    restartOk_onCh _ _ _ _ (by exact fun _ => rfl)]

/-- Settles O18. -/
theorem entersQueue : Obligations.EntersQueue := by
  intro n s horch hlead hseat hhu
  have hhub := hubDown_of_orch horch
  refine ⟨fun hpass hok hst hwait => ?_, fun hpass hst => ?_, fun r hfail hst => ?_, fun hpass hok hst => ?_, fun T hpass hend hst => ?_⟩
  · have hold : (s.body.ch n).eff.driven = false := by rw [eff_of_state hst (by decide)]; rfl
    have hgo : s.body.restart s.env n = s.body.enqueue s.env n := by
      unfold Body.restart
      dsimp only
      rw [hlead, hseat, hok, Bool.and_true, if_pos rfl, deliver_live horch (by rw [hlead, hst]; decide), hlead,
        applyEv_restartOk _ _ _ _ hst hwait]
    refine runs_onBody (exec_restartOk n s) ?_
    rw [onBody_body, hgo, settle_ch_state, settle_ch_reason]
    exact ⟨enqueue_passes s.env n s.body hold hhu hpass Chan.state (fun _ => rfl),
      enqueue_passes s.env n s.body hold hhu hpass Chan.reason (fun _ => rfl)⟩
  · have hold : ((s.body.stampSeat s.env n s.env.now).ch n).eff.driven = false := by
      rw [eff_of_state ((stampSeat_state ..).trans hst) (by decide)]
      rfl
    have hpass' := ((stampSeat_sameClaims s.env n s.env.now s.body).refusal n).trans hpass
    refine runs_onHub (exec_requeue n s) hhub ?_
    rw [onBody_body, requeue_eq horch hlead hseat hst, settle_ch_state, settle_ch _ _ _ Chan.seatTime (fun _ _ => rfl),
      enqueue_passes s.env n _ hold hhu hpass' Chan.state (fun _ => rfl), enqueue_passes s.env n _ hold hhu hpass' Chan.seatTime (fun _ => rfl)]
    exact ⟨rfl, stampSeat_seatTime ..⟩
  · have hold : ((s.body.stampSeat s.env n s.env.now).ch n).eff.driven = false := by
      rw [eff_of_state ((stampSeat_state ..).trans hst) (by decide)]
      rfl
    have hfail' := ((stampSeat_sameClaims s.env n s.env.now s.body).refusal n).trans hfail
    refine runs_onHub (exec_requeue n s) hhub ?_
    rw [onBody_body, requeue_eq horch hlead hseat hst, settle_ch_state, settle_ch_reason]
    exact enqueue_fails s.env n r _ hold hhu hfail'
  · have hold : (s.body.ch n).eff.driven = false := by rw [eff_of_state hst (by decide)]; rfl
    refine runs_onBody ((exec_readmit n s).trans rfl) ?_
    rw [onBody_body, settle_ch_state]
    dsimp only
    rw [hlead, if_pos hok, deliver_live horch (by rw [hlead, hst]; decide), hlead, applyEv_readmit _ _ _ _ hst hseat]
    exact enqueue_passes s.env n s.body hold hhu hpass Chan.state (fun _ => rfl)
  · have hexec : exec (.retryExpire n) s = .next ((s.goTo T).onBody fun e b =>
        if b.orch then (b.onCh n fun c => { c with retryEnd := none }).deliver e n .retryExpire e.now else b) := by
      rw [exec_retryExpire, execRetryExpire]
      rw [hlead, hend]
    have hgo := retryExpire_eq (e := (s.goTo T).env) horch hlead hseat hst
    dsimp only at hgo
    generalize hc : ((s.body.onCh n fun c => { c with retryEnd := none }).onCh n
        fun c => { c with darn := min 15 (c.darn + 1), retryEnd := none, retryLeft := none }) = c at hgo
    have hst' : (c.ch n).state = .cooling := by rw [← hc, ch_onCh_same, ch_onCh_same]; exact hst
    have hdarn : (c.ch n).darn = min 15 ((s.body.ch n).darn + 1) := by rw [← hc, ch_onCh_same, ch_onCh_same]
    have hpass' : c.refusal n = none := by
      rw [← hc, (onCh_sameClaims _ _ _ (by exact fun _ => rfl)).refusal, (onCh_sameClaims _ _ _ (by exact fun _ => rfl)).refusal, hpass]
    have hhu' : c.holdup = false := by rw [← hc]; exact hhu
    have hold : (c.ch n).eff.driven = false := by rw [eff_of_state hst' (by decide)]; rfl
    clear hc
    refine ⟨fun hok => ?_, fun hok => ?_⟩
    · refine runsAt_onBody hexec ?_
      rw [onBody_body, goTo_body, if_pos horch, hgo, if_pos hok, settle_ch_state, settle_ch_darn,
        enqueue_passes _ n c hold hhu' hpass' Chan.state (fun _ => rfl), enqueue_passes _ n c hold hhu' hpass' Chan.darn (fun _ => rfl)]
      exact ⟨rfl, hdarn⟩
    · refine runsAt_onBody hexec ?_
      rw [onBody_body, goTo_body, if_pos horch, hgo, if_neg (by simp [hok]), settle_ch_state, settle_ch_darn,
        settle_ch _ _ _ Chan.retryReady (fun _ _ => rfl), ch_onCh_same]
      exact ⟨hst', rfl, hdarn⟩

/-! ### Wins of the loops -/

theorem exec_rampDone (n : ChIx) (s : State) : exec (.rampDone n) s = execRampDone n s := rfl
theorem exec_limitWin (n : ChIx) (s : State) : exec (.limitWin n) s = execLimitWin n s := rfl
theorem exec_capWin (n : ChIx) (s : State) : exec (.capWin n) s = execCapWin n s := rfl
theorem exec_noWin (n : ChIx) (s : State) : exec (.noWin n) s = execNoWin n s := rfl

/-- What the die of a leader reports at once: its link carries nothing, and the machine is not held. -/
structure ReportsNow (b : Body) (l : Nat) : Prop where
  orch : b.orch = true
  joined : (b.fe (dieOf l)).joined = true
  up : (b.fe (dieOf l)).up = []
  lead : b.leadOf l = l

theorem ReportsNow.of_reports {b : Body} {n l : Nat} (hl : b.leadOf n = l) (h : Reports b n) : ReportsNow b l := by
  obtain ⟨horch, hjoined, hup, hled⟩ := h
  unfold Led at hled
  rw [hl] at hjoined hup hled
  exact ⟨horch, hjoined, hup, hled⟩

theorem ReportsNow.onEng {b : Body} {l : Nat} (h : ReportsNow b l) (m : Nat) (f : Eng → Eng) : ReportsNow (b.onEng m f) l :=
  ⟨h.orch, h.joined, h.up, h.lead⟩

/-- Such a report is one frame, and its event acts on the machine. -/
theorem report_live {b : Body} {l : Nat} (h : ReportsNow b l) (hst : (b.ch l).state ≠ .held) (e : Env) (ev : Ev) (t : Nat) :
    b.report e l ev t = (b.framed (dieOf l) true [(UpMsg.event l ev t).frame]).applyEv e l ev t := by
  have horch : (b.framed (dieOf l) true [(UpMsg.event l ev t).frame]).orch = true := h.orch
  have hlead : (b.framed (dieOf l) true [(UpMsg.event l ev t).frame]).leadOf l = l := h.lead
  have hst' : ((b.framed (dieOf l) true [(UpMsg.event l ev t).frame]).ch l).state ≠ .held := hst
  unfold Body.report
  dsimp only
  rw [if_pos (by simp [h.joined, h.up, hubDown_of_orch h.orch]), deliver_live horch (by rw [hlead]; exact hst'), hlead]

/-- A report that leads to a change of state: what the machine shows then, and what an event leaves of the engine. -/
theorem report_enters {b : Body} {l : Nat} (h : ReportsNow b l) (hst : (b.ch l).state ≠ .held) (e : Env) {ev : Ev} {t : Nat}
    {st : ChState} {r : Nat}
    (hev : ∀ c : Body, c.ch l = b.ch l → c.applyEv e l ev t = c.enter e l st r) :
    ((b.report e l ev t).ch l).state = st ∧ ((b.report e l ev t).ch l).reason = r := by
  rw [report_live h hst, hev (b.framed (dieOf l) true [(UpMsg.event l ev t).frame]) rfl]
  exact enter_state ..

theorem report_winPulse (e : Env) (l : Nat) (ev : Ev) (t : Nat) (b : Body) (m : Nat) :
    ((b.report e l ev t).en m).winPulse = (b.en m).winPulse :=
  congrArg (fun x : Still => (x.eng m).winPulse) (stillBut_report e l ev t b)

/-- Settles O19. -/
theorem winsMoveTheChannel : Obligations.WinsMoveTheChannel := by
  intro n l s hl hrep
  have hnow := ReportsNow.of_reports hl hrep
  refine ⟨fun T hdone hst => ?_, fun r hrun hpos hlow hst => ?_, fun r hwins hpos hst => ?_, fun hfree hst => ?_⟩
  · refine runsAt_onBody (f := fun e b => b.report e l .rampDone e.now) ?_ ?_
    · rw [exec_rampDone, execRampDone]
      rw [hl, hdone]
    · rw [onBody_body, goTo_body, settle_ch_state, settle_ch_reason]
      exact report_enters hnow (by rw [hst]; decide) _ fun c hc => by
        unfold Body.applyEv
        dsimp only
        rw [hc, if_pos hst]
  · refine runsAt_onBody (f := fun e b => (b.onEng l fun g => { g with winPulse := true }).report e l .limitWin e.now) ?_ ?_
    · have hany : (((s.body.en l).wins.take r).any fun w => decide (w ≤ 4)) = true := by
        obtain ⟨w, hw, hle⟩ := hlow
        exact List.any_eq_true.2 ⟨w, hw, decide_eq_true hle⟩
      rw [exec_limitWin, execLimitWin]
      rw [hl, hrun, if_neg (by simp [hany]; omega)]
      rfl
    · have hheld : ((s.body.onEng l fun g => { g with winPulse := true }).ch l).state ≠ .held := by
        show (s.body.ch l).state ≠ .held
        rcases hst with h | h <;> rw [h] <;> decide
      rw [onBody_body, goTo_body, settle_ch_state, settle_en]
      refine ⟨(report_enters (r := 0) (hnow.onEng l _) hheld _ fun c hc => ?_).1, ?_⟩
      · have hc' : c.ch l = s.body.ch l := hc
        unfold Body.applyEv
        dsimp only
        rw [hc', if_pos (by simpa using hst)]
      · rw [report_winPulse, en_onEng, if_pos rfl]
  · have hrun5 : runLen (fun w => w = 5) (s.body.en l).wins = r := by
      rw [hwins]
      simp [runLen]
    refine runsAt_onBody (f := fun e b => (b.onEng l fun g => { g with winPulse := true }).report e l .capWin e.now) ?_ ?_
    · have hnone : (((s.body.en l).wins.take (runLen (fun w => decide (2 ≤ w)) (s.body.en l).wins)).any fun w => decide (w ≤ 4)) = false := by
        refine List.any_eq_false.2 fun w hw => ?_
        have hw' := List.mem_of_mem_take hw
        rw [hwins] at hw'
        rw [List.eq_of_mem_replicate hw']
        decide
      rw [exec_capWin, execCapWin]
      rw [hl, hrun5, if_neg (by simp [hnone]; omega)]
      rfl
    · have hheld : ((s.body.onEng l fun g => { g with winPulse := true }).ch l).state ≠ .held := by
        show (s.body.ch l).state ≠ .held
        rcases hst with h | h <;> rw [h] <;> decide
      rw [onBody_body, goTo_body, settle_ch_state, settle_ch_reason]
      refine report_enters (hnow.onEng l _) hheld _ fun c hc => ?_
      have hc' : c.ch l = s.body.ch l := hc
      unfold Body.applyEv
      dsimp only
      rw [hc', if_pos (by simpa using hst)]
  · refine runsAt_onBody (f := fun e b => b.report e l .noWin e.now) ?_ ?_
    · rw [exec_noWin, execNoWin]
      rw [hl, if_neg (by omega)]
    · have hheld : (s.body.ch l).state ≠ .held := by
        rcases hst with h | h <;> rw [h] <;> decide
      rw [onBody_body, goTo_body, settle_ch_state, settle_ch_reason]
      refine report_enters hnow hheld _ fun c hc => ?_
      unfold Body.applyEv
      dsimp only
      rw [hc, if_pos (by simpa using hst)]

/-! ### Bus integrity -/

theorem exec_busMinCrossing (s : State) : exec .busMinCrossing s = .next (s.onBody fun e b => if b.orch then b.busMinFollow e else b) := rfl
theorem exec_busMinShed (s : State) : exec .busMinShed s = execBusMinShed s := rfl

/-- The yield marks of the channels, which follow every command, are the only difference. -/
theorem settled_pauseYield (l : List Nat) (b : Body) :
    Settled b (b.forEach l fun n b => b.onCh n fun c => { c with pauseYield := false }) :=
  settled_foldl _ (fun c n => settled_onCh_pause n false c) l b

theorem lowRank_setShedT (b : Body) (t : Option Nat) (n : Nat) :
    ({ b with bud := { b.bud with busShedT := t } } : Body).lowRank n = b.lowRank n := rfl

theorem lowestClaim_setShedT (b : Body) (t : Option Nat) :
    ({ b with bud := { b.bud with busShedT := t } } : Body).lowestClaim = b.lowestClaim := rfl

/-- A shed of a driven leader for which none waits (R220). -/
theorem shedCmd_state {e : Env} {n r : Nat} {b : Body} (horch : b.orch = true) (hlead : b.leadOf n = n)
    (hst : (b.ch n).state.driven = true) (hwait : (b.ch n).shedWaits = false) :
    ((b.shedCmd e n r).ch n).state = .shed ∧ ((b.shedCmd e n r).ch n).reason = r := by
  have hheld : (b.ch (b.leadOf n)).state ≠ .held := by
    intro h
    rw [hlead] at h
    rw [h] at hst
    cases hst
  unfold Body.shedCmd
  rw [if_neg (by simp [hwait]), deliver_live horch hheld, hlead]
  unfold Body.applyEv
  dsimp only
  rw [if_pos hst]
  exact shed_state ..

/-- Settles O27. -/
theorem busIntegrity : Obligations.BusIntegrity := by
  intro s horch
  refine ⟨fun hlow => ?_, fun hlow hhigh => ?_, fun hlow hhigh => ?_, fun n T hfroze hT hclaim hlead hst hwait => ?_⟩
  · refine becomes_onBody (exec_busMinCrossing s) ?_
    rw [if_pos horch, Body.busMinFollow, if_pos (by simp [hlow])]
    rfl
  · refine becomes_of_settled (exec_busMinCrossing s) ?_
    rw [if_pos horch, Body.busMinFollow, if_neg (by simp [hlow]), if_pos hhigh]
    exact settled_pauseYield ..
  · refine becomes_onBody (exec_busMinCrossing s) ?_
    rw [if_pos horch, Body.busMinFollow, if_neg (by simp [hlow]), if_neg (by simp [hhigh])]
  · have hexec : exec .busMinShed s = .next ((s.goTo (T + s.body.bdg .budgetBusminBusMinTime * 100000)).onBody fun e b =>
        let b := { b with bud := { b.bud with busShedT := some e.now } }
        match b.lowestClaim with
        | none => b
        | some n => if b.lowRank n < 3 then b.shedCmd e n 0x22 else (b.shedCmd e n 0x25).yieldTo e n 3 0xFF .shed) := by
      rw [exec_busMinShed, execBusMinShed]
      rw [hT, horch, hfroze]
      rfl
    refine runsAt_onBody hexec ?_
    generalize T + s.body.bdg .budgetBusminBusMinTime * 100000 = U
    rw [onBody_body, goTo_body, settle_ch_state, settle_ch_reason]
    dsimp only
    rw [lowestClaim_setShedT, hclaim]
    dsimp only
    rw [lowRank_setShedT]
    have hshed := fun r => shedCmd_state (e := (s.goTo U).env) (r := r)
      (b := { s.body with bud := { s.body.bud with busShedT := some (s.goTo U).env.now } }) horch hlead hst hwait
    generalize ({ s.body with bud := { s.body.bud with busShedT := some (s.goTo U).env.now } } : Body) = c at hshed
    split
    · exact hshed _
    · rw [yieldTo_ch]
      exact hshed _

end Sys2Proof.Proofs
end

section
/-!
SUPPORT. The fuse commands (R494, R495): how one starts, and what it leaves when it ends.
-/

namespace Sys2Proof.Proofs

open Sys2Proof Sys2Proof.Machine Sys2Proof.Safety Sys2Proof.Laws

theorem onBody_congr {f g : Env → Body → Body} {s : State} (h : f s.env s.body = g s.env s.body) : s.onBody f = s.onBody g := by
  unfold State.onBody
  rw [h]

theorem exec_starchBurn (ok : Bool) (s : State) : exec (.starchBurn ok) s = execStarchBurn ok s := rfl
theorem exec_starchSeal (ok : Bool) (s : State) : exec (.starchSeal ok) s = execStarchSeal ok s := rfl
theorem exec_starchReload (s : State) : exec .starchReload s = execStarchReload s := rfl

section
variable {s : State} (hhub : s.body.hubDown = false) (hidle : s.body.boot.fuseCmd = 0) {c : Nat}
include hhub hidle

/-- A fuse command that nothing bars is under way. -/
theorem fuseStart_of_free (hbar : fuseBar s.env s.starch s.body c = 0) :
    (s.fuseStart c).starch = s.starch ∧ (s.fuseStart c).body.hubDown = false ∧ (s.fuseStart c).body.boot.fuseCmd = c := by
  unfold State.fuseStart
  refine ⟨rfl, ?_, ?_⟩
  · rw [onBody_body, settle_hubDown, if_neg (by simp [hhub, hidle])]
    dsimp only
    rw [if_pos hbar]
    exact hhub
  · rw [onBody_body, settle_boot, if_neg (by simp [hhub, hidle])]
    dsimp only
    rw [if_pos hbar]
    rfl

/-- One that is barred ends with its code. -/
theorem fuseStart_of_barred (hbar : fuseBar s.env s.starch s.body c ≠ 0) :
    s.fuseStart c = s.onBody fun _ b => b.fuseEnd (fuseBar s.env s.starch s.body c) := by
  refine onBody_congr ?_
  rw [if_neg (by simp [hhub, hidle])]
  dsimp only
  rw [if_neg hbar]

end

/-- The end of a fuse command shows its result. -/
theorem fuseEnd_rd (r : Nat) (hr : r < 2 ^ fieldWidth .starchFusectlResult) (b : Body) :
    (b.fuseEnd r).rd .starchFusectlResult 0 = r ∧ (b.fuseEnd r).rd .starchFusectlBusy 0 = 0 := by
  have hres : (b.fuseEnd r).rd .starchFusectlResult 0 = r := rd_wr_of_lt _ _ hr
  have hbusy : (b.fuseEnd r).rd .starchFusectlBusy 0 = 0 :=
    (rd_wr_fld (b.wr .starchFusectlBusy 0 0) .starchFusectlResult .starchFusectlBusy 0 0 r (by decide)).trans (rd_wr_same ..)
  exact ⟨hres, hbusy⟩

theorem burned_rd (e : Env) (a : Nat) (b : Body) (f : Fld) (i : Nat) : (b.burned e a).rd f i = b.rd f i := event_rd ..

/-- A burn whose read-back agrees. -/
theorem burn_ok (words : Sparse) (a r : Nat) (hr : r < 2 ^ fieldWidth .starchFusectlResult) (s : State) :
    (s.burn words true a r).starch = (let st := { s.starch with copyA := blow s.starch.copyA words, copyB := blow s.starch.copyB words }
      if a = 2 then { st with map := words } else st) ∧
    (s.burn words true a r).body.rd .starchFusectlResult 0 = r ∧ (s.burn words true a r).body.rd .starchFusectlBusy 0 = 0 := by
  have hend := fuseEnd_rd r hr s.body
  unfold State.burn
  rw [if_pos rfl]
  refine ⟨rfl, ?_, ?_⟩
  · rw [onBody_body, settle_rd _ _ .starchFusectlResult _ rfl, burned_rd]
    exact hend.1
  · rw [onBody_body, settle_rd _ _ .starchFusectlBusy _ rfl, burned_rd]
    exact hend.2

/-- A burn whose read-back differs shows VERIFY and leaves the map in force. -/
theorem burn_verify (words : Sparse) (a r : Nat) (s : State) :
    (s.burn words false a r).starch.map = s.starch.map ∧ (s.burn words false a r).body.rd .starchFusectlResult 0 = 3 := by
  unfold State.burn
  rw [if_neg (by decide)]
  refine ⟨rfl, ?_⟩
  rw [onBody_body, settle_rd _ _ .starchFusectlResult _ rfl]
  exact (fuseEnd_rd 3 (by decide) _).1

/-- The classes that the fuses in force give. -/
theorem loadClasses_fclass (m : Sparse) (b : Body) {n : Nat} (hn : n < 128) :
    (b.loadClasses m).rd .chClassFclass n = bits (sparseGet 0 m (48 + n / 10)) (3 * (n % 10) + 2) (3 * (n % 10)) := by
  have hlt : bits (sparseGet 0 m (48 + n / 10)) (3 * (n % 10) + 2) (3 * (n % 10)) < 2 ^ fieldWidth .chClassFclass := by
    unfold bits
    rw [show 3 * (n % 10) + 2 - 3 * (n % 10) + 1 = 3 by omega]
    exact Nat.mod_lt _ (by decide)
  obtain ⟨c, -, hafter⟩ := forEach_turn_mem (R := fun b c => c.rd .chClassFclass n = b.rd .chClassFclass n) (fun _ => rfl)
    (fun h k => k.trans h)
    (f := fun n b => b.wr .chClassFclass n (bits (sparseGet 0 m (48 + n / 10)) (3 * (n % 10) + 2) (3 * (n % 10)))) (i := n)
    (l := List.range 128) (fun j _ hne b => rd_wr_ix _ _ _ _ _ (Ne.symm hne)) List.nodup_range (List.mem_range.2 hn) b
  exact hafter.trans (rd_wr_of_lt _ _ hlt)

/-- Settles O58. -/
theorem fuseCommands : Obligations.FuseCommands := by
  intro s hhub hidle
  refine ⟨fun hbar => ⟨?_, ?_⟩, fun hbar => ?_, fun hbar => ?_, fun c i hmem hbar => ?_⟩
  · obtain ⟨hst, hup, hcmd⟩ := fuseStart_of_free hhub hidle hbar
    obtain ⟨hstarch, hres, hbusy⟩ := burn_ok (s.fuseStart 1).starch.map 1 1 (by decide) (s.fuseStart 1)
    refine ⟨_, (exec_starchBurn true s).trans ?_, ?_, hres, hbusy⟩
    · simp only [execStarchBurn, if_neg (show s.body.boot.fuseCmd ≠ 1 by omega)]
      rw [if_pos (by simp [hcmd, hup])]
    · rw [hstarch, hst]
      rfl
  · obtain ⟨hst, hup, hcmd⟩ := fuseStart_of_free hhub hidle hbar
    obtain ⟨hmap, hres⟩ := burn_verify (s.fuseStart 1).starch.map 1 1 (s.fuseStart 1)
    refine ⟨_, (exec_starchBurn false s).trans ?_, ?_, hres⟩
    · simp only [execStarchBurn, if_neg (show s.body.boot.fuseCmd ≠ 1 by omega)]
      rw [if_pos (by simp [hcmd, hup])]
    · rw [hmap, hst]
  · obtain ⟨hst, hup, hcmd⟩ := fuseStart_of_free hhub hidle hbar
    obtain ⟨hstarch, hres, -⟩ := burn_ok (sealedMap (s.fuseStart 2).starch.map) 2 5 (by decide) (s.fuseStart 2)
    refine ⟨_, (exec_starchSeal true s).trans ?_, ?_, hres⟩
    · simp only [execStarchSeal, if_neg (show s.body.boot.fuseCmd ≠ 2 by omega)]
      rw [if_pos (by simp [hcmd, hup])]
    · rw [hstarch, hst]
      rfl
  · obtain ⟨hst, hup, hcmd⟩ := fuseStart_of_free hhub hidle hbar
    refine ⟨((s.fuseStart 3).setMap (s.fuseStart 3).starch.fuses).onBody fun _ b => b.fuseEnd 1, (exec_starchReload s).trans ?_, ?_, ?_,
      fun n hn => ?_⟩
    · simp only [execStarchReload, if_neg (show s.body.boot.fuseCmd ≠ 3 by omega)]
      rw [if_pos (by simp [hcmd, hup])]
    · show ({ (s.fuseStart 3).starch with map := (s.fuseStart 3).starch.fuses } : Starch) = _
      rw [hst]
    · rw [onBody_body, settle_rd _ _ .starchFusectlResult _ rfl]
      exact (fuseEnd_rd 1 (by decide) _).1
    · rw [onBody_body, settle_rd _ _ .chClassFclass _ rfl]
      have hkeep : ∀ b : Body, (b.fuseEnd 1).rd .chClassFclass n = b.rd .chClassFclass n := fun b => by
        unfold Body.fuseEnd
        rw [onBoot_rd, rd_wr_fld _ _ _ _ _ _ (by decide), rd_wr_fld _ _ _ _ _ _ (by decide)]
      rw [hkeep, State.setMap, onBody_body, settle_rd _ _ .chClassFclass _ rfl, loadClasses_fclass _ _ hn]
      rw [hst]
      rfl
  · have hc : ∀ c, fuseBar s.env s.starch s.body c ≠ 0 → (s.fuseStart c).body.boot.fuseCmd = 0 := fun c h => by
      rw [fuseStart_of_barred hhub hidle h, onBody_body, settle_boot]
      rfl
    have hcmd := hc c hbar
    simp only [List.mem_cons, Prod.mk.injEq, List.not_mem_nil, or_false] at hmem
    refine becomes_onBody (f := fun _ b => b.fuseEnd (fuseBar s.env s.starch s.body c)) ?_ rfl
    rw [← fuseStart_of_barred hhub hidle hbar]
    rcases hmem with ⟨rfl, rfl⟩ | ⟨rfl, rfl⟩ | ⟨rfl, rfl⟩
    · simp only [exec_starchBurn, execStarchBurn, if_neg (show s.body.boot.fuseCmd ≠ 1 by omega)]
      rw [if_neg (by simp [hcmd])]
    · simp only [exec_starchSeal, execStarchSeal, if_neg (show s.body.boot.fuseCmd ≠ 2 by omega)]
      rw [if_neg (by simp [hcmd])]
    · simp only [exec_starchReload, execStarchReload, if_neg (show s.body.boot.fuseCmd ≠ 3 by omega)]
      rw [if_neg (by simp [hcmd])]

end Sys2Proof.Proofs
end

section
/-!
SUPPORT. What a restart of HUB leaves of its locks: whether HUB is in reset, and the end of the unlocks (R44, R499).
-/

namespace Sys2Proof.Proofs

open Sys2Proof Sys2Proof.Machine Sys2Proof.Safety Sys2Proof.Laws

/-- Whether HUB is in reset, and when its unlocks end. -/
def locks (b : Body) : Bool × Option Nat := (b.hubDown, b.boot.unlockEnd)

/-- Each turn of a fold leaves it. -/
def LocksKept {α : Type} (f : Body → α → Body) : Prop := ∀ b a, locks (f b a) = locks b

@[simp] theorem locksKept_iff {α : Type} (f : Body → α → Body) : LocksKept f ↔ ∀ b a, locks (f b a) = locks b := .rfl

@[simp] theorem locks_foldl {α : Type} (f : Body → α → Body) (l : List α) (b : Body) (hf : LocksKept f) : locks (l.foldl f b) = locks b :=
  part_foldl locks f hf l b

@[simp] theorem locks_forEach (b : Body) (l : List Nat) (f : Nat → Body → Body) (hf : LocksKept fun b n => f n b) :
    locks (b.forEach l f) = locks b :=
  part_foldl locks _ hf l b

@[simp] theorem locks_set_role (b : Body) (x : Role) : locks { b with role := x } = locks b := (rfl)
@[simp] theorem locks_set_regs (b : Body) (x : Sparse) : locks { b with regs := x } = locks b := (rfl)
@[simp] theorem locks_set_chan (b : Body) (x : Vector Chan 128) : locks { b with chan := x } = locks b := (rfl)
@[simp] theorem locks_set_eng (b : Body) (x : Vector Eng 128) : locks { b with eng := x } = locks b := (rfl)
@[simp] theorem locks_set_die (b : Body) (x : Vector Die 8) : locks { b with die := x } = locks b := (rfl)
@[simp] theorem locks_set_bud (b : Body) (x : Budget) : locks { b with bud := x } = locks b := (rfl)
@[simp] theorem locks_set_rcd (b : Body) (x : Recorder) : locks { b with rcd := x } = locks b := (rfl)
@[simp] theorem locks_set_mtr (b : Body) (x : Meter) : locks { b with mtr := x } = locks b := (rfl)
@[simp] theorem locks_set_disc (b : Body) (x : Disc) : locks { b with disc := x } = locks b := (rfl)
@[simp] theorem locks_set_tmr (b : Body) (x : Timers) : locks { b with tmr := x } = locks b := (rfl)
@[simp] theorem locks_set_health (b : Body) (x : Health) : locks { b with health := x } = locks b := (rfl)
@[simp] theorem locks_set_fdr (b : Body) (x : FeederPort) : locks { b with fdr := x } = locks b := (rfl)
@[simp] theorem locks_set_twin (b : Body) (x : Twin) : locks { b with twin := x } = locks b := (rfl)
@[simp] theorem locks_set_boot (b : Body) (x : Boot) (h0 : x.unlockEnd = b.boot.unlockEnd) : locks { b with boot := x } = locks b := by
  unfold locks
  simp only [h0]
@[simp] theorem locks_set_hp (b : Body) (x : Vector HostPort 2) : locks { b with hp := x } = locks b := (rfl)
@[simp] theorem locks_set_gainDue (b : Body) (x : List Nat) : locks { b with gainDue := x } = locks b := (rfl)
@[simp] theorem locks_set_dozeReq (b : Body) (x : Option Nat) : locks { b with dozeReq := x } = locks b := (rfl)
@[simp] theorem locks_set_trendWords (b : Body) (x : List (Nat × Nat)) : locks { b with trendWords := x } = locks b := (rfl)
@[simp] theorem locks_set_alertLow (b : Body) (x : Bool) : locks { b with alertLow := x } = locks b := (rfl)
@[simp] theorem locks_set_alertHold (b : Body) (x : Bool) : locks { b with alertHold := x } = locks b := (rfl)
@[simp] theorem locks_set_doze (b : Body) (x : Bool) : locks { b with doze := x } = locks b := (rfl)
@[simp] theorem locks_set_dozeLeaves (b : Body) (x : List (Nat × Nat)) : locks { b with dozeLeaves := x } = locks b := (rfl)
@[simp] theorem locks_set_reply (b : Body) (x : List Nat) : locks { b with reply := x } = locks b := (rfl)
@[simp] theorem locks_set_freeIx (b : Body) (x : Nat) : locks { b with freeIx := x } = locks b := (rfl)
@[simp] theorem locks_wr (b : Body) (f : Fld) (i v : Nat) : locks (b.wr f i v) = locks b := (rfl)
@[simp] theorem locks_bump (b : Body) (f : Fld) (i : Nat) : locks (b.bump f i) = locks b := (rfl)
@[simp] theorem locks_onCh (b : Body) (n : Nat) (f : Chan → Chan) : locks (b.onCh n f) = locks b := (rfl)
@[simp] theorem locks_onEng (b : Body) (n : Nat) (f : Eng → Eng) : locks (b.onEng n f) = locks b := (rfl)
@[simp] theorem locks_onDie (b : Body) (k : Nat) (f : Die → Die) : locks (b.onDie k f) = locks b := (rfl)
@[simp] theorem locks_dwr (b : Body) (k : Nat) (f : Fld) (i v : Nat) : locks (b.dwr k f i v) = locks b := (rfl)
@[simp] theorem locks_onRcd (f : Recorder → Recorder) (b : Body) : locks (b.onRcd f) = locks b := (rfl)
@[simp] theorem locks_onMtr (f : Meter → Meter) (b : Body) : locks (b.onMtr f) = locks b := (rfl)
@[simp] theorem locks_onTmr (f : Timers → Timers) (b : Body) : locks (b.onTmr f) = locks b := (rfl)
@[simp] theorem locks_onHealth (f : Health → Health) (b : Body) : locks (b.onHealth f) = locks b := (rfl)
@[simp] theorem locks_onFp (f : FeederPort → FeederPort) (b : Body) : locks (b.onFp f) = locks b := (rfl)
@[simp] theorem locks_onTwin (f : Twin → Twin) (b : Body) : locks (b.onTwin f) = locks b := (rfl)

/-- A change of a part of the body that leaves what is kept of it. -/
def LocksBoot (f : Boot → Boot) : Prop := ∀ x, (f x).unlockEnd = x.unlockEnd

@[simp] theorem locksBoot_iff (f : Boot → Boot) : LocksBoot f ↔ ∀ x, (f x).unlockEnd = x.unlockEnd := .rfl

@[simp] theorem locks_onBoot (f : Boot → Boot) (b : Body) (h : LocksBoot f) : locks (b.onBoot f) = locks b :=
  locks_set_boot b _ (h b.boot)

theorem locks_of_outer {b c : Body} (h : outer c = outer b) : locks c = locks b := by
  show locks (outer c) = locks (outer b)
  rw [h]

@[simp] theorem locks_raise (l : Leaf) (b : Body) : locks (b.raise l) = locks b := locks_of_outer (outer_raise ..)
@[simp] theorem locks_raiseCh1 (n : Nat) (l : ChLeaf) (b : Body) : locks (b.raiseCh1 n l) = locks b := locks_of_outer (outer_raiseCh1 ..)
@[simp] theorem locks_raiseCh (n : Nat) (l : ChLeaf) (b : Body) : locks (b.raiseCh n l) = locks b := locks_of_outer (outer_raiseCh ..)
@[simp] theorem locks_emit (r : LRec) (b : Body) : locks (b.emit r) = locks b := locks_of_outer (outer_emit ..)
@[simp] theorem locks_sendBluli (kind : Nat) (content : List Nat) (b : Body) : locks (b.sendBluli kind content) = locks b := locks_of_outer (outer_sendBluli ..)
@[simp] theorem locks_shared (r : LRec) (b : Body) : locks (b.shared r) = locks b := locks_of_outer (outer_shared ..)
@[simp] theorem locks_event (time code chan arg0 arg1 arg2 : Nat) (b : Body) : locks (b.event time code chan arg0 arg1 arg2) = locks b := locks_of_outer (outer_event ..)
@[simp] theorem locks_framed (k : Nat) (up : Bool) (fs : List (Nat × List Nat)) (b : Body) : locks (b.framed k up fs) = locks b := locks_of_outer (outer_framed ..)
@[simp] theorem locks_sendDown (k : Nat) (m : DownMsg) (b : Body) : locks (b.sendDown k m) = locks b := locks_of_outer (outer_sendDown ..)
@[simp] theorem locks_fwd (n : Nat) (fs : List (Fld × Nat)) (b : Body) : locks (b.fwd n fs) = locks b := locks_of_outer (outer_fwd ..)
@[simp] theorem locks_formPlan (e : Env) (b : Body) : locks (b.formPlan e) = locks b := locks_of_outer (outer_formPlan ..)
@[simp] theorem locks_loadLadder (k : Nat) (b : Body) : locks (b.loadLadder k) = locks b := by
  simp [Body.loadLadder]
@[simp] theorem locks_loadLadders (b : Body) : locks (b.loadLadders) = locks b := by
  simp [Body.loadLadders]
@[simp] theorem locks_span (time kind edge mask : Nat) (b : Body) : locks (b.span time kind edge mask) = locks b := locks_of_outer (outer_span ..)
@[simp] theorem locks_noteGap (b : Body) : locks (b.noteGap) = locks b := by
  simp [Body.noteGap]
@[simp] theorem locks_gap (stream cause t0 t1 len first last mask : Nat) (b : Body) : locks (b.gap stream cause t0 t1 len first last mask) = locks b := by
  simp [Body.gap, apply_ite locks, ite_self]
@[simp] theorem locks_calFail (e : Env) (code ch : Nat) (b : Body) : locks (b.calFail e code ch) = locks b := by
  simp [Body.calFail, apply_ite locks, ite_self]
@[simp] theorem locks_calInterrupt (e : Env) (b : Body) : locks (b.calInterrupt e) = locks b := by
  unfold Body.calInterrupt
  split <;> simp [apply_ite locks, ite_self]
@[simp] theorem locks_onDev (d : Nat) (f : Dev → Dev) (b : Body) : locks (b.onDev d f) = locks b := by
  simp [Body.onDev]
@[simp] theorem locks_setDev (d st : Nat) (b : Body) : locks (b.setDev d st) = locks b := by
  simp [Body.setDev]
@[simp] theorem locks_devRec (e : Env) (d kind : Nat) (b : Body) : locks (b.devRec e d kind) = locks b := by
  simp [Body.devRec]
@[simp] theorem locks_submitF (e : Env) (d : Nat) (fua : Bool) (w : DevWork) (lba : Nat) (us : List Nat) (b : Body) : locks (b.submitF e d fua w lba us) = locks b := by
  simp [Body.submitF]
@[simp] theorem locks_submit (e : Env) (d : Nat) (w : DevWork) (lba : Nat) (us : List Nat) (b : Body) : locks (b.submit e d w lba us) = locks b := by
  simp [Body.submit]
@[simp] theorem locks_showOldest (b : Body) : locks (b.showOldest) = locks b := by
  simp [Body.showOldest]
@[simp] theorem locks_sendStripe (e : Env) (d : Nat) (fua : Bool) (x : StripeSpan) (pages : List Nat) (b : Body) : locks (b.sendStripe e d fua x pages) = locks b := by
  simp [Body.sendStripe]
@[simp] theorem locks_poolWrite (e : Env) (d pseq : Nat) (c : Cap) (b : Body) : locks (b.poolWrite e d pseq c) = locks b := by
  have hparts : ∀ (lba : Nat) (l : List (Nat × Nat)) (x : Body × List Nat), locks (l.foldl (fun x p =>
      (x.1.submit e d (.pool c lba pseq) p.1 (x.2.take (256 * p.2)), x.2.drop (256 * p.2))) x).1 = locks x.1 := by
    intro lba l
    induction l with
    | nil => exact fun _ => rfl
    | cons p l ih => intro x; rw [List.foldl_cons, ih, locks_submit]
  unfold Body.poolWrite
  extract_lets lba pages m b1
  simp [b1, hparts]
@[simp] theorem locks_reissue (e : Env) (o : Nat) (c : DevCmd) (b : Body) : locks (b.reissue e o c) = locks b := by
  unfold Body.reissue
  split <;> simp [apply_ite locks, ite_self]
@[simp] theorem locks_takeHeld (e : Env) (d : Nat) (b : Body) : locks (b.takeHeld e d) = locks b := by
  have hone : ∀ (b : Body) (c : DevCmd), locks (match c.work with
      | .ledger p n => b.submit e d (.ledger p n) (b.ledgerLba d p) c.units
      | _ => b.reissue e d c) = locks b := by
    intro b c
    split <;> simp
  exact part_foldl locks _ hone _ _
@[simp] theorem locks_copyNext (e : Env) (d : Nat) (b : Body) : locks (b.copyNext e d) = locks b := by
  simp [Body.copyNext, apply_ite locks, ite_self]
@[simp] theorem locks_markQual (n pos : Nat) (b : Body) : locks (b.markQual n pos) = locks b := by
  simp [Body.markQual]
@[simp] theorem locks_markBlk (pos : Nat) (b : Body) : locks (b.markBlk pos) = locks b := by
  simp [Body.markBlk]
@[simp] theorem locks_endUnmetered (count now : Nat) (u : Unmet) (b : Body) : locks (b.endUnmetered count now u) = locks b := by
  simp [Body.endUnmetered, apply_ite locks, ite_self]
@[simp] theorem locks_openUnmetered (e : Env) (die : Option Nat) (cause t0 : Nat) (b : Body) : locks (b.openUnmetered e die cause t0) = locks b := by
  unfold Body.openUnmetered
  split <;> simp
@[simp] theorem locks_onPath (n : Nat) (f : MPath → MPath) (b : Body) : locks (b.onPath n f) = locks b := locks_of_outer (outer_onPath ..)
@[simp] theorem locks_onUrg (k : Nat) (f : Urgent → Urgent) (b : Body) : locks (b.onUrg k f) = locks b := locks_of_outer (outer_onUrg ..)
@[simp] theorem locks_startCap (e : Env) (k : Nat) (b : Body) : locks (b.startCap e k) = locks b := locks_of_outer (outer_startCap ..)
@[simp] theorem locks_onVisit (k : Nat) (cvb : Bool) (f : VisitRun → VisitRun) (b : Body) : locks (b.onVisit k cvb f) = locks b := locks_of_outer (outer_onVisit ..)
@[simp] theorem locks_visitsPause (e : Env) (k : Nat) (b : Body) : locks (b.visitsPause e k) = locks b := locks_of_outer (outer_visitsPause ..)
@[simp] theorem locks_visitsFollow (e : Env) (k : Nat) (b : Body) : locks (b.visitsFollow e k) = locks b := by
  simp [Body.visitsFollow]
@[simp] theorem locks_setLp (e : Env) (k : Nat) (x : Bool) (b : Body) : locks (b.setLp e k x) = locks b := by
  simp [Body.setLp]
@[simp] theorem locks_lowPower (e : Env) (x : Bool) (b : Body) : locks (b.lowPower e x) = locks b := by
  simp [Body.lowPower, apply_ite locks, ite_self]
@[simp] theorem locks_emptyScan (e : Env) (k : Nat) (b : Body) : locks (b.emptyScan e k) = locks b := locks_of_outer (outer_emptyScan ..)
@[simp] theorem locks_urgentStart (e : Env) (k : Nat) (b : Body) : locks (b.urgentStart e k) = locks b := locks_of_outer (outer_urgentStart ..)
@[simp] theorem locks_capture (e : Env) (k src unit : Nat) (b : Body) : locks (b.capture e k src unit) = locks b := locks_of_outer (outer_capture ..)
@[simp] theorem locks_capTrigger (e : Env) (k src unit : Nat) (b : Body) : locks (b.capTrigger e k src unit) = locks b := locks_of_outer (outer_capTrigger ..)
@[simp] theorem locks_capTriggerAll (e : Env) (k src unit : Nat) (b : Body) : locks (b.capTriggerAll e k src unit) = locks b := locks_of_outer (outer_capTriggerAll ..)
@[simp] theorem locks_dropMeas (n : Nat) (b : Body) : locks (b.dropMeas n) = locks b := locks_of_outer (outer_dropMeas ..)
@[simp] theorem locks_endCap (n : Nat) (b : Body) : locks (b.endCap n) = locks b := locks_of_outer (outer_endCap ..)
@[simp] theorem locks_cutWide (k : Nat) (b : Body) : locks (b.cutWide k) = locks b := locks_of_outer (outer_cutWide ..)
@[simp] theorem locks_latchDie (e : Env) (n : Nat) (b : Body) : locks (b.latchDie e n) = locks b := locks_of_outer (outer_latchDie ..)
@[simp] theorem locks_landFields (k : Nat) (b : Body) : locks (b.landFields k) = locks b := locks_of_outer (outer_landFields ..)
@[simp] theorem locks_grantDie (e : Env) (n : Nat) (b : Body) : locks (b.grantDie e n) = locks b := locks_of_outer (outer_grantDie ..)
@[simp] theorem locks_stateDie (e : Env) (n : Nat) (old new : ChState) (b : Body) : locks (b.stateDie e n old new) = locks b := locks_of_outer (outer_stateDie ..)
@[simp] theorem locks_releaseDie (n : Nat) (prior : ChState) (b : Body) : locks (b.releaseDie n prior) = locks b := locks_of_outer (outer_releaseDie ..)
@[simp] theorem locks_actDie (e : Env) (m : DownMsg) (b : Body) : locks (b.actDie e m) = locks b := locks_of_outer (outer_actDie ..)
@[simp] theorem locks_tell (e : Env) (k : Nat) (m : DownMsg) (b : Body) : locks (b.tell e k m) = locks b := locks_of_outer (outer_tell ..)
@[simp] theorem locks_enter (e : Env) (n : Nat) (st : ChState) (reason : Nat) (b : Body) : locks (b.enter e n st reason) = locks b := locks_of_outer (outer_enter ..)
@[simp] theorem locks_setReason (n reason : Nat) (b : Body) : locks (b.setReason n reason) = locks b := locks_of_outer (outer_setReason ..)
@[simp] theorem locks_writeTrip (e : Env) (n reason t : Nat) (b : Body) : locks (b.writeTrip e n reason t) = locks b := locks_of_outer (outer_writeTrip ..)
@[simp] theorem locks_applyTrip (e : Env) (n reason t : Nat) (b : Body) : locks (b.applyTrip e n reason t) = locks b := locks_of_outer (outer_applyTrip ..)
@[simp] theorem locks_applyShort (e : Env) (n t : Nat) (b : Body) : locks (b.applyShort e n t) = locks b := locks_of_outer (outer_applyShort ..)
@[simp] theorem locks_yieldTo (e : Env) (n broken favoured : Nat) (new : ChState) (b : Body) : locks (b.yieldTo e n broken favoured new) = locks b := locks_of_outer (outer_yieldTo ..)
@[simp] theorem locks_refuse (e : Env) (n reason : Nat) (b : Body) : locks (b.refuse e n reason) = locks b := locks_of_outer (outer_refuse ..)
@[simp] theorem locks_shed (e : Env) (n reason : Nat) (b : Body) : locks (b.shed e n reason) = locks b := locks_of_outer (outer_shed ..)
@[simp] theorem locks_enqueue (e : Env) (n : Nat) (b : Body) : locks (b.enqueue e n) = locks b := locks_of_outer (outer_enqueue ..)
@[simp] theorem locks_trySeat (e : Env) (n : Nat) (b : Body) : locks (b.trySeat e n) = locks b := locks_of_outer (outer_trySeat ..)
@[simp] theorem locks_stampSeat (e : Env) (n t : Nat) (b : Body) : locks (b.stampSeat e n t) = locks b := locks_of_outer (outer_stampSeat ..)
@[simp] theorem locks_grant (e : Env) (n : Nat) (b : Body) : locks (b.grant e n) = locks b := locks_of_outer (outer_grant ..)
@[simp] theorem locks_enOn (e : Env) (n : Nat) (b : Body) : locks (b.enOn e n) = locks b := locks_of_outer (outer_enOn ..)
@[simp] theorem locks_cleared (e : Env) (n cause : Nat) (b : Body) : locks (b.cleared e n cause) = locks b := locks_of_outer (outer_cleared ..)
@[simp] theorem locks_aqQualified (e : Env) (n : Nat) (b : Body) : locks (b.aqQualified e n) = locks b := locks_of_outer (outer_aqQualified ..)
@[simp] theorem locks_aqAtQual (e : Env) (n : Nat) (b : Body) : locks (b.aqAtQual e n) = locks b := locks_of_outer (outer_aqAtQual ..)
@[simp] theorem locks_startAq (n t : Nat) (b : Body) : locks (b.startAq n t) = locks b := locks_of_outer (outer_startAq ..)
@[simp] theorem locks_stopSeat (n : Nat) (b : Body) : locks (b.stopSeat n) = locks b := by
  simp [Body.stopSeat]
@[simp] theorem locks_benchIn (e : Env) (n : Nat) (b : Body) : locks (b.benchIn e n) = locks b := locks_of_outer (outer_benchIn ..)
@[simp] theorem locks_restored (e : Env) (n : Nat) (st : ChState) (b : Body) : locks (b.restored e n st) = locks b := locks_of_outer (outer_restored ..)
@[simp] theorem locks_imageOk (e : Env) (n : Nat) (b : Body) : locks (b.imageOk e n) = locks b := locks_of_outer (outer_imageOk ..)
@[simp] theorem locks_applyEv (e : Env) (n : Nat) (ev : Ev) (t : Nat) (b : Body) : locks (b.applyEv e n ev t) = locks b := locks_of_outer (outer_applyEv ..)
@[simp] theorem locks_releaseHold (e : Env) (n : Nat) (b : Body) : locks (b.releaseHold e n) = locks b := locks_of_outer (outer_releaseHold ..)
@[simp] theorem locks_releaseOne (e : Env) (n r : Nat) (b : Body) : locks (b.releaseOne e n r) = locks b := locks_of_outer (outer_releaseOne ..)
@[simp] theorem locks_breakHold (e : Env) (n : Nat) (ev : Ev) (t : Nat) (b : Body) : locks (b.breakHold e n ev t) = locks b := locks_of_outer (outer_breakHold ..)
@[simp] theorem locks_deliver (e : Env) (n : Nat) (ev : Ev) (t : Nat) (b : Body) : locks (b.deliver e n ev t) = locks b := locks_of_outer (outer_deliver ..)
@[simp] theorem locks_sendGain (l : Nat) (b : Body) : locks (b.sendGain l) = locks b := by
  simp [Body.sendGain]
@[simp] theorem locks_enOff (e : Env) (n : Nat) (b : Body) : locks (b.enOff e n) = locks b := by
  simp [Body.enOff, apply_ite locks, ite_self]
@[simp] theorem locks_enGo (e : Env) (n : Nat) (b : Body) : locks (b.enGo e n) = locks b := by
  simp [Body.enGo, apply_ite locks, ite_self]
@[simp] theorem locks_onHu (f : HoldUp → HoldUp) (b : Body) : locks (b.onHu f) = locks b := by
  simp [Body.onHu]
@[simp] theorem locks_bbuSet (e : Env) (cause : Nat) (b : Body) : locks (b.bbuSet e cause) = locks b := by
  simp [Body.bbuSet, apply_ite locks, ite_self]
@[simp] theorem locks_bbuRelease (e : Env) (b : Body) : locks (b.bbuRelease e) = locks b := by
  simp [Body.bbuRelease]
@[simp] theorem locks_returnFollow (e : Env) (b : Body) : locks (b.returnFollow e) = locks b := by
  simp [Body.returnFollow, apply_ite locks, ite_self]
@[simp] theorem locks_holdClear (e : Env) (t : HoldTrig) (b : Body) : locks (b.holdClear e t) = locks b := by
  simp [Body.holdClear, apply_ite locks, ite_self]
@[simp] theorem locks_markClamp (n : Nat) (f : Fld) (i : Nat) (held : Bool) (b : Body) : locks (b.markClamp n f i held) = locks b := by
  simp [Body.markClamp]
@[simp] theorem locks_holdField (n : Nat) (asked : Bool) (c : Fld × Nat × Nat × Nat) (b : Body) : locks (b.holdField n asked c) = locks b := by
  simp [Body.holdField, apply_ite locks, ite_self]
@[simp] theorem locks_holdHardTrip (e : Env) (n : Nat) (asked : Bool) (b : Body) : locks (b.holdHardTrip e n asked) = locks b := by
  simp [Body.holdHardTrip, apply_ite locks, ite_self]
@[simp] theorem locks_holdAll (e : Env) (n : Nat) (asked : List Nat) (b : Body) : locks (b.holdAll e n asked) = locks b := by
  simp [Body.holdAll]
@[simp] theorem locks_writeBlock (w : BlkEnd) (b : Body) : locks (b.writeBlock w) = locks b := by
  simp [Body.writeBlock]

theorem locks_writeBlocks (k : Nat) (b : Body) : locks (Body.writeBlocks k b) = locks b := by
  induction k generalizing b with
  | zero => rfl
  | succ k ih =>
    unfold Body.writeBlocks
    split
    · rfl
    · split
      · rw [ih, locks_writeBlock, locks_onRcd]
      · rfl
@[simp] theorem locks_settleBlocks (b : Body) : locks (b.settleBlocks) = locks b := by
  unfold Body.settleBlocks
  exact locks_writeBlocks ..
@[simp] theorem locks_devJoin (e : Env) (d : Nat) (b : Body) : locks (b.devJoin e d) = locks b := by
  simp [Body.devJoin, apply_ite locks, ite_self]
@[simp] theorem locks_prepare (e : Env) (d : Nat) (b : Body) : locks (b.prepare e d) = locks b := by
  simp [Body.prepare, apply_ite locks, ite_self]
@[simp] theorem locks_showDue (b : Body) : locks (b.showDue) = locks b := by
  simp [Body.showDue]
@[simp] theorem locks_recHook (e : Env) (f : Fld) (b : Body) : locks (b.recHook e f) = locks b := by
  simp [Body.recHook, apply_ite locks, ite_self]
@[simp] theorem locks_loadAcc (f : Nat → Nat) (b : Body) : locks (b.loadAcc f) = locks b := by
  simp [Body.loadAcc]
@[simp] theorem locks_onTach (k : Nat) (f : Tach → Tach) (b : Body) : locks (b.onTach k f) = locks b := by
  simp [Body.onTach]
@[simp] theorem locks_relDone (b : Body) : locks (b.relDone) = locks b := by
  simp [Body.relDone, apply_ite locks, ite_self]
@[simp] theorem locks_relCancel (i : Nat) (b : Body) : locks (b.relCancel i) = locks b := by
  simp [Body.relCancel, apply_ite locks, ite_self]
@[simp] theorem locks_tachServe (e : Env) (k : Nat) (b : Body) : locks (b.tachServe e k) = locks b := by
  simp [Body.tachServe, apply_ite locks, ite_self]
@[simp] theorem locks_tmrHook (e : Env) (f : Fld) (i old : Nat) (b : Body) : locks (b.tmrHook e f i old) = locks b := by
  unfold Body.tmrHook
  split <;> simp [apply_ite locks, ite_self]
@[simp] theorem locks_onFd (f : Nat) (g : Feeder → Feeder) (b : Body) : locks (b.onFd f g) = locks b := by
  simp [Body.onFd]
@[simp] theorem locks_fdAnchor (e : Env) (f : Nat) (b : Body) : locks (b.fdAnchor e f) = locks b := by
  simp [Body.fdAnchor]
@[simp] theorem locks_fdRetarget (e : Env) (f : Nat) (b : Body) : locks (b.fdRetarget e f) = locks b := by
  simp [Body.fdRetarget]
@[simp] theorem locks_fdRetargetAll (e : Env) (b : Body) : locks (b.fdRetargetAll e) = locks b := by
  simp [Body.fdRetargetAll, apply_ite locks, ite_self]
@[simp] theorem locks_fdSum (e : Env) (b : Body) : locks (b.fdSum e) = locks b := by
  simp [Body.fdSum, apply_ite locks, ite_self]
@[simp] theorem locks_fdState (e : Env) (f st : Nat) (b : Body) : locks (b.fdState e f st) = locks b := by
  simp [Body.fdState, apply_ite locks, ite_self]
@[simp] theorem locks_fdStart (e : Env) (f : Nat) (b : Body) : locks (b.fdStart e f) = locks b := by
  simp [Body.fdStart]
@[simp] theorem locks_setTrim (f : Nat) (x : Int) (b : Body) : locks (b.setTrim f x) = locks b := by
  simp [Body.setTrim]
@[simp] theorem locks_balOff (e : Env) (b : Body) : locks (b.balOff e) = locks b := by
  simp [Body.balOff]
@[simp] theorem locks_endSoloHold (e : Env) (b : Body) : locks (b.endSoloHold e) = locks b := by
  simp [Body.endSoloHold, apply_ite locks, ite_self]
@[simp] theorem locks_emitPassed (b : Body) : locks (b.emitPassed) = locks b := by
  simp [Body.emitPassed, apply_ite locks, ite_self]
@[simp] theorem locks_splitFrom (e : Env) (b : Body) : locks (b.splitFrom e) = locks b := by
  simp [Body.splitFrom]
@[simp] theorem locks_toHiZ (b : Body) : locks (b.toHiZ) = locks b := by
  simp [Body.toHiZ]
@[simp] theorem locks_noPartner (b : Body) : locks (b.noPartner) = locks b := by
  simp [Body.noPartner]
@[simp] theorem locks_dieVoid (e : Env) (k : Nat) (fresh : Bool) (b : Body) : locks (b.dieVoid e k fresh) = locks b := by
  simp [Body.dieVoid, apply_ite locks, ite_self]
@[simp] theorem locks_dieFound (e : Env) (k : Nat) (b : Body) : locks (b.dieFound e k) = locks b := by
  simp [Body.dieFound, apply_ite locks, ite_self]
@[simp] theorem locks_deliverUp (e : Env) (k : Nat) (b : Body) : locks (b.deliverUp e k) = locks b := by
  unfold Body.deliverUp
  refine (part_foldl locks _ (fun b m => ?_) _ _).trans (by simp)
  cases m <;> simp
@[simp] theorem locks_putOwn (kvs : List (Nat × Nat)) (b : Body) : locks (b.putOwn kvs) = locks b := by
  simp [Body.putOwn, apply_ite locks, ite_self]
@[simp] theorem locks_keepOld (ks : List Nat) (b : Body) : locks (b.keepOld ks) = locks b := by
  simp [Body.keepOld]
@[simp] theorem locks_setChan (e : Env) (host : Bool) (n : Nat) (kvs : List (Nat × Nat)) (b : Body) : locks (b.setChan e host n kvs) = locks b := by
  simp [Body.setChan, apply_ite locks, ite_self]
@[simp] theorem locks_fpHook (e : Env) (f : Fld) (i old : Nat) (b : Body) : locks (b.fpHook e f i old) = locks b := by
  unfold Body.fpHook
  split <;> simp [apply_ite locks, ite_self]
@[simp] theorem locks_setHub (e : Env) (kv : Nat × Nat) (b : Body) : locks (b.setHub e kv) = locks b := by
  simp [Body.setHub, apply_ite locks, ite_self]
@[simp] theorem locks_config (e : Env) (host : Bool) (kvs : List (Nat × Nat)) (b : Body) : locks (b.config e host kvs) = locks b := by
  simp [Body.config, apply_ite locks, ite_self]
@[simp] theorem locks_imgEnd (ok : Bool) (b : Body) : locks (b.imgEnd ok) = locks b := by
  simp [Body.imgEnd, apply_ite locks, ite_self]
@[simp] theorem locks_asImaged (e : Env) (b : Body) (kvs : List (Nat × Nat)) (v : ImgVals) : locks (b.asImaged e kvs v) = locks b := by
  simp [Body.asImaged]
@[simp] theorem locks_patchTake (e : Env) (v : ImgVals) (ms ks : List Nat) (b : Body) : locks (b.patchTake e v ms ks) = locks b := by
  simp [Body.patchTake, apply_ite locks, ite_self]
@[simp] theorem locks_patchShow (b : Body) : locks (b.patchShow) = locks b := by
  unfold Body.patchShow
  split <;> simp [apply_ite locks, ite_self]
@[simp] theorem locks_patchDrop (l : Nat) (b : Body) : locks (b.patchDrop l) = locks b := by
  simp [Body.patchDrop]
@[simp] theorem locks_patchChan (e : Env) (l : Nat) (b : Body) : locks (b.patchChan e l) = locks b := by
  unfold Body.patchChan
  dsimp only
  split <;> (try split) <;> (try split) <;> simp [apply_ite locks]
@[simp] theorem locks_patchFirst (e : Env) (l : Nat) (b : Body) : locks (b.patchFirst e l) = locks b := by
  simp [Body.patchFirst, apply_ite locks, ite_self]
@[simp] theorem locks_patchStart (e : Env) (img : ImgSlot) (oldSeq : Nat) (reload : Bool) (b : Body) : locks (b.patchStart e img oldSeq reload) = locks b := by
  simp [Body.patchStart]
@[simp] theorem locks_slotReject (e : Env) (slot code : Nat) (b : Body) : locks (b.slotReject e slot code) = locks b := by
  simp [Body.slotReject]
@[simp] theorem locks_fuseEnd (r : Nat) (b : Body) : locks (b.fuseEnd r) = locks b := by
  simp [Body.fuseEnd]
@[simp] theorem locks_foldDie (k : Nat) (b : Body) : locks (b.foldDie k) = locks b := by
  simp [Body.foldDie, apply_ite locks, ite_self]
@[simp] theorem locks_rebuild (e : Env) (b : Body) : locks (b.rebuild e) = locks b := by
  unfold Body.rebuild
  extract_lets b1 c t lacks b2 late b3 b4
  have h1 : locks b1 = locks b := by
    unfold b1
    rw [locks_forEach _ _ _ (fun _ _ => locks_foldDie ..)]
  have h4 : locks b4 = locks b := by
    unfold b4
    rw [locks_settleBlocks]
    unfold b3
    rw [locks_onRcd, locks_onMtr]
    unfold b2
    rw [locks_markBlk, locks_loadAcc, h1]
  split
  · simp [h4]
  · rw [locks_forEach _ _ _ (fun _ _ => by simp), h4]
@[simp] theorem locks_reloadImage (e : Env) (bytes : List Nat) (b : Body) : locks (b.reloadImage e bytes) = locks b := by
  unfold Body.reloadImage
  split <;> simp [apply_ite locks, ite_self]
@[simp] theorem locks_treeReset (b : Body) : locks (b.treeReset) = locks b := (rfl)
@[simp] theorem locks_dropCommands (e : Env) (b : Body) : locks (b.dropCommands e) = locks b := by
  simp [Body.dropCommands, apply_ite locks, ite_self]

end Sys2Proof.Proofs
end

section
/-!
SUPPORT. What a restart of HUB shows through the operations that follow (R44, R480, R499).
-/

namespace Sys2Proof.Proofs

open Sys2Proof Sys2Proof.Machine Sys2Proof.Safety Sys2Proof.Laws

/-- The end of RECOVERY, the mark of the restart and the unlocks. -/
def restartSide (b : Body) : Nat × Nat × Nat := (b.tmr.recovEnd, b.rd .modClkmonHubRestart 0, b.rd .modExpertUnlock 0)

/-- Each turn of a fold leaves it. -/
def RestartSideKept {α : Type} (f : Body → α → Body) : Prop := ∀ b a, restartSide (f b a) = restartSide b

@[simp] theorem restartSideKept_iff {α : Type} (f : Body → α → Body) : RestartSideKept f ↔ ∀ b a, restartSide (f b a) = restartSide b := .rfl

@[simp] theorem restartSide_foldl {α : Type} (f : Body → α → Body) (l : List α) (b : Body) (hf : RestartSideKept f) : restartSide (l.foldl f b) = restartSide b :=
  part_foldl restartSide f hf l b

@[simp] theorem restartSide_forEach (b : Body) (l : List Nat) (f : Nat → Body → Body) (hf : RestartSideKept fun b n => f n b) :
    restartSide (b.forEach l f) = restartSide b :=
  part_foldl restartSide _ hf l b

@[simp] theorem restartSide_set_role (b : Body) (x : Role) : restartSide { b with role := x } = restartSide b := (rfl)
@[simp] theorem restartSide_set_chan (b : Body) (x : Vector Chan 128) : restartSide { b with chan := x } = restartSide b := (rfl)
@[simp] theorem restartSide_set_eng (b : Body) (x : Vector Eng 128) : restartSide { b with eng := x } = restartSide b := (rfl)
@[simp] theorem restartSide_set_die (b : Body) (x : Vector Die 8) : restartSide { b with die := x } = restartSide b := (rfl)
@[simp] theorem restartSide_set_bud (b : Body) (x : Budget) : restartSide { b with bud := x } = restartSide b := (rfl)
@[simp] theorem restartSide_set_rcd (b : Body) (x : Recorder) : restartSide { b with rcd := x } = restartSide b := (rfl)
@[simp] theorem restartSide_set_mtr (b : Body) (x : Meter) : restartSide { b with mtr := x } = restartSide b := (rfl)
@[simp] theorem restartSide_set_disc (b : Body) (x : Disc) : restartSide { b with disc := x } = restartSide b := (rfl)
@[simp] theorem restartSide_set_tmr (b : Body) (x : Timers) (h0 : x.recovEnd = b.tmr.recovEnd) : restartSide { b with tmr := x } = restartSide b := by
  unfold restartSide
  simp only [h0]; rfl
@[simp] theorem restartSide_set_health (b : Body) (x : Health) : restartSide { b with health := x } = restartSide b := (rfl)
@[simp] theorem restartSide_set_fdr (b : Body) (x : FeederPort) : restartSide { b with fdr := x } = restartSide b := (rfl)
@[simp] theorem restartSide_set_twin (b : Body) (x : Twin) : restartSide { b with twin := x } = restartSide b := (rfl)
@[simp] theorem restartSide_set_boot (b : Body) (x : Boot) : restartSide { b with boot := x } = restartSide b := (rfl)
@[simp] theorem restartSide_set_hp (b : Body) (x : Vector HostPort 2) : restartSide { b with hp := x } = restartSide b := (rfl)
@[simp] theorem restartSide_set_gainDue (b : Body) (x : List Nat) : restartSide { b with gainDue := x } = restartSide b := (rfl)
@[simp] theorem restartSide_set_dozeReq (b : Body) (x : Option Nat) : restartSide { b with dozeReq := x } = restartSide b := (rfl)
@[simp] theorem restartSide_set_trendWords (b : Body) (x : List (Nat × Nat)) : restartSide { b with trendWords := x } = restartSide b := (rfl)
@[simp] theorem restartSide_set_alertLow (b : Body) (x : Bool) : restartSide { b with alertLow := x } = restartSide b := (rfl)
@[simp] theorem restartSide_set_alertHold (b : Body) (x : Bool) : restartSide { b with alertHold := x } = restartSide b := (rfl)
@[simp] theorem restartSide_set_hubDown (b : Body) (x : Bool) : restartSide { b with hubDown := x } = restartSide b := (rfl)
@[simp] theorem restartSide_set_doze (b : Body) (x : Bool) : restartSide { b with doze := x } = restartSide b := (rfl)
@[simp] theorem restartSide_set_dozeLeaves (b : Body) (x : List (Nat × Nat)) : restartSide { b with dozeLeaves := x } = restartSide b := (rfl)
@[simp] theorem restartSide_set_reply (b : Body) (x : List Nat) : restartSide { b with reply := x } = restartSide b := (rfl)
@[simp] theorem restartSide_set_freeIx (b : Body) (x : Nat) : restartSide { b with freeIx := x } = restartSide b := (rfl)
@[simp] theorem restartSide_onCh (b : Body) (n : Nat) (f : Chan → Chan) : restartSide (b.onCh n f) = restartSide b := (rfl)
@[simp] theorem restartSide_onEng (b : Body) (n : Nat) (f : Eng → Eng) : restartSide (b.onEng n f) = restartSide b := (rfl)
@[simp] theorem restartSide_onDie (b : Body) (k : Nat) (f : Die → Die) : restartSide (b.onDie k f) = restartSide b := (rfl)
@[simp] theorem restartSide_dwr (b : Body) (k : Nat) (f : Fld) (i v : Nat) : restartSide (b.dwr k f i v) = restartSide b := (rfl)
@[simp] theorem restartSide_wr (b : Body) (f : Fld) (i v : Nat) (h0 : f ≠ .modClkmonHubRestart) (h1 : f ≠ .modExpertUnlock) : restartSide (b.wr f i v) = restartSide b := by
  unfold restartSide
  rw [rd_wr_fld b f .modClkmonHubRestart i _ v h0.symm, rd_wr_fld b f .modExpertUnlock i _ v h1.symm]
  rfl
@[simp] theorem restartSide_bump (b : Body) (f : Fld) (i : Nat) (h0 : f ≠ .modClkmonHubRestart) (h1 : f ≠ .modExpertUnlock) : restartSide (b.bump f i) = restartSide b := restartSide_wr _ _ _ _ h0 h1
@[simp] theorem restartSide_onMtr (f : Meter → Meter) (b : Body) : restartSide (b.onMtr f) = restartSide b := (rfl)
@[simp] theorem restartSide_onTwin (f : Twin → Twin) (b : Body) : restartSide (b.onTwin f) = restartSide b := (rfl)
@[simp] theorem restartSide_onBoot (f : Boot → Boot) (b : Body) : restartSide (b.onBoot f) = restartSide b := (rfl)

theorem restartSide_of_event {b c : Body} (ho : outer c = outer b) (hs : still c = still b) : restartSide c = restartSide b := by
  have hrd : ∀ f i, ofEvent f = false → c.rd f i = b.rd f i := fun f i hf => by
    have h : (still c).rd f i = (still b).rd f i := by rw [hs]
    unfold still at h
    simpa [hf] using h
  have htmr : c.tmr = b.tmr := by
    show (outer c).tmr = (outer b).tmr
    rw [ho]
  unfold restartSide
  rw [htmr, hrd _ _ rfl, hrd _ _ rfl]

@[simp] theorem restartSide_raise (l : Leaf) (b : Body) : restartSide (b.raise l) = restartSide b := by
  simp [Body.raise, apply_ite restartSide, ite_self]
@[simp] theorem restartSide_raiseCh1 (n : Nat) (l : ChLeaf) (b : Body) : restartSide (b.raiseCh1 n l) = restartSide b := restartSide_of_event (outer_raiseCh1 ..) (still_raiseCh1 ..)
@[simp] theorem restartSide_raiseCh (n : Nat) (l : ChLeaf) (b : Body) : restartSide (b.raiseCh n l) = restartSide b := restartSide_of_event (outer_raiseCh ..) (still_raiseCh ..)
@[simp] theorem restartSide_emit (r : LRec) (b : Body) : restartSide (b.emit r) = restartSide b := restartSide_of_event (outer_emit ..) (still_emit ..)
@[simp] theorem restartSide_sendBluli (kind : Nat) (content : List Nat) (b : Body) : restartSide (b.sendBluli kind content) = restartSide b := restartSide_of_event (outer_sendBluli ..) (still_sendBluli ..)
@[simp] theorem restartSide_shared (r : LRec) (b : Body) : restartSide (b.shared r) = restartSide b := restartSide_of_event (outer_shared ..) (still_shared ..)
@[simp] theorem restartSide_event (time code chan arg0 arg1 arg2 : Nat) (b : Body) : restartSide (b.event time code chan arg0 arg1 arg2) = restartSide b := restartSide_of_event (outer_event ..) (still_event ..)
@[simp] theorem restartSide_framed (k : Nat) (up : Bool) (fs : List (Nat × List Nat)) (b : Body) : restartSide (b.framed k up fs) = restartSide b := restartSide_of_event (outer_framed ..) (still_framed ..)
@[simp] theorem restartSide_sendDown (k : Nat) (m : DownMsg) (b : Body) : restartSide (b.sendDown k m) = restartSide b := restartSide_of_event (outer_sendDown ..) (still_sendDown ..)
@[simp] theorem restartSide_formPlan (e : Env) (b : Body) : restartSide (b.formPlan e) = restartSide b := restartSide_of_event (outer_formPlan ..) (still_formPlan ..)
@[simp] theorem restartSide_span (time kind edge mask : Nat) (b : Body) : restartSide (b.span time kind edge mask) = restartSide b := restartSide_of_event (outer_span ..) (still_span ..)
@[simp] theorem restartSide_calFail (e : Env) (code ch : Nat) (b : Body) : restartSide (b.calFail e code ch) = restartSide b := by
  simp [Body.calFail, apply_ite restartSide, ite_self]
@[simp] theorem restartSide_calInterrupt (e : Env) (b : Body) : restartSide (b.calInterrupt e) = restartSide b := by
  unfold Body.calInterrupt
  split <;> simp [apply_ite restartSide, ite_self]
@[simp] theorem restartSide_onPath (n : Nat) (f : MPath → MPath) (b : Body) : restartSide (b.onPath n f) = restartSide b := (rfl)
@[simp] theorem restartSide_onUrg (k : Nat) (f : Urgent → Urgent) (b : Body) : restartSide (b.onUrg k f) = restartSide b := restartSide_of_event (outer_onUrg ..) (still_onUrg ..)
@[simp] theorem restartSide_startCap (e : Env) (k : Nat) (b : Body) : restartSide (b.startCap e k) = restartSide b := restartSide_of_event (outer_startCap ..) (still_startCap ..)
@[simp] theorem restartSide_onVisit (k : Nat) (cvb : Bool) (f : VisitRun → VisitRun) (b : Body) : restartSide (b.onVisit k cvb f) = restartSide b := restartSide_of_event (outer_onVisit ..) (still_onVisit ..)
@[simp] theorem restartSide_visitsPause (e : Env) (k : Nat) (b : Body) : restartSide (b.visitsPause e k) = restartSide b := restartSide_of_event (outer_visitsPause ..) (still_visitsPause ..)
@[simp] theorem restartSide_visitsFollow (e : Env) (k : Nat) (b : Body) : restartSide (b.visitsFollow e k) = restartSide b := by
  simp [Body.visitsFollow]
@[simp] theorem restartSide_setLp (e : Env) (k : Nat) (x : Bool) (b : Body) : restartSide (b.setLp e k x) = restartSide b := by
  simp [Body.setLp]
@[simp] theorem restartSide_lowPower (e : Env) (x : Bool) (b : Body) : restartSide (b.lowPower e x) = restartSide b := by
  simp [Body.lowPower, apply_ite restartSide, ite_self]
@[simp] theorem restartSide_emptyScan (e : Env) (k : Nat) (b : Body) : restartSide (b.emptyScan e k) = restartSide b := restartSide_of_event (outer_emptyScan ..) (still_emptyScan ..)
@[simp] theorem restartSide_urgentStart (e : Env) (k : Nat) (b : Body) : restartSide (b.urgentStart e k) = restartSide b := restartSide_of_event (outer_urgentStart ..) (still_urgentStart ..)
@[simp] theorem restartSide_capture (e : Env) (k src unit : Nat) (b : Body) : restartSide (b.capture e k src unit) = restartSide b := restartSide_of_event (outer_capture ..) (still_capture ..)
@[simp] theorem restartSide_capTrigger (e : Env) (k src unit : Nat) (b : Body) : restartSide (b.capTrigger e k src unit) = restartSide b := restartSide_of_event (outer_capTrigger ..) (still_capTrigger ..)
@[simp] theorem restartSide_capTriggerAll (e : Env) (k src unit : Nat) (b : Body) : restartSide (b.capTriggerAll e k src unit) = restartSide b := restartSide_of_event (outer_capTriggerAll ..) (still_capTriggerAll ..)
@[simp] theorem restartSide_dropMeas (n : Nat) (b : Body) : restartSide (b.dropMeas n) = restartSide b := restartSide_of_event (outer_dropMeas ..) (still_dropMeas ..)
@[simp] theorem restartSide_endCap (n : Nat) (b : Body) : restartSide (b.endCap n) = restartSide b := restartSide_of_event (outer_endCap ..) (still_endCap ..)
@[simp] theorem restartSide_cutWide (k : Nat) (b : Body) : restartSide (b.cutWide k) = restartSide b := restartSide_of_event (outer_cutWide ..) (still_cutWide ..)
@[simp] theorem restartSide_latchDie (e : Env) (n : Nat) (b : Body) : restartSide (b.latchDie e n) = restartSide b := restartSide_of_event (outer_latchDie ..) (still_latchDie ..)
@[simp] theorem restartSide_landFields (k : Nat) (b : Body) : restartSide (b.landFields k) = restartSide b := restartSide_of_event (outer_landFields ..) (still_landFields ..)
@[simp] theorem restartSide_grantDie (e : Env) (n : Nat) (b : Body) : restartSide (b.grantDie e n) = restartSide b := restartSide_of_event (outer_grantDie ..) (still_grantDie ..)
@[simp] theorem restartSide_stateDie (e : Env) (n : Nat) (old new : ChState) (b : Body) : restartSide (b.stateDie e n old new) = restartSide b := restartSide_of_event (outer_stateDie ..) (still_stateDie ..)
@[simp] theorem restartSide_releaseDie (n : Nat) (prior : ChState) (b : Body) : restartSide (b.releaseDie n prior) = restartSide b := restartSide_of_event (outer_releaseDie ..) (still_releaseDie ..)
@[simp] theorem restartSide_actDie (e : Env) (m : DownMsg) (b : Body) : restartSide (b.actDie e m) = restartSide b := restartSide_of_event (outer_actDie ..) (still_actDie ..)
@[simp] theorem restartSide_tell (e : Env) (k : Nat) (m : DownMsg) (b : Body) : restartSide (b.tell e k m) = restartSide b := restartSide_of_event (outer_tell ..) (still_tell ..)
@[simp] theorem restartSide_enter (e : Env) (n : Nat) (st : ChState) (reason : Nat) (b : Body) : restartSide (b.enter e n st reason) = restartSide b := restartSide_of_event (outer_enter ..) (still_enter ..)
@[simp] theorem restartSide_setReason (n reason : Nat) (b : Body) : restartSide (b.setReason n reason) = restartSide b := restartSide_of_event (outer_setReason ..) (still_setReason ..)
@[simp] theorem restartSide_writeTrip (e : Env) (n reason t : Nat) (b : Body) : restartSide (b.writeTrip e n reason t) = restartSide b := restartSide_of_event (outer_writeTrip ..) (still_writeTrip ..)
@[simp] theorem restartSide_applyTrip (e : Env) (n reason t : Nat) (b : Body) : restartSide (b.applyTrip e n reason t) = restartSide b := restartSide_of_event (outer_applyTrip ..) (still_applyTrip ..)
@[simp] theorem restartSide_applyShort (e : Env) (n t : Nat) (b : Body) : restartSide (b.applyShort e n t) = restartSide b := restartSide_of_event (outer_applyShort ..) (still_applyShort ..)
@[simp] theorem restartSide_yieldTo (e : Env) (n broken favoured : Nat) (new : ChState) (b : Body) : restartSide (b.yieldTo e n broken favoured new) = restartSide b := restartSide_of_event (outer_yieldTo ..) (still_yieldTo ..)
@[simp] theorem restartSide_refuse (e : Env) (n reason : Nat) (b : Body) : restartSide (b.refuse e n reason) = restartSide b := restartSide_of_event (outer_refuse ..) (still_refuse ..)
@[simp] theorem restartSide_shed (e : Env) (n reason : Nat) (b : Body) : restartSide (b.shed e n reason) = restartSide b := restartSide_of_event (outer_shed ..) (still_shed ..)
@[simp] theorem restartSide_enqueue (e : Env) (n : Nat) (b : Body) : restartSide (b.enqueue e n) = restartSide b := restartSide_of_event (outer_enqueue ..) (still_enqueue ..)
@[simp] theorem restartSide_trySeat (e : Env) (n : Nat) (b : Body) : restartSide (b.trySeat e n) = restartSide b := restartSide_of_event (outer_trySeat ..) (still_trySeat ..)
@[simp] theorem restartSide_stampSeat (e : Env) (n t : Nat) (b : Body) : restartSide (b.stampSeat e n t) = restartSide b := restartSide_of_event (outer_stampSeat ..) (still_stampSeat ..)
@[simp] theorem restartSide_grant (e : Env) (n : Nat) (b : Body) : restartSide (b.grant e n) = restartSide b := restartSide_of_event (outer_grant ..) (still_grant ..)
@[simp] theorem restartSide_enOn (e : Env) (n : Nat) (b : Body) : restartSide (b.enOn e n) = restartSide b := restartSide_of_event (outer_enOn ..) (still_enOn ..)
@[simp] theorem restartSide_cleared (e : Env) (n cause : Nat) (b : Body) : restartSide (b.cleared e n cause) = restartSide b := restartSide_of_event (outer_cleared ..) (still_cleared ..)
@[simp] theorem restartSide_aqQualified (e : Env) (n : Nat) (b : Body) : restartSide (b.aqQualified e n) = restartSide b := restartSide_of_event (outer_aqQualified ..) (still_aqQualified ..)
@[simp] theorem restartSide_aqAtQual (e : Env) (n : Nat) (b : Body) : restartSide (b.aqAtQual e n) = restartSide b := restartSide_of_event (outer_aqAtQual ..) (still_aqAtQual ..)
@[simp] theorem restartSide_startAq (n t : Nat) (b : Body) : restartSide (b.startAq n t) = restartSide b := restartSide_of_event (outer_startAq ..) (still_startAq ..)
@[simp] theorem restartSide_stopSeat (n : Nat) (b : Body) : restartSide (b.stopSeat n) = restartSide b := by
  simp [Body.stopSeat]
@[simp] theorem restartSide_benchIn (e : Env) (n : Nat) (b : Body) : restartSide (b.benchIn e n) = restartSide b := restartSide_of_event (outer_benchIn ..) (still_benchIn ..)
@[simp] theorem restartSide_restored (e : Env) (n : Nat) (st : ChState) (b : Body) : restartSide (b.restored e n st) = restartSide b := restartSide_of_event (outer_restored ..) (still_restored ..)
@[simp] theorem restartSide_imageOk (e : Env) (n : Nat) (b : Body) : restartSide (b.imageOk e n) = restartSide b := restartSide_of_event (outer_imageOk ..) (still_imageOk ..)
@[simp] theorem restartSide_applyEv (e : Env) (n : Nat) (ev : Ev) (t : Nat) (b : Body) : restartSide (b.applyEv e n ev t) = restartSide b := restartSide_of_event (outer_applyEv ..) (still_applyEv ..)
@[simp] theorem restartSide_releaseHold (e : Env) (n : Nat) (b : Body) : restartSide (b.releaseHold e n) = restartSide b := restartSide_of_event (outer_releaseHold ..) (still_releaseHold ..)
@[simp] theorem restartSide_releaseOne (e : Env) (n r : Nat) (b : Body) : restartSide (b.releaseOne e n r) = restartSide b := restartSide_of_event (outer_releaseOne ..) (still_releaseOne ..)
@[simp] theorem restartSide_breakHold (e : Env) (n : Nat) (ev : Ev) (t : Nat) (b : Body) : restartSide (b.breakHold e n ev t) = restartSide b := restartSide_of_event (outer_breakHold ..) (still_breakHold ..)
@[simp] theorem restartSide_deliver (e : Env) (n : Nat) (ev : Ev) (t : Nat) (b : Body) : restartSide (b.deliver e n ev t) = restartSide b := restartSide_of_event (outer_deliver ..) (still_deliver ..)
@[simp] theorem restartSide_bbuRelease (e : Env) (b : Body) : restartSide (b.bbuRelease e) = restartSide b := by
  simp [Body.bbuRelease]
@[simp] theorem restartSide_endSoloHold (e : Env) (b : Body) : restartSide (b.endSoloHold e) = restartSide b := by
  simp [Body.endSoloHold, apply_ite restartSide, ite_self]
@[simp] theorem restartSide_emitPassed (b : Body) : restartSide (b.emitPassed) = restartSide b := by
  simp [Body.emitPassed, apply_ite restartSide, ite_self]
@[simp] theorem restartSide_splitFrom (e : Env) (b : Body) : restartSide (b.splitFrom e) = restartSide b := by
  simp [Body.splitFrom]
@[simp] theorem restartSide_toHiZ (b : Body) : restartSide (b.toHiZ) = restartSide b := by
  simp [Body.toHiZ]
@[simp] theorem restartSide_noPartner (b : Body) : restartSide (b.noPartner) = restartSide b := by
  simp [Body.noPartner]
@[simp] theorem restartSide_dieVoid (e : Env) (k : Nat) (fresh : Bool) (b : Body) : restartSide (b.dieVoid e k fresh) = restartSide b := by
  simp [Body.dieVoid, apply_ite restartSide, ite_self]
@[simp] theorem restartSide_dieFound (e : Env) (k : Nat) (b : Body) : restartSide (b.dieFound e k) = restartSide b := by
  simp [Body.dieFound, apply_ite restartSide, ite_self]
@[simp] theorem restartSide_imgEnd (ok : Bool) (b : Body) : restartSide (b.imgEnd ok) = restartSide b := by
  simp [Body.imgEnd, apply_ite restartSide, ite_self]
@[simp] theorem restartSide_fuseEnd (r : Nat) (b : Body) : restartSide (b.fuseEnd r) = restartSide b := by
  simp [Body.fuseEnd]
@[simp] theorem restartSide_dropCommands (e : Env) (b : Body) : restartSide (b.dropCommands e) = restartSide b := by
  simp [Body.dropCommands, apply_ite restartSide, ite_self]

end Sys2Proof.Proofs
end

section
/-!
SUPPORT. The states of the two devices (R437) through the operations that move their commands.
-/

namespace Sys2Proof.Proofs

open Sys2Proof Sys2Proof.Machine Sys2Proof.Safety Sys2Proof.Laws

/-- The states of the devices. -/
def devStates (b : Body) : Nat × Nat := (b.rd .recDevstatState 0, b.rd .recDevstatState 1)

/-- Each turn of a fold leaves it. -/
def DevStatesKept {α : Type} (f : Body → α → Body) : Prop := ∀ b a, devStates (f b a) = devStates b

@[simp] theorem devStatesKept_iff {α : Type} (f : Body → α → Body) : DevStatesKept f ↔ ∀ b a, devStates (f b a) = devStates b := .rfl

@[simp] theorem devStates_foldl {α : Type} (f : Body → α → Body) (l : List α) (b : Body) (hf : DevStatesKept f) : devStates (l.foldl f b) = devStates b :=
  part_foldl devStates f hf l b

@[simp] theorem devStates_forEach (b : Body) (l : List Nat) (f : Nat → Body → Body) (hf : DevStatesKept fun b n => f n b) :
    devStates (b.forEach l f) = devStates b :=
  part_foldl devStates _ hf l b

@[simp] theorem devStates_set_role (b : Body) (x : Role) : devStates { b with role := x } = devStates b := (rfl)
@[simp] theorem devStates_set_chan (b : Body) (x : Vector Chan 128) : devStates { b with chan := x } = devStates b := (rfl)
@[simp] theorem devStates_set_eng (b : Body) (x : Vector Eng 128) : devStates { b with eng := x } = devStates b := (rfl)
@[simp] theorem devStates_set_die (b : Body) (x : Vector Die 8) : devStates { b with die := x } = devStates b := (rfl)
@[simp] theorem devStates_set_bud (b : Body) (x : Budget) : devStates { b with bud := x } = devStates b := (rfl)
@[simp] theorem devStates_set_rcd (b : Body) (x : Recorder) : devStates { b with rcd := x } = devStates b := (rfl)
@[simp] theorem devStates_set_mtr (b : Body) (x : Meter) : devStates { b with mtr := x } = devStates b := (rfl)
@[simp] theorem devStates_set_disc (b : Body) (x : Disc) : devStates { b with disc := x } = devStates b := (rfl)
@[simp] theorem devStates_set_tmr (b : Body) (x : Timers) : devStates { b with tmr := x } = devStates b := (rfl)
@[simp] theorem devStates_set_health (b : Body) (x : Health) : devStates { b with health := x } = devStates b := (rfl)
@[simp] theorem devStates_set_fdr (b : Body) (x : FeederPort) : devStates { b with fdr := x } = devStates b := (rfl)
@[simp] theorem devStates_set_twin (b : Body) (x : Twin) : devStates { b with twin := x } = devStates b := (rfl)
@[simp] theorem devStates_set_boot (b : Body) (x : Boot) : devStates { b with boot := x } = devStates b := (rfl)
@[simp] theorem devStates_set_hp (b : Body) (x : Vector HostPort 2) : devStates { b with hp := x } = devStates b := (rfl)
@[simp] theorem devStates_set_gainDue (b : Body) (x : List Nat) : devStates { b with gainDue := x } = devStates b := (rfl)
@[simp] theorem devStates_set_dozeReq (b : Body) (x : Option Nat) : devStates { b with dozeReq := x } = devStates b := (rfl)
@[simp] theorem devStates_set_trendWords (b : Body) (x : List (Nat × Nat)) : devStates { b with trendWords := x } = devStates b := (rfl)
@[simp] theorem devStates_set_alertLow (b : Body) (x : Bool) : devStates { b with alertLow := x } = devStates b := (rfl)
@[simp] theorem devStates_set_alertHold (b : Body) (x : Bool) : devStates { b with alertHold := x } = devStates b := (rfl)
@[simp] theorem devStates_set_hubDown (b : Body) (x : Bool) : devStates { b with hubDown := x } = devStates b := (rfl)
@[simp] theorem devStates_set_doze (b : Body) (x : Bool) : devStates { b with doze := x } = devStates b := (rfl)
@[simp] theorem devStates_set_dozeLeaves (b : Body) (x : List (Nat × Nat)) : devStates { b with dozeLeaves := x } = devStates b := (rfl)
@[simp] theorem devStates_set_reply (b : Body) (x : List Nat) : devStates { b with reply := x } = devStates b := (rfl)
@[simp] theorem devStates_set_freeIx (b : Body) (x : Nat) : devStates { b with freeIx := x } = devStates b := (rfl)
@[simp] theorem devStates_onCh (b : Body) (n : Nat) (f : Chan → Chan) : devStates (b.onCh n f) = devStates b := (rfl)
@[simp] theorem devStates_onEng (b : Body) (n : Nat) (f : Eng → Eng) : devStates (b.onEng n f) = devStates b := (rfl)
@[simp] theorem devStates_onDie (b : Body) (k : Nat) (f : Die → Die) : devStates (b.onDie k f) = devStates b := (rfl)
@[simp] theorem devStates_dwr (b : Body) (k : Nat) (f : Fld) (i v : Nat) : devStates (b.dwr k f i v) = devStates b := (rfl)
@[simp] theorem devStates_wr (b : Body) (f : Fld) (i v : Nat) (h0 : f ≠ .recDevstatState) : devStates (b.wr f i v) = devStates b := by
  unfold devStates
  simp only [rd_wr_fld _ _ _ _ _ _ h0.symm]
@[simp] theorem devStates_bump (b : Body) (f : Fld) (i : Nat) (h0 : f ≠ .recDevstatState) : devStates (b.bump f i) = devStates b := devStates_wr _ _ _ _ h0
@[simp] theorem devStates_onRcd (f : Recorder → Recorder) (b : Body) : devStates (b.onRcd f) = devStates b := (rfl)
@[simp] theorem devStates_onTwin (f : Twin → Twin) (b : Body) : devStates (b.onTwin f) = devStates b := (rfl)

@[simp] theorem devStates_raise (l : Leaf) (b : Body) : devStates (b.raise l) = devStates b := by
  simp [Body.raise, apply_ite devStates, ite_self]
@[simp] theorem devStates_emit (r : LRec) (b : Body) : devStates (b.emit r) = devStates b := by
  simp [Body.emit]
@[simp] theorem devStates_sendBluli (kind : Nat) (content : List Nat) (b : Body) : devStates (b.sendBluli kind content) = devStates b := by
  simp [Body.sendBluli, apply_ite devStates, ite_self]
@[simp] theorem devStates_shared (r : LRec) (b : Body) : devStates (b.shared r) = devStates b := by
  simp [Body.shared, apply_ite devStates, ite_self]
@[simp] theorem devStates_event (time code chan arg0 arg1 arg2 : Nat) (b : Body) : devStates (b.event time code chan arg0 arg1 arg2) = devStates b := by
  simp [Body.event]
@[simp] theorem devStates_onDev (d : Nat) (f : Dev → Dev) (b : Body) : devStates (b.onDev d f) = devStates b := by
  simp [Body.onDev]
@[simp] theorem devStates_devRec (e : Env) (d kind : Nat) (b : Body) : devStates (b.devRec e d kind) = devStates b := by
  simp [Body.devRec]
@[simp] theorem devStates_submitF (e : Env) (d : Nat) (fua : Bool) (w : DevWork) (lba : Nat) (us : List Nat) (b : Body) : devStates (b.submitF e d fua w lba us) = devStates b := by
  simp [Body.submitF]
@[simp] theorem devStates_submit (e : Env) (d : Nat) (w : DevWork) (lba : Nat) (us : List Nat) (b : Body) : devStates (b.submit e d w lba us) = devStates b := by
  simp [Body.submit]
@[simp] theorem devStates_showOldest (b : Body) : devStates (b.showOldest) = devStates b := by
  simp [Body.showOldest]
@[simp] theorem devStates_sendStripe (e : Env) (d : Nat) (fua : Bool) (x : StripeSpan) (pages : List Nat) (b : Body) : devStates (b.sendStripe e d fua x pages) = devStates b := by
  simp [Body.sendStripe]
@[simp] theorem devStates_poolWrite (e : Env) (d pseq : Nat) (c : Cap) (b : Body) : devStates (b.poolWrite e d pseq c) = devStates b := by
  have hparts : ∀ (lba : Nat) (l : List (Nat × Nat)) (x : Body × List Nat), devStates (l.foldl (fun x p =>
      (x.1.submit e d (.pool c lba pseq) p.1 (x.2.take (256 * p.2)), x.2.drop (256 * p.2))) x).1 = devStates x.1 := by
    intro lba l
    induction l with
    | nil => exact fun _ => rfl
    | cons p l ih => intro x; rw [List.foldl_cons, ih, devStates_submit]
  unfold Body.poolWrite
  extract_lets lba pages m b1
  simp [b1, hparts]
@[simp] theorem devStates_reissue (e : Env) (o : Nat) (c : DevCmd) (b : Body) : devStates (b.reissue e o c) = devStates b := by
  unfold Body.reissue
  split <;> simp [apply_ite devStates, ite_self]
@[simp] theorem devStates_dropCmds (e : Env) (d : Nat) (b : Body) : devStates (b.dropCmds e d) = devStates b := by
  simp [Body.dropCmds]
@[simp] theorem devStates_noDevice (d : Nat) (b : Body) : devStates (b.noDevice d) = devStates b := by
  simp [Body.noDevice]

end Sys2Proof.Proofs
end

section
/-!
SUPPORT. The marks of the failed clocks (R45) through what their failures do to the devices and to Basket.
-/

namespace Sys2Proof.Proofs

open Sys2Proof Sys2Proof.Machine Sys2Proof.Safety Sys2Proof.Laws

/-- The marks of the clocks of PCIe and of Basket. -/
def clockMarks (b : Body) : Nat × Nat := (b.rd .modClkmonPcieFail 0, b.rd .modClkmonBasketFail 0)

/-- Each turn of a fold leaves it. -/
def ClockMarksKept {α : Type} (f : Body → α → Body) : Prop := ∀ b a, clockMarks (f b a) = clockMarks b

@[simp] theorem clockMarksKept_iff {α : Type} (f : Body → α → Body) : ClockMarksKept f ↔ ∀ b a, clockMarks (f b a) = clockMarks b := .rfl

@[simp] theorem clockMarks_foldl {α : Type} (f : Body → α → Body) (l : List α) (b : Body) (hf : ClockMarksKept f) : clockMarks (l.foldl f b) = clockMarks b :=
  part_foldl clockMarks f hf l b

@[simp] theorem clockMarks_forEach (b : Body) (l : List Nat) (f : Nat → Body → Body) (hf : ClockMarksKept fun b n => f n b) :
    clockMarks (b.forEach l f) = clockMarks b :=
  part_foldl clockMarks _ hf l b

@[simp] theorem clockMarks_set_role (b : Body) (x : Role) : clockMarks { b with role := x } = clockMarks b := (rfl)
@[simp] theorem clockMarks_set_chan (b : Body) (x : Vector Chan 128) : clockMarks { b with chan := x } = clockMarks b := (rfl)
@[simp] theorem clockMarks_set_eng (b : Body) (x : Vector Eng 128) : clockMarks { b with eng := x } = clockMarks b := (rfl)
@[simp] theorem clockMarks_set_die (b : Body) (x : Vector Die 8) : clockMarks { b with die := x } = clockMarks b := (rfl)
@[simp] theorem clockMarks_set_bud (b : Body) (x : Budget) : clockMarks { b with bud := x } = clockMarks b := (rfl)
@[simp] theorem clockMarks_set_rcd (b : Body) (x : Recorder) : clockMarks { b with rcd := x } = clockMarks b := (rfl)
@[simp] theorem clockMarks_set_mtr (b : Body) (x : Meter) : clockMarks { b with mtr := x } = clockMarks b := (rfl)
@[simp] theorem clockMarks_set_disc (b : Body) (x : Disc) : clockMarks { b with disc := x } = clockMarks b := (rfl)
@[simp] theorem clockMarks_set_tmr (b : Body) (x : Timers) : clockMarks { b with tmr := x } = clockMarks b := (rfl)
@[simp] theorem clockMarks_set_health (b : Body) (x : Health) : clockMarks { b with health := x } = clockMarks b := (rfl)
@[simp] theorem clockMarks_set_fdr (b : Body) (x : FeederPort) : clockMarks { b with fdr := x } = clockMarks b := (rfl)
@[simp] theorem clockMarks_set_twin (b : Body) (x : Twin) : clockMarks { b with twin := x } = clockMarks b := (rfl)
@[simp] theorem clockMarks_set_boot (b : Body) (x : Boot) : clockMarks { b with boot := x } = clockMarks b := (rfl)
@[simp] theorem clockMarks_set_hp (b : Body) (x : Vector HostPort 2) : clockMarks { b with hp := x } = clockMarks b := (rfl)
@[simp] theorem clockMarks_set_gainDue (b : Body) (x : List Nat) : clockMarks { b with gainDue := x } = clockMarks b := (rfl)
@[simp] theorem clockMarks_set_dozeReq (b : Body) (x : Option Nat) : clockMarks { b with dozeReq := x } = clockMarks b := (rfl)
@[simp] theorem clockMarks_set_trendWords (b : Body) (x : List (Nat × Nat)) : clockMarks { b with trendWords := x } = clockMarks b := (rfl)
@[simp] theorem clockMarks_set_alertLow (b : Body) (x : Bool) : clockMarks { b with alertLow := x } = clockMarks b := (rfl)
@[simp] theorem clockMarks_set_alertHold (b : Body) (x : Bool) : clockMarks { b with alertHold := x } = clockMarks b := (rfl)
@[simp] theorem clockMarks_set_hubDown (b : Body) (x : Bool) : clockMarks { b with hubDown := x } = clockMarks b := (rfl)
@[simp] theorem clockMarks_set_doze (b : Body) (x : Bool) : clockMarks { b with doze := x } = clockMarks b := (rfl)
@[simp] theorem clockMarks_set_dozeLeaves (b : Body) (x : List (Nat × Nat)) : clockMarks { b with dozeLeaves := x } = clockMarks b := (rfl)
@[simp] theorem clockMarks_set_reply (b : Body) (x : List Nat) : clockMarks { b with reply := x } = clockMarks b := (rfl)
@[simp] theorem clockMarks_set_freeIx (b : Body) (x : Nat) : clockMarks { b with freeIx := x } = clockMarks b := (rfl)
@[simp] theorem clockMarks_onCh (b : Body) (n : Nat) (f : Chan → Chan) : clockMarks (b.onCh n f) = clockMarks b := (rfl)
@[simp] theorem clockMarks_onEng (b : Body) (n : Nat) (f : Eng → Eng) : clockMarks (b.onEng n f) = clockMarks b := (rfl)
@[simp] theorem clockMarks_onDie (b : Body) (k : Nat) (f : Die → Die) : clockMarks (b.onDie k f) = clockMarks b := (rfl)
@[simp] theorem clockMarks_dwr (b : Body) (k : Nat) (f : Fld) (i v : Nat) : clockMarks (b.dwr k f i v) = clockMarks b := (rfl)
@[simp] theorem clockMarks_wr (b : Body) (f : Fld) (i v : Nat) (h0 : f ≠ .modClkmonPcieFail) (h1 : f ≠ .modClkmonBasketFail) : clockMarks (b.wr f i v) = clockMarks b := by
  unfold clockMarks
  simp only [rd_wr_fld _ _ _ _ _ _ h0.symm, rd_wr_fld _ _ _ _ _ _ h1.symm]
@[simp] theorem clockMarks_bump (b : Body) (f : Fld) (i : Nat) (h0 : f ≠ .modClkmonPcieFail) (h1 : f ≠ .modClkmonBasketFail) : clockMarks (b.bump f i) = clockMarks b := clockMarks_wr _ _ _ _ h0 h1
@[simp] theorem clockMarks_onRcd (f : Recorder → Recorder) (b : Body) : clockMarks (b.onRcd f) = clockMarks b := (rfl)
@[simp] theorem clockMarks_onTwin (f : Twin → Twin) (b : Body) : clockMarks (b.onTwin f) = clockMarks b := (rfl)

@[simp] theorem clockMarks_raise (l : Leaf) (b : Body) : clockMarks (b.raise l) = clockMarks b := by
  simp [Body.raise, apply_ite clockMarks, ite_self]
@[simp] theorem clockMarks_emit (r : LRec) (b : Body) : clockMarks (b.emit r) = clockMarks b := by
  simp [Body.emit]
@[simp] theorem clockMarks_sendBluli (kind : Nat) (content : List Nat) (b : Body) : clockMarks (b.sendBluli kind content) = clockMarks b := by
  simp [Body.sendBluli, apply_ite clockMarks, ite_self]
@[simp] theorem clockMarks_shared (r : LRec) (b : Body) : clockMarks (b.shared r) = clockMarks b := by
  simp [Body.shared, apply_ite clockMarks, ite_self]
@[simp] theorem clockMarks_noteGap (b : Body) : clockMarks (b.noteGap) = clockMarks b := by
  simp [Body.noteGap]
@[simp] theorem clockMarks_gap (stream cause t0 t1 len first last mask : Nat) (b : Body) : clockMarks (b.gap stream cause t0 t1 len first last mask) = clockMarks b := by
  simp [Body.gap, apply_ite clockMarks, ite_self]
@[simp] theorem clockMarks_onDev (d : Nat) (f : Dev → Dev) (b : Body) : clockMarks (b.onDev d f) = clockMarks b := by
  simp [Body.onDev]
@[simp] theorem clockMarks_setDev (d st : Nat) (b : Body) : clockMarks (b.setDev d st) = clockMarks b := by
  simp [Body.setDev]
@[simp] theorem clockMarks_devRec (e : Env) (d kind : Nat) (b : Body) : clockMarks (b.devRec e d kind) = clockMarks b := by
  simp [Body.devRec]
@[simp] theorem clockMarks_submitF (e : Env) (d : Nat) (fua : Bool) (w : DevWork) (lba : Nat) (us : List Nat) (b : Body) : clockMarks (b.submitF e d fua w lba us) = clockMarks b := by
  simp [Body.submitF]
@[simp] theorem clockMarks_submit (e : Env) (d : Nat) (w : DevWork) (lba : Nat) (us : List Nat) (b : Body) : clockMarks (b.submit e d w lba us) = clockMarks b := by
  simp [Body.submit]
@[simp] theorem clockMarks_showOldest (b : Body) : clockMarks (b.showOldest) = clockMarks b := by
  simp [Body.showOldest]
@[simp] theorem clockMarks_sendStripe (e : Env) (d : Nat) (fua : Bool) (x : StripeSpan) (pages : List Nat) (b : Body) : clockMarks (b.sendStripe e d fua x pages) = clockMarks b := by
  simp [Body.sendStripe]
@[simp] theorem clockMarks_poolWrite (e : Env) (d pseq : Nat) (c : Cap) (b : Body) : clockMarks (b.poolWrite e d pseq c) = clockMarks b := by
  have hparts : ∀ (lba : Nat) (l : List (Nat × Nat)) (x : Body × List Nat), clockMarks (l.foldl (fun x p =>
      (x.1.submit e d (.pool c lba pseq) p.1 (x.2.take (256 * p.2)), x.2.drop (256 * p.2))) x).1 = clockMarks x.1 := by
    intro lba l
    induction l with
    | nil => exact fun _ => rfl
    | cons p l ih => intro x; rw [List.foldl_cons, ih, clockMarks_submit]
  unfold Body.poolWrite
  extract_lets lba pages m b1
  simp [b1, hparts]
@[simp] theorem clockMarks_reissue (e : Env) (o : Nat) (c : DevCmd) (b : Body) : clockMarks (b.reissue e o c) = clockMarks b := by
  unfold Body.reissue
  split <;> simp [apply_ite clockMarks, ite_self]
@[simp] theorem clockMarks_dropCmds (e : Env) (d : Nat) (b : Body) : clockMarks (b.dropCmds e d) = clockMarks b := by
  simp [Body.dropCmds]
@[simp] theorem clockMarks_copyEnds (e : Env) (d : Nat) (b : Body) : clockMarks (b.copyEnds e d) = clockMarks b := by
  simp [Body.copyEnds, apply_ite clockMarks, ite_self]
@[simp] theorem clockMarks_endDrop (t1 e1 : Nat) (b : Body) : clockMarks (b.endDrop t1 e1) = clockMarks b := by
  unfold Body.endDrop
  split <;> simp
@[simp] theorem clockMarks_noDevice (d : Nat) (b : Body) : clockMarks (b.noDevice d) = clockMarks b := by
  simp [Body.noDevice]
@[simp] theorem clockMarks_linkLoss (e : Env) (d : Nat) (b : Body) : clockMarks (b.linkLoss e d) = clockMarks b := by
  simp [Body.linkLoss, apply_ite clockMarks, ite_self]
@[simp] theorem clockMarks_basketFail (e : Env) (b : Body) : clockMarks (b.basketFail e) = clockMarks b := by
  simp [Body.basketFail, apply_ite clockMarks, ite_self]

end Sys2Proof.Proofs
end

section
/-!
SUPPORT. Failing clocks (R45, R387, R441), and the stop and the restart of HUB (R44, R480, R567).
-/

namespace Sys2Proof.Proofs

open Sys2Proof Sys2Proof.Machine Sys2Proof.Safety Sys2Proof.Laws

/-! ### Failing clocks -/

theorem exec_clockFail (c : ClockId) (s : State) : exec (.clockFail c) s = .next (s.onBody fun e b => if b.hubDown then b else b.clockFails e c) := rfl
theorem exec_hubClockLoss (s : State) : exec .hubClockLoss s = .next (s.onBody fun e b => b.hubReset e) := rfl
theorem exec_hubRestart (bytes : List Nat) (s : State) : exec (.hubRestart bytes) s =
    .next (s.onBody fun e b => if b.hubDown && !b.health.auxOff then b.hubRestart e bytes else b) := rfl

/-- CLOCK_FAIL is entered, and nothing else of the tables of clocks moves. -/
theorem tbFails_rd (e : Env) (b : Body) (f : Fld) (i : Nat) (hs : f ≠ .tbStatState) (hh : f ≠ .tbHoldsecSec) (hr : f ≠ .tbRateRate) :
    (b.tbFails e).rd f i = b.rd f i := by
  unfold Body.tbFails
  split
  · rfl
  · refine (part_foldl (fun c : Body => c.rd f i) _ (by exact fun _ _ => rfl) (List.range 8) _).trans ?_
    rw [onDisc_rd, rd_wr_fld _ _ _ _ _ _ hr, tbState_rd _ _ _ _ _ hs hh]
    rfl

theorem tbFails_state (e : Env) (b : Body) : (b.tbFails e).rd .tbStatState = 4 := by
  unfold Body.tbFails
  split
  next h => exact h
  · refine (part_foldl (fun c : Body => c.rd .tbStatState 0) _ (by exact fun _ _ => rfl) (List.range 8) _).trans ?_
    rw [onDisc_rd, rd_wr_fld _ _ _ _ _ _ (by decide)]
    exact tbState_enters e (by decide) _

theorem devSt_of_devStates {b c : Body} (h : devStates c = devStates b) {d : Nat} (hd : d < 2) : c.devSt d = b.devSt d := by
  obtain ⟨h0, h1⟩ := Prod.mk.inj h
  obtain rfl | rfl : d = 0 ∨ d = 1 := by omega
  · exact h0
  · exact h1

theorem setDev_devSt (d st : Nat) (hst : st < 2 ^ fieldWidth .recDevstatState) (b : Body) (j : Nat) :
    (b.setDev d st).devSt j = if j = d then st else b.devSt j := by
  have hmedia : (b.setDev d st).devSt j = (b.wr .recDevstatState d st).devSt j := rd_wr_fld _ _ _ _ _ _ (by decide)
  rw [hmedia]
  unfold Body.devSt
  by_cases h : j = d
  · subst h
    rw [if_pos rfl, rd_wr_of_lt _ _ hst]
  · rw [if_neg h, rd_wr_ix _ _ _ _ _ h]

theorem devRec_devSt (e : Env) (d k : Nat) (b : Body) (j : Nat) : (b.devRec e d k).devSt j = b.devSt j := by
  unfold Body.devSt Body.devRec
  exact emit_rd ..

theorem onDev_devSt (d : Nat) (f : Dev → Dev) (b : Body) (j : Nat) : (b.onDev d f).devSt j = b.devSt j := by
  unfold Body.devSt Body.onDev
  exact onRcd_rd ..

theorem copyEnds_devSt (e : Env) (o : Nat) (b : Body) (j : Nat) (hj : j ≠ o ∨ b.devSt o ≠ 5) : (b.copyEnds e o).devSt j = b.devSt j := by
  unfold Body.copyEnds
  split
  next h =>
    have h5 : b.devSt o = 5 := by
      simp only [Bool.and_eq_true, decide_eq_true_eq] at h
      exact h.1.1
    have hne : j ≠ o := hj.resolve_right fun hn => hn h5
    rw [devRec_devSt, setDev_devSt o 4 (by decide), if_neg hne, onDev_devSt]
  · rfl

/-- A device that loses its link is absent; one that is absent stays so. -/
theorem linkLoss_absent (e : Env) {d : Nat} (hd : d < 2) (b : Body) : (b.linkLoss e d).devSt d = 0 ∧
    (b.devSt (1 - d) = 0 → (b.linkLoss e d).devSt (1 - d) = 0) := by
  unfold Body.linkLoss
  split
  next h => exact ⟨h, id⟩
  · dsimp only
    have hne : d ≠ 1 - d := by omega
    generalize hc : ((((b.devRec e d 3).setDev d 0).dropCmds e d).noDevice d).raise (6, 16 + d) = c
    have hstates : devStates c = devStates ((b.devRec e d 3).setDev d 0) := by rw [← hc]; simp
    have hset : ∀ j, j < 2 → c.devSt j = if j = d then 0 else b.devSt j := fun j hj => by
      rw [devSt_of_devStates hstates hj, setDev_devSt d 0 (by decide)]
      rfl
    refine ⟨?_, fun ho => ?_⟩
    · rw [copyEnds_devSt _ _ _ _ (.inl hne), hset d hd, if_pos rfl]
    · have hzero : c.devSt (1 - d) = 0 := by rw [hset _ (by omega), if_neg (Ne.symm hne), ho]
      rw [copyEnds_devSt _ _ _ _ (.inr (by rw [hzero]; decide)), hzero]

theorem basketFail_down (e : Env) (b : Body) : (b.basketFail e).rd .recStatBasketDown = 1 := by
  unfold Body.basketFail
  split
  next h => exact of_decide_eq_true h
  · dsimp only
    rw [raise_rd _ _ _ _ (by decide)]
    exact rd_wr_same _ _ _ _

/-! ### HUB stops and restarts -/

theorem hubReset_leaves (e : Env) {b : Body} (hup : b.hubDown = false) : (b.hubReset e).hubDown = true ∧
    (b.hubReset e).boot.downT = e.now := by
  unfold Body.hubReset
  rw [if_neg (by simp [hup])]
  exact ⟨rfl, rfl⟩

/-- The part of a restart that depends on the role: the ledgers and the image of a module alone, the gates and the partner of one of a pair. -/
def roleRestart (e : Env) (bytes : List Nat) (t0 : Nat) (b : Body) : Body :=
  match b.role with
  | .solo | .bench =>
    let b := (b.rebuild e).gap 1 7 t0 e.count (e.now - b.boot.downT) 0 0 0
    let b := b.forEach (List.range 8) fun k b => if (b.fe k).joined then b.deliverUp e k else b
    let b := if b.role = .solo && b.boot.imaged && b.flashFree then b.reloadImage e bytes else b
    b.bbuSet e (if b.holdup then 1 else 3)
  | .active | .standby | .starting =>
    let b := (((b.setRole e .starting).toHiZ.noPartner.wr .twinStatSeamRun 0 0).wr .twinStatPairAddr 0 0).lowPower e false
    b.onTwin fun t =>
      { t with txT := some e.now, heard := false, hbT := none, seam := none, left := false, synced := false, seamE := none
               heldWrites := [], sent := [], resent := [] }

theorem lockAll_rd (b : Body) : b.lockAll.rd .modClkmonHubRestart 0 = b.rd .modClkmonHubRestart 0 ∧ b.lockAll.rd .modExpertUnlock 0 = 0 := by
  unfold Body.lockAll
  rw [onBoot_rd, onBoot_rd, rd_wr_fld _ _ _ _ _ _ (by decide)]
  exact ⟨rfl, rd_wr_same ..⟩

/-- Up to the role's own part HUB runs, its unlocks are closed, and RECOVERY has begun; the role is as it was. -/
theorem hubRestart_split (e : Env) (bytes : List Nat) (b : Body) : ∃ t0 c, locks c = (false, none) ∧
    restartSide c = (e.now + 10000000000, 1, 0) ∧ roleOf c = roleOf b ∧ b.hubRestart e bytes = roleRestart e bytes t0 c := by
  unfold Body.hubRestart
  extract_lets t0 b1 b2 bud b3 b4 b5 c1 c2 c3 d
  have hmark : b1.rd .modClkmonHubRestart 0 = 1 := by
    unfold b1
    rw [raise_rd _ _ _ _ (by decide)]
    exact rd_wr_same _ _ _ _
  have hup : b1.hubDown = false := (raise_hubDown ..).trans rfl
  have hrole : roleOf b1 = roleOf b := (roleOf_raise ..).trans rfl
  clear_value b1
  have h2 : locks b2 = (false, none) ∧ restartSide b2 = (e.now + 10000000000, 1, 0) ∧ roleOf b2 = roleOf b := by
    unfold b2
    rw [locks_dropCommands, restartSide_dropCommands, roleOf_dropCommands]
    refine ⟨Prod.ext hup rfl, Prod.ext rfl (Prod.ext ?_ (lockAll_rd _).2), (roleOf_lockAll ..).trans ((roleOf_onTmr ..).trans hrole)⟩
    exact (lockAll_rd _).1.trans hmark
  clear_value b2
  have h4 : locks b4 = locks b2 ∧ restartSide b4 = restartSide b2 ∧ roleOf b4 = roleOf b2 := by
    unfold b4 b3 bud
    rw [locks_forEach _ _ _ (by exact fun _ _ => locks_dieFound ..), restartSide_forEach _ _ _ (by exact fun _ _ => restartSide_dieFound ..),
      roleOf_forEach _ _ _ (by exact fun _ _ => roleOf_dieFound ..), locks_event, restartSide_event, roleOf_event]
    exact ⟨rfl, rfl, rfl⟩
  clear_value b4
  have h5 : locks b5 = locks b4 ∧ restartSide b5 = restartSide b4 ∧ roleOf b5 = roleOf b4 := by
    unfold b5
    split
    · rw [locks_onHealth, roleOf_onHealth, show ∀ f c, restartSide (Body.onHealth f c) = restartSide c from fun _ _ => rfl,
        locks_event, restartSide_event, roleOf_event, locks_raise, restartSide_raise, roleOf_raise, locks_bump,
        restartSide_bump _ _ _ (by decide) (by decide), roleOf_bump]
      exact ⟨rfl, rfl, rfl⟩
    · exact ⟨rfl, rfl, rfl⟩
  clear_value b5
  obtain ⟨hl2, hr2, ho2⟩ := h2
  obtain ⟨hl4, hr4, ho4⟩ := h4
  obtain ⟨hl5, hr5, ho5⟩ := h5
  refine ⟨t0, b5, hl5.trans (hl4.trans hl2), hr5.trans (hr4.trans hr2), ho5.trans (ho4.trans ho2), ?_⟩
  unfold roleRestart c3 c2 c1 d
  cases b5.role <;> dsimp only

@[simp] theorem locks_setRole (e : Env) (r : Role) (b : Body) : locks (b.setRole e r) = locks b := by
  simp [Body.setRole, apply_ite locks]

@[simp] theorem restartSide_setRole (e : Env) (r : Role) (b : Body) : restartSide (b.setRole e r) = restartSide b := by
  simp [Body.setRole, apply_ite restartSide]

/-- The role's part leaves the locks. -/
theorem roleRestart_locks (e : Env) (bytes : List Nat) (t0 : Nat) (b : Body) : locks (roleRestart e bytes t0 b) = locks b := by
  unfold roleRestart
  generalize List.range 8 = l
  cases b.role with
  | solo | bench => simp [apply_ite locks]
  | active | standby | starting => simp

theorem roleRestart_solo (e : Env) (bytes : List Nat) (t0 : Nat) {b : Body} (h : b.role = .solo) :
    roleOf (roleRestart e bytes t0 b) = .solo := by
  unfold roleRestart
  generalize List.range 8 = l
  rw [h]
  simp [apply_ite roleOf]
  exact h

theorem rd_foldl_wr_same (l : List Nat) (f : Fld) (v : Nat) (b : Body) (g : Fld) (j : Nat) (h : g ≠ f) :
    (b.forEach l fun i b => b.wr f i v).rd g j = b.rd g j :=
  part_foldl (fun c : Body => c.rd g j) _ (fun _ _ => rd_wr_fld _ _ _ _ _ _ h) l b

theorem noPartner_rd (b : Body) : b.noPartner.rd .twinStatHbOk 0 = 0 ∧ b.noPartner.rd .twinStatPartnerRole 0 = 15 := by
  unfold Body.noPartner
  generalize List.range 4 = l
  dsimp only
  rw [rd_foldl_wr_same _ _ _ _ _ _ (by decide), rd_foldl_wr_same _ _ _ _ _ _ (by decide)]
  refine ⟨?_, ?_⟩
  · rw [rd_wr_fld _ _ _ _ _ _ (by decide), rd_wr_fld _ _ _ _ _ _ (by decide)]
    exact rd_wr_same ..
  · rw [rd_wr_fld _ _ _ _ _ _ (by decide)]
    exact rd_wr_same ..

/-- Every channel below 128 has its turn in a fold over the engines. -/
theorem en_forEach_all (f : Eng → Eng) (b : Body) (n : Nat) : ((b.forEach (List.range 128) fun m b => b.onEng m f).en n) = f (b.en n) := by
  have h := en_forEach_onEng (fun _ => f) (l := List.range 128) (fun m hm => List.mem_range.1 hm) List.nodup_range b
    (n := n % 128) (Nat.mod_lt _ (by decide))
  rw [if_pos (List.mem_range.2 (Nat.mod_lt _ (by decide)))] at h
  rw [en_congr _ (show n % 128 = n % 128 % 128 by omega), h, en_congr b (show n % 128 % 128 = n % 128 by omega)]

/-- Every driver is high-impedance. -/
theorem toHiZ_gate (b : Body) (n : Nat) : ((b.toHiZ).en n).gate = .hiZ := by
  unfold Body.toHiZ
  dsimp only
  rw [en_forEach_all]

theorem toHiZ_rd (b : Body) (f : Fld) (i : Nat) : b.toHiZ.rd f i = b.rd f i := by
  unfold Body.toHiZ
  generalize List.range 8 = l
  generalize List.range 128 = m
  exact (part_foldl (fun c : Body => c.rd f i) _ (by exact fun _ _ => rfl) m _).trans
    (part_foldl (fun c : Body => c.rd f i) _ (by exact fun _ _ => rfl) l b)

theorem toHiZ_role (b : Body) : b.toHiZ.role = b.role := roleOf_toHiZ b

theorem noPartner_eng (b : Body) : b.noPartner.eng = b.eng := by
  unfold Body.noPartner
  generalize List.range 4 = l
  exact (part_foldl Body.eng _ (by exact fun _ _ => rfl) l _).trans rfl

/-- The role, the gates and the partner's words of a module that starts again. -/
theorem aloneAgain (e : Env) (b : Body) :
    let c := (((b.setRole e .starting).toHiZ.noPartner.wr .twinStatSeamRun 0 0).wr .twinStatPairAddr 0 0).lowPower e false
    c.role = .starting ∧ restartSide c = restartSide b ∧ c.rd .twinStatPairAddr 0 = 0 ∧ c.rd .twinStatHbOk 0 = 0 ∧
      c.rd .twinStatPartnerRole 0 = 15 ∧ c.rd .twinStatSeamRun 0 = 0 ∧ ∀ n, (c.en n).gate = .hiZ := by
  have hrole : roleOf (b.setRole e .starting) = .starting := roleOf_setRole ..
  obtain ⟨hhb, hpr⟩ := noPartner_rd (b.setRole e .starting).toHiZ
  have hgate := toHiZ_gate (b.setRole e .starting)
  have hside := restartSide_setRole e .starting b
  generalize b.setRole e .starting = d at hrole hhb hpr hgate hside
  have heng := noPartner_eng d.toHiZ
  have hrole' : roleOf d.toHiZ.noPartner = .starting := by rw [roleOf_noPartner, roleOf_toHiZ, hrole]
  have hside' : restartSide d.toHiZ.noPartner = restartSide b := by rw [restartSide_noPartner, restartSide_toHiZ, hside]
  have hgate' : ∀ n, (d.toHiZ.noPartner.en n).gate = .hiZ := fun n => by rw [Body.en, heng]; exact hgate n
  generalize d.toHiZ.noPartner = x at *
  intro c
  have hlow : ∀ f i, c.rd f i = ((x.wr .twinStatSeamRun 0 0).wr .twinStatPairAddr 0 0).rd f i := fun f i =>
    lowPower_part (fun c => c.rd f i) (fun _ _ => rfl) ..
  refine ⟨?_, ?_, ?_, ?_, ?_, ?_, fun n => ?_⟩
  · exact (roleOf_lowPower ..).trans ((roleOf_wr ..).trans ((roleOf_wr ..).trans hrole'))
  · exact (restartSide_lowPower ..).trans ((restartSide_wr _ _ _ _ (by decide) (by decide)).trans
      ((restartSide_wr _ _ _ _ (by decide) (by decide)).trans hside'))
  · rw [hlow]
    exact rd_wr_same ..
  · rw [hlow, rd_wr_fld _ _ _ _ _ _ (by decide), rd_wr_fld _ _ _ _ _ _ (by decide), hhb]
  · rw [hlow, rd_wr_fld _ _ _ _ _ _ (by decide), rd_wr_fld _ _ _ _ _ _ (by decide), hpr]
  · rw [hlow, rd_wr_fld _ _ _ _ _ _ (by decide)]
    exact rd_wr_same ..
  · exact (lowPower_part (fun c => (c.en n).gate) (fun _ _ => rfl) ..).trans (hgate' n)

/-- A module of a pair starts again: no partner is heard, its count goes out at once, its gates are high-impedance. -/
theorem roleRestart_pair (e : Env) (bytes : List Nat) (t0 : Nat) {b : Body} (h : b.role = .active ∨ b.role = .standby ∨ b.role = .starting) :
    let c := roleRestart e bytes t0 b
    c.role = .starting ∧ c.twin.txT = some e.now ∧ c.twin.heard = false ∧ restartSide c = restartSide b ∧ c.rd .twinStatPairAddr 0 = 0 ∧
      c.rd .twinStatHbOk 0 = 0 ∧ c.rd .twinStatPartnerRole 0 = 15 ∧ c.rd .twinStatSeamRun 0 = 0 ∧ ∀ n, (c.en n).gate = .hiZ := by
  intro c
  have hc : c = ((((b.setRole e .starting).toHiZ.noPartner.wr .twinStatSeamRun 0 0).wr .twinStatPairAddr 0 0).lowPower e false).onTwin fun t =>
      { t with txT := some e.now, heard := false, hbT := none, seam := none, left := false, synced := false, seamE := none
               heldWrites := [], sent := [], resent := [] } := by
    unfold c roleRestart
    rcases h with h | h | h <;> rw [h]
  clear_value c
  rw [hc]
  obtain ⟨hrole, hside, hpair, hhb, hpr, hseam, hgate⟩ := aloneAgain e b
  generalize (((b.setRole e .starting).toHiZ.noPartner.wr .twinStatSeamRun 0 0).wr .twinStatPairAddr 0 0).lowPower e false = d at *
  exact ⟨hrole, rfl, rfl, hside, hpair, hhb, hpr, hseam, hgate⟩

/-- Settles O47. -/
theorem clocksAndHub : Obligations.ClocksAndHub := by
  refine ⟨fun s hhub => ⟨?_, ?_, ?_⟩, fun s => ⟨fun hup => ?_, fun hdown => ?_, fun hdown haux bytes => ⟨?_, fun hrole => ?_, fun hrole => ?_⟩⟩⟩
  · refine runs_onBody (exec_clockFail .tb s) ?_
    rw [onBody_body, settle_rd _ _ .modClkmonTbFail _ rfl, settle_rd _ _ .tbStatState _ rfl, if_neg (by simp [hhub])]
    unfold Body.clockFails
    dsimp only
    refine ⟨?_, tbFails_state ..⟩
    rw [tbFails_rd _ _ _ _ (by decide) (by decide) (by decide), event_rd, raise_rd _ _ _ _ (by decide)]
    exact rd_wr_same ..
  · refine runs_onBody (exec_clockFail .pcie s) ?_
    have hst : ∀ d, (s.onBody fun e b => if b.hubDown then b else b.clockFails e .pcie).body.devSt d =
        (s.body.clockFails s.env .pcie).devSt d := fun d => by
      unfold Body.devSt
      rw [onBody_body, settle_rd _ _ .recDevstatState _ rfl, if_neg (by simp [hhub])]
    rw [hst, hst, onBody_body, settle_rd _ _ .modClkmonPcieFail _ rfl, if_neg (by simp [hhub])]
    have hmark : ∀ c : Body, ((c.linkLoss s.env 0).linkLoss s.env 1).rd .modClkmonPcieFail 0 = c.rd .modClkmonPcieFail 0 := fun c =>
      (Prod.mk.inj ((clockMarks_linkLoss s.env 1 _).trans (clockMarks_linkLoss s.env 0 c))).1
    obtain ⟨habsent, -⟩ : _ ∧ _ := linkLoss_absent s.env (d := 0) (by decide)
      (((s.body.wr .modClkmonPcieFail 0 1).raise (6, 4)).event s.env.count 0x0109 0xFF ((s.body.wr .modClkmonPcieFail 0 1).raise (6, 4)).clkmon 0 0)
    unfold Body.clockFails
    dsimp only
    refine ⟨?_, (linkLoss_absent s.env (d := 1) (by decide) _).2 habsent, (linkLoss_absent s.env (d := 1) (by decide) _).1⟩
    rw [hmark, event_rd, raise_rd _ _ _ _ (by decide)]
    exact rd_wr_same ..
  · refine runs_onBody (exec_clockFail .basket s) ?_
    rw [onBody_body, settle_rd _ _ .modClkmonBasketFail _ rfl, settle_rd _ _ .recStatBasketDown _ rfl, if_neg (by simp [hhub])]
    unfold Body.clockFails
    dsimp only
    refine ⟨?_, basketFail_down ..⟩
    rw [(Prod.mk.inj (clockMarks_basketFail s.env _)).2, event_rd]
    exact rd_wr_same ..
  · refine runs_onBody (exec_hubClockLoss s) ?_
    obtain ⟨hdown, hT⟩ := hubReset_leaves s.env hup
    rw [onBody_body, settle_hubDown, settle_boot, settle_role]
    exact ⟨hdown, hT, settle_hubDown_ends _ _ hdown, roleOf_hubReset ..⟩
  · exact becomes_onBody (exec_hubClockLoss s) (if_pos hdown)
  · obtain ⟨t0, c, hlocks, -, -, heq⟩ := hubRestart_split s.env bytes s.body
    refine runs_onBody (exec_hubRestart bytes s) ?_
    rw [onBody_body, if_pos (by simp [hdown, haux]), heq, settle_hubDown, settle_boot]
    have h := (roleRestart_locks s.env bytes t0 c).trans hlocks
    exact ⟨(Prod.mk.inj h).1, (Prod.mk.inj h).2⟩
  · obtain ⟨t0, c, hlocks, hside, hro, heq⟩ := hubRestart_split s.env bytes s.body
    have hrole' : c.role = .active ∨ c.role = .standby ∨ c.role = .starting := by
      rw [show c.role = s.body.role from hro]
      exact hrole
    obtain ⟨hr, htx, hheard, hside', hpair, hhb, hpr, hseam, hgate⟩ := roleRestart_pair s.env bytes t0 hrole'
    obtain ⟨hrec, hmark, hlock⟩ : _ ∧ _ ∧ _ := by
      have h := hside'.trans hside
      exact ⟨(Prod.mk.inj h).1, (Prod.mk.inj (Prod.mk.inj h).2).1, (Prod.mk.inj (Prod.mk.inj h).2).2⟩
    refine runs_onBody (exec_hubRestart bytes s) ?_
    rw [onBody_body, if_pos (by simp [hdown, haux]), heq]
    generalize roleRestart s.env bytes t0 c = d at *
    have hrd : ∀ f i, isTree f = false → (d.settle s.env).rd f i = d.rd f i := fun f i hf => settle_rd _ _ f i hf
    refine ⟨(settle_role ..).trans hr, by rw [settle_twin, htx]; rfl, by rw [settle_twin, hheard], ?_, ?_, ?_, ?_, ?_, ?_, ?_, fun n => ?_⟩
    · rw [hrd _ _ rfl, hmark]
    · rw [hrd _ _ rfl, hlock]
    · rw [hrd _ _ rfl, hpair]
    · rw [hrd _ _ rfl, hhb]
    · rw [hrd _ _ rfl, hpr]
    · rw [hrd _ _ rfl, hseam]
    · rw [settle_tmr, hrec]
      rfl
    · rw [settle_en, hgate]
  · obtain ⟨t0, c, -, -, hro, heq⟩ := hubRestart_split s.env bytes s.body
    refine runs_onBody (exec_hubRestart bytes s) ?_
    rw [onBody_body, if_pos (by simp [hdown, haux]), heq, settle_role]
    exact roleRestart_solo s.env bytes t0 ((show c.role = s.body.role from hro).trans hrole)

end Sys2Proof.Proofs
end

section
/-!
SUPPORT. What the work of a module leaves of the resets of its dies (R45, R471, R472).
-/

namespace Sys2Proof.Proofs

open Sys2Proof Sys2Proof.Machine Sys2Proof.Safety Sys2Proof.Laws

/-- Whether a die has joined, whether it keeps its gates, and since when it is in reset and stuck. -/
def dieState (d : Die) : Bool × Bool × Option Nat × Option Nat := (d.joined, d.keep, d.resetT, d.stuckT)

/-- Of each die whether it has joined, whether it keeps its gates, and its reset; and the marks of the resets. -/
def dieSide (b : Body) : (Nat → Bool × Bool × Option Nat × Option Nat) × (Nat → Nat) × (Nat → Nat) := (fun k => dieState (b.fe k), fun k => b.rd .twinDieDown k, fun k => b.rd .twinDieEpoch k)

/-- Each turn of a fold leaves it. -/
def DieSideKept {α : Type} (f : Body → α → Body) : Prop := ∀ b a, dieSide (f b a) = dieSide b

@[simp] theorem dieSideKept_iff {α : Type} (f : Body → α → Body) : DieSideKept f ↔ ∀ b a, dieSide (f b a) = dieSide b := .rfl

@[simp] theorem dieSide_foldl {α : Type} (f : Body → α → Body) (l : List α) (b : Body) (hf : DieSideKept f) : dieSide (l.foldl f b) = dieSide b :=
  part_foldl dieSide f hf l b

@[simp] theorem dieSide_forEach (b : Body) (l : List Nat) (f : Nat → Body → Body) (hf : DieSideKept fun b n => f n b) :
    dieSide (b.forEach l f) = dieSide b :=
  part_foldl dieSide _ hf l b

@[simp] theorem dieSide_set_role (b : Body) (x : Role) : dieSide { b with role := x } = dieSide b := (rfl)
@[simp] theorem dieSide_set_chan (b : Body) (x : Vector Chan 128) : dieSide { b with chan := x } = dieSide b := (rfl)
@[simp] theorem dieSide_set_eng (b : Body) (x : Vector Eng 128) : dieSide { b with eng := x } = dieSide b := (rfl)
@[simp] theorem dieSide_set_bud (b : Body) (x : Budget) : dieSide { b with bud := x } = dieSide b := (rfl)
@[simp] theorem dieSide_set_rcd (b : Body) (x : Recorder) : dieSide { b with rcd := x } = dieSide b := (rfl)
@[simp] theorem dieSide_set_mtr (b : Body) (x : Meter) : dieSide { b with mtr := x } = dieSide b := (rfl)
@[simp] theorem dieSide_set_disc (b : Body) (x : Disc) : dieSide { b with disc := x } = dieSide b := (rfl)
@[simp] theorem dieSide_set_tmr (b : Body) (x : Timers) : dieSide { b with tmr := x } = dieSide b := (rfl)
@[simp] theorem dieSide_set_health (b : Body) (x : Health) : dieSide { b with health := x } = dieSide b := (rfl)
@[simp] theorem dieSide_set_fdr (b : Body) (x : FeederPort) : dieSide { b with fdr := x } = dieSide b := (rfl)
@[simp] theorem dieSide_set_twin (b : Body) (x : Twin) : dieSide { b with twin := x } = dieSide b := (rfl)
@[simp] theorem dieSide_set_boot (b : Body) (x : Boot) : dieSide { b with boot := x } = dieSide b := (rfl)
@[simp] theorem dieSide_set_hp (b : Body) (x : Vector HostPort 2) : dieSide { b with hp := x } = dieSide b := (rfl)
@[simp] theorem dieSide_set_gainDue (b : Body) (x : List Nat) : dieSide { b with gainDue := x } = dieSide b := (rfl)
@[simp] theorem dieSide_set_dozeReq (b : Body) (x : Option Nat) : dieSide { b with dozeReq := x } = dieSide b := (rfl)
@[simp] theorem dieSide_set_trendWords (b : Body) (x : List (Nat × Nat)) : dieSide { b with trendWords := x } = dieSide b := (rfl)
@[simp] theorem dieSide_set_alertLow (b : Body) (x : Bool) : dieSide { b with alertLow := x } = dieSide b := (rfl)
@[simp] theorem dieSide_set_alertHold (b : Body) (x : Bool) : dieSide { b with alertHold := x } = dieSide b := (rfl)
@[simp] theorem dieSide_set_hubDown (b : Body) (x : Bool) : dieSide { b with hubDown := x } = dieSide b := (rfl)
@[simp] theorem dieSide_set_doze (b : Body) (x : Bool) : dieSide { b with doze := x } = dieSide b := (rfl)
@[simp] theorem dieSide_set_dozeLeaves (b : Body) (x : List (Nat × Nat)) : dieSide { b with dozeLeaves := x } = dieSide b := (rfl)
@[simp] theorem dieSide_set_reply (b : Body) (x : List Nat) : dieSide { b with reply := x } = dieSide b := (rfl)
@[simp] theorem dieSide_set_freeIx (b : Body) (x : Nat) : dieSide { b with freeIx := x } = dieSide b := (rfl)
@[simp] theorem dieSide_onCh (b : Body) (n : Nat) (f : Chan → Chan) : dieSide (b.onCh n f) = dieSide b := (rfl)
@[simp] theorem dieSide_onEng (b : Body) (n : Nat) (f : Eng → Eng) : dieSide (b.onEng n f) = dieSide b := (rfl)
@[simp] theorem dieSide_wr (b : Body) (f : Fld) (i v : Nat) (h0 : f ≠ .twinDieDown) (h1 : f ≠ .twinDieEpoch) : dieSide (b.wr f i v) = dieSide b := by
  unfold dieSide
  simp only [rd_wr_fld _ _ _ _ _ _ h0.symm, rd_wr_fld _ _ _ _ _ _ h1.symm]; rfl
@[simp] theorem dieSide_bump (b : Body) (f : Fld) (i : Nat) (h0 : f ≠ .twinDieDown) (h1 : f ≠ .twinDieEpoch) : dieSide (b.bump f i) = dieSide b := dieSide_wr _ _ _ _ h0 h1
@[simp] theorem dieSide_onRcd (f : Recorder → Recorder) (b : Body) : dieSide (b.onRcd f) = dieSide b := (rfl)
@[simp] theorem dieSide_onMtr (f : Meter → Meter) (b : Body) : dieSide (b.onMtr f) = dieSide b := (rfl)
@[simp] theorem dieSide_onTwin (f : Twin → Twin) (b : Body) : dieSide (b.onTwin f) = dieSide b := (rfl)

/-- A change of a die that leaves whether it has joined, whether it keeps its gates, and its reset. -/
def DieSame (f : Die → Die) : Prop := ∀ d, (f d).joined = d.joined ∧ (f d).keep = d.keep ∧ (f d).resetT = d.resetT ∧ (f d).stuckT = d.stuckT

@[simp] theorem dieSame_iff (f : Die → Die) :
    DieSame f ↔ ∀ d, (f d).joined = d.joined ∧ (f d).keep = d.keep ∧ (f d).resetT = d.resetT ∧ (f d).stuckT = d.stuckT := .rfl

@[simp] theorem dieSide_onDie (b : Body) (j : Nat) (f : Die → Die) (h : DieSame f) : dieSide (b.onDie j f) = dieSide b := by
  have hone : ∀ k, dieState ((b.onDie j f).fe k) = dieState (b.fe k) := fun k => by
    rw [fe_onDie]
    split
    next hk =>
      obtain ⟨h1, h2, h3, h4⟩ := h (b.fe j)
      unfold dieState
      rw [h1, h2, h3, h4, fe_congr b hk]
    · rfl
  unfold dieSide
  simp only [hone]
  rfl

@[simp] theorem dieSide_dwr (b : Body) (j : Nat) (f : Fld) (i v : Nat) : dieSide (b.dwr j f i v) = dieSide b :=
  dieSide_onDie _ _ _ fun _ => ⟨rfl, rfl, rfl, rfl⟩

theorem dieSide_of_still {b c : Body} (hs : still c = still b) : dieSide c = dieSide b := by
  have hrd : ∀ f, ofEvent f = false → ∀ i, c.rd f i = b.rd f i := fun f hf i => by
    have h : (still c).rd f i = (still b).rd f i := by rw [hs]
    unfold still at h
    simpa [hf] using h
  have hdie : ∀ k, dieState (c.fe k) = dieState (b.fe k) := fun k => congrArg (fun x : Still => dieState (x.die k)) hs
  unfold dieSide
  simp only [hdie, hrd _ (show ofEvent .twinDieDown = false from rfl), hrd _ (show ofEvent .twinDieEpoch = false from rfl)]

@[simp] theorem dieSide_raise (l : Leaf) (b : Body) : dieSide (b.raise l) = dieSide b := by
  simp [Body.raise, apply_ite dieSide, ite_self]
@[simp] theorem dieSide_raiseCh1 (n : Nat) (l : ChLeaf) (b : Body) : dieSide (b.raiseCh1 n l) = dieSide b := dieSide_of_still (still_raiseCh1 ..)
@[simp] theorem dieSide_raiseCh (n : Nat) (l : ChLeaf) (b : Body) : dieSide (b.raiseCh n l) = dieSide b := dieSide_of_still (still_raiseCh ..)
@[simp] theorem dieSide_emit (r : LRec) (b : Body) : dieSide (b.emit r) = dieSide b := dieSide_of_still (still_emit ..)
@[simp] theorem dieSide_sendBluli (kind : Nat) (content : List Nat) (b : Body) : dieSide (b.sendBluli kind content) = dieSide b := dieSide_of_still (still_sendBluli ..)
@[simp] theorem dieSide_shared (r : LRec) (b : Body) : dieSide (b.shared r) = dieSide b := dieSide_of_still (still_shared ..)
@[simp] theorem dieSide_event (time code chan arg0 arg1 arg2 : Nat) (b : Body) : dieSide (b.event time code chan arg0 arg1 arg2) = dieSide b := dieSide_of_still (still_event ..)
@[simp] theorem dieSide_framed (k : Nat) (up : Bool) (fs : List (Nat × List Nat)) (b : Body) : dieSide (b.framed k up fs) = dieSide b := by
  have hone : ∀ j, dieState ((b.framed k up fs).fe j) = dieState (b.fe j) := fun j =>
    fe_framed _ _ _ _ dieState (fun d e f => by unfold Die.frame; split <;> rfl) j
  unfold dieSide
  simp only [hone]
  rfl
@[simp] theorem dieSide_sendDown (k : Nat) (m : DownMsg) (b : Body) : dieSide (b.sendDown k m) = dieSide b := dieSide_onDie _ _ _ fun _ => ⟨rfl, rfl, rfl, rfl⟩
@[simp] theorem dieSide_formPlan (e : Env) (b : Body) : dieSide (b.formPlan e) = dieSide b := dieSide_of_still (still_formPlan ..)
@[simp] theorem dieSide_loadLadder (k : Nat) (b : Body) : dieSide (b.loadLadder k) = dieSide b := by
  simp [Body.loadLadder]
@[simp] theorem dieSide_span (time kind edge mask : Nat) (b : Body) : dieSide (b.span time kind edge mask) = dieSide b := dieSide_of_still (still_span ..)
@[simp] theorem dieSide_calFail (e : Env) (code ch : Nat) (b : Body) : dieSide (b.calFail e code ch) = dieSide b := by
  simp [Body.calFail, apply_ite dieSide, ite_self]
@[simp] theorem dieSide_calInterrupt (e : Env) (b : Body) : dieSide (b.calInterrupt e) = dieSide b := by
  unfold Body.calInterrupt
  split <;> simp [apply_ite dieSide, ite_self]
@[simp] theorem dieSide_onPath (n : Nat) (f : MPath → MPath) (b : Body) : dieSide (b.onPath n f) = dieSide b := (rfl)
@[simp] theorem dieSide_onUrg (k : Nat) (f : Urgent → Urgent) (b : Body) : dieSide (b.onUrg k f) = dieSide b := dieSide_onDie _ _ _ fun _ => ⟨rfl, rfl, rfl, rfl⟩
@[simp] theorem dieSide_startCap (e : Env) (k : Nat) (b : Body) : dieSide (b.startCap e k) = dieSide b := dieSide_of_still (still_startCap ..)
@[simp] theorem dieSide_onVisit (k : Nat) (cvb : Bool) (f : VisitRun → VisitRun) (b : Body) : dieSide (b.onVisit k cvb f) = dieSide b := by
  refine dieSide_onDie _ _ _ fun d => ?_
  split <;> exact ⟨rfl, rfl, rfl, rfl⟩
@[simp] theorem dieSide_visitsPause (e : Env) (k : Nat) (b : Body) : dieSide (b.visitsPause e k) = dieSide b := dieSide_of_still (still_visitsPause ..)
@[simp] theorem dieSide_visitsFollow (e : Env) (k : Nat) (b : Body) : dieSide (b.visitsFollow e k) = dieSide b := by
  simp [Body.visitsFollow]
@[simp] theorem dieSide_emptyScan (e : Env) (k : Nat) (b : Body) : dieSide (b.emptyScan e k) = dieSide b := dieSide_of_still (still_emptyScan ..)
@[simp] theorem dieSide_urgentStart (e : Env) (k : Nat) (b : Body) : dieSide (b.urgentStart e k) = dieSide b := dieSide_of_still (still_urgentStart ..)
@[simp] theorem dieSide_capture (e : Env) (k src unit : Nat) (b : Body) : dieSide (b.capture e k src unit) = dieSide b := dieSide_of_still (still_capture ..)
@[simp] theorem dieSide_capTrigger (e : Env) (k src unit : Nat) (b : Body) : dieSide (b.capTrigger e k src unit) = dieSide b := dieSide_of_still (still_capTrigger ..)
@[simp] theorem dieSide_capTriggerAll (e : Env) (k src unit : Nat) (b : Body) : dieSide (b.capTriggerAll e k src unit) = dieSide b := dieSide_of_still (still_capTriggerAll ..)
@[simp] theorem dieSide_dropMeas (n : Nat) (b : Body) : dieSide (b.dropMeas n) = dieSide b := dieSide_of_still (still_dropMeas ..)
@[simp] theorem dieSide_endCap (n : Nat) (b : Body) : dieSide (b.endCap n) = dieSide b := dieSide_of_still (still_endCap ..)
@[simp] theorem dieSide_cutWide (k : Nat) (b : Body) : dieSide (b.cutWide k) = dieSide b := dieSide_of_still (still_cutWide ..)
@[simp] theorem dieSide_latchDie (e : Env) (n : Nat) (b : Body) : dieSide (b.latchDie e n) = dieSide b := dieSide_of_still (still_latchDie ..)
@[simp] theorem dieSide_landFields (k : Nat) (b : Body) : dieSide (b.landFields k) = dieSide b := dieSide_of_still (still_landFields ..)
@[simp] theorem dieSide_grantDie (e : Env) (n : Nat) (b : Body) : dieSide (b.grantDie e n) = dieSide b := dieSide_of_still (still_grantDie ..)
@[simp] theorem dieSide_stateDie (e : Env) (n : Nat) (old new : ChState) (b : Body) : dieSide (b.stateDie e n old new) = dieSide b := dieSide_of_still (still_stateDie ..)
@[simp] theorem dieSide_releaseDie (n : Nat) (prior : ChState) (b : Body) : dieSide (b.releaseDie n prior) = dieSide b := dieSide_of_still (still_releaseDie ..)
@[simp] theorem dieSide_actDie (e : Env) (m : DownMsg) (b : Body) : dieSide (b.actDie e m) = dieSide b := dieSide_of_still (still_actDie ..)
@[simp] theorem dieSide_tell (e : Env) (k : Nat) (m : DownMsg) (b : Body) : dieSide (b.tell e k m) = dieSide b := dieSide_of_still (still_tell ..)
@[simp] theorem dieSide_enter (e : Env) (n : Nat) (st : ChState) (reason : Nat) (b : Body) : dieSide (b.enter e n st reason) = dieSide b := dieSide_of_still (still_enter ..)
@[simp] theorem dieSide_setReason (n reason : Nat) (b : Body) : dieSide (b.setReason n reason) = dieSide b := dieSide_of_still (still_setReason ..)
@[simp] theorem dieSide_writeTrip (e : Env) (n reason t : Nat) (b : Body) : dieSide (b.writeTrip e n reason t) = dieSide b := dieSide_of_still (still_writeTrip ..)
@[simp] theorem dieSide_applyTrip (e : Env) (n reason t : Nat) (b : Body) : dieSide (b.applyTrip e n reason t) = dieSide b := dieSide_of_still (still_applyTrip ..)
@[simp] theorem dieSide_applyShort (e : Env) (n t : Nat) (b : Body) : dieSide (b.applyShort e n t) = dieSide b := dieSide_of_still (still_applyShort ..)
@[simp] theorem dieSide_yieldTo (e : Env) (n broken favoured : Nat) (new : ChState) (b : Body) : dieSide (b.yieldTo e n broken favoured new) = dieSide b := dieSide_of_still (still_yieldTo ..)
@[simp] theorem dieSide_refuse (e : Env) (n reason : Nat) (b : Body) : dieSide (b.refuse e n reason) = dieSide b := dieSide_of_still (still_refuse ..)
@[simp] theorem dieSide_shed (e : Env) (n reason : Nat) (b : Body) : dieSide (b.shed e n reason) = dieSide b := dieSide_of_still (still_shed ..)
@[simp] theorem dieSide_enqueue (e : Env) (n : Nat) (b : Body) : dieSide (b.enqueue e n) = dieSide b := dieSide_of_still (still_enqueue ..)
@[simp] theorem dieSide_trySeat (e : Env) (n : Nat) (b : Body) : dieSide (b.trySeat e n) = dieSide b := dieSide_of_still (still_trySeat ..)
@[simp] theorem dieSide_stampSeat (e : Env) (n t : Nat) (b : Body) : dieSide (b.stampSeat e n t) = dieSide b := dieSide_of_still (still_stampSeat ..)
@[simp] theorem dieSide_grant (e : Env) (n : Nat) (b : Body) : dieSide (b.grant e n) = dieSide b := dieSide_of_still (still_grant ..)
@[simp] theorem dieSide_enOn (e : Env) (n : Nat) (b : Body) : dieSide (b.enOn e n) = dieSide b := dieSide_of_still (still_enOn ..)
@[simp] theorem dieSide_cleared (e : Env) (n cause : Nat) (b : Body) : dieSide (b.cleared e n cause) = dieSide b := dieSide_of_still (still_cleared ..)
@[simp] theorem dieSide_aqQualified (e : Env) (n : Nat) (b : Body) : dieSide (b.aqQualified e n) = dieSide b := dieSide_of_still (still_aqQualified ..)
@[simp] theorem dieSide_aqAtQual (e : Env) (n : Nat) (b : Body) : dieSide (b.aqAtQual e n) = dieSide b := dieSide_of_still (still_aqAtQual ..)
@[simp] theorem dieSide_startAq (n t : Nat) (b : Body) : dieSide (b.startAq n t) = dieSide b := dieSide_of_still (still_startAq ..)
@[simp] theorem dieSide_stopSeat (n : Nat) (b : Body) : dieSide (b.stopSeat n) = dieSide b := dieSide_of_still (still_stopSeat ..)
@[simp] theorem dieSide_benchIn (e : Env) (n : Nat) (b : Body) : dieSide (b.benchIn e n) = dieSide b := dieSide_of_still (still_benchIn ..)
@[simp] theorem dieSide_restored (e : Env) (n : Nat) (st : ChState) (b : Body) : dieSide (b.restored e n st) = dieSide b := dieSide_of_still (still_restored ..)
@[simp] theorem dieSide_imageOk (e : Env) (n : Nat) (b : Body) : dieSide (b.imageOk e n) = dieSide b := dieSide_of_still (still_imageOk ..)
@[simp] theorem dieSide_applyEv (e : Env) (n : Nat) (ev : Ev) (t : Nat) (b : Body) : dieSide (b.applyEv e n ev t) = dieSide b := dieSide_of_still (still_applyEv ..)
@[simp] theorem dieSide_releaseHold (e : Env) (n : Nat) (b : Body) : dieSide (b.releaseHold e n) = dieSide b := dieSide_of_still (still_releaseHold ..)
@[simp] theorem dieSide_releaseOne (e : Env) (n r : Nat) (b : Body) : dieSide (b.releaseOne e n r) = dieSide b := dieSide_of_still (still_releaseOne ..)
@[simp] theorem dieSide_breakHold (e : Env) (n : Nat) (ev : Ev) (t : Nat) (b : Body) : dieSide (b.breakHold e n ev t) = dieSide b := dieSide_of_still (still_breakHold ..)
@[simp] theorem dieSide_deliver (e : Env) (n : Nat) (ev : Ev) (t : Nat) (b : Body) : dieSide (b.deliver e n ev t) = dieSide b := dieSide_of_still (still_deliver ..)
@[simp] theorem dieSide_report (e : Env) (n : Nat) (ev : Ev) (t : Nat) (b : Body) : dieSide (b.report e n ev t) = dieSide b := by
  simp [Body.report, apply_ite dieSide, ite_self]
@[simp] theorem dieSide_freshOutMin (n : Nat) (b : Body) : dieSide (b.freshOutMin n) = dieSide b := by
  simp [Body.freshOutMin]
@[simp] theorem dieSide_seatLost (e : Env) (n : Nat) (b : Body) : dieSide (b.seatLost e n) = dieSide b := by
  simp [Body.seatLost, apply_ite dieSide, ite_self]
@[simp] theorem dieSide_trFire (e : Env) (k idx : Nat) (b : Body) : dieSide (b.trFire e k idx) = dieSide b := by
  simp [Body.trFire, apply_ite dieSide, ite_self]
@[simp] theorem dieSide_trArm (k : Nat) (b : Body) : dieSide (b.trArm k) = dieSide b := by
  simp [Body.trArm]
@[simp] theorem dieSide_trForceNow (e : Env) (k : Nat) (b : Body) : dieSide (b.trForceNow e k) = dieSide b := by
  simp [Body.trForceNow, apply_ite dieSide, ite_self]
@[simp] theorem dieSide_onFu (k u : Nat) (f : FuState → FuState) (b : Body) : dieSide (b.onFu k u f) = dieSide b := dieSide_onDie _ _ _ fun _ => ⟨rfl, rfl, rfl, rfl⟩
@[simp] theorem dieSide_disturb (k u : Nat) (b : Body) : dieSide (b.disturb k u) = dieSide b := by
  simp [Body.disturb]
@[simp] theorem dieSide_disturbAll (k : Nat) (b : Body) : dieSide (b.disturbAll k) = dieSide b := by
  simp [Body.disturbAll]
@[simp] theorem dieSide_convRequest (e : Env) (k : Nat) (b : Body) : dieSide (b.convRequest e k) = dieSide b := by
  simp [Body.convRequest, apply_ite dieSide, ite_self]
@[simp] theorem dieSide_capAbort (k : Nat) (b : Body) : dieSide (b.capAbort k) = dieSide b := by
  simp [Body.capAbort, apply_ite dieSide, ite_self]
@[simp] theorem dieSide_seamStart (e : Env) (cause : Nat) (b : Body) : dieSide (b.seamStart e cause) = dieSide b := by
  simp [Body.seamStart, apply_ite dieSide, ite_self]
@[simp] theorem dieSide_seamRequest (e : Env) (cause : Nat) (b : Body) : dieSide (b.seamRequest e cause) = dieSide b := by
  simp [Body.seamRequest, apply_ite dieSide, ite_self]
@[simp] theorem dieSide_feField (k : Nat) (unlocked : Bool) (word : Nat) (h : Fld × Nat × Nat) (b : Body) : dieSide (b.feField k unlocked word h) = dieSide b := by
  unfold Body.feField
  dsimp only
  split <;> (try split) <;> simp [apply_ite dieSide, ite_self]
@[simp] theorem dieSide_feAct (e : Env) (k : Nat) (word : Nat) (h : Fld × Nat × Nat) (b : Body) :
    dieSide (b.feAct e k word h) = dieSide b := by
  unfold Body.feAct
  split
  · rfl
  · split <;> simp [apply_ite dieSide]
@[simp] theorem dieSide_feWrite (e : Env) (k a word : Nat) (unlocked : Bool) (b : Body) : dieSide (b.feWrite e k a word unlocked) = dieSide b := by
  simp [Body.feWrite]
@[simp] theorem dieSide_filterChange (k key : Nat) (b : Body) : dieSide (b.filterChange k key) = dieSide b := by
  unfold Body.filterChange
  split <;> simp
@[simp] theorem dieSide_applyDown (e : Env) (k : Nat) (m : DownMsg) (b : Body) : dieSide (b.applyDown e k m) = dieSide b := by
  unfold Body.applyDown
  split <;> simp
@[simp] theorem dieSide_drain (e : Env) (k : Nat) (b : Body) : dieSide (b.drain e k) = dieSide b := by
  simp [Body.drain]
@[simp] theorem dieSide_dieStops (k : Nat) (b : Body) : dieSide (b.dieStops k) = dieSide b := by
  simp [Body.dieStops]
@[simp] theorem dieSide_rejoinPoles (e : Env) (n : Nat) (b : Body) : dieSide (b.rejoinPoles e n) = dieSide b := by
  simp [Body.rejoinPoles]
@[simp] theorem dieSide_rejoinGate (e : Env) (n : Nat) (b : Body) : dieSide (b.rejoinGate e n) = dieSide b := by
  simp [Body.rejoinGate, apply_ite dieSide, ite_self]
@[simp] theorem dieSide_rejoinPath (e : Env) (n : Nat) (b : Body) : dieSide (b.rejoinPath e n) = dieSide b := by
  simp [Body.rejoinPath, apply_ite dieSide, ite_self]
@[simp] theorem dieSide_rejoinSeat (e : Env) (n : Nat) (b : Body) : dieSide (b.rejoinSeat e n) = dieSide b := by
  simp [Body.rejoinSeat, apply_ite dieSide, ite_self]
@[simp] theorem dieSide_deliverUp (e : Env) (k : Nat) (b : Body) : dieSide (b.deliverUp e k) = dieSide b := by
  unfold Body.deliverUp
  refine (part_foldl dieSide _ (fun b m => ?_) _ _).trans (by simp)
  cases m <;> simp
@[simp] theorem dieSide_rejoinTrip (e : Env) (n : Nat) (b : Body) : dieSide (b.rejoinTrip e n) = dieSide b := by
  simp [Body.rejoinTrip, apply_ite dieSide, ite_self]

end Sys2Proof.Proofs
end

section
/-!
SUPPORT. What a reset of a die reads of HUB before it holds the channels that its leaders run.
-/

namespace Sys2Proof.Proofs

open Sys2Proof Sys2Proof.Machine Sys2Proof.Safety Sys2Proof.Laws

/-- The role and what goes with it, the states of the machines, the gangs and the gates. -/
def holdView (b : Body) : (Role × Bool × Bool) × (Nat → ChState) × (Nat → Nat) × (Nat → Nat) × (Nat → Gate) := ((b.role, b.hubDown, b.twin.left), fun n => (b.ch n).state, fun n => b.rd .chClassGangSize n, fun n => b.rd .chClassGangLead n, fun n => (b.en n).gate)

/-- Each turn of a fold leaves it. -/
def HoldViewKept {α : Type} (f : Body → α → Body) : Prop := ∀ b a, holdView (f b a) = holdView b

@[simp] theorem holdViewKept_iff {α : Type} (f : Body → α → Body) : HoldViewKept f ↔ ∀ b a, holdView (f b a) = holdView b := .rfl

@[simp] theorem holdView_foldl {α : Type} (f : Body → α → Body) (l : List α) (b : Body) (hf : HoldViewKept f) : holdView (l.foldl f b) = holdView b :=
  part_foldl holdView f hf l b

@[simp] theorem holdView_forEach (b : Body) (l : List Nat) (f : Nat → Body → Body) (hf : HoldViewKept fun b n => f n b) :
    holdView (b.forEach l f) = holdView b :=
  part_foldl holdView _ hf l b

@[simp] theorem holdView_set_die (b : Body) (x : Vector Die 8) : holdView { b with die := x } = holdView b := (rfl)
@[simp] theorem holdView_set_bud (b : Body) (x : Budget) : holdView { b with bud := x } = holdView b := (rfl)
@[simp] theorem holdView_set_rcd (b : Body) (x : Recorder) : holdView { b with rcd := x } = holdView b := (rfl)
@[simp] theorem holdView_set_mtr (b : Body) (x : Meter) : holdView { b with mtr := x } = holdView b := (rfl)
@[simp] theorem holdView_set_disc (b : Body) (x : Disc) : holdView { b with disc := x } = holdView b := (rfl)
@[simp] theorem holdView_set_tmr (b : Body) (x : Timers) : holdView { b with tmr := x } = holdView b := (rfl)
@[simp] theorem holdView_set_health (b : Body) (x : Health) : holdView { b with health := x } = holdView b := (rfl)
@[simp] theorem holdView_set_fdr (b : Body) (x : FeederPort) : holdView { b with fdr := x } = holdView b := (rfl)
@[simp] theorem holdView_set_twin (b : Body) (x : Twin) (h0 : x.left = b.twin.left) : holdView { b with twin := x } = holdView b := by
  unfold holdView
  simp only [h0]; rfl
@[simp] theorem holdView_set_boot (b : Body) (x : Boot) : holdView { b with boot := x } = holdView b := (rfl)
@[simp] theorem holdView_set_hp (b : Body) (x : Vector HostPort 2) : holdView { b with hp := x } = holdView b := (rfl)
@[simp] theorem holdView_set_gainDue (b : Body) (x : List Nat) : holdView { b with gainDue := x } = holdView b := (rfl)
@[simp] theorem holdView_set_dozeReq (b : Body) (x : Option Nat) : holdView { b with dozeReq := x } = holdView b := (rfl)
@[simp] theorem holdView_set_trendWords (b : Body) (x : List (Nat × Nat)) : holdView { b with trendWords := x } = holdView b := (rfl)
@[simp] theorem holdView_set_alertLow (b : Body) (x : Bool) : holdView { b with alertLow := x } = holdView b := (rfl)
@[simp] theorem holdView_set_alertHold (b : Body) (x : Bool) : holdView { b with alertHold := x } = holdView b := (rfl)
@[simp] theorem holdView_set_doze (b : Body) (x : Bool) : holdView { b with doze := x } = holdView b := (rfl)
@[simp] theorem holdView_set_dozeLeaves (b : Body) (x : List (Nat × Nat)) : holdView { b with dozeLeaves := x } = holdView b := (rfl)
@[simp] theorem holdView_set_reply (b : Body) (x : List Nat) : holdView { b with reply := x } = holdView b := (rfl)
@[simp] theorem holdView_set_freeIx (b : Body) (x : Nat) : holdView { b with freeIx := x } = holdView b := (rfl)
@[simp] theorem holdView_onDie (b : Body) (k : Nat) (f : Die → Die) : holdView (b.onDie k f) = holdView b := (rfl)
@[simp] theorem holdView_dwr (b : Body) (k : Nat) (f : Fld) (i v : Nat) : holdView (b.dwr k f i v) = holdView b := (rfl)
@[simp] theorem holdView_wr (b : Body) (f : Fld) (i v : Nat) (h0 : f ≠ .chClassGangSize) (h1 : f ≠ .chClassGangLead) : holdView (b.wr f i v) = holdView b := by
  unfold holdView
  simp only [rd_wr_fld _ _ _ _ _ _ h0.symm, rd_wr_fld _ _ _ _ _ _ h1.symm]; rfl
@[simp] theorem holdView_bump (b : Body) (f : Fld) (i : Nat) (h0 : f ≠ .chClassGangSize) (h1 : f ≠ .chClassGangLead) : holdView (b.bump f i) = holdView b := holdView_wr _ _ _ _ h0 h1
@[simp] theorem holdView_onRcd (f : Recorder → Recorder) (b : Body) : holdView (b.onRcd f) = holdView b := (rfl)
@[simp] theorem holdView_onMtr (f : Meter → Meter) (b : Body) : holdView (b.onMtr f) = holdView b := (rfl)

/-- A change of a part of the body that leaves what is kept of it. -/
def HoldViewTwin (f : Twin → Twin) : Prop := ∀ x, (f x).left = x.left

@[simp] theorem holdViewTwin_iff (f : Twin → Twin) : HoldViewTwin f ↔ ∀ x, (f x).left = x.left := .rfl

@[simp] theorem holdView_onTwin (f : Twin → Twin) (b : Body) (h : HoldViewTwin f) : holdView (b.onTwin f) = holdView b :=
  holdView_set_twin b _ (h b.twin)

/-- A change of a machine that leaves its state. -/
def StateSame (f : Chan → Chan) : Prop := ∀ c, (f c).state = c.state

@[simp] theorem stateSame_iff (f : Chan → Chan) : StateSame f ↔ ∀ c, (f c).state = c.state := .rfl

/-- A change of an engine that leaves its gate. -/
def GateSame (f : Eng → Eng) : Prop := ∀ g, (f g).gate = g.gate

@[simp] theorem gateSame_iff (f : Eng → Eng) : GateSame f ↔ ∀ g, (f g).gate = g.gate := .rfl

@[simp] theorem holdView_onCh (b : Body) (m : Nat) (f : Chan → Chan) (h : StateSame f) : holdView (b.onCh m f) = holdView b := by
  have hone : ∀ n, ((b.onCh m f).ch n).state = (b.ch n).state := fun n => by
    rw [ch_onCh]
    split
    next hn => rw [h, ch_congr b hn]
    · rfl
  unfold holdView
  simp only [hone]
  rfl

@[simp] theorem holdView_onEng (b : Body) (m : Nat) (f : Eng → Eng) (h : GateSame f) : holdView (b.onEng m f) = holdView b := by
  have hone : ∀ n, ((b.onEng m f).en n).gate = (b.en n).gate := fun n => by
    rw [en_onEng]
    split
    next hn => rw [h, en_congr b hn]
    · rfl
  unfold holdView
  simp only [hone]
  rfl

@[simp] theorem holdView_raise (l : Leaf) (b : Body) : holdView (b.raise l) = holdView b := by
  simp [Body.raise, apply_ite holdView, ite_self]
@[simp] theorem holdView_emit (r : LRec) (b : Body) : holdView (b.emit r) = holdView b := by
  simp [Body.emit]
@[simp] theorem holdView_sendBluli (kind : Nat) (content : List Nat) (b : Body) : holdView (b.sendBluli kind content) = holdView b := by
  simp [Body.sendBluli, apply_ite holdView, ite_self]
@[simp] theorem holdView_shared (r : LRec) (b : Body) : holdView (b.shared r) = holdView b := by
  simp [Body.shared, apply_ite holdView, ite_self]
@[simp] theorem holdView_event (time code chan arg0 arg1 arg2 : Nat) (b : Body) : holdView (b.event time code chan arg0 arg1 arg2) = holdView b := by
  simp [Body.event]
@[simp] theorem holdView_calFail (e : Env) (code ch : Nat) (b : Body) : holdView (b.calFail e code ch) = holdView b := by
  simp [Body.calFail, apply_ite holdView, ite_self]
@[simp] theorem holdView_calInterrupt (e : Env) (b : Body) : holdView (b.calInterrupt e) = holdView b := by
  unfold Body.calInterrupt
  split <;> simp [apply_ite holdView, ite_self]
@[simp] theorem holdView_dieStops (k : Nat) (b : Body) : holdView (b.dieStops k) = holdView b := by
  simp [Body.dieStops]

end Sys2Proof.Proofs
end

section
/-!
SUPPORT. Resets of a die (R45, R69, R471, R472) and gate keep (R461).
-/

namespace Sys2Proof.Proofs

open Sys2Proof Sys2Proof.Machine Sys2Proof.Safety Sys2Proof.Laws

/-! ### Gate keep -/

theorem mem_dieChannels {k n : Nat} (hn : n < 128) : n ∈ dieChannels k ↔ dieOf n = k := by
  unfold dieChannels dieOf
  simp only [List.mem_map, List.mem_range]
  constructor
  · rintro ⟨i, hi, rfl⟩
    omega
  · intro h
    exact ⟨n % 16, Nat.mod_lt _ (by decide), by omega⟩

theorem dieChannels_lt {k m : Nat} (hk : k < 8) (hm : m ∈ dieChannels k) : m < 128 := by
  unfold dieChannels at hm
  obtain ⟨i, hi, rfl⟩ := List.mem_map.1 hm
  have := List.mem_range.1 hi
  omega

theorem dieChannels_nodup (k : Nat) : (dieChannels k).Nodup :=
  List.Nodup.map (fun a b h => by simpa using h) List.nodup_range

/-- A change of the engines of a die. -/
theorem en_dieChannels (f : Eng → Eng) {k : Nat} (hk : k < 8) (b : Body) {n : Nat} (hn : n < 128) :
    (b.forEach (dieChannels k) fun m b => b.onEng m f).en n = if dieOf n = k then f (b.en n) else b.en n := by
  rw [en_forEach_onEng (fun _ => f) (fun m hm => dieChannels_lt hk hm) (dieChannels_nodup k) b hn]
  simp only [mem_dieChannels hn]

theorem forEach_onEng_die (l : List Nat) (f : Nat → Eng → Eng) (b : Body) : (b.forEach l fun m b => b.onEng m (f m)).die = b.die :=
  part_foldl Body.die _ (by exact fun _ _ => rfl) l b

/-- In gate keep every live gate of the die keeps its charge (R461). -/
theorem enterKeep_gate {k : Nat} (hk : k < 8) (till : Option Nat) (b : Body) {n : Nat} (hn : n < 128) (hd : dieOf n = k) :
    ((b.enterKeep k till).en n).gate = if (b.en n).gate.live then .keep else (b.en n).gate := by
  unfold Body.enterKeep
  dsimp only
  rw [en_dieChannels _ hk _ hn, if_pos hd, onDie_en, apply_ite Eng.gate]

theorem enterKeep_fe (k : Nat) (till : Option Nat) (b : Body) : (b.enterKeep k till).fe k = { b.fe k with keep := true, keepEnd := till } := by
  unfold Body.enterKeep
  dsimp only
  rw [Body.fe, forEach_onEng_die]
  exact fe_onDie_same ..

/-- At its end the drivers are high-impedance (R461). -/
theorem endKeep_gate {k : Nat} (hk : k < 8) (b : Body) {n : Nat} (hn : n < 128) (hd : dieOf n = k) : ((b.endKeep k).en n).gate = .hiZ := by
  unfold Body.endKeep
  dsimp only
  rw [en_dieChannels _ hk _ hn, if_pos hd]

theorem endKeep_fe (k : Nat) (b : Body) : (b.endKeep k).fe k = { b.fe k with keep := false, keepEnd := none } := by
  unfold Body.endKeep
  dsimp only
  rw [Body.fe, forEach_onEng_die]
  exact fe_onDie_same ..

/-! ### The die falls -/

/-- What two bodies of one view agree on. -/
structure SameHold (b c : Body) : Prop where
  role : c.role = b.role
  hubDown : c.hubDown = b.hubDown
  left : c.twin.left = b.twin.left
  state : ∀ n, (c.ch n).state = (b.ch n).state
  leadOf : ∀ n, c.leadOf n = b.leadOf n
  gate : ∀ n, (c.en n).gate = (b.en n).gate

theorem of_holdView {b c : Body} (h : holdView c = holdView b) : SameHold b c := by
  unfold holdView at h
  simp only [Prod.mk.injEq] at h
  obtain ⟨⟨hr, hh, hl⟩, hs, hsize, hlead, hg⟩ := h
  exact ⟨hr, hh, hl, congrFun hs, fun n => leadOf_of_rd (congrFun hsize n) (congrFun hlead n), congrFun hg⟩

theorem SameHold.orch {b c : Body} (h : SameHold b c) : c.orch = b.orch := by
  unfold Body.orch
  rw [h.role, h.hubDown, h.left]

theorem dieState_of_dieSide {b c : Body} (h : dieSide c = dieSide b) (k : Nat) : dieState (c.fe k) = dieState (b.fe k) := by
  unfold dieSide at h
  simp only [Prod.mk.injEq] at h
  exact congrFun h.1 k

theorem rd_of_dieSide {b c : Body} (h : dieSide c = dieSide b) (k : Nat) :
    c.rd .twinDieDown k = b.rd .twinDieDown k ∧ c.rd .twinDieEpoch k = b.rd .twinDieEpoch k := by
  unfold dieSide at h
  simp only [Prod.mk.injEq] at h
  exact ⟨congrFun h.2.1 k, congrFun h.2.2 k⟩

/-- A reset of a die keeps its gates and takes it from its link. -/
theorem dieFalls_leaves (e : Env) {k : Nat} (hk : k < 8) (again : Bool) (b : Body) :
    ((b.dieFalls e k again).fe k).joined = false ∧ ((b.dieFalls e k again).fe k).keep = true ∧
      ((b.dieFalls e k again).fe k).stuckT = (if again then some e.now else (b.fe k).stuckT) ∧
      ∀ n, n < 128 → dieOf n = k → (b.en n).gate.live = true → ((b.dieFalls e k again).en n).gate = .keep := by
  unfold Body.dieFalls
  extract_lets c
  have hc : (c.fe k).joined = false ∧ (c.fe k).stuckT = if again then some e.now else (b.fe k).stuckT := by
    unfold c
    rw [fe_onDie_same]
    exact ⟨rfl, rfl⟩
  have heng : ∀ n, c.en n = b.en n := fun n => rfl
  clear_value c
  have hside := dieSide_dieStops k (c.enterKeep k none)
  have hview := holdView_dieStops k (c.enterKeep k none)
  have hstate : dieState (((c.enterKeep k none).dieStops k).fe k) = dieState ((c.enterKeep k none).fe k) := dieState_of_dieSide hside k
  have hgate : ∀ n, (((c.enterKeep k none).dieStops k).en n).gate = ((c.enterKeep k none).en n).gate := fun n =>
    (of_holdView hview).gate n
  rw [enterKeep_fe] at hstate
  unfold dieState at hstate
  obtain ⟨hj, hkeep, -, hstuck⟩ : _ ∧ _ ∧ _ ∧ _ := by simpa only [Prod.mk.injEq] using hstate
  refine ⟨hj.trans hc.1, hkeep, hstuck.trans hc.2, fun n hn hd hlive => ?_⟩
  rw [hgate, enterKeep_gate hk none c hn hd, heng, if_pos hlive]

/-! ### The channels are held -/

theorem en_of_eng {b c : Body} (h : c.eng = b.eng) (m : Nat) : c.en m = b.en m := by
  unfold Body.en
  rw [h]

/-- A die that is in reset changes no gate at a change of state. -/
theorem enter_gate (e : Env) (n : Nat) (st : ChState) (r : Nat) (b : Body) (hj : (b.fe (dieOf n)).joined = false) (m : Nat) :
    ((b.enter e n st r).en m).gate = (b.en m).gate := by
  have hdrop : ∀ c : Body, ((c.dropMeas n).en m).gate = (c.en m).gate := fun c => by
    unfold Body.dropMeas
    split
    · rw [wr_en, en_onEng]
      split
      next h => rw [en_congr c h]
      · rfl
    · rfl
  have hcap : ∀ c : Body, (c.endCap n).eng = c.eng := fun c => by
    unfold Body.endCap Body.fwd
    split
    · rfl
    · rfl
  have hjoin : ∀ c : Body, dieSide c = dieSide b → (c.fe (dieOf n)).joined = false := fun c h =>
    (congrArg Prod.fst (dieState_of_dieSide h (dieOf n))).trans hj
  unfold Body.enter
  extract_lets old oldEff b1 b2 b3 b4 b5
  have h1 : (b1.en m).gate = (b.en m).gate ∧ dieSide b1 = dieSide b := by
    unfold b1
    rw [apply_ite (fun c : Body => (c.en m).gate), apply_ite dieSide, dieSide_raiseCh, ite_self, en_of_eng (raiseCh_eng ..), ite_self]
    exact ⟨rfl, rfl⟩
  have h2 : (b2.en m).gate = (b1.en m).gate ∧ dieSide b2 = dieSide b1 := by
    unfold b2
    rw [apply_ite (fun c : Body => (c.en m).gate), apply_ite dieSide, hdrop, dieSide_dropMeas, ite_self, ite_self]
    exact ⟨rfl, rfl⟩
  have h3 : (b3.en m).gate = (b2.en m).gate ∧ dieSide b3 = dieSide b2 := by
    unfold b3
    rw [apply_ite (fun c : Body => (c.en m).gate), apply_ite dieSide, dieSide_endCap, ite_self, en_of_eng (hcap _), ite_self]
    exact ⟨rfl, rfl⟩
  have h5 : b5 = b4 := by
    unfold b5 Body.tell
    rw [hjoin b4 (h3.2.trans (h2.2.trans h1.2)), if_pos (by rfl)]
  have h4 : (b4.en m).gate = (b3.en m).gate := rfl
  rw [apply_ite (fun c : Body => (c.en m).gate), show ∀ g, ((b5.onCh n g).en m).gate = (b5.en m).gate from fun _ => rfl, ite_self, h5, h4,
    h3.1, h2.1, h1.1]

/-- A hold of a leader whose die is in reset: no gate moves. -/
theorem deliver_hold_gate (e : Env) (n r t : Nat) (b : Body) (hlead : b.leadOf n = n) (hj : (b.fe (dieOf n)).joined = false) (m : Nat) :
    ((b.deliver e n (.hold r) t).en m).gate = (b.en m).gate := by
  unfold Body.deliver
  dsimp only
  rw [hlead]
  split
  · split
    next h => simp at h
    · rfl
  · split
    · rfl
    · unfold Body.applyEv
      dsimp only
      split
      · rfl
      · rfl
      · rw [enter_gate]
        · rfl
        · exact hj

/-- A hold of another machine. -/
theorem deliver_hold_other (e : Env) {n j : Nat} (r t : Nat) (b : Body) (hlead : b.leadOf j = j) (hne : n % 128 ≠ j % 128) :
    (b.deliver e j (.hold r) t).ch n = b.ch n := by
  have hon : ∀ (c : Body) f, (c.onCh j f).ch n = c.ch n := fun c f => (ch_onCh c j n f).trans (if_neg hne)
  unfold Body.deliver
  dsimp only
  rw [hlead]
  split
  · split
    next h => simp at h
    · rfl
  · split
    · exact (hon _ _).trans (hon _ _)
    · unfold Body.applyEv
      dsimp only
      split
      · rfl
      · rfl
      · rw [enter_ch_other hne, hon]

/-- A hold of an ON channel. -/
theorem deliver_hold_on (e : Env) (n r t : Nat) (b : Body) (horch : b.orch = true) (hlead : b.leadOf n = n) (hst : (b.ch n).state = .on) :
    ((b.deliver e n (.hold r) t).ch n).state = .held ∧ ((b.deliver e n (.hold r) t).ch n).prior = .on ∧
      ((b.deliver e n (.hold r) t).ch n).reason = r := by
  rw [deliver_live horch (by rw [hlead, hst]; decide), hlead]
  unfold Body.applyEv
  simp only [hst]
  refine ⟨(enter_state ..).1, ?_, (enter_state ..).2⟩
  rw [enter_part e n .held r _ Chan.prior (fun _ => rfl), ch_onCh_same]
  rfl

/-- What stands while the channels of a fallen die are held one after another: the gangs, HUB's part in orchestration, and that the die is off its link. -/
def Holding (b c : Body) : Prop := (∀ m, c.leadOf m = b.leadOf m) ∧ c.orch = b.orch ∧ dieSide c = dieSide b

theorem deliver_holding (e : Env) (n : Nat) (ev : Ev) (t : Nat) {b c : Body} (h : Holding b c) :
    Holding b (c.deliver e n ev t) := by
  obtain ⟨hlead, horch, hside⟩ := h
  have hrd : ∀ f i, ofEvent f = false → (c.deliver e n ev t).rd f i = c.rd f i := fun f i hf => by
    have h : (still (c.deliver e n ev t)).rd f i = (still c).rd f i := by rw [still_deliver]
    unfold still at h
    simpa [hf] using h
  refine ⟨fun m => (leadOf_of_rd (hrd _ _ rfl) (hrd _ _ rfl)).trans (hlead m), ?_, (dieSide_deliver ..).trans hside⟩
  rw [← horch]
  show (outer (c.deliver e n ev t)).orch = (outer c).orch
  rw [outer_deliver]

theorem joined_of_holding {k : Nat} {b c : Body} (h : Holding b c) (hj : (b.fe k).joined = false) : (c.fe k).joined = false :=
  (congrArg Prod.fst (dieState_of_dieSide h.2.2 k)).trans hj

/-- The leaders of a die are held, each in its turn. -/
theorem holdLeaders_leaves (e : Env) {k : Nat} (hk : k < 8) (b : Body) (hj : (b.fe k).joined = false) :
    let c := b.forEach (b.dieLeaders k) fun n b => b.deliver e n (.hold 0x33) e.now
    dieSide c = dieSide b ∧ (∀ m, (c.en m).gate = (b.en m).gate) ∧
      (b.orch = true → ∀ n, n < 128 → dieOf n = k → b.leadOf n = n → (b.ch n).state = .on →
        (c.ch n).state = .held ∧ (c.ch n).prior = .on ∧ (c.ch n).reason = 0x33) := by
  intro c
  have hmem : ∀ j ∈ b.dieLeaders k, b.leadOf j = j ∧ dieOf j = k ∧ j < 128 := fun j hj => by
    obtain ⟨hdie, hlead⟩ := List.mem_filter.1 hj
    have hlt := dieChannels_lt hk hdie
    exact ⟨of_decide_eq_true hlead, (mem_dieChannels hlt).1 hdie, hlt⟩
  have hgates := forEach_keeps
    (R := fun x y => Holding b x → Holding b y ∧ ∀ m, (y.en m).gate = (x.en m).gate)
    (fun _ h => ⟨h, fun _ => rfl⟩)
    (fun hab hbc h => ⟨(hbc (hab h).1).1, fun m => ((hbc (hab h).1).2 m).trans ((hab h).2 m)⟩)
    (f := fun n b => b.deliver e n (.hold 0x33) e.now) (l := b.dieLeaders k)
    (fun j hjm x h => ⟨deliver_holding e j _ _ h, fun m => deliver_hold_gate e j _ _ x ((h.1 j).trans (hmem j hjm).1)
      (by rw [(hmem j hjm).2.1]; exact joined_of_holding h hj) m⟩) b ⟨fun _ => rfl, rfl, rfl⟩
  refine ⟨hgates.1.2.2, hgates.2, fun horch n hn hd hlead hst => ?_⟩
  obtain ⟨x, hbefore, hafter⟩ := forEach_turn_mem
    (R := fun x y => Holding b x → Holding b y ∧ y.ch n = x.ch n)
    (fun _ h => ⟨h, rfl⟩)
    (fun hab hbc h => ⟨(hbc (hab h).1).1, ((hbc (hab h).1).2).trans (hab h).2⟩)
    (f := fun n b => b.deliver e n (.hold 0x33) e.now) (l := b.dieLeaders k) (i := n)
    (fun j hjm hne x h => ⟨deliver_holding e j _ _ h, deliver_hold_other e _ _ x ((h.1 j).trans (hmem j hjm).1)
      (by have := (hmem j hjm).2.2; omega)⟩)
    (List.Nodup.filter _ (dieChannels_nodup k)) (List.mem_filter.2 ⟨(mem_dieChannels hn).2 hd, decide_eq_true hlead⟩) b
  obtain ⟨hx, hsame⟩ := hbefore ⟨fun _ => rfl, rfl, rfl⟩
  obtain ⟨-, hlast⟩ := hafter (deliver_holding e n _ _ hx)
  have hheld := deliver_hold_on e n 0x33 e.now x (hx.2.1.trans horch) ((hx.1 n).trans hlead) (by rw [hsame]; exact hst)
  show ((b.forEach (b.dieLeaders k) fun n b => b.deliver e n (.hold 0x33) e.now).ch n).state = _ ∧ _
  rw [show (b.forEach (b.dieLeaders k) fun n b => b.deliver e n (.hold 0x33) e.now).ch n = _ from hlast]
  exact hheld

/-- HUB takes the next epoch for a die that has fallen, marks it down and holds what its leaders run (R471). -/
theorem dieVoid_leaves (e : Env) {k : Nat} (hk : k < 8) (fresh : Bool) (b : Body) (hj : (b.fe k).joined = false) :
    dieState ((b.dieVoid e k fresh).fe k) = dieState (b.fe k) ∧ (b.dieVoid e k fresh).rd .twinDieDown k = 1 ∧
      (b.dieVoid e k fresh).rd .twinDieEpoch k = (b.rd .twinDieEpoch k + 1) % 16 ∧
      (∀ m, ((b.dieVoid e k fresh).en m).gate = (b.en m).gate) ∧
      (b.orch = true → ∀ n, n < 128 → dieOf n = k → b.leadOf n = n → (b.ch n).state = .on →
        ((b.dieVoid e k fresh).ch n).state = .held ∧ ((b.dieVoid e k fresh).ch n).prior = .on ∧ ((b.dieVoid e k fresh).ch n).reason = 0x33) := by
  unfold Body.dieVoid
  extract_lets ep b1 b2 b3 b4 b5
  have h2 : holdView b2 = holdView b ∧ (∀ j, dieState (b2.fe j) = dieState (b.fe j)) ∧ b2.rd .twinDieDown k = 1 ∧ b2.rd .twinDieEpoch k = ep := by
    unfold b2 b1
    refine ⟨by simp, fun _ => rfl, ?_, ?_⟩
    · rw [rd_wr_fld _ _ _ _ _ _ (by decide), rd_wr_fld _ _ _ _ _ _ (by decide), rd_wr_fld _ _ _ _ _ _ (by decide), Body.bump,
        rd_wr_fld _ _ _ _ _ _ (by decide)]
      exact rd_wr_same ..
    · rw [rd_wr_fld _ _ _ _ _ _ (by decide), rd_wr_fld _ _ _ _ _ _ (by decide), rd_wr_fld _ _ _ _ _ _ (by decide), Body.bump,
        rd_wr_fld _ _ _ _ _ _ (by decide), rd_wr_fld _ _ _ _ _ _ (by decide)]
      exact rd_wr_of_lt _ _ (Nat.mod_lt _ (by decide))
  have h5 : holdView b5 = holdView b2 ∧ dieSide b5 = dieSide b2 := by
    unfold b5 b4 b3
    rw [apply_ite holdView, apply_ite dieSide, holdView_event, dieSide_event, ite_self, ite_self, holdView_calInterrupt, dieSide_calInterrupt,
      holdView_raise, dieSide_raise]
    exact ⟨rfl, dieSide_onDie _ _ _ fun _ => ⟨rfl, rfl, rfl, rfl⟩⟩
  clear_value b5 b2
  obtain ⟨hv2, hs2, hdown, hep⟩ := h2
  obtain ⟨hv5, hs5⟩ := h5
  have hview := of_holdView (hv5.trans hv2)
  have hst : dieState (b5.fe k) = dieState (b.fe k) := (dieState_of_dieSide hs5 k).trans (hs2 k)
  have hrd := rd_of_dieSide hs5 k
  obtain ⟨hside, hgate, hheld⟩ := holdLeaders_leaves e hk b5 ((congrArg Prod.fst hst).trans hj)
  have hrd' := rd_of_dieSide hside k
  refine ⟨(dieState_of_dieSide hside k).trans hst, hrd'.1.trans (hrd.1.trans hdown), hrd'.2.trans (hrd.2.trans hep),
    fun m => (hgate m).trans (hview.gate m), fun horch n hn hd hlead hon => ?_⟩
  exact hheld (hview.orch.trans horch) n hn hd ((hview.leadOf n).trans hlead) ((hview.state n).trans hon)

/-- What a fall of a die leaves of HUB. -/
theorem dieFalls_hub (e : Env) (k : Nat) (again : Bool) (b : Body) : (∀ n, ((b.dieFalls e k again).ch n).state = (b.ch n).state) ∧
    (∀ n, (b.dieFalls e k again).leadOf n = b.leadOf n) ∧ (b.dieFalls e k again).orch = b.orch ∧
    (b.dieFalls e k again).hubDown = b.hubDown ∧ (b.dieFalls e k again).rd .twinDieEpoch k = b.rd .twinDieEpoch k := by
  unfold Body.dieFalls
  extract_lets c
  have hkeep : ∀ (d : Body) (m : Nat), (d.enterKeep k none).ch m = d.ch m ∧ (d.enterKeep k none).regs = d.regs ∧
      (d.enterKeep k none).role = d.role ∧ (d.enterKeep k none).hubDown = d.hubDown ∧ (d.enterKeep k none).twin = d.twin := fun d m => by
    unfold Body.enterKeep
    dsimp only
    obtain ⟨g, hg⟩ := forEach_onEng_eq (fun _ (g : Eng) => if g.gate.live then { g with gate := .keep } else g) (dieChannels k)
      (d.onDie k fun d => { d with keep := true, keepEnd := none })
    rw [hg]
    exact ⟨rfl, rfl, rfl, rfl, rfl⟩
  have hview := of_holdView (holdView_dieStops k (c.enterKeep k none))
  have hside := rd_of_dieSide (dieSide_dieStops k (c.enterKeep k none)) k
  have hregs := (hkeep c 0).2.1
  refine ⟨fun n => ?_, fun n => ?_, ?_, ?_, ?_⟩
  · rw [hview.state, (hkeep c n).1]
    rfl
  · rw [hview.leadOf]
    exact leadOf_of_rd (rd_of_regs hregs _ _) (rd_of_regs hregs _ _)
  · rw [hview.orch]
    unfold Body.orch
    rw [(hkeep c 0).2.2.1, (hkeep c 0).2.2.2.1, (hkeep c 0).2.2.2.2]
    rfl
  · rw [hview.hubDown, (hkeep c 0).2.2.2.1]
    rfl
  · exact hside.2.trans (rd_of_regs hregs _ _)

/-- A reset of a die while HUB runs (R45, R69, R471). -/
theorem dieReset_leaves (e : Env) {k : Nat} (hk : k < 8) (again : Bool) {b : Body} (hup : b.hubDown = false) :
    ((b.dieReset e k again).fe k).joined = false ∧ ((b.dieReset e k again).fe k).keep = true ∧
      ((b.dieReset e k again).fe k).stuckT = (if again then some e.now else (b.fe k).stuckT) ∧
      (b.dieReset e k again).rd .twinDieDown k = 1 ∧ (b.dieReset e k again).rd .twinDieEpoch k = (b.rd .twinDieEpoch k + 1) % 16 ∧
      (∀ n, n < 128 → dieOf n = k → (b.en n).gate.live = true → ((b.dieReset e k again).en n).gate = .keep) ∧
      (b.orch = true → ∀ n, n < 128 → dieOf n = k → b.leadOf n = n → (b.ch n).state = .on →
        ((b.dieReset e k again).ch n).state = .held ∧ ((b.dieReset e k again).ch n).prior = .on ∧
          ((b.dieReset e k again).ch n).reason = 0x33) := by
  unfold Body.dieReset
  extract_lets fresh c0 c d
  have hc : holdView c = holdView b ∧ (∀ j, c.fe j = b.fe j) ∧ c.rd .twinDieEpoch k = b.rd .twinDieEpoch k := by
    unfold c c0
    split
    · exact ⟨(holdView_set_reply ..).trans (holdView_wr _ _ _ _ (by decide) (by decide)), fun _ => rfl, rd_wr_fld b .twinDieVoidRead .twinDieEpoch k k 1 (by decide)⟩
    · exact ⟨rfl, fun _ => rfl, rfl⟩
  clear_value c
  obtain ⟨hview, hfe, hep⟩ := hc
  have hview := of_holdView hview
  obtain ⟨hj, hkeep, hstuck, hgate⟩ := dieFalls_leaves e hk again c
  obtain ⟨hst, hlead, horch, hhub, hep'⟩ := dieFalls_hub e k again c
  rw [if_neg (by rw [show d.hubDown = false from hhub.trans (hview.hubDown.trans hup)]; decide)]
  obtain ⟨hdie, hdown, hepoch, hgates, hheld⟩ := dieVoid_leaves e hk fresh d hj
  unfold dieState at hdie
  obtain ⟨hj', hkeep', -, hstuck'⟩ : _ ∧ _ ∧ _ ∧ _ := by simpa only [Prod.mk.injEq] using hdie
  refine ⟨hj'.trans hj, hkeep'.trans hkeep, ?_, hdown, ?_, fun n hn hd hlive => ?_, fun ho n hn hd hl hon => ?_⟩
  · rw [hstuck', hstuck, hfe]
  · rw [hepoch, hep', hep]
  · rw [hgates]
    exact hgate n hn hd (by rw [hview.gate]; exact hlive)
  · exact hheld ((horch.trans hview.orch).trans ho) n hn hd ((hlead n).trans ((hview.leadOf n).trans hl))
      ((hst n).trans ((hview.state n).trans hon))

/-! ### The obligation -/

theorem exec_dieReset (k : DieIx) (s : State) : exec (.dieReset k) s = .next (s.onBody fun e b => b.dieReset e k false) := rfl
theorem exec_dieRejoin (k : DieIx) (s : State) : exec (.dieRejoin k) s = .next (s.onBody fun e b => b.dieRejoin e k) := rfl
theorem exec_dieRejoinTimeout (k : DieIx) (s : State) : exec (.dieRejoinTimeout k) s = execDieRejoinTimeout k s := rfl
theorem exec_markerLoss (k : DieIx) (s : State) : exec (.markerLoss k) s = execMarkerLoss k s := rfl
theorem exec_gateKeepEnd (k : DieIx) (s : State) : exec (.gateKeepEnd k) s = execGateKeepEnd k s := rfl

/-- A die that has been in reset is back on its link, with its gates its own again. -/
theorem dieRejoin_leaves (e : Env) {k : Nat} {b : Body} (hj : (b.fe k).joined = false) (hup : b.hubDown = false)
    (haux : b.health.auxOff = false) : dieState ((b.dieRejoin e k).fe k) = (true, false, none, none) ∧ (b.dieRejoin e k).rd .twinDieDown k = 0 := by
  unfold Body.dieRejoin
  rw [if_neg (by simp [hj, hup, haux])]
  extract_lets first b1 b2 b3 b4 b5 b6 b7
  have h1 : dieState (b1.fe k) = (true, false, none, none) := by
    unfold b1
    rw [fe_onDie_same]
    rfl
  have h2 : dieSide b2 = dieSide (b1.wr .twinDieDown k 0) := by
    unfold b2
    rw [dieSide_drain, dieSide_dwr]
  have h5 : dieSide b5 = dieSide b2 := by
    unfold b5 b4 b3
    rw [apply_ite dieSide, dieSide_wr _ _ _ _ (by decide) (by decide), ite_self, dieSide_disturbAll, dieSide_visitsFollow,
      dieSide_onDie _ _ _ (by exact fun _ => ⟨rfl, rfl, rfl, rfl⟩), dieSide_loadLadder]
  have h6 : dieSide b6 = dieSide b5 := by
    unfold b6
    refine dieSide_forEach _ _ _ fun c n => ?_
    dsimp only
    rw [dieSide_rejoinSeat, dieSide_rejoinPath, dieSide_rejoinGate, dieSide_rejoinPoles]
  have h7 : dieSide b7 = dieSide b6 := by
    unfold b7
    rw [dieSide_deliverUp]
    exact dieSide_forEach _ _ _ fun c n => dieSide_rejoinTrip ..
  have hend : dieSide (b7.forEach (b7.dieLeaders k) fun n b => b.deliver e n (.release 0x33) e.now) = dieSide b7 :=
    dieSide_forEach _ _ _ fun c n => dieSide_deliver ..
  have hw : dieState ((b1.wr .twinDieDown k 0).fe k) = (true, false, none, none) ∧ (b1.wr .twinDieDown k 0).rd .twinDieDown k = 0 :=
    ⟨h1, rd_wr_same ..⟩
  clear_value b1 b2 b5 b6 b7
  have hall : ∀ c, dieSide c = dieSide (b1.wr .twinDieDown k 0) → dieState (c.fe k) = (true, false, none, none) ∧ c.rd .twinDieDown k = 0 :=
    fun c h => ⟨(dieState_of_dieSide h k).trans hw.1, (rd_of_dieSide h k).1.trans hw.2⟩
  split
  · exact hall _ (h5.trans h2)
  · exact hall _ (hend.trans (h7.trans (h6.trans (h5.trans h2))))

/-- A die that has not rejoined is stuck (R472). -/
theorem dieStuck_stuckT (e : Env) (k : Nat) (b : Body) : ((b.dieStuck e k).fe k).stuckT = some e.now := by
  have hset : (((b.onDie k fun d => { d with stuckT := some e.now }).fe k)).stuckT = some e.now := by rw [fe_onDie_same]
  have hside : dieSide (b.dieStuck e k) = dieSide (b.onDie k fun d => { d with stuckT := some e.now }) := by
    unfold Body.dieStuck
    dsimp only
    rw [apply_ite dieSide, dieSide_seamRequest, ite_self, dieSide_raise]
  have h := dieState_of_dieSide hside k
  unfold dieState at h
  simp only [Prod.mk.injEq] at h
  exact h.2.2.2.trans hset

/-- Settles O46. -/
theorem dieResets : Obligations.DieResets := by
  refine ⟨fun k s hhub => ⟨fun i hi => ?_, fun hj haux => ?_, fun T hT hstuck => ?_, fun T U hT hU hdrives => ?_⟩,
    fun k s => ⟨fun hpair hkeep => ?_, fun T hT hkeep => ?_⟩⟩
  · obtain ⟨c, hexec, hview, hside⟩ : ∃ c, (exec i s = .next (s.onBody fun e _ => c.dieReset e k false)) ∧ holdView c = holdView s.body ∧
        dieSide c = dieSide s.body := by
      rcases hi with rfl | rfl
      · exact ⟨s.body, exec_dieReset k s, rfl, rfl⟩
      · refine ⟨_, (exec_clockFail (.fe k) s).trans (congrArg _ (onBody_congr (if_neg (by simp [hhub])))), ?_, ?_⟩
        · rw [holdView_event, holdView_raise, holdView_wr _ _ _ _ (by decide) (by decide)]
        · rw [dieSide_event, dieSide_raise, dieSide_wr _ _ _ _ (by decide) (by decide)]
    have hsame := of_holdView hview
    obtain ⟨hj, hkeep, -, hdown, hepoch, hgate, hheld⟩ := dieReset_leaves s.env k.isLt false (hsame.hubDown.trans hhub)
    refine runs_onBody hexec ?_
    rw [onBody_body, settle_fe_joined, settle_fe _ _ _ Die.keep (fun _ _ _ => rfl), settle_rd _ _ .twinDieDown _ rfl,
      settle_rd _ _ .twinDieEpoch _ rfl]
    refine ⟨hj, hkeep, hdown, by rw [hepoch, (rd_of_dieSide hside k).2], fun n hn hd hlive => ?_, fun horch n hn hd hl hon => ?_⟩
    · rw [settle_en]
      exact hgate n hn hd (by rw [hsame.gate]; exact hlive)
    · rw [settle_ch_state, settle_ch_prior, settle_ch_reason]
      exact hheld (hsame.orch.trans horch) n hn hd ((hsame.leadOf n).trans hl) ((hsame.state n).trans hon)
  · obtain ⟨hdie, hdown⟩ := dieRejoin_leaves s.env hj hhub haux
    refine runs_onBody (exec_dieRejoin k s) ?_
    unfold dieState at hdie
    obtain ⟨hj', hkeep', hreset', -⟩ : _ ∧ _ ∧ _ ∧ _ := by simpa only [Prod.mk.injEq] using hdie
    rw [onBody_body, settle_fe_joined, settle_fe _ _ _ Die.keep (fun _ _ _ => rfl), settle_fe _ _ _ Die.resetT (fun _ _ _ => rfl),
      settle_rd _ _ .twinDieDown _ rfl]
    exact ⟨hj', hkeep', hreset', hdown⟩
  · refine runsAt_onBody (f := fun e b => if b.hubDown then b else b.dieStuck e k) ?_ ?_
    · rw [exec_dieRejoinTimeout, execDieRejoinTimeout, hT, hstuck]
    · rw [onBody_body, goTo_body, settle_fe _ _ _ Die.stuckT (fun _ _ _ => rfl), if_neg (by simp [hhub])]
      exact dieStuck_stuckT ..
  · refine runsAt_onBody (f := fun e b => if b.drives && !b.hubDown then b.dieReset e k true else b) ?_ ?_
    · rw [exec_dieRejoinTimeout, execDieRejoinTimeout, hT, hU]
    · obtain ⟨-, -, hstuck, -, hepoch, -, -⟩ := dieReset_leaves (s.goTo (U + 50000000)).env k.isLt true hhub
      rw [onBody_body, goTo_body, settle_fe _ _ _ Die.stuckT (fun _ _ _ => rfl), settle_rd _ _ .twinDieEpoch _ rfl, if_pos (by simp [hdrives, hhub])]
      exact ⟨hepoch, hstuck⟩
  · refine runsAt_onBody (f := fun e b => b.enterKeep k (some (e.now + 100000))) ?_ ?_
    · rw [exec_markerLoss, execMarkerLoss, if_neg (by simp [hpair, hkeep])]
    · rw [onBody_body, goTo_body, settle_fe _ _ _ Die.keep (fun _ _ _ => rfl), settle_fe _ _ _ Die.keepEnd (fun _ _ _ => rfl), enterKeep_fe]
      refine ⟨rfl, rfl, fun n hn hd => ?_⟩
      rw [settle_en]
      exact enterKeep_gate k.isLt _ _ hn hd
  · refine runsAt_onBody (f := fun _ b => if (b.fe k).keep then b.endKeep k else b) ?_ ?_
    · rw [exec_gateKeepEnd, execGateKeepEnd, hT]
    · rw [onBody_body, goTo_body, if_pos hkeep, settle_fe _ _ _ Die.keep (fun _ _ _ => rfl), endKeep_fe]
      refine ⟨rfl, fun n hn hd => ?_⟩
      rw [settle_en]
      exact endKeep_gate k.isLt _ hn hd

end Sys2Proof.Proofs
end

section
/-!
SUPPORT. Temperatures, AUX12 and watchdogs (R471, R586): what a watchdog of a die shows while HUB is in reset.
-/

namespace Sys2Proof.Proofs

open Sys2Proof Sys2Proof.Machine Sys2Proof.Safety Sys2Proof.Laws

theorem exec_dieWatchdog (k : DieIx) (s : State) : exec (.dieWatchdog k) s = .next (s.onBody fun e b =>
    if b.hubDown then b.dieReset e k false
    else ((((b.bump .healthWdcntFe).raise (9, 16)).event e.count 0x0502 0xFF (1 + k) 0 0).dieReset e k false)) := rfl

theorem drivePin_rd (low : Bool) (b : Body) (f : Fld) (i : Nat) (ha : f ≠ .modAlcntAsserts) (hp : f ≠ .hpStatAttnPend) :
    (b.drivePin low).rd f i = b.rd f i := by
  have hlow : ∀ c : Body, ({ c with alertLow := low } : Body).rd f i = c.rd f i := fun _ => rfl
  unfold Body.drivePin
  rw [hlow]
  split
  · refine (part_foldl (fun c : Body => c.rd f i) _ (fun c p => ?_) _ _).trans (rd_wr_fld _ _ _ _ _ _ ha)
    split
    · rw [onHp_rd, rd_wr_fld _ _ _ _ _ _ hp]
    · rfl
  · split
    · exact part_foldl (fun c : Body => c.rd f i) _ (fun _ _ => rd_wr_fld _ _ _ _ _ _ hp) _ _
    · rfl

/-- While HUB is in reset too, settling shows whether the mirror is whole (R458). -/
theorem settle_ready (e : Env) (b : Body) (hhub : b.hubDown = true) : (b.settle e).rd .twinStatReady 0 = bit b.gather.mirrorReady := by
  have h : Settled b b.gather.formReady.sendGains :=
    ((settled_gather b).trans (settled_formReady _)).trans (settled_foldl _ (fun b l => settled_sendGain l b) _ _)
  unfold Body.settle
  dsimp only
  rw [h.hubDown, if_pos hhub, drivePin_rd _ _ _ _ (by decide) (by decide)]
  have hgains : ∀ c : Body, c.sendGains.rd .twinStatReady 0 = c.rd .twinStatReady 0 := fun c =>
    part_foldl (fun c : Body => c.rd .twinStatReady 0) _ (by exact fun _ _ => rfl) _ c
  have hlt : bit b.gather.mirrorReady < 2 ^ fieldWidth .twinStatReady := by cases b.gather.mirrorReady <;> decide
  rw [hgains]
  unfold Body.formReady
  dsimp only
  split
  · rw [raise_rd _ _ _ _ (by decide)]
    exact rd_wr_of_lt _ _ hlt
  · exact rd_wr_of_lt _ _ hlt

/-- With a die that has not joined, no mirror is whole. -/
theorem mirrorReady_of_not_joined {b : Body} {k : Nat} (hk : k < 8) (hj : (b.fe k).joined = false) : b.mirrorReady = false := by
  have hall : b.allJoined = false := by
    unfold Body.allJoined
    exact List.all_eq_false.2 ⟨k, List.mem_range.2 hk, by simp [hj]⟩
  unfold Body.mirrorReady
  simp [hall]

/-- A STANDBY module that shows READY, with HUB in reset: the words of TWIN.STAT are those of before the reset. -/
def readyInReset : State :=
  { State.reset with body := { Body.reset with role := .standby, hubDown := true, regs := regSet [] .twinStatReady 0 1 } }

theorem gather_joined (b : Body) (k : Nat) : (b.gather.fe k).joined = (b.fe k).joined := by
  have hscan : (b.gatherScans.fe k).joined = (b.fe k).joined := by
    unfold Body.gatherScans
    split
    · refine part_foldl (fun c : Body => (c.fe k).joined) _ (fun c j => ?_) _ _
      dsimp only
      split
      · exact fe_onDie_part Die.joined (by exact fun _ => rfl) _ _ _
      · rfl
    · rfl
  exact hscan

/-- In reset HUB takes no notice of a die that falls. -/
theorem dieReset_hubDown (e : Env) (k : Nat) (again : Bool) {b : Body} (hdown : b.hubDown = true) :
    b.dieReset e k again = b.dieFalls e k again := by
  unfold Body.dieReset
  dsimp only
  rw [hdown, Bool.not_true, Bool.and_false, if_neg Bool.false_ne_true, if_pos ((dieFalls_hub e k again b).2.2.2.1.trans hdown)]

/-- Refutes O45: a watchdog of a die while HUB is in reset does not leave every register of HUB. The die falls, the mirror is no longer
whole, and READY falls with it. -/
theorem not_health : ¬ Obligations.Health := by
  unfold Obligations.Health
  intro h
  obtain ⟨-, -, hwatch⟩ := h
  obtain ⟨-, -, hdie, -⟩ := hwatch readyInReset
  obtain ⟨t, hexec, -, -, hrd⟩ := hdie 0 rfl
  have hbody : t.body = (readyInReset.body.dieFalls readyInReset.env 0 false).settle readyInReset.env := by
    rw [← dieReset_hubDown readyInReset.env 0 false (b := readyInReset.body) rfl]
    rw [exec_dieWatchdog] at hexec
    exact congrArg State.body (Host.Outcome.next.inj hexec).symm
  have hready : readyInReset.body.rd .twinStatReady 0 = 1 := by decide
  have hdown : (readyInReset.body.dieFalls readyInReset.env 0 false).hubDown = true := (dieFalls_hub _ _ _ _).2.2.2.1
  have hjoined := (dieFalls_leaves readyInReset.env (k := 0) (by decide) false readyInReset.body).1
  have hfall : t.body.rd .twinStatReady 0 = 0 := by
    rw [hbody, settle_ready _ _ hdown, mirrorReady_of_not_joined (k := 0) (by decide) ((gather_joined ..).trans hjoined)]
    rfl
  rw [hrd, hready] at hfall
  cases hfall

end Sys2Proof.Proofs
end

section
/-!
SUPPORT. What the events of the channels, the moves of a role and the frames leave as they are: the Seam in progress, what is held
of the partner, the health of the module, and every register that they do not write.
-/

namespace Sys2Proof.Proofs

open Sys2Proof Sys2Proof.Machine Sys2Proof.Safety Sys2Proof.Laws

/-- The registers that an event, a move of a role or a frame may write. -/
@[reducible, simp] def busyFld (f : Fld) : Bool :=
  match f with
  | .alertChleaf | .alertLeaf | .alertTleafTimer | .bbuStatDriven | .budgetLastrelTime | .chByieldFavoured | .chByieldGbroken |
    .chCapPCap | .chFfstatCMeas | .chFfstatFfI | .chLastTripStateAtTrip | .chLastTripTripReason | .chTripcntLatches |
    .chTripcntTrips | .chTriptimeTime | .metaBenchdieBusy | .metaCalprogFailCh | .metaCalprogFailCode | .metaCalprogPhase |
    .metaCalstatFailed | .modBootPhase | .modBootSoloHeld | .modBootTConfig | .modImgcmdBusy | .modImgcmdDone | .modImgcmdErr |
    .modPatchstatState | .recCapnoNo | .recGapsCount | .recStatGapSeen | .tbTmrctlStart | .tmrCntCount | .tmrCtrlHit |
    .tmrCtrlMatch | .tmrCtrlRun | .twinStatRefuse | .twinStatRole => true
  | _ => false

/-- The Seam, the heartbeat and the held writes, the health, and the registers that no event writes. -/
def pairView (b : Body) : (Option Seam × Bool × Bool × Option Nat × List (Nat × Nat)) × Health × Bool × (Fld → Nat → Nat) := ((b.twin.seam, b.twin.left, b.twin.leaving, b.twin.hbT, b.twin.heldWrites), b.health, b.hubDown, fun f i => if busyFld f then 0 else b.rd f i)

/-- Each turn of a fold leaves it. -/
def PairViewKept {α : Type} (f : Body → α → Body) : Prop := ∀ b a, pairView (f b a) = pairView b

@[simp] theorem pairViewKept_iff {α : Type} (f : Body → α → Body) : PairViewKept f ↔ ∀ b a, pairView (f b a) = pairView b := .rfl

@[simp] theorem pairView_foldl {α : Type} (f : Body → α → Body) (l : List α) (b : Body) (hf : PairViewKept f) : pairView (l.foldl f b) = pairView b :=
  part_foldl pairView f hf l b

@[simp] theorem pairView_forEach (b : Body) (l : List Nat) (f : Nat → Body → Body) (hf : PairViewKept fun b n => f n b) :
    pairView (b.forEach l f) = pairView b :=
  part_foldl pairView _ hf l b

@[simp] theorem pairView_set_role (b : Body) (x : Role) : pairView { b with role := x } = pairView b := (rfl)
@[simp] theorem pairView_set_chan (b : Body) (x : Vector Chan 128) : pairView { b with chan := x } = pairView b := (rfl)
@[simp] theorem pairView_set_eng (b : Body) (x : Vector Eng 128) : pairView { b with eng := x } = pairView b := (rfl)
@[simp] theorem pairView_set_die (b : Body) (x : Vector Die 8) : pairView { b with die := x } = pairView b := (rfl)
@[simp] theorem pairView_set_bud (b : Body) (x : Budget) : pairView { b with bud := x } = pairView b := (rfl)
@[simp] theorem pairView_set_rcd (b : Body) (x : Recorder) : pairView { b with rcd := x } = pairView b := (rfl)
@[simp] theorem pairView_set_mtr (b : Body) (x : Meter) : pairView { b with mtr := x } = pairView b := (rfl)
@[simp] theorem pairView_set_disc (b : Body) (x : Disc) : pairView { b with disc := x } = pairView b := (rfl)
@[simp] theorem pairView_set_tmr (b : Body) (x : Timers) : pairView { b with tmr := x } = pairView b := (rfl)
@[simp] theorem pairView_set_fdr (b : Body) (x : FeederPort) : pairView { b with fdr := x } = pairView b := (rfl)
@[simp] theorem pairView_set_twin (b : Body) (x : Twin) (h0 : x.seam = b.twin.seam) (h1 : x.left = b.twin.left) (h2 : x.leaving = b.twin.leaving) (h3 : x.hbT = b.twin.hbT) (h4 : x.heldWrites = b.twin.heldWrites) : pairView { b with twin := x } = pairView b := by
  unfold pairView
  simp only [h0, h1, h2, h3, h4]; rfl
@[simp] theorem pairView_set_boot (b : Body) (x : Boot) : pairView { b with boot := x } = pairView b := (rfl)
@[simp] theorem pairView_set_hp (b : Body) (x : Vector HostPort 2) : pairView { b with hp := x } = pairView b := (rfl)
@[simp] theorem pairView_set_gainDue (b : Body) (x : List Nat) : pairView { b with gainDue := x } = pairView b := (rfl)
@[simp] theorem pairView_set_dozeReq (b : Body) (x : Option Nat) : pairView { b with dozeReq := x } = pairView b := (rfl)
@[simp] theorem pairView_set_trendWords (b : Body) (x : List (Nat × Nat)) : pairView { b with trendWords := x } = pairView b := (rfl)
@[simp] theorem pairView_set_alertLow (b : Body) (x : Bool) : pairView { b with alertLow := x } = pairView b := (rfl)
@[simp] theorem pairView_set_alertHold (b : Body) (x : Bool) : pairView { b with alertHold := x } = pairView b := (rfl)
@[simp] theorem pairView_set_doze (b : Body) (x : Bool) : pairView { b with doze := x } = pairView b := (rfl)
@[simp] theorem pairView_set_dozeLeaves (b : Body) (x : List (Nat × Nat)) : pairView { b with dozeLeaves := x } = pairView b := (rfl)
@[simp] theorem pairView_set_reply (b : Body) (x : List Nat) : pairView { b with reply := x } = pairView b := (rfl)
@[simp] theorem pairView_set_freeIx (b : Body) (x : Nat) : pairView { b with freeIx := x } = pairView b := (rfl)
@[simp] theorem pairView_onCh (b : Body) (n : Nat) (f : Chan → Chan) : pairView (b.onCh n f) = pairView b := (rfl)
@[simp] theorem pairView_onEng (b : Body) (n : Nat) (f : Eng → Eng) : pairView (b.onEng n f) = pairView b := (rfl)
@[simp] theorem pairView_onDie (b : Body) (k : Nat) (f : Die → Die) : pairView (b.onDie k f) = pairView b := (rfl)
@[simp] theorem pairView_dwr (b : Body) (k : Nat) (f : Fld) (i v : Nat) : pairView (b.dwr k f i v) = pairView b := (rfl)
@[simp] theorem pairView_onRcd (f : Recorder → Recorder) (b : Body) : pairView (b.onRcd f) = pairView b := (rfl)
@[simp] theorem pairView_onMtr (f : Meter → Meter) (b : Body) : pairView (b.onMtr f) = pairView b := (rfl)
@[simp] theorem pairView_onTmr (f : Timers → Timers) (b : Body) : pairView (b.onTmr f) = pairView b := (rfl)

/-- A change of a part of the body that leaves what is kept of it. -/
def PairViewTwin (f : Twin → Twin) : Prop := ∀ x, (f x).seam = x.seam ∧ (f x).left = x.left ∧ (f x).leaving = x.leaving ∧ (f x).hbT = x.hbT ∧ (f x).heldWrites = x.heldWrites

@[simp] theorem pairViewTwin_iff (f : Twin → Twin) : PairViewTwin f ↔ ∀ x, (f x).seam = x.seam ∧ (f x).left = x.left ∧ (f x).leaving = x.leaving ∧ (f x).hbT = x.hbT ∧ (f x).heldWrites = x.heldWrites := .rfl

@[simp] theorem pairView_onTwin (f : Twin → Twin) (b : Body) (h : PairViewTwin f) : pairView (b.onTwin f) = pairView b :=
  pairView_set_twin b _ (h b.twin).1 (h b.twin).2.1 (h b.twin).2.2.1 (h b.twin).2.2.2.1 (h b.twin).2.2.2.2

@[simp] theorem pairView_wr (b : Body) (f : Fld) (i v : Nat) (h : busyFld f = true) : pairView (b.wr f i v) = pairView b := by
  have hone : (fun g j => if busyFld g then 0 else (b.wr f i v).rd g j) = fun g j => if busyFld g then 0 else b.rd g j := by
    funext g j
    split
    · rfl
    next hg => exact rd_wr_fld _ _ _ _ _ _ fun hgf => hg (by rw [hgf, h])
  unfold pairView
  rw [hone]
  rfl

@[simp] theorem pairView_bump (b : Body) (f : Fld) (i : Nat) (h : busyFld f = true) : pairView (b.bump f i) = pairView b :=
  pairView_wr _ _ _ _ h

/-- A list of fields that all may be written. -/
def AllBusy (fs : List (Fld × Nat)) : Prop := ∀ p ∈ fs, busyFld p.1 = true

@[simp] theorem allBusy_iff (fs : List (Fld × Nat)) : AllBusy fs ↔ ∀ p ∈ fs, busyFld p.1 = true := .rfl

@[simp] theorem pairView_foldl_wr (n : Nat) (fs : List (Fld × Nat)) (b : Body) (h : AllBusy fs) :
    pairView (fs.foldl (fun b f => b.wr f.1 n f.2) b) = pairView b := by
  induction fs generalizing b with
  | nil => rfl
  | cons p fs ih =>
    rw [List.foldl_cons, ih _ fun q hq => h q (List.mem_cons_of_mem _ hq), pairView_wr _ _ _ _ (h p List.mem_cons_self)]

@[simp] theorem pairView_raise (l : Leaf) (b : Body) : pairView (b.raise l) = pairView b := by
  simp [Body.raise, apply_ite pairView, ite_self, busyFld]
@[simp] theorem pairView_raiseCh1 (n : Nat) (l : ChLeaf) (b : Body) : pairView (b.raiseCh1 n l) = pairView b := by
  simp [Body.raiseCh1, apply_ite pairView, ite_self, busyFld]
@[simp] theorem pairView_raiseCh (n : Nat) (l : ChLeaf) (b : Body) : pairView (b.raiseCh n l) = pairView b := by
  simp [Body.raiseCh]
@[simp] theorem pairView_emit (r : LRec) (b : Body) : pairView (b.emit r) = pairView b := by
  simp [Body.emit]
@[simp] theorem pairView_sendBluli (kind : Nat) (content : List Nat) (b : Body) : pairView (b.sendBluli kind content) = pairView b := by
  simp [Body.sendBluli, apply_ite pairView, ite_self]
@[simp] theorem pairView_shared (r : LRec) (b : Body) : pairView (b.shared r) = pairView b := by
  simp [Body.shared, apply_ite pairView, ite_self]
@[simp] theorem pairView_event (time code chan arg0 arg1 arg2 : Nat) (b : Body) : pairView (b.event time code chan arg0 arg1 arg2) = pairView b := by
  simp [Body.event]
@[simp] theorem pairView_framed (k : Nat) (up : Bool) (fs : List (Nat × List Nat)) (b : Body) : pairView (b.framed k up fs) = pairView b := by
  simp [Body.framed]
@[simp] theorem pairView_sendDown (k : Nat) (m : DownMsg) (b : Body) : pairView (b.sendDown k m) = pairView b := by
  simp [Body.sendDown]
@[simp] theorem pairView_fwd (n : Nat) (fs : List (Fld × Nat)) (b : Body) (h : AllBusy fs) : pairView (b.fwd n fs) = pairView b := by
  unfold Body.fwd
  rw [pairView_sendDown, pairView_foldl_wr _ _ _ h]
@[simp] theorem pairView_formPlan (e : Env) (b : Body) : pairView (b.formPlan e) = pairView b := by
  simp [Body.formPlan, apply_ite pairView, ite_self]
@[simp] theorem pairView_loadLadder (k : Nat) (b : Body) : pairView (b.loadLadder k) = pairView b := by
  simp [Body.loadLadder]
@[simp] theorem pairView_loadLadders (b : Body) : pairView (b.loadLadders) = pairView b := by
  simp [Body.loadLadders]
@[simp] theorem pairView_span (time kind edge mask : Nat) (b : Body) : pairView (b.span time kind edge mask) = pairView b := by
  simp [Body.span]
@[simp] theorem pairView_noteGap (b : Body) : pairView (b.noteGap) = pairView b := by
  simp [Body.noteGap, busyFld]
@[simp] theorem pairView_gap (stream cause t0 t1 len first last mask : Nat) (b : Body) : pairView (b.gap stream cause t0 t1 len first last mask) = pairView b := by
  simp [Body.gap, apply_ite pairView, ite_self]
@[simp] theorem pairView_calFail (e : Env) (code ch : Nat) (b : Body) : pairView (b.calFail e code ch) = pairView b := by
  simp [Body.calFail, apply_ite pairView, ite_self, busyFld]
@[simp] theorem pairView_calInterrupt (e : Env) (b : Body) : pairView (b.calInterrupt e) = pairView b := by
  unfold Body.calInterrupt
  split <;> simp [apply_ite pairView, ite_self]
@[simp] theorem pairView_markBlk (pos : Nat) (b : Body) : pairView (b.markBlk pos) = pairView b := by
  simp [Body.markBlk]
@[simp] theorem pairView_onPath (n : Nat) (f : MPath → MPath) (b : Body) : pairView (b.onPath n f) = pairView b := by
  simp [Body.onPath]
@[simp] theorem pairView_onUrg (k : Nat) (f : Urgent → Urgent) (b : Body) : pairView (b.onUrg k f) = pairView b := by
  simp [Body.onUrg]
@[simp] theorem pairView_startCap (e : Env) (k : Nat) (b : Body) : pairView (b.startCap e k) = pairView b := by
  simp [Body.startCap, apply_ite pairView, ite_self, busyFld]
@[simp] theorem pairView_onVisit (k : Nat) (cvb : Bool) (f : VisitRun → VisitRun) (b : Body) : pairView (b.onVisit k cvb f) = pairView b := by
  simp [Body.onVisit]
@[simp] theorem pairView_visitsPause (e : Env) (k : Nat) (b : Body) : pairView (b.visitsPause e k) = pairView b := by
  simp [Body.visitsPause]
@[simp] theorem pairView_visitsFollow (e : Env) (k : Nat) (b : Body) : pairView (b.visitsFollow e k) = pairView b := by
  simp [Body.visitsFollow]
@[simp] theorem pairView_setLp (e : Env) (k : Nat) (x : Bool) (b : Body) : pairView (b.setLp e k x) = pairView b := by
  simp [Body.setLp]
@[simp] theorem pairView_lowPower (e : Env) (x : Bool) (b : Body) : pairView (b.lowPower e x) = pairView b := by
  simp [Body.lowPower, apply_ite pairView, ite_self]
@[simp] theorem pairView_emptyScan (e : Env) (k : Nat) (b : Body) : pairView (b.emptyScan e k) = pairView b := by
  simp [Body.emptyScan, apply_ite pairView, ite_self]
@[simp] theorem pairView_urgentStart (e : Env) (k : Nat) (b : Body) : pairView (b.urgentStart e k) = pairView b := by
  simp [Body.urgentStart, apply_ite pairView, ite_self, busyFld]
@[simp] theorem pairView_capture (e : Env) (k src unit : Nat) (b : Body) : pairView (b.capture e k src unit) = pairView b := by
  simp [Body.capture, apply_ite pairView, ite_self]
@[simp] theorem pairView_capTrigger (e : Env) (k src unit : Nat) (b : Body) : pairView (b.capTrigger e k src unit) = pairView b := by
  simp [Body.capTrigger, apply_ite pairView, ite_self]
@[simp] theorem pairView_capTriggerAll (e : Env) (k src unit : Nat) (b : Body) : pairView (b.capTriggerAll e k src unit) = pairView b := by
  simp [Body.capTriggerAll, apply_ite pairView, ite_self]
@[simp] theorem pairView_dropMeas (n : Nat) (b : Body) : pairView (b.dropMeas n) = pairView b := by
  simp [Body.dropMeas, apply_ite pairView, ite_self, busyFld]
@[simp] theorem pairView_endCap (n : Nat) (b : Body) : pairView (b.endCap n) = pairView b := by
  simp [Body.endCap, apply_ite pairView, ite_self, busyFld]
@[simp] theorem pairView_cutWide (k : Nat) (b : Body) : pairView (b.cutWide k) = pairView b := by
  simp [Body.cutWide, apply_ite pairView, ite_self]
@[simp] theorem pairView_latchDie (e : Env) (n : Nat) (b : Body) : pairView (b.latchDie e n) = pairView b := by
  simp [Body.latchDie, apply_ite pairView, ite_self]
@[simp] theorem pairView_landFields (k : Nat) (b : Body) : pairView (b.landFields k) = pairView b := by
  simp [Body.landFields]
@[simp] theorem pairView_grantDie (e : Env) (n : Nat) (b : Body) : pairView (b.grantDie e n) = pairView b := by
  simp [Body.grantDie, apply_ite pairView, ite_self]
@[simp] theorem pairView_stateDie (e : Env) (n : Nat) (old new : ChState) (b : Body) : pairView (b.stateDie e n old new) = pairView b := by
  simp [Body.stateDie, apply_ite pairView, ite_self]
@[simp] theorem pairView_releaseDie (n : Nat) (prior : ChState) (b : Body) : pairView (b.releaseDie n prior) = pairView b := by
  simp [Body.releaseDie]
@[simp] theorem pairView_actDie (e : Env) (m : DownMsg) (b : Body) : pairView (b.actDie e m) = pairView b := by
  unfold Body.actDie
  split <;> simp
@[simp] theorem pairView_tell (e : Env) (k : Nat) (m : DownMsg) (b : Body) : pairView (b.tell e k m) = pairView b := by
  simp [Body.tell, apply_ite pairView, ite_self]
@[simp] theorem pairView_enter (e : Env) (n : Nat) (st : ChState) (reason : Nat) (b : Body) : pairView (b.enter e n st reason) = pairView b := by
  simp [Body.enter, apply_ite pairView, ite_self]
@[simp] theorem pairView_setReason (n reason : Nat) (b : Body) : pairView (b.setReason n reason) = pairView b := by
  simp [Body.setReason]
@[simp] theorem pairView_writeTrip (e : Env) (n reason t : Nat) (b : Body) : pairView (b.writeTrip e n reason t) = pairView b := by
  simp [Body.writeTrip, busyFld]
@[simp] theorem pairView_applyTrip (e : Env) (n reason t : Nat) (b : Body) : pairView (b.applyTrip e n reason t) = pairView b := by
  simp [Body.applyTrip, apply_ite pairView, ite_self, busyFld]
@[simp] theorem pairView_applyShort (e : Env) (n t : Nat) (b : Body) : pairView (b.applyShort e n t) = pairView b := by
  unfold Body.applyShort
  split <;> simp
@[simp] theorem pairView_yieldTo (e : Env) (n broken favoured : Nat) (new : ChState) (b : Body) : pairView (b.yieldTo e n broken favoured new) = pairView b := by
  simp [Body.yieldTo, busyFld]
@[simp] theorem pairView_refuse (e : Env) (n reason : Nat) (b : Body) : pairView (b.refuse e n reason) = pairView b := by
  simp [Body.refuse, apply_ite pairView, ite_self]
@[simp] theorem pairView_shed (e : Env) (n reason : Nat) (b : Body) : pairView (b.shed e n reason) = pairView b := by
  simp [Body.shed]
@[simp] theorem pairView_enqueue (e : Env) (n : Nat) (b : Body) : pairView (b.enqueue e n) = pairView b := by
  unfold Body.enqueue
  dsimp only
  split <;> (try split) <;> simp
@[simp] theorem pairView_trySeat (e : Env) (n : Nat) (b : Body) : pairView (b.trySeat e n) = pairView b := by
  simp [Body.trySeat, apply_ite pairView, ite_self]
@[simp] theorem pairView_stampSeat (e : Env) (n t : Nat) (b : Body) : pairView (b.stampSeat e n t) = pairView b := by
  simp [Body.stampSeat]
@[simp] theorem pairView_grant (e : Env) (n : Nat) (b : Body) : pairView (b.grant e n) = pairView b := by
  unfold Body.grant
  extract_lets b1 b2 b3 b4 b5
  have h5 : pairView b5 = pairView b := by simp [b5, b4, b3, b2, b1]
  exact (pairView_set_bud b5 _).trans h5
@[simp] theorem pairView_enOn (e : Env) (n : Nat) (b : Body) : pairView (b.enOn e n) = pairView b := by
  simp [Body.enOn, apply_ite pairView, ite_self]
@[simp] theorem pairView_cleared (e : Env) (n cause : Nat) (b : Body) : pairView (b.cleared e n cause) = pairView b := by
  simp [Body.cleared]
@[simp] theorem pairView_aqQualified (e : Env) (n : Nat) (b : Body) : pairView (b.aqQualified e n) = pairView b := by
  unfold Body.aqQualified
  dsimp only
  split <;> simp
@[simp] theorem pairView_aqAtQual (e : Env) (n : Nat) (b : Body) : pairView (b.aqAtQual e n) = pairView b := by
  unfold Body.aqAtQual
  split <;> simp [apply_ite pairView, ite_self]
@[simp] theorem pairView_startAq (n t : Nat) (b : Body) : pairView (b.startAq n t) = pairView b := by
  simp [Body.startAq]
@[simp] theorem pairView_stopSeat (n : Nat) (b : Body) : pairView (b.stopSeat n) = pairView b := by
  simp [Body.stopSeat]
@[simp] theorem pairView_benchIn (e : Env) (n : Nat) (b : Body) : pairView (b.benchIn e n) = pairView b := by
  simp [Body.benchIn]
@[simp] theorem pairView_restored (e : Env) (n : Nat) (st : ChState) (b : Body) : pairView (b.restored e n st) = pairView b := by
  simp [Body.restored, apply_ite pairView, ite_self]
@[simp] theorem pairView_imageOk (e : Env) (n : Nat) (b : Body) : pairView (b.imageOk e n) = pairView b := by
  unfold Body.imageOk
  dsimp only
  split <;> (try split) <;> simp [apply_ite pairView, ite_self, busyFld]
@[simp] theorem pairView_applyEv (e : Env) (n : Nat) (ev : Ev) (t : Nat) (b : Body) : pairView (b.applyEv e n ev t) = pairView b := by
  unfold Body.applyEv
  dsimp only
  split <;> (try split) <;> simp [apply_ite pairView, ite_self]
@[simp] theorem pairView_releaseHold (e : Env) (n : Nat) (b : Body) : pairView (b.releaseHold e n) = pairView b := by
  simp [Body.releaseHold, apply_ite pairView, ite_self]
@[simp] theorem pairView_releaseOne (e : Env) (n r : Nat) (b : Body) : pairView (b.releaseOne e n r) = pairView b := by
  unfold Body.releaseOne
  dsimp only
  split <;> simp
@[simp] theorem pairView_breakHold (e : Env) (n : Nat) (ev : Ev) (t : Nat) (b : Body) : pairView (b.breakHold e n ev t) = pairView b := by
  simp [Body.breakHold]
@[simp] theorem pairView_deliver (e : Env) (n : Nat) (ev : Ev) (t : Nat) (b : Body) : pairView (b.deliver e n ev t) = pairView b := by
  unfold Body.deliver
  dsimp only
  split <;> (try split) <;> (try split) <;> simp
@[simp] theorem pairView_advance (e : Env) (l : Nat) (b : Body) : pairView (b.advance e l) = pairView b := by
  unfold Body.advance
  dsimp only
  split <;> (try split) <;> simp
@[simp] theorem pairView_bbuRelease (e : Env) (b : Body) : pairView (b.bbuRelease e) = pairView b := by
  simp [Body.bbuRelease, busyFld]
@[simp] theorem pairView_raiseTmr (i : Nat) (b : Body) : pairView (b.raiseTmr i) = pairView b := by
  simp [Body.raiseTmr, apply_ite pairView, ite_self, busyFld]
@[simp] theorem pairView_matchFires (i : Nat) (b : Body) : pairView (b.matchFires i) = pairView b := by
  simp [Body.matchFires, apply_ite pairView, ite_self, busyFld]
@[simp] theorem pairView_tickStart (t i : Nat) (b : Body) : pairView (b.tickStart t i) = pairView b := by
  simp [Body.tickStart, apply_ite pairView, ite_self, busyFld]
@[simp] theorem pairView_tickTimer (e : Env) (t : Nat) (reset start : Bool) (i : Nat) (b : Body) : pairView (b.tickTimer e t reset start i) = pairView b := by
  simp [Body.tickTimer, apply_ite pairView, ite_self, busyFld]
@[simp] theorem pairView_tick (e : Env) (b : Body) : pairView (b.tick e) = pairView b := by
  simp [Body.tick]
@[simp] theorem pairView_endSoloHold (e : Env) (b : Body) : pairView (b.endSoloHold e) = pairView b := by
  simp [Body.endSoloHold, apply_ite pairView, ite_self, busyFld]
@[simp] theorem pairView_startEnds (e : Env) (b : Body) : pairView (b.startEnds e) = pairView b := by
  simp [Body.startEnds, busyFld]
@[simp] theorem pairView_emitPassed (b : Body) : pairView (b.emitPassed) = pairView b := by
  simp [Body.emitPassed, apply_ite pairView, ite_self]
@[simp] theorem pairView_splitFrom (e : Env) (b : Body) : pairView (b.splitFrom e) = pairView b := by
  simp [Body.splitFrom]
@[simp] theorem pairView_setRole (e : Env) (r : Role) (b : Body) : pairView (b.setRole e r) = pairView b := by
  simp [Body.setRole, apply_ite pairView, ite_self, busyFld]
@[simp] theorem pairView_toHiZ (b : Body) : pairView (b.toHiZ) = pairView b := by
  simp [Body.toHiZ]
@[simp] theorem pairView_compareStarch (e : Env) (b : Body) : pairView (b.compareStarch e) = pairView b := by
  simp [Body.compareStarch, apply_ite pairView, ite_self, busyFld]
@[simp] theorem pairView_dropChecked (b : Body) : pairView (b.dropChecked) = pairView b := by
  simp [Body.dropChecked, apply_ite pairView, ite_self, busyFld]
@[simp] theorem pairView_replay (e : Env) (l : Nat) (b : Body) : pairView (b.replay e l) = pairView b := by
  simp [Body.replay]
@[simp] theorem pairView_takeGate (start n : Nat) (b : Body) : pairView (b.takeGate start n) = pairView b := by
  simp [Body.takeGate]
theorem pairView_ticks (e : Env) (k : Nat) (b : Body) : pairView (Body.ticks e k b) = pairView b := by
  induction k generalizing b with
  | zero => rfl
  | succ k ih => rw [Body.ticks, ih, pairView_tick]
@[simp] theorem pairView_catchUp (e : Env) (b : Body) : pairView (b.catchUp e) = pairView b := by
  unfold Body.catchUp
  split
  · exact pairView_onTmr ..
  · exact pairView_ticks ..
@[simp] theorem pairView_takeGates (e : Env) (planned : Bool) (b : Body) : pairView (b.takeGates e planned) = pairView b := by
  unfold Body.takeGates
  extract_lets start b1 freed b2 b3 b4 b5 b6 b7 tripped b8 b9 b10 b11
  have h1 : pairView b1 = pairView b := by unfold b1; rw [pairView_loadLadders, pairView_lowPower]
  have h2 : pairView b2 = pairView b := by unfold b2; rw [pairView_forEach _ _ _ (fun _ _ => pairView_onCh ..), h1]
  have h3 : pairView b3 = pairView b := by unfold b3; rw [pairView_forEach _ _ _ (fun _ _ => pairView_advance ..), h2]
  have h4 : pairView b4 = pairView b := by unfold b4; rw [pairView_onTwin _ _ (by simp), pairView_forEach _ _ _ (fun _ _ => pairView_takeGate ..), h3]
  have h5 : pairView b5 = pairView b := by unfold b5; rw [pairView_forEach _ _ _ (fun _ _ => pairView_onEng ..), h4]
  have h6 : pairView b6 = pairView b := by unfold b6; rw [pairView_forEach _ _ _ (fun _ _ => pairView_onCh ..), h5]
  have h7 : pairView b7 = pairView b := by unfold b7; rw [pairView_forEach _ _ _ (fun _ _ => pairView_replay ..), h6]
  have h8 : pairView b8 = pairView b := by unfold b8; rw [pairView_forEach _ _ _ (fun _ _ => pairView_deliver ..), h7]
  have h9 : pairView b9 = pairView b := by unfold b9; rw [pairView_forEach _ _ _ (fun _ _ => pairView_deliver ..), h8]
  have h10 : pairView b10 = pairView b := by unfold b10; rw [pairView_forEach _ _ _ (fun _ _ => pairView_deliver ..), h9]
  have h11 : pairView b11 = pairView b := by unfold b11; rw [pairView_markBlk, pairView_catchUp, pairView_onTmr, h10]
  rw [pairView_onRcd, h11]
@[simp] theorem pairView_endHandover (e : Env) (b : Body) : pairView (b.endHandover e) = pairView b := by
  simp [Body.endHandover]
@[simp] theorem pairView_seamRecord (e : Env) (m : Seam) (b : Body) : pairView (b.seamRecord e m) = pairView b := by
  simp [Body.seamRecord]

end Sys2Proof.Proofs
end

section
/-!
SUPPORT. What the moves of a role leave as they are: the last heartbeat, the health of the module, and every register that they do not
write.
-/

namespace Sys2Proof.Proofs

open Sys2Proof Sys2Proof.Machine Sys2Proof.Safety Sys2Proof.Laws

theorem rd_of_pair {b c : Body} (h : pairView c = pairView b) (f : Fld) (hf : busyFld f = false) (i : Nat) : c.rd f i = b.rd f i := by
  simp only [pairView, Prod.mk.injEq] at h
  obtain ⟨-, -, -, h⟩ := h
  have hfi := congrFun (congrFun h f) i
  rw [hf] at hfi
  exact hfi

/-- The registers that a move of a role may write. -/
@[reducible, simp] def movedFld (f : Fld) : Bool :=
  match f with
  | .hpStatPairValid | .modExpertUnlock | .recNextblkNo | .twinLastseamTime | .twinSeamcntPlanned | .twinSeamcntUnplanned |
    .twinSeaminfoCause | .twinSeaminfoGapMax | .twinStatPairAddr | .twinStatSeamRun | .twinStatTakeover => true
  | f => busyFld f

/-- The last heartbeat, the health, and the registers that no move of a role writes. -/
def movedView (b : Body) : Option Nat × Health × Bool × (Fld → Nat → Nat) := (b.twin.hbT, b.health, b.hubDown, fun f i => if movedFld f then 0 else b.rd f i)

/-- Each turn of a fold leaves it. -/
def MovedViewKept {α : Type} (f : Body → α → Body) : Prop := ∀ b a, movedView (f b a) = movedView b

@[simp] theorem movedViewKept_iff {α : Type} (f : Body → α → Body) : MovedViewKept f ↔ ∀ b a, movedView (f b a) = movedView b := .rfl

@[simp] theorem movedView_foldl {α : Type} (f : Body → α → Body) (l : List α) (b : Body) (hf : MovedViewKept f) : movedView (l.foldl f b) = movedView b :=
  part_foldl movedView f hf l b

@[simp] theorem movedView_forEach (b : Body) (l : List Nat) (f : Nat → Body → Body) (hf : MovedViewKept fun b n => f n b) :
    movedView (b.forEach l f) = movedView b :=
  part_foldl movedView _ hf l b

@[simp] theorem movedView_set_role (b : Body) (x : Role) : movedView { b with role := x } = movedView b := (rfl)
@[simp] theorem movedView_set_chan (b : Body) (x : Vector Chan 128) : movedView { b with chan := x } = movedView b := (rfl)
@[simp] theorem movedView_set_eng (b : Body) (x : Vector Eng 128) : movedView { b with eng := x } = movedView b := (rfl)
@[simp] theorem movedView_set_die (b : Body) (x : Vector Die 8) : movedView { b with die := x } = movedView b := (rfl)
@[simp] theorem movedView_set_bud (b : Body) (x : Budget) : movedView { b with bud := x } = movedView b := (rfl)
@[simp] theorem movedView_set_rcd (b : Body) (x : Recorder) : movedView { b with rcd := x } = movedView b := (rfl)
@[simp] theorem movedView_set_mtr (b : Body) (x : Meter) : movedView { b with mtr := x } = movedView b := (rfl)
@[simp] theorem movedView_set_disc (b : Body) (x : Disc) : movedView { b with disc := x } = movedView b := (rfl)
@[simp] theorem movedView_set_tmr (b : Body) (x : Timers) : movedView { b with tmr := x } = movedView b := (rfl)
@[simp] theorem movedView_set_fdr (b : Body) (x : FeederPort) : movedView { b with fdr := x } = movedView b := (rfl)
@[simp] theorem movedView_set_twin (b : Body) (x : Twin) (h0 : x.hbT = b.twin.hbT) : movedView { b with twin := x } = movedView b := by
  unfold movedView
  simp only [h0]; rfl
@[simp] theorem movedView_set_boot (b : Body) (x : Boot) : movedView { b with boot := x } = movedView b := (rfl)
@[simp] theorem movedView_set_hp (b : Body) (x : Vector HostPort 2) : movedView { b with hp := x } = movedView b := (rfl)
@[simp] theorem movedView_set_gainDue (b : Body) (x : List Nat) : movedView { b with gainDue := x } = movedView b := (rfl)
@[simp] theorem movedView_set_dozeReq (b : Body) (x : Option Nat) : movedView { b with dozeReq := x } = movedView b := (rfl)
@[simp] theorem movedView_set_trendWords (b : Body) (x : List (Nat × Nat)) : movedView { b with trendWords := x } = movedView b := (rfl)
@[simp] theorem movedView_set_alertLow (b : Body) (x : Bool) : movedView { b with alertLow := x } = movedView b := (rfl)
@[simp] theorem movedView_set_alertHold (b : Body) (x : Bool) : movedView { b with alertHold := x } = movedView b := (rfl)
@[simp] theorem movedView_set_doze (b : Body) (x : Bool) : movedView { b with doze := x } = movedView b := (rfl)
@[simp] theorem movedView_set_dozeLeaves (b : Body) (x : List (Nat × Nat)) : movedView { b with dozeLeaves := x } = movedView b := (rfl)
@[simp] theorem movedView_set_reply (b : Body) (x : List Nat) : movedView { b with reply := x } = movedView b := (rfl)
@[simp] theorem movedView_set_freeIx (b : Body) (x : Nat) : movedView { b with freeIx := x } = movedView b := (rfl)
@[simp] theorem movedView_onCh (b : Body) (n : Nat) (f : Chan → Chan) : movedView (b.onCh n f) = movedView b := (rfl)
@[simp] theorem movedView_onEng (b : Body) (n : Nat) (f : Eng → Eng) : movedView (b.onEng n f) = movedView b := (rfl)
@[simp] theorem movedView_onDie (b : Body) (k : Nat) (f : Die → Die) : movedView (b.onDie k f) = movedView b := (rfl)
@[simp] theorem movedView_dwr (b : Body) (k : Nat) (f : Fld) (i v : Nat) : movedView (b.dwr k f i v) = movedView b := (rfl)
@[simp] theorem movedView_onRcd (f : Recorder → Recorder) (b : Body) : movedView (b.onRcd f) = movedView b := (rfl)
@[simp] theorem movedView_onMtr (f : Meter → Meter) (b : Body) : movedView (b.onMtr f) = movedView b := (rfl)
@[simp] theorem movedView_onTmr (f : Timers → Timers) (b : Body) : movedView (b.onTmr f) = movedView b := (rfl)

/-- A change of a part of the body that leaves what is kept of it. -/
def MovedViewTwin (f : Twin → Twin) : Prop := ∀ x, (f x).hbT = x.hbT

@[simp] theorem movedViewTwin_iff (f : Twin → Twin) : MovedViewTwin f ↔ ∀ x, (f x).hbT = x.hbT := .rfl

@[simp] theorem movedView_onTwin (f : Twin → Twin) (b : Body) (h : MovedViewTwin f) : movedView (b.onTwin f) = movedView b :=
  movedView_set_twin b _ (h b.twin)

theorem movedView_of_pair {b c : Body} (h : pairView c = pairView b) : movedView c = movedView b := by
  have hrd : ∀ f, busyFld f = false → ∀ i, c.rd f i = b.rd f i := rd_of_pair h
  simp only [pairView, Prod.mk.injEq] at h
  obtain ⟨⟨-, -, -, hb, -⟩, hh, hd, -⟩ := h
  unfold movedView
  rw [hb, hh, hd]
  congr 3
  funext f i
  split
  · rfl
  next hf => exact hrd f (Bool.eq_false_iff.2 fun hb => hf (by unfold movedFld; split <;> first | rfl | exact hb)) i

@[simp] theorem movedView_wr (b : Body) (f : Fld) (i v : Nat) (h : movedFld f = true) : movedView (b.wr f i v) = movedView b := by
  have hone : (fun g j => if movedFld g then 0 else (b.wr f i v).rd g j) = fun g j => if movedFld g then 0 else b.rd g j := by
    funext g j
    split
    · rfl
    next hg => exact rd_wr_fld _ _ _ _ _ _ fun hgf => hg (by rw [hgf, h])
  unfold movedView
  rw [hone]
  rfl

@[simp] theorem movedView_bump (b : Body) (f : Fld) (i : Nat) (h : movedFld f = true) : movedView (b.bump f i) = movedView b :=
  movedView_wr _ _ _ _ h

@[simp] theorem movedView_raise (l : Leaf) (b : Body) : movedView (b.raise l) = movedView b := movedView_of_pair (pairView_raise ..)
@[simp] theorem movedView_raiseCh1 (n : Nat) (l : ChLeaf) (b : Body) : movedView (b.raiseCh1 n l) = movedView b := movedView_of_pair (pairView_raiseCh1 ..)
@[simp] theorem movedView_raiseCh (n : Nat) (l : ChLeaf) (b : Body) : movedView (b.raiseCh n l) = movedView b := movedView_of_pair (pairView_raiseCh ..)
@[simp] theorem movedView_emit (r : LRec) (b : Body) : movedView (b.emit r) = movedView b := movedView_of_pair (pairView_emit ..)
@[simp] theorem movedView_sendBluli (kind : Nat) (content : List Nat) (b : Body) : movedView (b.sendBluli kind content) = movedView b := movedView_of_pair (pairView_sendBluli ..)
@[simp] theorem movedView_shared (r : LRec) (b : Body) : movedView (b.shared r) = movedView b := movedView_of_pair (pairView_shared ..)
@[simp] theorem movedView_event (time code chan arg0 arg1 arg2 : Nat) (b : Body) : movedView (b.event time code chan arg0 arg1 arg2) = movedView b := movedView_of_pair (pairView_event ..)
@[simp] theorem movedView_framed (k : Nat) (up : Bool) (fs : List (Nat × List Nat)) (b : Body) : movedView (b.framed k up fs) = movedView b := movedView_of_pair (pairView_framed ..)
@[simp] theorem movedView_sendDown (k : Nat) (m : DownMsg) (b : Body) : movedView (b.sendDown k m) = movedView b := movedView_of_pair (pairView_sendDown ..)
@[simp] theorem movedView_formPlan (e : Env) (b : Body) : movedView (b.formPlan e) = movedView b := movedView_of_pair (pairView_formPlan ..)
@[simp] theorem movedView_loadLadder (k : Nat) (b : Body) : movedView (b.loadLadder k) = movedView b := movedView_of_pair (pairView_loadLadder ..)
@[simp] theorem movedView_loadLadders (b : Body) : movedView (b.loadLadders) = movedView b := movedView_of_pair (pairView_loadLadders ..)
@[simp] theorem movedView_span (time kind edge mask : Nat) (b : Body) : movedView (b.span time kind edge mask) = movedView b := movedView_of_pair (pairView_span ..)
@[simp] theorem movedView_noteGap (b : Body) : movedView (b.noteGap) = movedView b := movedView_of_pair (pairView_noteGap ..)
@[simp] theorem movedView_gap (stream cause t0 t1 len first last mask : Nat) (b : Body) : movedView (b.gap stream cause t0 t1 len first last mask) = movedView b := movedView_of_pair (pairView_gap ..)
@[simp] theorem movedView_calFail (e : Env) (code ch : Nat) (b : Body) : movedView (b.calFail e code ch) = movedView b := movedView_of_pair (pairView_calFail ..)
@[simp] theorem movedView_calInterrupt (e : Env) (b : Body) : movedView (b.calInterrupt e) = movedView b := movedView_of_pair (pairView_calInterrupt ..)
@[simp] theorem movedView_markBlk (pos : Nat) (b : Body) : movedView (b.markBlk pos) = movedView b := movedView_of_pair (pairView_markBlk ..)
@[simp] theorem movedView_onPath (n : Nat) (f : MPath → MPath) (b : Body) : movedView (b.onPath n f) = movedView b := movedView_of_pair (pairView_onPath ..)
@[simp] theorem movedView_onUrg (k : Nat) (f : Urgent → Urgent) (b : Body) : movedView (b.onUrg k f) = movedView b := movedView_of_pair (pairView_onUrg ..)
@[simp] theorem movedView_startCap (e : Env) (k : Nat) (b : Body) : movedView (b.startCap e k) = movedView b := movedView_of_pair (pairView_startCap ..)
@[simp] theorem movedView_onVisit (k : Nat) (cvb : Bool) (f : VisitRun → VisitRun) (b : Body) : movedView (b.onVisit k cvb f) = movedView b := movedView_of_pair (pairView_onVisit ..)
@[simp] theorem movedView_visitsPause (e : Env) (k : Nat) (b : Body) : movedView (b.visitsPause e k) = movedView b := movedView_of_pair (pairView_visitsPause ..)
@[simp] theorem movedView_visitsFollow (e : Env) (k : Nat) (b : Body) : movedView (b.visitsFollow e k) = movedView b := movedView_of_pair (pairView_visitsFollow ..)
@[simp] theorem movedView_setLp (e : Env) (k : Nat) (x : Bool) (b : Body) : movedView (b.setLp e k x) = movedView b := movedView_of_pair (pairView_setLp ..)
@[simp] theorem movedView_lowPower (e : Env) (x : Bool) (b : Body) : movedView (b.lowPower e x) = movedView b := movedView_of_pair (pairView_lowPower ..)
@[simp] theorem movedView_emptyScan (e : Env) (k : Nat) (b : Body) : movedView (b.emptyScan e k) = movedView b := movedView_of_pair (pairView_emptyScan ..)
@[simp] theorem movedView_urgentStart (e : Env) (k : Nat) (b : Body) : movedView (b.urgentStart e k) = movedView b := movedView_of_pair (pairView_urgentStart ..)
@[simp] theorem movedView_capture (e : Env) (k src unit : Nat) (b : Body) : movedView (b.capture e k src unit) = movedView b := movedView_of_pair (pairView_capture ..)
@[simp] theorem movedView_capTrigger (e : Env) (k src unit : Nat) (b : Body) : movedView (b.capTrigger e k src unit) = movedView b := movedView_of_pair (pairView_capTrigger ..)
@[simp] theorem movedView_capTriggerAll (e : Env) (k src unit : Nat) (b : Body) : movedView (b.capTriggerAll e k src unit) = movedView b := movedView_of_pair (pairView_capTriggerAll ..)
@[simp] theorem movedView_dropMeas (n : Nat) (b : Body) : movedView (b.dropMeas n) = movedView b := movedView_of_pair (pairView_dropMeas ..)
@[simp] theorem movedView_endCap (n : Nat) (b : Body) : movedView (b.endCap n) = movedView b := movedView_of_pair (pairView_endCap ..)
@[simp] theorem movedView_cutWide (k : Nat) (b : Body) : movedView (b.cutWide k) = movedView b := movedView_of_pair (pairView_cutWide ..)
@[simp] theorem movedView_latchDie (e : Env) (n : Nat) (b : Body) : movedView (b.latchDie e n) = movedView b := movedView_of_pair (pairView_latchDie ..)
@[simp] theorem movedView_landFields (k : Nat) (b : Body) : movedView (b.landFields k) = movedView b := movedView_of_pair (pairView_landFields ..)
@[simp] theorem movedView_grantDie (e : Env) (n : Nat) (b : Body) : movedView (b.grantDie e n) = movedView b := movedView_of_pair (pairView_grantDie ..)
@[simp] theorem movedView_stateDie (e : Env) (n : Nat) (old new : ChState) (b : Body) : movedView (b.stateDie e n old new) = movedView b := movedView_of_pair (pairView_stateDie ..)
@[simp] theorem movedView_releaseDie (n : Nat) (prior : ChState) (b : Body) : movedView (b.releaseDie n prior) = movedView b := movedView_of_pair (pairView_releaseDie ..)
@[simp] theorem movedView_actDie (e : Env) (m : DownMsg) (b : Body) : movedView (b.actDie e m) = movedView b := movedView_of_pair (pairView_actDie ..)
@[simp] theorem movedView_tell (e : Env) (k : Nat) (m : DownMsg) (b : Body) : movedView (b.tell e k m) = movedView b := movedView_of_pair (pairView_tell ..)
@[simp] theorem movedView_enter (e : Env) (n : Nat) (st : ChState) (reason : Nat) (b : Body) : movedView (b.enter e n st reason) = movedView b := movedView_of_pair (pairView_enter ..)
@[simp] theorem movedView_setReason (n reason : Nat) (b : Body) : movedView (b.setReason n reason) = movedView b := movedView_of_pair (pairView_setReason ..)
@[simp] theorem movedView_writeTrip (e : Env) (n reason t : Nat) (b : Body) : movedView (b.writeTrip e n reason t) = movedView b := movedView_of_pair (pairView_writeTrip ..)
@[simp] theorem movedView_applyTrip (e : Env) (n reason t : Nat) (b : Body) : movedView (b.applyTrip e n reason t) = movedView b := movedView_of_pair (pairView_applyTrip ..)
@[simp] theorem movedView_applyShort (e : Env) (n t : Nat) (b : Body) : movedView (b.applyShort e n t) = movedView b := movedView_of_pair (pairView_applyShort ..)
@[simp] theorem movedView_yieldTo (e : Env) (n broken favoured : Nat) (new : ChState) (b : Body) : movedView (b.yieldTo e n broken favoured new) = movedView b := movedView_of_pair (pairView_yieldTo ..)
@[simp] theorem movedView_refuse (e : Env) (n reason : Nat) (b : Body) : movedView (b.refuse e n reason) = movedView b := movedView_of_pair (pairView_refuse ..)
@[simp] theorem movedView_shed (e : Env) (n reason : Nat) (b : Body) : movedView (b.shed e n reason) = movedView b := movedView_of_pair (pairView_shed ..)
@[simp] theorem movedView_enqueue (e : Env) (n : Nat) (b : Body) : movedView (b.enqueue e n) = movedView b := movedView_of_pair (pairView_enqueue ..)
@[simp] theorem movedView_trySeat (e : Env) (n : Nat) (b : Body) : movedView (b.trySeat e n) = movedView b := movedView_of_pair (pairView_trySeat ..)
@[simp] theorem movedView_stampSeat (e : Env) (n t : Nat) (b : Body) : movedView (b.stampSeat e n t) = movedView b := movedView_of_pair (pairView_stampSeat ..)
@[simp] theorem movedView_grant (e : Env) (n : Nat) (b : Body) : movedView (b.grant e n) = movedView b := movedView_of_pair (pairView_grant ..)
@[simp] theorem movedView_enOn (e : Env) (n : Nat) (b : Body) : movedView (b.enOn e n) = movedView b := movedView_of_pair (pairView_enOn ..)
@[simp] theorem movedView_cleared (e : Env) (n cause : Nat) (b : Body) : movedView (b.cleared e n cause) = movedView b := movedView_of_pair (pairView_cleared ..)
@[simp] theorem movedView_aqQualified (e : Env) (n : Nat) (b : Body) : movedView (b.aqQualified e n) = movedView b := movedView_of_pair (pairView_aqQualified ..)
@[simp] theorem movedView_aqAtQual (e : Env) (n : Nat) (b : Body) : movedView (b.aqAtQual e n) = movedView b := movedView_of_pair (pairView_aqAtQual ..)
@[simp] theorem movedView_startAq (n t : Nat) (b : Body) : movedView (b.startAq n t) = movedView b := movedView_of_pair (pairView_startAq ..)
@[simp] theorem movedView_stopSeat (n : Nat) (b : Body) : movedView (b.stopSeat n) = movedView b := movedView_of_pair (pairView_stopSeat ..)
@[simp] theorem movedView_benchIn (e : Env) (n : Nat) (b : Body) : movedView (b.benchIn e n) = movedView b := movedView_of_pair (pairView_benchIn ..)
@[simp] theorem movedView_restored (e : Env) (n : Nat) (st : ChState) (b : Body) : movedView (b.restored e n st) = movedView b := movedView_of_pair (pairView_restored ..)
@[simp] theorem movedView_imageOk (e : Env) (n : Nat) (b : Body) : movedView (b.imageOk e n) = movedView b := movedView_of_pair (pairView_imageOk ..)
@[simp] theorem movedView_applyEv (e : Env) (n : Nat) (ev : Ev) (t : Nat) (b : Body) : movedView (b.applyEv e n ev t) = movedView b := movedView_of_pair (pairView_applyEv ..)
@[simp] theorem movedView_releaseHold (e : Env) (n : Nat) (b : Body) : movedView (b.releaseHold e n) = movedView b := movedView_of_pair (pairView_releaseHold ..)
@[simp] theorem movedView_releaseOne (e : Env) (n r : Nat) (b : Body) : movedView (b.releaseOne e n r) = movedView b := movedView_of_pair (pairView_releaseOne ..)
@[simp] theorem movedView_breakHold (e : Env) (n : Nat) (ev : Ev) (t : Nat) (b : Body) : movedView (b.breakHold e n ev t) = movedView b := movedView_of_pair (pairView_breakHold ..)
@[simp] theorem movedView_deliver (e : Env) (n : Nat) (ev : Ev) (t : Nat) (b : Body) : movedView (b.deliver e n ev t) = movedView b := movedView_of_pair (pairView_deliver ..)
@[simp] theorem movedView_advance (e : Env) (l : Nat) (b : Body) : movedView (b.advance e l) = movedView b := movedView_of_pair (pairView_advance ..)
@[simp] theorem movedView_bbuRelease (e : Env) (b : Body) : movedView (b.bbuRelease e) = movedView b := movedView_of_pair (pairView_bbuRelease ..)
@[simp] theorem movedView_raiseTmr (i : Nat) (b : Body) : movedView (b.raiseTmr i) = movedView b := movedView_of_pair (pairView_raiseTmr ..)
@[simp] theorem movedView_matchFires (i : Nat) (b : Body) : movedView (b.matchFires i) = movedView b := movedView_of_pair (pairView_matchFires ..)
@[simp] theorem movedView_tickStart (t i : Nat) (b : Body) : movedView (b.tickStart t i) = movedView b := movedView_of_pair (pairView_tickStart ..)
@[simp] theorem movedView_tickTimer (e : Env) (t : Nat) (reset start : Bool) (i : Nat) (b : Body) : movedView (b.tickTimer e t reset start i) = movedView b := movedView_of_pair (pairView_tickTimer ..)
@[simp] theorem movedView_tick (e : Env) (b : Body) : movedView (b.tick e) = movedView b := movedView_of_pair (pairView_tick ..)
@[simp] theorem movedView_endSoloHold (e : Env) (b : Body) : movedView (b.endSoloHold e) = movedView b := movedView_of_pair (pairView_endSoloHold ..)
@[simp] theorem movedView_startEnds (e : Env) (b : Body) : movedView (b.startEnds e) = movedView b := movedView_of_pair (pairView_startEnds ..)
@[simp] theorem movedView_emitPassed (b : Body) : movedView (b.emitPassed) = movedView b := movedView_of_pair (pairView_emitPassed ..)
@[simp] theorem movedView_splitFrom (e : Env) (b : Body) : movedView (b.splitFrom e) = movedView b := movedView_of_pair (pairView_splitFrom ..)
@[simp] theorem movedView_setRole (e : Env) (r : Role) (b : Body) : movedView (b.setRole e r) = movedView b := movedView_of_pair (pairView_setRole ..)
@[simp] theorem movedView_toHiZ (b : Body) : movedView (b.toHiZ) = movedView b := movedView_of_pair (pairView_toHiZ ..)
@[simp] theorem movedView_becomeSolo (e : Env) (b : Body) : movedView (b.becomeSolo e) = movedView b := by
  simp [Body.becomeSolo, apply_ite movedView, ite_self, movedFld]
@[simp] theorem movedView_compareStarch (e : Env) (b : Body) : movedView (b.compareStarch e) = movedView b := movedView_of_pair (pairView_compareStarch ..)
@[simp] theorem movedView_dropChecked (b : Body) : movedView (b.dropChecked) = movedView b := movedView_of_pair (pairView_dropChecked ..)
@[simp] theorem movedView_enterStandby (e : Env) (follows : Bool) (b : Body) : movedView (b.enterStandby e follows) = movedView b := by
  simp [Body.enterStandby, apply_ite movedView, ite_self, movedFld]
@[simp] theorem movedView_joinPartner (e : Env) (b : Body) : movedView (b.joinPartner e) = movedView b := by
  simp [Body.joinPartner]
@[simp] theorem movedView_seamMark (e : Env) (cause : Nat) (planned : Bool) (b : Body) : movedView (b.seamMark e cause planned) = movedView b := by
  unfold Body.seamMark
  extract_lets b1 boot b2 b3
  have h1 : movedView b1 = movedView b := by simp [b1]
  have h2 : movedView b2 = movedView b := (movedView_set_boot b1 _).trans h1
  have h3 : movedView b3 = movedView b := by cases planned <;> simp [b3, h2]
  simp [h3]
@[simp] theorem movedView_replay (e : Env) (l : Nat) (b : Body) : movedView (b.replay e l) = movedView b := movedView_of_pair (pairView_replay ..)
@[simp] theorem movedView_takeGate (start n : Nat) (b : Body) : movedView (b.takeGate start n) = movedView b := movedView_of_pair (pairView_takeGate ..)
@[simp] theorem movedView_catchUp (e : Env) (b : Body) : movedView (b.catchUp e) = movedView b := movedView_of_pair (pairView_catchUp ..)
@[simp] theorem movedView_takeGates (e : Env) (planned : Bool) (b : Body) : movedView (b.takeGates e planned) = movedView b := movedView_of_pair (pairView_takeGates ..)
@[simp] theorem movedView_takeover (e : Env) (b : Body) : movedView (b.takeover e) = movedView b := by
  simp [Body.takeover, movedFld]
@[simp] theorem movedView_endHandover (e : Env) (b : Body) : movedView (b.endHandover e) = movedView b := movedView_of_pair (pairView_endHandover ..)
@[simp] theorem movedView_seamRecord (e : Env) (m : Seam) (b : Body) : movedView (b.seamRecord e m) = movedView b := movedView_of_pair (pairView_seamRecord ..)
@[simp] theorem movedView_alone (e : Env) (b : Body) : movedView (b.alone e) = movedView b := by
  unfold Body.alone
  split <;> simp [apply_ite movedView, ite_self, movedFld]
@[simp] theorem movedView_partnerGone (e : Env) (b : Body) : movedView (b.partnerGone e) = movedView b := by
  unfold Body.partnerGone
  split <;> simp [apply_ite movedView, ite_self, movedFld]
@[simp] theorem movedView_hbRole (e : Env) (h : Heartbeat) (b : Body) : movedView (b.hbRole e h) = movedView b := by
  unfold Body.hbRole
  split <;> (try split) <;> (try split) <;> (try split) <;> simp
@[simp] theorem movedView_splitResolve (e : Env) (b : Body) : movedView (b.splitResolve e) = movedView b := by
  simp [Body.splitResolve, apply_ite movedView, ite_self, movedFld]
@[simp] theorem movedView_seamStart (e : Env) (cause : Nat) (b : Body) : movedView (b.seamStart e cause) = movedView b := by
  simp [Body.seamStart, apply_ite movedView, ite_self, movedFld]
@[simp] theorem movedView_seamRequest (e : Env) (cause : Nat) (b : Body) : movedView (b.seamRequest e cause) = movedView b := by
  simp [Body.seamRequest, apply_ite movedView, ite_self]
@[simp] theorem movedView_leaveGates (e : Env) (b : Body) : movedView (b.leaveGates e) = movedView b := by
  simp [Body.leaveGates, movedFld]
@[simp] theorem movedView_seamTake (e : Env) (b : Body) : movedView (b.seamTake e) = movedView b := by
  simp [Body.seamTake, movedFld]
@[simp] theorem movedView_seamEnd (e : Env) (m : Seam) (b : Body) : movedView (b.seamEnd e m) = movedView b := by
  simp [Body.seamEnd, apply_ite movedView, ite_self, movedFld]
@[simp] theorem movedView_handover (e : Env) (b : Body) : movedView (b.handover e) = movedView b := by
  simp [Body.handover, apply_ite movedView, ite_self]
@[simp] theorem movedView_standdown (e : Env) (b : Body) : movedView (b.standdown e) = movedView b := by
  simp [Body.standdown, apply_ite movedView, ite_self]

end Sys2Proof.Proofs
end

section
/-!
SUPPORT. The moves of a role: what a module is after each, and how splits and the seat of a module follow (R466 to R469).
-/

namespace Sys2Proof.Proofs

open Sys2Proof Sys2Proof.Machine Sys2Proof.Safety Sys2Proof.Laws

theorem flag_wr_fld (b : Body) (f g : Fld) (i j v : Nat) (h : g ≠ f) : (b.wr f i v).flag g j = b.flag g j := by
  rw [flag_eq, flag_eq, rd_wr_fld _ _ _ _ _ _ h]

/-! ### What the two views say -/

theorem twin_of_pair {b c : Body} (h : pairView c = pairView b) :
    c.twin.seam = b.twin.seam ∧ c.twin.left = b.twin.left ∧ c.twin.leaving = b.twin.leaving ∧ c.twin.hbT = b.twin.hbT ∧
      c.twin.heldWrites = b.twin.heldWrites := by
  simp only [pairView, Prod.mk.injEq] at h
  obtain ⟨h, -⟩ := h
  exact h

theorem hubDown_of_pair {b c : Body} (h : pairView c = pairView b) : c.hubDown = b.hubDown := by
  simp only [pairView, Prod.mk.injEq] at h
  obtain ⟨-, -, h, -⟩ := h
  exact h

theorem rd_of_moved {b c : Body} (h : movedView c = movedView b) (f : Fld) (hf : movedFld f = false) (i : Nat) : c.rd f i = b.rd f i := by
  simp only [movedView, Prod.mk.injEq] at h
  obtain ⟨-, -, -, h⟩ := h
  have hfi := congrFun (congrFun h f) i
  rw [hf] at hfi
  exact hfi

/-! ### A module that becomes STANDBY -/

/-- A module that becomes STANDBY has given up its gates, its pair address and the Seam. -/
structure StoodBy (b : Body) : Prop where
  role : b.role = .standby
  pairAddr : b.rd .twinStatPairAddr = 0
  seamRun : b.rd .twinStatSeamRun = 0
  seam : b.twin.seam = none
  left : b.twin.left = false
  heldWrites : b.twin.heldWrites = []

theorem enterStandby_stoodBy (e : Env) (follows : Bool) (b : Body) : StoodBy (b.enterStandby e follows) := by
  unfold Body.enterStandby
  extract_lets b1 b2 b3 b4 b5 b6 b7
  have hrole5 : roleOf b5 = .standby := by
    unfold b5
    rw [roleOf_lowPower, roleOf_wr, roleOf_setRole]
  have hpair5 : b5.rd .twinStatPairAddr = 0 := by
    unfold b5
    rw [rd_of_pair (pairView_lowPower ..) _ rfl, rd_wr_same]
    rfl
  clear_value b5
  have hrole7 : b7.role = .standby := hrole5
  have hpair7 : b7.rd .twinStatPairAddr = 0 := by
    unfold b7
    exact (rd_wr_fld b6 .twinStatSeamRun .twinStatPairAddr 0 0 0 (by decide)).trans hpair5
  have hrun7 : b7.rd .twinStatSeamRun = 0 := by
    unfold b7
    exact rd_wr_same b6 .twinStatSeamRun 0 0
  have htwin7 : b7.twin.seam = none ∧ b7.twin.left = false ∧ b7.twin.heldWrites = [] := ⟨rfl, rfl, rfl⟩
  clear_value b7
  have hpaths := pairView_forEach b7 (List.range 128) (fun n b => b.onPath n MPath.restart) fun c n => pairView_onPath ..
  obtain ⟨hseam, hleft, -, -, hheld⟩ := twin_of_pair hpaths
  obtain ⟨hs, hl, hw⟩ := htwin7
  exact ⟨(roleOf_forEach b7 _ _ fun c n => roleOf_onPath ..).trans hrole7, (rd_of_pair hpaths _ rfl 0).trans hpair7,
    (rd_of_pair hpaths _ rfl 0).trans hrun7, hseam.trans hs, hleft.trans hl, hheld.trans hw⟩

/-! ### A Seam that is made -/

theorem exec_splitResolve (s : State) : exec .splitResolve s = execSplitResolve s := rfl
theorem exec_modSeatContact (i : Fin 2) (made : Bool) (s : State) : exec (.modSeatContact i made) s = execModSeatContact i made s := rfl
theorem exec_modSeatQual (s : State) : exec .modSeatQual s = execModSeatQual s := rfl
theorem exec_modSeatLoss (s : State) : exec .modSeatLoss s = execModSeatLoss s := rfl
theorem exec_pairAddrArm (s : State) : exec .pairAddrArm s = execPairAddrArm s := rfl

/-- Of two SOLO modules the one that gives way becomes STANDBY, which is no takeover. -/
theorem splitResolve_givesWay (e : Env) (b : Body) (hrole : b.role = .solo) (hok : b.flag .twinStatHbOk = true)
    (hpartner : b.rd .twinStatPartnerRole = 1) (hway : b.givesWay = true) :
    (b.splitResolve e).role = .standby ∧ (b.splitResolve e).rd .twinStatTakeover = 0 := by
  unfold Body.splitResolve
  rw [if_neg (by simp [hrole, hok, hpartner, hway])]
  extract_lets first last b1 b2
  have hstood : (b2.enterStandby e false).role = .standby := (enterStandby_stoodBy ..).role
  clear_value b2
  refine ⟨?_, ?_⟩
  · show roleOf _ = _
    rw [roleOf_wr, roleOf_wr, roleOf_seamMark]
    exact hstood
  · rw [rd_wr_fld _ _ _ _ _ _ (by decide)]
    exact rd_wr_same ..

theorem modSeatQual_runs (s : State) (T : Nat) (hmade : s.body.twin.madeT = some T) (hhub : s.body.hubDown = false) :
    RunsAt .modSeatQual s (T + 20000000) fun t => t.body.rd .twinStatSeated = 1 := by
  have hexec := exec_modSeatQual s
  rw [execModSeatQual, hmade] at hexec
  refine runsAt_onHub hexec hhub ?_
  rw [onBody_body, goTo_body, settle_rd _ _ .twinStatSeated _ rfl]
  have hset : ∀ f, ((s.body.wr .twinStatSeated 0 1).onTwin f).rd .twinStatSeated = 1 := fun f => by
    rw [onTwin_rd, rd_wr_same]
    rfl
  dsimp only
  split
  · rw [rd_of_moved (movedView_hbRole ..) _ rfl]
    exact hset _
  · exact hset _

/-- A Seam that is asked for while none is made and the partner is there. -/
theorem seamStart_seam (e : Env) {cause : Nat} {b : Body} (hnone : b.twin.seam = none) (hok : b.flag .twinStatHbOk = true)
    (hlock : cause = 1 → b.flag .twinCtrlLock = false) :
    (b.seamStart e cause).twin.seam = some ⟨cause, true, e.now, none, false, false⟩ ∧ (b.seamStart e cause).rd .twinStatSeamRun = 1 := by
  unfold Body.seamStart
  rw [if_neg (by
    rw [hnone, hok]
    by_cases hc : cause = 1
    · simp [hc, hlock hc]
    · simp [hc])]
  obtain ⟨hseam, -⟩ := twin_of_pair (pairView_sendBluli 7 [0, cause]
    ((b.onTwin fun t => { t with seam := some ⟨cause, true, e.now, none, false, false⟩ }).wr .twinStatSeamRun 0 1))
  refine ⟨hseam, ?_⟩
  rw [rd_of_pair (pairView_sendBluli ..) _ rfl, rd_wr_same]
  rfl

theorem modSeatLoss_runs (s : State) (T : Nat) (hopen : s.body.twin.openSince = some T) (hseated : s.body.flag .twinStatSeated = true)
    (hhub : s.body.hubDown = false) :
    RunsAt .modSeatLoss s (T + 50000) fun t => t.body.rd .twinStatSeated = 0 ∧
      (s.body.role = .standby → t.body.twin.leaving = true) ∧
      (s.body.role = .active → s.body.twin.seam = none → s.body.flag .twinStatHbOk = true →
        t.body.twin.seam = some ⟨2, true, t.time.elapsed, none, false, false⟩) := by
  have hexec := exec_modSeatLoss s
  rw [execModSeatLoss, hopen, hseated] at hexec
  refine runsAt_onHub hexec hhub ?_
  rw [onBody_body, goTo_body, settle_rd _ _ .twinStatSeated _ rfl, settle_twin]
  dsimp only
  have hset : (s.body.wr .twinStatSeated 0 0).rd .twinStatSeated = 0 := rd_wr_same ..
  refine ⟨?_, fun hrole => ?_, fun hrole hnone hok => ?_⟩
  · split
    · rw [rd_of_moved (movedView_seamRequest ..) _ rfl]
      exact hset
    · exact hset
    · exact hset
  · rw [wr_role, hrole]
    rfl
  · rw [wr_role, hrole]
    dsimp only
    unfold Body.seamRequest
    rw [if_pos ((wr_role ..).trans hrole)]
    exact (seamStart_seam _ (by exact hnone) ((flag_wr_fld _ _ _ _ _ _ (by decide)).trans hok) (fun h => by cases h)).1

/-- Settles O54. -/
theorem splitsAndSeats : Obligations.SplitsAndSeats := by
  refine fun s hhub => ⟨fun hrole hok hpartner => ⟨fun hway => ?_, fun hway => ?_⟩, fun made => ?_, fun made => ?_,
    fun T hmade => modSeatQual_runs s T hmade hhub, fun T hopen hseated => ?_, fun hpairs hleft htake => ?_, fun htake => ?_⟩
  · refine runs_onHub (exec_splitResolve s) hhub ?_
    rw [onBody_body, settle_role, settle_rd _ _ .twinStatTakeover _ rfl]
    exact splitResolve_givesWay s.env s.body hrole hok hpartner hway
  · refine becomes_onHub (exec_splitResolve s) hhub ?_
    unfold Body.splitResolve
    rw [if_pos (by simp [hway])]
  · refine runs_onBody (exec_modSeatContact 0 made s) ?_
    rw [onBody_body, settle_twin]
    cases made <;> cases hA : s.body.twin.openA <;> cases hB : s.body.twin.openB <;> simp [Body.seatContact, hA, hB]
  · refine runs_onBody (exec_modSeatContact 1 made s) ?_
    rw [onBody_body, settle_twin]
    cases made <;> cases hA : s.body.twin.openA <;> cases hB : s.body.twin.openB <;> simp [Body.seatContact, hA, hB]
  · exact modSeatLoss_runs s T hopen hseated hhub
  · refine becomes_onHub (exec_pairAddrArm s) hhub ?_
    rw [if_pos (by simp [hpairs, hleft, htake])]
  · refine becomes_onHub (exec_pairAddrArm s) hhub ?_
    rw [if_neg (by simp [htake])]

end Sys2Proof.Proofs
end

section
/-!
SUPPORT. What a step of the count leaves as it is (R384): the role, the gates, what is held of the partner, and every register but those of
the timebase and of the recorder.
-/

namespace Sys2Proof.Proofs

open Sys2Proof Sys2Proof.Machine Sys2Proof.Safety Sys2Proof.Laws

/-- The registers that a step of the count may write. -/
@[reducible, simp] def countFld (f : Fld) : Bool :=
  match f with
  | .alertLeaf | .recNextblkNo | .recTrendcfgInterval | .tbHoldsecSec | .tbLaststepDelta | .tbRateRate | .tbSetctlCause |
    .tbStatGood | .tbStatState | .tbStatStepped | .tbStatTimeSet | .tbSteptimeTime => true
  | _ => false

/-- The role, the gates, what is held of the partner, and the registers that no step of the count writes. -/
def countView (b : Body) : Role × Bool × (Option Seam × Bool × Option Nat × List (Nat × Nat)) × (Nat → Gate) × (Fld → Nat → Nat) := (b.role, b.hubDown, (b.twin.seam, b.twin.left, b.twin.hbT, b.twin.heldWrites), fun n => (b.en n).gate, fun f i => if countFld f then 0 else b.rd f i)

/-- Each turn of a fold leaves it. -/
def CountViewKept {α : Type} (f : Body → α → Body) : Prop := ∀ b a, countView (f b a) = countView b

@[simp] theorem countViewKept_iff {α : Type} (f : Body → α → Body) : CountViewKept f ↔ ∀ b a, countView (f b a) = countView b := .rfl

@[simp] theorem countView_foldl {α : Type} (f : Body → α → Body) (l : List α) (b : Body) (hf : CountViewKept f) : countView (l.foldl f b) = countView b :=
  part_foldl countView f hf l b

@[simp] theorem countView_forEach (b : Body) (l : List Nat) (f : Nat → Body → Body) (hf : CountViewKept fun b n => f n b) :
    countView (b.forEach l f) = countView b :=
  part_foldl countView _ hf l b

@[simp] theorem countView_set_chan (b : Body) (x : Vector Chan 128) : countView { b with chan := x } = countView b := (rfl)
@[simp] theorem countView_set_die (b : Body) (x : Vector Die 8) : countView { b with die := x } = countView b := (rfl)
@[simp] theorem countView_set_bud (b : Body) (x : Budget) : countView { b with bud := x } = countView b := (rfl)
@[simp] theorem countView_set_rcd (b : Body) (x : Recorder) : countView { b with rcd := x } = countView b := (rfl)
@[simp] theorem countView_set_mtr (b : Body) (x : Meter) : countView { b with mtr := x } = countView b := (rfl)
@[simp] theorem countView_set_disc (b : Body) (x : Disc) : countView { b with disc := x } = countView b := (rfl)
@[simp] theorem countView_set_tmr (b : Body) (x : Timers) : countView { b with tmr := x } = countView b := (rfl)
@[simp] theorem countView_set_health (b : Body) (x : Health) : countView { b with health := x } = countView b := (rfl)
@[simp] theorem countView_set_fdr (b : Body) (x : FeederPort) : countView { b with fdr := x } = countView b := (rfl)
@[simp] theorem countView_set_twin (b : Body) (x : Twin) (h0 : x.seam = b.twin.seam) (h1 : x.left = b.twin.left) (h2 : x.hbT = b.twin.hbT) (h3 : x.heldWrites = b.twin.heldWrites) : countView { b with twin := x } = countView b := by
  unfold countView
  simp only [h0, h1, h2, h3]; rfl
@[simp] theorem countView_set_boot (b : Body) (x : Boot) : countView { b with boot := x } = countView b := (rfl)
@[simp] theorem countView_set_hp (b : Body) (x : Vector HostPort 2) : countView { b with hp := x } = countView b := (rfl)
@[simp] theorem countView_set_gainDue (b : Body) (x : List Nat) : countView { b with gainDue := x } = countView b := (rfl)
@[simp] theorem countView_set_dozeReq (b : Body) (x : Option Nat) : countView { b with dozeReq := x } = countView b := (rfl)
@[simp] theorem countView_set_trendWords (b : Body) (x : List (Nat × Nat)) : countView { b with trendWords := x } = countView b := (rfl)
@[simp] theorem countView_set_alertLow (b : Body) (x : Bool) : countView { b with alertLow := x } = countView b := (rfl)
@[simp] theorem countView_set_alertHold (b : Body) (x : Bool) : countView { b with alertHold := x } = countView b := (rfl)
@[simp] theorem countView_set_doze (b : Body) (x : Bool) : countView { b with doze := x } = countView b := (rfl)
@[simp] theorem countView_set_dozeLeaves (b : Body) (x : List (Nat × Nat)) : countView { b with dozeLeaves := x } = countView b := (rfl)
@[simp] theorem countView_set_reply (b : Body) (x : List Nat) : countView { b with reply := x } = countView b := (rfl)
@[simp] theorem countView_set_freeIx (b : Body) (x : Nat) : countView { b with freeIx := x } = countView b := (rfl)
@[simp] theorem countView_onCh (b : Body) (n : Nat) (f : Chan → Chan) : countView (b.onCh n f) = countView b := (rfl)
@[simp] theorem countView_onDie (b : Body) (k : Nat) (f : Die → Die) : countView (b.onDie k f) = countView b := (rfl)
@[simp] theorem countView_dwr (b : Body) (k : Nat) (f : Fld) (i v : Nat) : countView (b.dwr k f i v) = countView b := (rfl)
@[simp] theorem countView_onRcd (f : Recorder → Recorder) (b : Body) : countView (b.onRcd f) = countView b := (rfl)
@[simp] theorem countView_onDisc (f : Disc → Disc) (b : Body) : countView (b.onDisc f) = countView b := (rfl)

/-- A change of a part of the body that leaves what is kept of it. -/
def CountViewTwin (f : Twin → Twin) : Prop := ∀ x, (f x).seam = x.seam ∧ (f x).left = x.left ∧ (f x).hbT = x.hbT ∧ (f x).heldWrites = x.heldWrites

@[simp] theorem countViewTwin_iff (f : Twin → Twin) : CountViewTwin f ↔ ∀ x, (f x).seam = x.seam ∧ (f x).left = x.left ∧ (f x).hbT = x.hbT ∧ (f x).heldWrites = x.heldWrites := .rfl

@[simp] theorem countView_onTwin (f : Twin → Twin) (b : Body) (h : CountViewTwin f) : countView (b.onTwin f) = countView b :=
  countView_set_twin b _ (h b.twin).1 (h b.twin).2.1 (h b.twin).2.2.1 (h b.twin).2.2.2

@[simp] theorem countView_wr (b : Body) (f : Fld) (i v : Nat) (h : countFld f = true) : countView (b.wr f i v) = countView b := by
  have hone : (fun g j => if countFld g then 0 else (b.wr f i v).rd g j) = fun g j => if countFld g then 0 else b.rd g j := by
    funext g j
    split
    · rfl
    next hg => exact rd_wr_fld _ _ _ _ _ _ fun hgf => hg (by rw [hgf, h])
  unfold countView
  rw [hone]
  rfl

@[simp] theorem countView_onEng (b : Body) (m : Nat) (f : Eng → Eng) (h : GateSame f) : countView (b.onEng m f) = countView b := by
  have hone : ∀ n, ((b.onEng m f).en n).gate = (b.en n).gate := fun n => by
    rw [en_onEng]
    split
    next hn => rw [h, en_congr b hn]
    · rfl
  unfold countView
  simp only [hone]
  rfl

@[simp] theorem countView_raise (l : Leaf) (b : Body) : countView (b.raise l) = countView b := by
  simp [Body.raise, apply_ite countView, ite_self, countFld]
@[simp] theorem countView_emit (r : LRec) (b : Body) : countView (b.emit r) = countView b := by
  simp [Body.emit]
@[simp] theorem countView_sendBluli (kind : Nat) (content : List Nat) (b : Body) : countView (b.sendBluli kind content) = countView b := by
  simp [Body.sendBluli, apply_ite countView, ite_self]
@[simp] theorem countView_shared (r : LRec) (b : Body) : countView (b.shared r) = countView b := by
  simp [Body.shared, apply_ite countView, ite_self]
@[simp] theorem countView_event (time code chan arg0 arg1 arg2 : Nat) (b : Body) : countView (b.event time code chan arg0 arg1 arg2) = countView b := by
  simp [Body.event]
@[simp] theorem countView_onPath (n : Nat) (f : MPath → MPath) (b : Body) : countView (b.onPath n f) = countView b := by
  simp [Body.onPath]
@[simp] theorem countView_closeInterval (e : Env) (n : Nat) (b : Body) : countView (b.closeInterval e n) = countView b := by
  simp [Body.closeInterval]
@[simp] theorem countView_trendTurn (e : Env) (b : Body) : countView (b.trendTurn e) = countView b := by
  unfold Body.trendTurn
  split <;> simp [apply_ite countView, ite_self, countFld]
@[simp] theorem countView_closeDie (e : Env) (k : Nat) (b : Body) : countView (b.closeDie e k) = countView b := by
  simp [Body.closeDie, apply_ite countView, ite_self]
@[simp] theorem countView_writeBlock (w : BlkEnd) (b : Body) : countView (b.writeBlock w) = countView b := by
  simp [Body.writeBlock, countFld]
theorem countView_writeBlocks (k : Nat) (b : Body) : countView (Body.writeBlocks k b) = countView b := by
  induction k generalizing b with
  | zero => rfl
  | succ k ih =>
    unfold Body.writeBlocks
    split
    · rfl
    · simp [apply_ite countView, ih]
@[simp] theorem countView_settleBlocks (b : Body) : countView b.settleBlocks = countView b := countView_writeBlocks ..
@[simp] theorem countView_closeBlock (e : Env) (step : Bool) (b : Body) : countView (b.closeBlock e step) = countView b := by
  simp [Body.closeBlock]
@[simp] theorem countView_tbState (e : Env) (st : Nat) (b : Body) : countView (b.tbState e st) = countView b := by
  simp [Body.tbState, apply_ite countView, ite_self, countFld]
@[simp] theorem countView_stepClose (e : Env) (b : Body) : countView (b.stepClose e) = countView b := by
  simp [Body.stepClose, apply_ite countView, ite_self]
@[simp] theorem countView_stepOpen (old : Nat) (d : Int) (cause : Nat) (e : Env) (b : Body) : countView (b.stepOpen old d cause e) = countView b := by
  simp [Body.stepOpen, apply_ite countView, ite_self, countFld]

end Sys2Proof.Proofs
end

section
/-!
SUPPORT. The gates, which a change of role and the frames beside it leave as they are.
-/

namespace Sys2Proof.Proofs

open Sys2Proof Sys2Proof.Machine Sys2Proof.Safety Sys2Proof.Laws

/-- The gates of the engines. -/
def gateView (b : Body) : Nat → Gate := fun n => (b.en n).gate

/-- Each turn of a fold leaves it. -/
def GateViewKept {α : Type} (f : Body → α → Body) : Prop := ∀ b a, gateView (f b a) = gateView b

@[simp] theorem gateViewKept_iff {α : Type} (f : Body → α → Body) : GateViewKept f ↔ ∀ b a, gateView (f b a) = gateView b := .rfl

@[simp] theorem gateView_foldl {α : Type} (f : Body → α → Body) (l : List α) (b : Body) (hf : GateViewKept f) : gateView (l.foldl f b) = gateView b :=
  part_foldl gateView f hf l b

@[simp] theorem gateView_forEach (b : Body) (l : List Nat) (f : Nat → Body → Body) (hf : GateViewKept fun b n => f n b) :
    gateView (b.forEach l f) = gateView b :=
  part_foldl gateView _ hf l b

@[simp] theorem gateView_set_role (b : Body) (x : Role) : gateView { b with role := x } = gateView b := (rfl)
@[simp] theorem gateView_set_regs (b : Body) (x : Sparse) : gateView { b with regs := x } = gateView b := (rfl)
@[simp] theorem gateView_set_chan (b : Body) (x : Vector Chan 128) : gateView { b with chan := x } = gateView b := (rfl)
@[simp] theorem gateView_set_die (b : Body) (x : Vector Die 8) : gateView { b with die := x } = gateView b := (rfl)
@[simp] theorem gateView_set_bud (b : Body) (x : Budget) : gateView { b with bud := x } = gateView b := (rfl)
@[simp] theorem gateView_set_rcd (b : Body) (x : Recorder) : gateView { b with rcd := x } = gateView b := (rfl)
@[simp] theorem gateView_set_mtr (b : Body) (x : Meter) : gateView { b with mtr := x } = gateView b := (rfl)
@[simp] theorem gateView_set_disc (b : Body) (x : Disc) : gateView { b with disc := x } = gateView b := (rfl)
@[simp] theorem gateView_set_tmr (b : Body) (x : Timers) : gateView { b with tmr := x } = gateView b := (rfl)
@[simp] theorem gateView_set_health (b : Body) (x : Health) : gateView { b with health := x } = gateView b := (rfl)
@[simp] theorem gateView_set_fdr (b : Body) (x : FeederPort) : gateView { b with fdr := x } = gateView b := (rfl)
@[simp] theorem gateView_set_twin (b : Body) (x : Twin) : gateView { b with twin := x } = gateView b := (rfl)
@[simp] theorem gateView_set_boot (b : Body) (x : Boot) : gateView { b with boot := x } = gateView b := (rfl)
@[simp] theorem gateView_set_hp (b : Body) (x : Vector HostPort 2) : gateView { b with hp := x } = gateView b := (rfl)
@[simp] theorem gateView_set_gainDue (b : Body) (x : List Nat) : gateView { b with gainDue := x } = gateView b := (rfl)
@[simp] theorem gateView_set_dozeReq (b : Body) (x : Option Nat) : gateView { b with dozeReq := x } = gateView b := (rfl)
@[simp] theorem gateView_set_trendWords (b : Body) (x : List (Nat × Nat)) : gateView { b with trendWords := x } = gateView b := (rfl)
@[simp] theorem gateView_set_alertLow (b : Body) (x : Bool) : gateView { b with alertLow := x } = gateView b := (rfl)
@[simp] theorem gateView_set_alertHold (b : Body) (x : Bool) : gateView { b with alertHold := x } = gateView b := (rfl)
@[simp] theorem gateView_set_hubDown (b : Body) (x : Bool) : gateView { b with hubDown := x } = gateView b := (rfl)
@[simp] theorem gateView_set_doze (b : Body) (x : Bool) : gateView { b with doze := x } = gateView b := (rfl)
@[simp] theorem gateView_set_dozeLeaves (b : Body) (x : List (Nat × Nat)) : gateView { b with dozeLeaves := x } = gateView b := (rfl)
@[simp] theorem gateView_set_reply (b : Body) (x : List Nat) : gateView { b with reply := x } = gateView b := (rfl)
@[simp] theorem gateView_set_freeIx (b : Body) (x : Nat) : gateView { b with freeIx := x } = gateView b := (rfl)
@[simp] theorem gateView_wr (b : Body) (f : Fld) (i v : Nat) : gateView (b.wr f i v) = gateView b := (rfl)
@[simp] theorem gateView_bump (b : Body) (f : Fld) (i : Nat) : gateView (b.bump f i) = gateView b := (rfl)
@[simp] theorem gateView_onCh (b : Body) (n : Nat) (f : Chan → Chan) : gateView (b.onCh n f) = gateView b := (rfl)
@[simp] theorem gateView_onDie (b : Body) (k : Nat) (f : Die → Die) : gateView (b.onDie k f) = gateView b := (rfl)
@[simp] theorem gateView_dwr (b : Body) (k : Nat) (f : Fld) (i v : Nat) : gateView (b.dwr k f i v) = gateView b := (rfl)
@[simp] theorem gateView_onTwin (f : Twin → Twin) (b : Body) : gateView (b.onTwin f) = gateView b := (rfl)

@[simp] theorem gateView_onEng (b : Body) (m : Nat) (f : Eng → Eng) (h : GateSame f) : gateView (b.onEng m f) = gateView b := by
  unfold gateView
  funext n
  rw [en_onEng]
  split
  next hn => rw [h, en_congr b hn]
  · rfl

@[simp] theorem gateView_emit (r : LRec) (b : Body) : gateView (b.emit r) = gateView b := by
  simp [Body.emit]
@[simp] theorem gateView_sendBluli (kind : Nat) (content : List Nat) (b : Body) : gateView (b.sendBluli kind content) = gateView b := by
  simp [Body.sendBluli, apply_ite gateView, ite_self]
@[simp] theorem gateView_shared (r : LRec) (b : Body) : gateView (b.shared r) = gateView b := by
  simp [Body.shared, apply_ite gateView, ite_self]
@[simp] theorem gateView_event (time code chan arg0 arg1 arg2 : Nat) (b : Body) : gateView (b.event time code chan arg0 arg1 arg2) = gateView b := by
  simp [Body.event]
@[simp] theorem gateView_onPath (n : Nat) (f : MPath → MPath) (b : Body) : gateView (b.onPath n f) = gateView b := by
  simp [Body.onPath]
@[simp] theorem gateView_onVisit (k : Nat) (cvb : Bool) (f : VisitRun → VisitRun) (b : Body) : gateView (b.onVisit k cvb f) = gateView b := by
  simp [Body.onVisit]
@[simp] theorem gateView_visitsPause (e : Env) (k : Nat) (b : Body) : gateView (b.visitsPause e k) = gateView b := by
  simp [Body.visitsPause]
@[simp] theorem gateView_visitsFollow (e : Env) (k : Nat) (b : Body) : gateView (b.visitsFollow e k) = gateView b := by
  simp [Body.visitsFollow]
@[simp] theorem gateView_setLp (e : Env) (k : Nat) (x : Bool) (b : Body) : gateView (b.setLp e k x) = gateView b := by
  simp [Body.setLp]
@[simp] theorem gateView_lowPower (e : Env) (x : Bool) (b : Body) : gateView (b.lowPower e x) = gateView b := by
  simp [Body.lowPower, apply_ite gateView, ite_self]
@[simp] theorem gateView_bbuRelease (e : Env) (b : Body) : gateView (b.bbuRelease e) = gateView b := by
  simp [Body.bbuRelease]
@[simp] theorem gateView_endSoloHold (e : Env) (b : Body) : gateView (b.endSoloHold e) = gateView b := by
  simp [Body.endSoloHold, apply_ite gateView, ite_self]
@[simp] theorem gateView_startEnds (e : Env) (b : Body) : gateView (b.startEnds e) = gateView b := by
  simp [Body.startEnds]
@[simp] theorem gateView_emitPassed (b : Body) : gateView (b.emitPassed) = gateView b := by
  simp [Body.emitPassed, apply_ite gateView, ite_self]
@[simp] theorem gateView_splitFrom (e : Env) (b : Body) : gateView (b.splitFrom e) = gateView b := by
  simp [Body.splitFrom]
@[simp] theorem gateView_setRole (e : Env) (r : Role) (b : Body) : gateView (b.setRole e r) = gateView b := by
  simp [Body.setRole, apply_ite gateView, ite_self]

end Sys2Proof.Proofs
end

section
/-!
SUPPORT. Heartbeats and their loss: what a module is after each (R451, R455, R457, R466).
-/

namespace Sys2Proof.Proofs

open Sys2Proof Sys2Proof.Machine Sys2Proof.Safety Sys2Proof.Laws

/-! ### The moves of a role -/

theorem roleOf_eq (b : Body) : roleOf b = b.role := rfl

theorem enterStandby_gate (e : Env) (follows : Bool) (b : Body) (n : Nat) : ((b.enterStandby e follows).en n).gate = .hiZ := by
  unfold Body.enterStandby
  extract_lets b1 b2 b3 b4 b5 b6 b7
  have h5 : gateView b5 = gateView b4.toHiZ := by
    unfold b5
    rw [gateView_lowPower, gateView_wr, gateView_setRole]
  clear_value b4 b5
  have h7 : gateView b7 = gateView b5 := rfl
  clear_value b7
  have hend : gateView (b7.forEach (List.range 128) fun n b => b.onPath n MPath.restart) = gateView b7 :=
    gateView_forEach _ _ _ fun c n => gateView_onPath ..
  exact (congrFun (hend.trans (h7.trans h5)) n).trans (toHiZ_gate ..)

/-- A module that is SOLO because its partner has gone makes no Seam. -/
theorem alone_leaves (e : Env) (b : Body) : (b.alone e).role = .solo ∧ (b.alone e).twin.seam = none ∧ (b.alone e).rd .twinStatSeamRun = 0 ∧
    (b.alone e).twin.heldWrites = b.twin.heldWrites := by
  unfold Body.alone
  extract_lets b1 left b2 b3
  have h1 : b1.twin.heldWrites = b.twin.heldWrites := by
    unfold b1
    split
    · split
      · obtain ⟨-, -, -, -, h⟩ := twin_of_pair (pairView_seamRecord e _ b)
        exact h
      · rfl
    · rfl
  have h2 : b2.twin.seam = none ∧ b2.rd .twinStatSeamRun = 0 ∧ b2.twin.heldWrites = b1.twin.heldWrites :=
    ⟨rfl, rd_wr_same .., rfl⟩
  have h3 : pairView b3 = pairView b2 := by
    unfold b3
    rw [pairView_setRole, pairView_endHandover]
  have hrole : b3.role = .solo := by
    unfold b3
    exact roleOf_setRole ..
  clear_value b1 b2 b3 left
  obtain ⟨hseam, -, -, -, hheld⟩ := twin_of_pair h3
  have hrun := rd_of_pair h3 .twinStatSeamRun rfl 0
  obtain ⟨hs, hr, hw⟩ := h2
  split
  · obtain ⟨hseam', -, -, -, hheld'⟩ := twin_of_pair (pairView_takeGates e true (b3.wr .twinStatPairAddr 0 1))
    refine ⟨?_, hseam'.trans (hseam.trans hs), ?_, hheld'.trans (hheld.trans (hw.trans h1))⟩
    · exact (roleOf_takeGates ..).trans ((roleOf_wr ..).trans hrole)
    · rw [rd_of_pair (pairView_takeGates ..) _ rfl, rd_wr_fld _ _ _ _ _ _ (by decide)]
      exact hrun.trans hr
  · exact ⟨hrole, hseam.trans hs, hrun.trans hr, hheld.trans (hw.trans h1)⟩

theorem becomeSolo_leaves (e : Env) (b : Body) : (b.becomeSolo e).role = .solo ∧ (b.becomeSolo e).rd .twinStatPairAddr = 1 ∧
    (b.becomeSolo e).rd .modBootPhase = 5 ∧ (∀ n, ((b.becomeSolo e).en n).gate = .sink) ∧
    (bitAt (e.fuse 1) 2 = true → (b.becomeSolo e).rd .modBootSoloHeld = 1) ∧ (b.becomeSolo e).twin.heldWrites = b.twin.heldWrites := by
  unfold Body.becomeSolo
  extract_lets b1 b2 b3
  have hrole : roleOf b1 = .solo := (roleOf_wr ..).trans (roleOf_setRole ..)
  have haddr : b1.rd .twinStatPairAddr = 1 := rd_wr_same ..
  have hheld : b1.twin.heldWrites = b.twin.heldWrites := (twin_of_pair (pairView_setRole e .solo b)).2.2.2.2
  have hgate : ∀ n, (b2.en n).gate = .sink := fun n => by
    unfold b2
    rw [en_forEach_all]
  have hpair : pairView b2 = pairView b1 := pairView_forEach _ _ _ fun c n => pairView_onEng ..
  have hrole2 : roleOf b2 = roleOf b1 := roleOf_forEach _ _ _ fun c n => roleOf_onEng ..
  clear_value b1 b2
  have haddr2 := (rd_of_pair hpair .twinStatPairAddr rfl 0).trans haddr
  have hheld2 := (twin_of_pair hpair).2.2.2.2.trans hheld
  have haddr3 : b3.rd .twinStatPairAddr = 1 := (rd_wr_fld b2 .modBootPhase .twinStatPairAddr 0 0 5 (by decide)).trans haddr2
  have hphase3 : b3.rd .modBootPhase = 5 := rd_wr_same ..
  split
  · refine ⟨hrole2.trans hrole, ?_, ?_, hgate, fun _ => rd_wr_same .., hheld2⟩
    · rw [rd_wr_fld _ _ _ _ _ _ (by decide), haddr3]
    · rw [rd_wr_fld _ _ _ _ _ _ (by decide), hphase3]
  next hfuse => exact ⟨hrole2.trans hrole, haddr3, hphase3, hgate, fun h => absurd h hfuse, hheld2⟩

/-- A counter that is counted rises by one, to its highest value at most. -/
theorem rd_bump_same (b : Body) (f : Fld) (i : Nat) : (b.bump f i).rd f i = min (b.rd f i + 1) (2 ^ fieldWidth f - 1) :=
  rd_wr_of_lt b i (Nat.lt_of_le_of_lt (Nat.min_le_right ..) (Nat.sub_lt (Nat.two_pow_pos _) Nat.one_pos))

/-- What the mark of a Seam writes, and that it leaves the pair address. -/
theorem seamMark_rd (e : Env) (cause : Nat) (planned : Bool) (b : Body) :
    (b.seamMark e cause planned).rd .modExpertUnlock = 0 ∧ (b.seamMark e cause planned).rd .twinSeaminfoCause = cause % 256 ∧
      (b.seamMark e cause planned).rd .twinStatTakeover = bit (!planned) ∧
      (b.seamMark e cause planned).rd .twinLastseamTime = e.count % 2 ^ 64 ∧
      (b.seamMark e cause planned).rd .twinStatPairAddr = b.rd .twinStatPairAddr ∧
      (planned = false → (b.seamMark e cause planned).rd .twinSeamcntUnplanned = min (b.rd .twinSeamcntUnplanned + 1) (2 ^ 16 - 1)) := by
  unfold Body.seamMark
  extract_lets b1 boot b2 b3
  have hcal : pairView (b.calInterrupt e) = pairView b := pairView_calInterrupt ..
  have h2 : ∀ f i, b2.rd f i = b1.rd f i := fun _ _ => rfl
  have hunlock : b2.rd .modExpertUnlock = 0 := (h2 ..).trans ((rd_wr_fld _ _ _ _ _ _ (by decide)).trans (rd_wr_same ..))
  have hcause : b2.rd .twinSeaminfoCause = cause % 256 := (h2 ..).trans (rd_wr_same ..)
  have hother : ∀ f, f ≠ .modExpertUnlock → f ≠ .twinSeaminfoCause → busyFld f = false → b2.rd f = b.rd f := fun f hu hc hb =>
    (h2 ..).trans ((rd_wr_fld _ _ _ _ _ _ hc).trans ((rd_wr_fld _ _ _ _ _ _ hu).trans (rd_of_pair hcal f hb 0)))
  clear_value b1 b2
  have hend : ∀ f, f ≠ .twinLastseamTime → busyFld f = false → ((b3.wr .twinLastseamTime 0 e.count).raise (7, 5)).rd f = b3.rd f :=
    fun f hf hb => (rd_of_pair (pairView_raise ..) f hb 0).trans (rd_wr_fld _ _ _ _ _ _ hf)
  have hb3 : ∀ f, f ≠ .twinStatTakeover → f ≠ .twinSeamcntPlanned → f ≠ .twinSeamcntUnplanned → b3.rd f = b2.rd f := fun f ht hp hu =>
    (rd_wr_fld _ _ _ _ _ _ ht).trans (rd_wr_fld _ _ _ _ _ _ (by cases planned <;> assumption))
  refine ⟨?_, ?_, ?_, ?_, ?_, fun hplanned => ?_⟩
  · rw [hend _ (by decide) rfl, hb3 _ (by decide) (by decide) (by decide), hunlock]
  · rw [hend _ (by decide) rfl, hb3 _ (by decide) (by decide) (by decide), hcause]
  · rw [hend _ (by decide) rfl]
    cases planned <;> exact rd_wr_same ..
  · rw [rd_of_pair (pairView_raise ..) _ rfl]
    exact rd_wr_same ..
  · rw [hend _ (by decide) rfl, hb3 _ (by decide) (by decide) (by decide), hother _ (by decide) (by decide) rfl]
  · rw [hend _ (by decide) rfl, ← hother .twinSeamcntUnplanned (by decide) (by decide) rfl]
    unfold b3
    rw [rd_wr_fld _ _ _ _ _ _ (by decide), hplanned]
    exact rd_bump_same ..

theorem seamMark_twin (e : Env) (cause : Nat) (planned : Bool) (b : Body) :
    (b.seamMark e cause planned).twin.seam = b.twin.seam ∧ (b.seamMark e cause planned).twin.left = b.twin.left ∧
      (b.seamMark e cause planned).twin.heldWrites = b.twin.heldWrites := by
  unfold Body.seamMark
  extract_lets b1 boot b2 b3
  have h2 : b2.twin = (b.calInterrupt e).twin := rfl
  have h3 : b3.twin = b2.twin := rfl
  obtain ⟨hs, hl, -, -, hw⟩ := twin_of_pair (pairView_calInterrupt e b)
  rw [← h2, ← h3] at hs hl hw
  clear_value b3
  obtain ⟨hs', hl', -, -, hw'⟩ := twin_of_pair (pairView_raise (7, 5) (b3.wr .twinLastseamTime 0 e.count))
  exact ⟨hs'.trans hs, hl'.trans hl, hw'.trans hw⟩

/-- What the takeover by a STANDBY module leaves (R466, R547). -/
theorem takeover_leaves (e : Env) (b : Body) :
    (b.takeover e).role = .solo ∧ (b.takeover e).rd .twinStatTakeover = 1 ∧ (b.takeover e).rd .twinSeaminfoCause = 6 ∧
      (b.takeover e).rd .twinStatPairAddr = b.rd .twinStatPairAddr ∧ (∀ p, p < 2 → (b.takeover e).rd .hpStatPairValid p = 0) ∧
      (b.takeover e).rd .twinSeamcntUnplanned = min (b.rd .twinSeamcntUnplanned + 1) (2 ^ 16 - 1) ∧
      (b.takeover e).twin.heldWrites = b.twin.heldWrites := by
  unfold Body.takeover
  extract_lets cause b1 b2 b3 b4 t
  obtain ⟨-, hcause, htake, -, haddr, hcount⟩ := seamMark_rd e cause false ((b.setRole e .solo).onTwin fun t => { t with seam := none })
  obtain ⟨-, -, hheld⟩ := seamMark_twin e cause false ((b.setRole e .solo).onTwin fun t => { t with seam := none })
  have hset : ∀ f, busyFld f = false → ((b.setRole e .solo).onTwin fun t => { t with seam := none }).rd f = b.rd f := fun f hf =>
    rd_of_pair (pairView_setRole e .solo b) f hf 0
  rw [hset _ rfl] at haddr hcount
  have hheld1 : b1.twin.heldWrites = b.twin.heldWrites := hheld.trans (twin_of_pair (pairView_setRole e .solo b)).2.2.2.2
  have hrole1 : b1.role = .solo := (roleOf_seamMark ..).trans (roleOf_setRole ..)
  have hb1 : b1 = ((b.setRole e .solo).onTwin fun t => { t with seam := none }).seamMark e cause false := rfl
  rw [← hb1] at hcause htake haddr hcount
  clear_value b1
  have h2 : ∀ f, f ≠ .hpStatPairValid → b2.rd f = b1.rd f := fun f hf =>
    (rd_wr_fld _ _ _ _ _ _ hf).trans (rd_wr_fld _ _ _ _ _ _ hf)
  have hvalid2 : ∀ p, p < 2 → b2.rd .hpStatPairValid p = 0 := fun p hp => by
    unfold b2
    rcases Nat.lt_succ_iff_lt_or_eq.1 hp with h | rfl
    · rw [Nat.lt_one_iff.1 h, rd_wr_ix _ _ _ _ _ (by decide), rd_wr_same, Nat.zero_mod]
    · rw [rd_wr_same, Nat.zero_mod]
  have hend : ∀ c, pairView (((b4.gap 1 6 t.1 e.count (e.now - t.2) 0 0 c)).takeGates e false) =
      pairView ((b2.wr .twinSeaminfoGapMax 0 0xFFFF).wr .twinStatSeamRun 0 0) := fun c => by
    rw [pairView_takeGates, pairView_gap]
    unfold b4 b3
    rw [pairView_event, pairView_raise]
  have hrole : roleOf (((b4.gap 1 6 t.1 e.count (e.now - t.2) 0 0 (2 ^ 128 - 1))).takeGates e false) = roleOf b1 := by
    rw [roleOf_takeGates, roleOf_gap]
    unfold b4 b3 b2
    rw [roleOf_event, roleOf_raise]
    rfl
  have hrd : ∀ f, busyFld f = false → f ≠ .twinSeaminfoGapMax → f ≠ .twinStatSeamRun → ∀ i,
      (((b4.gap 1 6 t.1 e.count (e.now - t.2) 0 0 (2 ^ 128 - 1))).takeGates e false).rd f i = b2.rd f i := fun f hf hg hr i =>
    (rd_of_pair (hend _) f hf i).trans ((rd_wr_fld _ _ _ _ _ _ hr).trans (rd_wr_fld _ _ _ _ _ _ hg))
  have hheld2 : b2.twin.heldWrites = b1.twin.heldWrites := rfl
  refine ⟨hrole.trans hrole1, ?_, ?_, ?_, fun p hp => ?_, ?_, ?_⟩
  · rw [hrd _ rfl (by decide) (by decide), h2 _ (by decide), htake]
    rfl
  · rw [hrd _ rfl (by decide) (by decide), h2 _ (by decide), hcause]
    rfl
  · rw [hrd _ rfl (by decide) (by decide), h2 _ (by decide), haddr]
  · rw [hrd _ rfl (by decide) (by decide), hvalid2 p hp]
  · rw [hrd _ rfl (by decide) (by decide), h2 _ (by decide), hcount rfl]
  · exact (twin_of_pair (hend _)).2.2.2.2.trans (hheld2.trans hheld1)

/-! ### The heartbeat -/

/-- What a module takes of a heartbeat before its role follows. -/
def hbHeard (e : Env) (h : Heartbeat) (b : Body) : Body :=
  let first := !b.flag .twinStatHbOk
  let b := ((b.wr .twinStatHbOk 0 1).wr .twinStatPartnerRole 0 h.role.code).wr .twinStatPartnerReady 0 (bit h.ready)
  let b := b.onTwin fun t =>
    { t with hbT := some e.now, pSlot := h.slot % 2, pTakeover := h.takeover, pLeft := h.leaving, pDigest := h.digest
             sent := ackTo h.seq t.sent, heard := t.heard || (t.txT.isSome && decide (h.role ≠ .bench)) }
  if first && b.role = .standby then b.compareStarch e else b

theorem hbTake_eq (e : Env) (h : Heartbeat) (b : Body) : b.hbTake e h = (hbHeard e h b).hbRole e h := rfl

/-- The partner shows, and the rest stands. -/
theorem hbHeard_shows (e : Env) (h : Heartbeat) (b : Body) :
    (hbHeard e h b).role = b.role ∧ (hbHeard e h b).health = b.health ∧ (hbHeard e h b).twin.heldWrites = b.twin.heldWrites ∧
      (hbHeard e h b).twin.hbT = some e.now ∧ (hbHeard e h b).rd .twinStatHbOk = 1 ∧
      (hbHeard e h b).rd .twinStatPartnerRole = h.role.code ∧ (hbHeard e h b).rd .twinStatPartnerReady = bit h.ready ∧
      (hbHeard e h b).rd .twinStatSeated = b.rd .twinStatSeated ∧ (hbHeard e h b).rd .twinStatSlot = b.rd .twinStatSlot := by
  unfold hbHeard
  extract_lets first b1 b2
  have hview : pairView (if first && b2.role = .standby then b2.compareStarch e else b2) = pairView b2 := by
    split
    · exact pairView_compareStarch ..
    · rfl
  have hrole : roleOf (if first && b2.role = .standby then b2.compareStarch e else b2) = roleOf b2 := by
    split
    · exact roleOf_compareStarch ..
    · rfl
  have h2 : b2.role = b.role ∧ b2.health = b.health ∧ b2.twin.heldWrites = b.twin.heldWrites ∧ b2.twin.hbT = some e.now ∧
      b2.regs = b1.regs := ⟨rfl, rfl, rfl, rfl, rfl⟩
  have h1 : b1.rd .twinStatHbOk = 1 ∧ b1.rd .twinStatPartnerRole = h.role.code ∧ b1.rd .twinStatPartnerReady = bit h.ready ∧
      b1.rd .twinStatSeated = b.rd .twinStatSeated ∧ b1.rd .twinStatSlot = b.rd .twinStatSlot := by
    unfold b1
    refine ⟨?_, ?_, ?_, ?_, ?_⟩
    · rw [rd_wr_fld _ _ _ _ _ _ (by decide), rd_wr_fld _ _ _ _ _ _ (by decide), rd_wr_same]
      rfl
    · rw [rd_wr_fld _ _ _ _ _ _ (by decide), rd_wr_same]
      cases h.role <;> rfl
    · rw [rd_wr_same]
      cases h.ready <;> rfl
    · rw [rd_wr_fld _ _ _ _ _ _ (by decide), rd_wr_fld _ _ _ _ _ _ (by decide), rd_wr_fld _ _ _ _ _ _ (by decide)]
    · rw [rd_wr_fld _ _ _ _ _ _ (by decide), rd_wr_fld _ _ _ _ _ _ (by decide), rd_wr_fld _ _ _ _ _ _ (by decide)]
  clear_value b1 b2 first
  obtain ⟨hr, hh, hw, ht, hregs⟩ := h2
  have hrd : ∀ f, busyFld f = false → (if first && b2.role = .standby then b2.compareStarch e else b2).rd f = b1.rd f := fun f hf =>
    (rd_of_pair hview f hf 0).trans (by unfold Body.rd; rw [hregs])
  obtain ⟨-, -, -, ht', hw'⟩ := twin_of_pair hview
  obtain ⟨hok, hpr, hre, hse, hsl⟩ := h1
  refine ⟨hrole.trans hr, ?_, hw'.trans hw, ht'.trans ht, (hrd _ rfl).trans hok, (hrd _ rfl).trans hpr, (hrd _ rfl).trans hre,
    (hrd _ rfl).trans hse, (hrd _ rfl).trans hsl⟩
  simp only [pairView, Prod.mk.injEq] at hview
  obtain ⟨-, hhealth, -⟩ := hview
  exact hhealth.trans hh

end Sys2Proof.Proofs
end

section
/-!
SUPPORT. How a module's role follows a heartbeat and its loss (R451, R455, R457, R466).
-/

namespace Sys2Proof.Proofs

open Sys2Proof Sys2Proof.Machine Sys2Proof.Safety Sys2Proof.Laws

/-! ### What a step of the count leaves -/

/-- What a step of the count leaves of the body (R384). -/
structure SameBeside (b c : Body) : Prop where
  role : c.role = b.role
  seam : c.twin.seam = b.twin.seam
  left : c.twin.left = b.twin.left
  hbT : c.twin.hbT = b.twin.hbT
  heldWrites : c.twin.heldWrites = b.twin.heldWrites
  gate : ∀ n, (c.en n).gate = (b.en n).gate
  rd : ∀ f i, countFld f = false → isTree f = false → c.rd f i = b.rd f i

theorem SameBeside.trans {b c d : Body} (h : SameBeside b c) (h' : SameBeside c d) : SameBeside b d :=
  ⟨h'.role.trans h.role, h'.seam.trans h.seam, h'.left.trans h.left, h'.hbT.trans h.hbT, h'.heldWrites.trans h.heldWrites,
    fun n => (h'.gate n).trans (h.gate n), fun f i hf ht => (h'.rd f i hf ht).trans (h.rd f i hf ht)⟩

theorem sameBeside_settle (e : Env) (b : Body) : SameBeside b (b.settle e) :=
  ⟨settle_role .., by rw [settle_twin], by rw [settle_twin], by rw [settle_twin], by rw [settle_twin], fun n => by rw [settle_en],
    fun f i _ ht => settle_rd e b f i ht⟩

theorem sameBeside_of_count {b c : Body} (h : countView c = countView b) : SameBeside b c := by
  simp only [countView, Prod.mk.injEq] at h
  obtain ⟨hrole, -, ⟨hseam, hleft, hhb, hheld⟩, hgate, hrd⟩ := h
  refine ⟨hrole, hseam, hleft, hhb, hheld, congrFun hgate, fun f i hf _ => ?_⟩
  have hfi := congrFun (congrFun hrd f) i
  rw [hf] at hfi
  exact hfi

theorem sameBeside_stepMarks (d : Int) (b : Body) : SameBeside b (b.stepMarks d) := by
  refine sameBeside_of_count (part_foldl countView _ (fun c k => ?_) _ _)
  exact countView_onDie ..

theorem sameBeside_stepBy (d : Int) (cause : Nat) (s : State) : SameBeside s.body (s.stepBy (.delta d) cause).body := by
  have hmoved : SameBeside s.body (stepMoved d s).body :=
    ((sameBeside_of_count (countView_stepClose s.env s.body)).trans (sameBeside_settle ..)).trans (sameBeside_stepMarks ..)
  rw [stepBy_body]
  exact (hmoved.trans (sameBeside_of_count (countView_stepOpen ..))).trans (sameBeside_settle ..)

theorem sameBeside_follow (entered : Bool) (c : Nat) (s : State) : SameBeside s.body (s.follow entered c).body := by
  unfold State.follow
  dsimp only
  split
  · exact sameBeside_of_count rfl
  · split
    · exact sameBeside_stepBy ..
    · exact sameBeside_stepMarks ..

/-- A STANDBY module takes the count of its partner. -/
theorem follow_count (entered : Bool) {c : Nat} (hc : c < 2 ^ 64) (s : State) : (s.follow entered c).time.count = c := by
  unfold State.follow
  dsimp only
  split
  next h => exact (Int.ofNat_inj.1 (Int.sub_eq_zero.1 h)).symm
  · split
    · rw [stepBy_time]
      dsimp only
      unfold ofSigned
      omega
    · exact Nat.mod_eq_of_lt hc

/-! ### The role that follows -/

theorem setRole_statRole (e : Env) {r : Role} {b : Body} (hne : b.role ≠ r) : (b.setRole e r).rd .twinStatRole = r.code := by
  unfold Body.setRole
  rw [if_neg hne]
  extract_lets drove b1 b2 b3 b4
  have hcode : r.code % 2 ^ fieldWidth .twinStatRole = r.code := by cases r <;> rfl
  have h3 : b3.rd .twinStatRole = r.code := by
    unfold b3
    rw [(sameBeside_of_count (countView_event ..)).rd _ _ rfl rfl, rd_wr_same, hcode]
  have h4 : b4.rd .twinStatRole = r.code := by
    unfold b4
    split
    · refine (part_foldl (fun c : Body => c.rd .twinStatRole) _ (fun c u => ?_) _ b3).trans h3
      dsimp only
      rw [(sameBeside_of_count (countView_event ..)).rd _ _ rfl rfl, rd_wr_fld _ _ _ _ _ _ (by decide)]
    · exact h3
  clear_value b4
  split
  · unfold Body.endSoloHold
    split
    · exact h4
    · generalize (b4.queue) = l
      exact (part_foldl (fun c : Body => c.rd .twinStatRole) _ (by exact fun _ _ => rfl) l _).trans
        ((rd_wr_fld _ _ _ _ _ _ (by decide)).trans h4)
  · exact h4

theorem partnerGone_heldWrites (e : Env) (b : Body) : (b.partnerGone e).twin.heldWrites = b.twin.heldWrites := by
  unfold Body.partnerGone
  split
  · exact (twin_of_pair (pairView_raise ..)).2.2.2.2.trans (alone_leaves e b).2.2.2
  · split
    · exact (takeover_leaves e b).2.2.2.2.2.2
    · exact (twin_of_pair (pairView_lowPower ..)).2.2.2.2.trans (twin_of_pair (pairView_setRole ..)).2.2.2.2
  · rfl

theorem hbRole_heldWrites (e : Env) (h : Heartbeat) (b : Body) (hnone : b.twin.heldWrites = []) :
    (b.hbRole e h).twin.heldWrites = [] := by
  unfold Body.hbRole
  split
  · split
    · exact hnone
    · split
      · exact (enterStandby_stoodBy ..).heldWrites
      · exact (enterStandby_stoodBy ..).heldWrites
      · split
        · exact (becomeSolo_leaves e b).2.2.2.2.2.trans hnone
        · exact hnone
      · exact hnone
  · split
    · exact (twin_of_pair (pairView_raise ..)).2.2.2.2.trans ((twin_of_pair (pairView_setRole ..)).2.2.2.2.trans hnone)
    · exact hnone
  · split
    · exact (partnerGone_heldWrites ..).trans hnone
    · split
      · exact (alone_leaves e b).2.2.2.trans hnone
      · exact hnone
  · split
    · exact (partnerGone_heldWrites ..).trans hnone
    · exact hnone
  · exact hnone

/-- An ACTIVE module whose partner has gone is SOLO and makes no Seam. -/
theorem partnerGone_active (e : Env) {b : Body} (hrole : b.role = .active) :
    (b.partnerGone e).role = .solo ∧ (b.partnerGone e).twin.seam = none ∧ (b.partnerGone e).rd .twinStatSeamRun = 0 := by
  obtain ⟨hr, hs, hrun, -⟩ := alone_leaves e b
  unfold Body.partnerGone
  rw [hrole]
  dsimp only
  exact ⟨(roleOf_raise ..).trans hr, (twin_of_pair (pairView_raise ..)).1.trans hs, (rd_of_pair (pairView_raise ..) _ rfl _).trans hrun⟩

theorem partnerGone_ready (e : Env) {b : Body} (hrole : b.role = .standby) (hready : b.flag .twinStatReady = true) :
    b.partnerGone e = b.takeover e := by
  unfold Body.partnerGone
  rw [hrole]
  exact if_pos hready

theorem partnerGone_unready (e : Env) {b : Body} (hrole : b.role = .standby) (hready : b.flag .twinStatReady = false) :
    (b.partnerGone e).role = .starting := by
  unfold Body.partnerGone
  rw [hrole]
  dsimp only
  rw [if_neg (by simp [hready])]
  exact (roleOf_lowPower ..).trans (roleOf_setRole ..)

theorem hbRole_active_leaving (e : Env) {h : Heartbeat} {b : Body} (hrole : b.role = .active) (hleave : h.leaving = true) :
    (b.hbRole e h).role = .solo ∧ (b.hbRole e h).twin.seam = none ∧ (b.hbRole e h).rd .twinStatSeamRun = 0 := by
  unfold Body.hbRole
  rw [hrole]
  dsimp only
  split
  · exact partnerGone_active e hrole
  · obtain ⟨hr, hs, hrun, -⟩ := alone_leaves e b
    exact ⟨hr, hs, hrun⟩

/-! ### The obligation -/

theorem heldOut_of_empty {s : State} (h : s.body.twin.heldWrites = []) : s.heldOut = s := by
  have hbody : (s.body.onTwin fun t => { t with heldWrites := [] }) = s.body := by
    rw [← h]
    rfl
  unfold State.heldOut
  split
  · rfl
  · rw [h, hbody]
    rfl

theorem heldOut_of_standby {s : State} (h : s.body.role = .standby) : s.heldOut = s := by
  unfold State.heldOut
  rw [if_pos (by simp [Body.drives, h])]

theorem countView_beat (e : Env) (b : Body) : countView (b.beat e) = countView b := by
  unfold Body.beat
  extract_lets due
  clear_value due
  split
  · rfl
  · rw [countView_onTwin _ _ (by simp), countView_sendBluli]

/-- The body as it hears a heartbeat. -/
def heardBody (h : Heartbeat) (s : State) : Body := hbHeard s.env h s.body.rxBluli

theorem heartbeat_body (h : Heartbeat) {s : State} (hhub : s.body.hubDown = false) :
    SameBeside ((heardBody h s).hbRole s.env h) (s.heartbeat h).body := by
  have hframe : SameBeside ((heardBody h s).hbRole s.env h) (s.onFrame fun e b => (b.hbTake e h).beat e).body := by
    unfold State.onFrame
    rw [onBody_body, if_neg (by simp [hhub])]
    exact (sameBeside_of_count (countView_beat ..)).trans (sameBeside_settle ..)
  unfold State.heartbeat
  dsimp only
  split
  · exact hframe.trans (sameBeside_follow ..)
  · exact hframe

theorem exec_bluliHeartbeat (h : Heartbeat) {s : State} (hhub : s.body.hubDown = false) :
    exec (.bluliHeartbeat h) s = .next (s.heartbeat h).heldOut := by
  have hexec : exec (.bluliHeartbeat h) s = execBluliHeartbeat h s := rfl
  rw [hexec, execBluliHeartbeat, if_neg (by simp [hhub])]

/-- A heartbeat when no host write is held: the module is what its role makes of what it has heard. -/
theorem heartbeat_runs (h : Heartbeat) {s : State} {P : State → Prop} (hhub : s.body.hubDown = false)
    (hheld : s.body.twin.heldWrites = [])
    (hP : ∀ t, SameBeside ((heardBody h s).hbRole s.env h) t.body → P t) : Runs (.bluliHeartbeat h) s P := by
  have hsame := heartbeat_body h hhub
  have hnone : (s.heartbeat h).body.twin.heldWrites = [] :=
    hsame.heldWrites.trans (hbRole_heldWrites _ _ _ ((hbHeard_shows s.env h s.body.rxBluli).2.2.1.trans (by
      unfold Body.rxBluli
      split
      · exact hheld
      · exact hheld)))
  exact ⟨_, (exec_bluliHeartbeat h hhub).trans (by rw [heldOut_of_empty hnone]), hP _ hsame⟩

/-- A heartbeat after which the module is STANDBY: the count is its partner's. -/
theorem heartbeat_standby (h : Heartbeat) {s : State} {P : Body → Prop} (hhub : s.body.hubDown = false) (hcount : h.count < 2 ^ 64)
    (hrole : ((heardBody h s).hbRole s.env h).role = .standby)
    (hP : ∀ c, SameBeside ((heardBody h s).hbRole s.env h) c → P c) :
    Runs (.bluliHeartbeat h) s fun t => t.body.role = .standby ∧ t.time.count = h.count ∧ P t.body := by
  have hsame := heartbeat_body h hhub
  have hstandby := hsame.role.trans hrole
  refine ⟨_, (exec_bluliHeartbeat h hhub).trans (by rw [heldOut_of_standby hstandby]), hstandby, ?_, hP _ hsame⟩
  unfold State.heartbeat
  dsimp only
  have hframe : (s.onFrame fun e b => (b.hbTake e h).beat e).body.role = .standby := by
    unfold State.onFrame
    rw [onBody_body, settle_role, if_neg (by simp [hhub])]
    exact (roleOf_beat ..).trans hrole
  rw [if_pos hframe]
  exact follow_count _ hcount _

/-- What an unanswered heartbeat leaves of the partner. -/
theorem noPartner_shows (b : Body) : b.noPartner.role = b.role ∧ b.noPartner.twin = b.twin ∧ b.noPartner.rd .twinStatHbOk = 0 ∧
    b.noPartner.rd .twinStatPartnerRole = 15 ∧ b.noPartner.rd .twinStatPartnerReady = 0 ∧
    (∀ f, f ≠ .twinStatHbOk → f ≠ .twinStatPartnerRole → f ≠ .twinStatPartnerReady → f ≠ .twinPartnerSnBytes →
      b.noPartner.rd f = b.rd f) := by
  obtain ⟨hok, hpartner⟩ := noPartner_rd b
  refine ⟨roleOf_noPartner b, ?_, hok, hpartner, ?_, fun f ho hr hy hsn => ?_⟩
  · unfold Body.noPartner
    generalize List.range 4 = l
    exact part_foldl Body.twin _ (by exact fun _ _ => rfl) l _
  · unfold Body.noPartner
    generalize List.range 4 = l
    dsimp only
    rw [rd_foldl_wr_same _ _ _ _ _ _ (by decide)]
    exact rd_wr_same ..
  · unfold Body.noPartner
    generalize List.range 4 = l
    dsimp only
    rw [rd_foldl_wr_same _ _ _ _ _ _ hsn, rd_wr_fld _ _ _ _ _ _ hy, rd_wr_fld _ _ _ _ _ _ hr, rd_wr_fld _ _ _ _ _ _ ho]

theorem rxBluli_same (b : Body) : b.rxBluli.role = b.role ∧ b.rxBluli.health = b.health ∧ b.rxBluli.regs = b.regs ∧
    b.rxBluli.twin.heldWrites = b.twin.heldWrites := by
  unfold Body.rxBluli
  split <;> exact ⟨rfl, rfl, rfl, rfl⟩

/-- What a module has heard, of what it was before. -/
theorem heardBody_shows (h : Heartbeat) (s : State) :
    (heardBody h s).role = s.body.role ∧ (heardBody h s).health = s.body.health ∧
      (heardBody h s).rd .twinStatSeated = s.body.rd .twinStatSeated ∧ (heardBody h s).rd .twinStatSlot = s.body.rd .twinStatSlot := by
  obtain ⟨hr, hh, -, -, -, -, -, hseat, hslot⟩ := hbHeard_shows s.env h s.body.rxBluli
  obtain ⟨hr', hh', hregs, -⟩ := rxBluli_same s.body
  exact ⟨hr.trans hr', hh.trans hh', hseat.trans (by unfold Body.rd; rw [hregs]), hslot.trans (by unfold Body.rd; rw [hregs])⟩

theorem exec_heartbeatLoss (s : State) : exec .heartbeatLoss s = execHeartbeatLoss s := rfl

section
variable {s : State} {T : Nat} (hT : s.body.twin.hbT = some T) (hhub : s.body.hubDown = false)
  (hok : s.body.flag .twinStatHbOk = true)

/-- The state when a heartbeat has stayed away. -/
def lostState (T : Nat) (s : State) : State := (s.goTo (T + 25000)).onBody fun e b => b.hbLost e

include hT hhub hok

theorem exec_heartbeatLoss_lost : exec .heartbeatLoss s = .next (lostState T s).heldOut := by
  rw [exec_heartbeatLoss, execHeartbeatLoss, hT, hok]
  dsimp only
  congr 2
  exact onBody_congr (if_neg (by simp [hhub]))

omit hT hhub hok in
theorem lostState_heldWrites : (lostState T s).body.twin.heldWrites = s.body.twin.heldWrites := by
  unfold lostState
  rw [onBody_body, settle_twin, goTo_body]
  unfold Body.hbLost
  rw [partnerGone_heldWrites, (noPartner_shows s.body).2.1]

theorem heartbeatLoss_runsAt {P : State → Prop} (hheld : s.body.twin.heldWrites = []) (hP : P (lostState T s)) :
    RunsAt .heartbeatLoss s (T + 25000) P :=
  runsAt_onBody ((exec_heartbeatLoss_lost hT hhub hok).trans (by rw [heldOut_of_empty (lostState_heldWrites.trans hheld)]; rfl)) hP

end

/-- What a module that has lost its partner's heartbeat shows of it. -/
theorem hbLost_shows (e : Env) (b : Body) : (b.hbLost e).rd .twinStatHbOk = 0 ∧ (b.hbLost e).rd .twinStatPartnerRole = 15 ∧
    (b.hbLost e).rd .twinStatPartnerReady = 0 ∧ (b.hbLost e).twin.hbT = b.twin.hbT := by
  obtain ⟨-, htwin, hok, hrole, hready, -⟩ := noPartner_shows b
  have hview : movedView (b.hbLost e) = movedView b.noPartner := movedView_partnerGone ..
  refine ⟨(rd_of_moved hview _ rfl 0).trans hok, (rd_of_moved hview _ rfl 0).trans hrole, (rd_of_moved hview _ rfl 0).trans hready, ?_⟩
  simp only [movedView, Prod.mk.injEq] at hview
  obtain ⟨hhb, -⟩ := hview
  rw [hhb, htwin]

/-- Settles O51. -/
theorem partner : Obligations.Partner := by
  refine ⟨fun h s hhub => ⟨fun hheld => ?_, fun hrole hpr hready hheld => ?_, fun hrole hleave hheld => ?_,
    fun hrole hseat hlvl hcount hpr => ?_, fun hrole hseat hlvl hpr hslot hheld => ?_, fun hrole hnb hns hcount => ?_⟩,
    fun T s hT hhub => ⟨fun hok hheld => ⟨?_, fun hrole => ?_, fun hrole hready => ?_, fun hrole hready => ?_⟩, fun hok => ?_, fun hok => ?_⟩⟩
  · obtain ⟨-, -, -, hhb, hok, hpartner, hready, -⟩ := hbHeard_shows s.env h s.body.rxBluli
    have hview : movedView ((heardBody h s).hbRole s.env h) = movedView (heardBody h s) := movedView_hbRole ..
    refine heartbeat_runs h hhub hheld fun t ht => ?_
    refine ⟨(ht.rd _ _ rfl rfl).trans ((rd_of_moved hview _ rfl 0).trans hok),
      (ht.rd _ _ rfl rfl).trans ((rd_of_moved hview _ rfl 0).trans hpartner),
      (ht.rd _ _ rfl rfl).trans ((rd_of_moved hview _ rfl 0).trans hready), ht.hbT.trans ?_⟩
    simp only [movedView, Prod.mk.injEq] at hview
    obtain ⟨hhb', -⟩ := hview
    exact hhb'.trans hhb
  · obtain ⟨hr, -⟩ := heardBody_shows h s
    have hsolo := hr.trans hrole
    have hstep : (heardBody h s).hbRole s.env h = ((heardBody h s).setRole s.env .active).raise (7, 2) := by
      unfold Body.hbRole
      rw [hsolo]
      exact if_pos (by simp [hpr, hready])
    refine heartbeat_runs h hhub hheld fun t ht => ?_
    rw [hstep] at ht
    refine ⟨ht.role.trans ((roleOf_raise ..).trans (roleOf_setRole ..)), (ht.rd _ _ rfl rfl).trans ?_⟩
    rw [(sameBeside_of_count (countView_raise ..)).rd _ _ rfl rfl]
    exact setRole_statRole _ (by rw [hsolo]; decide)
  · obtain ⟨hr, -⟩ := heardBody_shows h s
    obtain ⟨hsolo, hseam, hrun⟩ := hbRole_active_leaving s.env (hr.trans hrole) hleave
    refine heartbeat_runs h hhub hheld fun t ht => ?_
    exact ⟨ht.role.trans hsolo, ht.seam.trans hseam, (ht.rd _ _ rfl rfl).trans hrun⟩
  · obtain ⟨hr, hh, hs, -⟩ := heardBody_shows h s
    have hstep : (heardBody h s).hbRole s.env h = (heardBody h s).enterStandby s.env false := by
      unfold Body.hbRole
      rw [hr.trans hrole]
      dsimp only
      rw [if_neg (by
        rw [flag_eq, hs, ← flag_eq, hseat, hh]
        simp [hlvl])]
      rcases hpr with hp | hp <;> rw [hp] <;> rfl
    refine heartbeat_standby (P := fun c => ∀ n, n < 128 → (c.en n).gate = .hiZ) h hhub hcount (by rw [hstep]; exact (enterStandby_stoodBy ..).role) fun c hc n _ => ?_
    rw [hc.gate, hstep, enterStandby_gate]
  · obtain ⟨hr, hh, hs, hsl⟩ := heardBody_shows h s
    have hstep : (heardBody h s).hbRole s.env h = (heardBody h s).becomeSolo s.env := by
      unfold Body.hbRole
      rw [hr.trans hrole]
      dsimp only
      rw [if_neg (by
        rw [flag_eq, hs, ← flag_eq, hseat, hh]
        simp [hlvl]), hpr]
      exact if_pos (hsl.trans hslot)
    obtain ⟨hsolo, haddr, -⟩ := becomeSolo_leaves s.env (heardBody h s)
    refine heartbeat_runs h hhub hheld fun t ht => ?_
    rw [hstep] at ht
    exact ⟨ht.role.trans hsolo, (ht.rd _ _ rfl rfl).trans haddr⟩
  · obtain ⟨hr, -⟩ := heardBody_shows h s
    have hstep : (heardBody h s).hbRole s.env h = heardBody h s := by
      unfold Body.hbRole
      rw [hr.trans hrole]
      exact if_neg (by simp [hnb, hns])
    obtain ⟨t, hexec, hstandby, hcount, -⟩ :=
      heartbeat_standby (P := fun _ => True) h hhub hcount (by rw [hstep]; exact hr.trans hrole) fun _ _ => trivial
    exact ⟨t, hexec, hstandby, hcount⟩
  · obtain ⟨hlok, hlrole, hlready, hlhb⟩ := hbLost_shows (s.goTo (T + 25000)).env s.body
    refine heartbeatLoss_runsAt hT hhub hok hheld ?_
    unfold lostState
    rw [onBody_body, goTo_body, settle_twin, settle_rd _ _ .twinStatHbOk _ rfl, settle_rd _ _ .twinStatPartnerRole _ rfl,
      settle_rd _ _ .twinStatPartnerReady _ rfl]
    exact ⟨hlok, hlrole, hlready, hlhb.trans hT⟩
  · refine heartbeatLoss_runsAt hT hhub hok hheld ?_
    unfold lostState
    rw [onBody_body, goTo_body, settle_role, settle_twin, settle_rd _ _ .twinStatSeamRun _ rfl]
    exact partnerGone_active _ ((noPartner_shows s.body).1.trans hrole)
  · obtain ⟨hr, -, -, -, -, hrd⟩ := noPartner_shows s.body
    have hstep : ∀ e, s.body.hbLost e = s.body.noPartner.takeover e := fun e =>
      partnerGone_ready e (hr.trans hrole) (by rw [flag_eq, hrd _ (by decide) (by decide) (by decide) (by decide), ← flag_eq, hready])
    refine heartbeatLoss_runsAt hT hhub hok hheld ?_
    unfold lostState
    obtain ⟨hsolo, htake, hcause, haddr, hvalid, hcount, -⟩ := takeover_leaves (s.goTo (T + 25000)).env s.body.noPartner
    rw [onBody_body, goTo_body, hstep, settle_role, settle_rd _ _ .twinStatTakeover _ rfl, settle_rd _ _ .twinSeaminfoCause _ rfl,
      settle_rd _ _ .twinStatPairAddr _ rfl, settle_rd _ _ .twinSeamcntUnplanned _ rfl]
    rw [hrd _ (by decide) (by decide) (by decide) (by decide)] at haddr hcount
    exact ⟨hsolo, htake, hcause, haddr, fun p hp => (settle_rd _ _ .hpStatPairValid _ rfl).trans (hvalid p hp), hcount⟩
  · obtain ⟨hr, -, -, -, -, hrd⟩ := noPartner_shows s.body
    refine heartbeatLoss_runsAt hT hhub hok hheld ?_
    unfold lostState
    rw [onBody_body, goTo_body, settle_role]
    exact partnerGone_unready _ (hr.trans hrole)
      (by rw [flag_eq, hrd _ (by decide) (by decide) (by decide) (by decide), ← flag_eq, hready])
  · obtain ⟨hlok, -⟩ := hbLost_shows (s.goTo (T + 25000)).env s.body
    refine ⟨lostState T s, rfl, ?_, lostState_heldWrites, (exec_heartbeatLoss_lost hT hhub hok).trans (congrArg _ ?_)⟩
    · unfold lostState
      rw [onBody_body, goTo_body, settle_rd _ _ .twinStatHbOk _ rfl, hlok]
    · unfold State.heldOut
      cases (lostState T s).body.drives <;> cases (lostState T s).body.passes <;> rfl
  · refine becomes_stay ?_
    rw [exec_heartbeatLoss, execHeartbeatLoss, hT, hok]

end Sys2Proof.Proofs
end

section
/-!
SUPPORT. The planned Seam: how it is asked for, and what each side does at its instants (R462 to R464, R467).
-/

namespace Sys2Proof.Proofs

open Sys2Proof Sys2Proof.Machine Sys2Proof.Safety Sys2Proof.Laws

/-! ### A Seam is asked for -/

theorem exec_handover (s : State) : exec .handover s = execHandover s := rfl
theorem exec_standdown (s : State) : exec .standdown s = execStanddown s := rfl
theorem exec_seamRequest (cause : Nat) (s : State) : exec (.seamRequest cause) s = execSeamRequest cause s := rfl
theorem exec_bluliSeamControl (m : SeamMsg) (s : State) : exec (.bluliSeamControl m) s = execBluliSeamControl m s := rfl
theorem exec_seamTP (s : State) : exec .seamTP s = execSeamTP s := rfl
theorem exec_seamTS (s : State) : exec .seamTS s = execSeamTS s := rfl
theorem exec_seamConfirm (s : State) : exec .seamConfirm s = execSeamConfirm s := rfl

theorem onFrame_eq {f : Env → Body → Body} {s : State} (hhub : s.body.hubDown = false) :
    s.onFrame f = s.onBody fun e b => f e b.rxBluli := by
  unfold State.onFrame
  exact onBody_congr (if_neg (by simp [hhub]))

theorem rxBluli_eq {b : Body} (hhub : b.hubDown = false) : b.rxBluli = b.onTwin fun t => { t with rxSeq := (t.rxSeq + 1) % 65536 } := by
  unfold Body.rxBluli
  exact if_neg (by simp [hhub])

theorem seamRefusal_rxBluli {b : Body} (hhub : b.hubDown = false) (cause : Nat) : b.rxBluli.seamRefusal cause = b.seamRefusal cause := by
  rw [rxBluli_eq hhub]
  rfl

/-- A frame of a Seam acts on the body that has counted it. -/
def seamFrame (m : SeamMsg) (e : Env) (b : Body) : Body :=
  match m with
  | .request c => b.seamAsked e c
  | .accept tp ts => b.seamAccepted e tp ts
  | .refuse c =>
    match b.twin.seam with
    | some sm => if sm.plan.isSome then b else b.seamRefused e sm.cause c
    | none => if b.role = .standby && b.twin.swapReq then b.seamRefused e 3 c else b
  | .pointers ps => if b.role = .standby || b.takesGates then ps.foldl (fun b p => b.pairPtr p.1 p.2.1 p.2.2) b else b
  | .gap g => b.wr .twinSeaminfoGapMax 0 (min 0xFFFF g)

theorem exec_seamFrame (m : SeamMsg) {s : State} (hhub : s.body.hubDown = false) :
    exec (.bluliSeamControl m) s = .next (s.onBody fun e b => seamFrame m e b.rxBluli) := by
  rw [exec_bluliSeamControl, execBluliSeamControl, onFrame_eq hhub]
  cases m <;> rfl

/-- A Seam that the host asks for starts where none is made and the partner is there. -/
theorem seamStart_host (e : Env) {b : Body} (hnone : b.twin.seam = none) (hok : b.flag .twinStatHbOk = true)
    (hlock : b.flag .twinCtrlLock = false) : b.seamStart e 1 =
      ((b.onTwin fun w => { w with seam := some ⟨1, true, e.now, none, false, false⟩ }).wr .twinStatSeamRun 0 1).sendBluli 7 [0, 1] := by
  unfold Body.seamStart
  exact if_neg (by simp [hnone, hok, hlock])

theorem causeHolds_ne_one {b : Body} {cause : Nat} (h : b.causeHolds cause = true) : cause ≠ 1 := by
  rintro rfl
  cases h

theorem seamRefusal_lt (b : Body) (cause : Nat) : b.seamRefusal cause < 6 := by
  unfold Body.seamRefusal
  repeat' split
  all_goals decide

/-- What a refused Seam leaves: none, with its code. -/
theorem seamAsked_refuses (e : Env) {cause : Nat} {b : Body} (hrole : b.role = .standby) (hne : b.seamRefusal cause ≠ 0) :
    (b.seamAsked e cause).twin.seam = none ∧ (b.seamAsked e cause).rd .twinStatRefuse = b.seamRefusal cause := by
  unfold Body.seamAsked
  rw [if_neg (by simp [hrole]), if_neg (by simp [hrole])]
  extract_lets r
  rw [if_pos hne]
  unfold Body.seamRefused
  extract_lets b1
  have h1 : b1.twin.seam = none ∧ b1.rd .twinStatRefuse = r := by
    refine ⟨rfl, ?_⟩
    unfold b1
    refine (rd_wr_fld _ _ _ _ _ _ (by decide)).trans ?_
    refine (?_ : ((b.wr .twinStatRefuse 0 r).raise (7, 3)).rd .twinStatRefuse = r)
    rw [(sameBeside_of_count (countView_raise ..)).rd _ _ rfl rfl, rd_wr_of_lt _ _ (Nat.lt_of_lt_of_le (seamRefusal_lt b cause) (by decide))]
  clear_value b1
  obtain ⟨hs, hr⟩ := h1
  have hend : ∀ c : Body, c.twin.seam = none → c.rd .twinStatRefuse = r → (c.sendBluli 7 [2, r]).twin.seam = none ∧
      (c.sendBluli 7 [2, r]).rd .twinStatRefuse = r := fun c hc hcr =>
    ⟨(twin_of_pair (pairView_sendBluli ..)).1.trans hc, ((sameBeside_of_count (countView_sendBluli ..)).rd _ _ rfl rfl).trans hcr⟩
  split
  · exact hend (b1.wr .metaCalstatSwapRefused 0 1) hs ((rd_wr_fld b1 _ _ _ _ _ (by decide)).trans hr)
  · exact hend b1 hs hr

/-- What a Seam that is taken on leaves: its plan. -/
theorem seamAsked_plans (e : Env) {cause : Nat} {b : Body} (hrole : b.role = .standby) (hok : b.seamRefusal cause = 0) :
    (b.seamAsked e cause).twin.seam = some ⟨cause, false, e.now, some (e.now + 10000, e.now + 60000), false, false⟩ ∧
      (b.seamAsked e cause).rd .twinStatSeamRun = 1 := by
  unfold Body.seamAsked
  rw [if_neg (by simp [hrole]), if_neg (by simp [hrole])]
  extract_lets r
  rw [if_neg (by simp [r, hok])]
  refine ⟨(twin_of_pair (pairView_sendBluli ..)).1, ?_⟩
  rw [rd_of_pair (pairView_sendBluli ..) _ rfl]
  exact rd_wr_same ..

/-! ### The instants of a Seam -/

/-- A module whose gates are its partner's (R462). -/
structure LeftGates (b c : Body) : Prop where
  left : c.twin.left = true
  heldWrites : c.twin.heldWrites = []
  pairAddr : c.rd .twinStatPairAddr = 0
  gate : ∀ n, (c.en n).gate = .hiZ
  rd : ∀ f, f ≠ .twinStatPairAddr → busyFld f = false → c.rd f = b.rd f

/-- A body whose gates and pair address are its partner's. -/
def leftBody (d : Body) : Body := (d.onTwin fun t => { t with left := true, heldWrites := [] }).wr .twinStatPairAddr 0 0

theorem leftBody_twin (d : Body) : (leftBody d).twin.left = true ∧ (leftBody d).twin.heldWrites = [] := ⟨rfl, rfl⟩

theorem leftBody_en (d : Body) (n : Nat) : (leftBody d).en n = d.en n := rfl

theorem leftBody_pairAddr (d : Body) : (leftBody d).rd .twinStatPairAddr = 0 := rd_wr_same ..

theorem leftBody_rd (d : Body) (f : Fld) (hf : f ≠ .twinStatPairAddr) : (leftBody d).rd f = d.rd f := rd_wr_fld _ _ _ _ _ _ hf

theorem leaveGates_leftGates (e : Env) (b : Body) : LeftGates b (b.leaveGates e) := by
  unfold Body.leaveGates
  extract_lets parts b1 b2
  have h1 : b1.twin.left = true ∧ b1.twin.heldWrites = [] ∧ b1.rd .twinStatPairAddr = 0 ∧ (∀ n, (b1.en n).gate = .hiZ) ∧
      ∀ f, f ≠ .twinStatPairAddr → b1.rd f = b.rd f := by
    obtain ⟨hleft, hheld⟩ := leftBody_twin b.toHiZ
    exact ⟨hleft, hheld, leftBody_pairAddr _, fun n => (congrArg Eng.gate (leftBody_en _ n)).trans (toHiZ_gate b n),
      fun f hf => (leftBody_rd _ f hf).trans (toHiZ_rd b f 0)⟩
  clear_value b1 parts
  have hview2 : pairView b2 = pairView b1 := by
    unfold b2
    rw [pairView_foldl _ _ _ (by exact fun _ _ => pairView_sendBluli ..), pairView_sendBluli]
  have hgate2 : gateView b2 = gateView b1 := by
    unfold b2
    rw [gateView_foldl _ _ _ (by exact fun _ _ => gateView_sendBluli ..), gateView_sendBluli]
  clear_value b2
  generalize List.range 128 = l
  have hkept : ∀ (f : Nat → Body → Body), (∀ n c, pairView (f n c) = pairView c ∧ gateView (f n c) = gateView c) →
      pairView (b2.forEach l f) = pairView b1 ∧ gateView (b2.forEach l f) = gateView b1 := fun f hf =>
    ⟨(pairView_forEach b2 l f fun c n => (hf n c).1).trans hview2, (gateView_forEach b2 l f fun c n => (hf n c).2).trans hgate2⟩
  obtain ⟨hview, hgate⟩ := hkept (fun n b => b.onPath n fun m => { m.restart with openT := e.now, cur := b.newSum n })
    fun n c => ⟨pairView_onPath .., gateView_onPath ..⟩
  clear hkept hview2 hgate2
  generalize b2.forEach l _ = d at hview hgate ⊢
  obtain ⟨hl, hw, ha, hg, hrd⟩ := h1
  obtain ⟨-, hl', -, -, hw'⟩ := twin_of_pair hview
  exact ⟨hl'.trans hl, hw'.trans hw, (rd_of_pair hview _ rfl 0).trans ha, fun n => (congrFun hgate n).trans (hg n),
    fun f hf hb => (rd_of_pair hview f hb 0).trans (hrd f hf)⟩

/-- A module that has taken the gates (R462). -/
structure TookGates (b c : Body) : Prop where
  role : c.role = .active
  seam : c.twin.seam = b.twin.seam
  left : c.twin.left = b.twin.left
  heldWrites : c.twin.heldWrites = b.twin.heldWrites
  pairAddr : c.rd .twinStatPairAddr = 1
  rd : ∀ f, f ≠ .twinStatPairAddr → busyFld f = false → c.rd f = b.rd f

theorem seamTake_tookGates (e : Env) (b : Body) : TookGates b (b.seamTake e) := by
  have hset : pairView (b.setRole e .active) = pairView b := pairView_setRole ..
  have hrole : (b.setRole e .active).role = .active := roleOf_setRole ..
  unfold Body.seamTake
  generalize b.setRole e .active = c at hset hrole ⊢
  obtain ⟨hs, hl, -, -, hw⟩ := twin_of_pair hset
  have hview : pairView (((c.wr .twinStatPairAddr 0 1).onTwin fun t => { t with seamE := some e.now }).takeGates e true) =
      pairView (c.wr .twinStatPairAddr 0 1) := by
    rw [pairView_takeGates, pairView_onTwin _ _ (by simp)]
  obtain ⟨hs', hl', -, -, hw'⟩ := twin_of_pair hview
  exact ⟨(roleOf_takeGates ..).trans hrole, hs'.trans hs, hl'.trans hl, hw'.trans hw, (rd_of_pair hview _ rfl 0).trans (rd_wr_same ..),
    fun f hf hb => (rd_of_pair hview f hb 0).trans ((rd_wr_fld _ _ _ _ _ _ hf).trans (rd_of_pair hset f hb 0))⟩

/-- A module at T_S, before it leaves or takes the gates. -/
def markedBody (e : Env) (m : Seam) (b : Body) : Body :=
  (b.onTwin fun t => { t with seam := some { m with passedS := true } }).seamMark e m.cause true

theorem seamS_out (e : Env) {m : Seam} (hout : m.out = true) (b : Body) : b.seamS e m = (markedBody e m b).leaveGates e := if_pos hout

theorem seamS_in (e : Env) {m : Seam} (hin : m.out = false) (b : Body) : b.seamS e m = (markedBody e m b).seamTake e :=
  if_neg (by simp [hin])

theorem seamS_shows (e : Env) (m : Seam) (b : Body) : (b.seamS e m).rd .twinSeaminfoCause = m.cause % 256 ∧
    (b.seamS e m).rd .twinStatTakeover = 0 ∧ (b.seamS e m).rd .modExpertUnlock = 0 ∧
    (b.seamS e m).rd .twinLastseamTime = e.count % 2 ^ 64 := by
  obtain ⟨hunlock, hcause, htake, htime, -, -⟩ :=
    seamMark_rd e m.cause true (b.onTwin fun t => { t with seam := some { m with passedS := true } })
  have hrd : ∀ f, f ≠ .twinStatPairAddr → busyFld f = false → (b.seamS e m).rd f = (markedBody e m b).rd f := fun f hf hb => by
    cases hm : m.out
    · rw [seamS_in e hm]
      exact (seamTake_tookGates ..).rd f hf hb
    · rw [seamS_out e hm]
      exact (leaveGates_leftGates ..).rd f hf hb
  exact ⟨(hrd _ (by decide) rfl).trans hcause, (hrd _ (by decide) rfl).trans htake, (hrd _ (by decide) rfl).trans hunlock,
    (hrd _ (by decide) rfl).trans htime⟩

theorem markedBody_twin (e : Env) (m : Seam) (b : Body) : (markedBody e m b).twin.seam = some { m with passedS := true } ∧
    (markedBody e m b).twin.left = b.twin.left ∧ (markedBody e m b).twin.heldWrites = b.twin.heldWrites :=
  seamMark_twin e m.cause true (b.onTwin fun t => { t with seam := some { m with passedS := true } })

theorem sendSnaps_seam (e : Env) (ns : List Nat) (b : Body) : (b.sendSnaps e ns).twin.seam = b.twin.seam := by
  unfold Body.sendSnaps
  extract_lets xs b1
  exact (twin_of_pair (pairView_foldl (fun (b : Body) (p : Nat × Snap) => b.sendBluli 3 (p.2.words p.1)) xs b1
    fun _ _ => pairView_sendBluli ..)).1

/-! ### The end of a Seam -/

theorem bbuRelease_driven (e : Env) (b : Body) (u : Nat) (hu : u < 2) : (b.bbuRelease e).rd .bbuStatDriven u = 3 := by
  have hevent : ∀ (c : Body) time code chan x y z, (c.event time code chan x y z).rd .bbuStatDriven u = c.rd .bbuStatDriven u :=
    fun c _ _ _ _ _ _ => (sameBeside_of_count (countView_event ..)).rd _ _ rfl rfl
  have hlist : ∀ c f, Body.forEach c [0, 1] f = f 1 (f 0 c) := fun _ _ => rfl
  unfold Body.bbuRelease
  rw [hlist, hevent]
  rcases Nat.lt_succ_iff_lt_or_eq.1 hu with h | rfl
  · rw [Nat.lt_one_iff.1 h, rd_wr_ix _ _ _ _ _ (by decide), ← Nat.lt_one_iff.1 h, hevent, Nat.lt_one_iff.1 h, rd_wr_same]
    rfl
  · rw [rd_wr_same]
    rfl

theorem boot_of_outer {b c : Body} (h : outer c = outer b) : c.boot = b.boot := by
  show (outer c).boot = (outer b).boot
  rw [h]

theorem compareStarch_boot (e : Env) (b : Body) : (b.compareStarch e).boot = b.boot := by
  unfold Body.compareStarch
  dsimp only
  split
  · exact ((boot_of_outer (outer_event ..)).trans (boot_of_outer (outer_raise ..))).trans rfl
  · rfl

theorem dropChecked_imaged (b : Body) : b.dropChecked.boot.imaged = b.boot.imaged := by
  unfold Body.dropChecked
  dsimp only
  split <;> split <;> rfl

theorem toHiZ_boot (b : Body) : b.toHiZ.boot = b.boot := by
  unfold Body.toHiZ
  generalize List.range 8 = l
  generalize List.range 128 = m
  exact (part_foldl Body.boot _ (by exact fun _ _ => rfl) m _).trans (part_foldl Body.boot _ (by exact fun _ _ => rfl) l b)

/-- A module that drives the pins and becomes STANDBY releases them. -/
theorem setRole_standby_driven (e : Env) {b : Body} (hdrives : b.bbuDrives = true) {u : Nat} (hu : u < 2) :
    (b.setRole e .standby).rd .bbuStatDriven u = 3 := by
  have hne : b.role ≠ .standby := fun h => by simp [Body.bbuDrives, h] at hdrives
  unfold Body.setRole
  rw [if_neg hne]
  extract_lets drove b1 b2 b3 b4
  have hrole : b3.role = .standby := by
    have h2 : roleOf b2 = .standby := by
      unfold b2
      rw [roleOf_emitPassed]
      rfl
    exact (roleOf_event ..).trans ((roleOf_wr ..).trans h2)
  have hdrove : drove = true := hdrives
  have h4 : b4.rd .bbuStatDriven u = 3 := by
    unfold b4
    rw [if_pos (by simp [hdrove, Body.bbuDrives, hrole])]
    exact bbuRelease_driven e b3 u hu
  rw [if_neg (by decide)]
  exact h4

/-- A module that gives up its role leaves the pins of the battery units that it drove (R526, R529). -/
theorem enterStandby_driven (e : Env) (follows : Bool) {b : Body} (hdrives : b.bbuDrives = true) {u : Nat} (hu : u < 2) :
    (b.enterStandby e follows).rd .bbuStatDriven u = 3 := by
  have hparts : (b.role = .solo ∨ b.role = .active) ∧ b.boot.imaged = true ∧ b.hubDown = false := by
    simpa [Body.bbuDrives, and_assoc] using hdrives
  obtain ⟨hrole, himaged, hhub⟩ := hparts
  unfold Body.enterStandby
  extract_lets b1 b2 b3 b4 b5 b6 b7
  have h1 : b1 = b := if_neg (by rcases hrole with h | h <;> simp [h])
  have h2 : b2.role = b.role ∧ b2.boot = b.boot ∧ b2.hubDown = b.hubDown := by
    unfold b2
    rw [h1]
    split
    · exact ⟨roleOf_compareStarch .., compareStarch_boot .., hubDown_of_pair (pairView_compareStarch ..)⟩
    · exact ⟨rfl, rfl, rfl⟩
  have h4 : b4.role = b2.role ∧ b4.boot.imaged = b2.boot.imaged ∧ b4.hubDown = b2.hubDown :=
    ⟨roleOf_dropChecked b3, dropChecked_imaged b3, hubDown_of_pair (pairView_dropChecked b3)⟩
  have hdrives' : b4.toHiZ.bbuDrives = true := by
    obtain ⟨hr2, hb2, hd2⟩ := h2
    obtain ⟨hr4, hi4, hd4⟩ := h4
    unfold Body.bbuDrives
    rw [toHiZ_role, toHiZ_boot, hubDown_of_pair (pairView_toHiZ b4), hr4, hi4, hd4, hr2, hb2, hd2, himaged, hhub]
    rcases hrole with h | h <;> simp [h]
  have h5 : b5.rd .bbuStatDriven u = 3 := by
    unfold b5
    refine (lowPower_part (fun c : Body => c.rd .bbuStatDriven u) ?_ e true _).trans ?_
    · exact fun _ _ => rfl
    · rw [rd_wr_fld _ _ _ _ _ _ (by decide)]
      exact setRole_standby_driven e hdrives' hu
  clear_value b5
  have h7 : b7.rd .bbuStatDriven u = 3 := (rd_wr_fld b6 .twinStatSeamRun .bbuStatDriven 0 u 0 (by decide)).trans h5
  clear_value b7
  generalize List.range 128 = l
  exact (part_foldl (fun c : Body => c.rd .bbuStatDriven u) _ (by exact fun _ _ => rfl) l b7).trans h7

/-! ### The obligation -/

section
variable {s : State} {m : Seam} {tp ts : Nat} (hseam : s.body.twin.seam = some m) (hplan : m.plan = some (tp, ts))

/-- The state of a module at T_S. -/
def seamState (m : Seam) (ts : Nat) (s : State) : State := (s.goTo ts).onBody fun e b => b.seamS e m

include hseam hplan

theorem exec_seamTS_due (hp : m.passedP = true) (hs : m.passedS = false) : exec .seamTS s = .next (seamState m ts s).heldOut := by
  rw [exec_seamTS, execSeamTS, hseam]
  dsimp only
  rw [hplan, hp, hs]
  rfl

theorem seamTP_runs (hhub : s.body.hubDown = false) (hp : m.passedP = false) :
    RunsAt .seamTP s tp fun t => t.body.twin.seam = some { m with passedP := true } ∧ (m.passedS = false → t.body.froze = true) := by
  have hexec := exec_seamTP s
  rw [execSeamTP, hseam] at hexec
  dsimp only at hexec
  rw [hplan, hp] at hexec
  refine runsAt_onHub hexec hhub ?_
  have hall : ∀ b : Body, b.twin.seam = some { m with passedP := true } →
      b.twin.seam = some { m with passedP := true } ∧ (m.passedS = false → b.froze = true) := fun b hb =>
    ⟨hb, fun hs => by
      unfold Body.froze
      rw [hb]
      simp [hs]⟩
  refine hall _ ?_
  rw [onBody_body, goTo_body, settle_twin]
  split
  · exact (sendSnaps_seam ..).trans (by rw [hplan]; rfl)
  · exact (twin_of_pair (pairView_lowPower ..)).1.trans (by rw [hplan]; rfl)

theorem seamConfirm_runs (hhub : s.body.hubDown = false) (hs : m.passedS = true) {P : State → Prop}
    (hP : P ((s.goTo (ts + 10000)).onBody fun e b => b.seamEnd e m)) : RunsAt .seamConfirm s (ts + 10000) P := by
  have hexec := exec_seamConfirm s
  rw [execSeamConfirm, hseam] at hexec
  dsimp only at hexec
  rw [hplan, hs] at hexec
  exact runsAt_onHub hexec hhub hP

end

/-- A module that has left its gates is STANDBY once the Seam is confirmed, and leaves the pair where its seat is lost. -/
def confirmedBody (b : Body) : Body := if b.flag .twinStatSeated then b else b.onTwin fun t => { t with leaving := true }

theorem confirmedBody_same (b : Body) : (confirmedBody b).role = b.role ∧ (confirmedBody b).twin.seam = b.twin.seam ∧
    (confirmedBody b).twin.left = b.twin.left ∧ (confirmedBody b).regs = b.regs := by
  unfold confirmedBody
  split <;> exact ⟨rfl, rfl, rfl, rfl⟩

/-- The body as a Seam ends. -/
def endedBody (b : Body) : Body := (b.onTwin fun t => { t with seam := none }).wr .twinStatSeamRun 0 0

theorem endedBody_seam (b : Body) : (endedBody b).twin.seam = none := rfl
theorem endedBody_seamRun (b : Body) : (endedBody b).rd .twinStatSeamRun = 0 := rd_wr_same ..
theorem endedBody_bbuDrives (b : Body) : (endedBody b).bbuDrives = b.bbuDrives := rfl

theorem seamEnd_out (e : Env) {m : Seam} (hout : m.out = true) (b : Body) :
    b.seamEnd e m = confirmedBody ((endedBody b).enterStandby e true) := if_pos hout

theorem seamEnd_in (e : Env) {m : Seam} (hin : m.out = false) (b : Body) :
    b.seamEnd e m = ((endedBody b).seamRecord e m).sendBluli 7 [4, (endedBody b).rd .twinSeaminfoGapMax] := if_neg (by simp [hin])

/-- A module that has given up its gates is STANDBY at the end of the Seam. -/
theorem seamEnd_stands (e : Env) {m : Seam} (hout : m.out = true) (b : Body) :
    (b.seamEnd e m).role = .standby ∧ (b.seamEnd e m).twin.left = false ∧
      (b.bbuDrives = true → ∀ u, u < 2 → (b.seamEnd e m).rd .bbuStatDriven u = 3) := by
  have hstood := enterStandby_stoodBy e true (endedBody b)
  have hdriven := fun hd u (hu : u < 2) => enterStandby_driven e true ((endedBody_bbuDrives b).trans hd) hu
  rw [seamEnd_out e hout]
  generalize (endedBody b).enterStandby e true = c at hstood hdriven
  obtain ⟨hr, -, hl, hregs⟩ := confirmedBody_same c
  exact ⟨hr.trans hstood.role, hl.trans hstood.left, fun hd u hu => (rd_of_regs hregs _ u).trans (hdriven hd u hu)⟩

theorem seamEnd_leaves (e : Env) (m : Seam) (b : Body) :
    (b.seamEnd e m).twin.seam = none ∧ (b.seamEnd e m).rd .twinStatSeamRun = 0 := by
  cases hm : m.out
  · have hview : pairView (((endedBody b).seamRecord e m).sendBluli 7 [4, (endedBody b).rd .twinSeaminfoGapMax]) = pairView (endedBody b) := by
      rw [pairView_sendBluli, pairView_seamRecord]
    rw [seamEnd_in e hm]
    exact ⟨(twin_of_pair hview).1.trans (endedBody_seam b), (rd_of_pair hview _ rfl 0).trans (endedBody_seamRun b)⟩
  · have hstood := enterStandby_stoodBy e true (endedBody b)
    rw [seamEnd_out e hm]
    generalize (endedBody b).enterStandby e true = c at hstood
    obtain ⟨-, hs, -, hregs⟩ := confirmedBody_same c
    exact ⟨hs.trans hstood.seam, (rd_of_regs hregs _ 0).trans hstood.seamRun⟩

/-- Settles O53. -/
theorem seams : Obligations.Seams := by
  refine ⟨fun s hnone hhub => ⟨fun hrole hok => ⟨fun hun hlock => ?_, fun cause hc => ?_⟩, fun hrole hun hpartner hlock => ?_,
    fun hrole hun hpartner => ?_, fun hun => ⟨?_, ?_⟩, fun hrole cause => ⟨fun hr => ?_, fun hr => ?_⟩, fun g => ?_⟩,
    fun m tp ts s hseam hplan hhub => ⟨seamTP_runs hseam hplan hhub, fun hp hs => ⟨fun hout => ?_, fun hout => ?_, fun hin hheld => ?_,
      fun hin => ?_⟩, fun hs => ⟨?_, fun hout => ?_⟩, fun hin p w valid => ?_⟩⟩
  · refine becomes_onHub (exec_handover s) hhub ?_
    unfold Body.handover Body.seamRequest
    rw [if_pos hun, if_pos hrole]
    exact seamStart_host _ hnone hok hlock
  · have hexec := exec_seamRequest cause s
    rw [execSeamRequest, if_neg (by simp [hc])] at hexec
    dsimp only at hexec
    refine ⟨_, hexec.trans (congrArg _ (onHub_eq hhub)), ?_⟩
    beta_reduce
    have hstart : ∀ e, s.body.seamRequest e cause = s.body.seamStart e cause := fun e => if_pos hrole
    rw [onBody_body, goTo_body, settle_twin, settle_rd _ _ .twinStatSeamRun _ rfl, hstart]
    exact seamStart_seam _ hnone hok fun h => absurd h (causeHolds_ne_one hc)
  · have hok : s.body.flag .twinStatHbOk = true := by
      unfold Body.partner at hpartner
      simp only [Bool.and_eq_true] at hpartner
      exact hpartner.1.1
    refine becomes_onHub (exec_standdown s) hhub ?_
    unfold Body.standdown
    rw [if_neg (by simp [hun, hrole]), if_pos hpartner]
    exact seamStart_host _ hnone hok hlock
  · refine runs_onHub (exec_standdown s) hhub ?_
    have hstep : ∀ e, s.body.standdown e = s.body.enterStandby e false := fun e => by
      unfold Body.standdown
      rw [if_neg (by simp [hun, hrole]), if_neg (by simp [hpartner])]
    have hstood := enterStandby_stoodBy s.env false s.body
    rw [onBody_body, settle_role, settle_rd _ _ .twinStatPairAddr _ rfl, hstep]
    exact ⟨hstood.role, hstood.pairAddr⟩
  · exact becomes_onHub (exec_handover s) hhub (if_neg (by simp [hun]))
  · exact becomes_onHub (exec_standdown s) hhub (if_pos (by simp [hun]))
  · refine runs_onBody (exec_seamFrame _ hhub) ?_
    rw [onBody_body, settle_twin, settle_rd _ _ .twinStatSeamRun _ rfl]
    exact seamAsked_plans _ ((rxBluli_same s.body).1.trans hrole) ((seamRefusal_rxBluli hhub cause).trans hr)
  · refine runs_onBody (exec_seamFrame _ hhub) ?_
    rw [onBody_body, settle_twin, settle_rd _ _ .twinStatRefuse _ rfl, ← seamRefusal_rxBluli hhub]
    exact seamAsked_refuses _ ((rxBluli_same s.body).1.trans hrole) (by rw [seamRefusal_rxBluli hhub]; exact hr)
  · exact becomes_onBody (exec_seamFrame _ hhub) rfl
  · have hshows := seamS_shows (s.goTo ts).env m s.body
    have hout' : (seamState m ts s).heldOut = seamState m ts s := by
      cases hm : m.out
      · refine heldOut_of_empty ?_
        unfold seamState
        rw [onBody_body, goTo_body, settle_twin, seamS_in _ hm, (seamTake_tookGates ..).heldWrites, (markedBody_twin ..).2.2]
        exact hout.resolve_left (by simp [hm])
      · refine heldOut_of_empty ?_
        unfold seamState
        rw [onBody_body, goTo_body, settle_twin, seamS_out _ hm, (leaveGates_leftGates ..).heldWrites]
    refine runsAt_onBody ((exec_seamTS_due hseam hplan hp hs).trans (congrArg _ hout')) ?_
    rw [onBody_body, goTo_body, settle_rd _ _ .twinSeaminfoCause _ rfl, settle_rd _ _ .twinStatTakeover _ rfl,
      settle_rd _ _ .modExpertUnlock _ rfl, settle_rd _ _ .twinLastseamTime _ rfl]
    exact hshows
  · have hleft := leaveGates_leftGates (s.goTo ts).env (markedBody (s.goTo ts).env m s.body)
    have hout' : (seamState m ts s).heldOut = seamState m ts s := by
      refine heldOut_of_empty ?_
      unfold seamState
      rw [onBody_body, goTo_body, settle_twin, seamS_out _ hout, hleft.heldWrites]
    refine runsAt_onBody ((exec_seamTS_due hseam hplan hp hs).trans (congrArg _ hout')) ?_
    rw [onBody_body, goTo_body, settle_twin, settle_rd _ _ .twinStatPairAddr _ rfl, seamS_out _ hout]
    exact ⟨hleft.left, hleft.pairAddr, fun n _ => by rw [settle_en, hleft.gate]⟩
  · have htook := seamTake_tookGates (s.goTo ts).env (markedBody (s.goTo ts).env m s.body)
    have hin' : (seamState m ts s).heldOut = seamState m ts s := by
      refine heldOut_of_empty ?_
      unfold seamState
      rw [onBody_body, goTo_body, settle_twin, seamS_in _ hin, htook.heldWrites, (markedBody_twin ..).2.2, hheld]
    refine runsAt_onBody ((exec_seamTS_due hseam hplan hp hs).trans (congrArg _ hin')) ?_
    rw [onBody_body, goTo_body, settle_role, settle_rd _ _ .twinStatPairAddr _ rfl, seamS_in _ hin]
    exact ⟨htook.role, htook.pairAddr⟩
  · have htook := seamTake_tookGates (s.goTo ts).env (markedBody (s.goTo ts).env m s.body)
    obtain ⟨hmseam, -, hmheld⟩ := markedBody_twin (s.goTo ts).env m s.body
    have hbody : (seamState m ts s).body = (s.body.seamS (s.goTo ts).env m).settle (s.goTo ts).env := rfl
    have hrole : (seamState m ts s).body.role = .active := by rw [hbody, settle_role, seamS_in _ hin, htook.role]
    have hpasses : (seamState m ts s).body.passes = false := by
      unfold Body.passes
      rw [hbody, settle_twin, seamS_in _ hin, htook.seam, hmseam]
      simp [hin]
    refine ⟨seamState m ts s, rfl, hrole, ?_, (exec_seamTS_due hseam hplan hp hs).trans (congrArg _ ?_)⟩
    · rw [hbody, settle_twin, seamS_in _ hin, htook.heldWrites, hmheld]
    · have hheld : (seamState m ts s).body.twin.heldWrites = s.body.twin.heldWrites := by
        rw [hbody, settle_twin, seamS_in _ hin, htook.heldWrites, hmheld]
      unfold State.heldOut Body.drives
      rw [hpasses, hrole, hheld]
      cases (seamState m ts s).body.twin.left <;> rfl
  · refine seamConfirm_runs hseam hplan hhub hs ?_
    obtain ⟨hs', hr⟩ := seamEnd_leaves (s.goTo (ts + 10000)).env m s.body
    rw [onBody_body, goTo_body, settle_twin, settle_rd _ _ .twinStatSeamRun _ rfl]
    exact ⟨hs', hr⟩
  · refine seamConfirm_runs hseam hplan hhub hs ?_
    obtain ⟨hrole, hleft, hdriven⟩ := seamEnd_stands (s.goTo (ts + 10000)).env hout s.body
    rw [onBody_body, goTo_body, settle_twin, settle_role]
    exact ⟨hrole, hleft, fun hd u hu => (settle_rd _ _ .bbuStatDriven _ rfl).trans (hdriven hd u hu)⟩
  · refine becomes_onBody (exec_seamFrame _ hhub) ?_
    have htakes : s.body.rxBluli.takesGates = true := by
      rw [rxBluli_eq hhub]
      unfold Body.takesGates
      rw [onTwin_twin]
      dsimp only
      rw [hseam]
      simp [hin]
    exact if_pos (by simp [htakes])

end Sys2Proof.Proofs
end

section
/-!
SUPPORT. Module start and the SOLO decision (R450, R451, R477, R479, R493).
-/

namespace Sys2Proof.Proofs

open Sys2Proof Sys2Proof.Machine Sys2Proof.Safety Sys2Proof.Laws

/-! ### What the reads of a start leave -/

section
variable {α : Type} (p : Body → α) (hwr : ∀ b f i v, p (Body.wr b f i v) = p b) (hmtr : ∀ f b, p (Body.onMtr f b) = p b)
  (hraise : ∀ l b, p (Body.raise l b) = p b) (hevent : ∀ t c n x y z b, p (Body.event t c n x y z b) = p b)

include hwr hmtr in
theorem takeBank_part (k : Nat) (b : Body) : p (b.takeBank k) = p b := by
  unfold Body.takeBank Body.showDue
  dsimp only
  rw [hwr, hmtr]
  generalize List.range 8 = l
  rw [part_foldl p _ (fun c i => hwr ..), hwr, hwr, hwr, hwr, hwr]

include hwr hmtr hraise hevent

theorem selectBank_part (e : Env) (b : Body) : p (b.selectBank e) = p b := by
  obtain ⟨k, hk⟩ | ⟨k, x, y, hk⟩ | hk := selectBank_cases e b <;> rw [hk]
  · exact takeBank_part p hwr hmtr k b
  · rw [hevent, hraise, hmtr, hwr, takeBank_part p hwr hmtr]
  · rw [hevent, takeBank_part p hwr hmtr]

theorem startReads_part (strap : Nat) (ambig differs : Bool) (e : Env) (b : Body) : p (b.startReads strap ambig differs e) = p b := by
  unfold Body.startReads Body.loadClasses
  dsimp only
  rw [selectBank_part p hwr hmtr hraise hevent, hwr, hwr]
  generalize List.range 8 = l
  generalize List.range 128 = m
  rw [part_foldl p _ (fun c i => hwr ..), apply_ite p, hwr, hwr, ite_self, hwr]
  exact (part_foldl p _ (fun c i => hwr ..) m _).trans (by rw [hwr, hwr, hwr])

end

theorem startReads_ch (strap : Nat) (ambig differs : Bool) (e : Env) (b : Body) (n : Nat) :
    (b.startReads strap ambig differs e).ch n = b.ch n :=
  startReads_part (fun b => b.ch n) (fun _ _ _ _ => rfl) (fun _ _ => rfl) (fun _ _ => raise_ch ..) (fun _ _ _ _ _ _ _ => event_ch ..)
    strap ambig differs e b

theorem startReads_en (strap : Nat) (ambig differs : Bool) (e : Env) (b : Body) (n : Nat) :
    (b.startReads strap ambig differs e).en n = b.en n :=
  startReads_part (fun b => b.en n) (fun _ _ _ _ => rfl) (fun _ _ => rfl) (fun _ _ => raise_en ..) (fun _ _ _ _ _ _ _ => event_en ..)
    strap ambig differs e b

theorem startReads_fe (strap : Nat) (ambig differs : Bool) (e : Env) (b : Body) (k : Nat) :
    (b.startReads strap ambig differs e).fe k = b.fe k :=
  startReads_part (fun b => b.fe k) (fun _ _ _ _ => rfl) (fun _ _ => rfl) (fun _ _ => raise_fe ..) (fun _ _ _ _ _ _ _ => event_fe ..)
    strap ambig differs e b

/-- The strap that a start has read shows. -/
theorem startReads_strap (strap : Nat) (ambig differs : Bool) (e : Env) (b : Body) (hs : strap < 16) :
    (b.startReads strap ambig differs e).rd .modStrapS = strap ∧ (b.startReads strap ambig differs e).rd .modStrapAmbig = bit ambig ∧
      (b.startReads strap ambig differs e).rd .twinStatSlot = strap % 2 := by
  have hend : ∀ f, showsBank f = false → f ≠ .modBootPhase → f ≠ .tbFreqSteer → f ≠ .modFeclkDev → f ≠ .modImgstatCause →
      f ≠ .starchStatFault → f ≠ .starchStatCopyDiff → f ≠ .chClassFclass → (b.startReads strap ambig differs e).rd f =
        (((b.wr .modStrapS 0 strap).wr .modStrapAmbig 0 (bit ambig)).wr .twinStatSlot 0 (strap % 2)).rd f :=
    fun f h1 h2 h3 h4 h5 h6 h7 h8 => by
      unfold Body.startReads
      dsimp only
      generalize List.range 8 = l
      rw [selectBank_rd _ _ _ _ h1, rd_wr_fld _ _ _ _ _ _ h2, rd_wr_fld _ _ _ _ _ _ h3,
        part_foldl (fun c : Body => c.rd f) _ (fun c i => rd_wr_fld _ _ _ _ _ _ h4), apply_ite (fun c : Body => c.rd f)]
      rw [rd_wr_fld _ _ _ _ _ _ h5, rd_wr_fld _ _ _ _ _ _ h6, ite_self, rd_wr_fld _ _ _ _ _ _ h7, loadClasses_rd _ _ _ _ h8]
  refine ⟨?_, ?_, ?_⟩
  · rw [hend _ rfl (by decide) (by decide) (by decide) (by decide) (by decide) (by decide) (by decide),
      rd_wr_fld _ _ _ _ _ _ (by decide), rd_wr_fld _ _ _ _ _ _ (by decide), rd_wr_of_lt _ _ hs]
  · rw [hend _ rfl (by decide) (by decide) (by decide) (by decide) (by decide) (by decide) (by decide),
      rd_wr_fld _ _ _ _ _ _ (by decide), rd_wr_same]
    cases ambig <;> rfl
  · rw [hend _ rfl (by decide) (by decide) (by decide) (by decide) (by decide) (by decide) (by decide),
      rd_wr_same]
    exact Nat.mod_eq_of_lt (Nat.mod_lt _ (by decide))

theorem restarted_ch (now : Nat) (b : Body) (n : Nat) : (b.restarted now).ch n = (b.ch n).restarted := by
  simp [Body.restarted, Body.ch]

theorem restarted_gate (now : Nat) (b : Body) (n : Nat) : ((b.restarted now).en n).gate = .hiZ := by
  simp [Body.restarted, Body.en]
  rfl

theorem restarted_joined (now : Nat) (b : Body) (k : Nat) : ((b.restarted now).fe k).joined = false := by
  have hdie : (b.restarted now).die = b.die.mapIdx fun k d => d.restarted k := rfl
  have hone : ∀ j d, (Die.restarted j d).joined = Die.reset.joined := fun _ _ => rfl
  unfold Body.fe
  rw [hdie, Vector.get_eq_getElem, Vector.getElem_mapIdx, hone]
  decide

/-- A strap is one of sixteen. -/
theorem strapOf_lt (ohms : Nat) : (strapOf ohms).1 < 16 := by
  unfold strapOf
  generalize min ohms (2 ^ 32) = o
  dsimp only
  refine List.foldlRecOn (motive := fun a : Nat => a < 16) _ _ (by decide) fun a ha i hi => ?_
  split
  · exact List.mem_range.1 hi
  · exact ha

/-! ### The obligation -/

/-- The state that a start finds before it reads the straps and the fuses. -/
def startState (s : State) : State :=
  { s with time := { s.time with count := startCount s.body.mtr.ckpts % 2 ^ 64, frac := 0 }
           starch := { s.starch with map := s.starch.fuses }
           body := s.body.restarted s.time.elapsed }

theorem exec_moduleStart (ohms : Nat) (s : State) : exec (.moduleStart ohms) s =
    .next ((startState s).onBody fun e b => b.startReads (strapOf ohms).1 (strapOf ohms).2 s.starch.differs e) := rfl
theorem exec_soloDecision (s : State) : exec .soloDecision s = execSoloDecision s := rfl
theorem exec_soloAccept (s : State) : exec .soloAccept s = .next (s.onBody fun e b => b.soloAccept e) := rfl

theorem mem_insertBy {lt : Nat → Nat → Bool} {x y : Nat} {l : List Nat} : y ∈ insertBy lt x l → y = x ∨ y ∈ l := by
  induction l with
  | nil => exact fun h => .inl (List.mem_singleton.1 h)
  | cons z l ih =>
    unfold insertBy
    split
    · exact fun h => List.mem_cons.1 h
    · exact fun h => (List.mem_cons.1 h).elim (fun h => .inr (h ▸ List.mem_cons_self)) fun h =>
        (ih h).imp_right (List.mem_cons_of_mem _)

theorem mem_of_mem_orderBy {lt : Nat → Nat → Bool} {y : Nat} {l : List Nat} (h : y ∈ orderBy lt l) : y ∈ l := by
  have hall : ∀ z ∈ orderBy lt l, z ∈ l :=
    List.foldlRecOn (motive := fun acc : List Nat => ∀ z ∈ acc, z ∈ l) _ _ (fun _ h => absurd h List.not_mem_nil)
      fun acc hacc x hx z hz => (mem_insertBy hz).elim (fun h => h ▸ hx) (hacc z)
  exact hall y h

theorem mem_queue {b : Body} {n : Nat} (h : n ∈ b.queue) : n < 128 :=
  List.mem_range.1 (List.mem_filter.1 (List.mem_filter.1 (mem_of_mem_orderBy h)).1).1

/-- The queue is made of the machines, the gangs and the classes. -/
theorem queue_wr (b : Body) (f : Fld) (i v : Nat) (hs : f ≠ .chClassGangSize) (hl : f ≠ .chClassGangLead) (hp : f ≠ .chClassPclass) :
    (b.wr f i v).queue = b.queue := by
  have hlead : ∀ n, (b.wr f i v).leadOf n = b.leadOf n := fun n => by
    unfold Body.leadOf
    rw [rd_wr_fld _ _ _ _ _ _ hs.symm, rd_wr_fld _ _ _ _ _ _ hl.symm]
  have hclass : ∀ n, (b.wr f i v).pclass n = b.pclass n := fun n => by
    unfold Body.pclass
    rw [hlead, rd_wr_fld _ _ _ _ _ _ hp.symm]
  have hch : ∀ n, (b.wr f i v).ch n = b.ch n := fun _ => rfl
  unfold Body.queue Body.isMember
  simp only [hlead, hclass, hch]

/-- A change of the machines of a list leaves each of them changed. -/
theorem forEach_onCh_part {α : Type} (p : Chan → α) {f : Chan → Chan} {v : α} (hf : ∀ c, p (f c) = v) {n : Nat} :
    ∀ (l : List Nat) (b : Body), (n ∈ l ∨ p (b.ch n) = v) → p ((b.forEach l fun m b => b.onCh m f).ch n) = v
  | [], _, h => h.elim (fun h => absurd h List.not_mem_nil) id
  | m :: l, b, h => by
    refine forEach_onCh_part p hf l (b.onCh m f) ?_
    rcases h with h | h
    · rcases List.mem_cons.1 h with rfl | h
      · exact .inr (by rw [ch_onCh, if_pos rfl, hf])
      · exact .inl h
    · refine .inr ?_
      rw [ch_onCh]
      split
      · exact hf _
      · exact h

/-- The end of a SOLO hold: what waits has waited from now on. -/
theorem endSoloHold_leaves (e : Env) {b : Body} (hheld : b.flag .modBootSoloHeld = true) :
    (b.endSoloHold e).rd .modBootSoloHeld = 0 ∧ (∀ f, f ≠ .modBootSoloHeld → (b.endSoloHold e).rd f = b.rd f) ∧
      ∀ n ∈ b.queue, ((b.endSoloHold e).ch n).queuedT = e.now := by
  have hstep : b.endSoloHold e = (b.wr .modBootSoloHeld 0 0).forEach b.queue fun n b => b.onCh n fun c => { c with queuedT := e.now } := by
    unfold Body.endSoloHold
    exact if_neg (by simp [hheld])
  have hrd : ∀ f, (b.endSoloHold e).rd f = (b.wr .modBootSoloHeld 0 0).rd f := fun f => by
    rw [hstep]
    generalize b.queue = l
    exact part_foldl (fun c : Body => c.rd f) _ (by exact fun _ _ => rfl) l _
  refine ⟨(hrd _).trans (rd_wr_same ..), fun f hf => (hrd f).trans (rd_wr_fld _ _ _ _ _ _ hf), fun n hn => ?_⟩
  rw [hstep]
  exact forEach_onCh_part (f := fun c => { c with queuedT := e.now }) Chan.queuedT (fun _ => rfl) _ _ (.inl hn)

theorem startReads_leaves (strap : Nat) (ambig differs : Bool) (e : Env) (now : Nat) (b : Body) (hs : strap < 16) :
    let c := ((b.restarted now).startReads strap ambig differs e).settle e
    c.role = .starting ∧ c.rd .modBootPhase = 3 ∧ c.rd .modStrapS = strap ∧ c.rd .modStrapAmbig = bit ambig ∧
      c.rd .twinStatSlot = strap % 2 ∧ c.hubDown = false ∧
      (∀ n, (c.ch n).state = .unconfigured ∧ (c.en n).gate = .hiZ) ∧ ∀ k, (c.fe k).joined = false := by
  intro c
  obtain ⟨hstrap, hambig, hslot⟩ := startReads_strap strap ambig differs e (b.restarted now) hs
  unfold c
  rw [settle_role, settle_rd _ _ .modBootPhase _ rfl, settle_rd _ _ .modStrapS _ rfl, settle_rd _ _ .modStrapAmbig _ rfl,
    settle_rd _ _ .twinStatSlot _ rfl, settle_hubDown, startReads_role, startReads_bootPhase, startReads_hubDown]
  refine ⟨rfl, rfl, hstrap, hambig, hslot, rfl, fun n => ⟨?_, ?_⟩, fun k => ?_⟩
  · rw [settle_ch_state, startReads_ch, restarted_ch]
    rfl
  · rw [settle_en, startReads_en, restarted_gate]
  · rw [settle_fe_joined, startReads_fe, restarted_joined]

theorem moduleStart_leaves (ohms : Nat) (s : State) : Runs (.moduleStart ohms) s fun t =>
    t.pending = s.pending ∧ t.time.elapsed = s.time.elapsed ∧ t.time.count = startCount s.body.mtr.ckpts % 2 ^ 64 ∧
    t.starch = { s.starch with map := s.starch.fuses } ∧ t.body.role = .starting ∧ t.body.rd .modBootPhase = 3 ∧
    t.body.rd .modStrapS = (strapOf ohms).1 ∧ t.body.rd .modStrapAmbig = bit (strapOf ohms).2 ∧
    t.body.rd .twinStatSlot = (strapOf ohms).1 % 2 ∧ t.body.hubDown = false ∧
    (∀ n, (t.body.ch n).state = .unconfigured ∧ (t.body.en n).gate = .hiZ) ∧ ∀ k, (t.body.fe k).joined = false := by
  have hlt := strapOf_lt ohms
  have hexec := exec_moduleStart ohms s
  generalize strapOf ohms = strap at hlt hexec ⊢
  have hleaves := startReads_leaves strap.1 strap.2 s.starch.differs (startState s).env s.time.elapsed s.body hlt
  exact ⟨_, hexec, rfl, rfl, rfl, rfl, hleaves⟩

theorem soloDecision_leaves {T : Nat} {s : State} (hT : s.body.twin.txT = some T) (hrole : s.body.role = .starting)
    (hheard : s.body.twin.heard = false) (hseat : s.body.flag .twinStatSeated = true) (hhub : s.body.hubDown = false)
    (hlvl : s.body.health.lvl ≠ 4) : RunsAt .soloDecision s (T + 100000000) fun t =>
      t.body.role = .solo ∧ t.body.rd .twinStatPairAddr = 1 ∧ t.body.rd .modBootPhase = 5 ∧
      (∀ n, (t.body.en n).gate = .sink) ∧ (bitAt (s.env.fuse 1) 2 = true → t.body.rd .modBootSoloHeld = 1) := by
  have hexec := exec_soloDecision s
  rw [execSoloDecision, hT] at hexec
  dsimp only at hexec
  rw [if_neg (by simp [hrole, hheard, hseat, hhub, hlvl])] at hexec
  generalize T + 100000000 = U at hexec ⊢
  obtain ⟨hsolo, haddr, hphase, hgate, hheld, -⟩ := becomeSolo_leaves (s.goTo U).env s.body
  refine runsAt_onBody hexec ?_
  rw [onBody_body, goTo_body, settle_role, settle_rd _ _ .twinStatPairAddr _ rfl, settle_rd _ _ .modBootPhase _ rfl,
    settle_rd _ _ .modBootSoloHeld _ rfl]
  refine ⟨hsolo, haddr, hphase, fun n => by rw [settle_en, hgate], fun hfuse => hheld ?_⟩
  unfold Env.fuse at hfuse ⊢
  rw [env_map, goTo_starch, ← env_map]
  exact hfuse

theorem soloAccept_unlocked {s : State} (hhub : s.body.hubDown = false) (hheld : s.body.flag .modBootSoloHeld = true)
    (hun : s.body.unlocked 9 = true) : Runs .soloAccept s fun t => t.body.rd .modBootSoloHeld = 0 ∧ t.body.rd .modBootSoloAccept = 1 ∧
      ∀ n ∈ s.body.queue, (t.body.ch n).queuedT = s.time.elapsed := by
  have hstep : ∀ e, s.body.soloAccept e = (s.body.wr .modBootSoloAccept 0 1).endSoloHold e := fun e => if_pos (by simp [hun, hhub])
  obtain ⟨hzero, hrd, hqueued⟩ := endSoloHold_leaves s.env (b := s.body.wr .modBootSoloAccept 0 1)
    ((flag_wr_fld _ _ _ _ _ _ (by decide)).trans hheld)
  refine runs_onBody (exec_soloAccept s) ?_
  rw [onBody_body, settle_rd _ _ .modBootSoloHeld _ rfl, settle_rd _ _ .modBootSoloAccept _ rfl, hstep]
  refine ⟨hzero, (hrd _ (by decide)).trans (rd_wr_same ..), fun n hn => ?_⟩
  rw [settle_ch _ _ _ Chan.queuedT (fun _ _ => rfl)]
  exact hqueued n (by rw [queue_wr _ _ _ _ (by decide) (by decide) (by decide)]; exact hn)

/-- Settles O55. -/
theorem moduleStarts : Obligations.ModuleStarts :=
  ⟨moduleStart_leaves, fun _ _ hT hrole hheard hseat hhub hlvl => soloDecision_leaves hT hrole hheard hseat hhub hlvl,
    fun _ hhub hheld => ⟨soloAccept_unlocked hhub hheld,
      fun hun => becomes_onBody (exec_soloAccept _) (if_neg (by simp [hun]))⟩⟩

end Sys2Proof.Proofs
end

section
/-!
SUPPORT. The image that a start holds, which what follows it leaves as it is.
-/

namespace Sys2Proof.Proofs

open Sys2Proof Sys2Proof.Machine Sys2Proof.Safety Sys2Proof.Laws

/-- What a module holds of its images. -/
def bootOf (b : Body) : Boot := b.boot

/-- Each turn of a fold leaves it. -/
def BootOfKept {α : Type} (f : Body → α → Body) : Prop := ∀ b a, bootOf (f b a) = bootOf b

@[simp] theorem bootOfKept_iff {α : Type} (f : Body → α → Body) : BootOfKept f ↔ ∀ b a, bootOf (f b a) = bootOf b := .rfl

@[simp] theorem bootOf_foldl {α : Type} (f : Body → α → Body) (l : List α) (b : Body) (hf : BootOfKept f) : bootOf (l.foldl f b) = bootOf b :=
  part_foldl bootOf f hf l b

@[simp] theorem bootOf_forEach (b : Body) (l : List Nat) (f : Nat → Body → Body) (hf : BootOfKept fun b n => f n b) :
    bootOf (b.forEach l f) = bootOf b :=
  part_foldl bootOf _ hf l b

@[simp] theorem bootOf_set_role (b : Body) (x : Role) : bootOf { b with role := x } = bootOf b := (rfl)
@[simp] theorem bootOf_set_regs (b : Body) (x : Sparse) : bootOf { b with regs := x } = bootOf b := (rfl)
@[simp] theorem bootOf_set_chan (b : Body) (x : Vector Chan 128) : bootOf { b with chan := x } = bootOf b := (rfl)
@[simp] theorem bootOf_set_eng (b : Body) (x : Vector Eng 128) : bootOf { b with eng := x } = bootOf b := (rfl)
@[simp] theorem bootOf_set_die (b : Body) (x : Vector Die 8) : bootOf { b with die := x } = bootOf b := (rfl)
@[simp] theorem bootOf_set_bud (b : Body) (x : Budget) : bootOf { b with bud := x } = bootOf b := (rfl)
@[simp] theorem bootOf_set_rcd (b : Body) (x : Recorder) : bootOf { b with rcd := x } = bootOf b := (rfl)
@[simp] theorem bootOf_set_mtr (b : Body) (x : Meter) : bootOf { b with mtr := x } = bootOf b := (rfl)
@[simp] theorem bootOf_set_disc (b : Body) (x : Disc) : bootOf { b with disc := x } = bootOf b := (rfl)
@[simp] theorem bootOf_set_tmr (b : Body) (x : Timers) : bootOf { b with tmr := x } = bootOf b := (rfl)
@[simp] theorem bootOf_set_health (b : Body) (x : Health) : bootOf { b with health := x } = bootOf b := (rfl)
@[simp] theorem bootOf_set_fdr (b : Body) (x : FeederPort) : bootOf { b with fdr := x } = bootOf b := (rfl)
@[simp] theorem bootOf_set_twin (b : Body) (x : Twin) : bootOf { b with twin := x } = bootOf b := (rfl)
@[simp] theorem bootOf_set_hp (b : Body) (x : Vector HostPort 2) : bootOf { b with hp := x } = bootOf b := (rfl)
@[simp] theorem bootOf_set_gainDue (b : Body) (x : List Nat) : bootOf { b with gainDue := x } = bootOf b := (rfl)
@[simp] theorem bootOf_set_dozeReq (b : Body) (x : Option Nat) : bootOf { b with dozeReq := x } = bootOf b := (rfl)
@[simp] theorem bootOf_set_trendWords (b : Body) (x : List (Nat × Nat)) : bootOf { b with trendWords := x } = bootOf b := (rfl)
@[simp] theorem bootOf_set_alertLow (b : Body) (x : Bool) : bootOf { b with alertLow := x } = bootOf b := (rfl)
@[simp] theorem bootOf_set_alertHold (b : Body) (x : Bool) : bootOf { b with alertHold := x } = bootOf b := (rfl)
@[simp] theorem bootOf_set_hubDown (b : Body) (x : Bool) : bootOf { b with hubDown := x } = bootOf b := (rfl)
@[simp] theorem bootOf_set_doze (b : Body) (x : Bool) : bootOf { b with doze := x } = bootOf b := (rfl)
@[simp] theorem bootOf_set_dozeLeaves (b : Body) (x : List (Nat × Nat)) : bootOf { b with dozeLeaves := x } = bootOf b := (rfl)
@[simp] theorem bootOf_set_reply (b : Body) (x : List Nat) : bootOf { b with reply := x } = bootOf b := (rfl)
@[simp] theorem bootOf_set_freeIx (b : Body) (x : Nat) : bootOf { b with freeIx := x } = bootOf b := (rfl)
@[simp] theorem bootOf_wr (b : Body) (f : Fld) (i v : Nat) : bootOf (b.wr f i v) = bootOf b := (rfl)
@[simp] theorem bootOf_bump (b : Body) (f : Fld) (i : Nat) : bootOf (b.bump f i) = bootOf b := (rfl)
@[simp] theorem bootOf_onCh (b : Body) (n : Nat) (f : Chan → Chan) : bootOf (b.onCh n f) = bootOf b := (rfl)
@[simp] theorem bootOf_onEng (b : Body) (n : Nat) (f : Eng → Eng) : bootOf (b.onEng n f) = bootOf b := (rfl)
@[simp] theorem bootOf_onDie (b : Body) (k : Nat) (f : Die → Die) : bootOf (b.onDie k f) = bootOf b := (rfl)
@[simp] theorem bootOf_dwr (b : Body) (k : Nat) (f : Fld) (i v : Nat) : bootOf (b.dwr k f i v) = bootOf b := (rfl)
@[simp] theorem bootOf_onFp (f : FeederPort → FeederPort) (b : Body) : bootOf (b.onFp f) = bootOf b := (rfl)
@[simp] theorem bootOf_onTwin (f : Twin → Twin) (b : Body) : bootOf (b.onTwin f) = bootOf b := (rfl)

@[simp] theorem bootOf_raise (l : Leaf) (b : Body) : bootOf (b.raise l) = bootOf b := by
  simp [Body.raise, apply_ite bootOf, ite_self]
@[simp] theorem bootOf_raiseCh1 (n : Nat) (l : ChLeaf) (b : Body) : bootOf (b.raiseCh1 n l) = bootOf b := by
  simp [Body.raiseCh1, apply_ite bootOf, ite_self]
@[simp] theorem bootOf_raiseCh (n : Nat) (l : ChLeaf) (b : Body) : bootOf (b.raiseCh n l) = bootOf b := by
  simp [Body.raiseCh]
@[simp] theorem bootOf_emit (r : LRec) (b : Body) : bootOf (b.emit r) = bootOf b := by
  simp [Body.emit]
@[simp] theorem bootOf_sendBluli (kind : Nat) (content : List Nat) (b : Body) : bootOf (b.sendBluli kind content) = bootOf b := by
  simp [Body.sendBluli, apply_ite bootOf, ite_self]
@[simp] theorem bootOf_shared (r : LRec) (b : Body) : bootOf (b.shared r) = bootOf b := by
  simp [Body.shared, apply_ite bootOf, ite_self]
@[simp] theorem bootOf_event (time code chan arg0 arg1 arg2 : Nat) (b : Body) : bootOf (b.event time code chan arg0 arg1 arg2) = bootOf b := by
  simp [Body.event]
@[simp] theorem bootOf_framed (k : Nat) (up : Bool) (fs : List (Nat × List Nat)) (b : Body) : bootOf (b.framed k up fs) = bootOf b := by
  simp [Body.framed]
@[simp] theorem bootOf_sendDown (k : Nat) (m : DownMsg) (b : Body) : bootOf (b.sendDown k m) = bootOf b := by
  simp [Body.sendDown]
@[simp] theorem bootOf_fwd (n : Nat) (fs : List (Fld × Nat)) (b : Body) : bootOf (b.fwd n fs) = bootOf b := by
  simp [Body.fwd]
@[simp] theorem bootOf_formPlan (e : Env) (b : Body) : bootOf (b.formPlan e) = bootOf b := by
  simp [Body.formPlan, apply_ite bootOf, ite_self]
@[simp] theorem bootOf_loadLadder (k : Nat) (b : Body) : bootOf (b.loadLadder k) = bootOf b := by
  simp [Body.loadLadder]
@[simp] theorem bootOf_loadLadders (b : Body) : bootOf (b.loadLadders) = bootOf b := by
  simp [Body.loadLadders]
@[simp] theorem bootOf_span (time kind edge mask : Nat) (b : Body) : bootOf (b.span time kind edge mask) = bootOf b := by
  simp [Body.span]
@[simp] theorem bootOf_onPath (n : Nat) (f : MPath → MPath) (b : Body) : bootOf (b.onPath n f) = bootOf b := by
  simp [Body.onPath]
@[simp] theorem bootOf_onUrg (k : Nat) (f : Urgent → Urgent) (b : Body) : bootOf (b.onUrg k f) = bootOf b := by
  simp [Body.onUrg]
@[simp] theorem bootOf_startCap (e : Env) (k : Nat) (b : Body) : bootOf (b.startCap e k) = bootOf b := by
  simp [Body.startCap, apply_ite bootOf, ite_self]
@[simp] theorem bootOf_onVisit (k : Nat) (cvb : Bool) (f : VisitRun → VisitRun) (b : Body) : bootOf (b.onVisit k cvb f) = bootOf b := by
  simp [Body.onVisit]
@[simp] theorem bootOf_visitsPause (e : Env) (k : Nat) (b : Body) : bootOf (b.visitsPause e k) = bootOf b := by
  simp [Body.visitsPause]
@[simp] theorem bootOf_emptyScan (e : Env) (k : Nat) (b : Body) : bootOf (b.emptyScan e k) = bootOf b := by
  simp [Body.emptyScan, apply_ite bootOf, ite_self]
@[simp] theorem bootOf_urgentStart (e : Env) (k : Nat) (b : Body) : bootOf (b.urgentStart e k) = bootOf b := by
  simp [Body.urgentStart, apply_ite bootOf, ite_self]
@[simp] theorem bootOf_capture (e : Env) (k src unit : Nat) (b : Body) : bootOf (b.capture e k src unit) = bootOf b := by
  simp [Body.capture, apply_ite bootOf, ite_self]
@[simp] theorem bootOf_capTrigger (e : Env) (k src unit : Nat) (b : Body) : bootOf (b.capTrigger e k src unit) = bootOf b := by
  simp [Body.capTrigger, apply_ite bootOf, ite_self]
@[simp] theorem bootOf_capTriggerAll (e : Env) (k src unit : Nat) (b : Body) : bootOf (b.capTriggerAll e k src unit) = bootOf b := by
  simp [Body.capTriggerAll, apply_ite bootOf, ite_self]
@[simp] theorem bootOf_dropMeas (n : Nat) (b : Body) : bootOf (b.dropMeas n) = bootOf b := by
  simp [Body.dropMeas, apply_ite bootOf, ite_self]
@[simp] theorem bootOf_endCap (n : Nat) (b : Body) : bootOf (b.endCap n) = bootOf b := by
  simp [Body.endCap, apply_ite bootOf, ite_self]
@[simp] theorem bootOf_cutWide (k : Nat) (b : Body) : bootOf (b.cutWide k) = bootOf b := by
  simp [Body.cutWide, apply_ite bootOf, ite_self]
@[simp] theorem bootOf_latchDie (e : Env) (n : Nat) (b : Body) : bootOf (b.latchDie e n) = bootOf b := by
  simp [Body.latchDie, apply_ite bootOf, ite_self]
@[simp] theorem bootOf_landFields (k : Nat) (b : Body) : bootOf (b.landFields k) = bootOf b := by
  simp [Body.landFields]
@[simp] theorem bootOf_grantDie (e : Env) (n : Nat) (b : Body) : bootOf (b.grantDie e n) = bootOf b := by
  simp [Body.grantDie, apply_ite bootOf, ite_self]
@[simp] theorem bootOf_stateDie (e : Env) (n : Nat) (old new : ChState) (b : Body) : bootOf (b.stateDie e n old new) = bootOf b := by
  simp [Body.stateDie, apply_ite bootOf, ite_self]
@[simp] theorem bootOf_releaseDie (n : Nat) (prior : ChState) (b : Body) : bootOf (b.releaseDie n prior) = bootOf b := by
  simp [Body.releaseDie]
@[simp] theorem bootOf_actDie (e : Env) (m : DownMsg) (b : Body) : bootOf (b.actDie e m) = bootOf b := by
  unfold Body.actDie
  split <;> simp
@[simp] theorem bootOf_tell (e : Env) (k : Nat) (m : DownMsg) (b : Body) : bootOf (b.tell e k m) = bootOf b := by
  simp [Body.tell, apply_ite bootOf, ite_self]
@[simp] theorem bootOf_enter (e : Env) (n : Nat) (st : ChState) (reason : Nat) (b : Body) : bootOf (b.enter e n st reason) = bootOf b := by
  simp [Body.enter, apply_ite bootOf, ite_self]
@[simp] theorem bootOf_setReason (n reason : Nat) (b : Body) : bootOf (b.setReason n reason) = bootOf b := by
  simp [Body.setReason]
@[simp] theorem bootOf_writeTrip (e : Env) (n reason t : Nat) (b : Body) : bootOf (b.writeTrip e n reason t) = bootOf b := by
  simp [Body.writeTrip]
@[simp] theorem bootOf_applyTrip (e : Env) (n reason t : Nat) (b : Body) : bootOf (b.applyTrip e n reason t) = bootOf b := by
  simp [Body.applyTrip, apply_ite bootOf, ite_self]
@[simp] theorem bootOf_applyShort (e : Env) (n t : Nat) (b : Body) : bootOf (b.applyShort e n t) = bootOf b := by
  unfold Body.applyShort
  split <;> simp
@[simp] theorem bootOf_yieldTo (e : Env) (n broken favoured : Nat) (new : ChState) (b : Body) : bootOf (b.yieldTo e n broken favoured new) = bootOf b := by
  simp [Body.yieldTo]
@[simp] theorem bootOf_refuse (e : Env) (n reason : Nat) (b : Body) : bootOf (b.refuse e n reason) = bootOf b := by
  simp [Body.refuse, apply_ite bootOf, ite_self]
@[simp] theorem bootOf_shed (e : Env) (n reason : Nat) (b : Body) : bootOf (b.shed e n reason) = bootOf b := by
  simp [Body.shed]
@[simp] theorem bootOf_enqueue (e : Env) (n : Nat) (b : Body) : bootOf (b.enqueue e n) = bootOf b := by
  unfold Body.enqueue
  dsimp only
  split <;> (try split) <;> simp
@[simp] theorem bootOf_trySeat (e : Env) (n : Nat) (b : Body) : bootOf (b.trySeat e n) = bootOf b := by
  simp [Body.trySeat, apply_ite bootOf, ite_self]
@[simp] theorem bootOf_stampSeat (e : Env) (n t : Nat) (b : Body) : bootOf (b.stampSeat e n t) = bootOf b := by
  simp [Body.stampSeat]
@[simp] theorem bootOf_grant (e : Env) (n : Nat) (b : Body) : bootOf (b.grant e n) = bootOf b := by
  unfold Body.grant
  extract_lets b1 b2 b3 b4 b5
  have h5 : bootOf b5 = bootOf b := by simp [b5, b4, b3, b2, b1]
  exact h5
@[simp] theorem bootOf_enOn (e : Env) (n : Nat) (b : Body) : bootOf (b.enOn e n) = bootOf b := by
  simp [Body.enOn, apply_ite bootOf, ite_self]
@[simp] theorem bootOf_cleared (e : Env) (n cause : Nat) (b : Body) : bootOf (b.cleared e n cause) = bootOf b := by
  simp [Body.cleared]
@[simp] theorem bootOf_aqQualified (e : Env) (n : Nat) (b : Body) : bootOf (b.aqQualified e n) = bootOf b := by
  unfold Body.aqQualified
  dsimp only
  split <;> simp
@[simp] theorem bootOf_aqAtQual (e : Env) (n : Nat) (b : Body) : bootOf (b.aqAtQual e n) = bootOf b := by
  unfold Body.aqAtQual
  split <;> simp [apply_ite bootOf, ite_self]
@[simp] theorem bootOf_startAq (n t : Nat) (b : Body) : bootOf (b.startAq n t) = bootOf b := by
  simp [Body.startAq]
@[simp] theorem bootOf_stopSeat (n : Nat) (b : Body) : bootOf (b.stopSeat n) = bootOf b := by
  simp [Body.stopSeat]
@[simp] theorem bootOf_benchIn (e : Env) (n : Nat) (b : Body) : bootOf (b.benchIn e n) = bootOf b := by
  simp [Body.benchIn]
@[simp] theorem bootOf_restored (e : Env) (n : Nat) (st : ChState) (b : Body) : bootOf (b.restored e n st) = bootOf b := by
  simp [Body.restored, apply_ite bootOf, ite_self]
@[simp] theorem bootOf_imageOk (e : Env) (n : Nat) (b : Body) : bootOf (b.imageOk e n) = bootOf b := by
  unfold Body.imageOk
  dsimp only
  split <;> (try split) <;> simp [apply_ite bootOf, ite_self]
@[simp] theorem bootOf_applyEv (e : Env) (n : Nat) (ev : Ev) (t : Nat) (b : Body) : bootOf (b.applyEv e n ev t) = bootOf b := by
  unfold Body.applyEv
  dsimp only
  split <;> (try split) <;> simp [apply_ite bootOf, ite_self]
@[simp] theorem bootOf_releaseHold (e : Env) (n : Nat) (b : Body) : bootOf (b.releaseHold e n) = bootOf b := by
  simp [Body.releaseHold, apply_ite bootOf, ite_self]
@[simp] theorem bootOf_releaseOne (e : Env) (n r : Nat) (b : Body) : bootOf (b.releaseOne e n r) = bootOf b := by
  unfold Body.releaseOne
  dsimp only
  split <;> simp
@[simp] theorem bootOf_breakHold (e : Env) (n : Nat) (ev : Ev) (t : Nat) (b : Body) : bootOf (b.breakHold e n ev t) = bootOf b := by
  simp [Body.breakHold]
@[simp] theorem bootOf_deliver (e : Env) (n : Nat) (ev : Ev) (t : Nat) (b : Body) : bootOf (b.deliver e n ev t) = bootOf b := by
  unfold Body.deliver
  dsimp only
  split <;> (try split) <;> (try split) <;> simp
@[simp] theorem bootOf_onHu (f : HoldUp → HoldUp) (b : Body) : bootOf (b.onHu f) = bootOf b := by
  simp [Body.onHu]
@[simp] theorem bootOf_bbuSet (e : Env) (cause : Nat) (b : Body) : bootOf (b.bbuSet e cause) = bootOf b := by
  simp [Body.bbuSet, apply_ite bootOf, ite_self]
@[simp] theorem bootOf_returnFollow (e : Env) (b : Body) : bootOf (b.returnFollow e) = bootOf b := by
  simp [Body.returnFollow, apply_ite bootOf, ite_self]
@[simp] theorem bootOf_holdClear (e : Env) (t : HoldTrig) (b : Body) : bootOf (b.holdClear e t) = bootOf b := by
  simp [Body.holdClear, apply_ite bootOf, ite_self]
@[simp] theorem bootOf_closeInterval (e : Env) (n : Nat) (b : Body) : bootOf (b.closeInterval e n) = bootOf b := by
  simp [Body.closeInterval]
@[simp] theorem bootOf_onFd (f : Nat) (g : Feeder → Feeder) (b : Body) : bootOf (b.onFd f g) = bootOf b := by
  simp [Body.onFd]
@[simp] theorem bootOf_fdAnchor (e : Env) (f : Nat) (b : Body) : bootOf (b.fdAnchor e f) = bootOf b := by
  simp [Body.fdAnchor]
@[simp] theorem bootOf_fdRetarget (e : Env) (f : Nat) (b : Body) : bootOf (b.fdRetarget e f) = bootOf b := by
  simp [Body.fdRetarget]
@[simp] theorem bootOf_fdSum (e : Env) (b : Body) : bootOf (b.fdSum e) = bootOf b := by
  simp [Body.fdSum, apply_ite bootOf, ite_self]
@[simp] theorem bootOf_fdState (e : Env) (f st : Nat) (b : Body) : bootOf (b.fdState e f st) = bootOf b := by
  simp [Body.fdState, apply_ite bootOf, ite_self]
@[simp] theorem bootOf_fdStart (e : Env) (f : Nat) (b : Body) : bootOf (b.fdStart e f) = bootOf b := by
  simp [Body.fdStart]
@[simp] theorem bootOf_startEnds (e : Env) (b : Body) : bootOf (b.startEnds e) = bootOf b := by
  simp [Body.startEnds]
@[simp] theorem bootOf_startPath (e : Env) (n : Nat) (b : Body) : bootOf (b.startPath e n) = bootOf b := by
  simp [Body.startPath, apply_ite bootOf, ite_self]
@[simp] theorem bootOf_imgEvents (e : Env) (v : ImgVals) (b : Body) : bootOf (b.imgEvents e v) = bootOf b := by
  simp [Body.imgEvents, apply_ite bootOf, ite_self]
@[simp] theorem bootOf_imageRec (time kind : Nat) (s : ImgSlot) (b : Body) : bootOf (b.imageRec time kind s) = bootOf b := by
  simp [Body.imageRec, apply_ite bootOf, ite_self]
@[simp] theorem bootOf_slotReject (e : Env) (slot code : Nat) (b : Body) : bootOf (b.slotReject e slot code) = bootOf b := by
  simp [Body.slotReject]
@[simp] theorem bootOf_startPoles (n : Nat) (b : Body) : bootOf (b.startPoles n) = bootOf b := by
  simp [Body.startPoles, apply_ite bootOf, ite_self]

end Sys2Proof.Proofs
end

section
/-!
SUPPORT. The shelf flash, the image and the unlocks (R478, R482, R483, R486, R489, R492, R499).
-/

namespace Sys2Proof.Proofs

open Sys2Proof Sys2Proof.Machine Sys2Proof.Safety Sys2Proof.Laws

theorem exec_flashDiscovery (f : Option FlashInfo) (s : State) : exec (.flashDiscovery f) s =
    .next (s.onBody fun e b => if b.readsFlash then b.discovered e f else b) := rfl
theorem exec_imageReadCheck (slotB : Bool) (bytes : List Nat) (s : State) : exec (.imageReadCheck slotB bytes) s =
    .next (s.onBody fun e b => if b.readsFlash && b.boot.flash.isSome then b.slotRead e (bit slotB) bytes else b) := rfl
theorem exec_imageApply (s : State) : exec .imageApply s = execImageApply s := rfl
theorem exec_imageRetry (s : State) : exec .imageRetry s = execImageRetry s := rfl
theorem exec_expertUnlock (v : Word) (s : State) : exec (.expertUnlock v) s = .next (s.onBody fun e b => b.expert e v.toNat) := rfl
theorem exec_expertUnlockTimeout (s : State) : exec .expertUnlockTimeout s = execExpertUnlockTimeout s := rfl

/-! ### The discovery of the flash -/

theorem noImage_shows (e : Env) (cause : Nat) (b : Body) : (b.noImage e cause).rd .modImgstatCause = cause % 16 ∧
    (b.noImage e cause).rd .modImgstatRetrying = 1 ∧
    (∀ f, f ≠ .modImgstatCause → f ≠ .modImgstatSlot → f ≠ .modImgstatRetrying → f ≠ .metaBenchstatExiting →
      (b.noImage e cause).rd f = b.rd f) ∧
    (b.noImage e cause).boot.flash = b.boot.flash ∧ (b.noImage e cause).boot.slotA = b.boot.slotA ∧
    (b.noImage e cause).boot.slotB = b.boot.slotB := by
  have hrd : ∀ f, (b.noImage e cause).rd f = ((((b.wr .modImgstatCause 0 cause).wr .modImgstatSlot 0 3).wr .modImgstatRetrying 0 1).wr
      .metaBenchstatExiting 0 0).rd f := fun _ => rfl
  refine ⟨?_, ?_, fun f hc hs hr hx => ?_, rfl, rfl, rfl⟩
  · rw [hrd, rd_wr_fld _ _ _ _ _ _ (by decide), rd_wr_fld _ _ _ _ _ _ (by decide), rd_wr_fld _ _ _ _ _ _ (by decide), rd_wr_same]
    rfl
  · rw [hrd, rd_wr_fld _ _ _ _ _ _ (by decide), rd_wr_same]
    rfl
  · rw [hrd, rd_wr_fld _ _ _ _ _ _ hx, rd_wr_fld _ _ _ _ _ _ hr, rd_wr_fld _ _ _ _ _ _ hs, rd_wr_fld _ _ _ _ _ _ hc]

theorem discovered_none (e : Env) (b : Body) : (b.discovered e none).rd .modImgstatCause = 1 ∧
    (b.discovered e none).rd .modImgstatRetrying = 1 ∧ (b.discovered e none).rd .modFlashidMode = 0 ∧
    (b.discovered e none).boot.flash = none := by
  unfold Body.discovered
  dsimp only
  generalize hc : (b.onBoot fun x => { x with flash := none, readA := false, readB := false }) = c
  have hflash : c.boot.flash = none := by rw [← hc]; rfl
  obtain ⟨hcause, hretry, hrd, hflash', -⟩ := noImage_shows e 1 (((c.wr .modFlashidMode 0 0).wr .modFlashidAddr 0 0).wr .modFlashidJedecId 0 0)
  refine ⟨hcause, hretry, ?_, hflash'.trans hflash⟩
  rw [hrd _ (by decide) (by decide) (by decide) (by decide), rd_wr_fld _ _ _ _ _ _ (by decide), rd_wr_fld _ _ _ _ _ _ (by decide),
    rd_wr_same]
  rfl

theorem flashMode_lt (i : FlashInfo) : flashMode i < 4 := by
  unfold flashMode
  split
  · decide
  · split <;> decide

theorem discovered_some (e : Env) (i : FlashInfo) (b : Body) : (b.discovered e (some i)).rd .modFlashidMode = flashMode i ∧
    (b.discovered e (some i)).rd .modFlashidAddr = (if i.over128 then 4 else 3) ∧
    (b.discovered e (some i)).boot.flash = some i ∧ (b.discovered e (some i)).boot.readA = false ∧
    (b.discovered e (some i)).boot.readB = false := by
  unfold Body.discovered
  dsimp only
  generalize hc : (b.onBoot fun x => { x with flash := some i, readA := false, readB := false }) = c
  have hboot : c.boot.flash = some i ∧ c.boot.readA = false ∧ c.boot.readB = false := by rw [← hc]; exact ⟨rfl, rfl, rfl⟩
  refine ⟨?_, ?_, hboot⟩
  · rw [rd_wr_fld _ _ _ _ _ _ (by decide), rd_wr_fld _ _ _ _ _ _ (by decide),
      rd_wr_of_lt _ _ (Nat.lt_of_lt_of_le (flashMode_lt i) (by decide))]
  · rw [rd_wr_fld _ _ _ _ _ _ (by decide), rd_wr_same]
    split <;> rfl

/-! ### A slot is read -/

theorem imageHeader_lt (e : Env) (bs : List Nat) : imageHeader e bs < 16 := by
  unfold imageHeader
  dsimp only
  repeat' split
  all_goals decide

theorem imageCheck_lt (e : Env) (b : Body) (bytes : List Nat) : (b.imageCheck e bytes).1 < 16 := by
  unfold Body.imageCheck
  dsimp only
  split
  · exact imageHeader_lt ..
  · split
    · decide
    · dsimp only
      split <;> decide

/-- The field that shows the first failed check of a slot. -/
def rejFld (slot : Nat) : Fld := if slot = 0 then .modImgstatRejA else .modImgstatRejB

theorem rejFld_width (slot : Nat) : 2 ^ fieldWidth (rejFld slot) = 16 := by
  unfold rejFld
  split <;> rfl

theorem slotsRead_leaves (e : Env) (b : Body) (slot : Nat) : (b.slotsRead e).rd (rejFld slot) = b.rd (rejFld slot) ∧
    (b.slotsRead e).boot.slotA = b.boot.slotA ∧ (b.slotsRead e).boot.slotB = b.boot.slotB := by
  have hne : rejFld slot ≠ .modImgstatSlot ∧ rejFld slot ≠ .modBootPhase ∧ rejFld slot ≠ .modImgstatCause ∧
      rejFld slot ≠ .modImgstatRetrying ∧ rejFld slot ≠ .metaBenchstatExiting := by
    unfold rejFld
    split <;> decide
  obtain ⟨hs, hp, hc, hr, hx⟩ := hne
  unfold Body.slotsRead
  split
  · refine ⟨(rd_wr_fld _ _ _ _ _ _ hs).trans ?_, ?_, ?_⟩ <;> split
    · exact rd_wr_fld _ _ _ _ _ _ hp
    all_goals rfl
  · obtain ⟨-, -, hrd, -, hA, hB⟩ := noImage_shows e (if b.rd .modImgstatRejA = 8 ∧ b.rd .modImgstatRejB = 8 then 3 else 2) b
    exact ⟨hrd _ hc hs hr hx, hA, hB⟩

/-- A slot that is read: its image, and what it is rejected for. -/
def readBoot (slot : Nat) (img : Option ImgSlot) (x : Boot) : Boot :=
  if slot = 0 then { x with slotA := img, readA := true } else { x with slotB := img, readB := true }

theorem slotReject_rd (e : Env) (slot : Nat) {code : Nat} (hcode : code < 16) (b : Body) :
    (b.slotReject e slot code).rd (rejFld slot) = code := by
  have hne : rejFld slot ≠ .alertLeaf := by
    unfold rejFld
    split <;> decide
  unfold Body.slotReject
  rw [event_rd, raise_rd _ _ _ _ hne]
  have hwidth : code < 2 ^ fieldWidth (rejFld slot) := by rw [rejFld_width]; exact hcode
  exact rd_wr_of_lt b 0 hwidth

theorem slotRead_leaves (e : Env) (slot : Nat) (bytes : List Nat) (b : Body) :
    (b.slotRead e slot bytes).rd (rejFld slot) = (b.imageCheck e bytes).1 ∧
      (b.slotRead e slot bytes).boot.slotA = (readBoot slot (b.imageCheck e bytes).2 b.boot).slotA ∧
      (b.slotRead e slot bytes).boot.slotB = (readBoot slot (b.imageCheck e bytes).2 b.boot).slotB := by
  have hlt := imageCheck_lt e b bytes
  unfold Body.slotRead
  generalize b.imageCheck e bytes = r at hlt
  extract_lets r' b1 b2
  have h1 : b1.boot = readBoot slot r.2 b.boot := rfl
  have h2 : b2.rd (rejFld slot) = r.1 ∧ b2.boot = b1.boot := by
    unfold b2
    split
    next hz => exact ⟨(rd_wr_same ..).trans (by rw [hz, Nat.zero_mod]), rfl⟩
    · exact ⟨slotReject_rd e slot hlt b1, bootOf_slotReject ..⟩
  clear_value b1 b2
  obtain ⟨hrej, hboot⟩ := h2
  obtain ⟨hrd, hA, hB⟩ := slotsRead_leaves e b2 slot
  rw [hboot, h1] at hA hB
  split
  · exact ⟨hrd.trans hrej, hA, hB⟩
  · rw [hboot, h1]
    exact ⟨hrej, rfl, rfl⟩

/-! ### The image is applied -/

/-- The body with an image before what follows from it. -/
theorem applyImage_boot (e : Env) (img : ImgSlot) (b : Body) :
    (b.applyImage e img).boot.imaged = true ∧ (b.applyImage e img).boot.vals = img.vals := by
  unfold Body.applyImage
  extract_lets v b1 b2 boot b3 b4 b5 b6
  have h3 : b3.boot.imaged = true ∧ b3.boot.vals = v := ⟨rfl, rfl⟩
  clear_value b3
  have h4 : bootOf b4 = bootOf b3 := by
    unfold b4 Body.showImage
    generalize List.range 8 = l
    refine (part_foldl bootOf _ (by exact fun _ _ => rfl) l _).trans ?_
    exact (bootOf_wr ..).trans (bootOf_imgEvents ..)
  have h5 : bootOf b5 = bootOf b4 := by
    unfold b5
    rw [bootOf_wr, bootOf_imageRec]
  have h6 : bootOf b6 = bootOf b5 := bootOf_forEach _ _ _ fun c f => bootOf_fdStart ..
  have hend : (b6.bbuSet e 1).boot = b3.boot := (bootOf_bbuSet ..).trans (h6.trans (h5.trans h4))
  rw [hend]
  exact h3

theorem startEnds_rd (e : Env) (b : Body) (f : Fld) (hp : f ≠ .modBootPhase) (ht : f ≠ .modBootTConfig) (hs : f ≠ .tbTmrctlStart) :
    (b.startEnds e).rd f = b.rd f := by
  unfold Body.startEnds
  rw [rd_wr_fld _ _ _ _ _ _ hs, rd_wr_fld _ _ _ _ _ _ ht, rd_wr_fld _ _ _ _ _ _ hp]

theorem onBoot_boot (f : Boot → Boot) (b : Body) : (b.onBoot f).boot = f b.boot := rfl

theorem startImage_leaves (e : Env) (k : Nat) (img : ImgSlot) (b : Body) :
    (b.startImage e k img).boot.imaged = true ∧ (b.startImage e k img).boot.vals = img.vals ∧
      (b.startImage e k img).boot.retryT = none ∧ (b.startImage e k img).boot.copyDue = decide (k = 1) ∧
      (b.startImage e k img).rd .modImgstatCause = 0 ∧ (b.startImage e k img).rd .modImgstatRetrying = 0 := by
  have happlied := applyImage_boot e img b
  unfold Body.startImage
  generalize b.applyImage e img = b1 at happlied ⊢
  obtain ⟨himaged, hvals⟩ := happlied
  extract_lets first b1' b2 b3
  have h2 : b2.boot = b1.boot := by
    unfold b2
    split
    · generalize (List.range 128).filter _ = l
      exact bootOf_forEach _ _ _ fun c n => bootOf_startPoles ..
    · rfl
  clear_value b2
  have hboot3 : b3.boot = { b2.boot with retryT := none, readA := false, readB := false, copyDue := decide (k = 1) } := by
    unfold b3
    rw [onBoot_boot, wr_boot, wr_boot, wr_boot]
  have hrd3 : b3.rd .modImgstatCause = 0 ∧ b3.rd .modImgstatRetrying = 0 := by
    have hrd : ∀ f, b3.rd f = (((b2.wr .modImgstatCause 0 0).wr .modImgstatRetrying 0 0).wr .metaBenchstatExiting 0 0).rd f := fun _ => rfl
    refine ⟨?_, ?_⟩
    · rw [hrd, rd_wr_fld _ _ _ _ _ _ (by decide), rd_wr_fld _ _ _ _ _ _ (by decide), rd_wr_same, Nat.zero_mod]
    · rw [hrd, rd_wr_fld _ _ _ _ _ _ (by decide), rd_wr_same, Nat.zero_mod]
  clear_value b3
  rw [h2] at hboot3
  obtain ⟨hcause, hretry⟩ := hrd3
  have hends : (b3.startEnds e).boot = b3.boot := bootOf_startEnds ..
  split
  · rw [hboot3]
    exact ⟨himaged, hvals, rfl, rfl, hcause, hretry⟩
  · rw [hends, startEnds_rd _ _ _ (by decide) (by decide) (by decide), startEnds_rd _ _ _ (by decide) (by decide) (by decide), hboot3]
    exact ⟨himaged, hvals, rfl, rfl, hcause, hretry⟩

/-! ### The obligation -/

theorem imageApply_runs {s : State} (hreads : s.body.readsFlash = true) (hA : s.body.boot.readA = true) (hB : s.body.boot.readB = true)
    {k : Nat} {img : ImgSlot} (hc : s.body.boot.chosen = some (k, img)) : Runs .imageApply s fun t =>
      t.body.boot.imaged = true ∧ t.body.boot.vals = img.vals ∧ t.body.boot.retryT = none ∧
      t.body.boot.copyDue = decide (k = 1) ∧ t.body.rd .modImgstatCause = 0 ∧ t.body.rd .modImgstatRetrying = 0 := by
  refine runs_onBody (f := fun e b => if !b.readsFlash || !b.boot.readA || !b.boot.readB then b
    else match b.boot.chosen with
      | some c => b.startImage e c.1 c.2
      | none => b) (exec_imageApply s) ?_
  rw [onBody_body, settle_boot, settle_rd _ _ .modImgstatCause _ rfl, settle_rd _ _ .modImgstatRetrying _ rfl,
    if_neg (by simp [hreads, hA, hB]), hc]
  exact startImage_leaves ..

/-- Settles O56. -/
theorem imagesAndUnlocks : Obligations.ImagesAndUnlocks := by
  refine ⟨fun s hreads => ⟨?_, fun i => ?_, fun hflash bytes => ⟨?_, ?_⟩, fun hA hB => ⟨fun k img hc => imageApply_runs hreads hA hB hc,
    fun hc => ?_⟩, fun T hT => ?_⟩, fun v s hhub => ⟨fun hkey => ?_, fun hkey => ?_, fun T hT => ?_⟩⟩
  · refine runs_onBody (exec_flashDiscovery none s) ?_
    rw [onBody_body, if_pos hreads, settle_boot, settle_rd _ _ .modImgstatCause _ rfl, settle_rd _ _ .modImgstatRetrying _ rfl,
      settle_rd _ _ .modFlashidMode _ rfl]
    exact discovered_none ..
  · refine runs_onBody (exec_flashDiscovery (some i) s) ?_
    rw [onBody_body, if_pos hreads, settle_boot, settle_rd _ _ .modFlashidMode _ rfl, settle_rd _ _ .modFlashidAddr _ rfl]
    exact discovered_some ..
  · refine runs_onBody (exec_imageReadCheck false bytes s) ?_
    rw [onBody_body, if_pos (by simp [hreads, hflash]), settle_boot, settle_rd _ _ .modImgstatRejA _ rfl]
    exact slotRead_leaves s.env 0 bytes s.body
  · refine runs_onBody (exec_imageReadCheck true bytes s) ?_
    rw [onBody_body, if_pos (by simp [hreads, hflash]), settle_boot, settle_rd _ _ .modImgstatRejB _ rfl]
    obtain ⟨hrej, hslotA, hslotB⟩ := slotRead_leaves s.env 1 bytes s.body
    exact ⟨hrej, hslotB, hslotA⟩
  · refine becomes_onBody (exec_imageApply s) ?_
    rw [if_neg (by simp [hreads, hA, hB]), hc]
  · have hexec := exec_imageRetry s
    rw [execImageRetry, hT] at hexec
    refine becomesAt_onBody hexec ?_
    rw [if_pos (by exact hreads)]
    have hnow : (s.goTo T).env.now = max s.time.elapsed T := by
      show s.time.elapsed + (T - s.time.elapsed) = _
      omega
    rw [hnow]
  · refine becomes_onBody (exec_expertUnlock v s) ?_
    unfold Body.expert
    rw [if_neg (by simp [hhub, hkey])]
    rfl
  · refine becomes_onBody (exec_expertUnlock v s) ?_
    unfold Body.expert
    exact if_pos (by simp [hkey])
  · have hexec := exec_expertUnlockTimeout s
    rw [execExpertUnlockTimeout, hT] at hexec
    exact becomesAt_onHub hexec hhub rfl

end Sys2Proof.Proofs
end

section
/-!
SUPPORT. What the fields that come into force leave of the images (R502 to R507).
-/

namespace Sys2Proof.Proofs

open Sys2Proof Sys2Proof.Machine Sys2Proof.Safety Sys2Proof.Laws

@[simp] theorem bootOf_onMtr (f : Meter → Meter) (b : Body) : bootOf (b.onMtr f) = bootOf b := (rfl)
@[simp] theorem bootOf_onRcd (f : Recorder → Recorder) (b : Body) : bootOf (b.onRcd f) = bootOf b := (rfl)
@[simp] theorem bootOf_onTmr (f : Timers → Timers) (b : Body) : bootOf (b.onTmr f) = bootOf b := (rfl)

@[simp] theorem bootOf_calFail (e : Env) (code ch : Nat) (b : Body) : bootOf (b.calFail e code ch) = bootOf b := by
  simp [Body.calFail, apply_ite bootOf, ite_self]
@[simp] theorem bootOf_calInterrupt (e : Env) (b : Body) : bootOf (b.calInterrupt e) = bootOf b := by
  unfold Body.calInterrupt
  split <;> simp [apply_ite bootOf, ite_self]
@[simp] theorem bootOf_onDev (d : Nat) (f : Dev → Dev) (b : Body) : bootOf (b.onDev d f) = bootOf b := (rfl)
@[simp] theorem bootOf_setDev (d st : Nat) (b : Body) : bootOf (b.setDev d st) = bootOf b := (rfl)
@[simp] theorem bootOf_devRec (e : Env) (d kind : Nat) (b : Body) : bootOf (b.devRec e d kind) = bootOf b := (rfl)
@[simp] theorem bootOf_submitF (e : Env) (d : Nat) (fua : Bool) (w : DevWork) (lba : Nat) (us : List Nat) (b : Body) : bootOf (b.submitF e d fua w lba us) = bootOf b := (rfl)
@[simp] theorem bootOf_submit (e : Env) (d : Nat) (w : DevWork) (lba : Nat) (us : List Nat) (b : Body) : bootOf (b.submit e d w lba us) = bootOf b := (rfl)
@[simp] theorem bootOf_showOldest (b : Body) : bootOf (b.showOldest) = bootOf b := (rfl)
@[simp] theorem bootOf_sendStripe (e : Env) (d : Nat) (fua : Bool) (x : StripeSpan) (pages : List Nat) (b : Body) : bootOf (b.sendStripe e d fua x pages) = bootOf b := by
  simp [Body.sendStripe]
@[simp] theorem bootOf_poolWrite (e : Env) (d pseq : Nat) (c : Cap) (b : Body) : bootOf (b.poolWrite e d pseq c) = bootOf b := by
  have hparts : ∀ (lba : Nat) (l : List (Nat × Nat)) (x : Body × List Nat), bootOf (l.foldl (fun x p =>
      (x.1.submit e d (.pool c lba pseq) p.1 (x.2.take (256 * p.2)), x.2.drop (256 * p.2))) x).1 = bootOf x.1 := by
    intro lba l
    induction l with
    | nil => exact fun _ => rfl
    | cons p l ih => intro x; rw [List.foldl_cons, ih, bootOf_submit]
  unfold Body.poolWrite
  extract_lets lba pages m b1
  simp [b1, hparts]
@[simp] theorem bootOf_reissue (e : Env) (o : Nat) (c : DevCmd) (b : Body) : bootOf (b.reissue e o c) = bootOf b := by
  unfold Body.reissue
  split <;> simp [apply_ite bootOf, ite_self]
@[simp] theorem bootOf_takeHeld (e : Env) (d : Nat) (b : Body) : bootOf (b.takeHeld e d) = bootOf b := by
  have hone : ∀ (b : Body) (c : DevCmd), bootOf (match c.work with
      | .ledger p n => b.submit e d (.ledger p n) (b.ledgerLba d p) c.units
      | _ => b.reissue e d c) = bootOf b := by
    intro b c
    split <;> simp
  exact part_foldl bootOf _ hone _ _
@[simp] theorem bootOf_copyNext (e : Env) (d : Nat) (b : Body) : bootOf (b.copyNext e d) = bootOf b := by
  simp [Body.copyNext, apply_ite bootOf, ite_self]
@[simp] theorem bootOf_sendGain (l : Nat) (b : Body) : bootOf (b.sendGain l) = bootOf b := (rfl)
@[simp] theorem bootOf_enOff (e : Env) (n : Nat) (b : Body) : bootOf (b.enOff e n) = bootOf b := by
  simp [Body.enOff, apply_ite bootOf, ite_self]
@[simp] theorem bootOf_enGo (e : Env) (n : Nat) (b : Body) : bootOf (b.enGo e n) = bootOf b := by
  simp [Body.enGo, apply_ite bootOf, ite_self]
@[simp] theorem bootOf_markClamp (n : Nat) (f : Fld) (i : Nat) (held : Bool) (b : Body) : bootOf (b.markClamp n f i held) = bootOf b := (rfl)
@[simp] theorem bootOf_holdField (n : Nat) (asked : Bool) (c : Fld × Nat × Nat × Nat) (b : Body) : bootOf (b.holdField n asked c) = bootOf b := by
  simp [Body.holdField, apply_ite bootOf, ite_self]
@[simp] theorem bootOf_holdHardTrip (e : Env) (n : Nat) (asked : Bool) (b : Body) : bootOf (b.holdHardTrip e n asked) = bootOf b := by
  simp [Body.holdHardTrip, apply_ite bootOf, ite_self]
@[simp] theorem bootOf_holdAll (e : Env) (n : Nat) (asked : List Nat) (b : Body) : bootOf (b.holdAll e n asked) = bootOf b := by
  simp [Body.holdAll]
@[simp] theorem bootOf_trendTurn (e : Env) (b : Body) : bootOf (b.trendTurn e) = bootOf b := by
  unfold Body.trendTurn
  split <;> simp [apply_ite bootOf, ite_self]
@[simp] theorem bootOf_closeDie (e : Env) (k : Nat) (b : Body) : bootOf (b.closeDie e k) = bootOf b := by
  simp [Body.closeDie, apply_ite bootOf, ite_self]
@[simp] theorem bootOf_writeBlock (w : BlkEnd) (b : Body) : bootOf (b.writeBlock w) = bootOf b := (rfl)
theorem bootOf_writeBlocks (k : Nat) (b : Body) : bootOf (Body.writeBlocks k b) = bootOf b := by
  induction k generalizing b with
  | zero => rfl
  | succ k ih =>
    unfold Body.writeBlocks
    split
    · rfl
    · simp [apply_ite bootOf, ih]
@[simp] theorem bootOf_settleBlocks (b : Body) : bootOf b.settleBlocks = bootOf b := bootOf_writeBlocks ..
@[simp] theorem bootOf_closeBlock (e : Env) (step : Bool) (b : Body) : bootOf (b.closeBlock e step) = bootOf b := by
  simp [Body.closeBlock]
@[simp] theorem bootOf_devJoin (e : Env) (d : Nat) (b : Body) : bootOf (b.devJoin e d) = bootOf b := by
  simp [Body.devJoin, apply_ite bootOf, ite_self]
@[simp] theorem bootOf_prepare (e : Env) (d : Nat) (b : Body) : bootOf (b.prepare e d) = bootOf b := by
  simp [Body.prepare, apply_ite bootOf, ite_self]
@[simp] theorem bootOf_showDue (b : Body) : bootOf (b.showDue) = bootOf b := (rfl)
@[simp] theorem bootOf_recHook (e : Env) (f : Fld) (b : Body) : bootOf (b.recHook e f) = bootOf b := by
  simp [Body.recHook, apply_ite bootOf, ite_self]
@[simp] theorem bootOf_onTach (k : Nat) (f : Tach → Tach) (b : Body) : bootOf (b.onTach k f) = bootOf b := (rfl)
@[simp] theorem bootOf_relDone (b : Body) : bootOf (b.relDone) = bootOf b := by
  simp [Body.relDone, apply_ite bootOf, ite_self]
@[simp] theorem bootOf_relCancel (i : Nat) (b : Body) : bootOf (b.relCancel i) = bootOf b := by
  simp [Body.relCancel, apply_ite bootOf, ite_self]
@[simp] theorem bootOf_tachServe (e : Env) (k : Nat) (b : Body) : bootOf (b.tachServe e k) = bootOf b := by
  simp [Body.tachServe, apply_ite bootOf, ite_self]
@[simp] theorem bootOf_tmrHook (e : Env) (f : Fld) (i old : Nat) (b : Body) : bootOf (b.tmrHook e f i old) = bootOf b := by
  unfold Body.tmrHook
  split <;> simp [apply_ite bootOf, ite_self]
@[simp] theorem bootOf_fdRetargetAll (e : Env) (b : Body) : bootOf (b.fdRetargetAll e) = bootOf b := by
  simp [Body.fdRetargetAll, apply_ite bootOf, ite_self]
@[simp] theorem bootOf_setTrim (f : Nat) (x : Int) (b : Body) : bootOf (b.setTrim f x) = bootOf b := (rfl)
@[simp] theorem bootOf_balOff (e : Env) (b : Body) : bootOf (b.balOff e) = bootOf b := by
  simp [Body.balOff]
@[simp] theorem bootOf_showImage (s : ImgSlot) (b : Body) : bootOf (b.showImage s) = bootOf b := (rfl)
@[simp] theorem bootOf_keepOld (ks : List Nat) (b : Body) : bootOf (b.keepOld ks) = bootOf b := (rfl)
@[simp] theorem bootOf_setChan (e : Env) (host : Bool) (n : Nat) (kvs : List (Nat × Nat)) (b : Body) : bootOf (b.setChan e host n kvs) = bootOf b := by
  simp [Body.setChan, apply_ite bootOf, ite_self]
@[simp] theorem bootOf_fpHook (e : Env) (f : Fld) (i old : Nat) (b : Body) : bootOf (b.fpHook e f i old) = bootOf b := by
  unfold Body.fpHook
  split <;> simp [apply_ite bootOf, ite_self]
@[simp] theorem bootOf_setHub (e : Env) (kv : Nat × Nat) (b : Body) : bootOf (b.setHub e kv) = bootOf b := by
  simp [Body.setHub, apply_ite bootOf, ite_self]
@[simp] theorem bootOf_config (e : Env) (host : Bool) (kvs : List (Nat × Nat)) (b : Body) : bootOf (b.config e host kvs) = bootOf b := by
  simp [Body.config, apply_ite bootOf, ite_self]
@[simp] theorem bootOf_atBoundary (e : Env) (f : Body → Body) (b : Body) : bootOf (b.atBoundary e f) = bootOf (f b) := by
  unfold Body.atBoundary
  generalize f b = c
  refine bootOf_forEach _ _ _ fun b k => ?_
  have hpaths : bootOf (b.forEach (dieChannels k) fun n b => if b.meters n && decide ((b.en n).m.openT = e.now) then
      let x := b.newSum n
      b.onPath n fun m => { m with cur := { x with slot := m.cur.slot } } else b) = bootOf b := by
    refine bootOf_forEach _ _ _ fun b n => ?_
    dsimp only
    split <;> simp
  dsimp only
  split
  · rfl
  · split
    · simp
    · exact hpaths
@[simp] theorem bootOf_endBlock (e : Env) (b : Body) : bootOf (b.endBlock e) = bootOf b := by
  simp [Body.endBlock, apply_ite bootOf, ite_self]
@[simp] theorem bootOf_patchTake (e : Env) (v : ImgVals) (ms ks : List Nat) (b : Body) : bootOf (b.patchTake e v ms ks) = bootOf b := by
  simp [Body.patchTake, apply_ite bootOf, ite_self]

end Sys2Proof.Proofs
end

section
/-!
SUPPORT. Staging commands and Patch (R478, R501 to R509, R580).
-/

namespace Sys2Proof.Proofs

open Sys2Proof Sys2Proof.Machine Sys2Proof.Safety Sys2Proof.Laws

theorem exec_imgEraseB (ok : Bool) (s : State) : exec (.imgEraseB ok) s =
    .next (s.onBody fun _ b => b.imgRun 1 fun b => (b.onBoot fun x => { x with slotB := none }).imgEnd ok) := rfl
theorem exec_imgProgram (ok : Bool) (s : State) : exec (.imgProgram ok) s =
    .next (s.onBody fun _ b => b.imgRun 2 fun b => (b.onBoot fun x => { x with slotB := none }).imgEnd ok) := rfl
theorem exec_imgRead (ok : Bool) (bytes : List Nat) (s : State) : exec (.imgRead ok bytes) s =
    execImgRead ok bytes s := rfl
theorem exec_patch (bytes : List Nat) (s : State) : exec (.patch bytes) s =
    .next (s.onBody fun e b => b.imgRun 4 fun b => if b.boot.checked.isSome then b else b.patchCheck e bytes) := rfl
theorem exec_patchAccept (partner ok : Bool) (s : State) : exec (.patchAccept partner ok) s = execPatchAccept partner ok s := rfl
theorem exec_patchSafePoint (n : ChIx) (s : State) : exec (.patchSafePoint n) s =
    .next (s.onBody fun e b => if !b.drives || b.patchRests then b else b.patchChan e (b.leadOf n)) := rfl
theorem exec_patchMeteringApply (s : State) : exec .patchMeteringApply s = execPatchMeteringApply s := rfl
theorem exec_patchSlotCopy (ok : Bool) (s : State) : exec (.patchSlotCopy ok) s =
    .next (s.onBody fun e b => if b.copies then (b.copied e ok).onBoot fun x => { x with copyDue := false } else b) := rfl

/-! ### A staging command starts and ends -/

/-- A staging command has started. -/
def imgStarted (c : Nat) (b : Body) : Body := (b.wr .modImgcmdBusy 0 1).onBoot fun x => { x with cmd := c }

theorem imgStarted_rd (c : Nat) (b : Body) {f : Fld} (i : Nat) (hf : f ≠ .modImgcmdBusy) : (imgStarted c b).rd f i = b.rd f i := by
  show (b.wr .modImgcmdBusy 0 1).rd f i = b.rd f i
  exact rd_wr_fld _ _ _ _ _ _ hf

theorem imgStarted_boot (c : Nat) (b : Body) : (imgStarted c b).boot = { b.boot with cmd := c } := rfl

theorem imgStarted_flag (c : Nat) (b : Body) {f : Fld} (hf : f ≠ .modImgcmdBusy) : (imgStarted c b).flag f = b.flag f := by
  unfold Body.flag
  rw [imgStarted_rd c b 0 hf]

theorem imgStarted_flashFree (c : Nat) (b : Body) : (imgStarted c b).flashFree = b.flashFree := by
  unfold Body.flashFree
  rw [imgStarted_flag c b (by decide), imgStarted_flag c b (by decide)]
  rfl

theorem imgStarted_patchRuns (c : Nat) (b : Body) : (imgStarted c b).patchRuns = b.patchRuns := by
  unfold Body.patchRuns
  rw [imgStarted_rd c b 0 (by decide)]
  rfl

theorem imgStarted_patchBars (c : Nat) (b : Body) : (imgStarted c b).patchBars = b.patchBars := by
  have hholdup : (imgStarted c b).holdup = b.holdup := by
    exact imgStarted_flag c b (by decide)
  unfold Body.patchBars
  rw [imgStarted_patchRuns, hholdup, imgStarted_flag c b (by decide)]
  rfl

/-- The command that has started runs to its end. -/
theorem imgRun_of_start {c : Nat} {b : Body} {f : Body → Body} (hcmd : b.boot.cmd ≠ c) (hhub : b.hubDown = false)
    (hstart : b.imgStart c = imgStarted c b) :
    b.imgRun c f = if b.flashFree || c = 4 then f (imgStarted c b) else (imgStarted c b).imgEnd false := by
  have hruns : ((imgStarted c b).boot.cmd = c && !(imgStarted c b).hubDown) = true := by
    show (decide (c = c) && !b.hubDown) = true
    rw [hhub, decide_eq_true rfl]
    rfl
  unfold Body.imgRun
  rw [if_neg hcmd, hstart]
  dsimp only
  rw [if_pos hruns, imgStarted_flashFree]

/-- The command that does not start leaves the body as its start leaves it. -/
theorem imgRun_of_no_start {c : Nat} {b b' : Body} {f : Body → Body} (hcmd : b.boot.cmd ≠ c) (hstart : b.imgStart c = b')
    (hboot : b'.boot = b.boot) : b.imgRun c f = b' := by
  unfold Body.imgRun
  rw [if_neg hcmd, hstart]
  dsimp only
  rw [if_neg (by simp [hboot, hcmd])]

theorem imgStart_runs {c : Nat} {b : Body} (hbusy : b.flag .modImgcmdBusy = false) (hhub : b.hubDown = false)
    (hlock : c = 3 ∨ b.unlocked 13 = true)
    (hbar : c ≤ 2 → b.patchRuns = false ∧ b.drives = true ∧ b.flag .healthStatBrace = false) : b.imgStart c = imgStarted c b := by
  unfold Body.imgStart
  rw [if_neg (by rcases hlock with h | h <;> simp [hbusy, hhub, h]), if_neg]
  · rfl
  · by_cases hc : c ≤ 2
    · obtain ⟨hpatch, hdrives, hbrace⟩ := hbar hc
      simp [hpatch, hdrives, hbrace]
    · simp [hc]

theorem imgStart_barred {c : Nat} {b : Body} (hbusy : b.flag .modImgcmdBusy = false) (hhub : b.hubDown = false)
    (hlock : b.unlocked 13 = true) (hc : c ≤ 2)
    (hbar : b.patchRuns = true ∨ b.drives = false ∨ b.flag .healthStatBrace = true) : b.imgStart c = b.wr .modImgcmdErr 0 1 := by
  unfold Body.imgStart
  rw [if_neg (by simp [hbusy, hhub, hlock]), if_pos]
  rcases hbar with h | h | h <;> simp [hc, h]

theorem imgStart_locked {c : Nat} {b : Body} (hc : c ≤ 2) (hlock : b.unlocked 13 = false) : b.imgStart c = b := by
  unfold Body.imgStart
  exact if_pos (by simp [hlock]; omega)

/-- The end of a staging command shows it. -/
theorem imgEnd_leaves (ok : Bool) (b : Body) : (b.imgEnd ok).rd .modImgcmdBusy = 0 ∧ (b.imgEnd ok).rd .modImgcmdDone = 1 ∧
    (ok = false → (b.imgEnd ok).rd .modImgcmdErr = 1) ∧ (ok = true → (b.imgEnd ok).rd .modImgcmdErr = b.rd .modImgcmdErr) ∧
    (b.imgEnd ok).boot = { b.boot with cmd := 0 } ∧
    ∀ f i, f ≠ .modImgcmdBusy → f ≠ .modImgcmdDone → f ≠ .modImgcmdErr → (b.imgEnd ok).rd f i = b.rd f i := by
  have hended : ∀ f i, (((b.wr .modImgcmdBusy 0 0).wr .modImgcmdDone 0 1).onBoot fun x => { x with cmd := 0 }).rd f i =
      ((b.wr .modImgcmdBusy 0 0).wr .modImgcmdDone 0 1).rd f i := fun _ _ => rfl
  have hboot : (((b.wr .modImgcmdBusy 0 0).wr .modImgcmdDone 0 1).onBoot fun x => { x with cmd := 0 }).boot =
      { b.boot with cmd := 0 } := rfl
  have hbusy : ((b.wr .modImgcmdBusy 0 0).wr .modImgcmdDone 0 1).rd .modImgcmdBusy = 0 := by
    rw [rd_wr_fld _ _ _ _ _ _ (by decide), rd_wr_same, Nat.zero_mod]
  have hdone : ((b.wr .modImgcmdBusy 0 0).wr .modImgcmdDone 0 1).rd .modImgcmdDone = 1 := rd_wr_same ..
  unfold Body.imgEnd
  generalize (((b.wr .modImgcmdBusy 0 0).wr .modImgcmdDone 0 1).onBoot fun x => { x with cmd := 0 }) = c at hended hboot
  cases ok with
  | true =>
    refine ⟨(hended ..).trans hbusy, (hended ..).trans hdone, nofun, fun _ => ?_, hboot, fun f i hb hd _ => ?_⟩
    · exact (hended ..).trans ((rd_wr_fld _ _ _ _ _ _ (by decide)).trans (rd_wr_fld _ _ _ _ _ _ (by decide)))
    · exact (hended ..).trans ((rd_wr_fld _ _ _ _ _ _ hd).trans (rd_wr_fld _ _ _ _ _ _ hb))
  | false =>
    refine ⟨(rd_wr_fld _ _ _ _ _ _ (by decide)).trans ((hended ..).trans hbusy),
      (rd_wr_fld _ _ _ _ _ _ (by decide)).trans ((hended ..).trans hdone), fun _ => rd_wr_same .., nofun, hboot, fun f i hb hd he => ?_⟩
    exact (rd_wr_fld _ _ _ _ _ _ he).trans ((hended ..).trans
      ((rd_wr_fld _ _ _ _ _ _ hd).trans (rd_wr_fld _ _ _ _ _ _ hb)))

/-- A started command that may not drive the flash fails and leaves the images. -/
theorem imgEnd_fails {c : Nat} {b : Body} (hcmd : b.boot.cmd = 0) :
    ((imgStarted c b).imgEnd false).rd .modImgcmdBusy = 0 ∧ ((imgStarted c b).imgEnd false).rd .modImgcmdDone = 1 ∧
      ((imgStarted c b).imgEnd false).rd .modImgcmdErr = 1 ∧ ((imgStarted c b).imgEnd false).boot = b.boot ∧
      ∀ j, ((imgStarted c b).imgEnd false).rd .modImgbufBytes j = b.rd .modImgbufBytes j := by
  obtain ⟨hbusy, hdone, herr, -, hboot, hrd⟩ := imgEnd_leaves false (imgStarted c b)
  refine ⟨hbusy, hdone, herr rfl, ?_, fun j => (hrd _ j (by decide) (by decide) (by decide)).trans (imgStarted_rd c b j (by decide))⟩
  rw [hboot, imgStarted_boot, ← hcmd]

/-! ### ERASE_B, PROGRAM and READ -/

/-- Slot B is written, and the command ends. -/
def slotBWritten (ok : Bool) (b : Body) : Body := (b.onBoot fun x => { x with slotB := none }).imgEnd ok

/-- ERASE_B and PROGRAM are the staging commands 1 and 2, and write slot B. -/
theorem exec_slotBWrite {i : Instr} {ok : Bool} (hi : i = .imgEraseB ok ∨ i = .imgProgram ok) :
    ∃ c, 1 ≤ c ∧ c ≤ 2 ∧ ∀ s, exec i s = .next (s.onBody fun _ b => b.imgRun c (slotBWritten ok)) := by
  rcases hi with rfl | rfl
  · exact ⟨1, le_rfl, by decide, fun _ => rfl⟩
  · exact ⟨2, by decide, le_rfl, fun _ => rfl⟩

section
variable {i : Instr} {ok : Bool} {s : State} (hi : i = .imgEraseB ok ∨ i = .imgProgram ok)
  (hhub : s.body.hubDown = false) (hcmd : s.body.boot.cmd = 0) (hbusy : s.body.flag .modImgcmdBusy = false)
include hi hhub hcmd hbusy

theorem slotBWrite_runs (hlock : s.body.unlocked 13 = true) (hpatch : s.body.patchRuns = false) (hfree : s.body.flashFree = true)
    (hbrace : s.body.flag .healthStatBrace = false) : Runs i s fun t =>
      t.body.rd .modImgcmdBusy = 0 ∧ t.body.rd .modImgcmdDone = 1 ∧ t.body.boot.slotB = none ∧
      t.body.boot.slotA = s.body.boot.slotA ∧ (ok = false → t.body.rd .modImgcmdErr = 1) ∧
      (ok = true → t.body.rd .modImgcmdErr = s.body.rd .modImgcmdErr) := by
  obtain ⟨c, hc1, hc2, hexec⟩ := exec_slotBWrite hi
  have hdrives : s.body.drives = true := (Bool.and_eq_true _ _ ▸ hfree : _ ∧ _).1
  refine runs_onBody (hexec s) ?_
  rw [onBody_body, settle_boot, settle_rd _ _ .modImgcmdBusy _ rfl, settle_rd _ _ .modImgcmdDone _ rfl,
    settle_rd _ _ .modImgcmdErr _ rfl, imgRun_of_start (by omega) hhub
      (imgStart_runs hbusy hhub (.inr hlock) fun _ => ⟨hpatch, hdrives, hbrace⟩), if_pos (by simp [hfree])]
  obtain ⟨hbusy', hdone, herr, hkept, hboot, -⟩ := imgEnd_leaves ok ((imgStarted c s.body).onBoot fun x => { x with slotB := none })
  have hslotA : (slotBWritten ok (imgStarted c s.body)).boot.slotA = s.body.boot.slotA := (congrArg Boot.slotA hboot).trans rfl
  refine ⟨hbusy', hdone, congrArg Boot.slotB hboot, hslotA, herr, fun hok => ?_⟩
  exact (hkept hok).trans (imgStarted_rd c s.body 0 (by decide))

theorem slotBWrite_barred (hlock : s.body.unlocked 13 = true)
    (hbar : s.body.patchRuns = true ∨ s.body.drives = false ∨ s.body.flag .healthStatBrace = true) :
    Becomes i s (s.body.wr .modImgcmdErr 0 1) := by
  obtain ⟨c, hc1, hc2, hexec⟩ := exec_slotBWrite hi
  refine becomes_onBody (hexec s) ?_
  exact imgRun_of_no_start (by omega) (imgStart_barred hbusy hhub hlock hc2 hbar) rfl

theorem slotBWrite_fails (hlock : s.body.unlocked 13 = true) (hpatch : s.body.patchRuns = false) (hdrives : s.body.drives = true)
    (hbrace : s.body.flag .healthStatBrace = false) (hfree : s.body.flashFree = false) : Runs i s fun t =>
      t.body.rd .modImgcmdBusy = 0 ∧ t.body.rd .modImgcmdDone = 1 ∧ t.body.rd .modImgcmdErr = 1 ∧ t.body.boot = s.body.boot := by
  obtain ⟨c, hc1, hc2, hexec⟩ := exec_slotBWrite hi
  refine runs_onBody (hexec s) ?_
  rw [onBody_body, settle_boot, settle_rd _ _ .modImgcmdBusy _ rfl, settle_rd _ _ .modImgcmdDone _ rfl,
    settle_rd _ _ .modImgcmdErr _ rfl, imgRun_of_start (by omega) hhub
      (imgStart_runs hbusy hhub (.inr hlock) fun _ => ⟨hpatch, hdrives, hbrace⟩), if_neg (by simp [hfree]; omega)]
  obtain ⟨hbusy', hdone, herr, hboot, -⟩ := imgEnd_fails (c := c) hcmd
  exact ⟨hbusy', hdone, herr, hboot⟩

omit hhub hbusy in
theorem slotBWrite_locked (hlock : s.body.unlocked 13 = false) : Becomes i s s.body := by
  obtain ⟨c, hc1, hc2, hexec⟩ := exec_slotBWrite hi
  refine becomes_onBody (hexec s) ?_
  exact imgRun_of_no_start (by omega) (imgStart_locked hc2 hlock) rfl

end

/-- A page is read into IMGBUF. -/
def pageRead (ok : Bool) (bytes : List Nat) (b : Body) : Body :=
  if ok then (List.range 64).foldl (fun b j => b.wr .modImgbufBytes j (wordAt bytes (4 * j))) b else b

theorem execImgRead_eq (ok : Bool) (bytes : List Nat) (s : State) : execImgRead ok bytes s =
    .next (s.onBody fun _ b => b.imgRun 3 fun b => (pageRead ok bytes b).imgEnd ok) := rfl

theorem wrs_rd_same (f : Fld) (v : Nat → Nat) (b : Body) (n i : Nat) :
    ((List.range n).foldl (fun b j => b.wr f j (v j)) b).rd f i = if i < n then v i % 2 ^ fieldWidth f else b.rd f i := by
  induction n with
  | zero => rfl
  | succ n ih =>
    rw [List.range_succ, List.foldl_append, List.foldl_cons, List.foldl_nil]
    by_cases hin : i = n
    · subst hin
      rw [rd_wr_same, if_pos (Nat.lt_succ_self _)]
    · rw [rd_wr_ix _ _ _ _ _ hin, ih]
      by_cases hlt : i < n
      · rw [if_pos hlt, if_pos (by omega)]
      · rw [if_neg hlt, if_neg (by omega)]

theorem wrs_rd_fld {f g : Fld} (hne : g ≠ f) (v : Nat → Nat) (b : Body) (l : List Nat) (i : Nat) :
    (l.foldl (fun b j => b.wr f j (v j)) b).rd g i = b.rd g i :=
  part_foldl (fun b : Body => b.rd g i) _ (fun b j => rd_wr_fld b f g j i (v j) hne) l b

theorem pageRead_boot (ok : Bool) (bytes : List Nat) (b : Body) : (pageRead ok bytes b).boot = b.boot := by
  unfold pageRead
  split
  · exact part_foldl Body.boot _ (fun b j => wr_boot b .modImgbufBytes j (wordAt bytes (4 * j))) _ b
  · rfl

section
variable {ok : Bool} {bytes : List Nat} {s : State} (hhub : s.body.hubDown = false) (hcmd : s.body.boot.cmd = 0)
  (hbusy : s.body.flag .modImgcmdBusy = false)
include hhub hcmd hbusy

theorem imgRead_fails (hfree : s.body.flashFree = false) : Runs (.imgRead ok bytes) s fun t => t.body.rd .modImgcmdBusy = 0 ∧
    t.body.rd .modImgcmdDone = 1 ∧ t.body.rd .modImgcmdErr = 1 ∧ ∀ j, t.body.rd .modImgbufBytes j = s.body.rd .modImgbufBytes j := by
  refine runs_onBody ((exec_imgRead ok bytes s).trans (execImgRead_eq ok bytes s)) ?_
  rw [onBody_body, settle_rd _ _ .modImgcmdBusy _ rfl, settle_rd _ _ .modImgcmdDone _ rfl, settle_rd _ _ .modImgcmdErr _ rfl,
    imgRun_of_start (by omega) hhub (imgStart_runs hbusy hhub (.inl rfl) (by omega)), if_neg (by simp [hfree])]
  obtain ⟨hbusy', hdone, herr, -, hbuf⟩ := imgEnd_fails (c := 3) hcmd
  exact ⟨hbusy', hdone, herr, fun j => (settle_rd _ _ .modImgbufBytes j rfl).trans (hbuf j)⟩

theorem imgRead_runs (hfree : s.body.flashFree = true) : Runs (.imgRead ok bytes) s fun t =>
    t.body.rd .modImgcmdBusy = 0 ∧ t.body.rd .modImgcmdDone = 1 ∧ t.body.boot = s.body.boot ∧
    (ok = true → ∀ j, j < 64 → t.body.rd .modImgbufBytes j = wordAt bytes (4 * j) % 2 ^ 32) ∧
    (ok = false → t.body.rd .modImgcmdErr = 1 ∧ ∀ j, t.body.rd .modImgbufBytes j = s.body.rd .modImgbufBytes j) := by
  refine runs_onBody ((exec_imgRead ok bytes s).trans (execImgRead_eq ok bytes s)) ?_
  rw [onBody_body, settle_boot, settle_rd _ _ .modImgcmdBusy _ rfl, settle_rd _ _ .modImgcmdDone _ rfl,
    settle_rd _ _ .modImgcmdErr _ rfl, imgRun_of_start (by omega) hhub (imgStart_runs hbusy hhub (.inl rfl) (by omega)),
    if_pos (by simp [hfree])]
  obtain ⟨hbusy', hdone, herr, -, hboot, hrd⟩ := imgEnd_leaves ok (pageRead ok bytes (imgStarted 3 s.body))
  have hbuf := fun j => (settle_rd s.env ((pageRead ok bytes (imgStarted 3 s.body)).imgEnd ok) .modImgbufBytes j rfl).trans
    (hrd .modImgbufBytes j (by decide) (by decide) (by decide))
  refine ⟨hbusy', hdone, hboot.trans ?_, fun hok j hj => (hbuf j).trans ?_, fun hok => ⟨herr hok, fun j => (hbuf j).trans ?_⟩⟩
  · rw [pageRead_boot, imgStarted_boot, ← hcmd]
  · subst hok
    unfold pageRead
    rw [if_pos rfl, wrs_rd_same, if_pos hj]
    rfl
  · subst hok
    exact imgStarted_rd 3 s.body j (by decide)

end

/-! ### PATCH and its checks -/

/-- The checks of a slot ask only for the strap and the classes that the module holds. -/
theorem imageCheck_congr (e : Env) {b c : Body} (hstrap : b.rd .modStrapS = c.rd .modStrapS)
    (hclass : ∀ n, b.rd .chClassFclass n = c.rd .chClassFclass n) (bytes : List Nat) : b.imageCheck e bytes = c.imageCheck e bytes := by
  have hcontent : ∀ ws, b.imgContent e ws = c.imgContent e ws := fun ws => by
    unfold Body.imgContent
    simp only [hstrap, hclass]
  unfold Body.imageCheck
  simp only [hcontent]

theorem patchBars_lt (b : Body) : b.patchBars < 16 := by
  unfold Body.patchBars
  dsimp only
  have hcode : ∀ busy idle : Bool, (if busy then 1 else if idle then 2 else 0) < 16 := by decide
  split <;> exact hcode ..

/-- A Patch that is refused shows the code and ends its command. -/
theorem patchRefuse_leaves (e : Env) {code : Nat} (hcode : code < 16) (seq : Nat) (b : Body) :
    (b.patchRefuse e code seq).rd .modPatchstatState = 6 ∧ (b.patchRefuse e code seq).rd .modPatchstatRefuse = code ∧
      (b.patchRefuse e code seq).rd .modImgcmdBusy = 0 ∧ (b.patchRefuse e code seq).rd .modImgcmdErr = 1 ∧
      (b.patchRefuse e code seq).boot.checked = none ∧
      (b.patchRefuse e code seq).rd .modImgstatRejB = b.rd .modImgstatRejB := by
  unfold Body.patchRefuse
  dsimp only
  generalize hc : (((b.wr .modPatchstatState 0 6).wr .modPatchstatRefuse 0 code).onBoot fun x => { x with checked := none }) = c
  have hrd : ∀ f, c.rd f = ((b.wr .modPatchstatState 0 6).wr .modPatchstatRefuse 0 code).rd f := fun f => by rw [← hc]; rfl
  have hchecked : c.boot.checked = none := by rw [← hc]; rfl
  obtain ⟨hbusy, -, herr, -, hboot, hkept⟩ := imgEnd_leaves false ((c.raise (10, 12)).event e.count 0x0301 0xFF code seq 0)
  have hshown : ∀ f, f ≠ .alertLeaf → f ≠ .modImgcmdBusy → f ≠ .modImgcmdDone → f ≠ .modImgcmdErr →
      (((c.raise (10, 12)).event e.count 0x0301 0xFF code seq 0).imgEnd false).rd f =
        ((b.wr .modPatchstatState 0 6).wr .modPatchstatRefuse 0 code).rd f := fun f hl hb hd he => by
    rw [hkept f 0 hb hd he, event_rd, raise_rd _ _ _ _ hl, hrd]
  refine ⟨?_, ?_, hbusy, herr rfl, ?_, ?_⟩
  · rw [hshown _ (by decide) (by decide) (by decide) (by decide), rd_wr_fld _ _ _ _ _ _ (by decide), rd_wr_same]
    rfl
  · rw [hshown _ (by decide) (by decide) (by decide) (by decide)]
    exact rd_wr_of_lt _ _ hcode
  · have hkeep : ((c.raise (10, 12)).event e.count 0x0301 0xFF code seq 0).boot = c.boot := (bootOf_event ..).trans (bootOf_raise ..)
    rw [hboot, hkeep]
    exact hchecked
  · rw [hshown _ (by decide) (by decide) (by decide) (by decide), rd_wr_fld _ _ _ _ _ _ (by decide),
      rd_wr_fld _ _ _ _ _ _ (by decide)]

/-- The checks of PATCH begin. -/
def patchBegun (b : Body) : Body := ((imgStarted 4 b).wr .modPatchstatState 0 1).wr .modPatchstatRefuse 0 0

theorem patchBegun_rd (b : Body) {f : Fld} (i : Nat) (hb : f ≠ .modImgcmdBusy) (hs : f ≠ .modPatchstatState)
    (hr : f ≠ .modPatchstatRefuse) : (patchBegun b).rd f i = b.rd f i :=
  (rd_wr_fld _ _ _ _ _ _ hr).trans ((rd_wr_fld _ _ _ _ _ _ hs).trans (imgStarted_rd 4 b i hb))

theorem patchBegun_flashFree (b : Body) : (patchBegun b).flashFree = b.flashFree := by
  have hflag : ∀ f, f ≠ .modImgcmdBusy → f ≠ .modPatchstatState → f ≠ .modPatchstatRefuse → (patchBegun b).flag f = b.flag f :=
    fun f hb hs hr => by
      unfold Body.flag
      rw [patchBegun_rd b 0 hb hs hr]
  unfold Body.flashFree
  rw [hflag _ (by decide) (by decide) (by decide), hflag _ (by decide) (by decide) (by decide)]
  rfl

theorem patchBegun_check (e : Env) (bytes : List Nat) (b : Body) : (patchBegun b).imageCheck e bytes = b.imageCheck e bytes :=
  imageCheck_congr e (patchBegun_rd b 0 (by decide) (by decide) (by decide))
    (fun n => patchBegun_rd b n (by decide) (by decide) (by decide)) bytes

section
variable {bytes : List Nat} {s : State} (hhub : s.body.hubDown = false) (hcmd : s.body.boot.cmd = 0)
  (hchecked : s.body.boot.checked = none) (hbusy : s.body.flag .modImgcmdBusy = false) (hlock : s.body.unlocked 13 = true)
include hhub hcmd hchecked hbusy hlock

/-- What a PATCH does that starts: its checks, on the body where the command has started. -/
theorem patch_runs {P : Body → Prop} (hP : P ((imgStarted 4 s.body).patchCheck s.env bytes)) (hsettle : ∀ b, P b → P (b.settle s.env)) :
    Runs (.patch bytes) s fun t => P t.body := by
  refine runs_onBody (exec_patch bytes s) ?_
  rw [onBody_body, imgRun_of_start (by omega) hhub (imgStart_runs hbusy hhub (.inr hlock) (by omega)), if_pos (by simp),
    if_neg (by rw [imgStarted_boot, hchecked]; decide)]
  exact hsettle _ hP

end

/-- What PATCH shows. -/
def PatchShown (state refuse : Nat) (b : Body) : Prop := b.rd .modPatchstatState = state ∧ b.rd .modPatchstatRefuse = refuse

theorem patchCheck_barred (e : Env) (bytes : List Nat) {b : Body} (hbar : b.patchBars ≠ 0) :
    (imgStarted 4 b).patchCheck e bytes = (imgStarted 4 b).patchRefuse e b.patchBars (wordAt bytes 0xC) := by
  unfold Body.patchCheck
  dsimp only
  rw [imgStarted_patchBars, if_pos hbar]

theorem patchCheck_unread (e : Env) {bytes : List Nat} {b : Body} (hbar : b.patchBars = 0) (hread : bytes = [] ∨ b.flashFree = false) :
    (imgStarted 4 b).patchCheck e bytes = (patchBegun b).patchRefuse e 7 (wordAt bytes 0xC) := by
  have hnot : (bytes.isEmpty || !(patchBegun b).flashFree) = true := by
    rw [patchBegun_flashFree]
    rcases hread with h | h <;> simp [h]
  unfold Body.patchCheck
  dsimp only
  rw [imgStarted_patchBars, if_neg (by simp [hbar])]
  exact if_pos hnot

/-- A slot B that is read goes to its checks (R502). -/
theorem patchCheck_reads (e : Env) {bytes : List Nat} {b : Body} (hbar : b.patchBars = 0) (hread : bytes ≠ [])
    (hfree : b.flashFree = true) : (imgStarted 4 b).patchCheck e bytes =
      match b.imageCheck e bytes with
      | (code, none) => ((patchBegun b).slotReject e 1 code).patchRefuse e 3 (wordAt bytes 0xC)
      | (_, some img) =>
        if img.seq ≤ ((patchBegun b).wr .modImgstatRejB 0 0).rd .modImgseqSeq then
          ((patchBegun b).wr .modImgstatRejB 0 0).patchRefuse e 4 (wordAt bytes 0xC)
        else if fixedDiffers ((patchBegun b).wr .modImgstatRejB 0 0).boot.vals img.vals then
          ((patchBegun b).wr .modImgstatRejB 0 0).patchRefuse e 5 (wordAt bytes 0xC)
        else (if ((patchBegun b).wr .modImgstatRejB 0 0).role = .active then
            ((patchBegun b).wr .modImgstatRejB 0 0).sendBluli 2 img.words
          else (patchBegun b).wr .modImgstatRejB 0 0).onBoot fun x => { x with checked := some img } := by
  have hgo : ¬(bytes.isEmpty || !(patchBegun b).flashFree) = true := by
    rw [patchBegun_flashFree]
    simp [hread, hfree]
  unfold Body.patchCheck
  dsimp only
  rw [imgStarted_patchBars, if_neg (by simp [hbar])]
  refine (if_neg hgo).trans ?_
  show (match (patchBegun b).imageCheck e bytes with | (code, none) => _ | (_, some img) => _) = _
  rw [patchBegun_check]
  rfl

theorem patchCheck_shows (e : Env) {bytes : List Nat} {b : Body} (hbar : b.patchBars = 0) (hread : bytes ≠ [])
    (hfree : b.flashFree = true) :
    match (b.imageCheck e bytes).2 with
    | none => ((imgStarted 4 b).patchCheck e bytes).rd .modPatchstatState = 6 ∧
        ((imgStarted 4 b).patchCheck e bytes).rd .modPatchstatRefuse = 3 ∧
        ((imgStarted 4 b).patchCheck e bytes).rd .modImgstatRejB = (b.imageCheck e bytes).1
    | some img =>
      if img.seq ≤ b.rd .modImgseqSeq then PatchShown 6 4 ((imgStarted 4 b).patchCheck e bytes)
      else if fixedDiffers b.boot.vals img.vals then PatchShown 6 5 ((imgStarted 4 b).patchCheck e bytes)
      else ((imgStarted 4 b).patchCheck e bytes).rd .modPatchstatState = 1 ∧
        ((imgStarted 4 b).patchCheck e bytes).boot.checked = some img := by
  rw [patchCheck_reads e hbar hread hfree]
  have hlt := imageCheck_lt e b bytes
  generalize b.imageCheck e bytes = r at hlt ⊢
  obtain ⟨code, _ | img⟩ := r
  · obtain ⟨hstate, hrefuse, -, -, -, hrej⟩ :=
      patchRefuse_leaves e (code := 3) (by decide) (wordAt bytes 0xC) ((patchBegun b).slotReject e 1 code)
    exact ⟨hstate, hrefuse, hrej.trans (slotReject_rd e 1 hlt _)⟩
  · have hseq : ((patchBegun b).wr .modImgstatRejB 0 0).rd .modImgseqSeq = b.rd .modImgseqSeq :=
      (rd_wr_fld _ _ _ _ _ _ (by decide)).trans (patchBegun_rd b 0 (by decide) (by decide) (by decide))
    have hvals : ((patchBegun b).wr .modImgstatRejB 0 0).boot.vals = b.boot.vals := rfl
    have hstate : ((patchBegun b).wr .modImgstatRejB 0 0).rd .modPatchstatState = 1 := by
      rw [rd_wr_fld _ _ _ _ _ _ (by decide)]
      unfold patchBegun
      rw [rd_wr_fld _ _ _ _ _ _ (by decide), rd_wr_same]
      rfl
    dsimp only
    rw [hseq, hvals]
    generalize (patchBegun b).wr .modImgstatRejB 0 0 = c at hstate ⊢
    have hshown : ∀ code, code < 16 → PatchShown 6 code (c.patchRefuse e code (wordAt bytes 0xC)) := fun code hcode =>
      have h := patchRefuse_leaves e hcode (wordAt bytes 0xC) c
      ⟨h.1, h.2.1⟩
    by_cases hold : img.seq ≤ b.rd .modImgseqSeq
    · rw [if_pos hold, if_pos hold]
      exact hshown 4 (by decide)
    · rw [if_neg hold, if_neg hold]
      by_cases hfixed : fixedDiffers b.boot.vals img.vals = true
      · rw [if_pos hfixed, if_pos hfixed]
        exact hshown 5 (by decide)
      · rw [if_neg hfixed, if_neg hfixed]
        refine ⟨?_, rfl⟩
        show (if c.role = .active then c.sendBluli 2 img.words else c).rd .modPatchstatState = 1
        split
        · exact (rd_of_regs (sendBluli_regs ..) ..).trans hstate
        · exact hstate

section
variable {s : State} (hhub : s.body.hubDown = false) (hcmd : s.body.boot.cmd = 0)
  (hchecked : s.body.boot.checked = none) (hbusy : s.body.flag .modImgcmdBusy = false) (hlock : s.body.unlocked 13 = true)
include hhub hcmd hchecked hbusy hlock

theorem patch_barred {bytes : List Nat} (hbar : s.body.patchBars ≠ 0) : Runs (.patch bytes) s fun t =>
    t.body.rd .modPatchstatState = 6 ∧ t.body.rd .modPatchstatRefuse = s.body.patchBars ∧
    t.body.rd .modImgcmdBusy = 0 ∧ t.body.rd .modImgcmdErr = 1 ∧ t.body.boot.checked = none := by
  refine patch_runs hhub hcmd hchecked hbusy hlock (P := fun b => b.rd .modPatchstatState = 6 ∧
    b.rd .modPatchstatRefuse = s.body.patchBars ∧ b.rd .modImgcmdBusy = 0 ∧ b.rd .modImgcmdErr = 1 ∧ b.boot.checked = none) ?_
    fun b hb => ?_
  · rw [patchCheck_barred s.env bytes hbar]
    obtain ⟨hstate, hrefuse, hb, herr, hnone, -⟩ :=
      patchRefuse_leaves s.env (patchBars_lt s.body) (wordAt bytes 0xC) (imgStarted 4 s.body)
    exact ⟨hstate, hrefuse, hb, herr, hnone⟩
  · rw [settle_boot, settle_rd _ _ .modPatchstatState _ rfl, settle_rd _ _ .modPatchstatRefuse _ rfl,
      settle_rd _ _ .modImgcmdBusy _ rfl, settle_rd _ _ .modImgcmdErr _ rfl]
    exact hb

theorem patch_unread {bytes : List Nat} (hbar : s.body.patchBars = 0) (hread : bytes = [] ∨ s.body.flashFree = false) :
    Runs (.patch bytes) s fun t =>
      t.body.rd .modPatchstatState = 6 ∧ t.body.rd .modPatchstatRefuse = 7 ∧ t.body.boot.checked = none := by
  refine patch_runs hhub hcmd hchecked hbusy hlock (P := fun b => b.rd .modPatchstatState = 6 ∧
    b.rd .modPatchstatRefuse = 7 ∧ b.boot.checked = none) ?_ fun b hb => ?_
  · rw [patchCheck_unread s.env hbar hread]
    obtain ⟨hstate, hrefuse, -, -, hnone, -⟩ :=
      patchRefuse_leaves s.env (code := 7) (by decide) (wordAt bytes 0xC) (patchBegun s.body)
    exact ⟨hstate, hrefuse, hnone⟩
  · rw [settle_boot, settle_rd _ _ .modPatchstatState _ rfl, settle_rd _ _ .modPatchstatRefuse _ rfl]
    exact hb

theorem patch_checks {bytes : List Nat} (hbar : s.body.patchBars = 0) (hread : bytes ≠ []) (hfree : s.body.flashFree = true) :
    Runs (.patch bytes) s fun t =>
      match (s.body.imageCheck s.env bytes).2 with
      | none => t.body.rd .modPatchstatState = 6 ∧ t.body.rd .modPatchstatRefuse = 3 ∧
          t.body.rd .modImgstatRejB = (s.body.imageCheck s.env bytes).1
      | some img =>
        if img.seq ≤ s.body.rd .modImgseqSeq then PatchShown 6 4 t.body
        else if fixedDiffers s.body.boot.vals img.vals then PatchShown 6 5 t.body
        else t.body.rd .modPatchstatState = 1 ∧ t.body.boot.checked = some img := by
  have hsettle : ∀ (b : Body) st rf, PatchShown st rf b → PatchShown st rf (b.settle s.env) := fun b st rf h => by
    unfold PatchShown
    rw [settle_rd _ _ .modPatchstatState _ rfl, settle_rd _ _ .modPatchstatRefuse _ rfl]
    exact h
  have hP := patchCheck_shows s.env hbar hread hfree
  generalize s.body.imageCheck s.env bytes = r at hP ⊢
  obtain ⟨code, _ | img⟩ := r
  · refine patch_runs hhub hcmd hchecked hbusy hlock (P := fun b => b.rd .modPatchstatState = 6 ∧ b.rd .modPatchstatRefuse = 3 ∧
      b.rd .modImgstatRejB = code) hP fun b hb => ?_
    rw [settle_rd _ _ .modPatchstatState _ rfl, settle_rd _ _ .modPatchstatRefuse _ rfl, settle_rd _ _ .modImgstatRejB _ rfl]
    exact hb
  · dsimp only at hP ⊢
    by_cases hold : img.seq ≤ s.body.rd .modImgseqSeq
    · simp only [if_pos hold] at hP ⊢
      exact patch_runs hhub hcmd hchecked hbusy hlock (P := PatchShown 6 4) hP fun b => hsettle b _ _
    · simp only [if_neg hold] at hP ⊢
      by_cases hfixed : fixedDiffers s.body.boot.vals img.vals = true
      · simp only [if_pos hfixed] at hP ⊢
        exact patch_runs hhub hcmd hchecked hbusy hlock (P := PatchShown 6 5) hP fun b => hsettle b _ _
      · simp only [if_neg hfixed] at hP ⊢
        exact patch_runs hhub hcmd hchecked hbusy hlock
          (P := fun b => b.rd .modPatchstatState = 1 ∧ b.boot.checked = some img) hP fun b hb =>
            ⟨(settle_rd _ _ .modPatchstatState _ rfl).trans hb.1, (congrArg Boot.checked (settle_boot ..)).trans hb.2⟩

end

/-! ### PATCH is accepted -/

/-- What is held of the images, and whether a Patch runs at all and reloads. -/
def patchOf (b : Body) : Option ImgSlot × Option ImgSlot × ImgVals × Option Bool :=
  (b.boot.checked, b.boot.slotB, b.boot.vals, b.boot.patch.map (·.reload))

theorem patchOf_of_boot {b c : Body} (h : bootOf b = bootOf c) : patchOf b = patchOf c := by
  have hboot : b.boot = c.boot := h
  unfold patchOf
  rw [hboot]

theorem patchOf_patchDrop (l : Nat) (b : Body) : patchOf (b.patchDrop l) = patchOf b := by
  unfold Body.patchDrop patchOf
  dsimp only [Body.onBoot]
  rw [Option.map_map]
  rfl

/-- The show of a Patch leaves the images, and ends only a Patch that reloads. -/
theorem patchShow_boot (b : Body) (h : ∀ p, b.boot.patch = some p → p.reload = false) : b.patchShow.boot = b.boot := by
  unfold Body.patchShow
  split
  · rfl
  next p hp =>
    dsimp only
    rw [if_neg (by simp [h p hp])]
    exact (wr_boot ..).trans ((wr_boot ..).trans (part_foldl Body.boot _ (fun b w => wr_boot ..) _ b))

/-- A Patch that the host has asked for runs, with these images. -/
def PatchHeld (slotB : ImgSlot) (v : ImgVals) (b : Body) : Prop := patchOf b = (none, some slotB, v, some false)

theorem PatchHeld.reload {slotB : ImgSlot} {v : ImgVals} {b : Body} (h : PatchHeld slotB v b) :
    ∀ p, b.boot.patch = some p → p.reload = false := fun p hp => by
  have hmap : b.boot.patch.map (·.reload) = some false := congrArg (fun x => x.2.2.2) h
  rw [hp] at hmap
  exact Option.some.inj hmap

theorem PatchHeld.leaves {slotB : ImgSlot} {v : ImgVals} {b : Body} (h : PatchHeld slotB v b) :
    b.boot.checked = none ∧ b.boot.slotB = some slotB ∧ b.boot.vals = v ∧ b.boot.patch.isSome = true := by
  have hmap : b.boot.patch.map (·.reload) = some false := congrArg (fun x => x.2.2.2) h
  refine ⟨congrArg (fun x => x.1) h, congrArg (fun x => x.2.1) h, congrArg (fun x => x.2.2.1) h, ?_⟩
  rw [← Option.isSome_map, hmap]
  rfl

theorem PatchHeld.of_boot {slotB : ImgSlot} {v : ImgVals} {b c : Body} (hc : PatchHeld slotB v c) (h : bootOf b = bootOf c) :
    PatchHeld slotB v b := (patchOf_of_boot h).trans hc

theorem PatchHeld.shown {slotB : ImgSlot} {v : ImgVals} {b : Body} (h : PatchHeld slotB v b) : PatchHeld slotB v b.patchShow :=
  h.of_boot (patchShow_boot b h.reload)

theorem PatchHeld.dropped {slotB : ImgSlot} {v : ImgVals} {b : Body} (h : PatchHeld slotB v b) (l : Nat) :
    PatchHeld slotB v (b.patchDrop l).patchShow :=
  PatchHeld.shown ((patchOf_patchDrop l b).trans h)

theorem PatchHeld.taken {slotB : ImgSlot} {v : ImgVals} {b : Body} (h : PatchHeld slotB v b) (e : Env) (w : ImgVals) (ms ks : List Nat)
    (l : Nat) : PatchHeld slotB v (((b.patchTake e w ms ks).patchDrop l).patchShow) :=
  (h.of_boot (bootOf_patchTake ..)).dropped l

/-- A step of a channel toward its changes keeps the Patch. -/
theorem PatchHeld.chan {slotB : ImgSlot} {v : ImgVals} {b : Body} (h : PatchHeld slotB v b) (e : Env) (l : Nat) :
    PatchHeld slotB v (b.patchChan e l) := by
  unfold Body.patchChan
  split
  · exact h
  next p hp =>
    split
    · exact h
    next c hc =>
      have htake : ∀ x : Body, PatchHeld slotB v x →
          PatchHeld slotB v (((x.patchTake e p.vals (x.membersOf l) c.2).patchDrop l).patchShow) := fun x hx => hx.taken ..
      dsimp only
      split
      iterate 3 exact (htake _ (h.of_boot (bootOf_deliver ..))).of_boot (bootOf_deliver ..)
      · split
        · exact (htake _ h).of_boot (bootOf_deliver ..)
        · exact h
      · split
        · exact htake _ h
        · exact h
      iterate 6 exact htake _ h
      iterate 2 exact h.dropped l
      iterate 3 exact h

theorem PatchHeld.first {slotB : ImgSlot} {v : ImgVals} {b : Body} (h : PatchHeld slotB v b) (e : Env) (l : Nat) :
    PatchHeld slotB v (b.patchFirst e l) := by
  unfold Body.patchFirst
  split
  · exact h.of_boot (bootOf_deliver ..)
  · exact h.chan e l

theorem PatchHeld.firsts {slotB : ImgSlot} {v : ImgVals} (e : Env) (l : List Nat) {b : Body} (h : PatchHeld slotB v b) :
    PatchHeld slotB v (b.forEach l fun l b => b.patchFirst e l) := by
  unfold Body.forEach
  induction l generalizing b with
  | nil => exact h
  | cons k l ih => exact ih (h.first e k)

/-- A Patch that starts keeps slot B and puts its image in force (R503). -/
theorem patchStart_held (e : Env) (img slotB : ImgSlot) (old : Nat) {b : Body} (hchecked : b.boot.checked = none)
    (hslotB : b.boot.slotB = some slotB) : PatchHeld slotB img.vals (b.patchStart e img old false) := by
  unfold Body.patchStart
  extract_lets v ks t live ks' meter rest tight mods chans chans' b1 b2
  have h1 : PatchHeld slotB v b1 := by
    unfold PatchHeld patchOf
    rw [← hchecked, ← hslotB]
    rfl
  have h2 : PatchHeld slotB v b2 := h1.of_boot (bootOf_config ..)
  exact (PatchHeld.firsts e _ h2).shown

theorem patchAccept_held (e : Env) (img : ImgSlot) (b : Body) :
    PatchHeld { img with committed := true } img.vals (b.patchAccept e img) := by
  unfold Body.patchAccept
  extract_lets img' old b1
  have h1 : b1.boot.checked = none ∧ b1.boot.slotB = some img' := ⟨rfl, rfl⟩
  clear_value b1
  have hboot : (((b1.wr .modImgstatSlot 0 1).calInterrupt e).showImage img').boot = b1.boot :=
    (bootOf_showImage ..).trans ((bootOf_calInterrupt ..).trans (wr_boot ..))
  exact patchStart_held e img' img' old (by rw [hboot]; exact h1.1) (by rw [hboot]; exact h1.2)

/-- The partner's answer, and whether COMMIT stands in slot B. -/
def accepted (partner ok : Bool) (e : Env) (b : Body) (img : ImgSlot) : Body :=
  if b.patchRests then b
  else if b.role = .active && !partner then b.patchRefuse e 6 img.seq
  else if !ok || !b.flashFree then b.patchRefuse e 7 img.seq
  else b.patchAccept e img

theorem execPatchAccept_some {s : State} {img : ImgSlot} (h : s.body.boot.checked = some img) (partner ok : Bool) :
    exec (.patchAccept partner ok) s = .next (s.onBody fun e b =>
      match b.boot.checked with
      | none => b
      | some img => accepted partner ok e b img) := exec_patchAccept partner ok s

section
variable {s : State} {img : ImgSlot} {partner ok : Bool} (hchecked : s.body.boot.checked = some img)
include hchecked

theorem patchAccept_runs {P : Body → Prop} (hP : P (accepted partner ok s.env s.body img)) (hsettle : ∀ b, P b → P (b.settle s.env)) :
    Runs (.patchAccept partner ok) s fun t => P t.body := by
  refine runs_onBody (execPatchAccept_some hchecked partner ok) ?_
  rw [onBody_body, hchecked]
  exact hsettle _ hP

theorem patchAccept_refused {code : Nat} (hcode : code < 16)
    (href : accepted partner ok s.env s.body img = s.body.patchRefuse s.env code img.seq) : Runs (.patchAccept partner ok) s fun t =>
      t.body.rd .modPatchstatState = 6 ∧ t.body.rd .modPatchstatRefuse = code ∧ t.body.boot.checked = none := by
  refine patchAccept_runs hchecked (P := fun b => b.rd .modPatchstatState = 6 ∧ b.rd .modPatchstatRefuse = code ∧
    b.boot.checked = none) ?_ fun b hb => ?_
  · rw [href]
    obtain ⟨hstate, hrefuse, -, -, hnone, -⟩ := patchRefuse_leaves s.env hcode img.seq s.body
    exact ⟨hstate, hrefuse, hnone⟩
  · rw [settle_boot, settle_rd _ _ .modPatchstatState _ rfl, settle_rd _ _ .modPatchstatRefuse _ rfl]
    exact hb

theorem patchAccept_accepted (hacc : accepted partner ok s.env s.body img = s.body.patchAccept s.env img) :
    Runs (.patchAccept partner ok) s fun t => t.body.boot.checked = none ∧
      t.body.boot.slotB = some { img with committed := true } ∧ t.body.boot.vals = img.vals ∧ t.body.boot.patch.isSome = true := by
  refine patchAccept_runs hchecked (P := fun b => b.boot.checked = none ∧
      b.boot.slotB = some { img with committed := true } ∧ b.boot.vals = img.vals ∧ b.boot.patch.isSome = true) ?_ fun b hb => ?_
  · rw [hacc]
    exact (patchAccept_held s.env img s.body).leaves
  · rw [settle_boot]
    exact hb

end

/-! ### The course of a Patch -/

/-- No change of leader l waits. -/
def NoChange (l : Nat) (b : Body) : Prop := ∀ q, b.boot.patch = some q → ∀ c ∈ q.chans, c.1 ≠ l

theorem NoChange.of_boot {l : Nat} {b c : Body} (hc : NoChange l c) (h : bootOf b = bootOf c) : NoChange l b := fun q hq =>
  hc q ((congrArg Boot.patch h).symm.trans hq)

theorem patchDrop_noChange (l : Nat) (b : Body) : NoChange l (b.patchDrop l) := fun q hq c hc => by
  have hmap : (b.boot.patch.map fun p => { p with chans := p.chans.filter fun c => c.1 ≠ l }) = some q := hq
  obtain ⟨p, -, rfl⟩ := Option.map_eq_some_iff.mp hmap
  exact of_decide_eq_true (List.mem_filter.mp hc).2

theorem NoChange.shown {l : Nat} {b : Body} (h : NoChange l b) : NoChange l b.patchShow := by
  unfold Body.patchShow
  split
  · exact h
  next p hp =>
    dsimp only
    have hwrs : ∀ (ls : List Nat), NoChange l (((List.range 4).foldl (fun b w =>
        b.wr .modPendingMask w ((ls.filter fun l => l / 32 = w).foldl (fun a l => a + 2 ^ (l % 32)) 0)) b).wr
          .modPatchstatPending 0 ls.length) := fun ls =>
      h.of_boot ((wr_boot ..).trans (part_foldl Body.boot _ (fun b w => wr_boot ..) _ b))
    split
    · split
      · exact nofun
      · exact hwrs _
    · exact (hwrs _).of_boot (wr_boot ..)

/-- A leader at a safe point takes its changes (R505). -/
theorem patchChan_noChange (e : Env) (l : Nat) (b : Body)
    (hstate : (b.ch l).state ∉ [ChState.ramp, .limit, .capped]) (hon : (b.ch l).state = .on → b.steadyWin l = true)
    (hheld : (b.ch l).state = .held → (b.ch l).holds = [0x32]) : NoChange l (b.patchChan e l) := by
  unfold Body.patchChan
  split
  next hp => exact fun q hq => by rw [hp] at hq; cases hq
  next p hp =>
    split
    next hfind =>
      intro q hq c hc
      cases hp.symm.trans hq
      exact fun hcl => by simpa [hcl] using List.find?_eq_none.mp hfind c hc
    next c hc =>
      have htake : ∀ x : Body, NoChange l (((x.patchTake e p.vals (x.membersOf l) c.2).patchDrop l).patchShow) :=
        fun x => (patchDrop_noChange l _).shown
      dsimp only
      split
      iterate 3 exact (htake _).of_boot (bootOf_deliver ..)
      next hs =>
        rw [if_pos (hheld hs)]
        exact (htake _).of_boot (bootOf_deliver ..)
      next hs =>
        rw [if_pos (hon hs)]
        exact htake _
      iterate 6 exact htake _
      iterate 2 exact (patchDrop_noChange l _).shown
      all_goals
        next hs => exact absurd hstate (by simp [hs])

theorem patchChan_waits (e : Env) (l : Nat) (b : Body) (hstate : (b.ch l).state ∈ [ChState.ramp, .limit, .capped]) :
    b.patchChan e l = b := by
  unfold Body.patchChan
  split
  · rfl
  · split
    · rfl
    · dsimp only
      have hcases : (b.ch l).state = .ramp ∨ (b.ch l).state = .limit ∨ (b.ch l).state = .capped := by simpa using hstate
      rcases hcases with h | h | h <;> rw [h]

section
variable {p : Patch} {s : State} (hpatch : s.body.boot.patch = some p) (hdrives : s.body.drives = true)
include hdrives

theorem patchSafePoint_takes {n : ChIx} {l : Nat} (hrests : s.body.patchRests = false) (hlead : s.body.leadOf n = l)
    (hstate : (s.body.ch l).state ∉ [ChState.ramp, .limit, .capped])
    (hon : (s.body.ch l).state = .on → s.body.steadyWin l = true)
    (hheld : (s.body.ch l).state = .held → (s.body.ch l).holds = [0x32]) : Runs (.patchSafePoint n) s fun t => NoChange l t.body := by
  refine runs_onBody (exec_patchSafePoint n s) ?_
  rw [onBody_body, if_neg (by simp [hdrives, hrests]), hlead]
  exact (patchChan_noChange s.env l s.body hstate hon hheld).of_boot (settle_boot ..)

theorem patchSafePoint_waits {n : ChIx} {l : Nat} (hrests : s.body.patchRests = false) (hlead : s.body.leadOf n = l)
    (hstate : (s.body.ch l).state ∈ [ChState.ramp, .limit, .capped]) : Becomes (.patchSafePoint n) s s.body := by
  refine becomes_onBody (exec_patchSafePoint n s) ?_
  rw [if_neg (by simp [hdrives, hrests]), hlead, patchChan_waits _ _ _ hstate]

include hpatch in
theorem exec_patchMetering (hpassed : p.passed = false) (hrests : s.body.patchRests = false) :
    exec .patchMeteringApply s = .next ((s.goTo (s.boundaryFrom p.bP)).onBody fun e b => b.patchMeter e p) := by
  rw [exec_patchMeteringApply, execPatchMeteringApply, hpatch]
  exact if_neg (by simp [hpassed, hdrives, hrests])

end

/-- The metering fields of a Patch have followed at B_P (R506). -/
theorem patchMeter_leaves (e : Env) (p : Patch) (b : Body) : ∃ c : Body, c.boot.patch = some { p with passed := true, meter := [] } ∧
    b.patchMeter e p = c.patchShow := by
  unfold Body.patchMeter
  extract_lets b1 b2 b3
  have h3 : b3.boot.patch = some { p with passed := true, meter := [] } := rfl
  clear_value b3
  refine ⟨_, ?_, rfl⟩
  split
  · exact h3
  · exact (congrArg Boot.patch (bootOf_imageRec ..)).trans h3

theorem patchMeter_passes (e : Env) {p : Patch} (hreload : p.reload = false) (b : Body) :
    (b.patchMeter e p).boot.patch = some { p with passed := true, meter := [] } := by
  obtain ⟨c, hc, heq⟩ := patchMeter_leaves e p b
  rw [heq, patchShow_boot c (fun q hq => by cases hc.symm.trans hq; exact hreload), hc]

theorem patchMeter_ends (e : Env) {p : Patch} (hreload : p.reload = true) (hchans : p.chans = []) (b : Body) :
    (b.patchMeter e p).boot.patch = none := by
  obtain ⟨c, hc, heq⟩ := patchMeter_leaves e p b
  rw [heq]
  unfold Body.patchShow
  rw [hc]
  dsimp only
  rw [if_pos hreload, if_pos (by simp [hchans])]
  rfl

/-- Slot A is written from slot B (R507). -/
theorem copied_done (e : Env) {b : Body} {p : Patch} (hpatch : b.boot.patch = some p) :
    (b.copied e true).boot.slotA = b.boot.slotB ∧ (b.copied e true).boot.patch = none ∧ (b.copied e true).rd .modImgstatRejA = 0 ∧
      (b.copied e true).rd .modImgstatSlot = 0 ∧ (b.copied e true).rd .modPatchstatState = 5 := by
  unfold Body.copied
  rw [if_pos rfl]
  extract_lets b1 c
  have hboot : c.boot = { b1.boot with patch := none } := rfl
  have hrd : ∀ f, c.rd f = (b1.wr .modPatchstatState 0 5).rd f := fun f => rfl
  clear_value c
  have h1 : b1.boot = { b.boot with slotA := b.boot.slotB } := rfl
  have hrej : b1.rd .modImgstatRejA = 0 := (rd_wr_fld _ _ _ _ _ _ (by decide)).trans (rd_wr_same ..)
  have hslot : b1.rd .modImgstatSlot = 0 := rd_wr_same ..
  clear_value b1
  rw [h1, hpatch]
  dsimp only
  have hkeep : ((c.raise (10, 13)).event e.count 0x0302 0xFF p.oldSeq (c.rd .modImgseqSeq) 0).boot = c.boot :=
    (bootOf_event ..).trans (bootOf_raise ..)
  rw [hkeep, hboot, h1]
  refine ⟨rfl, rfl, ?_, ?_, ?_⟩
  · rw [event_rd, raise_rd _ _ _ _ (by decide), hrd, rd_wr_fld _ _ _ _ _ _ (by decide), hrej]
  · rw [event_rd, raise_rd _ _ _ _ (by decide), hrd, rd_wr_fld _ _ _ _ _ _ (by decide), hslot]
  · rw [event_rd, raise_rd _ _ _ _ (by decide), hrd, rd_wr_same]
    rfl

theorem copied_fails (e : Env) (b : Body) : (b.copied e false).boot.slotA = none ∧ (b.copied e false).boot.patch = none := by
  unfold Body.copied
  rw [if_neg (by decide)]
  dsimp only
  generalize hc : (b.free.2.onBoot fun x => { x with slotA := none, patch := none }) = c
  have hboot : c.boot.slotA = none ∧ c.boot.patch = none := by rw [← hc]; exact ⟨rfl, rfl⟩
  have hkeep : (c.slotReject e 0 (b.free.1 % 10 + 1)).boot = c.boot := bootOf_slotReject ..
  rw [hkeep]
  exact hboot

theorem patchSlotCopy_done {s : State} {p : Patch} (hpatch : s.body.boot.patch = some p) (hcopies : s.body.copies = true) :
    Runs (.patchSlotCopy true) s fun t =>
      t.body.boot.slotA = s.body.boot.slotB ∧ t.body.boot.patch = none ∧ t.body.boot.copyDue = false ∧
      t.body.rd .modImgstatRejA = 0 ∧ t.body.rd .modImgstatSlot = 0 ∧ t.body.rd .modPatchstatState = 5 := by
  refine runs_onBody (exec_patchSlotCopy true s) ?_
  rw [onBody_body, if_pos hcopies, settle_boot, settle_rd _ _ .modImgstatRejA _ rfl, settle_rd _ _ .modImgstatSlot _ rfl,
    settle_rd _ _ .modPatchstatState _ rfl]
  obtain ⟨hslotA, hnone, hrej, hslot, hstate⟩ := copied_done s.env hpatch
  generalize s.body.copied s.env true = c at hslotA hnone hrej hslot hstate ⊢
  exact ⟨hslotA, hnone, rfl, hrej, hslot, hstate⟩

theorem patchSlotCopy_fails {s : State} (hcopies : s.body.copies = true) :
    Runs (.patchSlotCopy false) s fun t => t.body.boot.slotA = none ∧ t.body.boot.patch = none := by
  refine runs_onBody (exec_patchSlotCopy false s) ?_
  rw [onBody_body, if_pos hcopies, settle_boot]
  have hfails := copied_fails s.env s.body
  generalize s.body.copied s.env false = c at hfails ⊢
  exact hfails

/-! ### What rests -/

section
variable {s : State} (hrests : s.body.patchRests = true)
include hrests

theorem patchAccept_rests (partner ok : Bool) : Becomes (.patchAccept partner ok) s s.body := by
  refine becomes_onBody (exec_patchAccept partner ok s) ?_
  split
  · rfl
  · exact if_pos hrests

theorem patchSafePoint_rests (n : ChIx) : Becomes (.patchSafePoint n) s s.body :=
  becomes_onBody (exec_patchSafePoint n s) (if_pos (by simp [hrests]))

theorem patchMetering_rests : Becomes .patchMeteringApply s s.body := by
  refine becomes_stay ?_
  rw [exec_patchMeteringApply, execPatchMeteringApply]
  split
  · rfl
  · exact if_pos (by simp [hrests])

theorem patchSlotCopy_rests (ok : Bool) : Becomes (.patchSlotCopy ok) s s.body :=
  becomes_onBody (exec_patchSlotCopy ok s) (if_neg (by simp [Body.copies, hrests]))

end

/-- Settles O57. -/
theorem stagingAndPatch : Obligations.StagingAndPatch := by
  refine ⟨fun ok s hhub hcmd hbusy => ⟨fun i hi => ⟨?_, ?_, ?_, ?_⟩, fun bytes => imgRead_fails hhub hcmd hbusy,
    fun bytes => imgRead_runs hhub hcmd hbusy⟩, fun s hhub => ⟨fun hcmd hchecked hbusy hlock bytes => ⟨?_, ?_, ?_⟩,
    fun img partner ok hchecked hrests => ⟨fun hrole hno => ?_, fun hyes hfail => ?_, fun hyes hok hfree => ?_⟩,
    fun partner ok hrests => patchAccept_rests hrests partner ok⟩, fun p s hpatch hdrives hhub => ⟨fun n l hrests hlead => ⟨?_, ?_⟩,
    fun hpassed hreload hrests => ?_, fun hpassed hreload hchans hrests => ?_, fun hcopies => ⟨patchSlotCopy_done hpatch hcopies,
    patchSlotCopy_fails hcopies⟩, fun hrests => ⟨patchSafePoint_rests hrests, patchMetering_rests hrests, patchSlotCopy_rests hrests⟩⟩⟩
  · exact slotBWrite_runs hi hhub hcmd hbusy
  · exact slotBWrite_barred hi hhub hcmd hbusy
  · exact slotBWrite_fails hi hhub hcmd hbusy
  · exact slotBWrite_locked hi hcmd
  · exact patch_barred hhub hcmd hchecked hbusy hlock
  · exact patch_unread hhub hcmd hchecked hbusy hlock
  · exact patch_checks hhub hcmd hchecked hbusy hlock
  · refine patchAccept_refused hchecked (by decide) ?_
    unfold accepted
    rw [if_neg (by simp [hrests]), if_pos (by simp [hrole, hno])]
  · refine patchAccept_refused hchecked (by decide) ?_
    unfold accepted
    rw [if_neg (by simp [hrests]), if_neg (by simpa using hyes), if_pos (by simpa using hfail)]
  · refine patchAccept_accepted hchecked ?_
    unfold accepted
    rw [if_neg (by simp [hrests]), if_neg (by simpa using hyes), if_neg (by simp [hok, hfree])]
  · exact patchSafePoint_takes hdrives hrests hlead
  · exact patchSafePoint_waits hdrives hrests hlead
  · refine runsAt_onBody (exec_patchMetering hpatch hdrives hpassed hrests) ?_
    rw [onBody_body, settle_boot]
    exact patchMeter_passes _ hreload _
  · refine runsAt_onBody (exec_patchMetering hpatch hdrives hpassed hrests) ?_
    rw [onBody_body, settle_boot]
    exact patchMeter_ends _ hreload hchans _

end Sys2Proof.Proofs
end

section
/-!
SUPPORT. Reads of a feeder and of a battery unit (R514 to R518, R528).
-/

namespace Sys2Proof.Proofs

open Sys2Proof Sys2Proof.Machine Sys2Proof.Safety Sys2Proof.Laws

theorem exec_feederDiscovery (f : Fin 12) (r : FpEnd (Nat × Nat × Nat × Nat)) (s : State) :
    exec (.feederDiscovery f r) s = .next (s.onHub fun e b => b.discover e f r) := rfl
theorem exec_fpStatusRead (f : Fin 12) (r : FpEnd (Nat × Nat)) (s : State) :
    exec (.fpStatusRead f r) s = execFpStatusRead f r s := rfl
theorem exec_fpTelemetryRead (t : FpTele) (s : State) : exec (.fpTelemetryRead t) s = execFpTelemetryRead t s := rfl
theorem exec_feederCommHoldExpire (f : Fin 12) (s : State) :
    exec (.feederCommHoldExpire f) s = execFeederCommHoldExpire f s := rfl

/-! ### A feeder of the body -/

theorem fd_onFd_same (b : Body) (f : Nat) (g : Feeder → Feeder) : (b.onFd f g).fd f = g (b.fd f) := by
  unfold Body.onFd Body.onFp Body.fd
  exact Vector.getElem_set_self ..

theorem fd_onFd_other (b : Body) {f h : Nat} (g : Feeder → Feeder) (hne : h % 12 ≠ f % 12) : (b.onFd f g).fd h = b.fd h := by
  unfold Body.onFd Body.onFp Body.fd
  exact Vector.getElem_set_ne (Nat.mod_lt _ (by decide)) (Nat.mod_lt _ (by decide)) (Ne.symm hne)

theorem fd_of_fdr {b c : Body} (h : c.fdr = b.fdr) (f : Nat) : c.fd f = b.fd f := by
  unfold Body.fd
  rw [h]

@[simp] theorem onFd_rd (b : Body) (f : Nat) (g : Feeder → Feeder) (h : Fld) (i : Nat) : (b.onFd f g).rd h i = b.rd h i := rfl
@[simp] theorem onFp_rd (b : Body) (g : FeederPort → FeederPort) (h : Fld) (i : Nat) : (b.onFp g).rd h i = b.rd h i := rfl

/-! ### What the steps of a feeder leave -/

theorem returnFollow_fdr (e : Env) (b : Body) : (b.returnFollow e).fdr = b.fdr := by
  unfold Body.returnFollow
  split
  · rfl
  · split
    · rfl
    · split <;> rfl

theorem returnFollow_rd (e : Env) (b : Body) {h : Fld} (i : Nat) (hh : h ≠ .budgetHustatReturning) :
    (b.returnFollow e).rd h i = b.rd h i := by
  unfold Body.returnFollow
  split
  · rfl
  · split
    · exact rd_wr_fld _ _ _ _ _ _ hh
    · split
      · rfl
      · exact rd_wr_fld _ _ _ _ _ _ hh

theorem holdClear_fdr (e : Env) (t : HoldTrig) (b : Body) : (b.holdClear e t).fdr = b.fdr := by
  unfold Body.holdClear
  split
  · rfl
  · exact returnFollow_fdr ..

theorem holdClear_rd (e : Env) (t : HoldTrig) (b : Body) {h : Fld} (i : Nat) (hh : h ≠ .budgetHustatReturning) :
    (b.holdClear e t).rd h i = b.rd h i := by
  unfold Body.holdClear
  split
  · rfl
  · exact returnFollow_rd _ _ _ hh

/-- The registers that a sum over the feeders writes. -/
def sumFld (f : Fld) : Bool :=
  match f with
  | .feederCapFeederCap | .feederStatOnline | .feederStatInfailTrig | .budgetHustatReturning => true
  | _ => false

theorem ne_of_sumFld {f g : Fld} (h : sumFld f = false) (hg : sumFld g = true) : f ≠ g := fun hfg => by
  rw [hfg, hg] at h
  cases h

@[simp] theorem fdSum_fdr (e : Env) (b : Body) : (b.fdSum e).fdr = b.fdr := by
  unfold Body.fdSum
  extract_lets fs b1 b2 was b3
  split
  · exact holdClear_fdr ..
  · rfl

theorem fdSum_rd (e : Env) (b : Body) {h : Fld} (i : Nat) (hh : sumFld h = false) : (b.fdSum e).rd h i = b.rd h i := by
  have hcap := ne_of_sumFld hh (g := .feederCapFeederCap) rfl
  have honline := ne_of_sumFld hh (g := .feederStatOnline) rfl
  have htrig := ne_of_sumFld hh (g := .feederStatInfailTrig) rfl
  have hret := ne_of_sumFld hh (g := .budgetHustatReturning) rfl
  unfold Body.fdSum
  extract_lets fs b1 b2 was b3
  have h3 : b3.rd h i = b.rd h i :=
    (rd_wr_fld _ _ _ _ _ _ htrig).trans ((rd_wr_fld _ _ _ _ _ _ honline).trans (rd_wr_fld _ _ _ _ _ _ hcap))
  split
  · exact (holdClear_rd _ _ _ _ hret).trans h3
  · exact h3

theorem fdRetarget_rd (e : Env) (f : Nat) (b : Body) {h : Fld} (i : Nat) (hh : h ≠ .fdrVcmdTarget) :
    (b.fdRetarget e f).rd h i = b.rd h i := rd_wr_fld _ _ _ _ _ _ hh

/-- A new target moves the reference of a feeder, and nothing else of it. -/
theorem fdRetarget_fd (e : Env) (f : Nat) (b : Body) : (b.fdRetarget e f).fd f =
    { b.fd f with v0 := b.fdRef f e.now, t0 := e.now, tgt := (b.fdAnchor e f).fdTarget f } := by
  unfold Body.fdRetarget
  extract_lets b1 v
  have h1 : b1.fd f = { b.fd f with v0 := b.fdRef f e.now, t0 := e.now } := fd_onFd_same ..
  refine (fd_of_fdr (wr_fdr ..) f).trans ((fd_onFd_same b1 f _).trans ?_)
  rw [h1]

/-- The registers that a change of a feeder's state writes. -/
def stateFld (f : Fld) : Bool := sumFld f || match f with
  | .fdrTrimTrim | .fdrStateState | .fdrVcmdTarget | .alertLeaf => true
  | _ => false

theorem fdState_rd (e : Env) (f st : Nat) (b : Body) {h : Fld} (i : Nat) (hh : stateFld h = false) :
    (b.fdState e f st).rd h i = b.rd h i := by
  have hsum : sumFld h = false := (Bool.or_eq_false_iff.mp hh).1
  have hne : ∀ g, stateFld g = true → h ≠ g := fun g hg heq => by
    rw [heq, hg] at hh
    cases hh
  have htrim := hne .fdrTrimTrim rfl
  have hstate := hne .fdrStateState rfl
  have htarget := hne .fdrVcmdTarget rfl
  have hleaf := hne .alertLeaf rfl
  unfold Body.fdState
  extract_lets old b1 b2 b3
  split
  · rfl
  · have h2 : b2.rd h i = b.rd h i := by
      unfold b2
      split
      · rw [raise_rd _ _ _ _ hleaf, rd_wr_fld _ _ _ _ _ _ htrim]
        rfl
      · rfl
    rw [fdSum_rd _ _ _ hsum, fdRetarget_rd _ _ _ _ htarget, event_rd]
    exact (rd_wr_fld _ _ _ _ _ _ hstate).trans h2

/-- The feeder is in the state given. -/
theorem fdState_st (e : Env) (f : Nat) {st : Nat} (hst : st < 16) (b : Body) : (b.fdState e f st).fdSt f = st := by
  unfold Body.fdState
  extract_lets old b1 b2 b3
  split
  next h => exact h
  · unfold Body.fdSt
    rw [fdSum_rd _ _ _ rfl, fdRetarget_rd _ _ _ _ (by decide), event_rd]
    exact rd_wr_of_lt b2 f hst

/-- What a change of state leaves of a feeder: what its discovery has found, and its failed reads. -/
theorem fdState_fd (e : Env) (f st : Nat) (b : Body) : ((b.fdState e f st).fd f).known = (b.fd f).known ∧
    ((b.fdState e f st).fd f).tries = (b.fd f).tries ∧ ((b.fdState e f st).fd f).fails = (b.fd f).fails := by
  unfold Body.fdState
  extract_lets old b1 b2 b3
  split
  · exact ⟨rfl, rfl, rfl⟩
  · have h1 : b1.fd f = { b.fd f with v0 := b.fdRef f e.now, t0 := e.now } := fd_onFd_same ..
    have h2 : (b2.fd f).known = (b.fd f).known ∧ (b2.fd f).tries = (b.fd f).tries ∧ (b2.fd f).fails = (b.fd f).fails := by
      unfold b2
      split
      · rw [fd_of_fdr (raise_fdr ..), fd_of_fdr (wr_fdr ..), fd_onFd_same, h1]
        exact ⟨rfl, rfl, rfl⟩
      · rw [h1]
        exact ⟨rfl, rfl, rfl⟩
    have h3 : b3.fd f = { b2.fd f with
        commT := if st = 3 then e.now else (b2.fd f).commT, expired := !(b2.fd f).wasOn
        okRun := if st = 2 then 0 else (b2.fd f).okRun, wasOn := (b2.fd f).wasOn || decide (st = 2)
        teleDue := if st = 2 then e.now else (b2.fd f).teleDue } := fd_onFd_same (b2.wr .fdrStateState f st) f _
    clear_value b3 b2 b1
    rw [fd_of_fdr (fdSum_fdr ..), fdRetarget_fd, fd_of_fdr (event_fdr ..), h3]
    exact h2

theorem fpDone_rd (b : Body) {h : Fld} (i : Nat) (hh : h ≠ .feederStatFpHung) (hs : h ≠ .feederStatSclStuck) :
    b.fpDone.rd h i = b.rd h i := by
  show ((b.wr .feederStatFpHung 0 0).wr .feederStatSclStuck 0 0).rd h i = b.rd h i
  rw [rd_wr_fld _ _ _ _ _ _ hs, rd_wr_fld _ _ _ _ _ _ hh]

theorem fpDone_fd (b : Body) (f : Nat) : b.fpDone.fd f = b.fd f := rfl

/-- A failed transaction counts, and changes no other register and no feeder. -/
theorem fdFail_leaves (f : Nat) (nack : Bool) (b : Body) : (∀ g, (b.fdFail f nack).fd g = b.fd g) ∧
    ∀ h i, h ≠ .fdrErrNack → h ≠ .fdrErrFail → (b.fdFail f nack).rd h i = b.rd h i := by
  have hbump : ∀ (c : Body) g h i, h ≠ g → (c.bump g f).rd h i = c.rd h i := fun c g h i hne => rd_wr_fld _ _ _ _ _ _ hne
  refine ⟨fun g => ?_, fun h i hn hf => ?_⟩
  · unfold Body.fdFail
    split <;> rfl
  · unfold Body.fdFail
    refine (hbump _ _ _ _ hf).trans ?_
    split
    · exact hbump _ _ _ _ hn
    · rfl

/-! ### Status reads -/

theorem fdCond_lt {w i st : Nat} (h : fdCond w i = some st) : st < 16 := by
  unfold fdCond at h
  split at h
  · cases h; decide
  · split at h <;> cases h
    decide

/-- A completed status read: the word is shown, a condition found is the state, and two reads without one bring ONLINE. -/
theorem fdStatus_leaves (e : Env) (f w i : Nat) (b : Body) : (b.fdStatus e f w i).rd .fdrStateStatus f = w % 2 ^ 16 ∧
    (∀ st, fdCond w i = some st → (b.fdStatus e f w i).fdSt f = st) ∧
    (fdCond w i = none → b.fdSt f = 2 ∨ 1 ≤ (b.fd f).okRun → (b.fdStatus e f w i).fdSt f = 2) ∧
    ((b.fdStatus e f w i).fd f).known = (b.fd f).known ∧
    ∀ h j, stateFld h = false → h ≠ .fdrStateStatus → h ≠ .feederStatFpHung → h ≠ .feederStatSclStuck →
      (b.fdStatus e f w i).rd h j = b.rd h j := by
  unfold Body.fdStatus
  extract_lets b1 b2
  have hstatus : b1.rd .fdrStateStatus f = w % 2 ^ 16 := rd_wr_same ..
  have hst : b1.fdSt f = b.fdSt f := (rd_wr_fld _ _ _ _ _ _ (by decide)).trans (fpDone_rd _ _ (by decide) (by decide))
  have hrd : ∀ h j, h ≠ .fdrStateStatus → h ≠ .feederStatFpHung → h ≠ .feederStatSclStuck → b1.rd h j = b.rd h j :=
    fun h j hs hh hc => (rd_wr_fld _ _ _ _ _ _ hs).trans (fpDone_rd _ _ hh hc)
  have h1 : b1.fd f = { b.fd f with fails := 0 } := fd_onFd_same (b.fpDone.wr .fdrStateStatus f w) f _
  have h2 : b2.fd f = { b1.fd f with okRun := (b1.fd f).okRun + 1 } := fd_onFd_same b1 f _
  have hrd2 : ∀ h j, b2.rd h j = b1.rd h j := fun _ _ => rfl
  clear_value b2 b1
  have hkeeps : ∀ (c : Body) st, (∀ h j, c.rd h j = b1.rd h j) → (c.fd f).known = (b1.fd f).known →
      (c.fdState e f st).rd .fdrStateStatus f = w % 2 ^ 16 ∧ ((c.fdState e f st).fd f).known = (b.fd f).known ∧
      ∀ h j, stateFld h = false → h ≠ .fdrStateStatus → h ≠ .feederStatFpHung → h ≠ .feederStatSclStuck →
        (c.fdState e f st).rd h j = b.rd h j := fun c st hc hk => by
    refine ⟨(fdState_rd _ _ _ _ _ rfl).trans ((hc ..).trans hstatus), (fdState_fd e f st c).1.trans (hk.trans ?_), fun h j hf hs hh hl => ?_⟩
    · rw [h1]
    · exact (fdState_rd _ _ _ _ _ hf).trans ((hc ..).trans (hrd h j hs hh hl))
  cases hcond : fdCond w i with
  | some st =>
    obtain ⟨hshown, hknown, hkept⟩ := hkeeps (b1.onFd f fun x => { x with okRun := 0 }) st (fun _ _ => rfl) (by rw [fd_onFd_same])
    refine ⟨hshown, fun st' hst' => ?_, nofun, hknown, hkept⟩
    cases hst'
    exact fdState_st e f (fdCond_lt hcond) _
  | none =>
    dsimp only
    obtain ⟨hshown, hknown, hkept⟩ := hkeeps b2 2 hrd2 (by rw [h2])
    have hrun : (b2.fd f).okRun = (b.fd f).okRun + 1 := by rw [h2, h1]
    have hst2 : b2.fdSt f = b.fdSt f := (hrd2 ..).trans hst
    split
    · exact ⟨hshown, nofun, fun _ _ => fdState_st e f (by decide) b2, hknown, hkept⟩
    next hstays =>
      refine ⟨(hrd2 ..).trans hstatus, nofun, fun _ hon => ?_, by rw [h2, h1], fun h j _ hs hh hl => (hrd2 ..).trans (hrd h j hs hh hl)⟩
      rw [hst2, hrun] at hstays
      rw [hst2]
      by_contra hoff
      exact hstays ⟨hoff, by omega⟩

/-- A failed status read counts; the third in a row of a known feeder brings COMM_LOST. -/
theorem fdStatusFail_leaves (e : Env) (f : Nat) (nack : Bool) {b : Body} (hknown : (b.fd f).known = true) :
    ((b.fdStatusFail e f nack).fd f).fails = (b.fd f).fails + 1 ∧
      (2 ≤ (b.fd f).fails → (b.fdStatusFail e f nack).fdSt f = 3) := by
  unfold Body.fdStatusFail
  extract_lets b1
  have h1 : b1.fd f = { b.fd f with fails := (b.fd f).fails + 1, okRun := 0 } := by
    refine (fd_onFd_same (b.fdFail f nack) f _).trans ?_
    rw [(fdFail_leaves f nack b).1 f]
  clear_value b1
  split
  · refine ⟨(fdState_fd e f 3 b1).2.2.trans ?_, fun _ => fdState_st e f (by decide) b1⟩
    rw [h1]
  next hfew =>
    rw [h1] at hfew ⊢
    exact ⟨rfl, fun htwo => absurd ⟨Nat.add_le_add_right htwo 1, hknown⟩ hfew⟩

/-! ### Discovery -/

/-- A feeder that is probed and not yet known takes its discovery's outcome. -/
theorem discover_eq (e : Env) (f : Nat) (r : FpEnd (Nat × Nat × Nat × Nat)) {b : Body} (hruns : b.fpRuns = true) (hst : b.fdSt f = 1)
    (hknown : (b.fd f).known = false) : b.discover e f r = match r with
      | .badPec => b.fdFail f false
      | .nack =>
        let b := (b.fdFail f true).onFd f fun x => { x with tries := x.tries + 1 }
        if 3 ≤ (b.fd f).tries then (b.wr .fdrStateRefuse f 2).fdState e f 6 else b
      | .done (mode, vout, word, input) =>
        if bits mode 7 5 ≠ 0 then (b.fpDone.wr .fdrStateRefuse f 1).fdState e f 6
        else
          let n := toSigned 5 mode
          let b := (b.wr .fdrStateVoutExp f (ofSigned 8 n)).wr .fdrVcmdSent f vout
          let b := b.onFd f fun x => { x with known := true, v0 := voutValue n (vout % 2 ^ 16), t0 := e.now }
          (b.fdRetarget e f).fdStatus e f (word % 2 ^ 16) input := by
  unfold Body.discover
  exact if_neg (by simp [hruns, hst, hknown])

theorem tried_leaves (f : Nat) (b : Body) :
    (((b.fdFail f true).onFd f fun x => { x with tries := x.tries + 1 }).fd f).tries = (b.fd f).tries + 1 ∧
    ((b.fdFail f true).onFd f fun x => { x with tries := x.tries + 1 }).fdSt f = b.fdSt f := by
  obtain ⟨hfd, hrd⟩ := fdFail_leaves f true b
  refine ⟨?_, (onFd_rd ..).trans (hrd _ _ (by decide) (by decide))⟩
  rw [fd_onFd_same, hfd]

theorem refuse_shows (e : Env) (f : Nat) {code : Nat} (hcode : code < 16) (b : Body) :
    ((b.wr .fdrStateRefuse f code).fdState e f 6).fdSt f = 6 ∧
      ((b.wr .fdrStateRefuse f code).fdState e f 6).rd .fdrStateRefuse f = code :=
  ⟨fdState_st e f (by decide) _, (fdState_rd _ _ _ _ _ rfl).trans (rd_wr_of_lt b f hcode)⟩

theorem toSigned5_range (x : Nat) : -16 ≤ toSigned 5 x ∧ toSigned 5 x < 16 := by
  unfold toSigned
  have h : x % 2 ^ 5 < 32 := Nat.mod_lt _ (by decide)
  split <;> omega

theorem toSigned8_ofSigned {n : Int} (hlo : -128 ≤ n) (hhi : n < 128) : toSigned 8 (ofSigned 8 n % 2 ^ 8) = n := by
  unfold toSigned ofSigned
  split <;> omega

/-- A feeder that answers is known, with the exponent, the voltage and the status it gave. -/
theorem discover_done (e : Env) (f mode vout word input : Nat) {b : Body} (hruns : b.fpRuns = true) (hst : b.fdSt f = 1)
    (hknown : (b.fd f).known = false) (hmode : bits mode 7 5 = 0) :
    ((b.discover e f (.done (mode, vout, word, input))).fd f).known = true ∧
      (b.discover e f (.done (mode, vout, word, input))).fdExp f = toSigned 5 mode ∧
      (b.discover e f (.done (mode, vout, word, input))).rd .fdrVcmdSent f = vout % 2 ^ 16 ∧
      (b.discover e f (.done (mode, vout, word, input))).rd .fdrStateStatus f = word % 2 ^ 16 := by
  rw [discover_eq e f _ hruns hst hknown]
  dsimp only
  rw [if_neg (by simp [hmode])]
  generalize hc : (((b.wr .fdrStateVoutExp f (ofSigned 8 (toSigned 5 mode))).wr .fdrVcmdSent f vout).onFd f fun x =>
    { x with known := true, v0 := voutValue (toSigned 5 mode) (vout % 2 ^ 16), t0 := e.now }) = c
  have hfd : (c.fd f).known = true := by rw [← hc, fd_onFd_same]
  have hexp : c.rd .fdrStateVoutExp f = ofSigned 8 (toSigned 5 mode) % 2 ^ 8 := by
    rw [← hc, onFd_rd, rd_wr_fld _ _ _ _ _ _ (by decide), rd_wr_same]
    rfl
  have hsent : c.rd .fdrVcmdSent f = vout % 2 ^ 16 := by
    rw [← hc, onFd_rd, rd_wr_same]
    rfl
  obtain ⟨hstatus, -, -, hkept, hrd⟩ := fdStatus_leaves e f (word % 2 ^ 16) input (c.fdRetarget e f)
  obtain ⟨hlo, hhi⟩ := toSigned5_range mode
  refine ⟨hkept.trans ?_, ?_, ?_, hstatus.trans (Nat.mod_mod ..)⟩
  · rw [fdRetarget_fd, ← hfd]
  · unfold Body.fdExp
    rw [hrd _ _ rfl (by decide) (by decide) (by decide), fdRetarget_rd _ _ _ _ (by decide), hexp,
      toSigned8_ofSigned (by omega) (by omega)]
  · rw [hrd _ _ rfl (by decide) (by decide) (by decide), fdRetarget_rd _ _ _ _ (by decide), hsent]

/-! ### The obligation -/

theorem fpRuns_hub {b : Body} (h : b.fpRuns = true) : b.hubDown = false := by
  simp only [Body.fpRuns, Bool.and_eq_true, Bool.not_eq_true'] at h
  exact h.1.2

section
variable {f : Fin 12} {s : State}

/-- What a discovery that is taken does. -/
theorem discovery_runs (hruns : s.body.fpRuns = true) {r : FpEnd (Nat × Nat × Nat × Nat)} {P : Body → Prop} (hP : P (s.body.discover s.env f r))
    (hsettle : ∀ b, P b → P (b.settle s.env)) : Runs (.feederDiscovery f r) s fun t => P t.body :=
  runs_onHub (exec_feederDiscovery f r s) (fpRuns_hub hruns) (hsettle _ hP)

section
variable (hruns : s.body.fpRuns = true) (hst : s.body.fdSt f = 1) (hknown : (s.body.fd f).known = false)
include hruns hst hknown

theorem discovery_tries (htries : (s.body.fd f).tries < 2) : Runs (.feederDiscovery f .nack) s fun t =>
    (t.body.fd f).tries = (s.body.fd f).tries + 1 ∧ t.body.fdSt f = 1 := by
  refine discovery_runs hruns (P := fun b => (b.fd f).tries = (s.body.fd f).tries + 1 ∧ b.fdSt f = 1) ?_ fun b hb => ?_
  · rw [discover_eq s.env f _ hruns hst hknown]
    obtain ⟨htries', hst'⟩ := tried_leaves f s.body
    dsimp only
    rw [if_neg (by rw [htries']; omega)]
    exact ⟨htries', hst'.trans hst⟩
  · exact ⟨(congrArg Feeder.tries (fd_of_fdr (settle_fdr ..) f)).trans hb.1, (settle_rd _ _ .fdrStateState _ rfl).trans hb.2⟩

omit hst hknown in
theorem discovery_shown {r : FpEnd (Nat × Nat × Nat × Nat)} {code : Nat}
    (hP : (s.body.discover s.env f r).fdSt f = 6 ∧ (s.body.discover s.env f r).rd .fdrStateRefuse f = code) :
    Runs (.feederDiscovery f r) s fun t => t.body.fdSt f = 6 ∧ t.body.rd .fdrStateRefuse f = code :=
  discovery_runs hruns (P := fun b => b.fdSt f = 6 ∧ b.rd .fdrStateRefuse f = code) hP fun _ hb =>
    ⟨(settle_rd _ _ .fdrStateState _ rfl).trans hb.1, (settle_rd _ _ .fdrStateRefuse _ rfl).trans hb.2⟩

theorem discovery_unanswered (htries : (s.body.fd f).tries = 2) : Runs (.feederDiscovery f .nack) s fun t =>
    t.body.fdSt f = 6 ∧ t.body.rd .fdrStateRefuse f = 2 := by
  refine discovery_shown hruns ?_
  rw [discover_eq s.env f _ hruns hst hknown]
  dsimp only
  rw [if_pos (by rw [(tried_leaves f s.body).1, htries])]
  exact refuse_shows s.env f (by decide) _

theorem discovery_wrong_mode {mode vout word input : Nat} (hmode : bits mode 7 5 ≠ 0) :
    Runs (.feederDiscovery f (.done (mode, vout, word, input))) s fun t =>
      t.body.fdSt f = 6 ∧ t.body.rd .fdrStateRefuse f = 1 := by
  refine discovery_shown hruns ?_
  rw [discover_eq s.env f _ hruns hst hknown]
  dsimp only
  rw [if_pos hmode]
  exact refuse_shows s.env f (by decide) _

theorem discovery_answered {mode vout word input : Nat} (hmode : bits mode 7 5 = 0) :
    Runs (.feederDiscovery f (.done (mode, vout, word, input))) s fun t =>
      (t.body.fd f).known = true ∧ t.body.fdExp f = toSigned 5 mode ∧ t.body.rd .fdrVcmdSent f = vout % 2 ^ 16 ∧
      t.body.rd .fdrStateStatus f = word % 2 ^ 16 := by
  refine discovery_runs hruns (P := fun b => (b.fd f).known = true ∧ b.fdExp f = toSigned 5 mode ∧
    b.rd .fdrVcmdSent f = vout % 2 ^ 16 ∧ b.rd .fdrStateStatus f = word % 2 ^ 16)
    (discover_done s.env f mode vout word input hruns hst hknown hmode) fun b hb => ?_
  unfold Body.fdExp
  rw [fd_of_fdr (settle_fdr ..), settle_rd _ _ .fdrStateVoutExp _ rfl, settle_rd _ _ .fdrVcmdSent _ rfl,
    settle_rd _ _ .fdrStateStatus _ rfl]
  exact hb

end

section
variable (hreads : s.body.fdReads f = true)
include hreads

theorem exec_statusRead (r : FpEnd (Nat × Nat)) : exec (.fpStatusRead f r) s =
    .next ((s.goTo (s.body.fd f).statDue).onHub fun e b => b.statusRead e f r) :=
  (exec_fpStatusRead f r s).trans (if_pos hreads)

theorem fdReads_known : s.body.hubDown = false ∧ (s.body.fd f).known = true := by
  simp only [Body.fdReads, Bool.and_eq_true] at hreads
  exact ⟨fpRuns_hub hreads.1.1.1, hreads.1.1.2⟩

end

/-- A status read begins: it may come late, and the next one falls due. -/
theorem statusRead_begins (e : Env) (f : Nat) (r : FpEnd (Nat × Nat)) (b : Body) : ∃ c : Body, (c.fd f).okRun = (b.fd f).okRun ∧
    (c.fd f).known = (b.fd f).known ∧ (c.fd f).fails = (b.fd f).fails ∧ c.fdSt f = b.fdSt f ∧ b.statusRead e f r = match r with
      | .done (w, i) => c.fdStatus e f (w % 2 ^ 16) i
      | .nack => c.fdStatusFail e f true
      | .badPec => c.fdStatusFail e f false := by
  unfold Body.statusRead
  extract_lets due b1 b2
  have h1 : b1.fdr = b.fdr ∧ b1.fdSt f = b.fdSt f := by
    unfold b1
    split
    · exact ⟨rfl, rd_wr_fld _ _ _ _ _ _ (by decide)⟩
    · exact ⟨rfl, rfl⟩
  have h2 : b2.fd f = { b1.fd f with statDue := due + b1.statNs } := fd_onFd_same b1 f _
  have hst2 : b2.fdSt f = b1.fdSt f := rfl
  clear_value b2 b1
  refine ⟨b2, ?_, ?_, ?_, hst2.trans h1.2, rfl⟩ <;> rw [h2, fd_of_fdr h1.1]

theorem statusRead_done (hreads : s.body.fdReads f = true) (w i : Nat) :
    RunsAt (.fpStatusRead f (.done (w, i))) s (s.body.fd f).statDue fun t =>
      t.body.rd .fdrStateStatus f = w % 2 ^ 16 ∧ (∀ st, fdCond (w % 2 ^ 16) i = some st → t.body.fdSt f = st) ∧
      (fdCond (w % 2 ^ 16) i = none → s.body.fdSt f = 2 ∨ 1 ≤ (s.body.fd f).okRun → t.body.fdSt f = 2) := by
  refine runsAt_onHub (exec_statusRead hreads _) (fdReads_known hreads).1 ?_
  have hst : ∀ b : Body, (b.settle (s.goTo (s.body.fd f).statDue).env).fdSt f = b.fdSt f := fun b =>
    settle_rd _ _ .fdrStateState _ rfl
  rw [onBody_body, settle_rd _ _ .fdrStateStatus _ rfl, hst]
  obtain ⟨c, hok, -, -, hstate, heq⟩ := statusRead_begins (s.goTo (s.body.fd f).statDue).env f (.done (w, i)) (s.goTo (s.body.fd f).statDue).body
  rw [heq]
  obtain ⟨hstatus, hcond, hon, -, -⟩ := fdStatus_leaves (s.goTo (s.body.fd f).statDue).env f (w % 2 ^ 16) i c
  refine ⟨hstatus.trans (Nat.mod_mod ..), hcond, fun hnone hor => hon hnone ?_⟩
  rw [hstate, hok]
  exact hor

theorem statusRead_fails (hreads : s.body.fdReads f = true) : RunsAt (.fpStatusRead f .nack) s (s.body.fd f).statDue fun t =>
    (t.body.fd f).fails = (s.body.fd f).fails + 1 ∧ (2 ≤ (s.body.fd f).fails → t.body.fdSt f = 3) := by
  refine runsAt_onHub (exec_statusRead hreads _) (fdReads_known hreads).1 ?_
  have hst : ∀ b : Body, (b.settle (s.goTo (s.body.fd f).statDue).env).fdSt f = b.fdSt f := fun b =>
    settle_rd _ _ .fdrStateState _ rfl
  rw [onBody_body, fd_of_fdr (settle_fdr ..), hst]
  obtain ⟨c, -, hknown, hfails, -, heq⟩ := statusRead_begins (s.goTo (s.body.fd f).statDue).env f .nack (s.goTo (s.body.fd f).statDue).body
  rw [heq]
  have h := fdStatusFail_leaves (s.goTo (s.body.fd f).statDue).env f true (hknown.trans (fdReads_known hreads).2)
  rw [hfails] at h
  exact h

end

/-! ### Telemetry, battery units and the hold of a lost feeder -/

theorem satTemp_lt (x : Int) : satTemp x < 2 ^ 12 := by
  unfold satTemp clampInt
  split
  · decide
  · split
    · decide
    · omega

theorem telemetry_leaves (e : Env) (f v i c p : Nat) (b : Body) :
    (b.telemetry e f v i c p).rd .fdrVoutVout f = min 0xFFFF (fracRound (voutValue (b.fdExp f) (v % 2 ^ 16)) twoMv) ∧
      (b.telemetry e f v i c p).rd .fdrTempTemp f = satTemp (linear11 16 c + 880) ∧
      ((b.telemetry e f v i c p).fd f).tempT = some e.now := by
  have hexp : b.fpDone.fdExp f = b.fdExp f := congrArg (toSigned 8) (fpDone_rd b f (by decide) (by decide))
  have hrd : ∀ h j, (b.telemetry e f v i c p).rd h j =
      ((((b.fpDone.wr .fdrVoutVout f (min 0xFFFF (fracRound (voutValue (b.fdExp f) (v % 2 ^ 16)) twoMv))).wr .fdrVoutIout f
        (ofSigned 16 (clampInt (-32768) 32767 (linear11 100 i)))).wr .fdrTempPout f
        (clampInt 0 0xFFFF (linear11 1 p)).toNat).wr .fdrTempTemp f (satTemp (linear11 16 c + 880))).rd h j := fun h j => by
    unfold Body.telemetry
    exact onFd_rd ..
  refine ⟨?_, ?_, ?_⟩
  · rw [hrd, rd_wr_fld _ _ _ _ _ _ (by decide), rd_wr_fld _ _ _ _ _ _ (by decide), rd_wr_fld _ _ _ _ _ _ (by decide)]
    exact rd_wr_of_lt _ f (Nat.lt_of_le_of_lt (Nat.min_le_left ..) (by decide))
  · rw [hrd]
    exact rd_wr_of_lt _ f (satTemp_lt _)
  · unfold Body.telemetry
    extract_lets b1 b2
    rw [fd_onFd_same]

theorem telemetryRead_done {f : Fin 12} {s : State} (hruns : s.body.fpRuns = true) (hdoze : s.body.doze = false)
    (hst : s.body.fdSt f = 2) (v i c p : Nat) :
    RunsAt (.fpTelemetryRead (.feeder f (.done (v, i, c, p)))) s (s.body.fd f).teleDue fun t =>
      t.body.rd .fdrVoutVout f = min 0xFFFF (fracRound (voutValue (s.body.fdExp f) (v % 2 ^ 16)) twoMv) ∧
      t.body.rd .fdrTempTemp f = satTemp (linear11 16 c + 880) ∧ (t.body.fd f).tempT = some t.time.elapsed := by
  have hexec : exec (.fpTelemetryRead (.feeder f (.done (v, i, c, p)))) s =
      .next ((s.goTo (s.body.fd f).teleDue).onBody fun e b =>
        (b.onFd f fun x => { x with teleDue := x.teleDue + b.pollNs }).telemetry e f v i c p) := by
    rw [exec_fpTelemetryRead]
    exact if_neg (by simp [hruns, hdoze, hst])
  refine runsAt_onBody hexec ?_
  rw [onBody_body, settle_rd _ _ .fdrVoutVout _ rfl, settle_rd _ _ .fdrTempTemp _ rfl, fd_of_fdr (settle_fdr ..)]
  exact telemetry_leaves ..

theorem bbuRead_done (u w : Nat) (b : Body) : (b.bbuRead u (some w)).rd .bbuStatStatus u = w % 2 ^ 16 ∧
    (b.bbuRead u (some w)).rd .bbuStatCommLost u = 0 := by
  have hrd : ∀ h, (b.bbuRead u (some w)).rd h u = ((b.fpDone.wr .bbuStatStatus u w).wr .bbuStatCommLost u 0).rd h u := fun _ => rfl
  refine ⟨?_, ?_⟩
  · rw [hrd, rd_wr_fld _ _ _ _ _ _ (by decide), rd_wr_same]
    rfl
  · rw [hrd, rd_wr_same, Nat.zero_mod]

theorem telemetryRead_bbu {s : State} (hruns : s.body.fpRuns = true) (hdoze : s.body.doze = false) {u : Fin 2}
    (haddr : s.body.rd .bbuCfgAddr u ≠ 0) (w : Nat) :
    RunsAt (.fpTelemetryRead (.bbu u (some w))) s (pairGet s.body.fdr.bbuDue u) fun t =>
      t.body.rd .bbuStatStatus u = w % 2 ^ 16 ∧ t.body.rd .bbuStatCommLost u = 0 := by
  have hexec : exec (.fpTelemetryRead (.bbu u (some w))) s =
      .next ((s.goTo (pairGet s.body.fdr.bbuDue u)).onBody fun _ b =>
        (b.onFp fun p => { p with bbuDue := pairSet p.bbuDue u (pairGet p.bbuDue u + b.pollNs) }).bbuRead u (some w)) := by
    rw [exec_fpTelemetryRead]
    exact if_neg (by simp [hruns, hdoze, haddr])
  refine runsAt_onBody hexec ?_
  rw [onBody_body, settle_rd _ _ .bbuStatStatus _ rfl, settle_rd _ _ .bbuStatCommLost _ rfl]
  exact bbuRead_done ..

theorem commHold_expires {f : Fin 12} {s : State} (hst : s.body.fdSt f = 3) (hhub : s.body.hubDown = false) :
    RunsAt (.feederCommHoldExpire f) s ((s.body.fd f).commT + s.body.rd .feederPollCommHold * 100000000) fun t =>
      (t.body.fd f).expired = true ∧ t.body.fdCounts f = false := by
  have hexec := exec_feederCommHoldExpire f s
  rw [execFeederCommHoldExpire, if_neg (by simp [hst])] at hexec
  generalize (s.body.fd f).commT + s.body.rd .feederPollCommHold * 100000000 = T at hexec ⊢
  refine runsAt_onHub hexec hhub ?_
  have hfd : ∀ b : Body, ((b.settle (s.goTo T).env).fd f) = b.fd f := fun b => fd_of_fdr (settle_fdr ..) f
  have hst' : ∀ b : Body, (b.settle (s.goTo T).env).fdSt f = b.fdSt f := fun b => settle_rd _ _ .fdrStateState _ rfl
  unfold Body.fdCounts
  rw [onBody_body, hfd, hst', fd_of_fdr (fdSum_fdr ..), fd_onFd_same]
  rw [goTo_body]
  have hlost : ((s.body.onFd f fun x => { x with expired := true }).fdSum (s.goTo T).env).fdSt f = 3 := by
    unfold Body.fdSt
    rw [fdSum_rd _ _ _ rfl, onFd_rd]
    exact hst
  rw [hlost]
  exact ⟨rfl, rfl⟩

/-- Settles O49. -/
theorem feederReads : Obligations.FeederReads := fun _ _ =>
  ⟨fun hruns hst hknown => ⟨discovery_tries hruns hst hknown, discovery_unanswered hruns hst hknown,
      fun _ _ _ _ => discovery_wrong_mode hruns hst hknown, fun _ _ _ _ => discovery_answered hruns hst hknown⟩,
    fun hreads => ⟨statusRead_done hreads, statusRead_fails hreads⟩,
    fun hruns hdoze hst => telemetryRead_done hruns hdoze hst,
    fun hruns hdoze _ haddr => telemetryRead_bbu hruns hdoze haddr,
    fun hst hhub => commHold_expires hst hhub⟩

end Sys2Proof.Proofs
end

section
/-!
SUPPORT. Writes to a feeder, balancing, and the pins of a battery unit (R518, R520, R522, R523, R525, R526).
-/

namespace Sys2Proof.Proofs

open Sys2Proof Sys2Proof.Machine Sys2Proof.Safety Sys2Proof.Laws

theorem exec_fpStepWrite (f : Fin 12) (r : FpEnd Unit) (s : State) : exec (.fpStepWrite f r) s = execFpStepWrite f r s := rfl
theorem exec_fpArbLost (f : Fin 12) (k : FpKind) (s : State) : exec (.fpArbLost f k) s =
    .next (s.onBody fun e b => if !b.fpRuns then b else (b.bump .feederFpcntArbLost).arbRetry e f k) := rfl
theorem exec_arbCond (f : Fin 12) (k : FpKind) (back : FpEnd Nat) (again : FpEnd Unit) (s : State) :
    exec (.arbCond f k back again) s = .next (s.onBody fun e b =>
      if !b.fpRuns then b
      else
        let b := b.bump .feederFpcntArbCond
        if k = .write then b.arbWrite e f back again else b.arbRetry e f k) := rfl
theorem exec_fpHangRecovery (r : HangEnd) (s : State) : exec (.fpHangRecovery r) s = execFpHangRecovery r s := rfl
theorem exec_balanceUpdate (s : State) : exec .balanceUpdate s = execBalanceUpdate s := rfl
theorem exec_bbuPinMismatch (u : Fin 2) (code : Fin 4) (s : State) : exec (.bbuPinMismatch u code) s =
    .next (s.onBody fun _ b =>
      let b := b.wr .bbuStatSensed u code
      if b.bbuDrives && decide (b.rd .bbuStatDriven u ≠ code) then (b.wr .bbuStatMismatch u 1).raise (5, 17 + u) else b) := rfl

theorem rd_bump_fld (b : Body) {f g : Fld} (i j : Nat) (hne : g ≠ f) : (b.bump f i).rd g j = b.rd g j :=
  rd_wr_fld _ _ _ _ _ _ hne

/-! ### The step write -/

theorem voutCode_lt (n : Int) (v : Nat) : voutCode n v < 2 ^ 16 := Nat.lt_of_le_of_lt (Nat.min_le_left ..) (by decide)

/-- The code that a step instant sends follows the exponent and the reference of the feeder. -/
theorem stepCode_congr (e : Env) (f : Nat) {b c : Body} (hfdr : c.fdr = b.fdr)
    (hrd : ∀ h i, h ≠ .feederFpcntArbCond → c.rd h i = b.rd h i) : c.stepCode e f = b.stepCode e f := by
  unfold Body.stepCode Body.fdExp Body.fdRef Body.stepNs Body.fdSt
  rw [fd_of_fdr hfdr, hrd _ _ (by decide), hrd _ _ (by decide), hrd _ _ (by decide), hrd _ _ (by decide)]

theorem stepWrite_sent (e : Env) (f : Nat) {b : Body} (hst : b.fdSt f = 2) :
    (b.stepWrite e f (.done ())).rd .fdrVcmdSent f = b.stepCode e f := by
  unfold Body.stepWrite
  dsimp only
  split
  next h =>
    simp only [Bool.or_eq_true, decide_eq_true_eq] at h
    exact (h.resolve_left fun hne => hne hst).symm
  · exact rd_wr_of_lt _ f (voutCode_lt ..)

/-! ### Arbitration -/

theorem arbRetry_repeats (e : Env) (f : Nat) (k : FpKind) {b : Body} (h : b.fdr.losses < b.rd .feederFpcfgRetries) :
    b.arbRetry e f k = b.onFp fun p => { p with losses := p.losses + 1 } := by
  unfold Body.arbRetry
  exact if_pos h

theorem arbRetry_read_fails (e : Env) (f : Nat) {b : Body} (h : b.rd .feederFpcfgRetries ≤ b.fdr.losses) :
    b.arbRetry e f .read = (b.bump .fdrErrFail f).onFp fun p => { p with losses := 0 } := by
  unfold Body.arbRetry
  exact if_neg (by omega)

theorem arbWrite_done (e : Env) (f v : Nat) (again : FpEnd Unit) {b : Body} (h : v % 2 ^ 16 = b.stepCode e f) :
    (b.arbWrite e f (.done v) again).rd .fdrVcmdSent f = v % 2 ^ 16 ∧
      (b.arbWrite e f (.done v) again).rd .fdrErrFail f = b.rd .fdrErrFail f := by
  have heq : b.arbWrite e f (.done v) again =
      (b.fpDone.wr .fdrVcmdSent f (b.stepCode e f)).event e.count 0x0402 0xFF f 1 0 := by
    unfold Body.arbWrite
    exact if_pos h
  rw [heq, event_rd, event_rd, h]
  refine ⟨rd_wr_of_lt _ f (voutCode_lt ..), ?_⟩
  rw [rd_wr_fld _ _ _ _ _ _ (by decide), fpDone_rd _ _ (by decide) (by decide)]

theorem arbWrite_nack (e : Env) (f : Nat) (b : Body) :
    (b.arbWrite e f .nack .nack).rd .fdrErrNack f = min (b.rd .fdrErrNack f + 1) (2 ^ 16 - 1) ∧
      (b.arbWrite e f .nack .nack).rd .fdrErrFail f = min (b.rd .fdrErrFail f + 1) (2 ^ 16 - 1) := by
  have hrd : ∀ h, (b.arbWrite e f .nack .nack).rd h f = ((b.bump .fdrErrNack f).bump .fdrErrFail f).rd h f := fun h => by
    unfold Body.arbWrite
    exact event_rd ..
  refine ⟨?_, ?_⟩
  · rw [hrd, rd_bump_fld _ _ _ (by decide), rd_bump_same]
    rfl
  · rw [hrd, rd_bump_same, rd_bump_fld _ _ _ (by decide)]
    rfl

section
variable {f : Fin 12} {s : State} (hruns : s.body.fpRuns = true)
include hruns

theorem stepWrite_runs (hdoze : s.body.doze = false) (hst : s.body.fdSt f = 2) :
    RunsAt (.fpStepWrite f (.done ())) s (ceilDiv s.time.elapsed s.body.stepNs * s.body.stepNs) fun t =>
      t.body.rd .fdrVcmdSent f =
        s.body.stepCode (s.goTo (ceilDiv s.time.elapsed s.body.stepNs * s.body.stepNs)).env f := by
  have hexec := exec_fpStepWrite f (.done ()) s
  rw [execFpStepWrite, if_neg (by simp [hruns, hdoze])] at hexec
  generalize ceilDiv s.time.elapsed s.body.stepNs * s.body.stepNs = T at hexec ⊢
  refine runsAt_onBody hexec ?_
  rw [onBody_body, settle_rd _ _ .fdrVcmdSent _ rfl, goTo_body]
  exact stepWrite_sent _ f hst

theorem arbLost_repeats (k : FpKind) (hlosses : s.body.fdr.losses < s.body.rd .feederFpcfgRetries) : Becomes (.fpArbLost f k) s
    ((s.body.bump .feederFpcntArbLost).onFp fun p => { p with losses := p.losses + 1 }) := by
  refine becomes_onBody (exec_fpArbLost f k s) ?_
  rw [if_neg (by simp [hruns]), arbRetry_repeats]
  rw [rd_bump_fld _ _ _ (by decide)]
  exact hlosses

theorem arbLost_fails (hlosses : s.body.rd .feederFpcfgRetries ≤ s.body.fdr.losses) : Becomes (.fpArbLost f .read) s
    (((s.body.bump .feederFpcntArbLost).bump .fdrErrFail f).onFp fun p => { p with losses := 0 }) := by
  refine becomes_onBody (exec_fpArbLost f .read s) ?_
  rw [if_neg (by simp [hruns]), arbRetry_read_fails]
  rw [rd_bump_fld _ _ _ (by decide)]
  exact hlosses

theorem arbCond_repeats {k : FpKind} (back : FpEnd Nat) (again : FpEnd Unit) (hk : k ≠ .write)
    (hlosses : s.body.fdr.losses < s.body.rd .feederFpcfgRetries) : Becomes (.arbCond f k back again) s
      ((s.body.bump .feederFpcntArbCond).onFp fun p => { p with losses := p.losses + 1 }) := by
  refine becomes_onBody (exec_arbCond f k back again s) ?_
  rw [if_neg (by simp [hruns])]
  dsimp only
  rw [if_neg hk, arbRetry_repeats]
  rw [rd_bump_fld _ _ _ (by decide)]
  exact hlosses

/-- An interrupted write goes by what is read back and by the repeat. -/
theorem arbCond_write {back : FpEnd Nat} {again : FpEnd Unit} {P : State → Prop}
    (hP : ∀ t, (∀ h i, isTree h = false →
      t.body.rd h i = ((s.body.bump .feederFpcntArbCond).arbWrite s.env f back again).rd h i) → P t) :
    Runs (.arbCond f .write back again) s P := by
  refine runs_onBody (exec_arbCond f .write back again s) (hP _ fun h i hh => ?_)
  rw [onBody_body, if_neg (by simp [hruns]), settle_rd _ _ h i hh]
  rfl

theorem arbCond_agrees {v : Nat} {again : FpEnd Unit} (hv : v % 2 ^ 16 = s.body.stepCode s.env f) :
    Runs (.arbCond f .write (.done v) again) s fun t =>
      t.body.rd .fdrVcmdSent f = v % 2 ^ 16 ∧ t.body.rd .fdrErrFail f = s.body.rd .fdrErrFail f := by
  have hcode : (s.body.bump .feederFpcntArbCond).stepCode s.env f = s.body.stepCode s.env f :=
    stepCode_congr s.env f rfl fun h i hh => rd_bump_fld _ _ _ hh
  refine arbCond_write hruns fun t ht => ?_
  obtain ⟨hsent, hfail⟩ := arbWrite_done s.env f v again (hv.trans hcode.symm)
  exact ⟨(ht _ _ rfl).trans hsent, (ht _ _ rfl).trans (hfail.trans (rd_bump_fld _ _ _ (by decide)))⟩

theorem arbCond_nack : Runs (.arbCond f .write .nack .nack) s fun t =>
    t.body.rd .fdrErrNack f = min (s.body.rd .fdrErrNack f + 1) (2 ^ 16 - 1) ∧
    t.body.rd .fdrErrFail f = min (s.body.rd .fdrErrFail f + 1) (2 ^ 16 - 1) := by
  refine arbCond_write hruns fun t ht => ?_
  obtain ⟨hnack, hfail⟩ := arbWrite_nack s.env f (s.body.bump .feederFpcntArbCond)
  rw [rd_bump_fld _ _ _ (by decide)] at hnack hfail
  exact ⟨(ht _ _ rfl).trans hnack, (ht _ _ rfl).trans hfail⟩

/-! ### A hung bus -/

theorem hang_runs {r : HangEnd} {f : Fld} (hf : isTree f = false) {v : Nat} (hv : ∀ e, (s.body.hang e r).rd f = v) :
    Runs (.fpHangRecovery r) s fun t => t.body.rd f = v := by
  have hexec := exec_fpHangRecovery r s
  rw [execFpHangRecovery, if_neg (by simp [hruns])] at hexec
  dsimp only at hexec
  generalize (if (s.body.flag .feederStatFpHung || s.body.flag .feederStatSclStuck) = true then s.body.fdr.hangT + 100000000
    else s.time.elapsed) = T at hexec
  refine ⟨_, hexec, ?_⟩
  beta_reduce
  rw [onBody_body, settle_rd _ _ f _ hf, goTo_body]
  exact hv _

end

theorem hangNote_rd (e : Env) (f : Fld) (x : Nat) {b : Body} (hleaf : f ≠ .alertLeaf) (hw : 1 < 2 ^ fieldWidth f) :
    (if b.flag f then b else ((b.wr f 0 1).raise (5, 16)).event e.count 0x0401 0xFF x 0 0).rd f = 1 := by
  split
  next h => exact of_decide_eq_true h
  · rw [event_rd, raise_rd _ _ _ _ hleaf]
    exact rd_wr_of_lt b 0 hw

theorem hang_sdaLow (e : Env) (b : Body) : (b.hang e .sdaLow).rd .feederStatFpHung = 1 := hangNote_rd e _ 2 (by decide) (by decide)
theorem hang_sclLow (e : Env) (b : Body) : (b.hang e .sclLow).rd .feederStatSclStuck = 1 := hangNote_rd e _ 3 (by decide) (by decide)

theorem hang_recovered (e : Env) (b : Body) :
    (b.hang e .recovered).rd .feederFpcntRecover = min (b.rd .feederFpcntRecover + 1) (2 ^ 8 - 1) := by
  unfold Body.hang
  dsimp only
  rw [event_rd, rd_bump_same]
  rfl

/-! ### Balancing -/

theorem setTrim_fd_same (f : Nat) (x : Int) (b : Body) : ((b.setTrim f x).fd f).trim = x := by
  unfold Body.setTrim
  rw [fd_of_fdr (wr_fdr ..), fd_onFd_same]

theorem setTrim_fd_other {f h : Nat} (x : Int) (b : Body) (hne : h % 12 ≠ f % 12) : (b.setTrim f x).fd h = b.fd h := by
  unfold Body.setTrim
  rw [fd_of_fdr (wr_fdr ..), fd_onFd_other _ _ hne]

theorem setTrim_balT (f : Nat) (x : Int) (b : Body) : (b.setTrim f x).fdr.balT = b.fdr.balT := by
  unfold Body.setTrim
  rw [wr_fdr]
  rfl

/-- The trims are set one after another. -/
def setTrims (ps : List (Nat × Int)) (b : Body) : Body := ps.foldl (fun b p => b.setTrim p.1 p.2) b

theorem setTrims_balT (ps : List (Nat × Int)) (b : Body) : (setTrims ps b).fdr.balT = b.fdr.balT := by
  unfold setTrims
  induction ps generalizing b with
  | nil => rfl
  | cons p ps ih => rw [List.foldl_cons, ih, setTrim_balT]

/-- A feeder that the update does not name keeps its trim. -/
theorem setTrims_other {ps : List (Nat × Int)} {h : Nat} (hnot : ∀ p ∈ ps, h % 12 ≠ p.1 % 12) (b : Body) :
    ((setTrims ps b).fd h).trim = (b.fd h).trim := by
  unfold setTrims
  induction ps generalizing b with
  | nil => rfl
  | cons p ps ih =>
    rw [List.foldl_cons, ih (fun q hq => hnot q (List.mem_cons_of_mem _ hq)), setTrim_fd_other _ _ (hnot p List.mem_cons_self)]

/-- Trims within a bound stay within it, and a feeder that the update names gets one of its trims. -/
theorem setTrims_within {P : Int → Prop} {ps : List (Nat × Int)} (hP : ∀ p ∈ ps, P p.2) {h : Nat}
    (hmem : h ∈ ps.map Prod.fst ∨ P ((b.fd h).trim)) : P (((setTrims ps b).fd h).trim) := by
  unfold setTrims
  induction ps generalizing b with
  | nil => exact hmem.resolve_left List.not_mem_nil
  | cons p ps ih =>
    rw [List.foldl_cons]
    refine ih (fun q hq => hP q (List.mem_cons_of_mem _ hq)) ?_
    by_cases hin : h ∈ ps.map Prod.fst
    · exact .inl hin
    · refine .inr ?_
      by_cases hp : h % 12 = p.1 % 12
      · have hsame : ((b.setTrim p.1 p.2).fd h).trim = p.2 := by
          rw [show (b.setTrim p.1 p.2).fd h = (b.setTrim p.1 p.2).fd p.1 from by unfold Body.fd; simp only [hp], setTrim_fd_same]
        rw [hsame]
        exact hP p List.mem_cons_self
      · rw [setTrim_fd_other _ _ hp]
        refine hmem.resolve_left fun h' => ?_
        rcases List.mem_cons.mp h' with h' | h'
        · exact hp (by rw [h'])
        · exact hin h'

theorem fdRetarget_trim (e : Env) (f h : Nat) (b : Body) : ((b.fdRetarget e f).fd h).trim = (b.fd h).trim := by
  by_cases hf : h % 12 = f % 12
  · have hone : ∀ c : Body, c.fd h = c.fd f := fun c => by
      unfold Body.fd
      simp only [hf]
    rw [hone, hone, fdRetarget_fd]
  · unfold Body.fdRetarget Body.fdAnchor
    rw [fd_of_fdr (wr_fdr ..), fd_onFd_other _ _ hf, fd_onFd_other _ _ hf]

theorem fdRetarget_balT (e : Env) (f : Nat) (b : Body) : (b.fdRetarget e f).fdr.balT = b.fdr.balT := by
  unfold Body.fdRetarget
  dsimp only
  rw [wr_fdr]
  rfl

theorem fdRetargetAll_leaves (e : Env) (b : Body) : (b.fdRetargetAll e).fdr.balT = b.fdr.balT ∧
    ∀ h, ((b.fdRetargetAll e).fd h).trim = (b.fd h).trim := by
  unfold Body.fdRetargetAll
  split
  · exact ⟨rfl, fun _ => rfl⟩
  · exact ⟨part_foldl (fun b : Body => b.fdr.balT) (fun b f => b.fdRetarget e f) (fun b f => fdRetarget_balT e f b) _ b,
      fun h => part_foldl (fun b : Body => (b.fd h).trim) (fun b f => b.fdRetarget e f) (fun b f => fdRetarget_trim e f h b) _ b⟩

theorem clampInt_natAbs_le (m : Nat) (x : Int) : (clampInt (-(m : Int)) m x).natAbs ≤ m := by
  unfold clampInt
  split
  · omega
  · split <;> omega

theorem newTrims_length (b : Body) (fs : List Nat) : (b.newTrims fs).length = fs.length := by
  unfold Body.newTrims
  simp

theorem newTrims_within (b : Body) (fs : List Nat) : ∀ x ∈ b.newTrims fs, x.natAbs ≤ b.rd .feederBalTrimMax * 10 * 65536 := by
  intro x hx
  unfold Body.newTrims at hx
  obtain ⟨t, -, rfl⟩ := List.mem_map.mp hx
  exact clampInt_natAbs_le _ _

/-- The update of the trims from its body (R520). -/
theorem balance_leaves (e : Env) (b : Body) : (b.balance e).fdr.balT = e.now ∧
    (∀ f ∈ b.balSet e, 2 ≤ (b.balSet e).length → (((b.balance e).fd f).trim).natAbs ≤ b.rd .feederBalTrimMax * 10 * 65536) ∧
    ∀ f, f < 12 → f ∉ b.balSet e ∨ (b.balSet e).length < 2 → ((b.balance e).fd f).trim = (b.fd f).trim := by
  have hset : (b.onFp fun p => { p with balT := e.now }).balSet e = b.balSet e := rfl
  have hlt12 : ∀ f ∈ b.balSet e, f < 12 := fun f hf => List.mem_range.mp (List.mem_filter.mp hf).1
  unfold Body.balance
  dsimp only
  rw [hset]
  generalize b.balSet e = fs at hlt12
  split
  next hfew => exact ⟨rfl, fun f _ htwo => absurd hfew (by omega), fun _ _ _ => rfl⟩
  next hmany =>
    generalize hc : (b.onFp fun p => { p with balT := e.now }) = c
    have hbal : c.fdr.balT = e.now := by rw [← hc]; rfl
    have hmax : c.rd .feederBalTrimMax = b.rd .feederBalTrimMax := by rw [← hc]; rfl
    have htrim : ∀ f, c.fd f = b.fd f := fun f => by rw [← hc]; rfl
    obtain ⟨hbalT, htrims⟩ := fdRetargetAll_leaves e (setTrims (List.zip fs (c.newTrims fs)) c)
    have hnames : (List.zip fs (c.newTrims fs)).map Prod.fst = fs := List.map_fst_zip (by rw [newTrims_length])
    refine ⟨hbalT.trans ((setTrims_balT ..).trans hbal), fun f hf _ => ?_, fun f hf hout => ?_⟩
    · refine (congrArg Int.natAbs (htrims f)).le.trans ?_
      refine setTrims_within (P := fun x => x.natAbs ≤ b.rd .feederBalTrimMax * 10 * 65536) (fun p hp => ?_)
        (.inl (hnames.symm ▸ hf))
      rw [← hmax]
      exact newTrims_within c fs p.2 (List.of_mem_zip hp).2
    · refine (htrims f).trans ((setTrims_other (fun p hp hsame => ?_) c).trans (by rw [htrim]))
      have hp12 := hlt12 p.1 (List.of_mem_zip hp).1
      rw [Nat.mod_eq_of_lt hf, Nat.mod_eq_of_lt hp12] at hsame
      rcases hout with h | h
      · exact h (hsame ▸ (List.of_mem_zip hp).1)
      · exact hmany h

theorem onBody_env (f : Env → Body → Body) (s : State) : (s.onBody f).env = s.env := rfl
theorem onBody_elapsed (f : Env → Body → Body) (s : State) : (s.onBody f).time.elapsed = s.env.now := rfl

theorem balance_runs {s : State} (hen : s.body.flag .feederBalBalEn = true) (hsusp : s.body.balSusp = false)
    (hruns : s.body.fpRuns = true) (hdoze : s.body.doze = false) :
    RunsAt .balanceUpdate s (s.body.fdr.balT + max 1 (s.body.rd .feederBalBalPeriod) * 1000000000) fun t =>
      t.body.fdr.balT = t.time.elapsed ∧
      (∀ f ∈ s.body.balSet t.env, 2 ≤ (s.body.balSet t.env).length →
        ((t.body.fd f).trim).natAbs ≤ s.body.rd .feederBalTrimMax * 10 * 65536) ∧
      (∀ f, f < 12 → f ∉ s.body.balSet t.env ∨ (s.body.balSet t.env).length < 2 →
        (t.body.fd f).trim = (s.body.fd f).trim) := by
  have hexec := exec_balanceUpdate s
  rw [execBalanceUpdate, if_neg (by simp [hen, hsusp, hruns, hdoze])] at hexec
  generalize s.body.fdr.balT + max 1 (s.body.rd .feederBalBalPeriod) * 1000000000 = T at hexec ⊢
  have hset : ∀ (e : Env) (t : State), t.env = e → t.time.elapsed = e.now → t.body = (s.body.balance e).settle e →
      t.body.fdr.balT = t.time.elapsed ∧
      (∀ f ∈ s.body.balSet t.env, 2 ≤ (s.body.balSet t.env).length →
        ((t.body.fd f).trim).natAbs ≤ s.body.rd .feederBalTrimMax * 10 * 65536) ∧
      (∀ f, f < 12 → f ∉ s.body.balSet t.env ∨ (s.body.balSet t.env).length < 2 →
        (t.body.fd f).trim = (s.body.fd f).trim) := fun e t henv hnow hbody => by
    have hfdr : t.body.fdr = (s.body.balance e).fdr := by rw [hbody, settle_fdr]
    have hfd : ∀ f, t.body.fd f = (s.body.balance e).fd f := fd_of_fdr hfdr
    rw [henv, hnow, hfdr]
    simp only [hfd]
    exact balance_leaves e s.body
  refine runsAt_onBody hexec (hset (s.goTo T).env _ (onBody_env ..) (onBody_elapsed ..) ?_)
  rw [onBody_body, goTo_body]

/-- Settles O50. -/
theorem feederWrites : Obligations.FeederWrites := by
  refine ⟨fun f s hruns => ⟨stepWrite_runs hruns, arbLost_repeats hruns, arbLost_fails hruns, fun k => arbCond_repeats hruns,
    fun v again => arbCond_agrees hruns, arbCond_nack hruns, hang_runs hruns rfl fun e => hang_sdaLow e s.body,
    hang_runs hruns rfl fun e => hang_sclLow e s.body, hang_runs hruns rfl fun e => hang_recovered e s.body⟩,
    fun s => ⟨balance_runs, fun u c h => ?_, fun u c hdrives hne => ?_⟩⟩
  · refine becomes_onBody (exec_bbuPinMismatch u c s) ?_
    dsimp only
    rw [rd_wr_fld _ _ _ _ _ _ (by decide)]
    rcases h with h | h
    · exact if_neg (by simp [show (s.body.wr .bbuStatSensed u c).bbuDrives = false from h])
    · exact if_neg (by simp [h])
  · refine becomes_of_settled (exec_bbuPinMismatch u c s) ?_
    dsimp only
    rw [rd_wr_fld _ _ _ _ _ _ (by decide), if_pos (by simp [show (s.body.wr .bbuStatSensed u c).bbuDrives = true from hdrives, hne])]
    exact settled_raise ..

end Sys2Proof.Proofs
end

section
/-!
SUPPORT. What an urgent request of a die's converters leaves as it is (R289, R294 to R296).
-/

namespace Sys2Proof.Proofs

open Sys2Proof Sys2Proof.Machine Sys2Proof.Safety Sys2Proof.Laws

/-- The registers that an urgent request writes. -/
@[reducible, simp] def capFld (f : Fld) : Bool :=
  match f with
  | .metaBenchdieBusy | .recCapnoNo => true
  | _ => false

/-- The registers of a die that an urgent request writes. -/
@[reducible, simp] def capDie (f : Fld) : Bool :=
  match f with
  | .feCapstatMissed | .feCapstatBusy | .feCapstatWideRun | .feCvstatUrgent => true
  | _ => false

/-- An engine beside its metering path. -/
def engBeside (g : Eng) : Eng := { g with m := (Body.reset.en 0).m }

/-- A die beside its registers, its urgent requests and its visits. -/
def dieBeside (d : Die) : Die :=
  { d with regs := Body.reset.regs, urg := (Body.reset.fe 0).urg, visA := (Body.reset.fe 0).visA, visB := (Body.reset.fe 0).visB
           scanZero := false, scanCond := 0 }

/-- All but what an urgent request moves: the requests and the visits of a die, the paths of its channels, the capture in the recorder, the
frames to the partner, and the registers that show them. -/
def capSide (b : Body) : Body × (Nat → Eng) × (Nat → Die) × (Fld → Nat → Nat) × (Nat → Fld → Nat → Nat) := ({ b with regs := Body.reset.regs, eng := Body.reset.eng, die := Body.reset.die, rcd := Recorder.reset, twin := Twin.reset },
    fun n => engBeside (b.en n), fun k => dieBeside (b.fe k), fun f i => if capFld f then 0 else b.rd f i,
    fun k f i => if capDie f then 0 else b.drd k f i)

/-- Each turn of a fold leaves it. -/
def CapSideKept {α : Type} (f : Body → α → Body) : Prop := ∀ b a, capSide (f b a) = capSide b

@[simp] theorem capSideKept_iff {α : Type} (f : Body → α → Body) : CapSideKept f ↔ ∀ b a, capSide (f b a) = capSide b := .rfl

@[simp] theorem capSide_foldl {α : Type} (f : Body → α → Body) (l : List α) (b : Body) (hf : CapSideKept f) : capSide (l.foldl f b) = capSide b :=
  part_foldl capSide f hf l b

@[simp] theorem capSide_forEach (b : Body) (l : List Nat) (f : Nat → Body → Body) (hf : CapSideKept fun b n => f n b) :
    capSide (b.forEach l f) = capSide b :=
  part_foldl capSide _ hf l b

@[simp] theorem capSide_set_rcd (b : Body) (x : Recorder) : capSide { b with rcd := x } = capSide b := (rfl)
@[simp] theorem capSide_set_twin (b : Body) (x : Twin) : capSide { b with twin := x } = capSide b := (rfl)
@[simp] theorem capSide_onTwin (f : Twin → Twin) (b : Body) : capSide (b.onTwin f) = capSide b := (rfl)

theorem drd_dwr_fld (b : Body) (j k : Nat) {f g : Fld} (i x v : Nat) (h : g ≠ f) : (b.dwr j f i v).drd k g x = b.drd k g x := by
  unfold Body.dwr Body.drd
  rw [fe_onDie]
  split
  next hk => rw [regGet_set, if_neg fun hgf => h hgf.1, fe_congr b hk]
  · rfl

@[simp] theorem capSide_wr (b : Body) (f : Fld) (i v : Nat) (h : capFld f = true) : capSide (b.wr f i v) = capSide b := by
  have hone : (fun g j => if capFld g then 0 else (b.wr f i v).rd g j) = fun g j => if capFld g then 0 else b.rd g j := by
    funext g j
    split
    · rfl
    next hg => exact rd_wr_fld _ _ _ _ _ _ fun hgf => hg (by rw [hgf, h])
  unfold capSide
  rw [hone]
  rfl

/-- A change of a die that leaves its registers and all of it that no request of its converters moves. -/
def RequestMove (f : Die → Die) : Prop := ∀ d, (f d).regs = d.regs ∧ dieBeside (f d) = dieBeside d

@[simp] theorem requestMove_iff (f : Die → Die) : RequestMove f ↔ ∀ d, (f d).regs = d.regs ∧ dieBeside (f d) = dieBeside d := .rfl

@[simp] theorem capSide_onDie (b : Body) (j : Nat) (f : Die → Die) (h : RequestMove f) : capSide (b.onDie j f) = capSide b := by
  have hone : ∀ k, dieBeside ((b.onDie j f).fe k) = dieBeside (b.fe k) := fun k => by
    rw [fe_onDie]
    split
    next hk => rw [(h _).2, fe_congr b hk]
    · rfl
  have hregs : ∀ k, ((b.onDie j f).fe k).regs = (b.fe k).regs := fun k => by
    rw [fe_onDie]
    split
    next hk => rw [(h _).1, fe_congr b hk]
    · rfl
  have hdrd : ∀ k g i, (b.onDie j f).drd k g i = b.drd k g i := fun k g i => drd_eq_of_regs (hregs k) g i
  unfold capSide
  simp only [hone, hdrd]
  rfl

@[simp] theorem capSide_dwr (b : Body) (j : Nat) (f : Fld) (i v : Nat) (h : capDie f = true) : capSide (b.dwr j f i v) = capSide b := by
  have hone : ∀ k, dieBeside ((b.dwr j f i v).fe k) = dieBeside (b.fe k) := fun k => by
    unfold Body.dwr
    rw [fe_onDie]
    split
    next hk => rw [fe_congr b hk]; rfl
    · rfl
  have hdrd : (fun k g x => if capDie g then 0 else (b.dwr j f i v).drd k g x) = fun k g x => if capDie g then 0 else b.drd k g x := by
    funext k g x
    split
    · rfl
    next hg => exact drd_dwr_fld _ _ _ _ _ _ fun hgf => hg (by rw [hgf, h])
  unfold capSide
  rw [hdrd]
  simp only [hone]
  rfl

@[simp] theorem capSide_emit (r : LRec) (b : Body) : capSide (b.emit r) = capSide b := by
  simp [Body.emit]
@[simp] theorem capSide_sendBluli (kind : Nat) (content : List Nat) (b : Body) : capSide (b.sendBluli kind content) = capSide b := by
  simp [Body.sendBluli, apply_ite capSide, ite_self]
@[simp] theorem capSide_shared (r : LRec) (b : Body) : capSide (b.shared r) = capSide b := by
  simp [Body.shared, apply_ite capSide, ite_self]
@[simp] theorem capSide_span (time kind edge mask : Nat) (b : Body) : capSide (b.span time kind edge mask) = capSide b := by
  simp [Body.span]
@[simp] theorem capSide_onPath (n : Nat) (f : MPath → MPath) (b : Body) : capSide (b.onPath n f) = capSide b := by
  have hone : ∀ m, engBeside ((b.onPath n f).en m) = engBeside (b.en m) := fun m => by
    unfold Body.onPath
    rw [en_onEng]
    split
    next hm => rw [en_congr b hm]; rfl
    · rfl
  unfold capSide
  simp only [hone]
  rfl
@[simp] theorem capSide_onUrg (k : Nat) (f : Urgent → Urgent) (b : Body) : capSide (b.onUrg k f) = capSide b := capSide_onDie _ _ _ fun _ => ⟨rfl, rfl⟩
@[simp] theorem capSide_startCap (e : Env) (k : Nat) (b : Body) : capSide (b.startCap e k) = capSide b := by
  simp [Body.startCap, apply_ite capSide, ite_self, capFld]
@[simp] theorem capSide_onVisit (k : Nat) (cvb : Bool) (f : VisitRun → VisitRun) (b : Body) : capSide (b.onVisit k cvb f) = capSide b := by
  refine capSide_onDie _ _ _ fun d => ?_
  split <;> exact ⟨rfl, rfl⟩
@[simp] theorem capSide_visitsPause (e : Env) (k : Nat) (b : Body) : capSide (b.visitsPause e k) = capSide b := by
  simp [Body.visitsPause]
@[simp] theorem capSide_emptyScan (e : Env) (k : Nat) (b : Body) : capSide (b.emptyScan e k) = capSide b := by
  simp [Body.emptyScan, apply_ite capSide, ite_self, dieBeside]
@[simp] theorem capSide_urgentStart (e : Env) (k : Nat) (b : Body) : capSide (b.urgentStart e k) = capSide b := by
  simp [Body.urgentStart, apply_ite capSide, ite_self, capFld, capDie, dieBeside]
@[simp] theorem capSide_capture (e : Env) (k src unit : Nat) (b : Body) : capSide (b.capture e k src unit) = capSide b := by
  simp [Body.capture, apply_ite capSide, ite_self, capDie]
@[simp] theorem capSide_capTrigger (e : Env) (k src unit : Nat) (b : Body) : capSide (b.capTrigger e k src unit) = capSide b := by
  simp [Body.capTrigger, apply_ite capSide, ite_self]
@[simp] theorem capSide_capTriggerAll (e : Env) (k src unit : Nat) (b : Body) : capSide (b.capTriggerAll e k src unit) = capSide b := by
  simp [Body.capTriggerAll, apply_ite capSide, ite_self]

end Sys2Proof.Proofs
end

section
/-!
SUPPORT. The trace buffer (R123, R124).
-/

namespace Sys2Proof.Proofs

open Sys2Proof Sys2Proof.Machine Sys2Proof.Safety Sys2Proof.Laws

theorem exec_traceArm (k : DieIx) (div pre : Nat) (s : State) : exec (.traceArm k div pre) s =
    .next (s.onBody fun e b => b.atDie e k 0x20810 (div % 256 * 2 ^ 16 + pre % 4096 + 2 ^ 24) fun b =>
      (b.trFields k (div % 256) (pre % 4096)).trArm k) := rfl
theorem exec_traceForce (k : DieIx) (s : State) : exec (.traceForce k) s =
    .next (s.onBody fun e b => b.atDie e k 0x20810 (b.heldBits k 0x20810 + 2 ^ 25) fun b => b.trForceNow e k) := rfl
theorem exec_traceDone (k : DieIx) (s : State) : exec (.traceDone k) s =
    .next (s.onBody fun _ b => if b.trFull k then b.trDone k else b) := rfl

/-! ### A command that reaches its die, or waits for it -/

theorem atDie_joined (e : Env) (k a word : Nat) (f : Body → Body) {b : Body} (hhub : b.hubDown = false) (hjoined : (b.fe k).joined = true) :
    b.atDie e k a word f = f (b.drain e k) := by
  unfold Body.atDie
  rw [if_neg (by simp [hhub]), if_pos hjoined]

theorem atDie_waits (e : Env) (k a word : Nat) (f : Body → Body) {b : Body} (hhub : b.hubDown = false) (hjoined : (b.fe k).joined = false) :
    b.atDie e k a word f = b.sendDown k (.hostWrite (a + 0x1000 * k) word (b.unlocked 5 && b.role ≠ .standby)) := by
  unfold Body.atDie
  rw [if_neg (by simp [hhub]), if_neg (by simp [hjoined])]

/-- The frames that follow a command come behind those that wait. -/
theorem settle_down (e : Env) (k : Nat) (b : Body) : ∃ gs, ((b.settle e).fe k).down = (b.fe k).down ++ gs := by
  obtain ⟨gs, hgs⟩ := addsFields_settle e b k
  exact ⟨_, hgs⟩

theorem sendDown_down (k : Nat) (m : DownMsg) (b : Body) : ((b.sendDown k m).fe k).down = (b.fe k).down ++ [m] := by
  unfold Body.sendDown
  rw [fe_onDie_same]

/-- What waits at a die whose link is down (R34). -/
theorem atDie_runs_waiting {i : Instr} {k a : Nat} {s : State} {word : Body → Nat} {f : Env → Body → Body}
    (hexec : exec i s = .next (s.onBody fun e b => b.atDie e k a (word b) (f e))) (hhub : s.body.hubDown = false)
    (hjoined : (s.body.fe k).joined = false) : Runs i s fun t => ∃ x u gs,
      (t.body.fe k).down = (s.body.fe k).down ++ [.hostWrite (a + 0x1000 * k) x u] ++ gs := by
  refine runs_onBody hexec ?_
  rw [onBody_body, atDie_waits _ _ _ _ _ hhub hjoined]
  obtain ⟨gs, hgs⟩ := settle_down s.env k (s.body.sendDown k (.hostWrite (a + 0x1000 * k) (word s.body) (s.body.unlocked 5 && s.body.role ≠ .standby)))
  rw [sendDown_down] at hgs
  exact ⟨_, _, gs, hgs⟩

theorem drd_onDie_keeps (b : Body) {j : Nat} {g : Die → Die} (hg : ∀ d, (g d).regs = d.regs) (k : Nat) (f : Fld) (i : Nat) :
    (b.onDie j g).drd k f i = b.drd k f i := by
  refine drd_eq_of_regs ?_ f i
  rw [fe_onDie]
  split
  next hk => rw [hg, fe_congr b hk]
  · rfl

/-- A register of a die that no urgent request writes. -/
theorem drd_of_cap {b c : Body} (h : capSide c = capSide b) {f : Fld} (hf : capDie f = false) (k i : Nat) : c.drd k f i = b.drd k f i := by
  have hone : (if capDie f then 0 else c.drd k f i) = if capDie f then 0 else b.drd k f i :=
    congrArg (fun x => x.2.2.2.2 k f i) h
  simpa only [hf, Bool.false_eq_true, if_false] using hone

/-! ### ARM -/

/-- The fields come with the write, unless the buffer is armed. -/
theorem trFields_leaves (k div pre : Nat) (b : Body) :
    (b.trFields k div pre).drd k .feTrctlPre k = (if b.drd k .feTrctlArmed k = 1 then b.drd k .feTrctlPre k else pre % 4096) ∧
    (b.trFields k div pre).drd k .feTrctlDiv k = if b.drd k .feTrctlArmed k = 1 then b.drd k .feTrctlDiv k else div % 256 := by
  unfold Body.trFields
  split
  · exact ⟨rfl, rfl⟩
  · exact ⟨drd_dwr_same .., (drd_dwr_fld _ _ _ _ _ _ (by decide)).trans (drd_dwr_same ..)⟩

theorem trArm_leaves (k : Nat) (b : Body) : (b.trArm k).drd k .feTrctlArmed k = 1 ∧ (b.trArm k).drd k .feTrctlDone k = 0 ∧
    (b.trArm k).drd k .feTrctlTriggered k = 0 ∧ ((b.trArm k).fe k).trNext = 0 ∧ ((b.trArm k).fe k).trCount = 0 ∧
    (b.trArm k).drd k .feTrctlPre k = b.drd k .feTrctlPre k ∧ (b.trArm k).drd k .feTrctlDiv k = b.drd k .feTrctlDiv k := by
  unfold Body.trArm
  extract_lets b1 b2
  have h2 : b2.die = b1.die := part_foldl Body.die _ (by exact fun b m => onEng_die ..) _ b1
  have hfe : b2.fe k = b1.fe k := by
    unfold Body.fe
    rw [h2]
  have hdrd : ∀ (g : Die → Die), (∀ d, (g d).regs = d.regs) → ∀ f, (b2.onDie k g).drd k f k = b1.drd k f k := fun g hg f =>
    (drd_onDie_keeps b2 hg k f k).trans (drd_eq_of_regs (congrArg Die.regs hfe) f k)
  rw [fe_onDie_same]
  refine ⟨(hdrd _ (by exact fun _ => rfl) _).trans (drd_dwr_same ..), (hdrd _ (by exact fun _ => rfl) _).trans ?_,
    (hdrd _ (by exact fun _ => rfl) _).trans ?_, rfl, rfl, (hdrd _ (by exact fun _ => rfl) _).trans ?_,
    (hdrd _ (by exact fun _ => rfl) _).trans ?_⟩
  · exact (drd_dwr_fld _ _ _ _ _ _ (by decide)).trans ((drd_dwr_fld _ _ _ _ _ _ (by decide)).trans (drd_dwr_same ..))
  · exact (drd_dwr_fld _ _ _ _ _ _ (by decide)).trans (drd_dwr_same ..)
  all_goals
    exact (drd_dwr_fld _ _ _ _ _ _ (by decide)).trans ((drd_dwr_fld _ _ _ _ _ _ (by decide)).trans (drd_dwr_fld _ _ _ _ _ _ (by decide)))

/-! ### FORCE -/

/-- The trigger is taken at its entry. -/
theorem trFire_leaves (e : Env) (k idx : Nat) (hidx : idx < 4096) (b : Body) :
    (b.trFire e k idx).drd k .feTrctlTriggered k = 1 ∧ (b.trFire e k idx).drd k .feTrstatTrigIdx k = idx := by
  unfold Body.trFire
  extract_lets b1 b2
  have h1 : b1.drd k .feTrctlTriggered k = 1 ∧ b1.drd k .feTrstatTrigIdx k = idx := by
    refine ⟨drd_dwr_same .., ?_⟩
    rw [drd_dwr_fld _ _ _ _ _ _ (by decide), drd_dwr_fld _ _ _ _ _ _ (by decide), drd_dwr_same]
    exact Nat.mod_eq_of_lt hidx
  have h2 : ∀ f, capDie f = false → b2.drd k f k = b1.drd k f k := fun f hf => by
    have hcap : b2.drd k f k = (b1.onDie k fun d =>
        { d with trLeft := 4096 - b1.drd k .feTrctlPre k - 1, trForce := false, trCross := false, trHit := false }).drd k f k :=
      drd_of_cap (capSide_capTriggerAll ..) hf k k
    rw [hcap]
    exact drd_onDie_keeps b1 (by exact fun _ => rfl) k f k
  clear_value b2 b1
  have hcross : ∀ f, ((List.range 8).foldl (fun b j => if j = k then b else b.onDie j fun d => { d with trCross := true }) b2).drd k f k =
      b2.drd k f k := fun f =>
    part_foldl (fun b : Body => b.drd k f k) _ (fun b j => by
      split
      · rfl
      · exact drd_onDie_keeps b (by exact fun _ => rfl) k f k) _ b2
  split
  · exact ⟨(hcross _).trans ((h2 _ rfl).trans h1.1), (hcross _).trans ((h2 _ rfl).trans h1.2)⟩
  · exact ⟨(h2 _ rfl).trans h1.1, (h2 _ rfl).trans h1.2⟩

/-- An armed buffer that has not triggered takes FORCE: at its latest entry, or once enough of them exist. -/
theorem trForceNow_fires (e : Env) (k : Nat) {b : Body} (harmed : b.drd k .feTrctlArmed k = 1) (htrig : b.drd k .feTrctlTriggered k = 0)
    (hpre : b.drd k .feTrctlPre k ≤ (b.fe k).trCount) (hpos : 0 < (b.fe k).trCount) :
    b.trForceNow e k = b.trFire e k (((b.fe k).trNext + 4095) % 4096) := by
  unfold Body.trForceNow
  dsimp only
  rw [if_neg (by omega), if_pos ⟨hpre, hpos⟩]

theorem trForceNow_holds (e : Env) (k : Nat) {b : Body} (harmed : b.drd k .feTrctlArmed k = 1) (htrig : b.drd k .feTrctlTriggered k = 0)
    (hpre : (b.fe k).trCount < b.drd k .feTrctlPre k) : b.trForceNow e k = b.onDie k fun d => { d with trForce := true } := by
  unfold Body.trForceNow
  dsimp only
  rw [if_neg (by omega), if_neg (by omega)]

/-! ### The obligation -/

theorem settle_drd (e : Env) (b : Body) (k : Nat) (f : Fld) (i : Nat) : (b.settle e).drd k f i = b.drd k f i :=
  drd_eq_of_regs (settle_fe e b k Die.regs (fun _ _ _ => rfl)) f i

theorem traceArm_runs {k : DieIx} {s : State} (hhub : s.body.hubDown = false) (hjoined : (s.body.fe k).joined = true) (div pre : Nat) :
    Runs (.traceArm k div pre) s fun t =>
      t.body.drd k .feTrctlArmed k = 1 ∧ t.body.drd k .feTrctlDone k = 0 ∧ t.body.drd k .feTrctlTriggered k = 0 ∧
      (t.body.fe k).trNext = 0 ∧ (t.body.fe k).trCount = 0 ∧ ∀ c, c = s.body.drain s.env k →
      t.body.drd k .feTrctlPre k = (if c.drd k .feTrctlArmed k = 1 then c.drd k .feTrctlPre k else pre % 4096) ∧
      t.body.drd k .feTrctlDiv k = if c.drd k .feTrctlArmed k = 1 then c.drd k .feTrctlDiv k else div % 256 := by
  refine runs_onBody (exec_traceArm k div pre s) ?_
  rw [onBody_body, atDie_joined _ _ _ _ _ hhub hjoined]
  simp only [settle_drd]
  obtain ⟨harmed, hdone, htrig, hnext, hcount, hpre, hdiv⟩ := trArm_leaves k ((s.body.drain s.env k).trFields k (div % 256) (pre % 4096))
  refine ⟨harmed, hdone, htrig, (settle_fe _ _ k Die.trNext (fun _ _ _ => rfl)).trans hnext,
    (settle_fe _ _ k Die.trCount (fun _ _ _ => rfl)).trans hcount, fun c hc => ?_⟩
  obtain ⟨hpre', hdiv'⟩ := trFields_leaves k (div % 256) (pre % 4096) c
  rw [Nat.mod_mod] at hpre' hdiv'
  rw [hpre, hdiv, ← hc]
  exact ⟨hpre', hdiv'⟩

/-- Settles O24. -/
theorem traceBuffer : Obligations.TraceBuffer := by
  refine fun k s hhub => ⟨fun div pre hjoined => traceArm_runs hhub hjoined div pre, fun c hc hjoined harmed htrig => ⟨fun hpre hpos => ?_,
    fun hpre => ?_⟩, fun div pre hjoined => atDie_runs_waiting (exec_traceArm k div pre s) hhub hjoined,
    fun hjoined => atDie_runs_waiting (exec_traceForce k s) hhub hjoined, fun hfull => ?_, fun hfull => ?_⟩
  · refine runs_onBody (exec_traceForce k s) ?_
    rw [onBody_body, atDie_joined _ _ _ _ _ hhub hjoined, ← hc, trForceNow_fires _ _ harmed htrig hpre hpos, settle_drd, settle_drd]
    exact trFire_leaves s.env k _ (Nat.mod_lt _ (by decide)) c
  · refine becomes_onBody (exec_traceForce k s) ?_
    rw [atDie_joined _ _ _ _ _ hhub hjoined, ← hc, trForceNow_holds _ _ harmed htrig hpre]
  · exact becomes_onBody (exec_traceDone k s) (if_pos hfull)
  · exact becomes_onBody (exec_traceDone k s) (if_neg (by simp [hfull]))

end Sys2Proof.Proofs
end

section
/-!
SUPPORT. Slots of the stagger, the queue limit and GSTART (R221, R223, R225, R226, R228).
-/

namespace Sys2Proof.Proofs

open Sys2Proof Sys2Proof.Machine Sys2Proof.Safety Sys2Proof.Laws

theorem exec_staggerSlot (s : State) : exec .staggerSlot s = execStaggerSlot s := rfl
theorem exec_queueLimitExpire (n : ChIx) (s : State) : exec (.queueLimitExpire n) s = execQueueLimitExpire n s := rfl
theorem exec_gstartGo (s : State) : exec .gstartGo s = .next (s.onBody fun e b => b.gstart e) := rfl

/-! ### GRANT -/

/-- A granted channel ramps, and the slot is taken at the instant (R221, R226). -/
theorem grant_leaves (e : Env) (n : Nat) (b : Body) : ((b.grant e n).ch n).state = .ramp ∧ ((b.grant e n).ch n).reason = 0 ∧
    (b.grant e n).bud.tLast = some e.now := by
  unfold Body.grant
  extract_lets b1 b2 b3 b4 b5
  have h3 : (b3.ch n).state = .ramp ∧ (b3.ch n).reason = 0 := by
    unfold b3
    rw [tell_ch]
    exact enter_state e n .ramp 0 b2
  have h4 : b4.ch n = { b3.ch n with admitT := e.now, partialRamp := false } := ch_onCh_same ..
  show (b4.ch n).state = .ramp ∧ (b4.ch n).reason = 0 ∧ _
  rw [h4]
  exact ⟨h3.1, h3.2, rfl⟩

section
variable {b : Body} {n : Nat} (horch : b.orch = true) (hlead : b.leadOf n = n) (hst : (b.ch n).state = .queued)
include horch hlead hst

theorem deliver_grant (e : Env) (t : Nat) : b.deliver e n .grant t = b.grant e n := by
  have hheld : (b.ch (b.leadOf n)).state ≠ .held := by rw [hlead, hst]; decide
  rw [deliver_live horch hheld, hlead]
  unfold Body.applyEv
  exact if_pos hst

theorem deliver_refuse (e : Env) (r t : Nat) : b.deliver e n (.refuse r) t = b.refuse e n r := by
  have hheld : (b.ch (b.leadOf n)).state ≠ .held := by rw [hlead, hst]; decide
  rw [deliver_live horch hheld, hlead]
  unfold Body.applyEv
  exact if_pos hst

end

/-! ### The open slot -/

/-- A slot is open at an instant, with the plan moved on. -/
def slotOpened (t : Nat) (p : Option Plan) (b : Body) : Body := { b with bud := { b.bud with openSlot := some t, plan := p } }

theorem slotOpened_claims (t : Nat) (p : Option Plan) (b : Body) : SameClaims b (slotOpened t p b) :=
  ⟨fun _ _ _ => rfl, fun _ _ _ _ => rfl, fun _ => rfl, rfl, fun _ => rfl⟩

theorem fits_of_claims {b c : Body} (h : SameClaims b c) (n : Nat) : c.fits n = b.fits n := by
  have hsum : c.sumMw = b.sumMw := by
    unfold Body.sumMw
    rw [h.leadersIn]
    refine List.foldl_ext _ _ 0 fun a m hm => ?_
    have hdriven : (b.ch m).eff.driven = true := (List.mem_filter.1 (List.mem_filter.1 hm).1).2
    rw [h.resMw hdriven]
  unfold Body.fits Body.availMw
  rw [hsum, h.startMw, h.rd _ _ rfl]

/-- The head of the queue that passes the refusal test and fits takes the open slot. -/
theorem offer_head (e : Env) {n : Nat} (rest : List Nat) {b : Body} (hpass : b.refusal n = none) (hfits : b.fits n = true) :
    Body.offer e (n :: rest) b = b.grantSlot e n := by
  rw [Body.offer, hpass]
  exact if_pos hfits

/-- What a step of the machine that runs as one leaves beside its records. -/
theorem inStep_leaves (f : Body → Body) (b : Body) : (b.inStep f).chan = (f b).chan ∧ (b.inStep f).bud = (f b).bud := ⟨rfl, rfl⟩

theorem slot_taken (e : Env) {n : Nat} {rest : List Nat} (p : Option Plan) {b : Body} (horch : b.orch = true) (hpaused : b.paused = false)
    (hmode : b.zq5016 = false) (hqueue : b.queue = n :: rest) (hlead : b.leadOf n = n) (hst : (b.ch n).state = .queued)
    (hpass : b.refusal n = none) (hfits : b.fits n = true) :
    (((slotOpened e.now p b).offerSlot e).ch n).state = .ramp ∧ (((slotOpened e.now p b).offerSlot e).ch n).reason = 0 ∧
      ((slotOpened e.now p b).offerSlot e).bud.openSlot = none ∧ ((slotOpened e.now p b).offerSlot e).bud.tLast = some e.now := by
  have hclaims := slotOpened_claims e.now p b
  have hqueue' : (slotOpened e.now p b).queue = n :: rest := hqueue
  have hpass' := (hclaims.refusal n).trans hpass
  have hfits' := (fits_of_claims hclaims n).trans hfits
  have horch' : (slotOpened e.now p b).orch = true := horch
  have hlead' := (hclaims.leadOf n).trans hlead
  have hst' : ((slotOpened e.now p b).ch n).state = .queued := hst
  have hgo : ((slotOpened e.now p b).bud.openSlot.isNone || (slotOpened e.now p b).paused || (slotOpened e.now p b).zq5016) = false := by
    show (false || b.paused || b.zq5016) = false
    rw [hpaused, hmode]
    rfl
  generalize slotOpened e.now p b = c at *
  have hoffer : c.offerSlot e = c.inStep fun c => Body.offer e c.queue c := by
    unfold Body.offerSlot
    rw [hgo]
    exact if_neg Bool.false_ne_true
  obtain ⟨hchan, hbud⟩ := inStep_leaves (fun c => Body.offer e c.queue c) c
  rw [hoffer, ch_of_chan hchan, hbud]
  rw [hqueue', offer_head e rest hpass' hfits', Body.grantSlot, deliver_grant horch' hlead' hst']
  obtain ⟨hstate, hreason, hlast⟩ := grant_leaves e n c
  exact ⟨hstate, hreason, rfl, hlast⟩

section
variable {s : State} (horch : s.body.orch = true)
include horch

theorem exec_slot {T : Nat} (hfroze : s.body.froze = false) (hopen : s.body.bud.openSlot = none) (hT : s.body.nextSlot = some T) :
    exec .staggerSlot s = .next ((s.goTo T).onBody fun e b =>
      (slotOpened e.now (b.bud.plan.map fun p => { p with j := p.j + 1 }) b).offerSlot e) := by
  rw [exec_staggerSlot, execStaggerSlot, hopen, hT, horch, hfroze]
  rfl

theorem slot_granted {n T : Nat} {rest : List Nat} (hfroze : s.body.froze = false) (hopen : s.body.bud.openSlot = none)
    (hT : s.body.nextSlot = some T) (hpaused : s.body.paused = false) (hmode : s.body.zq5016 = false) (hqueue : s.body.queue = n :: rest)
    (hlead : s.body.leadOf n = n) (hst : (s.body.ch n).state = .queued) (hpass : s.body.refusal n = none)
    (hfits : s.body.fits n = true) :
    RunsAt .staggerSlot s T fun t => (t.body.ch n).state = .ramp ∧ (t.body.ch n).reason = 0 ∧ t.body.bud.openSlot = none ∧
      t.body.bud.tLast = some (s.time.elapsed + (T - s.time.elapsed)) := by
  refine runsAt_onBody (exec_slot horch hfroze hopen hT) ?_
  rw [onBody_body, settle_ch_state, settle_ch_reason, settle_bud, goTo_body, ← goTo_env_now]
  exact slot_taken _ _ horch hpaused hmode hqueue hlead hst hpass hfits

theorem slot_waits {T : Nat} (hfroze : s.body.froze = false) (hopen : s.body.bud.openSlot = none) (hT : s.body.nextSlot = some T)
    (hpaused : s.body.paused = true) :
    RunsAt .staggerSlot s T fun t => t.body.bud.openSlot = some (s.time.elapsed + (T - s.time.elapsed)) := by
  refine runsAt_onBody (exec_slot horch hfroze hopen hT) ?_
  rw [onBody_body, settle_bud, goTo_body, ← goTo_env_now]
  generalize (s.goTo T).env = e
  have hpaused' : (slotOpened e.now (s.body.bud.plan.map fun p => { p with j := p.j + 1 }) s.body).paused = true := hpaused
  unfold Body.offerSlot
  rw [hpaused', Bool.or_true, Bool.true_or, if_pos rfl]
  rfl

theorem queueLimit_refuses {n : ChIx} (hled : Led s.body n) (hst : (s.body.ch (s.body.leadOf n)).state = .queued)
    (hsolo : s.body.flag .modBootSoloHeld = false)
    (hlim : s.body.bdg .budgetQlimitQueueLimit (s.body.pclass (s.body.leadOf n)) ≠ 0) :
    RunsAt (.queueLimitExpire n) s ((s.body.ch (s.body.leadOf n)).queuedT +
        s.body.bdg .budgetQlimitQueueLimit (s.body.pclass (s.body.leadOf n)) * 1000000000) fun t =>
      (t.body.ch (s.body.leadOf n)).state = .refused ∧ (t.body.ch (s.body.leadOf n)).reason = 0x23 := by
  have hexec := exec_queueLimitExpire n s
  rw [execQueueLimitExpire] at hexec
  rw [if_neg (by simp [hst, hlim, horch, hsolo])] at hexec
  generalize (s.body.ch (s.body.leadOf n)).queuedT +
    s.body.bdg .budgetQlimitQueueLimit (s.body.pclass (s.body.leadOf n)) * 1000000000 = T at hexec ⊢
  refine runsAt_onBody hexec ?_
  rw [onBody_body, settle_ch_state, settle_ch_reason, goTo_body, deliver_refuse horch hled hst]
  exact refuse_state ..

theorem gstart_grants {n : Nat} (hmode : s.body.zq5016 = true) (hpaused : s.body.paused = false) (hqueue : s.body.queue = [n])
    (hlead : s.body.leadOf n = n) (hst : (s.body.ch n).state = .queued)
    (hsel : bitAt (s.body.rd .budgetGselSel (n / 32)) (n % 32) = true) (hfits : s.body.fits n = true) :
    Runs .gstartGo s fun t => (t.body.ch n).state = .ramp := by
  have hgo : s.body.gstart s.env = s.body.grant s.env n := by
    unfold Body.gstart
    rw [if_neg (by simp [hmode, hpaused, horch]), hqueue, List.filter_cons_of_pos (by exact hsel), List.filter_nil]
    unfold Body.forEach
    rw [List.foldl_cons, List.foldl_nil]
    beta_reduce
    rw [if_pos hfits, deliver_grant horch hlead hst]
  refine runs_onBody (exec_gstartGo s) ?_
  rw [onBody_body, settle_ch_state, hgo]
  exact (grant_leaves ..).1

end

/-- Settles O26. -/
theorem slots : Obligations.Slots := fun s horch =>
  ⟨fun _ _ _ hfroze hopen hT hpaused hmode hqueue hlead hst hpass hfits =>
      slot_granted horch hfroze hopen hT hpaused hmode hqueue hlead hst hpass hfits,
    fun _ hfroze hopen hT hpaused => slot_waits horch hfroze hopen hT hpaused,
    fun _ hled hst hsolo hlim => queueLimit_refuses horch hled hst hsolo hlim,
    fun _ hmode hpaused hqueue hlead hst hsel hfits => gstart_grants horch hmode hpaused hqueue hlead hst hsel hfits,
    fun hmode => becomes_onBody (exec_gstartGo s) (if_pos (by simp [hmode]))⟩

end Sys2Proof.Proofs
end

section
/-!
SUPPORT. Trips (R189, R196 to R199): what a die's latch and HUB's record of a trip leave.
-/

namespace Sys2Proof.Proofs

open Sys2Proof Sys2Proof.Machine Sys2Proof.Safety Sys2Proof.Laws

/-- A register that no event of a channel writes. -/
theorem rd_of_still {b c : Body} (h : still c = still b) {f : Fld} (hf : ofEvent f = false) (i : Nat) : c.rd f i = b.rd f i := by
  have hone : (if ofEvent f then 0 else c.rd f i) = if ofEvent f then 0 else b.rd f i := congrArg (fun x : Still => x.rd f i) h
  simpa only [hf, Bool.false_eq_true, if_false] using hone

theorem leadOf_of_still {b c : Body} (h : still c = still b) (n : Nat) : c.leadOf n = b.leadOf n := by
  unfold Body.leadOf
  rw [rd_of_still h rfl, rd_of_still h rfl]

theorem membersOf_of_still {b c : Body} (h : still c = still b) (n : Nat) : c.membersOf n = b.membersOf n := by
  unfold Body.membersOf
  rw [rd_of_still h rfl]

theorem policy_of_still {b c : Body} (h : still c = still b) (n r : Nat) : c.policy n r = b.policy n r := by
  unfold Body.policy
  simp only [rd_of_still h (show ofEvent .chTrippolHardtrip = false from rfl), rd_of_still h (show ofEvent .chTrippolIlimTimeout = false from rfl),
    rd_of_still h (show ofEvent .chTrippolSoaEnergy = false from rfl), rd_of_still h (show ofEvent .chTrippolTjModel = false from rfl),
    rd_of_still h (show ofEvent .chTrippolTjMeasured = false from rfl), rd_of_still h (show ofEvent .chTrippolFollow = false from rfl),
    rd_of_still h (show ofEvent .chTrippolOpenWire = false from rfl), rd_of_still h (show ofEvent .chTrippolBusOver = false from rfl),
    rd_of_still h (show ofEvent .chTrippolBusUnder = false from rfl)]

/-! ### The trip latch of a die -/

theorem en_of_cap {b c : Body} (h : capSide c = capSide b) {α : Type} (p : Eng → α) (hp : ∀ g, p (engBeside g) = p g) (m : Nat) :
    p (c.en m) = p (b.en m) := by
  rw [← hp, ← hp (b.en m)]
  exact congrArg (fun x => p (x.2.1 m)) h

theorem rd_of_cap {b c : Body} (h : capSide c = capSide b) {f : Fld} (hf : capFld f = false) (i : Nat) : c.rd f i = b.rd f i := by
  have hone : (if capFld f then 0 else c.rd f i) = if capFld f then 0 else b.rd f i := congrArg (fun x => x.2.2.2.1 f i) h
  simpa only [hf, Bool.false_eq_true, if_false] using hone

theorem latch_tripLatch (now : Nat) (g : Eng) : (g.latch now).tripLatch = true := by
  unfold Eng.latch
  split
  · assumption
  · split <;> rfl

theorem latchEng_tripLatch (now : Nat) (b : Body) (g : Eng) : (b.latchEng now g).tripLatch = true := by
  unfold Body.latchEng
  dsimp only
  split <;> exact latch_tripLatch now g

/-- The trip latch of one engine, set as the die sets it. -/
def latchOne (e : Env) (b : Body) (m : Nat) : Body :=
  if (b.en m).tripLatch then b
  else (b.onEng m fun g => { b.latchEng e.now g with tripPulse := true }).capTriggerAll e (dieOf m) 1 (m % 16)

theorem latchOne_tripLatch (e : Env) (b : Body) (m j : Nat) :
    ((latchOne e b m).en j).tripLatch = (decide (j % 128 = m % 128) || (b.en j).tripLatch) := by
  unfold latchOne
  split
  next hm =>
    by_cases h : j % 128 = m % 128
    · rw [en_congr b h, hm, Bool.or_true]
    · simp [h]
  · rw [en_of_cap (capSide_capTriggerAll ..) Eng.tripLatch (fun _ => rfl), en_onEng]
    split
    next h => simp [h, latchEng_tripLatch]
    next h => simp [h]

/-- A trip latches every member, and no other engine. -/
theorem latchDie_tripLatch (e : Env) (n : Nat) (b : Body) (j : Nat) :
    ((b.latchDie e n).en j).tripLatch = ((b.membersOf n).any (fun m => decide (j % 128 = m % 128)) || (b.en j).tripLatch) := by
  have hfold : ∀ (l : List Nat) (b : Body),
      ((l.foldl (latchOne e) b).en j).tripLatch = (l.any (fun m => decide (j % 128 = m % 128)) || (b.en j).tripLatch) := by
    intro l
    induction l with
    | nil => exact fun _ => rfl
    | cons m l ih =>
      intro b
      rw [List.foldl_cons, ih, latchOne_tripLatch, List.any_cons, ← Bool.or_assoc, Bool.or_comm (l.any _)]
  exact hfold (b.membersOf n) b

theorem mem_membersOf (b : Body) (l : Nat) : l ∈ b.membersOf l := by
  unfold Body.membersOf
  exact List.mem_map.2 ⟨0, List.mem_range.2 (by omega), rfl⟩

theorem latchDie_member (e : Env) (n : Nat) (b : Body) {m : Nat} (h : m ∈ b.membersOf n) : ((b.latchDie e n).en m).tripLatch = true := by
  rw [latchDie_tripLatch, List.any_eq_true.2 ⟨m, h, decide_eq_true rfl⟩, Bool.true_or]

/-- A latch that is set stands. -/
theorem latchDie_stands (e : Env) (n : Nat) (b : Body) {m : Nat} (h : (b.en m).tripLatch = true) : ((b.latchDie e n).en m).tripLatch = true := by
  rw [latchDie_tripLatch, h, Bool.or_true]

theorem latchOne_rd (e : Env) (b : Body) (m : Nat) {f : Fld} (hf : capFld f = false) (i : Nat) : (latchOne e b m).rd f i = b.rd f i := by
  unfold latchOne
  split
  · rfl
  · exact rd_of_cap (capSide_capTriggerAll ..) hf i

theorem latchDie_rd (e : Env) (n : Nat) (b : Body) {f : Fld} (hf : capFld f = false) (i : Nat) : (b.latchDie e n).rd f i = b.rd f i :=
  part_foldl (fun c : Body => c.rd f i) (latchOne e) (fun c m => latchOne_rd e c m hf i) (b.membersOf n) b

theorem latchDie_ch (e : Env) (n : Nat) (b : Body) (m : Nat) : (b.latchDie e n).ch m = b.ch m :=
  ch_of_chan (chan_of_hubSide (hubSide_latchDie e n b)) m

theorem orch_of_hubSide {b c : Body} (h : hubSide c = hubSide b) : c.orch = b.orch := by
  show (hubSide c).orch = (hubSide b).orch
  rw [h]

/-- What a die's link carries and what it leads, through a latch. -/
theorem ReportsNow.latchDie {b : Body} {l : Nat} (h : ReportsNow b l) (e : Env) (n : Nat) : ReportsNow (b.latchDie e n) l := by
  have hdie := congrArg (fun x : Still => x.die (dieOf l)) (still_latchDie e n b)
  refine ⟨(orch_of_hubSide (hubSide_latchDie e n b)).trans h.orch, ?_, ?_, ?_⟩
  · exact (congrArg Die.joined hdie).trans h.joined
  · exact (congrArg Die.up hdie).trans h.up
  · rw [leadOf_of_still (still_latchDie e n b), h.lead]

/-! ### A latch that is set, through what HUB does -/

theorem onState_tripLatch (now : Nat) (old new : ChState) (g : Eng) : (g.onState now old new).tripLatch = g.tripLatch := by
  unfold Eng.onState
  by_cases hheld : new = .held
  · rw [if_pos hheld]
  · rw [if_neg hheld]
    split
    · split <;> rfl
    · split
      · rfl
      · split
        · split <;> rfl
        · extract_lets g1 g2 g3
          have h1 : g1.tripLatch = g.tripLatch := by unfold g1; split <;> rfl
          have h2 : g2.tripLatch = g1.tripLatch := by unfold g2; split <;> rfl
          have h3 : g3.tripLatch = g2.tripLatch := by unfold g3; split <;> rfl
          exact h3.trans (h2.trans h1)

theorem onEng_tripLatch (n : Nat) (f : Eng → Eng) (hf : ∀ g, (f g).tripLatch = g.tripLatch) (b : Body) (m : Nat) :
    ((b.onEng n f).en m).tripLatch = (b.en m).tripLatch := by
  rw [en_onEng]
  split
  next h => rw [hf, en_congr b h]
  · rfl

theorem stateDie_tripLatch (e : Env) (n : Nat) (old new : ChState) (b : Body) (m : Nat) :
    ((b.stateDie e n old new).en m).tripLatch = (b.en m).tripLatch := by
  unfold Body.stateDie
  dsimp only
  have hcut : ∀ (c : Body) k, (c.cutWide k).en m = c.en m := fun c k => by
    unfold Body.cutWide
    split <;> rfl
  rw [apply_ite (fun c : Body => (c.en m).tripLatch), hcut, ite_self]
  exact part_foldl (fun c : Body => (c.en m).tripLatch) _ (fun c j => onEng_tripLatch j _ (onState_tripLatch e.now old new) c m) _ _

theorem tell_state_tripLatch (e : Env) (k n : Nat) (old new : ChState) (b : Body) (m : Nat) :
    ((b.tell e k (.state n old new)).en m).tripLatch = (b.en m).tripLatch := by
  unfold Body.tell
  split
  · rfl
  · split
    · exact stateDie_tripLatch e n old new _ m
    · rfl

theorem enter_tripLatch (e : Env) (n : Nat) (st : ChState) (r : Nat) (b : Body) (m : Nat) :
    ((b.enter e n st r).en m).tripLatch = (b.en m).tripLatch := by
  have hdrop : ∀ c : Body, ((c.dropMeas n).en m).tripLatch = (c.en m).tripLatch := fun c => by
    unfold Body.dropMeas
    split
    · exact onEng_tripLatch n (fun g => { g with measuring := false }) (fun _ => rfl) c m
    · rfl
  have hcap : ∀ c : Body, (c.endCap n).en m = c.en m := fun c => by
    unfold Body.endCap
    split <;> rfl
  have hon : ∀ (c : Body) f, (c.onCh n f).en m = c.en m := fun _ _ => rfl
  unfold Body.enter
  dsimp only
  simp only [apply_ite (fun c : Body => (c.en m).tripLatch), hon, tell_state_tripLatch, hcap, hdrop, raiseCh_en, ite_self]

theorem tell_trip_stands (e : Env) (k n : Nat) (b : Body) {m : Nat} (h : (b.en m).tripLatch = true) :
    ((b.tell e k (.trip n)).en m).tripLatch = true := by
  unfold Body.tell
  split
  · exact h
  · split
    · exact latchDie_stands e n _ h
    · exact h

/-- The die of a leader that hears of the trip at once latches it. -/
theorem tell_trip_latches (e : Env) (n : Nat) {b : Body} (hhub : b.hubDown = false) (hjoined : (b.fe (dieOf n)).joined = true)
    (hdown : (b.fe (dieOf n)).down = []) : ((b.tell e (dieOf n) (.trip n)).en n).tripLatch = true := by
  unfold Body.tell
  rw [if_neg (by simp [hjoined]), if_pos (by simp [hhub, hdown])]
  exact latchDie_member e n _ (mem_membersOf ..)

theorem tell_trip_rd (e : Env) (k n : Nat) (b : Body) {f : Fld} (hf : capFld f = false) (i : Nat) :
    (b.tell e k (.trip n)).rd f i = b.rd f i := by
  unfold Body.tell
  split
  · rfl
  · split
    · exact latchDie_rd e n _ hf i
    · rfl

/-! ### HUB's record of a trip -/

theorem writeTrip_rd (e : Env) (n r t : Nat) (hr : r < 2 ^ fieldWidth .chLastTripTripReason) (b : Body) :
    (b.writeTrip e n r t).rd .chLastTripTripReason n = r := by
  unfold Body.writeTrip
  rw [rd_wr_fld _ _ _ _ _ _ (by decide), rd_wr_fld _ _ _ _ _ _ (by decide), rd_wr_of_lt _ _ hr]

theorem bump_rd (b : Body) (g : Fld) (j : Nat) {f : Fld} (i : Nat) (h : f ≠ g) : (b.bump g j).rd f i = b.rd f i := rd_wr_fld _ _ _ _ _ _ h

theorem bump_en (b : Body) (g : Fld) (j m : Nat) : (b.bump g j).en m = b.en m := rfl

theorem tripped_onCh {a b : Body} {l r : Nat} {f : Chan → Chan} (hf : ∀ c, (f c).state = c.state) (h : Tripped a l r b) :
    Tripped a l r (b.onCh l f) := by
  obtain ⟨hrd, hlatch, hst⟩ := h
  exact ⟨hrd, hlatch, by rw [ch_onCh_same, hf, hst]⟩

theorem tripped_event {a b : Body} {l r : Nat} (h : Tripped a l r b) (t c n x y z : Nat) : Tripped a l r (b.event t c n x y z) := by
  unfold Tripped at h ⊢
  rwa [event_rd, event_en, event_ch]

/-- A trip that takes the channel (R196 to R199), its latch set before it or by it. -/
theorem applyTrip_trips {e : Env} {l r t : Nat} {b : Body} (hin : tripsIn r (b.ch l).state = true) (hr : r < 2 ^ fieldWidth .chLastTripTripReason)
    (hwire : r ≠ 0x19)
    (hlatch : (((b.writeTrip e l r t).tell e (dieOf l) (.trip l)).en l).tripLatch = true) : Tripped b l r (b.applyTrip e l r t) := by
  unfold Body.applyTrip
  extract_lets st pol dmax latching shown new b1 b2 b3 tr bus paused b4 b5
  rw [if_neg (by simp [st, hin])]
  have hpol : pol = b.policy l r := if_neg (by simp [hwire])
  have h1 : b1.rd .chLastTripTripReason l = r := (tell_trip_rd _ _ _ _ rfl _).trans (writeTrip_rd e l r t hr b)
  have h2 : b2.rd .chLastTripTripReason l = r ∧ (b2.en l).tripLatch = true := by
    refine ⟨?_, ?_⟩
    · rw [raiseCh_rd _ _ _ _ _ (by decide), bump_rd _ _ _ _ (by decide), h1]
    · rw [raiseCh_en, bump_en, hlatch]
  have h3 : b3.rd .chLastTripTripReason l = r ∧ (b3.en l).tripLatch = true := by
    unfold b3
    split
    · refine ⟨?_, ?_⟩
      · rw [raiseCh_rd _ _ _ _ _ (by decide), bump_rd _ _ _ _ (by decide), h2.1]
      · rw [raiseCh_en, bump_en, h2.2]
    · exact h2
  have hnew : new = if b.policy l r = 1 ∨ b.rd .chRetryDarnMax l ≤ (b.ch l).darn then .latched else .cooling := by
    unfold new latching dmax
    rw [hpol]
    simp only [Bool.or_eq_true, decide_eq_true_eq]
  have h4 : Tripped b l r b4 := by
    refine ⟨(enter_rd _ _ _ _ _ _ _ rfl).trans h3.1, (enter_tripLatch ..).trans h3.2, (enter_state ..).1.trans hnew⟩
  clear_value b4 new
  exact tripped_event (tripped_onCh (by exact fun _ => rfl) h4) ..

theorem tripped_of_still {a b c : Body} {l r : Nat} (h : still b = still a) (hch : b.ch l = a.ch l) (ht : Tripped b l r c) : Tripped a l r c := by
  unfold Tripped at ht ⊢
  rwa [policy_of_still h, rd_of_still h rfl, hch] at ht

theorem tripped_settle {a b : Body} {l r : Nat} {e : Env} (h : Tripped a l r b) : Tripped a l r (b.settle e) := by
  obtain ⟨hrd, hlatch, hst⟩ := h
  exact ⟨(settle_rd _ _ _ _ rfl).trans hrd, by rw [settle_en]; exact hlatch, by rw [settle_ch_state]; exact hst⟩

theorem state_of_driven {st : ChState} (h : st.driven = true) : st ≠ .held := by
  rintro rfl
  cases h

/-- A trip that a die decides, latches and reports (R189): its first reason is the channel's. -/
theorem dieTrip_trips {e : Env} {n l r : Nat} {b : Body} (hnow : ReportsNow b l) (hlead : b.leadOf n = l) (hclear : (b.en n).tripLatch = false)
    (hin : tripsIn (b.firstTrip l r) (b.ch l).state = true) (hheld : (b.ch l).state ≠ .held)
    (hr : b.firstTrip l r < 2 ^ fieldWidth .chLastTripTripReason) (hwire : b.firstTrip l r ≠ 0x19) :
    Tripped b l (b.firstTrip l r) (b.dieTrip e n r) := by
  unfold Body.dieTrip
  dsimp only
  rw [if_neg (by simp [hclear]), hlead]
  have hch := latchDie_ch e l b l
  have hstill : still ((b.latchDie e l).framed (dieOf l) true [(UpMsg.event l (.trip (b.firstTrip l r)) e.now).frame]) = still b :=
    (still_framed ..).trans (still_latchDie ..)
  rw [report_live (hnow.latchDie e l) (by rw [hch]; exact hheld)]
  refine tripped_of_still (b := (b.latchDie e l).framed (dieOf l) true [(UpMsg.event l (.trip (b.firstTrip l r)) e.now).frame]) hstill hch ?_
  refine applyTrip_trips ?_ hr hwire (tell_trip_stands _ _ _ _ ?_)
  · show tripsIn _ ((b.latchDie e l).ch l).state = true
    rw [hch, hin]
  · exact latchDie_member e l b (mem_membersOf ..)

end Sys2Proof.Proofs
end

section
/-!
SUPPORT. Shorted FETs (R164, R165), the model mismatch (R150) and the bus window (R192, R195).
-/

namespace Sys2Proof.Proofs

open Sys2Proof Sys2Proof.Machine Sys2Proof.Safety Sys2Proof.Laws

theorem exec_fetShort (n : ChIx) (s : State) : exec (.fetShort n) s = execFetShort n s := rfl
theorem exec_modelMismatch (n : ChIx) (s : State) : exec (.modelMismatch n) s = execModelMismatch n s := rfl
theorem exec_busWindowQualify (n : ChIx) (s : State) : exec (.busWindowQualify n) s = execBusWindowQualify n s := rfl

/-! ### A shorted FET -/

/-- The record of a shorted FET, and the state that it leads to. -/
def shortWritten (e : Env) (n t : Nat) (b : Body) : Body := ((b.writeTrip e n 0x17 t).raiseCh n .fetShort).enter e n .fetFault 0x17

/-- One member's pulse, and the captures that it triggers. -/
def shortPulse (e : Env) (b : Body) (m : Nat) : Body :=
  (b.onEng m fun g => { g with tripPulse := true }).capTriggerAll e (dieOf m) 1 (m % 16)

theorem shortPulse_leaves (e : Env) (b : Body) (m n : Nat) :
    ((shortPulse e b m).chan, (shortPulse e b m).rd .chLastTripTripReason n) = (b.chan, b.rd .chLastTripTripReason n) := by
  have hcap := capSide_capTriggerAll e (dieOf m) 1 (m % 16) (b.onEng m fun g => { g with tripPulse := true })
  exact Prod.ext (congrArg (fun x => x.1.chan) hcap) (rd_of_cap hcap rfl n)

theorem shortPulses_leave (e : Env) (l : List Nat) (b : Body) (n : Nat) :
    ((l.foldl (shortPulse e) b).chan, (l.foldl (shortPulse e) b).rd .chLastTripTripReason n) = (b.chan, b.rd .chLastTripTripReason n) :=
  part_foldl (fun c : Body => (c.chan, c.rd .chLastTripTripReason n)) (shortPulse e) (fun b m => shortPulse_leaves e b m n) l b

/-- What a shorted FET leaves: the state, its reason and LAST_TRIP. -/
def Shorted (l : Nat) (c : Body) : Prop :=
  (c.ch l).state = .fetFault ∧ (c.ch l).reason = 0x17 ∧ c.rd .chLastTripTripReason l = 0x17

theorem shorted_onCh {l : Nat} {f : Chan → Chan} (hf : ∀ c, (f c).state = c.state ∧ (f c).reason = c.reason) {c : Body} (h : Shorted l c) :
    Shorted l (c.onCh l f) := by
  unfold Shorted at h ⊢
  rw [ch_onCh_same, (hf _).1, (hf _).2]
  exact h

theorem shortWritten_shorted (e : Env) (n t : Nat) (b : Body) : Shorted n (shortWritten e n t b) := by
  unfold shortWritten
  refine ⟨(enter_state ..).1, (enter_state ..).2, ?_⟩
  rw [enter_rd _ _ _ _ _ _ _ rfl, raiseCh_rd _ _ _ _ _ (by decide), writeTrip_rd _ _ _ _ (by decide)]

theorem applyShort_eq (e : Env) (n t : Nat) {b : Body} (h : (b.ch n).state ∉ [ChState.unconfigured, .bench, .fetFault]) :
    b.applyShort e n t =
      let c := (shortWritten e n t b).onCh n fun c => { c with retryEnd := none, retryLeft := none, retryReady := false }
      ((c.membersOf n).foldl (shortPulse e) c).event (e.countAt t) 0x0002 n (b.ch n).state.code 0 0 := by
  unfold Body.applyShort
  split
  next hst => exact absurd hst (fun hst => h (by rw [hst]; decide))
  next hst => exact absurd hst (fun hst => h (by rw [hst]; decide))
  next hst => exact absurd hst (fun hst => h (by rw [hst]; decide))
  · rfl

theorem applyShort_shorted (e : Env) (n t : Nat) {b : Body} (h : (b.ch n).state ∉ [ChState.unconfigured, .bench, .fetFault]) :
    Shorted n (b.applyShort e n t) := by
  have hs := shorted_onCh (f := fun c => { c with retryEnd := none, retryLeft := none, retryReady := false }) (fun _ => ⟨rfl, rfl⟩)
    (shortWritten_shorted e n t b)
  rw [applyShort_eq e n t h]
  dsimp only
  generalize ((shortWritten e n t b).onCh n fun c => { c with retryEnd := none, retryLeft := none, retryReady := false }) = c at hs ⊢
  have hfold := shortPulses_leave e (c.membersOf n) c n
  rw [Prod.ext_iff] at hfold
  obtain ⟨hchan, hrd⟩ := hfold
  dsimp only at hchan hrd
  unfold Shorted at hs ⊢
  rw [event_ch, event_rd, ch_of_chan hchan, hrd]
  exact hs

/-- A held channel whose die reports a short leaves its hold (R165). -/
theorem deliver_fetShort {e : Env} {l t : Nat} {b : Body} (horch : b.orch = true) (hlead : b.leadOf l = l)
    (hst : (b.ch l).state ∉ [ChState.unconfigured, .bench, .fetFault]) (hheld : (b.ch l).state = .held → (b.ch l).heldEvs = []) :
    Shorted l (b.deliver e l .fetShort t) := by
  unfold Body.deliver
  dsimp only
  rw [if_neg (by simp [horch]), hlead]
  have happly : b.applyEv e l .fetShort t = b.applyShort e l t := rfl
  split
  next h =>
    unfold Body.breakHold
    rw [hheld h, happly]
    exact shorted_onCh (f := fun c => { c with heldEvs := [], holds := [] }) (fun _ => ⟨rfl, rfl⟩) (applyShort_shorted e l t hst)
  · exact applyShort_shorted e l t hst

theorem shorted_settle {l : Nat} {c : Body} (e : Env) (h : Shorted l c) : Shorted l (c.settle e) := by
  unfold Shorted at h ⊢
  rw [settle_ch_state, settle_ch_reason, settle_rd _ _ _ _ rfl]
  exact h

theorem fetShort_runs {n : ChIx} {l T : Nat} {s : State} (hl : s.body.leadOf n = l) (hrep : Reports s.body n)
    (hsince : (s.body.en n).shortSince = some T) (hst : (s.body.ch l).state ∉ [ChState.unconfigured, .bench, .fetFault])
    (hheld : (s.body.ch l).state = .held → (s.body.ch l).heldEvs = []) :
    RunsAt (.fetShort n) s (T + msNs (s.body.cd .chFshortFsTime n)) fun t => Shorted l t.body := by
  have hnow := ReportsNow.of_reports hl hrep
  have hexec : exec (.fetShort n) s = .next ((s.goTo (T + msNs (s.body.cd .chFshortFsTime n))).onBody fun e b =>
      let l := b.leadOf n
      if (b.ch l).state = .fetFault then b else b.report e l .fetShort e.now) := by
    rw [exec_fetShort, execFetShort]
    rw [hsince]
  refine runsAt_onBody hexec ?_
  rw [onBody_body, goTo_body]
  rw [hl, if_neg (by rintro h; rw [h] at hst; exact hst (by decide)), Body.report]
  rw [if_pos (by simp [hnow.joined, hnow.up, hubDown_of_orch hnow.orch])]
  exact shorted_settle _ (deliver_fetShort hnow.orch hnow.lead hst hheld)

/-! ### The model mismatch -/

/-- A record of a STANDBY module goes to its partner (R444). -/
theorem event_passes {t c n x y z : Nat} {b : Body} (hrole : b.role = .standby) (hhub : b.hubDown = false) :
    (b.event t c n x y z).twin.pass.length = b.twin.pass.length + 1 := by
  unfold Body.event Body.shared Body.sendBluli
  rw [if_pos (by simp [hrole, hhub])]
  split <;> simp [Body.onTwin]

/-- The mismatch as the die declares it. -/
def mismatched (n : ChIx) (e : Env) (b : Body) : Body :=
  ((b.onEng n fun g => { g with mismatch := true, mmSince := none }).raiseCh n .mismatch).event e.count 0x0004 n 1 (b.en n).tsMeas (b.en n).tsEst

theorem exec_modelMismatch_declares {n : ChIx} {T : Nat} {s : State} (hsince : (s.body.en n).mmSince = some T)
    (hmis : (s.body.en n).mismatch = false) (hruns : s.body.modelRuns n = true) : exec (.modelMismatch n) s =
      .next ((s.goTo (T + s.body.cd .chMismatchMmTime n * 100000000)).onBody (mismatched n)) := by
  rw [exec_modelMismatch, execModelMismatch]
  rw [hsince]
  dsimp only
  rw [if_neg (by simp [hmis, hruns])]
  rfl

theorem modelMismatch_settled {n : ChIx} (e : Env) {b : Body} (hrole : b.role ≠ .standby) :
    Settled (b.onEng n fun g => { g with mismatch := true, mmSince := none }) (mismatched n e b) := by
  have hraise := settled_raiseCh n .mismatch (b.onEng n fun g => { g with mismatch := true, mmSince := none })
  exact hraise.trans (settled_event _ _ _ _ _ _ _ (by rw [hraise.role]; exact hrole))

theorem modelMismatch_standby {n : ChIx} (e : Env) {b : Body} (hrole : b.role = .standby) (hhub : b.hubDown = false) :
    ((mismatched n e b).en n).mismatch = true ∧ ((mismatched n e b).en n).mmSince = none ∧
    (mismatched n e b).twin.pass.length = b.twin.pass.length + 1 := by
  unfold mismatched
  rw [event_en, raiseCh_en, en_onEng, if_pos rfl]
  refine ⟨rfl, rfl, ?_⟩
  rw [event_passes]
  · rw [raiseCh_twin]
    rfl
  · rw [(settled_raiseCh ..).role]
    exact hrole
  · rw [raiseCh_hubDown]
    exact hhub

/-! ### The bus window -/

/-- A trip that HUB decides, told to a die whose link carries nothing. -/
theorem deliver_trip {e : Env} {l r t : Nat} {b : Body} (horch : b.orch = true) (hlead : b.leadOf l = l)
    (hjoined : (b.fe (dieOf l)).joined = true) (hdown : (b.fe (dieOf l)).down = []) (hin : tripsIn r (b.ch l).state = true)
    (hheld : (b.ch l).state ≠ .held) (hr : r < 2 ^ fieldWidth .chLastTripTripReason) (hwire : r ≠ 0x19) :
    Tripped b l r (b.deliver e l (.trip r) t) := by
  rw [deliver_live horch (by rw [hlead]; exact hheld), hlead]
  exact applyTrip_trips hin hr hwire (tell_trip_latches e l (hubDown_of_orch horch) hjoined hdown)

theorem busWindow_exec {n : ChIx} {l T : Nat} {high : Bool} {s : State} (hl : s.body.leadOf n = l) (hout : (s.body.ch l).busOut = some (T, high))
    (hqual : (s.body.ch l).busQual = false) : exec (.busWindowQualify n) s =
      .next ((s.goTo (T + s.body.rd .chBuswinBusTime l * 10000)).onBody fun e b => if b.orch then b.busQualify e l high else b) := by
  rw [exec_busWindowQualify, execBusWindowQualify]
  rw [hl, hout]
  dsimp only
  rw [if_neg (by simp [hqual]), usNs, Nat.mul_assoc]

theorem raiseCh1_onCh (n m : Nat) (l : ChLeaf) (f : Chan → Chan) (b : Body) : (b.onCh m f).raiseCh1 n l = (b.raiseCh1 n l).onCh m f := by
  unfold Body.raiseCh1
  rw [apply_ite (fun c : Body => c.onCh m f), apply_ite (fun c : Body => c.onCh m f)]
  rfl

/-- A leaf of a channel's group and a change of a channel come in either order. -/
theorem raiseCh_onCh (n m : Nat) (l : ChLeaf) (f : Chan → Chan) (b : Body) : (b.onCh m f).raiseCh n l = (b.raiseCh n l).onCh m f := by
  have hfold : ∀ (ks : List Nat) (b : Body), ks.foldl (fun b k => b.raiseCh1 k l) (b.onCh m f) = (ks.foldl (fun b k => b.raiseCh1 k l) b).onCh m f := by
    intro ks
    induction ks with
    | nil => exact fun _ => rfl
    | cons k ks ih => exact fun b => (congrArg (List.foldl _ · ks) (raiseCh1_onCh k m l f b)).trans (ih _)
  exact hfold (b.membersOf n) b

/-- The channel of a bus window that has qualified. -/
def busQualified (l : Nat) (high : Bool) (b : Body) : Body :=
  (b.raiseCh l (if high then .busOver else .busUnder)).onCh l fun c => { c with busQual := true }

theorem busQualify_trips {e : Env} {l : Nat} {high : Bool} {b : Body} (horch : b.orch = true) (hlead : b.leadOf l = l)
    (hdriven : (b.ch l).state.driven = true) (hpol : b.policy l (if high then 0x1A else 0x1B) ≠ 2)
    (hjoined : (b.fe (dieOf l)).joined = true) (hdown : (b.fe (dieOf l)).down = []) :
    Tripped b l (if high then 0x1A else 0x1B) (b.busQualify e l high) := by
  have hstill : still (busQualified l high b) = still b := (still_onCh _ _ _ (by exact fun _ => rfl)).trans (still_raiseCh ..)
  have hch : (busQualified l high b).ch l = { b.ch l with busQual := true } := by
    unfold busQualified
    rw [ch_onCh_same, raiseCh_ch]
  have heq : b.busQualify e l high = (busQualified l high b).deliver e l (.trip (if high then 0x1A else 0x1B)) e.now :=
    if_neg (by rw [← policy_of_still hstill] at hpol; exact hpol)
  have horch' : (busQualified l high b).orch = true := by
    rw [← horch]
    unfold busQualified Body.orch
    rw [onCh_twin, onCh_hubDown, onCh_role, raiseCh_hubDown, raiseCh_twin, (settled_raiseCh ..).role]
  have hfe : (busQualified l high b).fe (dieOf l) = b.fe (dieOf l) := raiseCh_fe ..
  have hst : ((busQualified l high b).ch l).state = (b.ch l).state := by rw [hch]
  have htrip : Tripped (busQualified l high b) l (if high then 0x1A else 0x1B) (b.busQualify e l high) := by
    rw [heq]
    refine deliver_trip horch' (by rw [leadOf_of_still hstill, hlead]) (by rw [hfe, hjoined]) (by rw [hfe, hdown]) ?_
      (by rw [hst]; exact state_of_driven hdriven) ?_ ?_
    · rw [hst]
      cases high <;> exact hdriven
    · cases high <;> decide
    · cases high <;> decide
  unfold Tripped at htrip ⊢
  rwa [policy_of_still hstill, rd_of_still hstill rfl, hch] at htrip

theorem busQualify_event {e : Env} {l : Nat} {high : Bool} {b : Body} (horch : b.orch = true)
    (hpol : b.policy l (if high then 0x1A else 0x1B) = 2) : Settled (b.onCh l fun c => { c with busQual := true }) (b.busQualify e l high) := by
  have hstill : still (busQualified l high b) = still b := (still_onCh _ _ _ (by exact fun _ => rfl)).trans (still_raiseCh ..)
  have heq : b.busQualify e l high = (busQualified l high b).event e.count 0x0006 l (if high then 0x1A else 0x1B) 0 0 :=
    if_pos (by rw [← policy_of_still hstill] at hpol; exact hpol)
  have hrole : b.role ≠ .standby := by
    rintro h
    unfold Body.orch at horch
    rw [h] at horch
    simp at horch
  have hcomm : busQualified l high b = (b.onCh l fun c => { c with busQual := true }).raiseCh l (if high then .busOver else .busUnder) :=
    (raiseCh_onCh ..).symm
  have hraise := settled_raiseCh l (if high then .busOver else .busUnder) (b.onCh l fun c => { c with busQual := true })
  rw [heq, hcomm]
  exact hraise.trans (settled_event _ _ _ _ _ _ _ (by rw [hraise.role]; exact hrole))

/-- Settles O23. -/
theorem otherFaults : Obligations.OtherFaults := by
  refine ⟨fun n l T s hl hrep hsince hst hheld => fetShort_runs hl hrep hsince hst hheld, fun n T s hsince hmis hruns =>
    ⟨fun hrole => ?_, fun hrole hhub => ?_⟩, fun n l T high s hl horch hled hout hqual hdriven => ⟨fun hpol hjoined hdown => ?_, fun hpol => ?_⟩⟩
  · exact becomesAt_of_settled (exec_modelMismatch_declares hsince hmis hruns) (modelMismatch_settled _ hrole)
  · refine runsAt_onBody (exec_modelMismatch_declares hsince hmis hruns) ?_
    rw [onBody_body, goTo_body, settle_en, settle_twin]
    exact modelMismatch_standby _ hrole hhub
  · unfold Led at hled
    rw [hl] at hled
    refine runsAt_onBody (busWindow_exec hl hout hqual) ?_
    rw [onBody_body, goTo_body, if_pos horch]
    exact tripped_settle (busQualify_trips horch hled hdriven hpol hjoined hdown)
  · refine becomesAt_of_settled (busWindow_exec hl hout hqual) ?_
    rw [if_pos horch]
    exact busQualify_event horch hpol

end Sys2Proof.Proofs
end

section
/-!
SUPPORT. A loop cycle (R99, R102, R105, R109, R110): what the decision of the five demands leaves in the leader's engine, and what the
trace that follows it leaves.
-/

namespace Sys2Proof.Proofs

open Sys2Proof Sys2Proof.Machine Sys2Proof.Safety Sys2Proof.Laws

theorem exec_loopCycle (n : ChIx) (p q : Bool) (s : State) : exec (.loopCycle n p q) s = execLoopCycle n p q s := rfl

/-! ### The lowest of the demands -/

theorem lowest_least (all : List (Int × Bool)) (ds : List (Int × Bool)) (i best : Nat) (v : Int) (hdrop : all.drop i = ds)
    (hbest : best < all.length) (hv : (all.getD best (0, false)).1 = v) (hlow : ∀ j < i, v ≤ (all.getD j (0, false)).1) :
    lowest ds i best v < all.length ∧ ∀ j < all.length, (all.getD (lowest ds i best v) (0, false)).1 ≤ (all.getD j (0, false)).1 := by
  induction ds generalizing i best v with
  | nil =>
    have hlen := List.drop_eq_nil_iff.1 hdrop
    unfold lowest
    exact ⟨hbest, fun j hj => hv ▸ hlow j (by omega)⟩
  | cons d ds ih =>
    have hi : i < all.length := by
      by_contra h
      rw [List.drop_eq_nil_iff.2 (by omega)] at hdrop
      cases hdrop
    have hd : all.getD i (0, false) = d := by
      rw [List.getD_eq_getElem _ _ hi]
      rw [List.drop_eq_getElem_cons hi, List.cons.injEq] at hdrop
      exact hdrop.1
    have hrest : all.drop (i + 1) = ds := by
      rw [List.drop_eq_getElem_cons hi, List.cons.injEq] at hdrop
      exact hdrop.2
    unfold lowest
    split
    next hlt =>
      refine ih (i + 1) i d.1 hrest hi (by rw [hd]) fun j hj => ?_
      rcases Nat.lt_succ_iff_lt_or_eq.1 hj with h | rfl
      · exact (le_of_lt hlt).trans (hlow j h)
      · rw [hd]
    next hge =>
      refine ih (i + 1) best v hrest hbest hv fun j hj => ?_
      rcases Nat.lt_succ_iff_lt_or_eq.1 hj with h | rfl
      · exact hlow j h
      · rw [hd]
        omega

/-- The lowest of five demands is one of them, and none is lower. -/
theorem lowest_of_demands (ds : List (Int × Bool)) (hpos : 0 < ds.length) (hbound : (ds.getD 0 (0, false)).1 < 40000) :
    lowest ds 0 0 40000 < ds.length ∧ ∀ j < ds.length, (ds.getD (lowest ds 0 0 40000) (0, false)).1 ≤ (ds.getD j (0, false)).1 := by
  cases ds with
  | nil => cases hpos
  | cons d ds =>
    unfold lowest
    rw [if_pos (by exact hbound)]
    refine lowest_least (d :: ds) ds 1 0 d.1 rfl hpos rfl fun j hj => ?_
    rw [Nat.lt_one_iff.1 hj]
    rfl

theorem sat16_le (x : Int) : sat16 x ≤ 32767 := by
  unfold sat16 clampInt
  omega

theorem hysteretic_le (hem e : Int) : hysteretic hem e ≤ 32767 := by
  unfold hysteretic
  split
  · omega
  · split <;> omega

theorem demand_le (b : Body) (l j : Nat) (e : Int) : (b.demand l j e).1 ≤ 32767 := by
  unfold Body.demand
  split
  · exact hysteretic_le ..
  · exact sat16_le _

theorem getD_demand_node (a : List Int) (ds : List (Int × Bool)) (c : List Int) {j : Nat} (ha : a.length = 24) (hj : j < ds.length) :
    (a ++ ds.map (·.1) ++ c).getD (24 + j) 0 = (ds.getD j (0, false)).1 := by
  have hlen : 24 + j < (a ++ ds.map (·.1)).length := by simp [ha, hj]
  have hlen' : 24 + j < (a ++ ds.map (·.1) ++ c).length := by simp [ha]; omega
  rw [List.getD_eq_getElem _ _ hlen', List.getElem_append_left hlen, List.getElem_append_right (by omega), List.getElem_map,
    List.getD_eq_getElem _ _ hj]
  simp [ha]

theorem getD_error_node (a es c : List Int) {j : Nat} (ha : a.length = 16) (hj : j < es.length) : (a ++ es ++ c).getD (16 + j) 0 = es.getD j 0 := by
  have hlen : 16 + j < (a ++ es).length := by simp [ha, hj]
  have hlen' : 16 + j < (a ++ es ++ c).length := by simp [ha]; omega
  rw [List.getD_eq_getElem _ _ hlen', List.getElem_append_left hlen, List.getElem_append_right (by omega), List.getD_eq_getElem _ _ hj]
  simp [ha]

/-! ### The decision in the engines of the gang -/

/-- The decision as one member takes it. -/
def decided (d : Int) (w : Nat) (b : Body) (m : Nat) : Body :=
  b.onEng m fun h => b.stall m d { h with dsel := d, win := w }

theorem stall_eq (b : Body) (m : Nat) (d : Int) (g : Eng) : ∃ x, b.stall m d g = { g with stallNs := x } := by
  unfold Body.stall
  split
  · exact ⟨_, rfl⟩
  · split
    · exact ⟨_, rfl⟩
    · exact ⟨g.stallNs, rfl⟩

/-- The engine of a member after the decision of all of them: the demand, the winner and the stall time. -/
theorem decided_member (d : Int) (w : Nat) (ms : List Nat) (b : Body) {j : Nat} (h : j ∈ ms) :
    ∃ x, (ms.foldl (decided d w) b).en j = { b.en j with dsel := d, win := w, stallNs := x } := by
  have hone : ∀ (b : Body) m, ∃ x, (decided d w b m).en j = if j % 128 = m % 128 then { b.en j with dsel := d, win := w, stallNs := x } else b.en j := by
    intro b m
    obtain ⟨x, hx⟩ := stall_eq b m d { b.en m with dsel := d, win := w }
    refine ⟨x, ?_⟩
    unfold decided
    rw [en_onEng]
    by_cases hm : j % 128 = m % 128
    · rw [if_pos hm, if_pos hm, hx, en_congr b hm]
    · rw [if_neg hm, if_neg hm]
  have hkeeps : ∀ (ms : List Nat) (b : Body) (g : Eng) x, b.en j = { g with dsel := d, win := w, stallNs := x } →
      ∃ y, (ms.foldl (decided d w) b).en j = { g with dsel := d, win := w, stallNs := y } := by
    intro ms
    induction ms with
    | nil => exact fun b g x hx => ⟨x, hx⟩
    | cons m ms ih =>
      intro b g x hx
      obtain ⟨y, hy⟩ := hone b m
      by_cases hm : j % 128 = m % 128
      · rw [if_pos hm, hx] at hy
        exact ih _ g y hy
      · rw [if_neg hm, hx] at hy
        exact ih _ g x hy
  induction ms generalizing b with
  | nil => cases h
  | cons m ms ih =>
    obtain ⟨x, hx⟩ := hone b m
    by_cases hm : j % 128 = m % 128
    · rw [if_pos hm] at hx
      exact hkeeps ms _ (b.en j) x hx
    · rw [if_neg hm] at hx
      have hj : j ∈ ms := (List.mem_cons.1 h).resolve_left fun hjm => hm (by rw [hjm])
      obtain ⟨y, hy⟩ := ih (decided d w b m) hj
      exact ⟨y, by rw [List.foldl_cons, hy, hx]⟩

/-- What a decision leaves in the leader's engine. -/
structure Decision (b : Body) (l : Nat) (g : Eng) : Prop where
  kept : ∃ d w x sat fz xs nodes fw, w < 5 ∧ (b.froze = true → xs = (b.en l).x) ∧
    g = { b.en l with dsel := d, win := w + 1, stallNs := x, sat := sat, frozen := fz, x := xs, nodes := nodes
                      wins := ((w + 1) :: (b.en l).wins).take 10, freeWins := fw }
  shown : g.dsel = g.nodes.getD (23 + g.win) 0
  lowest : ∀ j < 5, g.dsel ≤ g.nodes.getD (24 + j) 0
  limit : g.nodes.getD 17 0 = sat16 ((b.cd .chIlimIlim l : Nat) - (b.loopIn l).iMax)
  single : (b.membersOf l).length ≤ 1 → ∀ j, 1 ≤ j → j < 5 →
    g.nodes.getD (24 + j) 0 = hysteretic (b.cd .chLoopcfgHem l : Nat) (g.nodes.getD (16 + j) 0)
  pushed : (∀ j < 5, ∀ e, (b.demand l j e).1 = 32767) → g.dsel = 32767

theorem control_decides (l : Nat) (b : Body) : Decision b l ((b.control l).en l) := by
  unfold Body.control
  extract_lets i g k rate rr iff r ip ic es enh ds w d sat gang blocked e ki xs nodes b1
  have hlen : ds.length = 5 := rfl
  have hds : ∀ j < 5, ds.getD j (0, false) = if j = 0 && enh then ((32767 : Int), false) else b.demand l j (es.getD j 0) := by
    intro j hj
    interval_cases j <;> rfl
  obtain ⟨hw, hlow⟩ := lowest_of_demands ds (by omega) (by
    rw [hds 0 (by omega)]
    split
    · decide
    · exact lt_of_le_of_lt (demand_le ..) (by decide))
  have hnode : ∀ j < 5, nodes.getD (24 + j) 0 = (ds.getD j (0, false)).1 := fun j hj => getD_demand_node _ ds _ rfl (by omega)
  have herr : ∀ j < 5, nodes.getD (16 + j) 0 = es.getD j 0 := fun j hj => by
    interval_cases j <;> rfl
  obtain ⟨x, hx⟩ : ∃ x, b1.en l = { b.en l with dsel := d, win := w + 1, stallNs := x } := decided_member d (w + 1) _ b (mem_membersOf b l)
  have hxs : b.froze = true → xs = (b.en l).x := fun hfroze => if_neg (by simp [blocked, hfroze])
  have hlimit : nodes.getD 17 0 = sat16 ((b.cd .chIlimIlim l : Nat) - (b.loopIn l).iMax) := rfl
  have hd : d = (ds.getD w (0, false)).1 := rfl
  have hen : (b1.onEng l fun h =>
    { h with sat := sat, frozen := gang, x := xs, nodes := nodes, wins := ((w + 1) :: h.wins).take 10
             freeWins := if w = 0 then h.freeWins + 1 else 0 }).en l =
    { b.en l with dsel := d, win := w + 1, stallNs := x, sat := sat, frozen := gang, x := xs, nodes := nodes
                  wins := ((w + 1) :: (b.en l).wins).take 10, freeWins := if w = 0 then (b.en l).freeWins + 1 else 0 } := by
    rw [en_onEng, if_pos rfl, hx]
  change w < ds.length at hw
  rw [hlen] at hw hlow
  change ∀ j < 5, (ds.getD w (0, false)).1 ≤ (ds.getD j (0, false)).1 at hlow
  clear_value nodes xs b1 d w ds es
  refine ⟨⟨d, w, x, sat, gang, xs, nodes, _, hw, hxs, hen⟩, ?_, fun j hj => ?_, ?_, fun hone j hpos hj => ?_, fun hpush => ?_⟩
  all_goals rw [hen]
  · show d = nodes.getD (23 + (w + 1)) 0
    rw [show 23 + (w + 1) = 24 + w by omega, hnode w hw, hd]
  · show d ≤ nodes.getD (24 + j) 0
    rw [hnode j hj, hd]
    exact hlow j hj
  · exact hlimit
  · show nodes.getD (24 + j) 0 = hysteretic _ (nodes.getD (16 + j) 0)
    rw [hnode j hj, herr j hj, hds j hj, if_neg (by simp; omega), Body.demand, if_pos hone]
  · show d = 32767
    rw [hd, hds w hw, apply_ite Prod.fst, hpush w hw, ite_self]

/-! ### The trace that follows a cycle -/

/-- A part of an engine that neither a trace nor a capture changes. -/
def TraceKeeps {α : Type} (p : Eng → α) : Prop :=
  (∀ g, p (engBeside g) = p g) ∧ ∀ g : Eng, p { g with tripPulse := false, hardPulse := false, winPulse := false } = p g

theorem trFire_leaves_beside (e : Env) (k idx : Nat) (b : Body) : (∀ m, engBeside ((b.trFire e k idx).en m) = engBeside (b.en m)) ∧
    hubSide (b.trFire e k idx) = hubSide b ∧ ∀ f i, capFld f = false → (b.trFire e k idx).rd f i = b.rd f i := by
  unfold Body.trFire
  extract_lets b1 b2
  have h2 : (∀ m, engBeside (b2.en m) = engBeside (b.en m)) ∧ hubSide b2 = hubSide b ∧ ∀ f i, capFld f = false → b2.rd f i = b.rd f i :=
    ⟨fun m => en_of_cap (capSide_capTriggerAll ..) engBeside (fun _ => rfl) m, hubSide_capTriggerAll .., fun f i hf => rd_of_cap (capSide_capTriggerAll ..) hf i⟩
  clear_value b2
  have hcross : ∀ {α : Type} (p : Body → α), (∀ (c : Body) j f, p (c.onDie j f) = p c) →
      p ((List.range 8).foldl (fun b j => if j = k then b else b.onDie j fun d => { d with trCross := true }) b2) = p b2 := fun p hp =>
    part_foldl p _ (fun c j => by rw [apply_ite p, hp, ite_self]) _ b2
  split
  · refine ⟨fun m => ?_, ?_, fun f i hf => ?_⟩
    · rw [← h2.1 m]
      exact hcross (fun c => engBeside (c.en m)) fun _ _ _ => rfl
    · rw [← h2.2.1]
      exact hcross hubSide fun _ _ _ => rfl
    · rw [← h2.2.2 f i hf]
      exact hcross (fun c => c.rd f i) fun _ _ _ => rfl
  · exact h2

theorem trWrite_leaves_beside (e : Env) (k : Nat) (hit : Bool) (b : Body) : (∀ m, engBeside ((b.trWrite e k hit).en m) = engBeside (b.en m)) ∧
    hubSide (b.trWrite e k hit) = hubSide b ∧ ∀ f i, capFld f = false → (b.trWrite e k hit).rd f i = b.rd f i := by
  unfold Body.trWrite
  extract_lets d i mem count b1 pre
  split
  · exact ⟨fun _ => rfl, rfl, fun _ _ _ => rfl⟩
  · split
    · exact trFire_leaves_beside e k i b1
    · exact ⟨fun _ => rfl, rfl, fun _ _ _ => rfl⟩

theorem trStep_leaves (e : Env) (n : Nat) (b : Body) : (∀ {α : Type} (p : Eng → α) (m : Nat), TraceKeeps p → p ((b.trStep e n).en m) = p (b.en m)) ∧
    hubSide (b.trStep e n) = hubSide b ∧ ∀ f i, capFld f = false → (b.trStep e n).rd f i = b.rd f i := by
  unfold Body.trStep
  extract_lets k hit b1 v w b2
  split
  · exact ⟨fun _ _ _ => rfl, rfl, fun _ _ _ => rfl⟩
  · have h1 : (∀ m, engBeside (b1.en m) = engBeside (b.en m)) ∧ hubSide b1 = hubSide b ∧ ∀ f i, capFld f = false → b1.rd f i = b.rd f i := by
      unfold b1
      split
      · exact trWrite_leaves_beside e k hit b
      · exact ⟨fun _ => rfl, rfl, fun _ _ _ => rfl⟩
    have hpulse : ∀ {α : Type} (p : Body → α), (∀ (c : Body) j, p (c.onEng j fun g => { g with tripPulse := false, hardPulse := false, winPulse := false }) = p c) →
        p (b2.forEach ((List.range 16).map (16 * k + ·)) fun m b =>
          b.onEng m fun g => { g with tripPulse := false, hardPulse := false, winPulse := false }) = p b2 := fun p hp =>
      part_foldl p _ hp _ b2
    refine ⟨fun p m hp => ?_, ?_, fun f i hf => ?_⟩
    · rw [hpulse (fun c => p (c.en m)) fun c j => by
        rw [en_onEng]
        split
        next h => rw [hp.2, en_congr c h]
        · rfl]
      show p (b1.en m) = p (b.en m)
      rw [← hp.1, h1.1 m, hp.1]
    · rw [hpulse hubSide fun _ _ => rfl]
      exact h1.2.1
    · rw [hpulse (fun c => c.rd f i) fun _ _ => rfl]
      exact h1.2.2 f i hf

end Sys2Proof.Proofs
end

section
/-!
SUPPORT. The loop cycles of a channel (R97 to R110, R144, R462, R463): its sample, its shadow, its decision and its ramp.
-/

namespace Sys2Proof.Proofs

open Sys2Proof Sys2Proof.Machine Sys2Proof.Safety Sys2Proof.Laws

/-! ### The sample -/

/-- The engine after its sample. -/
def sampled (e : Env) (n : Nat) (p q : Bool) (b : Body) : Eng :=
  { (b.en n).endFast e.now with
    atPump := p, atSource := q, tick := (b.en n).tick + 1
    ps := ((dissip (b.fe (dieOf n)).bus (b.en n).out (b.en n).i : Int) :: (b.en n).ps).take 8
    episode := if (b.en n).epiRun then (b.en n).episode + dissip (b.fe (dieOf n)).bus (b.en n).out (b.en n).i * b.rangeUp n else (b.en n).episode }

theorem endFast_eq (now : Nat) (g : Eng) : ∃ gate z, g.endFast now = { g with gate := gate, hiZAfter := z } ∧
    (g.gate ≠ .fastSink → gate = g.gate) ∧ (g.gate ≠ .driven → gate ≠ .driven) := by
  unfold Eng.endFast
  split
  next h =>
    have hfast : g.gate = .fastSink := by
      rw [Bool.and_eq_true, decide_eq_true_eq] at h
      exact h.1
    refine ⟨_, false, rfl, fun hne => absurd hfast hne, fun _ => ?_⟩
    split <;> decide
  · exact ⟨g.gate, g.hiZAfter, rfl, fun _ => rfl, id⟩

theorem sampled_eq (e : Env) (n : Nat) (p q : Bool) (b : Body) : ∃ gate z, sampled e n p q b =
    { b.en n with
      gate := gate, hiZAfter := z, atPump := p, atSource := q, tick := (b.en n).tick + 1
      ps := ((dissip (b.fe (dieOf n)).bus (b.en n).out (b.en n).i : Int) :: (b.en n).ps).take 8
      episode := if (b.en n).epiRun then (b.en n).episode + dissip (b.fe (dieOf n)).bus (b.en n).out (b.en n).i * b.rangeUp n else (b.en n).episode } ∧
    ((b.en n).gate ≠ .fastSink → gate = (b.en n).gate) ∧ ((b.en n).gate ≠ .driven → gate ≠ .driven) := by
  obtain ⟨gate, z, heq, hkeep, hdriven⟩ := endFast_eq e.now (b.en n)
  exact ⟨gate, z, by unfold sampled; rw [heq], hkeep, hdriven⟩

theorem takeSample_eq (e : Env) (n : Nat) (p q : Bool) (b : Body) : b.takeSample e n p q = b.onEng n fun _ => sampled e n p q b := by
  unfold Body.takeSample Body.onEng
  congr 2

theorem takeSample_en (e : Env) (n : Nat) (p q : Bool) (b : Body) (m : Nat) :
    (b.takeSample e n p q).en m = if m % 128 = n % 128 then sampled e n p q b else b.en m := by
  rw [takeSample_eq, en_onEng]

/-- A part of an engine that no sample changes. -/
theorem takeSample_part (e : Env) (n : Nat) (p q : Bool) (b : Body) {α : Type} (f : Eng → α)
    (hf : ∀ (g : Eng) gate z a c t ps ep, f { g with gate := gate, hiZAfter := z, atPump := a, atSource := c, tick := t, ps := ps, episode := ep } = f g)
    (m : Nat) : f ((b.takeSample e n p q).en m) = f (b.en m) := by
  rw [takeSample_en]
  split
  next h =>
    obtain ⟨gate, z, heq, -, -⟩ := sampled_eq e n p q b
    rw [heq, hf, en_congr b h]
  · rfl

/-! ### What a decision reads -/

theorem loopIn_congr {b c : Body} (l : Nat) (hrd : ∀ i, c.rd .chClassGangSize i = b.rd .chClassGangSize i)
    (hbus : (c.fe (dieOf l)).bus = (b.fe (dieOf l)).bus) (hprev : (c.fe (dieOf l)).busPrev = (b.fe (dieOf l)).busPrev)
    (hbff : c.cd .chLoopcfgBff l = b.cd .chLoopcfgBff l) (hcap : c.cd .chCapPCap l = b.cd .chCapPCap l)
    (hen : ∀ m, (c.en m).i = (b.en m).i ∧ (c.en m).out = (b.en m).out ∧ (c.en m).tjEst = (b.en m).tjEst ∧ (c.en m).plim = (b.en m).plim) :
    c.loopIn l = b.loopIn l := by
  unfold Body.loopIn Body.membersOf
  simp only [hrd, hbus, hprev, hbff, hcap, (hen _).1, (hen _).2.1, (hen _).2.2.1, (hen _).2.2.2]

/-- The body that a driven channel decides in: its sample taken, and the longest delay shown. -/
def readied (e : Env) (n : Nat) (p q : Bool) (b : Body) : Body := (b.takeSample e n p q).delayMax (dieOf n)

theorem readied_en (e : Env) (n : Nat) (p q : Bool) (b : Body) (m : Nat) : (readied e n p q b).en m = (b.takeSample e n p q).en m := rfl

theorem readied_cd (e : Env) (n : Nat) (p q : Bool) (b : Body) (f : Fld) (m : Nat) (hf : f ≠ .feLoopstatDlyMax) :
    (readied e n p q b).cd f m = b.cd f m := by
  unfold readied Body.delayMax Body.cd
  exact drd_dwr_fld _ _ _ _ _ _ hf

theorem delayMax_bus (k : Nat) (b : Body) (j : Nat) : ((b.delayMax k).fe j).bus = (b.fe j).bus ∧ ((b.delayMax k).fe j).busPrev = (b.fe j).busPrev := by
  unfold Body.delayMax
  dsimp only
  unfold Body.dwr
  rw [fe_onDie]
  split
  next h =>
    rw [fe_congr b h]
    exact ⟨rfl, rfl⟩
  · exact ⟨rfl, rfl⟩

theorem readied_loopIn (e : Env) (n : Nat) (p q : Bool) (b : Body) (l : Nat) : (readied e n p q b).loopIn l = b.loopIn l :=
  loopIn_congr l (fun _ => rfl) (delayMax_bus ..).1 (delayMax_bus ..).2 (readied_cd _ _ _ _ _ _ _ (by decide)) (readied_cd _ _ _ _ _ _ _ (by decide))
    fun m => ⟨takeSample_part e n p q b Eng.i (fun _ _ _ _ _ _ _ _ => rfl) m, takeSample_part e n p q b Eng.out (fun _ _ _ _ _ _ _ _ => rfl) m,
      takeSample_part e n p q b Eng.tjEst (fun _ _ _ _ _ _ _ _ => rfl) m, takeSample_part e n p q b Eng.plim (fun _ _ _ _ _ _ _ _ => rfl) m⟩

/-! ### What a cycle leaves beside the engines -/

/-- A decision changes engines alone. -/
theorem control_beside {α : Type} (p : Body → α) (hp : ∀ c m f, p (Body.onEng c m f) = p c) (l : Nat) (b : Body) : p (b.control l) = p b := by
  unfold Body.control
  extract_lets
  rw [hp]
  exact part_foldl p _ (fun c m => hp c m _) _ b

theorem advance_leaves (e : Env) (l : Nat) (b : Body) : (b.advance e l).twin.shadow = b.twin.shadow ∧ (b.advance e l).froze = b.froze ∧
    ((b.advance e l).en l).gate = (b.en l).gate ∧ ((b.advance e l).en l).x = (b.en l).x ∧ ((b.advance e l).en l).wins = (b.en l).wins := by
  unfold Body.advance
  extract_lets t g c b1 r
  split
  · exact ⟨rfl, rfl, rfl, rfl, rfl⟩
  · split
    · exact ⟨rfl, rfl, rfl, rfl, rfl⟩
    · rw [en_onEng, if_pos rfl]
      exact ⟨rfl, rfl, rfl, rfl, rfl⟩

/-! ### A cycle of a gate that is not driven -/

theorem loopCycle_idle {e : Env} {n : Nat} {p q : Bool} {b : Body} (hgate : (b.en n).gate ≠ .driven) (hshadow : b.shadows (b.leadOf n) = false) :
    b.loopCycle e n p q =
      ((if q then (b.takeSample e n p q).gateAtSource e n else b.takeSample e n p q).idleNodes n).trStep e n := by
  have hgate' : ((b.takeSample e n p q).en n).gate ≠ .driven := by
    obtain ⟨gate, z, heq, -, hne⟩ := sampled_eq e n p q b
    rw [takeSample_en, if_pos rfl, heq]
    exact hne hgate
  have hshadow' : (b.takeSample e n p q).shadows (b.leadOf n) = false := hshadow
  unfold Body.loopCycle
  dsimp only
  rw [if_pos hgate', if_neg (by simp [hshadow'])]

/-- What an idle cycle leaves of a part of the engine that no source of a gate sets. -/
theorem gateAtSource_part (e : Env) (n : Nat) (b : Body) {α : Type} (f : Eng → α) (hf : ∀ (g : Eng) t x, f { g with fsFrom := t, outMin := x } = f g)
    (q : Bool) (m : Nat) : f ((if q then b.gateAtSource e n else b).en m) = f (b.en m) := by
  split
  · unfold Body.gateAtSource
    split
    · rfl
    · rw [en_onEng]
      split
      next h => rw [hf, en_congr b h]
      · rfl
  · rfl

theorem idle_leaves {e : Env} {n : Nat} {p q : Bool} {b : Body} (hgate : (b.en n).gate ≠ .driven) (hshadow : b.shadows (b.leadOf n) = false) :
    ((b.loopCycle e n p q).en n).ps = ((dissip (b.fe (dieOf n)).bus (b.en n).out (b.en n).i : Int) :: (b.en n).ps).take 8 ∧
    ((b.loopCycle e n p q).en n).tick = (b.en n).tick + 1 ∧ ((b.loopCycle e n p q).en n).nodes.getD 1 0 = (b.en n).out := by
  rw [loopCycle_idle hgate hshadow]
  have htr := trStep_leaves e n ((if q then (b.takeSample e n p q).gateAtSource e n else b.takeSample e n p q).idleNodes n)
  rw [htr.1 Eng.ps n ⟨fun _ => rfl, fun _ => rfl⟩, htr.1 Eng.tick n ⟨fun _ => rfl, fun _ => rfl⟩, htr.1 (fun g => g.nodes.getD 1 0) n ⟨fun _ => rfl, fun _ => rfl⟩]
  unfold Body.idleNodes
  rw [en_onEng, if_pos rfl]
  obtain ⟨gate, z, heq, -, -⟩ := sampled_eq e n p q b
  have hpart : ∀ {α : Type} (f : Eng → α), (∀ (g : Eng) t x, f { g with fsFrom := t, outMin := x } = f g) →
      f ((if q then (b.takeSample e n p q).gateAtSource e n else b.takeSample e n p q).en n) = f (sampled e n p q b) := fun f hf => by
    rw [gateAtSource_part e n _ f hf, takeSample_en, if_pos rfl]
  refine ⟨(hpart Eng.ps fun _ _ _ => rfl).trans (by rw [heq]), (hpart Eng.tick fun _ _ _ => rfl).trans (by rw [heq]),
    (hpart Eng.out fun _ _ _ => rfl).trans (by rw [heq])⟩

/-! ### A cycle in shadow -/

/-- The winner filters of a gang that enters the shadow start anew (R463). -/
def shadowed (l : Nat) (b : Body) : Body :=
  if b.twin.shadow.contains l then b
  else (b.forEach (b.membersOf l) fun m b => b.onEng m fun g => { g with wins := [], freeWins := 0 }).onTwin fun t =>
    { t with shadow := l :: t.shadow }

theorem clearWins_leaves (l : Nat) (b : Body) : let c := b.forEach (b.membersOf l) fun m b => b.onEng m fun g => { g with wins := [], freeWins := 0 }
    c.twin = b.twin ∧ (c.en l).gate = (b.en l).gate ∧ (c.en l).x = (b.en l).x ∧ (c.en l).wins = [] := by
  have hstep : ∀ (b : Body) m, ((b.onEng m fun g => { g with wins := [], freeWins := 0 }).en l) =
      if l % 128 = m % 128 then { b.en l with wins := [], freeWins := 0 } else b.en l := fun b m => by
    rw [en_onEng]
    split
    next h => rw [en_congr b h]
    · rfl
  have hfold : ∀ (ms : List Nat) (b : Body), (l ∈ ms ∨ (b.en l).wins = []) →
      ((ms.foldl (fun b m => b.onEng m fun g => { g with wins := [], freeWins := 0 }) b).en l).wins = [] := by
    intro ms
    induction ms with
    | nil => exact fun b h => h.resolve_left (by simp)
    | cons m ms ih =>
      intro b h
      refine ih _ ?_
      rw [hstep]
      by_cases hm : l % 128 = m % 128
      · rw [if_pos hm]
        exact .inr rfl
      · rw [if_neg hm]
        exact h.imp_left fun hl => (List.mem_cons.1 hl).resolve_left fun hlm => hm (by rw [hlm])
  have hpart : ∀ {α : Type} (f : Eng → α), (∀ g : Eng, f { g with wins := [], freeWins := 0 } = f g) →
      f ((b.forEach (b.membersOf l) fun m b => b.onEng m fun g => { g with wins := [], freeWins := 0 }).en l) = f (b.en l) := fun f hf =>
    part_foldl (fun c : Body => f (c.en l)) _ (fun c m => by
      dsimp only
      rw [hstep]
      split
      · exact hf _
      · rfl) _ b
  exact ⟨part_foldl Body.twin _ (by exact fun _ _ => rfl) _ b, hpart Eng.gate fun _ => rfl, hpart Eng.x fun _ => rfl, hfold _ b (.inl (mem_membersOf b l))⟩

theorem shadowed_leaves (l : Nat) (b : Body) : (shadowed l b).froze = b.froze ∧ l ∈ (shadowed l b).twin.shadow ∧
    ((shadowed l b).en l).gate = (b.en l).gate ∧ ((shadowed l b).en l).x = (b.en l).x ∧ (l ∉ b.twin.shadow → ((shadowed l b).en l).wins = []) := by
  unfold shadowed
  split
  next h =>
    have hmem : l ∈ b.twin.shadow := by simpa using h
    exact ⟨rfl, hmem, rfl, rfl, fun hn => absurd hmem hn⟩
  · obtain ⟨htwin, hgate, hx, hwins⟩ := clearWins_leaves l b
    refine ⟨?_, List.mem_cons_self .., hgate, hx, fun _ => hwins⟩
    unfold Body.froze
    rw [onTwin_twin, htwin]

/-- What a cycle in shadow keeps and shows (R462, R463). -/
structure InShadow (b : Body) (l : Nat) (c : Body) : Prop where
  gate : (c.en l).gate = (b.en l).gate
  x : (c.en l).x = (b.en l).x
  win : 1 ≤ (c.en l).win ∧ (c.en l).win ≤ 5
  shadow : l ∈ c.twin.shadow
  first : l ∉ b.twin.shadow → (c.en l).wins = [(c.en l).win]

theorem InShadow.of_parts {b c d : Body} {l : Nat} (h : InShadow b l c) (hgate : (d.en l).gate = (c.en l).gate) (hx : (d.en l).x = (c.en l).x)
    (hwin : (d.en l).win = (c.en l).win) (hwins : (d.en l).wins = (c.en l).wins) (hshadow : d.twin.shadow = c.twin.shadow) : InShadow b l d :=
  ⟨hgate.trans h.gate, hx.trans h.x, hwin ▸ h.win, hshadow ▸ h.shadow, fun hn => by rw [hwins, hwin, h.first hn]⟩

theorem control_inShadow (e : Env) (l : Nat) {b : Body} (hfroze : b.froze = true) : InShadow b l (((shadowed l b).advance e l).control l) := by
  obtain ⟨hfroze1, hmem1, hgate1, hx1, hwins1⟩ := shadowed_leaves l b
  obtain ⟨hshadow2, hfroze2, hgate2, hx2, hwins2⟩ := advance_leaves e l (shadowed l b)
  generalize (shadowed l b).advance e l = c at *
  obtain ⟨⟨d, w, x, sat, fz, xs, nodes, fw, hw, hxs, hen⟩, -⟩ := control_decides l c
  have htwin := control_beside Body.twin (by exact fun _ _ _ => rfl) l c
  refine ⟨?_, ?_, ?_, ?_, fun hn => ?_⟩
  · rw [hen]
    exact hgate2.trans hgate1
  · rw [hen]
    exact (hxs (hfroze2.trans (hfroze1.trans hfroze))).trans (hx2.trans hx1)
  · rw [hen]
    exact ⟨by simp, hw⟩
  · rw [htwin, hshadow2]
    exact hmem1
  · rw [hen]
    show ((w + 1) :: (c.en l).wins).take 10 = [w + 1]
    rw [hwins2, hwins1 hn]
    rfl

theorem inShadow_onEng {b c : Body} {l : Nat} (h : InShadow b l c) {f : Eng → Eng}
    (hf : ∀ g, (f g).gate = g.gate ∧ (f g).x = g.x ∧ (f g).win = g.win ∧ (f g).wins = g.wins) : InShadow b l (c.onEng l f) := by
  obtain ⟨hgate, hx, hwin, hwins⟩ := hf (c.en l)
  have hen : (c.onEng l f).en l = f (c.en l) := by rw [en_onEng, if_pos rfl]
  exact h.of_parts (by rw [hen, hgate]) (by rw [hen, hx]) (by rw [hen, hwin]) (by rw [hen, hwins]) rfl

theorem shadowCycle_inShadow (e : Env) (l : Nat) {b : Body} (hfroze : b.froze = true) : InShadow b l (b.shadowCycle e l) := by
  have h := control_inShadow e l hfroze
  unfold Body.shadowCycle
  change InShadow b l (let c := ((shadowed l b).advance e l).control l
    let g := c.en l
    let far := decide ((c.cd .chFollowFeBand l * 2 ^ 31 : Nat) < ((g.ref - toAcc g.out).natAbs : Int) * 1000)
    if (c.ch l).eff = .ramp && !g.rampEnd then
      c.onEng l fun g => { g with feSince := if far then some (g.feSince.getD e.now) else none }
    else c)
  generalize ((shadowed l b).advance e l).control l = c at h
  dsimp only
  split
  · exact inShadow_onEng h fun _ => ⟨rfl, rfl, rfl, rfl⟩
  · exact h

theorem trStep_inShadow (e : Env) (n : Nat) {b c : Body} (h : InShadow b n c) : InShadow b n (c.trStep e n) := by
  obtain ⟨hen, hhub, -⟩ := trStep_leaves e n c
  exact h.of_parts (hen Eng.gate n ⟨fun _ => rfl, fun _ => rfl⟩) (hen Eng.x n ⟨fun _ => rfl, fun _ => rfl⟩)
    (hen Eng.win n ⟨fun _ => rfl, fun _ => rfl⟩) (hen Eng.wins n ⟨fun _ => rfl, fun _ => rfl⟩) 
    (show (hubSide (c.trStep e n)).twin.shadow = (hubSide c).twin.shadow by rw [hhub])

theorem loopCycle_shadow {e : Env} {n : Nat} {p q : Bool} {b : Body} (hgate : (b.en n).gate ≠ .driven) (hlead : b.leadOf n = n)
    (hshadow : b.shadows n = true) : b.loopCycle e n p q = ((b.takeSample e n p q).shadowCycle e n).trStep e n := by
  have hgate' : ((b.takeSample e n p q).en n).gate ≠ .driven := by
    obtain ⟨gate, z, heq, -, hne⟩ := sampled_eq e n p q b
    rw [takeSample_en, if_pos rfl, heq]
    exact hne hgate
  have hshadow' : (b.takeSample e n p q).shadows n = true := hshadow
  unfold Body.loopCycle
  dsimp only
  rw [hlead, if_pos hgate', if_pos hshadow', if_pos rfl]

theorem shadow_leaves {e : Env} {n : Nat} {p q : Bool} {b : Body} (hgate : (b.en n).gate = .hiZ) (hlead : b.leadOf n = n)
    (hshadow : b.shadows n = true) : InShadow b n (b.loopCycle e n p q) := by
  have hfroze : (b.takeSample e n p q).froze = true := by
    show b.froze = true
    unfold Body.shadows at hshadow
    simp only [Bool.and_eq_true] at hshadow
    exact hshadow.1.1
  have hsampled : ((b.takeSample e n p q).en n).gate = (b.en n).gate ∧ ((b.takeSample e n p q).en n).x = (b.en n).x := by
    obtain ⟨gate, z, heq, hkeep, -⟩ := sampled_eq e n p q b
    rw [takeSample_en, if_pos rfl, heq]
    exact ⟨hkeep (by rw [hgate]; decide), rfl⟩
  rw [loopCycle_shadow (by rw [hgate]; decide) hlead hshadow]
  obtain ⟨hg, hx, hwin, hsh, hfirst⟩ := trStep_inShadow e n (shadowCycle_inShadow e n hfroze)
  exact ⟨hg.trans hsampled.1, hx.trans hsampled.2, hwin, hsh, hfirst⟩

/-! ### A cycle of a driven gate -/

/-- The body after the decision of a driven channel. -/
def ruled (e : Env) (n : Nat) (p q : Bool) (b : Body) : Body := (readied e n p q b).control n

theorem readied_gate {e : Env} {n : Nat} {p q : Bool} {b : Body} (hgate : (b.en n).gate = .driven) :
    ((b.takeSample e n p q).en n).gate = .driven := by
  obtain ⟨gate, z, heq, hkeep, -⟩ := sampled_eq e n p q b
  rw [takeSample_en, if_pos rfl, heq]
  exact (hkeep (by rw [hgate]; decide)).trans hgate

/-- A part of the engines that no decision changes. -/
theorem control_part {α : Type} (f : Eng → α)
    (hf : ∀ (g : Eng) d w x sat fz xs nodes ws fw,
      f { g with dsel := d, win := w, stallNs := x, sat := sat, frozen := fz, x := xs, nodes := nodes, wins := ws, freeWins := fw } = f g)
    (l : Nat) (b : Body) : f ((b.control l).en l) = f (b.en l) := by
  obtain ⟨⟨d, w, x, sat, fz, xs, nodes, fw, -, -, hen⟩, -⟩ := control_decides l b
  rw [hen, hf]

/-- The energy of an episode at the end of the cycle is that after the sample. -/
theorem ruled_overEsoa (e : Env) (n : Nat) (p q : Bool) (b : Body) :
    (((ruled e n p q b).en n).epiRun && (ruled e n p q b).overEsoa n n) = ((b.en n).epiRun && (b.takeSample e n p q).overEsoa n n) := by
  have hdie : (ruled e n p q b).die = (readied e n p q b).die := control_beside Body.die (by exact fun _ _ _ => rfl) n _
  have hregs : (ruled e n p q b).regs = (readied e n p q b).regs := control_beside Body.regs (by exact fun _ _ _ => rfl) n _
  have hcd : (ruled e n p q b).cd .chEsoaESoa n = b.cd .chEsoaESoa n := by
    have h : (ruled e n p q b).cd .chEsoaESoa n = (readied e n p q b).cd .chEsoaESoa n := by
      unfold Body.cd Body.drd Body.fe
      rw [hdie]
    rw [h, readied_cd _ _ _ _ _ _ _ (by decide)]
  have hrsh : (ruled e n p q b).rsh n = (b.takeSample e n p q).rsh n := by
    unfold Body.rsh
    exact congrArg (max 1) (rd_of_regs (b := b.takeSample e n p q) hregs _ _)
  have hepi : ((ruled e n p q b).en n).episode = ((b.takeSample e n p q).en n).episode :=
    control_part Eng.episode (fun _ _ _ _ _ _ _ _ _ _ => rfl) n (readied e n p q b)
  have hrun : ((ruled e n p q b).en n).epiRun = (b.en n).epiRun :=
    (control_part Eng.epiRun (fun _ _ _ _ _ _ _ _ _ _ => rfl) n (readied e n p q b)).trans
      (takeSample_part e n p q b Eng.epiRun (fun _ _ _ _ _ _ _ _ => rfl) n)
  rw [hrun]
  unfold Body.overEsoa Body.pscaleFine
  rw [hcd, hrsh, hepi]
  rfl

/-- The ramp's turn of a cycle: it ends where the target lies below the output, and advances otherwise. -/
def rampTurn (e : Env) (n : Nat) (ramping : Bool) (b : Body) : Body :=
  if !ramping then b
  else if b.targetBelow n then (b.onEng n fun g => { g with ref := toAcc g.out, rampEnd := true }).report e n .targetBelow e.now
  else b.rampStep e n

/-- A target that rises above a partial ramp begins a ramp again. -/
def aboveTurn (e : Env) (n : Nat) (b : Body) : Body :=
  if (b.ch n).state = .on && (b.ch n).partialRamp && b.targetAbove n then b.report e n .targetAbove e.now else b

/-- The energy of the episode trips the channel. -/
def overTurn (e : Env) (n : Nat) (b : Body) : Body := if (b.en n).epiRun && b.overEsoa n n then b.dieTrip e n 0x12 else b

theorem loopCycle_driven {e : Env} {n : Nat} {p q : Bool} {b : Body} (hgate : (b.en n).gate = .driven) (hlead : b.leadOf n = n) :
    b.loopCycle e n p q = (overTurn e n (aboveTurn e n (rampTurn e n
      (((readied e n p q b).ch n).eff = .ramp && !((readied e n p q b).en n).rampEnd) (ruled e n p q b)))).trStep e n := by
  unfold Body.loopCycle
  dsimp only
  rw [hlead, if_neg (by rw [readied_gate hgate]; simp), if_pos rfl]
  simp only [decide_true, Bool.true_and]
  rfl

theorem aboveTurn_stays (e : Env) (n : Nat) {b : Body} (h : (b.ch n).state = .on → (b.ch n).partialRamp = false) : aboveTurn e n b = b := by
  unfold aboveTurn
  refine if_neg fun hc => ?_
  simp only [Bool.and_eq_true, decide_eq_true_eq] at hc
  exact absurd hc.1.2 (by simp [h hc.1.1])

theorem overTurn_stays (e : Env) (n : Nat) {b : Body} (h : ((b.en n).epiRun && b.overEsoa n n) = false) : overTurn e n b = b :=
  if_neg (by simp [h])

theorem ruled_ch (e : Env) (n : Nat) (p q : Bool) (b : Body) (m : Nat) : (ruled e n p q b).ch m = b.ch m :=
  control_beside (fun c => c.ch m) (by exact fun _ _ _ => rfl) n (readied e n p q b)

/-- A cycle of a driven channel outside a ramp. -/
theorem loopCycle_steady {e : Env} {n : Nat} {p q : Bool} {b : Body} (hgate : (b.en n).gate = .driven) (hlead : b.leadOf n = n)
    (hramp : (b.ch n).eff ≠ .ramp) (hpartial : (b.ch n).partialRamp = false)
    (hover : ((b.en n).epiRun && (b.takeSample e n p q).overEsoa n n) = false) :
    b.loopCycle e n p q = (ruled e n p q b).trStep e n := by
  have hramp' : ((readied e n p q b).ch n).eff ≠ .ramp := hramp
  have hrampTurn : rampTurn e n (((readied e n p q b).ch n).eff = .ramp && !((readied e n p q b).en n).rampEnd) (ruled e n p q b) = ruled e n p q b :=
    if_pos (by simp [hramp'])
  rw [loopCycle_driven hgate hlead, hrampTurn, aboveTurn_stays e n (by rw [ruled_ch]; exact fun _ => hpartial),
    overTurn_stays e n ((ruled_overEsoa ..).trans hover)]

theorem steady_leaves {e : Env} {n : Nat} {p q : Bool} {b : Body} (hgate : (b.en n).gate = .driven) (hlead : b.leadOf n = n)
    (hramp : (b.ch n).eff ≠ .ramp) (hpartial : (b.ch n).partialRamp = false)
    (hover : ((b.en n).epiRun && (b.takeSample e n p q).overEsoa n n) = false) : let g := (b.loopCycle e n p q).en n
    1 ≤ g.win ∧ g.win ≤ 5 ∧ g.dsel = g.nodes.getD (23 + g.win) 0 ∧ (∀ j < 5, g.dsel ≤ g.nodes.getD (24 + j) 0) ∧
    g.nodes.getD 17 0 = sat16 ((b.cd .chIlimIlim n : Nat) - (b.loopIn n).iMax) ∧
    (b.rd .chClassGangSize n ≤ 1 → ∀ j, 1 ≤ j → j < 5 →
      g.nodes.getD (24 + j) 0 = hysteretic (b.cd .chLoopcfgHem n : Nat) (g.nodes.getD (16 + j) 0)) := by
  have hdec : Decision (readied e n p q b) n ((ruled e n p q b).en n) := control_decides n (readied e n p q b)
  obtain ⟨hen, -, -⟩ := trStep_leaves e n (ruled e n p q b)
  rw [loopCycle_steady hgate hlead hramp hpartial hover]
  dsimp only
  rw [hen Eng.win n ⟨fun _ => rfl, fun _ => rfl⟩, hen Eng.dsel n ⟨fun _ => rfl, fun _ => rfl⟩, hen Eng.nodes n ⟨fun _ => rfl, fun _ => rfl⟩]
  generalize (ruled e n p q b).en n = g at hdec
  have hlimit := hdec.limit
  have hsingle := hdec.single
  rw [readied_loopIn, readied_cd _ _ _ _ _ _ _ (by decide)] at hlimit
  rw [readied_cd _ _ _ _ _ _ _ (by decide)] at hsingle
  obtain ⟨d, w, x, sat, fz, xs, nodes, fw, hw, -, heq⟩ := hdec.kept
  have hwin : g.win = w + 1 := by rw [heq]
  refine ⟨by omega, by omega, hdec.shown, hdec.lowest, hlimit, fun hsize j hpos hj => hsingle ?_ j hpos hj⟩
  show ((b.membersOf n)).length ≤ 1
  unfold Body.membersOf
  simpa using hsize

/-! ### A cycle of a ramp -/

/-- A ramp without rounding advances by its step, to the target at most. -/
theorem rampStep_ref {e : Env} {l : Nat} {b : Body} (hround : b.cd .chRampctlRound l = 0) :
    ((b.rampStep e l).en l).ref = min (b.rampTarget l) ((b.en l).ref + rampDelta (b.rate l)) := by
  have hpos : 1 ≤ b.rate l := le_max_left ..
  have hadv : divRound ((rampDelta (b.rate l) * b.rate l : Nat)) ((1 * b.rate l : Nat)) = rampDelta (b.rate l) := by
    unfold divRound
    rw [Nat.one_mul]
    push_cast
    rw [show 2 * ((rampDelta (b.rate l) : Int) * (b.rate l : Int)) + (b.rate l : Int) =
      (b.rate l : Int) + (rampDelta (b.rate l) : Int) * (2 * (b.rate l : Int)) by ring, Int.add_mul_ediv_right _ _ (by omega),
      Int.ediv_eq_zero_of_lt (by omega) (by omega), Int.zero_add]
  have hrate : ∀ rem num den fall, rampRate (b.rate l) (b.cd .chRampctlRound l) rem num den fall = (b.rate l, 1, false) := fun rem num den fall => by
    unfold rampRate
    exact if_pos hround
  unfold Body.rampStep
  extract_lets g tgt rate rr adv ref q b1 b2 done far
  have hrr : rr = (b.rate l, 1, false) := hrate ..
  have hadv' : adv = rampDelta (b.rate l) := by
    unfold adv
    rw [hrr]
    exact hadv
  have href : ref = min (b.rampTarget l) ((b.en l).ref + rampDelta (b.rate l)) := by
    unfold ref
    rw [if_neg (by rw [hrr]; simp), hadv']
  have h1 : (b1.en l).ref = ref := by
    unfold b1
    rw [en_onEng, if_pos rfl]
  have h2 : (b2.en l).ref = ref := by
    unfold b2
    split
    · show (((b1.onEng l fun g => { g with measuring := false }).en l)).ref = ref
      rw [en_onEng, if_pos rfl, ← h1]
    · exact h1
  rw [en_onEng, if_pos rfl]
  exact h2.trans href

theorem rampStep_leaves (e : Env) (l : Nat) (b : Body) : (b.rampStep e l).ch l = b.ch l ∧
    (((b.rampStep e l).en l).epiRun && (b.rampStep e l).overEsoa l l) = ((b.en l).epiRun && b.overEsoa l l) := by
  have hover : ∀ c : Body, c.die = b.die → c.rd .chRshRshNom l = b.rd .chRshRshNom l → (c.en l).epiRun = (b.en l).epiRun →
      (c.en l).episode = (b.en l).episode → ((c.en l).epiRun && c.overEsoa l l) = ((b.en l).epiRun && b.overEsoa l l) := by
    intro c hdie hrsh hrun hepi
    have hcd : c.cd .chEsoaESoa l = b.cd .chEsoaESoa l := by
      unfold Body.cd Body.drd Body.fe
      rw [hdie]
    unfold Body.overEsoa Body.pscaleFine Body.rsh
    rw [hcd, hrsh, hrun, hepi]
  have honEng : ∀ (c : Body) (f : Eng → Eng), (∀ g, (f g).epiRun = g.epiRun ∧ (f g).episode = g.episode) →
      ((c.onEng l f).en l).epiRun = (c.en l).epiRun ∧ ((c.onEng l f).en l).episode = (c.en l).episode := fun c f hf => by
    rw [en_onEng, if_pos rfl]
    exact hf _
  unfold Body.rampStep
  extract_lets g tgt rate rr adv ref q b1 b2 done far
  have h1 : (b1.en l).epiRun = (b.en l).epiRun ∧ (b1.en l).episode = (b.en l).episode := honEng b _ fun _ => ⟨rfl, rfl⟩
  have h2 : b2.ch l = b.ch l ∧ b2.die = b.die ∧ b2.rd .chRshRshNom l = b.rd .chRshRshNom l ∧ (b2.en l).epiRun = (b.en l).epiRun ∧
      (b2.en l).episode = (b.en l).episode := by
    unfold b2
    split
    · obtain ⟨hrun, hepi⟩ := honEng b1 (fun g => { g with measuring := false }) fun _ => ⟨rfl, rfl⟩
      exact ⟨rfl, rfl, rd_wr_fld _ _ _ _ _ _ (by decide), hrun.trans h1.1, hepi.trans h1.2⟩
    · exact ⟨rfl, rfl, rfl, h1⟩
  obtain ⟨hch, hdie, hrsh, hrun, hepi⟩ := h2
  clear_value b2
  obtain ⟨hrun', hepi'⟩ := honEng b2 (fun g =>
    { g with doneSince := if done then some (g.doneSince.getD e.now) else none
             feSince := if far then some (g.feSince.getD e.now) else none }) fun _ => ⟨rfl, rfl⟩
  exact ⟨hch, hover _ hdie hrsh (hrun'.trans hrun) (hepi'.trans hepi)⟩

theorem ramp_leaves {e : Env} {n : Nat} {p q : Bool} {b : Body} (hgate : (b.en n).gate = .driven) (hlead : b.leadOf n = n)
    (hst : (b.ch n).state = .ramp) (hend : (b.en n).rampEnd = false)
    (hover : ((b.en n).epiRun && (b.takeSample e n p q).overEsoa n n) = false) (hbelow : b.targetBelow n = false)
    (hround : b.cd .chRampctlRound n = 0) :
    ((b.loopCycle e n p q).en n).ref = min (b.rampTarget n) ((b.en n).ref + rampDelta (max 1 (b.cd .chRampctlRate n))) := by
  have hramp' : ((readied e n p q b).ch n).eff = .ramp := by
    show (b.ch n).eff = .ramp
    unfold Chan.eff
    rw [if_neg (by rw [hst]; decide), hst]
  have hend' : ((readied e n p q b).en n).rampEnd = false :=
    (takeSample_part e n p q b Eng.rampEnd (fun _ _ _ _ _ _ _ _ => rfl) n).trans hend
  have hdie : (ruled e n p q b).die = (readied e n p q b).die := control_beside Body.die (by exact fun _ _ _ => rfl) n _
  have hcd : ∀ f, f ≠ .feLoopstatDlyMax → (ruled e n p q b).cd f n = b.cd f n := fun f hf => by
    rw [← readied_cd e n p q b f n hf]
    unfold Body.cd Body.drd Body.fe
    rw [hdie]
  have hbus : ((ruled e n p q b).fe (dieOf n)).bus = (b.fe (dieOf n)).bus := by
    have h : (ruled e n p q b).fe (dieOf n) = (readied e n p q b).fe (dieOf n) := by
      unfold Body.fe
      rw [hdie]
    rw [h]
    exact (delayMax_bus ..).1
  have htarget : (ruled e n p q b).rampTarget n = b.rampTarget n := by
    unfold Body.rampTarget
    rw [hcd _ (by decide), hbus]
  have hout : ((ruled e n p q b).en n).out = (b.en n).out :=
    (control_part Eng.out (fun _ _ _ _ _ _ _ _ _ _ => rfl) n (readied e n p q b)).trans
      (takeSample_part e n p q b Eng.out (fun _ _ _ _ _ _ _ _ => rfl) n)
  have href : ((ruled e n p q b).en n).ref = (b.en n).ref :=
    (control_part Eng.ref (fun _ _ _ _ _ _ _ _ _ _ => rfl) n (readied e n p q b)).trans
      (takeSample_part e n p q b Eng.ref (fun _ _ _ _ _ _ _ _ => rfl) n)
  have hbelow' : (ruled e n p q b).targetBelow n = false := by
    unfold Body.targetBelow
    rw [htarget, hcd _ (by decide), hout]
    exact hbelow
  have hturn : rampTurn e n (((readied e n p q b).ch n).eff = .ramp && !((readied e n p q b).en n).rampEnd) (ruled e n p q b) =
      (ruled e n p q b).rampStep e n := by
    unfold rampTurn
    rw [if_neg (by simp [hramp', hend']), if_neg (by simp [hbelow'])]
  obtain ⟨hch, hover'⟩ := rampStep_leaves e n (ruled e n p q b)
  rw [loopCycle_driven hgate hlead, hturn, aboveTurn_stays e n (by rw [hch, ruled_ch, hst]; exact fun h => by cases h),
    overTurn_stays e n (hover'.trans ((ruled_overEsoa ..).trans hover)), (trStep_leaves ..).1 Eng.ref n ⟨fun _ => rfl, fun _ => rfl⟩,
    rampStep_ref ((hcd _ (by decide)).trans hround), htarget, href]
  unfold Body.rate
  rw [hcd _ (by decide)]

/-- Settles O20: a cycle of an idle gate, of a shadow, of a driven channel and of a ramp. -/
theorem loopCycles : Obligations.LoopCycles := by
  intro n p q s hon
  have hbody : (s.onBody fun e b => if b.dieOff (dieOf n) then b else b.loopCycle e n p q).body = (s.body.loopCycle s.env n p q).settle s.env := by
    rw [onBody_body, if_neg (by simp [hon])]
  refine ⟨fun hgate hshadow => ?_, fun hgate hlead hshadow => ?_, fun hgate hlead hramp hpartial hover => ?_,
    fun hgate hlead hst hend hover hbelow hround => ?_⟩ <;> refine runs_onBody (exec_loopCycle n p q s) ?_ <;> rw [hbody, settle_en]
  · exact idle_leaves hgate hshadow
  · obtain ⟨hg, hx, hwin, hsh, hfirst⟩ := shadow_leaves (e := s.env) (p := p) (q := q) hgate hlead hshadow
    rw [settle_twin]
    exact ⟨hg.trans hgate, hx, hwin.1, hwin.2, hsh, hfirst⟩
  · exact steady_leaves hgate hlead hramp hpartial hover
  · exact ramp_leaves hgate hlead hst hend hover hbelow hround

end Sys2Proof.Proofs
end

section
/-!
SUPPORT. A gang of 129 members names its leader's engine twice: a loop cycle counts its time of stall twice (R78, R156 to R164).
-/

namespace Sys2Proof.Proofs

open Sys2Proof Sys2Proof.Machine Sys2Proof.Safety Sys2Proof.Laws

/-! ### The time of stall in a decision -/

theorem control_stallNs (l : Nat) (b : Body) : ∃ d w, ((b.control l).en l).dsel = d ∧
    ((b.control l).en l).stallNs = (((b.membersOf l).foldl (decided d w) b).en l).stallNs := by
  unfold Body.control
  extract_lets i g k rate rr iff r ip ic es enh ds w d sat gang blocked e ki xs nodes b1
  obtain ⟨x, hx⟩ : ∃ x, b1.en l = { b.en l with dsel := d, win := w + 1, stallNs := x } := decided_member d (w + 1) _ b (mem_membersOf b l)
  refine ⟨d, w + 1, ?_, ?_⟩
  · rw [en_onEng, if_pos rfl, hx]
  · rw [en_onEng, if_pos rfl]
    rfl

theorem decided_en (d : Int) (w : Nat) (b : Body) (m j : Nat) (hd : 0 < d) (hvgs : j % 128 = m % 128 → (b.en j).vgs < b.cd .chGstallGsExpect m) :
    ((decided d w b m).en j).vgs = (b.en j).vgs ∧
    ((decided d w b m).en j).stallNs = (b.en j).stallNs + if j % 128 = m % 128 then 800 else 0 := by
  unfold decided
  rw [en_onEng]
  by_cases h : j % 128 = m % 128
  · rw [en_congr b h] at hvgs
    have hlow : ¬b.cd .chGstallGsExpect m ≤ (b.en m).vgs := not_le.2 (hvgs h)
    rw [if_pos h, if_pos h, Body.stall, if_neg (by exact hlow), if_pos hd, en_congr b h]
    exact ⟨rfl, rfl⟩
  · rw [if_neg h, if_neg h]
    exact ⟨rfl, rfl⟩

/-- Every naming of an engine among the members counts its time of stall once more. -/
theorem decided_stallNs (d : Int) (w : Nat) (ms : List Nat) (j : Nat) (hd : 0 < d) (b : Body)
    (hvgs : ∀ m ∈ ms, j % 128 = m % 128 → (b.en j).vgs < b.cd .chGstallGsExpect m) :
    ((ms.foldl (decided d w) b).en j).stallNs = (b.en j).stallNs + 800 * ms.countP fun m => j % 128 = m % 128 := by
  induction ms generalizing b with
  | nil => rfl
  | cons m ms ih =>
    obtain ⟨hv, hs⟩ := decided_en d w b m j hd (hvgs m (List.mem_cons_self ..))
    rw [List.foldl_cons, ih _ fun x hx hjx => ?_, hs, List.countP_cons]
    · simp only [decide_eq_true_eq]
      split <;> omega
    · rw [hv]
      exact hvgs x (List.mem_cons_of_mem _ hx) hjx

/-! ### The state -/

/-- The fields of a die: GS_TIME of every channel is 10 (0.1 ms), and the gate of channel 0 is expected above 0. -/
def stallFields : Sparse :=
  ((List.range 129).map fun m => (fkey .chGstallGsTime m, 10)) ++ [(fkey .chGstallGsExpect 0, 1), (fkey .chGstallGsExpect 128, 1)]

/-- A channel in LIMIT whose gang size names its engine twice, stalled for 98.5 µs. -/
def twiceStalled : State :=
  let b := { Body.reset with
    role := .solo
    regs := [(fkey .chClassGangSize 0, 129)]
    die := Vector.replicate 8 { Body.reset.fe 0 with joined := true, regs := stallFields } }
  { State.reset with
    body := (b.onCh 0 fun c => { c with state := .limit }).onEng 0 fun g =>
      { g with gate := .driven, epiRun := true, episode := 1, stallNs := 98500, vgs := 0, x := List.replicate 5 (2 ^ 100) } }

/-- The state after the sample of the cycle, before its decision. -/
abbrev twiceReady : Body := readied twiceStalled.env 0 false false twiceStalled.body

/-- The state after the decision. -/
abbrev twiceRuled : Body := ruled twiceStalled.env 0 false false twiceStalled.body

theorem twiceReady_drd (k : Nat) (f : Fld) (i : Nat) (hf : f ≠ .feLoopstatDlyMax) : twiceReady.drd k f i = twiceStalled.body.drd k f i := by
  unfold twiceReady readied Body.delayMax
  exact drd_dwr_fld _ _ _ _ _ _ hf

/-- No gain table is filled: the integrators alone make each demand. -/
theorem twiceReady_pushes (j : Nat) (hj : j < 5) (e : Int) : (twiceReady.demand 0 j e).1 = 32767 := by
  have hgain : ∀ i, i < 32 → twiceStalled.body.drd 0 .tablesGainKp i = 0 := by decide +kernel
  have hx : ∀ j < 5, (twiceReady.en 0).x.getD j 0 = 2 ^ 100 := by decide +kernel
  have hsize : ¬(twiceReady.membersOf 0).length ≤ 1 := by decide +kernel
  unfold Body.demand
  rw [if_neg hsize]
  dsimp only
  rw [show dieOf 0 = 0 from rfl, twiceReady_drd _ _ _ (by decide), hgain _ (by unfold gainIndex; omega), hx j hj]
  unfold gainAcc
  rw [Nat.cast_zero, Int.zero_mul]
  decide +kernel

/-- The cycle counts its 800 ns twice, and 0.1 ms is over. -/
theorem twiceRuled_stalls : twiceRuled.stallDue 0 = true := by
  have hdec : Decision twiceReady 0 (twiceRuled.en 0) := control_decides 0 twiceReady
  have hdsel := hdec.pushed twiceReady_pushes
  obtain ⟨d, w, x, sat, fz, xs, nodes, fw, -, -, hkept⟩ := hdec.kept
  have hgate : (twiceRuled.en 0).gate = .driven := by
    rw [hkept]
    show (twiceReady.en 0).gate = .driven
    decide +kernel
  obtain ⟨d', w', hd', hns⟩ := control_stallNs 0 twiceReady
  have hpos : 0 < d' := by
    rw [← hd']
    exact hdsel ▸ (by decide)
  have hexpect : ∀ m ∈ twiceReady.membersOf 0, (0 : Nat) % 128 = m % 128 → (twiceReady.en 0).vgs < twiceReady.cd .chGstallGsExpect m := by
    intro m hm hm0
    have hall : ∀ m ∈ twiceStalled.body.membersOf 0, (0 : Nat) % 128 = m % 128 → 0 < twiceStalled.body.cd .chGstallGsExpect m := by decide +kernel
    have hvgs : (twiceReady.en 0).vgs = 0 := by decide +kernel
    rw [hvgs, Body.cd, twiceReady_drd _ _ _ (by decide)]
    exact hall m hm hm0
  have hcount : 100000 ≤ (twiceReady.en 0).stallNs + 800 * (twiceReady.membersOf 0).countP fun m => (0 : Nat) % 128 = m % 128 := by decide +kernel
  rw [← decided_stallNs d' w' _ 0 hpos twiceReady hexpect, ← hns] at hcount
  have hdie : twiceRuled.die = twiceReady.die := control_beside Body.die (by exact fun _ _ _ => rfl) 0 twiceReady
  have htime : twiceRuled.cd .chGstallGsTime 0 = 10 := by
    have h : twiceRuled.cd .chGstallGsTime 0 = twiceReady.cd .chGstallGsTime 0 := by
      unfold Body.cd Body.drd Body.fe
      rw [hdie]
    rw [h, Body.cd, twiceReady_drd _ _ _ (by decide)]
    decide +kernel
  unfold Body.stallDue
  rw [hgate, htime]
  simpa using (show 100000 ≤ (twiceRuled.en 0).stallNs from hcount)

theorem twiceRuled_firstTrip : twiceRuled.firstTrip 0 0x12 = 0x16 := by
  unfold Body.firstTrip
  have hany : (twiceRuled.membersOf 0).any twiceRuled.stallDue = true := List.any_eq_true.2 ⟨0, mem_membersOf .., twiceRuled_stalls⟩
  rw [if_pos (by rw [hany]; decide)]

theorem twiceRuled_reports : ReportsNow twiceRuled 0 := by
  have hdie : twiceRuled.die = twiceReady.die := control_beside Body.die (by exact fun _ _ _ => rfl) 0 twiceReady
  have hfe : ∀ k, twiceRuled.fe k = twiceReady.fe k := fun k => by
    unfold Body.fe
    rw [hdie]
  have horch : twiceRuled.orch = twiceReady.orch := control_beside Body.orch (by exact fun _ _ _ => rfl) 0 twiceReady
  have hlead : twiceRuled.leadOf 0 = twiceReady.leadOf 0 := control_beside (fun c => c.leadOf 0) (by exact fun _ _ _ => rfl) 0 twiceReady
  refine ⟨horch.trans (by decide +kernel), ?_, ?_, hlead.trans (by decide +kernel)⟩
  · rw [hfe]
    decide +kernel
  · rw [hfe]
    decide +kernel

/-- The cycle trips the channel for the stall, not for its energy. -/
theorem twiceStalled_trips : Tripped twiceRuled 0 0x16 (twiceRuled.dieTrip twiceStalled.env 0 0x12) := by
  have hlatch : (twiceRuled.en 0).tripLatch = false :=
    (control_part Eng.tripLatch (fun _ _ _ _ _ _ _ _ _ _ => rfl) 0 twiceReady).trans (by decide +kernel)
  have hst : (twiceRuled.ch 0).state = .limit := by
    rw [ruled_ch]
    decide +kernel
  have htrip := dieTrip_trips (e := twiceStalled.env) (n := 0) (r := 0x12) twiceRuled_reports twiceRuled_reports.lead hlatch
  rw [twiceRuled_firstTrip] at htrip
  exact htrip (by rw [hst]; decide) (by rw [hst]; decide) (by decide) (by decide)

/-- Refutes O22: the gang size is read as it stands, 129 members here, so the time of stall of channel 0 counts 800 ns twice in the cycle
whose energy exceeds E_SOA, and the stall is due first. -/
theorem not_dieTrips : ¬ Obligations.DieTrips := by
  intro h
  have hreports : Reports twiceStalled.body 0 :=
    ⟨by decide +kernel, by decide +kernel, by decide +kernel, show twiceStalled.body.leadOf _ = _ by decide +kernel⟩
  obtain ⟨-, -, hcycle, -⟩ := h 0 0 twiceStalled (by decide +kernel) hreports (by decide +kernel) (by decide +kernel) (by decide +kernel)
  have hgate : (twiceStalled.body.en 0).gate = .driven := by decide +kernel
  have hlead : twiceStalled.body.leadOf 0 = 0 := by decide +kernel
  have hover : ((twiceStalled.body.en 0).epiRun && (twiceStalled.body.takeSample twiceStalled.env 0 false false).overEsoa 0 0) = true := by
    decide +kernel
  obtain ⟨t, hexec, htrip⟩ := hcycle false false rfl hgate (by decide +kernel) (by decide +kernel) (by decide +kernel) (by decide +kernel)
  have hloop : twiceStalled.body.loopCycle twiceStalled.env 0 false false = (twiceRuled.dieTrip twiceStalled.env 0 0x12).trStep twiceStalled.env 0 := by
    have hturn : rampTurn twiceStalled.env 0 ((twiceReady.ch 0).eff = .ramp && !(twiceReady.en 0).rampEnd) twiceRuled = twiceRuled :=
      if_pos (by decide +kernel)
    have hst : (twiceRuled.ch 0).state ≠ .on := by
      rw [ruled_ch]
      decide +kernel
    rw [loopCycle_driven hgate hlead, hturn, aboveTurn_stays _ _ fun hon => absurd hon hst, overTurn,
      if_pos ((ruled_overEsoa ..).trans hover)]
  have hreason : t.body.rd .chLastTripTripReason 0 = 0x16 := by
    obtain rfl := Host.Outcome.next.inj ((exec_loopCycle 0 false false twiceStalled).symm.trans hexec)
    rw [onBody_body, if_neg (by decide +kernel), settle_rd _ _ _ _ rfl]
    exact (congrArg (fun c : Body => c.rd .chLastTripTripReason 0) hloop).trans
      (((trStep_leaves ..).2.2 _ _ rfl).trans twiceStalled_trips.1)
  have hsaid := htrip.1
  rw [hreason] at hsaid
  exact absurd hsaid (by decide)

end Sys2Proof.Proofs
end
